-- ==== Sys2Proof/Word.lean ====
section
/-! DEFINITION. Words: the byte, the 4,096-bit sheaf, byte strings read as numbers in both byte orders (R12: the
part's own structures are little-endian; frame fields are big-endian). -/
namespace Sys2Proof

/-- One byte. -/
abbrev Byte := BitVec 8

/-- The sheaf of a packet: 4,096 bits (R82). -/
abbrev Sheaf := BitVec 4096

end Sys2Proof
end

