-- ==== Sys2Proof/Syntax.lean ====
section
/-! DEFINITION. The commands of the block: one constructor of `Instr` for each row of the table of operations and
events, with the row's operands. What an operand may be is checked in WellFormed. -/
namespace Sys2Proof

/-- The four originator classes (R385), in the order of dict.rights. -/
inductive OrigClass where
  | hostA | hostB | bmc | net
  deriving DecidableEq, Repr

/-- Who sent an access (R385, R395): a host port, an MCTP endpoint on a binding, a UDP address and port on a
management port. -/
inductive Source where
  | host (hp : Fin 2)
  | mctp (binding : Fin 3) (eid : Nat)
  | udp (m : Fin 2) (addr : Nat) (port : Nat)
  deriving DecidableEq, Repr

/-- Output pins of the package (R290, R482). -/
inductive Pin where
  | tsout0 | tsout1 | thermtripN | flResetN
  deriving DecidableEq, Repr

/-- Operand B of a stage instruction (R135): an immediate, or a field of the sheaf at an offset. -/
inductive Operand where
  | imm (v : Fin 134217728)
  | field (off : Fin 4096)
  deriving DecidableEq, Repr

/-- The stage operations that write a destination (R135, Table 3). -/
inductive AluOp where
  | mov | add | sub | subs | and | or | xor | shl | shr | min | max
  deriving DecidableEq, Repr

/-- The skip conditions (R135, Table 3). -/
inductive SkipOp where
  | eq | ne | lt | ge
  deriving DecidableEq, Repr

/-- What a management port sends (R409, R413). -/
inductive MgmtTx where
  /-- A frame and its code-groups. -/
  | raw (bytes : List Byte) (codes : List (BitVec 10))
  /-- An auto-negotiation word, and the link timer in µs (R406). -/
  | config (word : BitVec 16) (timer : Nat)
  deriving DecidableEq, Repr

/-- How a reception of bytes ends: the rest of the frame follows, the frame has ended, or it was cut short (R54, R69). -/
inductive RxEnd where
  | more | ended | truncated
  deriving DecidableEq, Repr

/-- How a frame fares on its Rouri link: it crosses, it is beyond a reduced capacity, or so many of its flits fail their
CRC (R62, R63). -/
inductive RouriWay where
  | ok | overrun
  | crcFail (flits : Nat)
  deriving DecidableEq, Repr

/-- How a drift check ends: within the limit, retrained, or retrained in vain (R232). -/
inductive DriftWay where
  | steady | retrained | failed
  deriving DecidableEq, Repr

/-- How a selected packet fares: well, its cells are uncorrectable, the link behind it is, or an egress stage finds a parity
error in its sheaf or registers (R168, R169, R503). With `listBad k` the list is
damaged k places behind the head, 0 at the head itself. -/
inductive ReadWay where
  | ok | cellBad
  | listBad (k : Nat)
  | parity (stage : Fin 8)
  deriving DecidableEq, Repr

/-- A word of scheduler, shaper, policer or flow-control state: V, F and H of a tier of a port, a queue's or a port's
shaper, a policer, a pause timer, or a port's cell count of a pool (R506). -/
inductive StateWord where
  | tier (p : Fin 1041) (t : Fin 4)
  | qShaper (n : Fin 16656)
  | pShaper (p : Fin 1041)
  | policer (i : Fin 65536)
  | pause (p : Fin 1024) (prio : Fin 8)
  | held (p : Fin 1024) (pool : Fin 8)
  deriving DecidableEq, Repr

/-- A counter word: an element that is a counter, a word of a port's statistics, a policer's counter, a queue's energy, a
histogram bin, or an entry of the flow tally (R507). -/
inductive CounterWord where
  | element (obj : Fin 65536) (el : Fin 256)
  | stat (p : Fin 1041) (w : Fin 31)
  | policer (i : Fin 65536) (w : Fin 4)
  | energy (n : Fin 16384)
  | bin (i : Fin 1081344)
  | tally (place : Fin 4194304)
  deriving DecidableEq, Repr

/-- How a frame fares on its way to the line: well, a cell of it reads uncorrectable, or its flits on the core-to-tile
link fail their CRC (R62, R168). -/
inductive TxWay where
  | ok | cellBad
  | crcFail (flits : Nat)
  deriving DecidableEq, Repr

/-- The link-loss conditions of an up port (R57, Table 7); a loss of signal names the lane of the port. -/
inductive LinkCond where
  | los (lane : Fin 8)
  | lock | ser | localFault | remoteFault
  deriving DecidableEq, Repr

/-- What an adaptation run leaves in one lane: the CTLE code, the signal-to-noise ratio, the 24 FFE and the one
decision-feedback coefficients, and the taps of the transmit FIR that the partner asked for, two bytes each (R43, R44, R66,
log 19). -/
structure LaneEq where
  ctle : Fin 37
  snr : Fin 65536
  coefs : List Byte
  fir : List Byte
  deriving DecidableEq, Repr

/-- What stops a record of a table block: its write check or its acknowledgement fails in a unit (R123, Table 7), or the host
aborts the staged set while the record runs (R155, log 134). -/
inductive TblStop where
  | writeEcc (unit : Fin 256)
  | timeout (unit : Fin 256)
  | hostAbort
  deriving DecidableEq, Repr

/-- The record of a table block, by its index, at which something stops the block. -/
structure TblFault where
  record : Fin 256
  stop : TblStop
  deriving DecidableEq, Repr

/-- How the read of a bale fares (R222): the bursts that were corrected, how many were good on the second read, and
the bursts that stayed uncorrectable. -/
structure BaleWay where
  corrected : List (Fin 256)
  retried : Nat
  bad : List (Fin 256)
  deriving DecidableEq, Repr

/-- A burst of the granary: its stack, its segment and its place in the segment. -/
structure BurstAt where
  st : Fin 16
  seg : Fin 131072
  burst : Fin 2048
  deriving DecidableEq, Repr

/-- What an uncorrectable burst outside the spill region held: a telemetry record by its number, the staged bundle, the
staged images, or a crash record by its number (R222, R503). -/
inductive RegionHit where
  | telemetry (n : Nat)
  | bundle
  | images
  | crash (n : Nat)
  deriving DecidableEq, Repr

/-- What a patrol scrub pass meets (R208, R222, R223): the bursts it corrected, how many were good on the second read, those that
stayed uncorrectable, the tags that it read back where they matter, and what the bad bursts outside the spill region held. -/
structure ScrubWay where
  corrected : List BurstAt
  retried : Nat
  bad : List BurstAt
  tags : List (BurstAt × BitVec 16)
  hits : List RegionHit
  deriving DecidableEq, Repr

/-- What the board programs into the boot flash while PORST_N holds the part: the images, and the bytes at the start of the two
boot record sectors, none where it leaves a sector erased (R430, R434). -/
structure Reflash where
  images : List (Fin 3 × List Byte)
  sec0 : List Byte
  sec1 : List Byte
  deriving DecidableEq, Repr

/-- A step of the reload of a microcontroller: it begins, or does so for an uncorrectable word of its memory (R503), the core runs
again, or the load has failed (R451). -/
inductive ReloadWay where
  | begins | memory | runs | fails
  deriving DecidableEq, Repr

/-- Who sent an MCTP control message: its EID, the message tag, its 7-bit address on SMBus, and whether the packet's PEC is
wrong there (R415, R416). -/
structure MctpFrom where
  eid : Fin 256
  tag : Fin 8
  addr : Fin 128
  pecBad : Bool
  deriving DecidableEq, Repr

/-- How the words that a lookup reads fare: good, one of them corrected, or one of them uncorrectable. Of the words that the
lookup reads in turn, `bad k` names the k-th: the four candidate rows and the stash, the short and the long store, or the
group, its slot, the member and its next hop (R127, R136, R504, R505; the naming is log 133's). -/
inductive LookWay where
  | ok | corrected
  | bad (k : Fin 32768)
  deriving DecidableEq, Repr

/-- How a lookup of a whole ingress pass fares: of the k-th packet that passes the gate, at a stage and a slot (R93, R127). -/
structure LookAt where
  pkt : Fin 4
  stage : Fin 12
  slot : Fin 64
  way : LookWay
  deriving DecidableEq, Repr

/-- How a DMA read completes: with its bytes, or poisoned, or with Unsupported Request or Completer Abort (R372). -/
inductive ReadEnd where
  | ok (bytes : List Byte)
  | poisoned
  | urCa
  deriving DecidableEq, Repr

/-- The response to a page request (R340). -/
inductive PriCode where
  | success | invalid | failure
  deriving DecidableEq, Repr

/-- The link and TLP errors of a host port (R341, Table 7); a completion in error names the queue that reads. `correctable` names
a receiver error, a bad TLP, a bad DLLP, a replay rollover or a replay timeout; `urCa` a Completer Abort, an unexpected
completion or an Unsupported Request; `fatal` a data link protocol error, a flow control protocol error, a receiver overflow or
a malformed TLP. -/
inductive PcieErr where
  | correctable (k : Fin 5)
  | poisonedWrite
  | poisonedCompletion (q : Fin 2048)
  | timeout (q : Fin 2048)
  | urCa (k : Fin 3) (q : Option (Fin 2048))
  | ecrc (q : Option (Fin 2048))
  | fatal (k : Fin 4) (retrained : Bool)
  | surpriseDown
  deriving DecidableEq, Repr

/-- Why a host port leaves its active state, but for the heartbeat (R344, Table 8). -/
inductive HostLossCause where
  | link | perst | hotReset | flr | bme | d3hot
  deriving DecidableEq, Repr

/-- What resets a host port (R342). -/
inductive HostReset where
  | perst | hotReset | flr
  deriving DecidableEq, Repr

/-- What a host sets in a port's configuration space when it returns (R330, R331, R340, R341, R343, R346, log 13): among it the
bases of BAR0 and BAR2, the outstanding page requests it grants, ECRC generation and checking, and in the AER registers the
uncorrectable errors whose severity is fatal, the masks, and the status bits that it clears by writing 1. -/
structure HostCfg where
  rate : Fin 6
  width : Fin 9
  bme : Bool
  d0 : Bool
  mps : Nat
  mrrs : Nat
  relaxed : Bool
  msixOn : Bool
  msixMask : Bool
  ats : Bool
  pri : Bool
  priMax : Nat
  bar0 : Nat
  bar2 : Nat
  ecrcGen : Bool
  ecrcCheck : Bool
  aerSev : BitVec 32
  aerCorMask : BitVec 32
  aerUncMask : BitVec 32
  aerCorClr : BitVec 32
  aerUncClr : BitVec 32
  deriving DecidableEq, Repr


/-- A bank word that the scrub found uncorrectable in one copy or in both (R504). -/
structure BankWord where
  pipe : Fin 16
  bank : Fin 2
  sect : Fin 128
  index : Fin 65536
  both : Bool
  deriving DecidableEq, Repr

/-- The contents that have a shadow copy (R505); `port` says a port shaper. -/
inductive ShadowUnit where
  | winnow (pipe : Fin 16) (rule : Fin 8192)
  | tcam (entry : Fin 32768)
  | mcList (group : Fin 65536)
  | policer (i : Fin 65536)
  | qShaper (n : Fin 16656)
  | pShaper (p : Fin 1041)
  deriving DecidableEq, Repr

/-- An owner of energy (R471, Table 6). -/
inductive EnergyOwner where
  | port (p : Fin 1024)
  | queue (n : Fin 16384)
  | pipe (n : Fin 16)
  | device
  deriving DecidableEq, Repr

/-- What a PMBus read of a rail brings: READ_EOUT, the energy it has accumulated in nJ, with READ_VOUT in mV and READ_IOUT in mA;
no answer; or a method that the regulator does not support (R459). -/
inductive RailRead where
  | answer (eout mV mA : Nat)
  | noAnswer
  | unsupported
  deriving DecidableEq, Repr


/-- What a read names (R333, R384, R390): an element for an originator, or a BAR0 offset of a host port. -/
inductive ReadAt where
  | el (src : Source) (obj : Fin 65536) (el : Fin 256)
  | bar0 (p : Fin 2) (off size : Nat)
  | bar2 (p : Fin 2) (off size : Nat)
  | cfg (p : Fin 2) (dword : Fin 1024)
  deriving DecidableEq, Repr
/-- The commands: one constructor per row of the table of operations and events. -/
inductive Instr where
  /-- A front-panel port receives a frame: the tile decodes FEC, checks the FCS and length, timestamps it and
      carries it over the Rouri link into the pipeline's arrival buffer (R24). -/
  | frameReceive (p : Fin 1024) (ph : Fin 6) (bytes : List Byte) (e : RxEnd) (fecBad : Bool) (w : RouriWay)
  /-- The tail of a frame whose parse started early arrives, carrying its length, FCS and length status to the
      traffic manager (R69). -/
  | frameTailArrive (p : Fin 1024) (bytes : List Byte) (e : RxEnd) (fecBad : Bool) (w : RouriWay)
  /-- The ingress arbiter accepts a waiting packet from a tile port, the recirculation port or CPU injection into
      a free pipeline slot (R30). -/
  | arbiterAccept (n : Fin 16) (ecc : Bool)
  /-- Once min(L minus 4, D) bytes of an accepted packet have arrived, the Thresher stamps the epoch bit, loads
      the intrinsic metadata and starts the parse (R69). -/
  | thresherStart (n : Fin 16)
  /-- The cost gate passes waiting packets to ingress stage 0 in order, as many as fit in a cost sum of 4 per
      clock (R93). -/
  | costGatePass (n : Fin 16) (fetch : Bool) (parity : Option (Fin 12)) (looks : List LookAt)
  /-- The instruction does nothing (R135). -/
  | opNop (n : Fin 16)
  /-- The instruction ends the stage's program for the packet (R135). -/
  | opEnd (n : Fin 16)
  /-- The instruction writes operand B to the destination field (R135). -/
  | opMov (n : Fin 16) (dst : Fin 4096) (w : Fin 64) (b : Operand)
  /-- The instruction writes A plus B modulo 2^w to the destination (R135). -/
  | opAdd (n : Fin 16) (dst : Fin 4096) (w : Fin 64) (a : Fin 4096) (b : Operand)
  /-- The instruction writes A minus B modulo 2^w to the destination (R135). -/
  | opSub (n : Fin 16) (dst : Fin 4096) (w : Fin 64) (a : Fin 4096) (b : Operand)
  /-- The instruction writes A minus B, or 0 when A is less than B (R135). -/
  | opSubs (n : Fin 16) (dst : Fin 4096) (w : Fin 64) (a : Fin 4096) (b : Operand)
  /-- The instruction writes the bitwise AND of A and B (R135). -/
  | opAnd (n : Fin 16) (dst : Fin 4096) (w : Fin 64) (a : Fin 4096) (b : Operand)
  /-- The instruction writes the bitwise OR of A and B (R135). -/
  | opOr (n : Fin 16) (dst : Fin 4096) (w : Fin 64) (a : Fin 4096) (b : Operand)
  /-- The instruction writes the bitwise XOR of A and B (R135). -/
  | opXor (n : Fin 16) (dst : Fin 4096) (w : Fin 64) (a : Fin 4096) (b : Operand)
  /-- The instruction writes A shifted left by B mod 64 (R135). -/
  | opShl (n : Fin 16) (dst : Fin 4096) (w : Fin 64) (a : Fin 4096) (b : Operand)
  /-- The instruction writes A shifted right by B mod 64 (R135). -/
  | opShr (n : Fin 16) (dst : Fin 4096) (w : Fin 64) (a : Fin 4096) (b : Operand)
  /-- The instruction writes the unsigned minimum of A and B (R135). -/
  | opMin (n : Fin 16) (dst : Fin 4096) (w : Fin 64) (a : Fin 4096) (b : Operand)
  /-- The instruction writes the unsigned maximum of A and B (R135). -/
  | opMax (n : Fin 16) (dst : Fin 4096) (w : Fin 64) (a : Fin 4096) (b : Operand)
  /-- When A equals B the next k instructions do not run (R135). -/
  | opSkeq (n : Fin 16) (k : Fin 64) (w : Fin 64) (a : Fin 4096) (b : Operand)
  /-- When A differs from B the next k instructions do not run (R135). -/
  | opSkne (n : Fin 16) (k : Fin 64) (w : Fin 64) (a : Fin 4096) (b : Operand)
  /-- When A is less than B the next k instructions do not run (R135). -/
  | opSklt (n : Fin 16) (k : Fin 64) (w : Fin 64) (a : Fin 4096) (b : Operand)
  /-- When A is at least B the next k instructions do not run (R135). -/
  | opSkge (n : Fin 16) (k : Fin 64) (w : Fin 64) (a : Fin 4096) (b : Operand)
  /-- The instruction writes operand B into a decision field, truncated to its width (R138). -/
  | opMset (n : Fin 16) (k : Fin 64) (w : Fin 64) (b : Operand)
  /-- The instruction copies a decision field into the destination (R138). -/
  | opMget (n : Fin 16) (dst : Fin 4096) (w : Fin 64) (k : Fin 64)
  /-- The instruction looks up the exact-match table and writes the result and status (R101). -/
  | opLkem (n : Fin 16) (dst : Fin 4096) (prof : Fin 256) (tab : Fin 64) (w : Fin 4) (way : LookWay)
  /-- The instruction performs an IPv4 longest-prefix match lookup (R107). -/
  | opLklpm4 (n : Fin 16) (dst : Fin 4096) (prof : Fin 256) (way : LookWay)
  /-- The instruction performs an IPv6 longest-prefix match lookup over both stores (R107). -/
  | opLklpm6 (n : Fin 16) (dst : Fin 4096) (prof : Fin 256) (way : LookWay)
  /-- The instruction reads a next-hop entry by index (R109). -/
  | opLknh (n : Fin 16) (dst : Fin 4096) (a : Fin 4096) (way : LookWay)
  /-- The instruction resolves a load-balancing group member from a hash value, with failover probes when enabled
      (R111). -/
  | opLkgrp (n : Fin 16) (dst : Fin 4096) (a : Fin 4096) (hp : Fin 16) (way : LookWay)
  /-- The instruction computes a 32-bit CRC or Toeplitz hash of a key profile's key (R97). -/
  | opHash (n : Fin 16) (dst : Fin 4096) (hp : Fin 16)
  /-- The instruction queries the pipeline's Winnow range classifier (R116). -/
  | opWin (n : Fin 16) (dst : Fin 4096) (prof : Fin 256) (way : LookWay)
  /-- The instruction queries the privileged TCAM through the pipeline's admission bucket, or returns not
      performed (R119). -/
  | opTcam (n : Fin 16) (dst : Fin 4096) (prof : Fin 256) (flag : Bool) (way : LookWay)
  /-- The instruction reads the local source MAC or encapsulation table by index (R137). -/
  | opLkix (n : Fin 16) (dst : Fin 4096) (w : Fin 64) (a : Fin 4096) (encap : Bool) (way : LookWay)
  /-- When a packet's last cell is written, the pool manager admits, spills, pushes out for, or drops it, and
      replicates a multicast packet (R173). -/
  | packetAdmit (n : Fin 16)
  /-- A queued priority flow-control frame is transmitted ahead of data once the frame in transmission ends
      (R176). -/
  | pfcFrameSend (p : Fin 1024)
  /-- While XOFF holds, half of pfc_quanta times 512 bit times passes and XOFF is sent again (R176). -/
  | pfcRefreshTimer (p : Fin 1024) (prio : Fin 8)
  /-- A received priority flow-control frame on a port with pfc_rx 1 sets or ends pause timers for its priorities
      (R177). -/
  | pfcFrameReceive (p : Fin 1024) (bytes : List Byte)
  /-- A priority's pause timer runs out and its lossless queues may start frames again (R177). -/
  | pauseTimerExpire (p : Fin 1024) (prio : Fin 8)
  /-- A port asking for a selection has its scheduler pick a queue by launch tier, strict tier, fair queueing and
      shapers, and charge it (R242). -/
  | schedSelect (n : Fin 16) (fetch : Bool) (w : ReadWay) (bad : List StateWord)
  /-- The egress MAC starts the frame on the line, applies one-step, transparent-clock and IOAM updates, adds or
      stomps the FCS (R24). -/
  | frameTransmit (p : Fin 1024) (ph : Fin 6) (w : TxWay)
  /-- A held launch frame starts when its base reaches its launch time (R287). -/
  | launchRelease (p : Fin 1024) (ph : Fin 6)
  /-- A frame's transmission ends: latency, histograms, postcards, transmit-timestamp entry and cell release
      follow (R284). -/
  | frameTxEnd (p : Fin 1024) (bad : List CounterWord)
  /-- Every 1 ms the head of a held, paused or launch-waiting queue is checked and aged packets are dropped
      (R189). -/
  | ageCheckTimer
  /-- The down-hold time of a down port expires and every queue of the port is flushed (R188). -/
  | downHoldExpire (p : Fin 1024)
  /-- A port's flush completes and its queues are empty (R188). -/
  | flushDone (p : Fin 1024)
  /-- buf.audit.period elapses and a buffer audit starts (R167). -/
  | auditPeriod
  /-- A new value in buf.audit.seq requests an audit (R167). -/
  | auditRequest (src : Source) (seq : Fin 4294967296)
  /-- An audit ends, returning unmarked quarantined cells and reclaiming leaks and unreachable bales (R167). -/
  | auditDone
  /-- The multicast command replaces a group's list (R181). -/
  | mcSet (src : Source) (group : Fin 65536) (list : List Byte) (seq : Fin 4294967296)
  /-- The multicast command returns a group's list in mc.list (R181). -/
  | mcRead (src : Source) (group : Fin 65536) (seq : Fin 4294967296)
  /-- The multicast command empties a group (R181). -/
  | mcClear (src : Source) (group : Fin 65536) (seq : Fin 4294967296)
  /-- A write of 1 to port.admin checks the configuration and starts bring-up, powering the tile on if needed
      (R50). -/
  | portAdminUp (src : Source) (p : Fin 1024)
  /-- A write of 0 to port.admin stops the port, powers its lanes down and flushes its queues (R56). -/
  | portAdminDown (src : Source) (p : Fin 1024)
  /-- Every lane of a port in step 1 detects signal and the port moves to auto-negotiation or training (R55). -/
  | signalDetect (p : Fin 1024)
  /-- Clause 73 auto-negotiation resolves, moving on or failing with ability mismatch (R52). -/
  | anComplete (p : Fin 1024) (theirs : Nat)
  /-- Auto-negotiation has not completed 0.5 s after it began and the step fails with reason 11 (R52). -/
  | anTimeout (p : Fin 1024)
  /-- Link training completes on every lane and the port moves to alignment (R52). -/
  | ltComplete (p : Fin 1024) (eqs : List LaneEq)
  /-- Training has not completed 5 s after it began and the step fails with reason 8 (R56). -/
  | trainingTimeout (p : Fin 1024)
  /-- A C2M port's receiver adaptation converges or reaches 300 ms and step 4 follows (R55). -/
  | c2mAdaptDone (p : Fin 1024) (eqs : List LaneEq)
  /-- FEC lock, lane alignment and deskew are reached and the up debounce starts (R55). -/
  | alignmentLock (p : Fin 1024)
  /-- Alignment is not reached 2 ms after step 3 and the step fails with reason 9 (R56). -/
  | alignmentTimeout (p : Fin 1024)
  /-- Alignment holds for port.debounce.up and the port comes up with a port-up event (R55). -/
  | portDebounceUp (p : Fin 1024)
  /-- The 100 ms idle wait after a failed step ends and bring-up restarts (R56). -/
  | portRetryTimer (p : Fin 1024)
  /-- A link-loss condition is detected on an up port and the down debounce starts (R57). -/
  | linkFaultDetect (p : Fin 1024) (c : LinkCond)
  /-- A link-loss condition clears before the down debounce ends and the port stays up (R58). -/
  | linkFaultClear (p : Fin 1024) (c : LinkCond)
  /-- A link-loss condition persists for port.debounce.down and the port goes down, holding its queues and
      triggering failover (R58). -/
  | portDownDebounce (p : Fin 1024)
  /-- At each second, a port whose corrected codewords exceed port.fec.degrade_limit raises an event (R67). -/
  | fecDegradeCheck (p : Fin 1024) (corrected uncorrected : Nat) (symbols : List Nat)
  /-- A write of tile.reach is refused while a port is up or changes the mode and the seeds lanes will load (R42).
      -/
  | tileReachWrite (src : Source) (t : Fin 16) (reach : Fin 256)
  /-- A write of 1 to lane.adapt.restart re-adapts the lane's equalisers on an up port (R44). -/
  | laneAdaptRestart (src : Source) (lane : Fin 1024)
  /-- A re-adaptation run completes within 200 ms (R44). -/
  | laneAdaptDone (n : Fin 1024) (e : LaneEq)
  /-- A write of 1 to tile.seed.save copies the equaliser seeds of up lanes into tile.seed.store (R47). -/
  | tileSeedSave (src : Source) (t : Fin 16)
  /-- A Rouri wire is declared failing, erased, and repaired onto a spare or re-striped, taking ports down below
      16 wires (R61). -/
  | rouriWireFail (t : Fin 16) (dir : Fin 2) (w : Fin 256)
  /-- The spare switch or re-stripe completes and the repair event or capacity alarm is raised (R61). -/
  | rouriRepairDone (t : Fin 16) (dir : Fin 2)
  /-- A tile microcontroller misses its heartbeat for 100 ms and the firmware reloads it (R424). -/
  | tileMcuHeartbeatMiss (t : Fin 16) (memory : Bool)
  /-- A tile microcontroller is reloaded while lanes hold their coefficients and read frozen (R46). -/
  | tileMcuReload (t : Fin 16)
  /-- A tile reload completes, background adaptation resumes and waiting ports start negotiation (R46). -/
  | tileMcuReloadDone (t : Fin 16) (ok : Bool)
  /-- The table command inserts a record, with displacement or stash placement for exact-match (R103). -/
  | tblInsert (q : Fin 2048) (h : Nat) (recs : List Nat) (f : Option TblFault)
  /-- The table command changes an entry's result, staging a copy under NEXT (R121). -/
  | tblModify (q : Fin 2048) (h : Nat) (recs : List Nat) (f : Option TblFault)
  /-- The table command removes an entry or clears its next-epoch bit, then tries stash move-back (R121). -/
  | tblDelete (q : Fin 2048) (h : Nat) (recs : List Nat) (f : Option TblFault)
  /-- The table command READ returns entries and hit bits, clearing them with clear_hit (R105). -/
  | tblRead (q : Fin 2048) (h : Nat) (recs : List Nat)
  /-- The table command creates a load-balancing group and allocates an aligned slot block (R110). -/
  | groupCreate (q : Fin 2048) (h : Nat) (recs : List Nat) (f : Option TblFault)
  /-- The table command deletes a load-balancing group (R110). -/
  | groupDelete (q : Fin 2048) (h : Nat) (recs : List Nat) (f : Option TblFault)
  /-- The table command adds a member and, in managed mode, reassigns slots to it (R114). -/
  | memberAdd (q : Fin 2048) (h : Nat) (recs : List Nat) (f : Option TblFault)
  /-- The table command removes a member and, in managed mode, redistributes its slots (R114). -/
  | memberRemove (q : Fin 2048) (h : Nat) (recs : List Nat) (f : Option TblFault)
  /-- The table command writes slots of an explicit-mode group (R114). -/
  | slotWrite (q : Fin 2048) (h : Nat) (recs : List Nat) (f : Option TblFault)
  /-- After a flip's ingress drain, the table engine deletes stale entries and makes staged entries visible in
      both epochs (R122). -/
  | visibilitySettlement
  /-- Settlement completes, tbl.settling reads 0 and waiting NEXT blocks resume (R151). -/
  | settlementDone
  /-- A barn word found uncorrectable is repaired from a peer barn within 1 ms (R127). -/
  | barnPeerRepair (k : Fin 4)
  /-- A scrub pass compares every barn word with its peers and repairs mismatches by majority (R127). -/
  | barnScrubPass (k : Fin 4) (corrected repaired ms : Nat)
  /-- A write of prog.stage.chunk places bundle bytes at prog.stage.offset and advances it (R144). -/
  | progStageChunk (src : Source) (bytes : List Byte)
  /-- A new prog.load.seq starts a load, checking the whole bundle against R143 (R144). -/
  | progLoad (src : Source) (seq : Fin 4294967296)
  /-- Once every named idle bank is free of packets, the loader writes and verifies the image (R145). -/
  | progLoadWrite
  /-- A load ends with OK, INVALID or WRITE_ECC, recopying a bank that failed read-back (R146). -/
  | progLoadDone (failed : Fin 65536)
  /-- A write of 1 to prog.load.discard replaces every loaded idle bank with a copy of the active image (R146). -/
  | progLoadDiscard (src : Source)
  /-- A new epoch.flip.seq starts a flip, checked at once for NOT_READY or ABORTED (R151). -/
  | epochFlip (src : Source) (seq : Fin 4294967296)
  /-- When spacing, settlement and valid banks allow, the flip collects pipeline and barn acknowledgements (R151).
      -/
  | flipAckWait
  /-- A barn fails to acknowledge within 100 µs; the flip ends with TIMEOUT and aborts the staged set (R151). -/
  | flipAckTimeout (k : Fin 4)
  /-- At clock T the epoch counter advances, every Thresher stamps the new bit, epoch-class writes and the profile
      apply (R152). -/
  | flipCommit
  /-- The last old-bit packet leaves its ingress pass, recording epoch.drain.ns and starting settlement (R149). -/
  | ingressDrainEnd (ns : Nat)
  /-- The last packet holding the old bank leaves and the bank is released (R145). -/
  | bankRelease (n : Fin 16)
  /-- epoch.release.limit expires with packets still holding the old bank, which is released and those packets
      marked (R150). -/
  | epochReleaseLimit
  /-- A released bank whose image differs is recopied from the active image (R153). -/
  | bankCopy (n : Fin 16)
  /-- The bank copy completes and the idle bank reads valid (R153). -/
  | bankCopyDone (n : Fin 16)
  /-- The staged set is aborted by a host write, a failing NEXT record or a flip timeout, and undo begins (R155).
      -/
  | stageAbort (src : Source)
  /-- The undo completes, epoch.stage.state reads aborted and the cause is recorded (R155). -/
  | stageAbortDone
  /-- A write of 1 to epoch.stage.reset in state aborted opens an empty staged set (R155). -/
  | stageReset (src : Source)
  /-- 2 µs after its first record an open bale closes (R214). -/
  | baleCloseTimer (n : Fin 16384)
  /-- A bale's write to the granary completes and its slack cells are freed (R213). -/
  | baleWriteDone (b : Nat)
  /-- A written bale entering a queue's return window is read back (R215). -/
  | baleReturnRead
  /-- A returned bale's records are checked and linked on-die as kind-0 descriptors, moving the queue's spill
      state on (R215). -/
  | baleReturnDone (n : Fin 16384) (b : Nat) (w : BaleWay)
  /-- The patrol scrub reads every granary burst each gran.scrub.period and writes back corrected ones (R223). -/
  | granaryScrubPass (w : ScrubWay) (minutes : Nat)
  /-- A segment is declared failing and its copy to a reserve segment begins (R224). -/
  | segmentFailDeclare (st : Fin 16) (seg : Fin 131072)
  /-- At t0 plus 1 ms the remap entry takes effect and hPPR may follow (R224). -/
  | segmentRemap (st : Fin 16) (seg : Fin 131072)
  /-- hPPR and its test end, copying data back or keeping the remap (R224). -/
  | hpprDone (st : Fin 16) (seg : Fin 131072) (ok : Bool)
  /-- A stack's refresh-rate indication leaves or returns within range, stopping or resuming allocation on it
      (R226). -/
  | stackTempAlarm (st : Fin 16) (hot : Bool)
  /-- A stack retirement is accepted and its live bales are copied away (R227). -/
  | stackRetire (src : Source) (stack : Fin 256)
  /-- The drain limit expires or the copy ends, and the stack enters deep power-down as retired (R227). -/
  | retireDrainEnd (st : Fin 16)
  /-- A write of 1 to gstack.unretire returns the stack to training at the next cold reset (R228). -/
  | stackUnretire (src : Source) (stack : Fin 16)
  /-- Every 100 ms each channel checks its DQS oscillator and retrains when drift exceeds the limit (R232). -/
  | driftCheck (st : Fin 16) (ch : Fin 4) (way : DriftWay)
  /-- Granary start-up ends and gran.state is set (R230). -/
  | granaryTrainingDone (failed : Fin 65536)
  /-- gran.state leaves 0 and the on-die telemetry store is copied into the telemetry region (R313). -/
  | telStoreMigrate
  /-- A timing-wheel slot is reached and its shaper entries are released into contention (R251). -/
  | wheelRelease (n : Fin 16)
  /-- The wheel passes slot 0 and overflow entries within the coming revolution move into their slots (R251). -/
  | wheelOverflowMove (n : Fin 16)
  /-- The policer command sets a policer's configuration and resets its eligibility time (R257). -/
  | polSet (src : Source) (index : Fin 65536) (cfg : BitVec 64) (seq : Fin 4294967296)
  /-- The policer command returns a policer's configuration and counters (R257). -/
  | polRead (src : Source) (index : Fin 65536) (seq : Fin 4294967296)
  /-- The policer command zeroes a policer's four counters (R257). -/
  | polClearCounters (src : Source) (index : Fin 65536) (seq : Fin 4294967296)
  /-- A write of tb.step adds its value to the base (R275). -/
  | tbStep (src : Source) (b : Fin 8) (step : BitVec 64)
  /-- A write of tb.time.set sets the base to its value (R275). -/
  | tbTimeSet (src : Source) (b : Fin 8) (time : BitVec 96)
  /-- A write of tb.rate.set sets the rate word in manual mode (R269). -/
  | tbRateSet (src : Source) (b : Fin 8) (rate : BitVec 64)
  /-- An offset is taken by the servo, which steps or slews the base and updates its state (R270). -/
  | tbOffset (src : Source) (b : Fin 8) (offset : BitVec 64)
  /-- A write of 1 to tb.master.new moves the servo to ACQUIRING and clears its counts (R273). -/
  | tbMasterNew (src : Source) (b : Fin 8)
  /-- A write of tb.servo.mode switches the servo between hardware and manual (R271). -/
  | tbServoMode (src : Source) (b : Fin 8) (mode : Fin 256)
  /-- No offset for tb.holdover.ms moves the servo to HOLDOVER with ρ at R_f (R272). -/
  | tbHoldoverTimeout (b : Fin 8)
  /-- Hourly while LOCKED, ρ is written to tb.rate.saved (R274). -/
  | tbRateSave (b : Fin 8)
  /-- A selected edge on a capture input is timestamped and queued, or becomes a servo offset (R291). -/
  | captureEdge (c : Fin 2) (ph : Fin 6) (rising : Bool)
  /-- A read of cap0.pop or cap1.pop removes and returns the oldest capture (R291). -/
  | capPop (src : Source) (c : Fin 2)
  /-- A scheduled PPS or periodic leading edge is driven on a pulse output (R292). -/
  | pulseEdge (c : Fin 2)
  /-- A read of TXTS_POP removes the oldest transmit-timestamp entry and fills TXTS_HOLD (R285). -/
  | txtsPop (p : Fin 2) (n : Fin 16) (ecc : Bool)
  /-- Every tally.idle_s the tally table is swept and idle flows are exported and freed (R304). -/
  | tallyIdleSweep
  /-- A write of tally.snapshot starts exporting every entry of the named barns (R304). -/
  | tallySnapshot (src : Source) (barn : Fin 256)
  /-- The snapshot writes its last record and its status reads OK (R304). -/
  | tallySnapshotDone
  /-- A write of tally.clear frees the named barns' entries without export, ending a running snapshot as CLEARED
      (R305). -/
  | tallyClear (src : Source) (barn : Fin 256)
  /-- A write of 1 to eq.hist.clear zeroes a queue's histograms and records the time (R301). -/
  | histClear (src : Source) (q : Fin 16384)
  /-- A write of p to tel.hist.clear_port zeroes port p's latency histogram (R301). -/
  | histClearPort (src : Source) (p : Fin 65536)
  /-- A write of 1 to tel.wrap.clear clears the selected counter's wrap bit (R320). -/
  | wrapClear (src : Source)
  /-- A write of perf.sel or perf.enable zeroes every counter whose selection or enable changes (R322). -/
  | perfConfigWrite (src : Source) (b : Fin 64) (enable : Bool) (v : BitVec 64)
  /-- Every glean.period_us the Gleaner reads all banks into a snapshot buffer, or counts a missed sweep (R323).
      -/
  | gleanerSweep
  /-- A UDP stream's export packet leaves when n records are ready or 100 µs after its first record (R314). -/
  | streamExport (n : Fin 8)
  /-- A write of HL_HEARTBEAT restarts the port's heartbeat timer (R344). -/
  | hlHeartbeat (p : Fin 2)
  /-- The heartbeat timer expires and the host is declared lost with reason 7 (R344). -/
  | heartbeatTimeout (p : Fin 2)
  /-- A W1C write of EVT_CAUSE clears cause bits, re-arming their MSI-X messages (R336). -/
  | evtCauseClear (p : Fin 2) (m : Nat)
  /-- The vector command binds a vector to a queue on a port (R337). -/
  | vecBind (src : Source) (port : Fin 256) (q vector : Fin 65536) (seq : Fin 4294967296)
  /-- The vector command frees the vector bound to a queue on a port (R337). -/
  | vecUnbind (src : Source) (port : Fin 256) (q : Fin 65536) (seq : Fin 4294967296)
  /-- The vector command returns a queue's bound vector (R337). -/
  | vecRead (src : Source) (port : Fin 256) (q : Fin 65536) (seq : Fin 4294967296)
  /-- A BAR0 request of an unaccepted size or alignment completes as Unsupported Request or is discarded, and
      counted (R334). -/
  | bar0BadAccess (p : Fin 2) (rd : Bool)
  /-- A 4-byte BAR2 write at a queue's offset updates its producer index or is discarded or found malformed
      (R357). -/
  | doorbell (p : Fin 2) (off size v : Nat)
  /-- An ATS invalidation request is received and completed after covered accesses are issued (R339). -/
  | atsInvalidate (p : Fin 2) (tag page n : Nat)
  /-- A page request response resumes the queue, errors it, or stops page requests on the port (R340). -/
  | priResponse (p : Fin 2) (q : Fin 2048) (c : PriCode)
  /-- A link or TLP error is reported through AER with its effect on the part (R341). -/
  | pcieError (p : Fin 2) (e : PcieErr)
  /-- A host port leaves state 1 on link failure, reset, FLR, BME clear or D3hot, freezing its queues (R345). -/
  | hostLoss (p : Fin 2) (c : HostLossCause)
  /-- PERST, hot reset or FLR resets only the port's configuration space, registers, MSI-X table and translations
      (R342). -/
  | hostPortReset (p : Fin 2) (r : HostReset)
  /-- Every condition of host state 1 holds again and the port returns to active (R346). -/
  | hostReturn (p : Fin 2) (c : HostCfg)
  /-- The queue operation enables a queue on port A from its context (R374). -/
  | dqEnableA (src : Source) (q : Fin 2048)
  /-- The queue operation enables a queue on port B from its context (R374). -/
  | dqEnableB (src : Source) (q : Fin 2048)
  /-- The queue operation stops a queue, completing its item in progress (R374). -/
  | dqDisable (src : Source) (q : Fin 2048)
  /-- The queue operation stops a queue, abandoning everything in progress (R374). -/
  | dqReset (src : Source) (q : Fin 2048)
  /-- The queue operation resumes a frozen queue from its kept indices (R374). -/
  | dqResume (src : Source) (q : Fin 2048)
  /-- The queue operation re-homes a queue to port A with indices reset (R374). -/
  | dqRehomeA (src : Source) (q : Fin 2048)
  /-- The queue operation re-homes a queue to port B with indices reset (R374). -/
  | dqRehomeB (src : Source) (q : Fin 2048)
  /-- A stopping queue finishes or abandons its work and reads disabled (R375). -/
  | dqStopDone (q : Fin 2048)
  /-- The DMA engine moves one slice of the highest-priority queue with work, completing items and writing
      completion entries (R370). -/
  | dmaSlice (xl : Option Nat) (ecc : List (Fin 2048))
  /-- A completion for a DMA read arrives, delivering data or erroring the queue (R372). -/
  | dmaReadCompletion (q : Fin 2048) (ctx : Bool) (r : ReadEnd) (f : Option TblFault)
  /-- A read gets no completion within dma.cpl_timeout_ms and its queue enters the error state (R372). -/
  | dmaCplTimeout (q : Fin 2048) (ctx : Bool)
  /-- A stalled queue reads its completion head word again every 2 µs (R359). -/
  | cqHeadPoll (q : Fin 2048) (xl : Option Nat)
  /-- coal_us passes since the first unsignalled completion and the queue's vector is sent (R366). -/
  | coalTimer (q : Fin 2048)
  /-- 100 µs after its first record a telemetry-drain buffer completes (R369). -/
  | drainBufferTimer (q : Fin 2048)
  /-- An injected packet is delivered to its pipeline's inject buffer when room exists (R361). -/
  | injectDeliver (q : Fin 2048)
  /-- A write of MBX_CMD with go 1 submits the request in MBX_DATA (R393). -/
  | mailboxSubmit (p : Fin 2) (len : Fin 4096)
  /-- A BAR0 direct-window write to an element with no row of its own is checked and applied (R390). -/
  | directWindowWrite (p : Fin 2) (off size v : Nat)
  /-- The operation returns an element's last accepted value (R384). -/
  | read (a : ReadAt)
  /-- The operation writes an element, or adds it to the session batch (R383). -/
  | write (src : Source) (sid o : Fin 65536) (e : Fin 256) (bytes : List Byte)
  /-- The operation returns an element's value in force (R384). -/
  | readInForce (src : Source) (o : Fin 65536) (e : Fin 256)
  /-- The operation returns part of a str or blob from an offset (R392). -/
  | readPart (src : Source) (o : Fin 65536) (e : Fin 256) (off : Fin 4294967296)
  /-- The operation adds a segment of a str or blob to the session batch (R395). -/
  | writePart (src : Source) (sid o : Fin 65536) (e : Fin 256) (off : Fin 4294967296) (bytes : List Byte)
  /-- The operation returns an element's type, access, commit, rights, range, default and name (R392). -/
  | describe (src : Source) (o : Fin 65536) (e : Fin 256)
  /-- The operation returns the lowest existing object at or above the one named (R392). -/
  | nextObject (src : Source) (o : Fin 65536)
  /-- The operation opens a session for the originator (R395). -/
  | sessionOpen (src : Source)
  /-- The operation checks and applies the session batch all or nothing (R395). -/
  | sessionCommit (src : Source) (sid tag : Fin 65536)
  /-- The operation discards a session (R395). -/
  | sessionDiscard (src : Source) (sid : Fin 65536)
  /-- No message names a session for dict.session.timeout_s and it ends (R395). -/
  | sessionTimeout (sid : Fin 65536)
  /-- 10 s after a command's result is ready its claim ends (R396). -/
  | commandClaimExpire (o : Fin 65536) (e : Fin 256)
  /-- When the token bucket holds its cost, a generation of pending values is written to both store copies (R398).
      -/
  | cfgGenerationWrite
  /-- A new cfgs.sync.seq flushes every pending value to the store (R401). -/
  | cfgSync (src : Source) (seq : Fin 4294967296)
  /-- A write of 1 to cfgs.clear removes every operator value at the next cold reset (R401). -/
  | cfgClear (src : Source)
  /-- A management port receives a frame and hands it to ARP, neighbour discovery, ICMP, DHCP, LLDP or UDP, or
      discards it (R407). -/
  | mgmtFrameReceive (m : Fin 2) (bytes : List Byte) (cg : Nat)
  /-- A management port gains synchronisation and completes auto-negotiation, coming up (R407). -/
  | mportLinkUp (m : Fin 2) (speed : Fin 4) (ctle : Fin 16) (half : Bool)
  /-- A management port loses synchronisation or link and goes down with a notice (R407). -/
  | mportLinkDown (m : Fin 2) (sync : Bool)
  /-- A DHCP lease expires without renewal, removing the address and restarting discovery (R409). -/
  | dhcpLeaseExpire (m : Fin 2)
  /-- Every 10 s the client starts discovery again (R409). -/
  | dhcpDiscoverRetry (m : Fin 2)
  /-- Duplicate address detection ends, marking the address in use or duplicate (R409). -/
  | dadComplete (m : Fin 2) (which : Fin 2) (dup : Bool)
  /-- A Tuiley request arrives by UDP and runs, is answered from the kept response, or is discarded (R410). -/
  | udpRequest (m : Fin 2) (addr : BitVec 128) (port : Fin 65536) (bytes : List Byte) (frag sumBad : Bool)
  /-- Every net.lldp.interval seconds a management port sends an LLDPDU (R413). -/
  | lldpTxTimer (m : Fin 2)
  /-- A received LLDPDU updates or clears mport.lldp.neighbor and raises a notice (R413). -/
  | lldpReceive (m : Fin 2) (bytes : List Byte)
  /-- A neighbour's TTL expires and its TLVs are cleared (R413). -/
  | lldpTtlExpire (m : Fin 2)
  /-- An ENTDAA or SETDASA gives the I3C interface a dynamic address and switches it to I3C (R415). -/
  | i3cAddressAssign (addr : Fin 128) (daa : Bool)
  /-- RSTDAA removes the binding's EID and starts announcements (R418). -/
  | i3cRstdaa
  /-- A reassembled MCTP vendor-defined message carrying a Tuiley request runs or is discarded (R417). The packets are those on
  the line: with their MCTP headers, on SMBus the block writes from the address to the PEC. -/
  | mctpTuileyMessage (b : Fin 3) (packets : List (List Byte))
  /-- The control command sets or resets the binding's EID (R418). -/
  | setEndpointId (b : Fin 3) (sender : MctpFrom) (inst : Fin 32) (op : Fin 4) (eid : Fin 256)
  /-- The control command returns the binding's EID (R416). -/
  | getEndpointId (b : Fin 3) (sender : MctpFrom) (inst : Fin 32)
  /-- The control command returns the endpoint UUID (R416). -/
  | getEndpointUuid (b : Fin 3) (sender : MctpFrom) (inst : Fin 32)
  /-- The control command returns supported MCTP versions (R416). -/
  | getMctpVersionSupport (b : Fin 3) (sender : MctpFrom) (inst : Fin 32) (typ : Fin 256)
  /-- The control command returns supported message types (R416). -/
  | getMessageTypeSupport (b : Fin 3) (sender : MctpFrom) (inst : Fin 32)
  /-- The control command Get Vendor Defined Message Support returns vendor message support (R416). -/
  | getVendorMessageSupport (b : Fin 3) (sender : MctpFrom) (inst : Fin 32) (selector : Fin 256)
  /-- The control command clears a PCIe binding's EID and starts announcements (R418). -/
  | prepareForEndpointDiscovery (b : Fin 3) (sender : MctpFrom) (inst : Fin 32)
  /-- The control command answers endpoint discovery (R416). -/
  | endpointDiscovery (b : Fin 3) (sender : MctpFrom) (inst : Fin 32)
  /-- Any other MCTP control command is refused with ERROR_UNSUPPORTED_CMD (R416). -/
  | unsupportedControlCmd (b : Fin 3) (sender : MctpFrom) (inst : Fin 32) (cmd : Fin 256)
  /-- A binding without an EID announces itself to the bus owner on its repeat schedule (R418). -/
  | eidAnnounceTimer (b : Fin 3)
  /-- A write of fw.stage.chunk stages image bytes, checking the header and taking session ownership (R436). -/
  | fwStageChunk (src : Source) (bytes : List Byte)
  /-- The update operation erases, programs and verifies the target slot (R439). -/
  | fwWriteSlot (src : Source) (seq : Fin 4294967296)
  /-- A slot write ends with the target written or WRITE_FAIL (R439). -/
  | fwSlotWriteDone (ok : Bool)
  /-- The update operation writes a trial record and starts a management restart (R439). -/
  | fwActivateNow (src : Source) (seq : Fin 4294967296)
  /-- The update operation writes a trial record taking effect at the next cold reset (R439). -/
  | fwActivateNext (src : Source) (seq : Fin 4294967296)
  /-- The update operation ends the session and discards the staged copy (R438). -/
  | fwAbort (src : Source) (seq : Fin 4294967296)
  /-- No chunk or command from the owner for 120 s ends the update session (R438). -/
  | fwSessionTimeout
  /-- A write of 1 to fw.confirm confirms a healthy trial image, blowing anti-rollback fuses (R441). -/
  | fwConfirm (src : Source)
  /-- Under policy 0 a trial image healthy for 30 s confirms itself (R440). -/
  | fwSelfConfirm (spoil : Fin 129)
  /-- The confirm window expires unconfirmed and the part reverts with a management restart (R441). -/
  | fwWindowExpire
  /-- The boot ROM chooses, checks and starts an image, advancing trial attempts or reverting (R432). -/
  | bootRom
  /-- In hold, the boot ROM repeats boot every 10 s (R434). -/
  | bootHoldRetry
  /-- The main-processor watchdog expires and a management restart starts with cause 5 (R425). -/
  | watchdogExpire
  /-- A core takes a fatal processor error and a management restart starts with cause 8 (R425). -/
  | processorFatal
  /-- A management restart resets the main processor cluster while forwarding continues (R446). -/
  | mgmtRestart (src : Source) (seq : Fin 4294967296)
  /-- The restart ends, HL_STATUS.restarting reads 0 and life.mgmt_restarts increments (R446). -/
  | mgmtRestartDone (spoil : Fin 129)
  /-- The power controller is reloaded within 5 ms with actuators held and the trip armed (R424). -/
  | pctlReload (way : ReloadWay)
  /-- The granary microcontroller is reloaded while spill, return, refresh and ECC continue (R233). -/
  | gmcuReload (way : ReloadWay)
  /-- Flash supply and power-fail input stay clear for 10 ms and a waiting flash operation starts (R444). -/
  | flashInhibitClear
  /-- The early power-fail input is asserted and new flash programs and erases are held off (R533). -/
  | pfailAssert
  /-- Every 1 ms the cap loop sets the shedding level from measured and predicted power (R461). -/
  | capStep (preds : List Nat)
  /-- Every 1 ms the part reads each PMBus rail and attributes the energy to owners (R459). -/
  | railRead (flashMv : Fin 65536) (reads : List RailRead)
  /-- Every 10 ms the thermal loop raises or releases thermal_level from the hottest sensor (R481). -/
  | thermalStep
  /-- Every 100 µs each temperature sensor is sampled (R479). -/
  | sensorSample (temps : List (BitVec 16))
  /-- Every 10 s the monitors report slack and the adaptive point of each rail is trimmed (R476). -/
  | ageingReport (slacks : List (BitVec 16))
  /-- A supply falls below its loss threshold and the domain is isolated with its effect (R455). -/
  | supplyLoss (dm : Fin 24)
  /-- A domain's supply becomes good and the power controller turns the domain on (R454). -/
  | supplyGood (dm : Fin 24)
  /-- A tile idle for pwr.tile.idle_off seconds is switched off (R456). -/
  | tileIdleOff (t : Fin 16)
  /-- PORST_N is asserted, holding every domain in reset and ending every reset in progress (R489). -/
  | porstAssert (lowNs : Nat)
  /-- Power-good starts the part from nothing through the start-up steps (R495). -/
  | coldReset (flash : Option Reflash) (fuseBad : Bool) (straps : Fin 16)
  /-- The root PLL locks to the reference input (R495). -/
  | rootPllLock
  /-- A write of 1 to reset.warm.arm arms a full warm reset for 10 s (R490). -/
  | warmArm (src : Source)
  /-- A new reset.warm.seq while armed resets D1 to D23 and restarts them (R490). -/
  | warmReset (src : Source) (seq : Fin 4294967296) (straps : Fin 16)
  /-- A new reset.pipe.seq stops and re-initialises the logic of the named pipelines (R492). -/
  | pipeReset (src : Source) (mask : BitVec 16) (seq : Fin 4294967296)
  /-- At t0 plus 40 µs the arbiter and schedulers resume and reset.pipe.status reads OK (R493). -/
  | pipeResetDone
  /-- The reference input stops or leaves its limits and the root PLL enters holdover (R508). -/
  | refClockFault (idleNs : Nat) (ppm : Int)
  /-- The reference returns within limits and the root PLL relocks by slewing (R508). -/
  | refClockReturn
  /-- Every 10 ms the program banks are scrubbed and bad copies rewritten (R503). -/
  | bankScrub (words : List BankWord)
  /-- Every 1 s shadow copies are scrubbed and live words repaired or entries invalidated (R505). -/
  | shadowScrub (units : List (ShadowUnit × Bool))
  /-- Each second every fatal condition is checked and its err.fatal bit set while it holds (R509). -/
  | fatalCheck
  /-- A write of 1 to an err.fatal bit clears it (R509). -/
  | fatalClear (src : Source) (mask : BitVec 64)
  /-- A watchdog, processor fatal error, fatal bit or host request writes a crash record (R510). -/
  | crashCapture (src : Source)
  /-- A new err.crash.seq reads the crash record named in err.crash.index (R510). -/
  | crashRead (src : Source) (index : BitVec 64) (seq : Fin 4294967296)
  /-- Every 1 s each resource's utilisation and exhaustion state is computed, with notices (R515). -/
  | exhaustCheck
  /-- Each powered hour updates life.power_on_h and the equivalent hours of service life (R514). -/
  | lifeHour
  /-- A write to a dictionary element with no row of its own is checked and takes effect under its commit class
      (R383). -/
  | elementWrite (src : Source) (o : Fin 65536) (e : Fin 256) (bytes : List Byte)
  /-- At about 0.8 s after a cold or full warm reset the main firmware runs: it reads the configuration store,
      applies stored values, remaps and retirements, sets gran.state, sets HL_STATUS.fw_running, loads the tile
      microcontrollers and processes a latched trip (R495). -/
  | mainFirmwareRuns (hurt : List (Fin 2 × Fin 32 × Option Nat)) (spoil : Fin 129)
  /-- The width of a PPS or periodic pulse runs out and the pulse output returns to its inactive level (R292). -/
  | pulseTrailingEdge (c : Fin 2)
  /-- The DHCP client's renewal time of a lease arrives and the client sends a request to renew the lease under
      RFC 2131 (R409). -/
  | dhcpRenewal (m : Fin 2)
  /-- Background scrubbing of the shared-buffer cells, links, descriptors and reference counts corrects errors and
      detects uncorrectable words (R168). -/
  | bufferScrub (corrected uncorrectable : Nat) (breaks : List (Fin 16656 × Nat))
  /-- 10 s after a write of 1 to reset.warm.arm, the arming of the full warm reset lapses (R490). -/
  | warmArmExpire
  deriving DecidableEq, Repr

end Sys2Proof
end

