-- ==== Sys2Proof/Machine/DictTypes.lean ====
section
/-! DEFINITION. What a row of an object table says of an element (R380 to R383). -/
namespace Sys2Proof.Machine

/-- Element types (R380, Table 4). -/
inductive ETy where
  | bool | u8 | u16 | u32 | u64 | s32 | s64 | time | enum | bitset | str | blob
  deriving DecidableEq, Repr

/-- Access classes (R381): read only; read and write; write only; persistent read and write; fuse, read only. -/
inductive EAcc where
  | ro | rw | wo | rwp | fuse
  deriving DecidableEq, Repr

/-- Commit classes (R383): when an accepted value comes into force. -/
inductive ECom where
  | now | epoch | restart | boot
  deriving DecidableEq, Repr

/-- A row: `reps` objects from `obj` on hold it, and in each the elements el .. el + els - 1. Values lo .. hi, and
those of `also`; for a bit set `hi` is the mask of defined bits; for a string or blob lo .. hi is the length. -/
structure DictRow where
  obj : Nat
  reps : Nat
  el : Nat
  els : Nat
  name : String
  ty : ETy
  acc : EAcc
  com : ECom
  lo : Int
  hi : Int
  also : List Int
  dflt : Nat
  deriving DecidableEq, Repr

end Sys2Proof.Machine
end

