-- ==== Sys2Proof/Machine/DictTable.lean ====
section
/-! DEFINITION. The rows of the spec's object tables (R36, R65-R67, R89, R128-R130, R159, R191-R196, R234-R236,
R259-R263, R294-R297, R325-R327, R348, R377, R378, R402, R403, R421, R422, R448-R451, R484-R486, R499, R517), in
ascending object and element. A row's numeric default is 0 where the spec gives a fuse, a strap, a profile value, a
value by index or none: `Dict.dflt` decides those. -/
namespace Sys2Proof.Machine

/-- Rows 0 onwards of the object tables. -/
def Dict.rows0 : List DictRow := [
  ⟨0x0000, 1, 0x00, 1, "dict.elements", .u8, .ro, .now, 0, 255, [], 5⟩,
  ⟨0x0000, 1, 0x01, 1, "dict.version", .u16, .ro, .now, 0, 65535, [], 1⟩,
  ⟨0x0000, 1, 0x02, 1, "dict.objects", .u16, .ro, .now, 0, 65535, [], 0⟩,
  ⟨0x0000, 1, 0x03, 1, "dict.direct.status_a", .u64, .ro, .now, 0, 18446744073709551615, [], 0⟩,
  ⟨0x0000, 1, 0x04, 1, "dict.direct.status_b", .u64, .ro, .now, 0, 18446744073709551615, [], 0⟩,
  ⟨0x0000, 1, 0x05, 1, "dict.mbx.discards", .u64, .ro, .now, 0, 18446744073709551615, [], 0⟩,
  ⟨0x0001, 1, 0x00, 1, "dict.session.elements", .u8, .ro, .now, 0, 255, [], 6⟩,
  ⟨0x0001, 1, 0x01, 1, "dict.session.timeout_s", .u16, .rwp, .now, 1, 600, [], 10⟩,
  ⟨0x0001, 1, 0x02, 1, "dict.session.open", .u8, .ro, .now, 0, 16, [], 0⟩,
  ⟨0x0001, 1, 0x03, 4, "dict.session.last", .u64, .ro, .now, 0, 18446744073709551615, [], 0⟩,
  ⟨0x0002, 1, 0x00, 1, "dict.rights.elements", .u8, .ro, .now, 0, 255, [], 4⟩,
  ⟨0x0002, 1, 0x01, 4, "dict.rights", .bitset, .rwp, .now, 0, 1048575, [], 1048575⟩,
  ⟨0x0003, 1, 0x00, 1, "cfgs.elements", .u8, .ro, .now, 0, 255, [], 10⟩,
  ⟨0x0003, 1, 0x01, 1, "cfgs.generation", .u64, .ro, .now, 0, 18446744073709551615, [], 0⟩,
  ⟨0x0003, 1, 0x02, 1, "cfgs.tokens", .u16, .ro, .now, 0, 65535, [], 600⟩,
  ⟨0x0003, 1, 0x03, 1, "cfgs.pending", .u32, .ro, .now, 0, 4294967295, [], 0⟩,
  ⟨0x0003, 1, 0x04, 1, "cfgs.live_bytes", .u32, .ro, .now, 0, 4294967295, [], 0⟩,
  ⟨0x0003, 1, 0x05, 1, "cfgs.capacity", .u32, .ro, .now, 0, 4294967295, [], 2097152⟩,
  ⟨0x0003, 1, 0x06, 1, "cfgs.sync.seq", .u32, .rw, .now, 0, 4294967295, [], 0⟩,
  ⟨0x0003, 1, 0x07, 1, "cfgs.sync.status", .enum, .ro, .now, 0, 1, [], 0⟩,
  ⟨0x0003, 1, 0x08, 1, "cfgs.erase_max", .u32, .ro, .now, 0, 4294967295, [], 0⟩,
  ⟨0x0003, 1, 0x09, 1, "cfgs.clear", .bool, .wo, .boot, 0, 1, [], 0⟩,
  ⟨0x0003, 1, 0x0A, 1, "cfgs.copy_repairs", .u32, .ro, .now, 0, 4294967295, [], 0⟩,
  ⟨0x0100, 1, 0x00, 1, "id.elements", .u8, .ro, .now, 0, 255, [], 6⟩,
  ⟨0x0100, 1, 0x01, 1, "id.device", .u16, .ro, .now, 0, 65535, [], 516⟩,
  ⟨0x0100, 1, 0x02, 1, "id.revision", .u8, .ro, .now, 0, 255, [], 161⟩,
  ⟨0x0100, 1, 0x03, 1, "id.serial", .u64, .ro, .now, 0, 18446744073709551615, [], 0⟩,
  ⟨0x0100, 1, 0x04, 1, "id.ordering", .str, .ro, .now, 0, 255, [], 0⟩,
  ⟨0x0100, 1, 0x05, 1, "id.customer", .u64, .fuse, .now, 0, 18446744073709551615, [], 0⟩,
  ⟨0x0100, 1, 0x06, 1, "id.asset", .str, .rwp, .now, 0, 64, [], 0⟩,
  ⟨0x0101, 1, 0x00, 1, "life.elements", .u8, .ro, .now, 0, 255, [], 4⟩,
  ⟨0x0101, 1, 0x01, 1, "life.uptime_s", .u64, .ro, .now, 0, 18446744073709551615, [], 0⟩,
  ⟨0x0101, 1, 0x02, 1, "life.power_on_h", .u32, .ro, .now, 0, 4294967295, [], 0⟩,
  ⟨0x0101, 1, 0x03, 1, "life.cold_resets", .u32, .ro, .now, 0, 4294967295, [], 0⟩,
  ⟨0x0101, 1, 0x04, 1, "life.mgmt_restarts", .u32, .ro, .now, 0, 4294967295, [], 0⟩,
  ⟨0x0102, 1, 0x00, 1, "clk.elements", .u8, .ro, .now, 0, 255, [], 2⟩]

/-- Rows 36 onwards of the object tables. -/
def Dict.rows1 : List DictRow := [
  ⟨0x0102, 1, 0x01, 1, "clk.root_locked", .bool, .ro, .now, 0, 1, [], 0⟩,
  ⟨0x0102, 1, 0x02, 1, "clk.ref_faults", .u32, .ro, .now, 0, 4294967295, [], 0⟩,
  ⟨0x0103, 1, 0x00, 1, "reset.elements", .u8, .ro, .now, 0, 255, [], 9⟩,
  ⟨0x0103, 1, 0x01, 1, "reset.last_kind", .enum, .ro, .now, 0, 3, [], 0⟩,
  ⟨0x0103, 1, 0x02, 1, "reset.warm.arm", .bool, .wo, .now, 0, 1, [], 0⟩,
  ⟨0x0103, 1, 0x03, 1, "reset.warm.seq", .u32, .rw, .now, 0, 4294967295, [], 0⟩,
  ⟨0x0103, 1, 0x04, 1, "reset.pipe.mask", .u16, .rw, .now, 0, 65535, [], 0⟩,
  ⟨0x0103, 1, 0x05, 1, "reset.pipe.seq", .u32, .rw, .now, 0, 4294967295, [], 0⟩,
  ⟨0x0103, 1, 0x06, 1, "reset.pipe.status", .enum, .ro, .now, 0, 3, [], 0⟩,
  ⟨0x0103, 1, 0x07, 1, "reset.pipe.count", .u32, .ro, .now, 0, 4294967295, [], 0⟩,
  ⟨0x0103, 1, 0x08, 1, "reset.pipe.last_ns", .u32, .ro, .now, 0, 4294967295, [], 0⟩,
  ⟨0x0103, 1, 0x09, 1, "reset.milestones", .blob, .ro, .now, 0, 16, [], 0⟩,
  ⟨0x0140, 1, 0x00, 1, "dev.profile.elements", .u8, .ro, .now, 0, 255, [], 4⟩,
  ⟨0x0140, 1, 0x01, 1, "dev.profile.select", .enum, .rwp, .epoch, 0, 2, [], 0⟩,
  ⟨0x0140, 1, 0x02, 1, "dev.profile.active", .enum, .ro, .now, 0, 2, [], 0⟩,
  ⟨0x0140, 1, 0x03, 1, "dev.profile.clear_overrides", .bool, .wo, .epoch, 0, 1, [], 0⟩,
  ⟨0x0140, 1, 0x04, 1, "dev.profile.overrides", .u32, .ro, .now, 0, 4294967295, [], 0⟩,
  ⟨0x0180, 16, 0x00, 1, "tile.elements", .u8, .ro, .now, 0, 255, [], 15⟩,
  ⟨0x0180, 16, 0x01, 1, "tile.reach", .enum, .rwp, .now, 0, 1, [], 1⟩,
  ⟨0x0180, 16, 0x02, 1, "tile.mcu.state", .enum, .ro, .now, 0, 2, [], 0⟩,
  ⟨0x0180, 16, 0x03, 1, "tile.pll.nrz", .bool, .ro, .now, 0, 1, [], 0⟩,
  ⟨0x0180, 16, 0x04, 1, "tile.rouri.t2c.spares", .u8, .ro, .now, 0, 255, [], 0⟩,
  ⟨0x0180, 16, 0x05, 1, "tile.rouri.c2t.spares", .u8, .ro, .now, 0, 255, [], 0⟩,
  ⟨0x0180, 16, 0x06, 1, "tile.rouri.t2c.lost", .u16, .ro, .now, 0, 65535, [], 0⟩,
  ⟨0x0180, 16, 0x07, 1, "tile.rouri.c2t.lost", .u16, .ro, .now, 0, 65535, [], 0⟩,
  ⟨0x0180, 16, 0x08, 1, "tile.rouri.t2c.capacity", .u32, .ro, .now, 0, 4294967295, [], 12800⟩,
  ⟨0x0180, 16, 0x09, 1, "tile.rouri.c2t.capacity", .u32, .ro, .now, 0, 4294967295, [], 12800⟩,
  ⟨0x0180, 16, 0x0A, 1, "tile.rouri.repairs", .u32, .ro, .now, 0, 4294967295, [], 0⟩,
  ⟨0x0180, 16, 0x0B, 1, "tile.rouri.crc_drops", .u64, .ro, .now, 0, 18446744073709551615, [], 0⟩,
  ⟨0x0180, 16, 0x0C, 1, "tile.rouri.overrun", .u64, .ro, .now, 0, 18446744073709551615, [], 0⟩,
  ⟨0x0180, 16, 0x0D, 1, "tile.seed.save", .bool, .wo, .now, 0, 1, [], 0⟩,
  ⟨0x0180, 16, 0x0E, 1, "tile.seed.store", .blob, .rwp, .restart, 0, 65535, [], 0⟩,
  ⟨0x0180, 16, 0x0F, 1, "tile.lane_power", .u32, .ro, .now, 0, 4294967295, [], 320⟩,
  ⟨0x0200, 1, 0x00, 1, "pwr.elements", .u8, .ro, .now, 0, 255, [], 17⟩,
  ⟨0x0200, 1, 0x01, 1, "pwr.cap.w", .u16, .rwp, .now, 300, 1100, [], 1100⟩,
  ⟨0x0200, 1, 0x02, 1, "pwr.now.mw", .u32, .ro, .now, 0, 4294967295, [], 0⟩]

/-- Rows 72 onwards of the object tables. -/
def Dict.rows2 : List DictRow := [
  ⟨0x0200, 1, 0x03, 1, "pwr.window.mw", .u32, .ro, .now, 0, 4294967295, [], 0⟩,
  ⟨0x0200, 1, 0x04, 1, "pwr.shed.level", .u8, .ro, .now, 0, 255, [], 0⟩,
  ⟨0x0200, 1, 0x05, 1, "pwr.shed.cause", .enum, .ro, .now, 0, 3, [], 0⟩,
  ⟨0x0200, 1, 0x06, 1, "pwr.shed.pc_floor", .u32, .rwp, .now, 0, 500, [], 125⟩,
  ⟨0x0200, 1, 0x07, 1, "pwr.shed.spill_floor", .u32, .rwp, .now, 0, 1600, [], 800⟩,
  ⟨0x0200, 1, 0x08, 1, "pwr.shed.max_level", .u8, .rwp, .now, 0, 17, [], 17⟩,
  ⟨0x0200, 1, 0x09, 1, "pwr.cap.unmet", .bool, .ro, .now, 0, 1, [], 0⟩,
  ⟨0x0200, 1, 0x0A, 1, "pwr.shed.events", .u32, .ro, .now, 0, 4294967295, [], 0⟩,
  ⟨0x0200, 1, 0x0B, 1, "pwr.shed.time_ms", .u64, .ro, .now, 0, 18446744073709551615, [], 0⟩,
  ⟨0x0200, 1, 0x0C, 1, "pwr.margin.pct", .u8, .ro, .now, 0, 255, [], 10⟩,
  ⟨0x0200, 1, 0x0D, 1, "pwr.spill.limit_gbps", .u32, .ro, .now, 0, 4294967295, [], 6400⟩,
  ⟨0x0200, 1, 0x0E, 1, "pwr.clock.sixteenths", .u8, .ro, .now, 0, 255, [], 16⟩,
  ⟨0x0200, 1, 0x0F, 1, "pwr.energy.total", .u64, .ro, .now, 0, 18446744073709551615, [], 0⟩,
  ⟨0x0200, 1, 0x10, 1, "pwr.energy.device", .u64, .ro, .now, 0, 18446744073709551615, [], 0⟩,
  ⟨0x0200, 1, 0x11, 1, "pwr.model.ready", .bool, .ro, .now, 0, 1, [], 0⟩,
  ⟨0x0201, 1, 0x00, 1, "rail.elements", .u8, .ro, .now, 0, 255, [], 6⟩,
  ⟨0x0201, 1, 0x01, 1, "pwr.rail", .blob, .rwp, .boot, 0, 128, [], 0⟩,
  ⟨0x0201, 1, 0x02, 1, "pwr.rail.state", .blob, .ro, .now, 0, 16, [], 0⟩,
  ⟨0x0201, 1, 0x03, 1, "pwr.rail.errors", .u64, .ro, .now, 0, 18446744073709551615, [], 0⟩,
  ⟨0x0201, 1, 0x04, 1, "pwr.domain.state", .blob, .ro, .now, 0, 24, [], 0⟩,
  ⟨0x0201, 1, 0x05, 1, "pwr.domain.mw", .blob, .ro, .now, 0, 96, [], 0⟩,
  ⟨0x0201, 1, 0x06, 1, "pwr.tile.idle_off", .u16, .rwp, .now, 1, 3600, [0], 0⟩,
  ⟨0x0203, 1, 0x00, 1, "thm.elements", .u8, .ro, .now, 0, 255, [], 10⟩,
  ⟨0x0203, 1, 0x01, 1, "thm.max", .s32, .ro, .now, -2147483648, 2147483647, [], 0⟩,
  ⟨0x0203, 1, 0x02, 1, "thm.max_sensor", .u8, .ro, .now, 0, 255, [], 0⟩,
  ⟨0x0203, 1, 0x03, 1, "thm.temps", .blob, .ro, .now, 0, 128, [], 0⟩,
  ⟨0x0203, 1, 0x04, 1, "thm.throttle_c", .u8, .rwp, .now, 85, 105, [], 100⟩,
  ⟨0x0203, 1, 0x05, 1, "thm.hyst_c", .u8, .rwp, .now, 1, 10, [], 3⟩,
  ⟨0x0203, 1, 0x06, 1, "thm.level", .u8, .ro, .now, 0, 255, [], 0⟩,
  ⟨0x0203, 1, 0x07, 1, "thm.trips", .u32, .ro, .now, 0, 4294967295, [], 0⟩,
  ⟨0x0203, 1, 0x08, 1, "thm.last_trip", .blob, .ro, .now, 0, 8, [], 0⟩,
  ⟨0x0203, 1, 0x09, 1, "thm.peak", .s32, .rw, .now, 0, 0, [], 0⟩,
  ⟨0x0203, 1, 0x0A, 1, "thm.stack_hot", .bitset, .ro, .now, 0, 65535, [], 0⟩,
  ⟨0x0204, 1, 0x00, 1, "age.elements", .u8, .ro, .now, 0, 255, [], 9⟩,
  ⟨0x0204, 1, 0x01, 1, "age.limits", .u64, .ro, .now, 0, 18446744073709551615, [], 0⟩,
  ⟨0x0204, 1, 0x02, 1, "age.point_mv", .blob, .ro, .now, 0, 32, [], 0⟩]

/-- Rows 108 onwards of the object tables. -/
def Dict.rows3 : List DictRow := [
  ⟨0x0204, 1, 0x03, 1, "age.guard_mv", .u16, .ro, .now, 0, 65535, [], 40⟩,
  ⟨0x0204, 1, 0x04, 1, "age.baseline", .blob, .ro, .now, 0, 448, [], 0⟩,
  ⟨0x0204, 1, 0x05, 1, "age.slack", .blob, .ro, .now, 0, 448, [], 0⟩,
  ⟨0x0204, 1, 0x06, 1, "age.raise_ps", .u32, .ro, .now, 0, 4294967295, [], 0⟩,
  ⟨0x0204, 1, 0x07, 1, "age.steps", .u32, .ro, .now, 0, 4294967295, [], 0⟩,
  ⟨0x0204, 1, 0x08, 1, "age.at_ceiling", .bitset, .ro, .now, 0, 65535, [], 0⟩,
  ⟨0x0204, 1, 0x09, 1, "age.history", .blob, .ro, .now, 0, 512, [], 0⟩,
  ⟨0x0208, 1, 0x00, 1, "pwr.energy.pipe.elements", .u8, .ro, .now, 0, 255, [], 16⟩,
  ⟨0x0208, 1, 0x01, 16, "pwr.energy.pipe", .u64, .ro, .now, 0, 18446744073709551615, [], 0⟩,
  ⟨0x0240, 64, 0x00, 1, "pwr.energy.port.elements", .u8, .ro, .now, 0, 255, [], 16⟩,
  ⟨0x0240, 64, 0x01, 16, "pwr.energy.port", .u64, .ro, .now, 0, 18446744073709551615, [], 0⟩,
  ⟨0x0280, 64, 0x00, 1, "pwr.energy.queues.elements", .u8, .ro, .now, 0, 255, [], 16⟩,
  ⟨0x0280, 64, 0x01, 16, "pwr.energy.queues", .blob, .ro, .now, 0, 128, [], 0⟩,
  ⟨0x0300, 1, 0x00, 1, "fw.elements", .u8, .ro, .now, 0, 255, [], 14⟩,
  ⟨0x0300, 1, 0x01, 1, "fw.running.slot", .enum, .ro, .now, 0, 2, [], 0⟩,
  ⟨0x0300, 1, 0x02, 1, "fw.running.version", .u64, .ro, .now, 0, 18446744073709551615, [], 0⟩,
  ⟨0x0300, 1, 0x03, 1, "fw.running.arb", .u8, .ro, .now, 0, 255, [], 0⟩,
  ⟨0x0300, 1, 0x04, 1, "fw.arb.fused", .u8, .ro, .now, 0, 128, [], 0⟩,
  ⟨0x0300, 1, 0x05, 1, "fw.arb.spoiled", .u8, .ro, .now, 0, 128, [], 0⟩,
  ⟨0x0300, 1, 0x06, 1, "fw.trial", .bool, .ro, .now, 0, 1, [], 0⟩,
  ⟨0x0300, 1, 0x07, 1, "fw.trial.attempts", .u8, .ro, .now, 0, 255, [], 0⟩,
  ⟨0x0300, 1, 0x08, 1, "fw.confirm.window_min", .u8, .rwp, .now, 1, 60, [], 15⟩,
  ⟨0x0300, 1, 0x09, 1, "fw.confirm.policy", .enum, .rwp, .now, 0, 1, [], 0⟩,
  ⟨0x0300, 1, 0x0A, 1, "fw.confirm", .bool, .wo, .now, 0, 1, [], 0⟩,
  ⟨0x0300, 1, 0x0B, 1, "fw.confirm.left_s", .u32, .ro, .now, 0, 4294967295, [], 0⟩,
  ⟨0x0300, 1, 0x0C, 1, "fw.last_revert", .enum, .ro, .now, 0, 4, [], 0⟩,
  ⟨0x0300, 1, 0x0D, 1, "fw.boot.record_seq", .u32, .ro, .now, 0, 4294967295, [], 0⟩,
  ⟨0x0300, 1, 0x0E, 1, "fw.key.revoke", .u8, .fuse, .now, 0, 15, [], 0⟩,
  ⟨0x0301, 3, 0x00, 1, "fwslot.elements", .u8, .ro, .now, 0, 255, [], 6⟩,
  ⟨0x0301, 3, 0x01, 1, "fwslot.state", .enum, .ro, .now, 0, 5, [], 0⟩,
  ⟨0x0301, 3, 0x02, 1, "fwslot.version", .u64, .ro, .now, 0, 18446744073709551615, [], 0⟩,
  ⟨0x0301, 3, 0x03, 1, "fwslot.arb", .u8, .ro, .now, 0, 255, [], 0⟩,
  ⟨0x0301, 3, 0x04, 1, "fwslot.key", .u8, .ro, .now, 0, 255, [], 0⟩,
  ⟨0x0301, 3, 0x05, 1, "fwslot.size", .u32, .ro, .now, 0, 4294967295, [], 0⟩,
  ⟨0x0301, 3, 0x06, 1, "fwslot.failures", .u32, .ro, .now, 0, 4294967295, [], 0⟩,
  ⟨0x0304, 1, 0x00, 1, "upd.elements", .u8, .ro, .now, 0, 255, [], 13⟩]

/-- Rows 144 onwards of the object tables. -/
def Dict.rows4 : List DictRow := [
  ⟨0x0304, 1, 0x01, 1, "fw.update.sources", .bitset, .rwp, .now, 0, 15, [], 7⟩,
  ⟨0x0304, 1, 0x02, 1, "fw.update.downgrade", .bool, .rwp, .now, 0, 1, [], 1⟩,
  ⟨0x0304, 1, 0x03, 1, "fw.stage.chunk", .blob, .wo, .now, 5, 1024, [], 0⟩,
  ⟨0x0304, 1, 0x04, 1, "fw.stage.length", .u32, .ro, .now, 0, 4294967295, [], 0⟩,
  ⟨0x0304, 1, 0x05, 1, "fw.session.state", .enum, .ro, .now, 0, 4, [], 0⟩,
  ⟨0x0304, 1, 0x06, 1, "fw.session.owner", .blob, .ro, .now, 0, 24, [], 0⟩,
  ⟨0x0304, 1, 0x07, 1, "fw.session.idle_s", .u8, .ro, .now, 0, 255, [], 0⟩,
  ⟨0x0304, 1, 0x08, 1, "fw.update.seq", .u32, .rw, .now, 0, 4294967295, [], 0⟩,
  ⟨0x0304, 1, 0x09, 1, "fw.update.op", .enum, .rw, .now, 1, 4, [], 0⟩,
  ⟨0x0304, 1, 0x0A, 1, "fw.update.status", .enum, .ro, .now, 0, 5, [], 0⟩,
  ⟨0x0304, 1, 0x0B, 1, "fw.update.reason", .enum, .ro, .now, 0, 13, [], 0⟩,
  ⟨0x0304, 1, 0x0C, 1, "fw.update.refusals", .u32, .ro, .now, 0, 4294967295, [], 0⟩,
  ⟨0x0304, 1, 0x0D, 1, "fw.update.target", .enum, .ro, .now, 0, 2, [], 0⟩,
  ⟨0x0305, 1, 0x00, 1, "rst.elements", .u8, .ro, .now, 0, 255, [], 7⟩,
  ⟨0x0305, 1, 0x01, 1, "fw.restart.seq", .u32, .rw, .now, 0, 4294967295, [], 0⟩,
  ⟨0x0305, 1, 0x02, 1, "fw.restart.cause", .enum, .ro, .now, 0, 8, [], 0⟩,
  ⟨0x0305, 1, 0x03, 1, "fw.watchdog_ms", .u32, .rwp, .now, 1000, 60000, [], 5000⟩,
  ⟨0x0305, 1, 0x04, 1, "fw.gmcu.state", .enum, .ro, .now, 0, 2, [], 0⟩,
  ⟨0x0305, 1, 0x05, 1, "fw.pctl.state", .enum, .ro, .now, 0, 2, [], 0⟩,
  ⟨0x0305, 1, 0x06, 1, "fw.flash.inhibits", .u32, .ro, .now, 0, 4294967295, [], 0⟩,
  ⟨0x0305, 1, 0x07, 1, "fw.flash.mv", .u16, .ro, .now, 0, 65535, [], 0⟩,
  ⟨0x0400, 1, 0x00, 1, "dma.elements", .u8, .ro, .now, 0, 255, [], 8⟩,
  ⟨0x0400, 1, 0x01, 1, "dma.ctx.base_a", .u64, .rw, .now, 0, 18446744073709551615, [], 0⟩,
  ⟨0x0400, 1, 0x02, 1, "dma.ctx.base_b", .u64, .rw, .now, 0, 18446744073709551615, [], 0⟩,
  ⟨0x0400, 1, 0x03, 1, "dma.cpl_timeout_ms", .u8, .rwp, .now, 1, 64, [], 16⟩,
  ⟨0x0400, 1, 0x04, 1, "dma.ctx.misses", .u64, .ro, .now, 0, 18446744073709551615, [], 0⟩,
  ⟨0x0400, 1, 0x05, 1, "dma.errors", .u64, .ro, .now, 0, 18446744073709551615, [], 0⟩,
  ⟨0x0400, 1, 0x06, 1, "dma.faults", .u64, .ro, .now, 0, 18446744073709551615, [], 0⟩,
  ⟨0x0400, 1, 0x07, 1, "dma.punt.staged", .u32, .ro, .now, 0, 4294967295, [], 0⟩,
  ⟨0x0400, 1, 0x08, 1, "dma.punt.drops", .u64, .ro, .now, 0, 18446744073709551615, [], 0⟩,
  ⟨0x0401, 1, 0x00, 1, "dma.punt.elements", .u8, .ro, .now, 0, 255, [], 16⟩,
  ⟨0x0401, 1, 0x01, 16, "dma.punt.map", .u16, .rwp, .now, 0, 2047, [65535], 65535⟩,
  ⟨0x0410, 2, 0x00, 1, "host.elements", .u8, .ro, .now, 0, 255, [], 16⟩,
  ⟨0x0410, 2, 0x01, 1, "host.mode", .enum, .ro, .now, 0, 1, [], 0⟩,
  ⟨0x0410, 2, 0x02, 1, "host.state", .enum, .ro, .now, 0, 2, [], 0⟩,
  ⟨0x0410, 2, 0x03, 1, "host.lost_reason", .enum, .ro, .now, 0, 7, [], 0⟩]

/-- Rows 180 onwards of the object tables. -/
def Dict.rows5 : List DictRow := [
  ⟨0x0410, 2, 0x04, 1, "host.link.rate", .enum, .ro, .now, 0, 5, [], 0⟩,
  ⟨0x0410, 2, 0x05, 1, "host.link.width", .u8, .ro, .now, 0, 8, [], 0⟩,
  ⟨0x0410, 2, 0x06, 1, "host.hb.timeout_ms", .u32, .rwp, .now, 10, 60000, [0], 0⟩,
  ⟨0x0410, 2, 0x07, 1, "host.losses", .u32, .ro, .now, 0, 4294967295, [], 0⟩,
  ⟨0x0410, 2, 0x08, 1, "host.last_change", .time, .ro, .now, 0, 79228162514264337593543950335, [], 0⟩,
  ⟨0x0410, 2, 0x09, 1, "host.vec.free", .u16, .ro, .now, 0, 65535, [], 2016⟩,
  ⟨0x0410, 2, 0x0A, 1, "host.bar.bad", .u64, .ro, .now, 0, 18446744073709551615, [], 0⟩,
  ⟨0x0410, 2, 0x0B, 1, "host.bar2.discards", .u64, .ro, .now, 0, 18446744073709551615, [], 0⟩,
  ⟨0x0410, 2, 0x0C, 1, "host.aer.correctable", .u64, .ro, .now, 0, 18446744073709551615, [], 0⟩,
  ⟨0x0410, 2, 0x0D, 1, "host.aer.uncorrectable", .u64, .ro, .now, 0, 18446744073709551615, [], 0⟩,
  ⟨0x0410, 2, 0x0E, 1, "host.ats.invalidations", .u64, .ro, .now, 0, 18446744073709551615, [], 0⟩,
  ⟨0x0410, 2, 0x0F, 1, "host.pri.requests", .u64, .ro, .now, 0, 18446744073709551615, [], 0⟩,
  ⟨0x0410, 2, 0x10, 1, "host.subsys", .u32, .rwp, .boot, 0, 4294967295, [], 33824638⟩,
  ⟨0x0418, 1, 0x00, 1, "vec.elements", .u8, .ro, .now, 0, 255, [], 6⟩,
  ⟨0x0418, 1, 0x01, 1, "vec.seq", .u32, .rw, .now, 0, 4294967295, [], 0⟩,
  ⟨0x0418, 1, 0x02, 1, "vec.op", .enum, .rw, .now, 1, 3, [], 0⟩,
  ⟨0x0418, 1, 0x03, 1, "vec.port", .enum, .rw, .now, 0, 1, [], 0⟩,
  ⟨0x0418, 1, 0x04, 1, "vec.queue", .u16, .rw, .now, 0, 2047, [], 0⟩,
  ⟨0x0418, 1, 0x05, 1, "vec.vector", .u16, .rw, .now, 0, 65535, [], 65535⟩,
  ⟨0x0418, 1, 0x06, 1, "vec.status", .enum, .ro, .now, 0, 4, [], 0⟩,
  ⟨0x0500, 1, 0x00, 1, "net.elements", .u8, .ro, .now, 0, 255, [], 7⟩,
  ⟨0x0500, 1, 0x01, 1, "net.udp.port", .u16, .rwp, .now, 1, 65535, [], 7346⟩,
  ⟨0x0500, 1, 0x02, 1, "net.udp.rate", .u32, .rwp, .now, 10, 10000, [], 1000⟩,
  ⟨0x0500, 1, 0x03, 1, "net.udp.allow", .blob, .rwp, .now, 0, 160, [], 0⟩,
  ⟨0x0500, 1, 0x04, 1, "net.udp.requests", .u64, .ro, .now, 0, 18446744073709551615, [], 0⟩,
  ⟨0x0500, 1, 0x05, 1, "net.udp.discards", .u64, .ro, .now, 0, 18446744073709551615, [], 0⟩,
  ⟨0x0500, 1, 0x06, 1, "net.lldp.interval", .u16, .rwp, .now, 5, 3600, [0], 30⟩,
  ⟨0x0500, 1, 0x07, 1, "net.lldp.ttl_mult", .u8, .rwp, .now, 2, 10, [], 4⟩,
  ⟨0x0501, 1, 0x00, 1, "mctp.elements", .u8, .ro, .now, 0, 255, [], 9⟩,
  ⟨0x0501, 1, 0x01, 1, "mctp.mode", .enum, .rwp, .boot, 0, 2, [], 0⟩,
  ⟨0x0501, 1, 0x02, 1, "mctp.smbus.addr", .u8, .ro, .now, 0, 255, [], 0⟩,
  ⟨0x0501, 1, 0x03, 1, "mctp.owner_addr", .u8, .rwp, .now, 0, 127, [], 16⟩,
  ⟨0x0501, 1, 0x04, 1, "mctp.i3c.dyn_addr", .u8, .ro, .now, 0, 255, [], 0⟩,
  ⟨0x0501, 1, 0x05, 3, "mctp.eid", .u8, .ro, .now, 0, 255, [], 0⟩,
  ⟨0x0501, 1, 0x08, 1, "mctp.rx.discards", .u64, .ro, .now, 0, 18446744073709551615, [], 0⟩,
  ⟨0x0501, 1, 0x09, 1, "mctp.owner_resets", .u32, .ro, .now, 0, 4294967295, [], 0⟩]

/-- Rows 216 onwards of the object tables. -/
def Dict.rows6 : List DictRow := [
  ⟨0x0502, 1, 0x00, 1, "notice.elements", .u8, .ro, .now, 0, 255, [], 6⟩,
  ⟨0x0502, 1, 0x01, 4, "notice.dest", .blob, .rwp, .now, 32, 32, [], 0⟩,
  ⟨0x0502, 1, 0x05, 1, "notice.sent", .u64, .ro, .now, 0, 18446744073709551615, [], 0⟩,
  ⟨0x0502, 1, 0x06, 1, "notice.dropped", .u64, .ro, .now, 0, 18446744073709551615, [], 0⟩,
  ⟨0x0600, 8, 0x00, 1, "tb.elements", .u8, .ro, .now, 0, 255, [], 22⟩,
  ⟨0x0600, 8, 0x01, 1, "tb.time", .time, .ro, .now, 0, 79228162514264337593543950335, [], 0⟩,
  ⟨0x0600, 8, 0x02, 1, "tb.time.set", .time, .wo, .now, 0, 79228162514264337593543950335, [], 0⟩,
  ⟨0x0600, 8, 0x03, 1, "tb.step", .s64, .wo, .now, -9223372036854775808, 9223372036854775807, [], 0⟩,
  ⟨0x0600, 8, 0x04, 1, "tb.rate", .s64, .ro, .now, -9223372036854775808, 9223372036854775807, [], 0⟩,
  ⟨0x0600, 8, 0x05, 1, "tb.rate.set", .s64, .wo, .now, -549755813888, 549755813887, [], 0⟩,
  ⟨0x0600, 8, 0x06, 1, "tb.servo.mode", .enum, .rwp, .now, 0, 1, [], 0⟩,
  ⟨0x0600, 8, 0x07, 1, "tb.servo.source", .enum, .rwp, .now, 0, 2, [], 0⟩,
  ⟨0x0600, 8, 0x08, 1, "tb.offset", .s64, .wo, .now, -9223372036854775808, 9223372036854775807, [], 0⟩,
  ⟨0x0600, 8, 0x09, 1, "tb.servo.kp", .u32, .rwp, .now, 0, 4294967295, [], 45875⟩,
  ⟨0x0600, 8, 0x0A, 1, "tb.servo.ki", .u32, .rwp, .now, 0, 4294967295, [], 19661⟩,
  ⟨0x0600, 8, 0x0B, 1, "tb.servo.step_ns", .u32, .rwp, .now, 1, 1000000000, [], 1000⟩,
  ⟨0x0600, 8, 0x0C, 1, "tb.servo.lock_ns", .u32, .rwp, .now, 1, 1000000000, [], 100⟩,
  ⟨0x0600, 8, 0x0D, 1, "tb.holdover.ms", .u32, .rwp, .now, 10, 3600000, [], 4000⟩,
  ⟨0x0600, 8, 0x0E, 1, "tb.servo.state", .enum, .ro, .now, 0, 3, [], 0⟩,
  ⟨0x0600, 8, 0x0F, 1, "tb.master.new", .bool, .wo, .now, 0, 1, [], 0⟩,
  ⟨0x0600, 8, 0x10, 1, "tb.offset.last", .s64, .ro, .now, -9223372036854775808, 9223372036854775807, [], 0⟩,
  ⟨0x0600, 8, 0x11, 1, "tb.rate.filtered", .s64, .ro, .now, -9223372036854775808, 9223372036854775807, [], 0⟩,
  ⟨0x0600, 8, 0x12, 1, "tb.rate.saved", .s64, .rwp, .now, -9223372036854775808, 9223372036854775807, [], 0⟩,
  ⟨0x0600, 8, 0x13, 1, "tb.rate.limit", .u32, .rwp, .now, 1, 1953125, [], 200000⟩,
  ⟨0x0600, 8, 0x14, 1, "tb.steps", .u32, .ro, .now, 0, 4294967295, [], 0⟩,
  ⟨0x0600, 8, 0x15, 1, "tb.holdovers", .u32, .ro, .now, 0, 4294967295, [], 0⟩,
  ⟨0x0600, 8, 0x16, 1, "tb.outliers", .u32, .ro, .now, 0, 4294967295, [], 0⟩,
  ⟨0x0608, 1, 0x00, 1, "tpin.elements", .u8, .ro, .now, 0, 255, [], 12⟩,
  ⟨0x0608, 1, 0x01, 1, "cap0.cfg", .u64, .rwp, .now, 0, 18446744073709551615, [], 0⟩,
  ⟨0x0608, 1, 0x02, 1, "cap1.cfg", .u64, .rwp, .now, 0, 18446744073709551615, [], 0⟩,
  ⟨0x0608, 1, 0x03, 1, "cap0.pop", .blob, .ro, .now, 0, 16, [], 0⟩,
  ⟨0x0608, 1, 0x04, 1, "cap1.pop", .blob, .ro, .now, 0, 16, [], 0⟩,
  ⟨0x0608, 1, 0x05, 1, "cap0.overflow", .u32, .ro, .now, 0, 4294967295, [], 0⟩,
  ⟨0x0608, 1, 0x06, 1, "cap1.overflow", .u32, .ro, .now, 0, 4294967295, [], 0⟩,
  ⟨0x0608, 1, 0x07, 1, "out0.cfg", .u64, .rwp, .now, 0, 18446744073709551615, [], 6400000000⟩,
  ⟨0x0608, 1, 0x08, 1, "out1.cfg", .u64, .rwp, .now, 0, 18446744073709551615, [], 6400000000⟩]

/-- Rows 252 onwards of the object tables. -/
def Dict.rows7 : List DictRow := [
  ⟨0x0608, 1, 0x09, 1, "out0.start", .time, .rwp, .now, 0, 79228162514264337593543950335, [], 0⟩,
  ⟨0x0608, 1, 0x0A, 1, "out0.period", .u64, .rwp, .now, 40, 1000000000000, [], 1000000000⟩,
  ⟨0x0608, 1, 0x0B, 1, "out1.start", .time, .rwp, .now, 0, 79228162514264337593543950335, [], 0⟩,
  ⟨0x0608, 1, 0x0C, 1, "out1.period", .u64, .rwp, .now, 40, 1000000000000, [], 1000000000⟩,
  ⟨0x0609, 1, 0x00, 1, "tslat.elements", .u8, .ro, .now, 0, 255, [], 26⟩,
  ⟨0x0609, 1, 0x01, 13, "ts.lat.tx", .u32, .rwp, .now, 0, 4294967295, [], 0⟩,
  ⟨0x0609, 1, 0x0E, 13, "ts.lat.rx", .u32, .rwp, .now, 0, 4294967295, [], 0⟩,
  ⟨0x060A, 1, 0x00, 1, "ptp.elements", .u8, .ro, .now, 0, 255, [], 19⟩,
  ⟨0x060A, 1, 0x01, 16, "txts.overflow", .u64, .ro, .now, 0, 18446744073709551615, [], 0⟩,
  ⟨0x060A, 1, 0x11, 1, "ts.onestep", .u64, .ro, .now, 0, 18446744073709551615, [], 0⟩,
  ⟨0x060A, 1, 0x12, 1, "ts.tc", .u64, .ro, .now, 0, 18446744073709551615, [], 0⟩,
  ⟨0x060A, 1, 0x13, 1, "ts.skipped", .u64, .ro, .now, 0, 18446744073709551615, [], 0⟩,
  ⟨0x0640, 64, 0x00, 1, "ts.port.elements", .u8, .ro, .now, 0, 255, [], 32⟩,
  ⟨0x0640, 64, 0x01, 16, "ts.port.cfg", .u64, .rwp, .now, 0, 18446744073709551615, [], 0⟩,
  ⟨0x0640, 64, 0x11, 16, "ts.port.asym", .s32, .rwp, .now, -2147483648, 2147483647, [], 0⟩,
  ⟨0x0700, 1, 0x00, 1, "epoch.elements", .u8, .ro, .now, 0, 255, [], 18⟩,
  ⟨0x0700, 1, 0x01, 1, "epoch.count", .u64, .ro, .now, 0, 18446744073709551615, [], 0⟩,
  ⟨0x0700, 1, 0x02, 1, "epoch.bit", .bool, .ro, .now, 0, 1, [], 0⟩,
  ⟨0x0700, 1, 0x03, 1, "epoch.flip.seq", .u32, .rw, .now, 0, 4294967295, [], 0⟩,
  ⟨0x0700, 1, 0x04, 1, "epoch.flip.status", .enum, .ro, .now, 0, 5, [], 0⟩,
  ⟨0x0700, 1, 0x05, 1, "epoch.flip.done_seq", .u32, .ro, .now, 0, 4294967295, [], 0⟩,
  ⟨0x0700, 1, 0x06, 1, "epoch.flip.time", .time, .ro, .now, 0, 79228162514264337593543950335, [], 0⟩,
  ⟨0x0700, 1, 0x07, 1, "epoch.stage.state", .enum, .ro, .now, 0, 2, [], 0⟩,
  ⟨0x0700, 1, 0x08, 1, "epoch.stage.entries", .u32, .ro, .now, 0, 4294967295, [], 0⟩,
  ⟨0x0700, 1, 0x09, 1, "epoch.stage.abort", .bool, .wo, .now, 0, 1, [], 0⟩,
  ⟨0x0700, 1, 0x0A, 1, "epoch.stage.reset", .bool, .wo, .now, 0, 1, [], 0⟩,
  ⟨0x0700, 1, 0x0B, 1, "epoch.abort.cause", .enum, .ro, .now, 0, 5, [], 0⟩,
  ⟨0x0700, 1, 0x0C, 1, "epoch.abort.unit", .u8, .ro, .now, 0, 255, [], 14⟩,
  ⟨0x0700, 1, 0x0D, 1, "epoch.abort.tag", .u32, .ro, .now, 0, 4294967295, [], 0⟩,
  ⟨0x0700, 1, 0x0E, 1, "epoch.abort.record", .u8, .ro, .now, 0, 255, [], 0⟩,
  ⟨0x0700, 1, 0x0F, 1, "epoch.drain.ns", .u32, .ro, .now, 0, 4294967295, [], 0⟩,
  ⟨0x0700, 1, 0x10, 1, "epoch.release.limit", .u32, .rwp, .now, 10, 10000, [], 600⟩,
  ⟨0x0700, 1, 0x11, 1, "epoch.release.drops", .u64, .ro, .now, 0, 18446744073709551615, [], 0⟩,
  ⟨0x0700, 1, 0x12, 1, "epoch.flips", .u64, .ro, .now, 0, 18446744073709551615, [], 0⟩,
  ⟨0x0701, 1, 0x00, 1, "prog.elements", .u8, .ro, .now, 0, 255, [], 11⟩,
  ⟨0x0701, 1, 0x01, 1, "prog.stage.offset", .u32, .rw, .now, 0, 8388607, [], 0⟩]

/-- Rows 288 onwards of the object tables. -/
def Dict.rows8 : List DictRow := [
  ⟨0x0701, 1, 0x02, 1, "prog.stage.chunk", .blob, .wo, .now, 1, 4096, [], 0⟩,
  ⟨0x0701, 1, 0x03, 1, "prog.stage.length", .u32, .ro, .now, 0, 4294967295, [], 0⟩,
  ⟨0x0701, 1, 0x04, 1, "prog.load.seq", .u32, .rw, .now, 0, 4294967295, [], 0⟩,
  ⟨0x0701, 1, 0x05, 1, "prog.load.status", .enum, .ro, .now, 0, 5, [], 0⟩,
  ⟨0x0701, 1, 0x06, 1, "prog.load.done_seq", .u32, .ro, .now, 0, 4294967295, [], 0⟩,
  ⟨0x0701, 1, 0x07, 1, "prog.load.fail_section", .u16, .ro, .now, 0, 65535, [], 65535⟩,
  ⟨0x0701, 1, 0x08, 1, "prog.load.fail_offset", .u32, .ro, .now, 0, 4294967295, [], 0⟩,
  ⟨0x0701, 1, 0x09, 1, "prog.load.discard", .bool, .wo, .now, 0, 1, [], 0⟩,
  ⟨0x0701, 1, 0x0A, 1, "prog.deparse_faults", .u64, .ro, .now, 0, 18446744073709551615, [], 0⟩,
  ⟨0x0701, 1, 0x0B, 1, "prog.max_bundle", .u32, .ro, .now, 0, 4294967295, [], 8388608⟩,
  ⟨0x0710, 16, 0x00, 1, "thresher.elements", .u8, .ro, .now, 0, 255, [], 14⟩,
  ⟨0x0710, 16, 0x01, 1, "thresher.packets", .u64, .ro, .now, 0, 18446744073709551615, [], 0⟩,
  ⟨0x0710, 16, 0x02, 1, "thresher.incomplete", .u64, .ro, .now, 0, 18446744073709551615, [], 0⟩,
  ⟨0x0710, 16, 0x03, 1, "thresher.exc.depth", .u64, .ro, .now, 0, 18446744073709551615, [], 0⟩,
  ⟨0x0710, 16, 0x04, 1, "thresher.exc.budget", .u64, .ro, .now, 0, 18446744073709551615, [], 0⟩,
  ⟨0x0710, 16, 0x05, 1, "thresher.exc.headers", .u64, .ro, .now, 0, 18446744073709551615, [], 0⟩,
  ⟨0x0710, 16, 0x06, 1, "thresher.exc.truncated", .u64, .ro, .now, 0, 18446744073709551615, [], 0⟩,
  ⟨0x0710, 16, 0x07, 1, "thresher.exc.nomatch", .u64, .ro, .now, 0, 18446744073709551615, [], 0⟩,
  ⟨0x0710, 16, 0x08, 1, "thresher.exc.program", .u64, .ro, .now, 0, 18446744073709551615, [], 0⟩,
  ⟨0x0710, 16, 0x09, 1, "thresher.ptp_events", .u64, .ro, .now, 0, 18446744073709551615, [], 0⟩,
  ⟨0x0710, 16, 0x0A, 1, "thresher.peak.transitions", .u8, .ro, .now, 0, 255, [], 0⟩,
  ⟨0x0710, 16, 0x0B, 1, "thresher.peak.headers", .u8, .ro, .now, 0, 255, [], 0⟩,
  ⟨0x0710, 16, 0x0C, 1, "thresher.depth", .u16, .ro, .now, 0, 65535, [], 64⟩,
  ⟨0x0710, 16, 0x0D, 1, "thresher.last_exception", .blob, .ro, .now, 0, 16, [], 0⟩,
  ⟨0x0710, 16, 0x0E, 1, "thresher.event_mask", .bitset, .rwp, .now, 0, 62, [], 62⟩,
  ⟨0x0730, 16, 0x00, 1, "bank.elements", .u8, .ro, .now, 0, 255, [], 5⟩,
  ⟨0x0730, 16, 0x01, 1, "bank.active", .enum, .ro, .now, 0, 1, [], 0⟩,
  ⟨0x0730, 16, 0x02, 1, "bank.a.image", .u64, .ro, .now, 0, 18446744073709551615, [], 0⟩,
  ⟨0x0730, 16, 0x03, 1, "bank.b.image", .u64, .ro, .now, 0, 18446744073709551615, [], 0⟩,
  ⟨0x0730, 16, 0x04, 1, "bank.idle.state", .enum, .ro, .now, 0, 5, [], 0⟩,
  ⟨0x0730, 16, 0x05, 1, "bank.held.packets", .u32, .ro, .now, 0, 4294967295, [], 0⟩,
  ⟨0x0800, 1, 0x00, 1, "tbl.elements", .u8, .ro, .now, 0, 255, [], 14⟩,
  ⟨0x0800, 1, 0x01, 1, "tbl.em.used", .u32, .ro, .now, 0, 4294967295, [], 0⟩,
  ⟨0x0800, 1, 0x02, 1, "tbl.em.stash_used", .u8, .ro, .now, 0, 255, [], 0⟩,
  ⟨0x0800, 1, 0x03, 1, "tbl.em.no_room", .u64, .ro, .now, 0, 18446744073709551615, [], 0⟩,
  ⟨0x0800, 1, 0x04, 1, "tbl.lpm.short_used", .u32, .ro, .now, 0, 4294967295, [], 0⟩]

/-- Rows 324 onwards of the object tables. -/
def Dict.rows9 : List DictRow := [
  ⟨0x0800, 1, 0x05, 1, "tbl.lpm.long_used", .u32, .ro, .now, 0, 4294967295, [], 0⟩,
  ⟨0x0800, 1, 0x06, 1, "tbl.nh.used", .u32, .ro, .now, 0, 4294967295, [], 0⟩,
  ⟨0x0800, 1, 0x07, 1, "tbl.grp.used", .u16, .ro, .now, 0, 65535, [], 0⟩,
  ⟨0x0800, 1, 0x08, 1, "tbl.mbr.used", .u32, .ro, .now, 0, 4294967295, [], 0⟩,
  ⟨0x0800, 1, 0x09, 1, "tbl.slot.used", .u32, .ro, .now, 0, 4294967295, [], 0⟩,
  ⟨0x0800, 1, 0x0A, 1, "tbl.slot.largest_free", .u32, .ro, .now, 0, 4294967295, [], 2097152⟩,
  ⟨0x0800, 1, 0x0B, 1, "tbl.cmd.blocks", .u64, .ro, .now, 0, 18446744073709551615, [], 0⟩,
  ⟨0x0800, 1, 0x0C, 1, "tbl.cmd.failed", .u64, .ro, .now, 0, 18446744073709551615, [], 0⟩,
  ⟨0x0800, 1, 0x0D, 1, "tbl.settling", .bool, .ro, .now, 0, 1, [], 0⟩,
  ⟨0x0800, 1, 0x0E, 1, "tbl.lb_drops", .u64, .ro, .now, 0, 18446744073709551615, [], 0⟩,
  ⟨0x0801, 1, 0x00, 1, "hash.elements", .u8, .ro, .now, 0, 255, [], 4⟩,
  ⟨0x0801, 1, 0x01, 1, "hash.toeplitz.key0", .blob, .rwp, .epoch, 40, 40, [], 0⟩,
  ⟨0x0801, 1, 0x02, 1, "hash.toeplitz.key1", .blob, .rwp, .epoch, 40, 40, [], 0⟩,
  ⟨0x0801, 1, 0x03, 1, "hash.toeplitz.key2", .blob, .rwp, .epoch, 40, 40, [], 0⟩,
  ⟨0x0801, 1, 0x04, 1, "hash.toeplitz.key3", .blob, .rwp, .epoch, 40, 40, [], 0⟩,
  ⟨0x0802, 1, 0x00, 1, "tcam.elements", .u8, .ro, .now, 0, 255, [], 7⟩,
  ⟨0x0802, 1, 0x01, 1, "tcam.used", .u16, .ro, .now, 0, 65535, [], 0⟩,
  ⟨0x0802, 1, 0x02, 1, "tcam.queries", .u64, .ro, .now, 0, 18446744073709551615, [], 0⟩,
  ⟨0x0802, 1, 0x03, 1, "tcam.admission.rate", .u32, .rwp, .now, 1, 100, [], 100⟩,
  ⟨0x0802, 1, 0x04, 1, "tcam.admission.burst", .u16, .rwp, .now, 64, 65535, [], 4096⟩,
  ⟨0x0802, 1, 0x05, 1, "tcam.admission.drops", .u64, .ro, .now, 0, 18446744073709551615, [], 0⟩,
  ⟨0x0802, 1, 0x06, 1, "tcam.refused", .u64, .ro, .now, 0, 18446744073709551615, [], 0⟩,
  ⟨0x0802, 1, 0x07, 1, "tcam.priv_count", .u8, .ro, .now, 0, 255, [], 0⟩,
  ⟨0x0803, 1, 0x00, 1, "priv.elements", .u8, .ro, .now, 0, 255, [], 64⟩,
  ⟨0x0803, 1, 0x01, 64, "priv.port", .u16, .rwp, .now, 0, 1023, [65535], 65535⟩,
  ⟨0x0810, 4, 0x00, 1, "barn.elements", .u8, .ro, .now, 0, 255, [], 4⟩,
  ⟨0x0810, 4, 0x01, 1, "barn.corrected", .u64, .ro, .now, 0, 18446744073709551615, [], 0⟩,
  ⟨0x0810, 4, 0x02, 1, "barn.uncorrectable", .u64, .ro, .now, 0, 18446744073709551615, [], 0⟩,
  ⟨0x0810, 4, 0x03, 1, "barn.peer_repairs", .u64, .ro, .now, 0, 18446744073709551615, [], 0⟩,
  ⟨0x0810, 4, 0x04, 1, "barn.scrub.pass_ms", .u32, .ro, .now, 0, 4294967295, [], 0⟩,
  ⟨0x0820, 16, 0x00, 1, "winnow.elements", .u8, .ro, .now, 0, 255, [], 3⟩,
  ⟨0x0820, 16, 0x01, 1, "winnow.used", .u16, .ro, .now, 0, 65535, [], 0⟩,
  ⟨0x0820, 16, 0x02, 1, "winnow.hits", .u64, .ro, .now, 0, 18446744073709551615, [], 0⟩,
  ⟨0x0820, 16, 0x03, 1, "winnow.misses", .u64, .ro, .now, 0, 18446744073709551615, [], 0⟩,
  ⟨0x0900, 1, 0x00, 1, "buf.elements", .u8, .ro, .now, 0, 255, [], 16⟩,
  ⟨0x0900, 1, 0x01, 1, "buf.cells.total", .u32, .ro, .now, 0, 4294967295, [], 1572864⟩,
  ⟨0x0900, 1, 0x02, 1, "buf.cells.slack", .u32, .ro, .now, 0, 4294967295, [], 81920⟩,
  ⟨0x0900, 1, 0x03, 1, "buf.cells.free", .u32, .ro, .now, 0, 4294967295, [], 1572864⟩,
  ⟨0x0900, 1, 0x04, 1, "buf.desc.free", .u32, .ro, .now, 0, 4294967295, [], 2097152⟩]

/-- Rows 360 onwards of the object tables. -/
def Dict.rows10 : List DictRow := [
  ⟨0x0900, 1, 0x05, 1, "buf.double_free", .u64, .ro, .now, 0, 18446744073709551615, [], 0⟩,
  ⟨0x0900, 1, 0x06, 1, "buf.refcount_errors", .u64, .ro, .now, 0, 18446744073709551615, [], 0⟩,
  ⟨0x0900, 1, 0x07, 1, "buf.quarantine", .u16, .ro, .now, 0, 65535, [], 0⟩,
  ⟨0x0900, 1, 0x08, 1, "buf.quarantine.overflow", .u64, .ro, .now, 0, 18446744073709551615, [], 0⟩,
  ⟨0x0900, 1, 0x09, 1, "buf.audit.period", .u32, .rwp, .now, 1000, 3600000, [], 10000⟩,
  ⟨0x0900, 1, 0x0A, 1, "buf.audit.seq", .u32, .rw, .now, 0, 4294967295, [], 0⟩,
  ⟨0x0900, 1, 0x0B, 1, "buf.audit.status", .enum, .ro, .now, 0, 1, [], 0⟩,
  ⟨0x0900, 1, 0x0C, 1, "buf.audit.leaks", .u64, .ro, .now, 0, 18446744073709551615, [], 0⟩,
  ⟨0x0900, 1, 0x0D, 1, "buf.ecc.corrected", .u64, .ro, .now, 0, 18446744073709551615, [], 0⟩,
  ⟨0x0900, 1, 0x0E, 1, "buf.ecc.uncorrectable", .u64, .ro, .now, 0, 18446744073709551615, [], 0⟩,
  ⟨0x0900, 1, 0x0F, 1, "buf.list_breaks", .u64, .ro, .now, 0, 18446744073709551615, [], 0⟩,
  ⟨0x0900, 1, 0x10, 1, "buf.pfc.smac", .u64, .rwp, .now, 0, 18446744073709551615, [], 0⟩,
  ⟨0x0910, 8, 0x00, 1, "pool.elements", .u8, .ro, .now, 0, 255, [], 15⟩,
  ⟨0x0910, 8, 0x01, 1, "pool.mode", .enum, .rwp, .now, 0, 1, [], 0⟩,
  ⟨0x0910, 8, 0x02, 1, "pool.size", .u32, .rwp, .now, 0, 4294967295, [], 0⟩,
  ⟨0x0910, 8, 0x03, 1, "pool.used", .u32, .ro, .now, 0, 4294967295, [], 0⟩,
  ⟨0x0910, 8, 0x04, 1, "pool.peak", .u32, .rw, .now, 0, 0, [], 0⟩,
  ⟨0x0910, 8, 0x05, 1, "pool.warn", .u32, .rwp, .now, 0, 4294967295, [], 0⟩,
  ⟨0x0910, 8, 0x06, 1, "pool.xoff", .u32, .rwp, .now, 0, 4294967295, [], 0⟩,
  ⟨0x0910, 8, 0x07, 1, "pool.xon", .u32, .rwp, .now, 0, 4294967295, [], 0⟩,
  ⟨0x0910, 8, 0x08, 1, "pool.pfc_prio", .u8, .rwp, .now, 0, 7, [], 0⟩,
  ⟨0x0910, 8, 0x09, 1, "pool.ecn.kmin", .u32, .rwp, .now, 0, 4294967295, [], 0⟩,
  ⟨0x0910, 8, 0x0A, 1, "pool.ecn.kmax", .u32, .rwp, .now, 0, 4294967295, [], 1⟩,
  ⟨0x0910, 8, 0x0B, 1, "pool.ecn.pmax", .u16, .rwp, .now, 0, 256, [], 0⟩,
  ⟨0x0910, 8, 0x0C, 1, "pool.xoff_state", .bool, .ro, .now, 0, 1, [], 0⟩,
  ⟨0x0910, 8, 0x0D, 1, "pool.drops", .u64, .ro, .now, 0, 18446744073709551615, [], 0⟩,
  ⟨0x0910, 8, 0x0E, 1, "pool.pushouts", .u64, .ro, .now, 0, 18446744073709551615, [], 0⟩,
  ⟨0x0910, 8, 0x0F, 1, "pool.warn_events", .u32, .ro, .now, 0, 4294967295, [], 0⟩,
  ⟨0x0918, 1, 0x00, 1, "hr.elements", .u8, .ro, .now, 0, 255, [], 4⟩,
  ⟨0x0918, 1, 0x01, 1, "hr.size", .u32, .rwp, .now, 0, 4294967295, [], 131072⟩,
  ⟨0x0918, 1, 0x02, 1, "hr.used", .u32, .ro, .now, 0, 4294967295, [], 0⟩,
  ⟨0x0918, 1, 0x03, 1, "hr.peak", .u32, .rw, .now, 0, 0, [], 0⟩,
  ⟨0x0918, 1, 0x04, 1, "hr.drops", .u64, .ro, .now, 0, 18446744073709551615, [], 0⟩,
  ⟨0x0930, 1, 0x00, 1, "mc.elements", .u8, .ro, .now, 0, 255, [], 8⟩,
  ⟨0x0930, 1, 0x01, 1, "mc.seq", .u32, .rw, .now, 0, 4294967295, [], 0⟩,
  ⟨0x0930, 1, 0x02, 1, "mc.op", .enum, .rw, .now, 1, 3, [], 0⟩]

/-- Rows 396 onwards of the object tables. -/
def Dict.rows11 : List DictRow := [
  ⟨0x0930, 1, 0x03, 1, "mc.group", .u16, .rw, .now, 0, 65535, [], 0⟩,
  ⟨0x0930, 1, 0x04, 1, "mc.list", .blob, .rw, .now, 0, 65535, [], 0⟩,
  ⟨0x0930, 1, 0x05, 1, "mc.status", .enum, .ro, .now, 0, 3, [], 0⟩,
  ⟨0x0930, 1, 0x06, 1, "mc.entries.free", .u32, .ro, .now, 0, 4294967295, [], 1048576⟩,
  ⟨0x0930, 1, 0x07, 1, "mc.groups.used", .u32, .ro, .now, 0, 4294967295, [], 0⟩,
  ⟨0x0930, 1, 0x08, 1, "mc.copy_drops", .u64, .ro, .now, 0, 18446744073709551615, [], 0⟩,
  ⟨0x0940, 1, 0x00, 1, "ct.elements", .u8, .ro, .now, 0, 255, [], 32⟩,
  ⟨0x0940, 1, 0x01, 32, "ct.row", .bitset, .rwp, .now, 0, 4294967295, [], 0⟩,
  ⟨0x0980, 64, 0x00, 1, "buf.port.elements", .u8, .ro, .now, 0, 255, [], 16⟩,
  ⟨0x0980, 64, 0x01, 16, "buf.port.cfg", .u64, .rwp, .now, 0, 18446744073709551615, [], 274873712690⟩,
  ⟨0x09C0, 17, 0x00, 1, "iq.elements", .u8, .ro, .now, 0, 255, [], 48⟩,
  ⟨0x09C0, 17, 0x01, 16, "iq.factor", .enum, .rwp, .now, 0, 10, [], 7⟩,
  ⟨0x09C0, 17, 0x11, 16, "iq.cfg", .u64, .rwp, .now, 0, 18446744073709551615, [], 8388612096⟩,
  ⟨0x09C0, 17, 0x21, 16, "iq.depth", .u32, .ro, .now, 0, 4294967295, [], 0⟩,
  ⟨0x0A00, 1, 0x00, 1, "gran.elements", .u8, .ro, .now, 0, 255, [], 25⟩,
  ⟨0x0A00, 1, 0x01, 1, "gran.state", .enum, .ro, .now, 0, 3, [], 0⟩,
  ⟨0x0A00, 1, 0x02, 1, "gran.region.layout", .u64, .rwp, .boot, 0, 18446744073709551615, [], 17045600⟩,
  ⟨0x0A00, 1, 0x03, 1, "gran.spill.bales.total", .u32, .ro, .now, 0, 4294967295, [], 12582912⟩,
  ⟨0x0A00, 1, 0x04, 1, "gran.spill.bales.free", .u32, .ro, .now, 0, 4294967295, [], 12582912⟩,
  ⟨0x0A00, 1, 0x05, 1, "gran.spill.backlog", .u16, .ro, .now, 0, 65535, [], 0⟩,
  ⟨0x0A00, 1, 0x06, 1, "gran.spill.write_gbps", .u32, .ro, .now, 0, 4294967295, [], 0⟩,
  ⟨0x0A00, 1, 0x07, 1, "gran.spill.read_gbps", .u32, .ro, .now, 0, 4294967295, [], 0⟩,
  ⟨0x0A00, 1, 0x08, 1, "gran.ecc.corrected", .u64, .ro, .now, 0, 18446744073709551615, [], 0⟩,
  ⟨0x0A00, 1, 0x09, 1, "gran.ecc.retries", .u64, .ro, .now, 0, 18446744073709551615, [], 0⟩,
  ⟨0x0A00, 1, 0x0A, 1, "gran.ecc.uncorrectable", .u64, .ro, .now, 0, 18446744073709551615, [], 0⟩,
  ⟨0x0A00, 1, 0x0B, 1, "gran.drops.ecc", .u64, .ro, .now, 0, 18446744073709551615, [], 0⟩,
  ⟨0x0A00, 1, 0x0C, 1, "gran.drops.retired", .u64, .ro, .now, 0, 18446744073709551615, [], 0⟩,
  ⟨0x0A00, 1, 0x0D, 1, "gran.double_free", .u64, .ro, .now, 0, 18446744073709551615, [], 0⟩,
  ⟨0x0A00, 1, 0x0E, 1, "gran.scrub.period", .u16, .rwp, .now, 1, 168, [], 24⟩,
  ⟨0x0A00, 1, 0x0F, 1, "gran.scrub.last_pass", .u32, .ro, .now, 0, 4294967295, [], 0⟩,
  ⟨0x0A00, 1, 0x10, 1, "gran.retire.ce_limit", .u8, .rwp, .now, 1, 255, [], 4⟩,
  ⟨0x0A00, 1, 0x11, 1, "gran.reserve.free", .u32, .ro, .now, 0, 4294967295, [], 49152⟩,
  ⟨0x0A00, 1, 0x12, 1, "gran.segments.lost", .u32, .ro, .now, 0, 4294967295, [], 0⟩,
  ⟨0x0A00, 1, 0x13, 1, "gran.auto_retire", .bool, .rwp, .now, 0, 1, [], 1⟩,
  ⟨0x0A00, 1, 0x14, 1, "gran.retire.drain_limit", .u32, .rwp, .now, 0, 10000, [], 100⟩,
  ⟨0x0A00, 1, 0x15, 1, "gran.stack.retire", .u8, .wo, .now, 0, 15, [], 0⟩]

/-- Rows 432 onwards of the object tables. -/
def Dict.rows12 : List DictRow := [
  ⟨0x0A00, 1, 0x16, 1, "gran.spill.xoff_free", .u32, .rwp, .now, 0, 4294967295, [], 262144⟩,
  ⟨0x0A00, 1, 0x17, 1, "gran.spill.xon_free", .u32, .rwp, .now, 0, 4294967295, [], 524288⟩,
  ⟨0x0A00, 1, 0x18, 1, "gran.mc.shared", .u64, .ro, .now, 0, 18446744073709551615, [], 0⟩,
  ⟨0x0A00, 1, 0x19, 1, "gran.mc.shared_free", .u32, .ro, .now, 0, 4294967295, [], 65536⟩,
  ⟨0x0A10, 16, 0x00, 1, "gstack.elements", .u8, .ro, .now, 0, 255, [], 9⟩,
  ⟨0x0A10, 16, 0x01, 1, "gstack.state", .enum, .ro, .now, 0, 4, [], 0⟩,
  ⟨0x0A10, 16, 0x02, 1, "gstack.retire.reason", .enum, .ro, .now, 0, 3, [], 0⟩,
  ⟨0x0A10, 16, 0x03, 1, "gstack.corrected", .u64, .ro, .now, 0, 18446744073709551615, [], 0⟩,
  ⟨0x0A10, 16, 0x04, 1, "gstack.uncorrectable", .u64, .ro, .now, 0, 18446744073709551615, [], 0⟩,
  ⟨0x0A10, 16, 0x05, 1, "gstack.ppr.done", .u16, .ro, .now, 0, 65535, [], 0⟩,
  ⟨0x0A10, 16, 0x06, 1, "gstack.ppr.left", .u16, .ro, .now, 0, 65535, [], 0⟩,
  ⟨0x0A10, 16, 0x07, 1, "gstack.remaps", .u16, .ro, .now, 0, 65535, [], 0⟩,
  ⟨0x0A10, 16, 0x08, 1, "gstack.bales.used", .u32, .ro, .now, 0, 4294967295, [], 0⟩,
  ⟨0x0A10, 16, 0x09, 1, "gstack.unretire", .bool, .wo, .now, 0, 1, [], 0⟩,
  ⟨0x0B00, 1, 0x00, 1, "sched.elements", .u8, .ro, .now, 0, 255, [], 6⟩,
  ⟨0x0B00, 1, 0x01, 1, "sched.wheel.late", .u64, .ro, .now, 0, 18446744073709551615, [], 0⟩,
  ⟨0x0B00, 1, 0x02, 1, "sched.wheel.max_late", .u32, .ro, .now, 0, 4294967295, [], 0⟩,
  ⟨0x0B00, 1, 0x03, 1, "sched.overflow.peak", .u16, .ro, .now, 0, 65535, [], 0⟩,
  ⟨0x0B00, 1, 0x04, 1, "sched.renorms", .u64, .ro, .now, 0, 18446744073709551615, [], 0⟩,
  ⟨0x0B00, 1, 0x05, 1, "sched.launch.late_drops", .u64, .ro, .now, 0, 18446744073709551615, [], 0⟩,
  ⟨0x0B00, 1, 0x06, 1, "sched.launch.ignored", .u64, .ro, .now, 0, 18446744073709551615, [], 0⟩,
  ⟨0x0B01, 1, 0x00, 1, "ovh.elements", .u8, .ro, .now, 0, 255, [], 32⟩,
  ⟨0x0B01, 1, 0x01, 32, "ovh.profile", .s32, .rwp, .now, -64, 127, [], 20⟩,
  ⟨0x0B02, 1, 0x00, 1, "pol.elements", .u8, .ro, .now, 0, 255, [], 10⟩,
  ⟨0x0B02, 1, 0x01, 1, "pol.seq", .u32, .rw, .now, 0, 4294967295, [], 0⟩,
  ⟨0x0B02, 1, 0x02, 1, "pol.op", .enum, .rw, .now, 1, 3, [], 0⟩,
  ⟨0x0B02, 1, 0x03, 1, "pol.index", .u16, .rw, .now, 0, 65535, [], 0⟩,
  ⟨0x0B02, 1, 0x04, 1, "pol.cfg", .u64, .rw, .now, 0, 18446744073709551615, [], 0⟩,
  ⟨0x0B02, 1, 0x05, 1, "pol.status", .enum, .ro, .now, 0, 2, [], 0⟩,
  ⟨0x0B02, 1, 0x06, 1, "pol.conform.pkts", .u64, .ro, .now, 0, 18446744073709551615, [], 0⟩,
  ⟨0x0B02, 1, 0x07, 1, "pol.conform.bytes", .u64, .ro, .now, 0, 18446744073709551615, [], 0⟩,
  ⟨0x0B02, 1, 0x08, 1, "pol.drop.pkts", .u64, .ro, .now, 0, 18446744073709551615, [], 0⟩,
  ⟨0x0B02, 1, 0x09, 1, "pol.drop.bytes", .u64, .ro, .now, 0, 18446744073709551615, [], 0⟩,
  ⟨0x0B02, 1, 0x0A, 1, "pol.drops.total", .u64, .ro, .now, 0, 18446744073709551615, [], 0⟩,
  ⟨0x0B40, 17, 0x00, 1, "iq.sched.elements", .u8, .ro, .now, 0, 255, [], 17⟩,
  ⟨0x0B40, 17, 0x01, 16, "iq.sched", .u64, .rwp, .now, 0, 18446744073709551615, [], 0⟩]

/-- Rows 468 onwards of the object tables. -/
def Dict.rows13 : List DictRow := [
  ⟨0x0B40, 17, 0x11, 1, "iq.port.sched", .u64, .rwp, .now, 0, 18446744073709551615, [], 0⟩,
  ⟨0x0B80, 64, 0x00, 1, "sched.port.elements", .u8, .ro, .now, 0, 255, [], 16⟩,
  ⟨0x0B80, 64, 0x01, 16, "sched.port.cfg", .u64, .rwp, .now, 0, 18446744073709551615, [], 0⟩,
  ⟨0x0C00, 1, 0x00, 1, "tel.elements", .u8, .ro, .now, 0, 255, [], 13⟩,
  ⟨0x0C00, 1, 0x01, 1, "tel.pc.drop_limit", .u32, .rwp, .now, 0, 500, [], 500⟩,
  ⟨0x0C00, 1, 0x02, 1, "tel.pc.limit", .u32, .rwp, .now, 0, 2000, [], 2000⟩,
  ⟨0x0C00, 1, 0x03, 1, "tel.pc.limit_eff", .u32, .ro, .now, 0, 4294967295, [], 2000⟩,
  ⟨0x0C00, 1, 0x04, 1, "tel.pc.drop_mask", .blob, .rwp, .now, 32, 32, [], 0⟩,
  ⟨0x0C00, 1, 0x05, 1, "tel.pc.written", .u64, .ro, .now, 0, 18446744073709551615, [], 0⟩,
  ⟨0x0C00, 1, 0x06, 1, "tel.pc.suppressed", .u64, .ro, .now, 0, 18446744073709551615, [], 0⟩,
  ⟨0x0C00, 1, 0x07, 1, "tel.store.capacity", .u64, .ro, .now, 0, 18446744073709551615, [], 402653184⟩,
  ⟨0x0C00, 1, 0x08, 1, "tel.store.head", .u64, .ro, .now, 0, 18446744073709551615, [], 0⟩,
  ⟨0x0C00, 1, 0x09, 1, "tel.wrap.select", .u32, .rw, .now, 0, 4294967295, [], 0⟩,
  ⟨0x0C00, 1, 0x0A, 1, "tel.wrap.bit", .bool, .ro, .now, 0, 1, [], 0⟩,
  ⟨0x0C00, 1, 0x0B, 1, "tel.wrap.clear", .bool, .wo, .now, 0, 1, [], 0⟩,
  ⟨0x0C00, 1, 0x0C, 1, "tel.hist.clear_port", .u16, .wo, .now, 0, 1023, [], 0⟩,
  ⟨0x0C00, 1, 0x0D, 1, "tel.wrap.events", .u64, .ro, .now, 0, 18446744073709551615, [], 0⟩,
  ⟨0x0C01, 1, 0x00, 1, "tally.elements", .u8, .ro, .now, 0, 255, [], 10⟩,
  ⟨0x0C01, 1, 0x01, 4, "tally.used", .u32, .ro, .now, 0, 4294967295, [], 0⟩,
  ⟨0x0C01, 1, 0x05, 1, "tally.idle_s", .u32, .rwp, .now, 1, 86400, [0], 60⟩,
  ⟨0x0C01, 1, 0x06, 1, "tally.evictions", .u64, .ro, .now, 0, 18446744073709551615, [], 0⟩,
  ⟨0x0C01, 1, 0x07, 1, "tally.idle_exports", .u64, .ro, .now, 0, 18446744073709551615, [], 0⟩,
  ⟨0x0C01, 1, 0x08, 1, "tally.snapshot", .u8, .wo, .now, 0, 4, [], 0⟩,
  ⟨0x0C01, 1, 0x09, 1, "tally.snapshot.status", .enum, .ro, .now, 0, 2, [], 0⟩,
  ⟨0x0C01, 1, 0x0A, 1, "tally.clear", .u8, .wo, .now, 0, 4, [], 0⟩,
  ⟨0x0C02, 1, 0x00, 1, "ioam.elements", .u8, .ro, .now, 0, 255, [], 11⟩,
  ⟨0x0C02, 1, 0x01, 1, "ioam.node_id", .u64, .rwp, .now, 0, 72057594037927935, [], 0⟩,
  ⟨0x0C02, 1, 0x02, 4, "ioam.ns", .u32, .rwp, .now, 0, 4294967295, [], 0⟩,
  ⟨0x0C02, 1, 0x06, 1, "ioam.ns_data", .u32, .rwp, .now, 0, 4294967295, [], 0⟩,
  ⟨0x0C02, 1, 0x07, 1, "ioam.ns_data_wide", .u64, .rwp, .now, 0, 18446744073709551615, [], 0⟩,
  ⟨0x0C02, 1, 0x08, 1, "ioam.filled", .u64, .ro, .now, 0, 18446744073709551615, [], 0⟩,
  ⟨0x0C02, 1, 0x09, 1, "ioam.overflow", .u64, .ro, .now, 0, 18446744073709551615, [], 0⟩,
  ⟨0x0C02, 1, 0x0A, 1, "ioam.skipped", .u64, .ro, .now, 0, 18446744073709551615, [], 0⟩,
  ⟨0x0C02, 1, 0x0B, 1, "ioam.dex", .u64, .ro, .now, 0, 18446744073709551615, [], 0⟩,
  ⟨0x0C03, 1, 0x00, 1, "glean.elements", .u8, .ro, .now, 0, 255, [], 6⟩,
  ⟨0x0C03, 1, 0x01, 1, "glean.period_us", .u32, .rwp, .now, 100, 10000000, [0], 0⟩]

/-- Rows 504 onwards of the object tables. -/
def Dict.rows14 : List DictRow := [
  ⟨0x0C03, 1, 0x02, 1, "glean.queue", .u16, .rwp, .now, 0, 2047, [65535], 65535⟩,
  ⟨0x0C03, 1, 0x03, 1, "glean.snapshots", .u64, .ro, .now, 0, 18446744073709551615, [], 0⟩,
  ⟨0x0C03, 1, 0x04, 1, "glean.missed", .u64, .ro, .now, 0, 18446744073709551615, [], 0⟩,
  ⟨0x0C03, 1, 0x05, 1, "glean.last_span_ns", .u32, .ro, .now, 0, 4294967295, [], 0⟩,
  ⟨0x0C03, 1, 0x06, 1, "glean.freeze", .bool, .rw, .now, 0, 1, [], 0⟩,
  ⟨0x0C08, 8, 0x00, 1, "stream.elements", .u8, .ro, .now, 0, 255, [], 5⟩,
  ⟨0x0C08, 8, 0x01, 1, "stream.cfg", .u64, .rwp, .now, 0, 18446744073709551615, [], 0⟩,
  ⟨0x0C08, 8, 0x02, 1, "stream.read", .u64, .ro, .now, 0, 18446744073709551615, [], 0⟩,
  ⟨0x0C08, 8, 0x03, 1, "stream.lost", .u64, .ro, .now, 0, 18446744073709551615, [], 0⟩,
  ⟨0x0C08, 8, 0x04, 1, "stream.records", .u64, .ro, .now, 0, 18446744073709551615, [], 0⟩,
  ⟨0x0C08, 8, 0x05, 1, "stream.state", .enum, .ro, .now, 0, 2, [], 0⟩,
  ⟨0x0C10, 8, 0x00, 1, "col.elements", .u8, .ro, .now, 0, 255, [], 10⟩,
  ⟨0x0C10, 8, 0x01, 1, "col.port", .u16, .rwp, .now, 0, 1023, [], 0⟩,
  ⟨0x0C10, 8, 0x02, 1, "col.queue", .u8, .rwp, .now, 0, 15, [], 0⟩,
  ⟨0x0C10, 8, 0x03, 1, "col.dmac", .u64, .rwp, .now, 0, 281474976710655, [], 0⟩,
  ⟨0x0C10, 8, 0x04, 1, "col.smac", .u64, .rwp, .now, 0, 281474976710655, [], 0⟩,
  ⟨0x0C10, 8, 0x05, 1, "col.vlan", .u16, .rwp, .now, 0, 4095, [], 0⟩,
  ⟨0x0C10, 8, 0x06, 1, "col.dst", .blob, .rwp, .now, 0, 65535, [], 0⟩,
  ⟨0x0C10, 8, 0x07, 1, "col.src", .blob, .rwp, .now, 0, 65535, [], 0⟩,
  ⟨0x0C10, 8, 0x08, 1, "col.udp", .u32, .rwp, .now, 0, 4294967295, [], 0⟩,
  ⟨0x0C10, 8, 0x09, 1, "col.dscp", .u8, .rwp, .now, 0, 63, [], 0⟩,
  ⟨0x0C10, 8, 0x0A, 1, "col.hops", .u8, .rwp, .now, 0, 255, [], 64⟩,
  ⟨0x0C18, 1, 0x00, 1, "sample.elements", .u8, .ro, .now, 0, 255, [], 15⟩,
  ⟨0x0C18, 1, 0x01, 15, "sample.n", .u32, .rwp, .now, 1, 16777216, [], 1000⟩,
  ⟨0x0C1C, 1, 0x00, 1, "iport.elements", .u8, .ro, .now, 0, 255, [], 17⟩,
  ⟨0x0C1C, 1, 0x01, 17, "iport.stats", .blob, .ro, .now, 0, 256, [], 0⟩,
  ⟨0x0C20, 4, 0x00, 1, "drop.elements", .u8, .ro, .now, 0, 255, [], 64⟩,
  ⟨0x0C20, 4, 0x01, 64, "drop.count", .u64, .ro, .now, 0, 18446744073709551615, [], 0⟩,
  ⟨0x0C40, 45, 0x00, 1, "perf.elements", .u8, .ro, .now, 0, 255, [], 11⟩,
  ⟨0x0C40, 45, 0x01, 1, "perf.sel", .u64, .rw, .now, 0, 18446744073709551615, [], 0⟩,
  ⟨0x0C40, 45, 0x02, 1, "perf.enable", .bitset, .rw, .now, 0, 255, [], 0⟩,
  ⟨0x0C40, 45, 0x03, 8, "perf.ctr", .u64, .rw, .now, 0, 0, [], 0⟩,
  ⟨0x0C40, 45, 0x0B, 1, "perf.wrap", .bitset, .rw, .now, 0, 255, [], 0⟩,
  ⟨0x0C70, 16, 0x00, 1, "perf.elements", .u8, .ro, .now, 0, 255, [], 11⟩,
  ⟨0x0C70, 16, 0x01, 1, "perf.sel", .u64, .rw, .now, 0, 18446744073709551615, [], 0⟩,
  ⟨0x0C70, 16, 0x02, 1, "perf.enable", .bitset, .rw, .now, 0, 255, [], 0⟩,
  ⟨0x0C70, 16, 0x03, 8, "perf.ctr", .u64, .rw, .now, 0, 0, [], 0⟩,
  ⟨0x0C70, 16, 0x0B, 1, "perf.wrap", .bitset, .rw, .now, 0, 255, [], 0⟩,
  ⟨0x0C80, 64, 0x00, 1, "portstats.elements", .u8, .ro, .now, 0, 255, [], 16⟩,
  ⟨0x0C80, 64, 0x01, 16, "port.stats", .blob, .ro, .now, 0, 256, [], 0⟩,
  ⟨0x0CC0, 64, 0x00, 1, "porthist.elements", .u8, .ro, .now, 0, 255, [], 16⟩]

/-- Rows 540 onwards of the object tables. -/
def Dict.rows15 : List DictRow := [
  ⟨0x0CC0, 64, 0x01, 16, "port.hist.lat", .blob, .ro, .now, 0, 256, [], 0⟩,
  ⟨0x0D00, 1, 0x00, 1, "err.elements", .u8, .ro, .now, 0, 255, [], 13⟩,
  ⟨0x0D00, 1, 0x01, 1, "err.corrected", .u64, .ro, .now, 0, 18446744073709551615, [], 0⟩,
  ⟨0x0D00, 1, 0x02, 1, "err.contained", .u64, .ro, .now, 0, 18446744073709551615, [], 0⟩,
  ⟨0x0D00, 1, 0x03, 1, "err.fatal", .bitset, .rw, .now, 0, 511, [], 0⟩,
  ⟨0x0D00, 1, 0x04, 1, "err.log", .blob, .ro, .now, 0, 8192, [], 0⟩,
  ⟨0x0D00, 1, 0x05, 1, "err.log.count", .u64, .ro, .now, 0, 18446744073709551615, [], 0⟩,
  ⟨0x0D00, 1, 0x06, 1, "err.corrected.limit", .u32, .rwp, .now, 1, 1000000000, [], 1000⟩,
  ⟨0x0D00, 1, 0x07, 1, "err.bank.repairs", .u64, .ro, .now, 0, 18446744073709551615, [], 0⟩,
  ⟨0x0D00, 1, 0x08, 1, "err.bank.drops", .u64, .ro, .now, 0, 18446744073709551615, [], 0⟩,
  ⟨0x0D00, 1, 0x09, 1, "err.shadow.repairs", .u64, .ro, .now, 0, 18446744073709551615, [], 0⟩,
  ⟨0x0D00, 1, 0x0A, 1, "err.state.resets", .u64, .ro, .now, 0, 18446744073709551615, [], 0⟩,
  ⟨0x0D00, 1, 0x0B, 1, "err.counter.resets", .u64, .ro, .now, 0, 18446744073709551615, [], 0⟩,
  ⟨0x0D00, 1, 0x0C, 1, "err.life.equiv_h", .u32, .ro, .now, 0, 4294967295, [], 0⟩,
  ⟨0x0D00, 1, 0x0D, 1, "err.life.left_pct", .u8, .ro, .now, 0, 255, [], 100⟩,
  ⟨0x0D01, 1, 0x00, 1, "crash.elements", .u8, .ro, .now, 0, 255, [], 7⟩,
  ⟨0x0D01, 1, 0x01, 1, "err.crash.capture", .bool, .wo, .now, 0, 1, [], 0⟩,
  ⟨0x0D01, 1, 0x02, 1, "err.crash.count", .u64, .ro, .now, 0, 18446744073709551615, [], 0⟩,
  ⟨0x0D01, 1, 0x03, 1, "err.crash.seq", .u32, .rw, .now, 0, 4294967295, [], 0⟩,
  ⟨0x0D01, 1, 0x04, 1, "err.crash.index", .u64, .rw, .now, 0, 18446744073709551615, [], 0⟩,
  ⟨0x0D01, 1, 0x05, 1, "err.crash.status", .enum, .ro, .now, 0, 2, [], 0⟩,
  ⟨0x0D01, 1, 0x06, 1, "err.crash.record", .blob, .ro, .now, 0, 65536, [], 0⟩,
  ⟨0x0D01, 1, 0x07, 1, "err.crash.last", .blob, .ro, .now, 0, 256, [], 0⟩,
  ⟨0x0D02, 1, 0x00, 1, "exh.elements", .u8, .ro, .now, 0, 255, [], 3⟩,
  ⟨0x0D02, 1, 0x01, 1, "err.exhaust.warn_pct", .u8, .rwp, .now, 50, 99, [], 90⟩,
  ⟨0x0D02, 1, 0x02, 1, "err.exhaust.state", .blob, .ro, .now, 0, 48, [], 0⟩,
  ⟨0x0D02, 1, 0x03, 1, "err.exhaust.events", .u32, .ro, .now, 0, 4294967295, [], 0⟩,
  ⟨0x1000, 1024, 0x00, 1, "lane.elements", .u8, .ro, .now, 0, 255, [], 14⟩,
  ⟨0x1000, 1024, 0x01, 1, "lane.tx.polarity", .bool, .rwp, .now, 0, 1, [], 0⟩,
  ⟨0x1000, 1024, 0x02, 1, "lane.rx.polarity", .bool, .rwp, .now, 0, 1, [], 0⟩,
  ⟨0x1000, 1024, 0x03, 1, "lane.tx.phys", .u8, .rwp, .now, 0, 63, [], 0⟩,
  ⟨0x1000, 1024, 0x04, 1, "lane.rx.phys", .u8, .rwp, .now, 0, 63, [], 0⟩,
  ⟨0x1000, 1024, 0x05, 1, "lane.ctle.mode", .enum, .rwp, .now, 0, 1, [], 0⟩,
  ⟨0x1000, 1024, 0x06, 1, "lane.ctle.peak", .u8, .rwp, .now, 0, 36, [], 18⟩,
  ⟨0x1000, 1024, 0x07, 1, "lane.tx.fir", .blob, .rw, .now, 0, 65535, [], 0⟩,
  ⟨0x1000, 1024, 0x08, 1, "lane.adapt.freeze", .bool, .rw, .now, 0, 1, [], 0⟩]

/-- Rows 576 onwards of the object tables. -/
def Dict.rows16 : List DictRow := [
  ⟨0x1000, 1024, 0x09, 1, "lane.adapt.restart", .bool, .wo, .now, 0, 1, [], 0⟩,
  ⟨0x1000, 1024, 0x0A, 1, "lane.adapt.state", .enum, .ro, .now, 0, 4, [], 0⟩,
  ⟨0x1000, 1024, 0x0B, 1, "lane.snr", .u16, .ro, .now, 0, 65535, [], 0⟩,
  ⟨0x1000, 1024, 0x0C, 1, "lane.ffe", .blob, .ro, .now, 0, 65535, [], 0⟩,
  ⟨0x1000, 1024, 0x0D, 1, "lane.symbol_errors", .u64, .ro, .now, 0, 18446744073709551615, [], 0⟩,
  ⟨0x1000, 1024, 0x0E, 1, "lane.los_events", .u32, .ro, .now, 0, 4294967295, [], 0⟩,
  ⟨0x1400, 1024, 0x00, 1, "port.elements", .u8, .ro, .now, 0, 255, [], 19⟩,
  ⟨0x1400, 1024, 0x01, 1, "port.admin", .enum, .rwp, .now, 0, 1, [], 0⟩,
  ⟨0x1400, 1024, 0x02, 1, "port.speed", .enum, .rwp, .now, 0, 13, [], 0⟩,
  ⟨0x1400, 1024, 0x03, 1, "port.interface", .enum, .rwp, .now, 0, 2, [], 1⟩,
  ⟨0x1400, 1024, 0x04, 1, "port.fec", .enum, .rwp, .now, 0, 2, [], 2⟩,
  ⟨0x1400, 1024, 0x05, 1, "port.an.enable", .bool, .rwp, .now, 0, 1, [], 1⟩,
  ⟨0x1400, 1024, 0x06, 1, "port.an.abilities", .bitset, .rwp, .now, 0, 32766, [], 0⟩,
  ⟨0x1400, 1024, 0x07, 1, "port.lt.enable", .bool, .rwp, .now, 0, 1, [], 1⟩,
  ⟨0x1400, 1024, 0x08, 1, "port.max_frame", .u16, .rwp, .now, 1518, 16000, [], 9216⟩,
  ⟨0x1400, 1024, 0x09, 1, "port.debounce.up", .u16, .rwp, .now, 0, 1000, [], 10⟩,
  ⟨0x1400, 1024, 0x0A, 1, "port.debounce.down", .u16, .rwp, .now, 0, 1000, [], 0⟩,
  ⟨0x1400, 1024, 0x0B, 1, "port.state", .enum, .ro, .now, 0, 6, [], 0⟩,
  ⟨0x1400, 1024, 0x0C, 1, "port.down_reason", .enum, .ro, .now, 0, 11, [], 0⟩,
  ⟨0x1400, 1024, 0x0D, 1, "port.last_change", .time, .ro, .now, 0, 79228162514264337593543950335, [], 0⟩,
  ⟨0x1400, 1024, 0x0E, 1, "port.link_ups", .u32, .ro, .now, 0, 4294967295, [], 0⟩,
  ⟨0x1400, 1024, 0x0F, 1, "port.flaps", .u32, .ro, .now, 0, 4294967295, [], 0⟩,
  ⟨0x1400, 1024, 0x10, 1, "port.train_failures", .u32, .ro, .now, 0, 4294967295, [], 0⟩,
  ⟨0x1400, 1024, 0x11, 1, "port.fec.corrected", .u64, .ro, .now, 0, 18446744073709551615, [], 0⟩,
  ⟨0x1400, 1024, 0x12, 1, "port.fec.uncorrected", .u64, .ro, .now, 0, 18446744073709551615, [], 0⟩,
  ⟨0x1400, 1024, 0x13, 1, "port.fec.degrade_limit", .u32, .rwp, .now, 0, 4294967295, [], 0⟩,
  ⟨0x1811, 2, 0x00, 1, "mport.elements", .u8, .ro, .now, 0, 255, [], 19⟩,
  ⟨0x1811, 2, 0x01, 1, "mport.admin", .enum, .rwp, .now, 0, 1, [], 1⟩,
  ⟨0x1811, 2, 0x02, 1, "mport.mode", .enum, .rwp, .now, 0, 1, [], 0⟩,
  ⟨0x1811, 2, 0x03, 1, "mport.an.enable", .bool, .rwp, .now, 0, 1, [], 1⟩,
  ⟨0x1811, 2, 0x04, 1, "mport.ctle.mode", .enum, .rwp, .now, 0, 1, [], 0⟩,
  ⟨0x1811, 2, 0x05, 1, "mport.ctle.peak", .u8, .rwp, .now, 0, 15, [], 8⟩,
  ⟨0x1811, 2, 0x06, 1, "mport.state", .enum, .ro, .now, 0, 4, [], 0⟩,
  ⟨0x1811, 2, 0x07, 1, "mport.speed", .enum, .ro, .now, 0, 3, [], 0⟩,
  ⟨0x1811, 2, 0x08, 1, "mport.mac", .u64, .ro, .now, 0, 18446744073709551615, [], 0⟩,
  ⟨0x1811, 2, 0x09, 1, "mport.ipv4.mode", .enum, .rwp, .now, 0, 2, [], 1⟩]

/-- Rows 612 onwards of the object tables. -/
def Dict.rows17 : List DictRow := [
  ⟨0x1811, 2, 0x0A, 1, "mport.ipv4.addr", .u32, .rwp, .now, 0, 4294967295, [], 0⟩,
  ⟨0x1811, 2, 0x0B, 1, "mport.ipv4.plen", .u8, .rwp, .now, 0, 32, [], 24⟩,
  ⟨0x1811, 2, 0x0C, 1, "mport.ipv4.gw", .u32, .rwp, .now, 0, 4294967295, [], 0⟩,
  ⟨0x1811, 2, 0x0D, 1, "mport.ipv6.addr", .blob, .rwp, .now, 0, 16, [], 0⟩,
  ⟨0x1811, 2, 0x0E, 1, "mport.ipv6.plen", .u8, .rwp, .now, 1, 128, [], 64⟩,
  ⟨0x1811, 2, 0x0F, 1, "mport.ipv6.dad", .enum, .ro, .now, 0, 3, [], 0⟩,
  ⟨0x1811, 2, 0x10, 1, "mport.lldp.neighbor", .blob, .ro, .now, 0, 1500, [], 0⟩,
  ⟨0x1811, 2, 0x11, 1, "mport.cg_errors", .u64, .ro, .now, 0, 18446744073709551615, [], 0⟩,
  ⟨0x1811, 2, 0x12, 1, "mport.link_losses", .u32, .ro, .now, 0, 4294967295, [], 0⟩,
  ⟨0x1811, 2, 0x13, 1, "mport.rx.discards", .u64, .ro, .now, 0, 18446744073709551615, [], 0⟩,
  ⟨0x2000, 2048, 0x00, 1, "dq.elements", .u8, .ro, .now, 0, 255, [], 17⟩,
  ⟨0x2000, 2048, 0x01, 1, "dq.ctl", .enum, .wo, .now, 1, 7, [], 0⟩,
  ⟨0x2000, 2048, 0x02, 1, "dq.ctl.status", .enum, .ro, .now, 0, 3, [], 0⟩,
  ⟨0x2000, 2048, 0x03, 1, "dq.home", .enum, .ro, .now, 0, 2, [], 0⟩,
  ⟨0x2000, 2048, 0x04, 1, "dq.state", .enum, .ro, .now, 0, 5, [], 0⟩,
  ⟨0x2000, 2048, 0x05, 1, "dq.sq.prod", .u16, .ro, .now, 0, 65535, [], 0⟩,
  ⟨0x2000, 2048, 0x06, 1, "dq.sq.cons", .u16, .ro, .now, 0, 65535, [], 0⟩,
  ⟨0x2000, 2048, 0x07, 1, "dq.cq.tail", .u16, .ro, .now, 0, 65535, [], 0⟩,
  ⟨0x2000, 2048, 0x08, 1, "dq.cq.head", .u16, .ro, .now, 0, 65535, [], 0⟩,
  ⟨0x2000, 2048, 0x09, 1, "dq.err.reason", .u8, .ro, .now, 0, 255, [], 0⟩,
  ⟨0x2000, 2048, 0x0A, 1, "dq.err.index", .u16, .ro, .now, 0, 65535, [], 0⟩,
  ⟨0x2000, 2048, 0x0B, 1, "dq.err.time", .time, .ro, .now, 0, 79228162514264337593543950335, [], 0⟩,
  ⟨0x2000, 2048, 0x0C, 1, "dq.items", .u64, .ro, .now, 0, 18446744073709551615, [], 0⟩,
  ⟨0x2000, 2048, 0x0D, 1, "dq.bytes", .u64, .ro, .now, 0, 18446744073709551615, [], 0⟩,
  ⟨0x2000, 2048, 0x0E, 1, "dq.faults", .u32, .ro, .now, 0, 4294967295, [], 0⟩,
  ⟨0x2000, 2048, 0x0F, 1, "dq.cq_stalls", .u64, .ro, .now, 0, 18446744073709551615, [], 0⟩,
  ⟨0x2000, 2048, 0x10, 1, "dq.last_block", .u64, .ro, .now, 0, 18446744073709551615, [], 0⟩,
  ⟨0x2000, 2048, 0x11, 1, "dq.prefetched", .u8, .ro, .now, 0, 255, [], 0⟩,
  ⟨0x4000, 16384, 0x00, 1, "eq.elements", .u8, .ro, .now, 0, 255, [], 48⟩,
  ⟨0x4000, 16384, 0x01, 1, "eq.pool", .u8, .rwp, .now, 0, 7, [], 0⟩,
  ⟨0x4000, 16384, 0x02, 1, "eq.factor", .enum, .rwp, .now, 0, 10, [], 7⟩,
  ⟨0x4000, 16384, 0x03, 1, "eq.min", .u32, .rwp, .now, 0, 65535, [], 16⟩,
  ⟨0x4000, 16384, 0x04, 1, "eq.pushout_class", .u8, .rwp, .now, 0, 7, [], 0⟩,
  ⟨0x4000, 16384, 0x05, 1, "eq.age_limit", .u32, .rwp, .now, 1, 60000, [], 500⟩,
  ⟨0x4000, 16384, 0x06, 1, "eq.depth", .u32, .ro, .now, 0, 4294967295, [], 0⟩,
  ⟨0x4000, 16384, 0x07, 1, "eq.depth.pkts", .u32, .ro, .now, 0, 4294967295, [], 0⟩]

/-- Rows 648 onwards of the object tables. -/
def Dict.rows18 : List DictRow := [
  ⟨0x4000, 16384, 0x08, 1, "eq.depth.peak", .u32, .rw, .now, 0, 0, [], 0⟩,
  ⟨0x4000, 16384, 0x09, 1, "eq.enq.pkts", .u64, .ro, .now, 0, 18446744073709551615, [], 0⟩,
  ⟨0x4000, 16384, 0x0A, 1, "eq.enq.bytes", .u64, .ro, .now, 0, 18446744073709551615, [], 0⟩,
  ⟨0x4000, 16384, 0x0B, 1, "eq.drop.threshold", .u64, .ro, .now, 0, 18446744073709551615, [], 0⟩,
  ⟨0x4000, 16384, 0x0C, 1, "eq.drop.pushed_out", .u64, .ro, .now, 0, 18446744073709551615, [], 0⟩,
  ⟨0x4000, 16384, 0x0D, 1, "eq.drop.port_down", .u64, .ro, .now, 0, 18446744073709551615, [], 0⟩,
  ⟨0x4000, 16384, 0x0E, 1, "eq.drop.aged", .u64, .ro, .now, 0, 18446744073709551615, [], 0⟩,
  ⟨0x4000, 16384, 0x0F, 1, "eq.flushed", .u64, .ro, .now, 0, 18446744073709551615, [], 0⟩,
  ⟨0x4000, 16384, 0x10, 1, "eq.ecn_marked", .u64, .ro, .now, 0, 18446744073709551615, [], 0⟩,
  ⟨0x4000, 16384, 0x11, 1, "eq.state", .enum, .ro, .now, 0, 3, [], 0⟩,
  ⟨0x4000, 16384, 0x12, 1, "eq.cut_through", .u64, .ro, .now, 0, 18446744073709551615, [], 0⟩,
  ⟨0x4000, 16384, 0x13, 1, "eq.headroom", .u32, .ro, .now, 0, 4294967295, [], 0⟩,
  ⟨0x4000, 16384, 0x14, 1, "eq.spill.enable", .bool, .rwp, .now, 0, 1, [], 0⟩,
  ⟨0x4000, 16384, 0x15, 1, "eq.spill.threshold", .u32, .rwp, .now, 64, 1048576, [], 0⟩,
  ⟨0x4000, 16384, 0x16, 1, "eq.spill.max_bales", .u32, .rwp, .now, 1, 16777215, [], 1048576⟩,
  ⟨0x4000, 16384, 0x17, 1, "eq.spill.state", .enum, .ro, .now, 0, 2, [], 0⟩,
  ⟨0x4000, 16384, 0x18, 1, "eq.spill.bales", .u32, .ro, .now, 0, 4294967295, [], 0⟩,
  ⟨0x4000, 16384, 0x19, 1, "eq.spill.pkts", .u64, .ro, .now, 0, 18446744073709551615, [], 0⟩,
  ⟨0x4000, 16384, 0x1A, 1, "eq.spill.forced", .u32, .ro, .now, 0, 4294967295, [], 0⟩,
  ⟨0x4000, 16384, 0x1B, 1, "eq.spill.ecc_drops", .u64, .ro, .now, 0, 18446744073709551615, [], 0⟩,
  ⟨0x4000, 16384, 0x1C, 1, "eq.sched.tier", .enum, .rwp, .now, 0, 4, [], 0⟩,
  ⟨0x4000, 16384, 0x1D, 1, "eq.sched.weight", .u16, .rwp, .now, 1, 4096, [], 1⟩,
  ⟨0x4000, 16384, 0x1E, 1, "eq.shaper.rate", .u32, .rwp, .now, 157, 25000000, [0], 0⟩,
  ⟨0x4000, 16384, 0x1F, 1, "eq.shaper.burst", .u32, .rwp, .now, 0, 16777215, [], 0⟩,
  ⟨0x4000, 16384, 0x20, 1, "eq.sched.profile", .u8, .rwp, .now, 0, 31, [], 0⟩,
  ⟨0x4000, 16384, 0x21, 1, "eq.tx.pkts", .u64, .ro, .now, 0, 18446744073709551615, [], 0⟩,
  ⟨0x4000, 16384, 0x22, 1, "eq.tx.bytes", .u64, .ro, .now, 0, 18446744073709551615, [], 0⟩,
  ⟨0x4000, 16384, 0x23, 1, "eq.shaper.blocked", .u64, .ro, .now, 0, 18446744073709551615, [], 0⟩,
  ⟨0x4000, 16384, 0x24, 1, "eq.launch.late_ns", .u32, .rwp, .now, 0, 1000000000, [], 1000⟩,
  ⟨0x4000, 16384, 0x25, 1, "eq.launch.late_action", .enum, .rwp, .now, 0, 1, [], 0⟩,
  ⟨0x4000, 16384, 0x26, 1, "eq.tel.lat_threshold", .u32, .rwp, .now, 0, 4294967295, [], 0⟩,
  ⟨0x4000, 16384, 0x27, 1, "eq.hist.lat", .blob, .ro, .now, 0, 256, [], 0⟩,
  ⟨0x4000, 16384, 0x28, 1, "eq.hist.depth", .blob, .ro, .now, 0, 256, [], 0⟩,
  ⟨0x4000, 16384, 0x29, 1, "eq.hist.clear", .bool, .wo, .now, 0, 1, [], 0⟩,
  ⟨0x4000, 16384, 0x2A, 1, "eq.hist.since", .time, .ro, .now, 0, 79228162514264337593543950335, [], 0⟩,
  ⟨0x4000, 16384, 0x2B, 1, "eq.lat.max", .u32, .rw, .now, 0, 0, [], 0⟩]

/-- Rows 684 onwards of the object tables. -/
def Dict.rows19 : List DictRow := [
  ⟨0x4000, 16384, 0x2C, 1, "eq.lat.sum", .u64, .ro, .now, 0, 18446744073709551615, [], 0⟩,
  ⟨0x4000, 16384, 0x2D, 1, "eq.lat.pkts", .u64, .ro, .now, 0, 18446744073709551615, [], 0⟩,
  ⟨0x4000, 16384, 0x2E, 1, "eq.postcards", .u64, .ro, .now, 0, 18446744073709551615, [], 0⟩,
  ⟨0x4000, 16384, 0x2F, 1, "eq.drop.total", .u64, .ro, .now, 0, 18446744073709551615, [], 0⟩,
  ⟨0x4000, 16384, 0x30, 1, "eq.drop.last", .u8, .ro, .now, 0, 255, [], 0⟩]

/-- Every row of the object tables, the row of lowest object first (R379, R380), in pieces with the range of objects
each piece spans. -/
def Dict.pieces : List (Nat × Nat × List DictRow) := [
  (0x0000, 0x0102, Dict.rows0),
  (0x0102, 0x0200, Dict.rows1),
  (0x0200, 0x0204, Dict.rows2),
  (0x0204, 0x0304, Dict.rows3),
  (0x0304, 0x0411, Dict.rows4),
  (0x0410, 0x0501, Dict.rows5),
  (0x0502, 0x0608, Dict.rows6),
  (0x0608, 0x0701, Dict.rows7),
  (0x0701, 0x0800, Dict.rows8),
  (0x0800, 0x0900, Dict.rows9),
  (0x0900, 0x0930, Dict.rows10),
  (0x0930, 0x0A00, Dict.rows11),
  (0x0A00, 0x0B50, Dict.rows12),
  (0x0B40, 0x0C03, Dict.rows13),
  (0x0C03, 0x0CFF, Dict.rows14),
  (0x0CC0, 0x13FF, Dict.rows15),
  (0x1000, 0x1812, Dict.rows16),
  (0x1811, 0x7FFF, Dict.rows17),
  (0x4000, 0x7FFF, Dict.rows18),
  (0x4000, 0x7FFF, Dict.rows19)]

end Sys2Proof.Machine
end

