-- ==== Sys2Proof/Machine/Keys.lean ====
section
/-! DEFINITION. The numbers of the dictionary's elements by name: object × 256 + element, as tel.wrap.select spells
an element (R14, R320). `i` is the index of a repeated object, `j` the index within a range of elements. -/
namespace Sys2Proof.Machine

/-- The number of an element: object × 256 + element (R14, R320). -/
def key (obj el : Nat) : Nat := obj * 256 + el

namespace K

-- R36 of 01_the_part_in_one_pass.md
def devProfileSelect : Nat := key 0x0140 0x01
def devProfileActive : Nat := key 0x0140 0x02
def devProfileClearOverrides : Nat := key 0x0140 0x03
def devProfileOverrides : Nat := key 0x0140 0x04
-- R65 of 02_lanes_and_ports.md
def tileReach (i : Nat) : Nat := key (0x0180 + i) 0x01
def tileMcuState (i : Nat) : Nat := key (0x0180 + i) 0x02
def tilePllNrz (i : Nat) : Nat := key (0x0180 + i) 0x03
def tileRouriT2cSpares (i : Nat) : Nat := key (0x0180 + i) 0x04
def tileRouriC2tSpares (i : Nat) : Nat := key (0x0180 + i) 0x05
def tileRouriT2cLost (i : Nat) : Nat := key (0x0180 + i) 0x06
def tileRouriC2tLost (i : Nat) : Nat := key (0x0180 + i) 0x07
def tileRouriT2cCapacity (i : Nat) : Nat := key (0x0180 + i) 0x08
def tileRouriC2tCapacity (i : Nat) : Nat := key (0x0180 + i) 0x09
def tileRouriRepairs (i : Nat) : Nat := key (0x0180 + i) 0x0A
def tileRouriCrcDrops (i : Nat) : Nat := key (0x0180 + i) 0x0B
def tileRouriOverrun (i : Nat) : Nat := key (0x0180 + i) 0x0C
def tileSeedSave (i : Nat) : Nat := key (0x0180 + i) 0x0D
def tileSeedStore (i : Nat) : Nat := key (0x0180 + i) 0x0E
def tileLanePower (i : Nat) : Nat := key (0x0180 + i) 0x0F
-- R66 of 02_lanes_and_ports.md
def laneTxPolarity (i : Nat) : Nat := key (0x1000 + i) 0x01
def laneRxPolarity (i : Nat) : Nat := key (0x1000 + i) 0x02
def laneTxPhys (i : Nat) : Nat := key (0x1000 + i) 0x03
def laneRxPhys (i : Nat) : Nat := key (0x1000 + i) 0x04
def laneCtleMode (i : Nat) : Nat := key (0x1000 + i) 0x05
def laneCtlePeak (i : Nat) : Nat := key (0x1000 + i) 0x06
def laneTxFir (i : Nat) : Nat := key (0x1000 + i) 0x07
def laneAdaptFreeze (i : Nat) : Nat := key (0x1000 + i) 0x08
def laneAdaptRestart (i : Nat) : Nat := key (0x1000 + i) 0x09
def laneAdaptState (i : Nat) : Nat := key (0x1000 + i) 0x0A
def laneSnr (i : Nat) : Nat := key (0x1000 + i) 0x0B
def laneFfe (i : Nat) : Nat := key (0x1000 + i) 0x0C
def laneSymbolErrors (i : Nat) : Nat := key (0x1000 + i) 0x0D
def laneLosEvents (i : Nat) : Nat := key (0x1000 + i) 0x0E
-- R67 of 02_lanes_and_ports.md
def portAdmin (i : Nat) : Nat := key (0x1400 + i) 0x01
def portSpeed (i : Nat) : Nat := key (0x1400 + i) 0x02
def portInterface (i : Nat) : Nat := key (0x1400 + i) 0x03
def portFec (i : Nat) : Nat := key (0x1400 + i) 0x04
def portAnEnable (i : Nat) : Nat := key (0x1400 + i) 0x05
def portAnAbilities (i : Nat) : Nat := key (0x1400 + i) 0x06
def portLtEnable (i : Nat) : Nat := key (0x1400 + i) 0x07
def portMaxFrame (i : Nat) : Nat := key (0x1400 + i) 0x08
def portDebounceUp (i : Nat) : Nat := key (0x1400 + i) 0x09
def portDebounceDown (i : Nat) : Nat := key (0x1400 + i) 0x0A
def portState (i : Nat) : Nat := key (0x1400 + i) 0x0B
def portDownReason (i : Nat) : Nat := key (0x1400 + i) 0x0C
def portLastChange (i : Nat) : Nat := key (0x1400 + i) 0x0D
def portLinkUps (i : Nat) : Nat := key (0x1400 + i) 0x0E
def portFlaps (i : Nat) : Nat := key (0x1400 + i) 0x0F
def portTrainFailures (i : Nat) : Nat := key (0x1400 + i) 0x10
def portFecCorrected (i : Nat) : Nat := key (0x1400 + i) 0x11
def portFecUncorrected (i : Nat) : Nat := key (0x1400 + i) 0x12
def portFecDegradeLimit (i : Nat) : Nat := key (0x1400 + i) 0x13
-- R89 of 03_thresher_parsing.md
def thresherPackets (i : Nat) : Nat := key (0x0710 + i) 0x01
def thresherIncomplete (i : Nat) : Nat := key (0x0710 + i) 0x02
def thresherExcDepth (i : Nat) : Nat := key (0x0710 + i) 0x03
def thresherExcBudget (i : Nat) : Nat := key (0x0710 + i) 0x04
def thresherExcHeaders (i : Nat) : Nat := key (0x0710 + i) 0x05
def thresherExcTruncated (i : Nat) : Nat := key (0x0710 + i) 0x06
def thresherExcNomatch (i : Nat) : Nat := key (0x0710 + i) 0x07
def thresherExcProgram (i : Nat) : Nat := key (0x0710 + i) 0x08
def thresherPtpEvents (i : Nat) : Nat := key (0x0710 + i) 0x09
def thresherPeakTransitions (i : Nat) : Nat := key (0x0710 + i) 0x0A
def thresherPeakHeaders (i : Nat) : Nat := key (0x0710 + i) 0x0B
def thresherDepth (i : Nat) : Nat := key (0x0710 + i) 0x0C
def thresherLastException (i : Nat) : Nat := key (0x0710 + i) 0x0D
def thresherEventMask (i : Nat) : Nat := key (0x0710 + i) 0x0E
-- R128 of 04_lookup_and_classification.md
def tblEmUsed : Nat := key 0x0800 0x01
def tblEmStashUsed : Nat := key 0x0800 0x02
def tblEmNoRoom : Nat := key 0x0800 0x03
def tblLpmShortUsed : Nat := key 0x0800 0x04
def tblLpmLongUsed : Nat := key 0x0800 0x05
def tblNhUsed : Nat := key 0x0800 0x06
def tblGrpUsed : Nat := key 0x0800 0x07
def tblMbrUsed : Nat := key 0x0800 0x08
def tblSlotUsed : Nat := key 0x0800 0x09
def tblSlotLargestFree : Nat := key 0x0800 0x0A
def tblCmdBlocks : Nat := key 0x0800 0x0B
def tblCmdFailed : Nat := key 0x0800 0x0C
def tblSettling : Nat := key 0x0800 0x0D
def tblLbDrops : Nat := key 0x0800 0x0E
-- R129 of 04_lookup_and_classification.md
def hashToeplitzKey (j : Nat) : Nat := key 0x0801 (0x01 + j)
def tcamUsed : Nat := key 0x0802 0x01
def tcamQueries : Nat := key 0x0802 0x02
def tcamAdmissionRate : Nat := key 0x0802 0x03
def tcamAdmissionBurst : Nat := key 0x0802 0x04
def tcamAdmissionDrops : Nat := key 0x0802 0x05
def tcamRefused : Nat := key 0x0802 0x06
def tcamPrivCount : Nat := key 0x0802 0x07
def privPort (j : Nat) : Nat := key 0x0803 (0x01 + j)
-- R130 of 04_lookup_and_classification.md
def barnCorrected (i : Nat) : Nat := key (0x0810 + i) 0x01
def barnUncorrectable (i : Nat) : Nat := key (0x0810 + i) 0x02
def barnPeerRepairs (i : Nat) : Nat := key (0x0810 + i) 0x03
def barnScrubPassMs (i : Nat) : Nat := key (0x0810 + i) 0x04
def winnowUsed (i : Nat) : Nat := key (0x0820 + i) 0x01
def winnowHits (i : Nat) : Nat := key (0x0820 + i) 0x02
def winnowMisses (i : Nat) : Nat := key (0x0820 + i) 0x03
-- R159 of 05_programs_and_epochs.md
def epochCount : Nat := key 0x0700 0x01
def epochBit : Nat := key 0x0700 0x02
def epochFlipSeq : Nat := key 0x0700 0x03
def epochFlipStatus : Nat := key 0x0700 0x04
def epochFlipDoneSeq : Nat := key 0x0700 0x05
def epochFlipTime : Nat := key 0x0700 0x06
def epochStageState : Nat := key 0x0700 0x07
def epochStageEntries : Nat := key 0x0700 0x08
def epochStageAbort : Nat := key 0x0700 0x09
def epochStageReset : Nat := key 0x0700 0x0A
def epochAbortCause : Nat := key 0x0700 0x0B
def epochAbortUnit : Nat := key 0x0700 0x0C
def epochAbortTag : Nat := key 0x0700 0x0D
def epochAbortRecord : Nat := key 0x0700 0x0E
def epochDrainNs : Nat := key 0x0700 0x0F
def epochReleaseLimit : Nat := key 0x0700 0x10
def epochReleaseDrops : Nat := key 0x0700 0x11
def epochFlips : Nat := key 0x0700 0x12
def progStageOffset : Nat := key 0x0701 0x01
def progStageChunk : Nat := key 0x0701 0x02
def progStageLength : Nat := key 0x0701 0x03
def progLoadSeq : Nat := key 0x0701 0x04
def progLoadStatus : Nat := key 0x0701 0x05
def progLoadDoneSeq : Nat := key 0x0701 0x06
def progLoadFailSection : Nat := key 0x0701 0x07
def progLoadFailOffset : Nat := key 0x0701 0x08
def progLoadDiscard : Nat := key 0x0701 0x09
def progDeparseFaults : Nat := key 0x0701 0x0A
def progMaxBundle : Nat := key 0x0701 0x0B
def bankActive (i : Nat) : Nat := key (0x0730 + i) 0x01
def bankAImage (i : Nat) : Nat := key (0x0730 + i) 0x02
def bankBImage (i : Nat) : Nat := key (0x0730 + i) 0x03
def bankIdleState (i : Nat) : Nat := key (0x0730 + i) 0x04
def bankHeldPackets (i : Nat) : Nat := key (0x0730 + i) 0x05
-- R191 of 06_shared_buffer.md
def bufCellsTotal : Nat := key 0x0900 0x01
def bufCellsSlack : Nat := key 0x0900 0x02
def bufCellsFree : Nat := key 0x0900 0x03
def bufDescFree : Nat := key 0x0900 0x04
def bufDoubleFree : Nat := key 0x0900 0x05
def bufRefcountErrors : Nat := key 0x0900 0x06
def bufQuarantine : Nat := key 0x0900 0x07
def bufQuarantineOverflow : Nat := key 0x0900 0x08
def bufAuditPeriod : Nat := key 0x0900 0x09
def bufAuditSeq : Nat := key 0x0900 0x0A
def bufAuditStatus : Nat := key 0x0900 0x0B
def bufAuditLeaks : Nat := key 0x0900 0x0C
def bufEccCorrected : Nat := key 0x0900 0x0D
def bufEccUncorrectable : Nat := key 0x0900 0x0E
def bufListBreaks : Nat := key 0x0900 0x0F
def bufPfcSmac : Nat := key 0x0900 0x10
-- R192 of 06_shared_buffer.md
def poolMode (i : Nat) : Nat := key (0x0910 + i) 0x01
def poolSize (i : Nat) : Nat := key (0x0910 + i) 0x02
def poolUsed (i : Nat) : Nat := key (0x0910 + i) 0x03
def poolPeak (i : Nat) : Nat := key (0x0910 + i) 0x04
def poolWarn (i : Nat) : Nat := key (0x0910 + i) 0x05
def poolXoff (i : Nat) : Nat := key (0x0910 + i) 0x06
def poolXon (i : Nat) : Nat := key (0x0910 + i) 0x07
def poolPfcPrio (i : Nat) : Nat := key (0x0910 + i) 0x08
def poolEcnKmin (i : Nat) : Nat := key (0x0910 + i) 0x09
def poolEcnKmax (i : Nat) : Nat := key (0x0910 + i) 0x0A
def poolEcnPmax (i : Nat) : Nat := key (0x0910 + i) 0x0B
def poolXoffState (i : Nat) : Nat := key (0x0910 + i) 0x0C
def poolDrops (i : Nat) : Nat := key (0x0910 + i) 0x0D
def poolPushouts (i : Nat) : Nat := key (0x0910 + i) 0x0E
def poolWarnEvents (i : Nat) : Nat := key (0x0910 + i) 0x0F
def hrSize : Nat := key 0x0918 0x01
def hrUsed : Nat := key 0x0918 0x02
def hrPeak : Nat := key 0x0918 0x03
def hrDrops : Nat := key 0x0918 0x04
-- R193 of 06_shared_buffer.md
def mcSeq : Nat := key 0x0930 0x01
def mcOp : Nat := key 0x0930 0x02
def mcGroup : Nat := key 0x0930 0x03
def mcList : Nat := key 0x0930 0x04
def mcStatus : Nat := key 0x0930 0x05
def mcEntriesFree : Nat := key 0x0930 0x06
def mcGroupsUsed : Nat := key 0x0930 0x07
def mcCopyDrops : Nat := key 0x0930 0x08
def ctRow (j : Nat) : Nat := key 0x0940 (0x01 + j)
-- R196 of 06_shared_buffer.md
def eqPool (i : Nat) : Nat := key (0x4000 + i) 0x01
def eqFactor (i : Nat) : Nat := key (0x4000 + i) 0x02
def eqMin (i : Nat) : Nat := key (0x4000 + i) 0x03
def eqPushoutClass (i : Nat) : Nat := key (0x4000 + i) 0x04
def eqAgeLimit (i : Nat) : Nat := key (0x4000 + i) 0x05
def eqDepth (i : Nat) : Nat := key (0x4000 + i) 0x06
def eqDepthPkts (i : Nat) : Nat := key (0x4000 + i) 0x07
def eqDepthPeak (i : Nat) : Nat := key (0x4000 + i) 0x08
def eqEnqPkts (i : Nat) : Nat := key (0x4000 + i) 0x09
def eqEnqBytes (i : Nat) : Nat := key (0x4000 + i) 0x0A
def eqDropThreshold (i : Nat) : Nat := key (0x4000 + i) 0x0B
def eqDropPushedOut (i : Nat) : Nat := key (0x4000 + i) 0x0C
def eqDropPortDown (i : Nat) : Nat := key (0x4000 + i) 0x0D
def eqDropAged (i : Nat) : Nat := key (0x4000 + i) 0x0E
def eqFlushed (i : Nat) : Nat := key (0x4000 + i) 0x0F
def eqEcnMarked (i : Nat) : Nat := key (0x4000 + i) 0x10
def eqState (i : Nat) : Nat := key (0x4000 + i) 0x11
def eqCutThrough (i : Nat) : Nat := key (0x4000 + i) 0x12
def eqHeadroom (i : Nat) : Nat := key (0x4000 + i) 0x13
-- R234 of 07_granary.md
def granState : Nat := key 0x0A00 0x01
def granRegionLayout : Nat := key 0x0A00 0x02
def granSpillBalesTotal : Nat := key 0x0A00 0x03
def granSpillBalesFree : Nat := key 0x0A00 0x04
def granSpillBacklog : Nat := key 0x0A00 0x05
def granSpillWriteGbps : Nat := key 0x0A00 0x06
def granSpillReadGbps : Nat := key 0x0A00 0x07
def granEccCorrected : Nat := key 0x0A00 0x08
def granEccRetries : Nat := key 0x0A00 0x09
def granEccUncorrectable : Nat := key 0x0A00 0x0A
def granDropsEcc : Nat := key 0x0A00 0x0B
def granDropsRetired : Nat := key 0x0A00 0x0C
def granDoubleFree : Nat := key 0x0A00 0x0D
def granScrubPeriod : Nat := key 0x0A00 0x0E
def granScrubLastPass : Nat := key 0x0A00 0x0F
def granRetireCeLimit : Nat := key 0x0A00 0x10
def granReserveFree : Nat := key 0x0A00 0x11
def granSegmentsLost : Nat := key 0x0A00 0x12
def granAutoRetire : Nat := key 0x0A00 0x13
def granRetireDrainLimit : Nat := key 0x0A00 0x14
def granStackRetire : Nat := key 0x0A00 0x15
def granSpillXoffFree : Nat := key 0x0A00 0x16
def granSpillXonFree : Nat := key 0x0A00 0x17
def granMcShared : Nat := key 0x0A00 0x18
def granMcSharedFree : Nat := key 0x0A00 0x19
-- R235 of 07_granary.md
def gstackState (i : Nat) : Nat := key (0x0A10 + i) 0x01
def gstackRetireReason (i : Nat) : Nat := key (0x0A10 + i) 0x02
def gstackCorrected (i : Nat) : Nat := key (0x0A10 + i) 0x03
def gstackUncorrectable (i : Nat) : Nat := key (0x0A10 + i) 0x04
def gstackPprDone (i : Nat) : Nat := key (0x0A10 + i) 0x05
def gstackPprLeft (i : Nat) : Nat := key (0x0A10 + i) 0x06
def gstackRemaps (i : Nat) : Nat := key (0x0A10 + i) 0x07
def gstackBalesUsed (i : Nat) : Nat := key (0x0A10 + i) 0x08
def gstackUnretire (i : Nat) : Nat := key (0x0A10 + i) 0x09
-- R236 of 07_granary.md
def eqSpillEnable (i : Nat) : Nat := key (0x4000 + i) 0x14
def eqSpillThreshold (i : Nat) : Nat := key (0x4000 + i) 0x15
def eqSpillMaxBales (i : Nat) : Nat := key (0x4000 + i) 0x16
def eqSpillState (i : Nat) : Nat := key (0x4000 + i) 0x17
def eqSpillBales (i : Nat) : Nat := key (0x4000 + i) 0x18
def eqSpillPkts (i : Nat) : Nat := key (0x4000 + i) 0x19
def eqSpillForced (i : Nat) : Nat := key (0x4000 + i) 0x1A
def eqSpillEccDrops (i : Nat) : Nat := key (0x4000 + i) 0x1B
-- R259 of 08_scheduling_shaping_policing.md
def schedWheelLate : Nat := key 0x0B00 0x01
def schedWheelMaxLate : Nat := key 0x0B00 0x02
def schedOverflowPeak : Nat := key 0x0B00 0x03
def schedRenorms : Nat := key 0x0B00 0x04
def schedLaunchLateDrops : Nat := key 0x0B00 0x05
def schedLaunchIgnored : Nat := key 0x0B00 0x06
def ovhProfile (j : Nat) : Nat := key 0x0B01 (0x01 + j)
def polSeq : Nat := key 0x0B02 0x01
def polOp : Nat := key 0x0B02 0x02
def polIndex : Nat := key 0x0B02 0x03
def polCfg : Nat := key 0x0B02 0x04
def polStatus : Nat := key 0x0B02 0x05
def polConformPkts : Nat := key 0x0B02 0x06
def polConformBytes : Nat := key 0x0B02 0x07
def polDropPkts : Nat := key 0x0B02 0x08
def polDropBytes : Nat := key 0x0B02 0x09
def polDropsTotal : Nat := key 0x0B02 0x0A
-- R263 of 08_scheduling_shaping_policing.md
def eqSchedTier (i : Nat) : Nat := key (0x4000 + i) 0x1C
def eqSchedWeight (i : Nat) : Nat := key (0x4000 + i) 0x1D
def eqShaperRate (i : Nat) : Nat := key (0x4000 + i) 0x1E
def eqShaperBurst (i : Nat) : Nat := key (0x4000 + i) 0x1F
def eqSchedProfile (i : Nat) : Nat := key (0x4000 + i) 0x20
def eqTxPkts (i : Nat) : Nat := key (0x4000 + i) 0x21
def eqTxBytes (i : Nat) : Nat := key (0x4000 + i) 0x22
def eqShaperBlocked (i : Nat) : Nat := key (0x4000 + i) 0x23
-- R294 of 09_time_bases.md
def tbTime (i : Nat) : Nat := key (0x0600 + i) 0x01
def tbTimeSet (i : Nat) : Nat := key (0x0600 + i) 0x02
def tbStep (i : Nat) : Nat := key (0x0600 + i) 0x03
def tbRate (i : Nat) : Nat := key (0x0600 + i) 0x04
def tbRateSet (i : Nat) : Nat := key (0x0600 + i) 0x05
def tbServoMode (i : Nat) : Nat := key (0x0600 + i) 0x06
def tbServoSource (i : Nat) : Nat := key (0x0600 + i) 0x07
def tbOffset (i : Nat) : Nat := key (0x0600 + i) 0x08
def tbServoKp (i : Nat) : Nat := key (0x0600 + i) 0x09
def tbServoKi (i : Nat) : Nat := key (0x0600 + i) 0x0A
def tbServoStepNs (i : Nat) : Nat := key (0x0600 + i) 0x0B
def tbServoLockNs (i : Nat) : Nat := key (0x0600 + i) 0x0C
def tbHoldoverMs (i : Nat) : Nat := key (0x0600 + i) 0x0D
def tbServoState (i : Nat) : Nat := key (0x0600 + i) 0x0E
def tbMasterNew (i : Nat) : Nat := key (0x0600 + i) 0x0F
def tbOffsetLast (i : Nat) : Nat := key (0x0600 + i) 0x10
def tbRateFiltered (i : Nat) : Nat := key (0x0600 + i) 0x11
def tbRateSaved (i : Nat) : Nat := key (0x0600 + i) 0x12
def tbRateLimit (i : Nat) : Nat := key (0x0600 + i) 0x13
def tbSteps (i : Nat) : Nat := key (0x0600 + i) 0x14
def tbHoldovers (i : Nat) : Nat := key (0x0600 + i) 0x15
def tbOutliers (i : Nat) : Nat := key (0x0600 + i) 0x16
-- R295 of 09_time_bases.md
def cap0Cfg : Nat := key 0x0608 0x01
def cap1Cfg : Nat := key 0x0608 0x02
def cap0Pop : Nat := key 0x0608 0x03
def cap1Pop : Nat := key 0x0608 0x04
def cap0Overflow : Nat := key 0x0608 0x05
def cap1Overflow : Nat := key 0x0608 0x06
def out0Cfg : Nat := key 0x0608 0x07
def out1Cfg : Nat := key 0x0608 0x08
def out0Start : Nat := key 0x0608 0x09
def out0Period : Nat := key 0x0608 0x0A
def out1Start : Nat := key 0x0608 0x0B
def out1Period : Nat := key 0x0608 0x0C
def tsLatTx (j : Nat) : Nat := key 0x0609 (0x01 + j)
def tsLatRx (j : Nat) : Nat := key 0x0609 (0x0E + j)
def txtsOverflow (j : Nat) : Nat := key 0x060A (0x01 + j)
def tsOnestep : Nat := key 0x060A 0x11
def tsTc : Nat := key 0x060A 0x12
def tsSkipped : Nat := key 0x060A 0x13
-- R297 of 09_time_bases.md
def eqLaunchLateNs (i : Nat) : Nat := key (0x4000 + i) 0x24
def eqLaunchLateAction (i : Nat) : Nat := key (0x4000 + i) 0x25
-- R325 of 10_telemetry_and_counters.md
def telPcDropLimit : Nat := key 0x0C00 0x01
def telPcLimit : Nat := key 0x0C00 0x02
def telPcLimitEff : Nat := key 0x0C00 0x03
def telPcDropMask : Nat := key 0x0C00 0x04
def telPcWritten : Nat := key 0x0C00 0x05
def telPcSuppressed : Nat := key 0x0C00 0x06
def telStoreCapacity : Nat := key 0x0C00 0x07
def telStoreHead : Nat := key 0x0C00 0x08
def telWrapSelect : Nat := key 0x0C00 0x09
def telWrapBit : Nat := key 0x0C00 0x0A
def telWrapClear : Nat := key 0x0C00 0x0B
def telHistClearPort : Nat := key 0x0C00 0x0C
def telWrapEvents : Nat := key 0x0C00 0x0D
def tallyUsed (j : Nat) : Nat := key 0x0C01 (0x01 + j)
def tallyIdleS : Nat := key 0x0C01 0x05
def tallyEvictions : Nat := key 0x0C01 0x06
def tallyIdleExports : Nat := key 0x0C01 0x07
def tallySnapshot : Nat := key 0x0C01 0x08
def tallySnapshotStatus : Nat := key 0x0C01 0x09
def tallyClear : Nat := key 0x0C01 0x0A
def ioamNodeId : Nat := key 0x0C02 0x01
def ioamNs (j : Nat) : Nat := key 0x0C02 (0x02 + j)
def ioamNsData : Nat := key 0x0C02 0x06
def ioamNsDataWide : Nat := key 0x0C02 0x07
def ioamFilled : Nat := key 0x0C02 0x08
def ioamOverflow : Nat := key 0x0C02 0x09
def ioamSkipped : Nat := key 0x0C02 0x0A
def ioamDex : Nat := key 0x0C02 0x0B
def gleanPeriodUs : Nat := key 0x0C03 0x01
def gleanQueue : Nat := key 0x0C03 0x02
def gleanSnapshots : Nat := key 0x0C03 0x03
def gleanMissed : Nat := key 0x0C03 0x04
def gleanLastSpanNs : Nat := key 0x0C03 0x05
def gleanFreeze : Nat := key 0x0C03 0x06
def streamCfg (i : Nat) : Nat := key (0x0C08 + i) 0x01
def streamRead (i : Nat) : Nat := key (0x0C08 + i) 0x02
def streamLost (i : Nat) : Nat := key (0x0C08 + i) 0x03
def streamRecords (i : Nat) : Nat := key (0x0C08 + i) 0x04
def streamState (i : Nat) : Nat := key (0x0C08 + i) 0x05
def colPort (i : Nat) : Nat := key (0x0C10 + i) 0x01
def colQueue (i : Nat) : Nat := key (0x0C10 + i) 0x02
def colDmac (i : Nat) : Nat := key (0x0C10 + i) 0x03
def colSmac (i : Nat) : Nat := key (0x0C10 + i) 0x04
def colVlan (i : Nat) : Nat := key (0x0C10 + i) 0x05
def colDst (i : Nat) : Nat := key (0x0C10 + i) 0x06
def colSrc (i : Nat) : Nat := key (0x0C10 + i) 0x07
def colUdp (i : Nat) : Nat := key (0x0C10 + i) 0x08
def colDscp (i : Nat) : Nat := key (0x0C10 + i) 0x09
def colHops (i : Nat) : Nat := key (0x0C10 + i) 0x0A
def sampleN (j : Nat) : Nat := key 0x0C18 (0x01 + j)
-- R327 of 10_telemetry_and_counters.md
def eqTelLatThreshold (i : Nat) : Nat := key (0x4000 + i) 0x26
def eqHistLat (i : Nat) : Nat := key (0x4000 + i) 0x27
def eqHistDepth (i : Nat) : Nat := key (0x4000 + i) 0x28
def eqHistClear (i : Nat) : Nat := key (0x4000 + i) 0x29
def eqHistSince (i : Nat) : Nat := key (0x4000 + i) 0x2A
def eqLatMax (i : Nat) : Nat := key (0x4000 + i) 0x2B
def eqLatSum (i : Nat) : Nat := key (0x4000 + i) 0x2C
def eqLatPkts (i : Nat) : Nat := key (0x4000 + i) 0x2D
def eqPostcards (i : Nat) : Nat := key (0x4000 + i) 0x2E
def eqDropTotal (i : Nat) : Nat := key (0x4000 + i) 0x2F
def eqDropLast (i : Nat) : Nat := key (0x4000 + i) 0x30
-- R348 of 11_host_link.md
def hostMode (i : Nat) : Nat := key (0x0410 + i) 0x01
def hostState (i : Nat) : Nat := key (0x0410 + i) 0x02
def hostLostReason (i : Nat) : Nat := key (0x0410 + i) 0x03
def hostLinkRate (i : Nat) : Nat := key (0x0410 + i) 0x04
def hostLinkWidth (i : Nat) : Nat := key (0x0410 + i) 0x05
def hostHbTimeoutMs (i : Nat) : Nat := key (0x0410 + i) 0x06
def hostLosses (i : Nat) : Nat := key (0x0410 + i) 0x07
def hostLastChange (i : Nat) : Nat := key (0x0410 + i) 0x08
def hostVecFree (i : Nat) : Nat := key (0x0410 + i) 0x09
def hostBarBad (i : Nat) : Nat := key (0x0410 + i) 0x0A
def hostBar2Discards (i : Nat) : Nat := key (0x0410 + i) 0x0B
def hostAerCorrectable (i : Nat) : Nat := key (0x0410 + i) 0x0C
def hostAerUncorrectable (i : Nat) : Nat := key (0x0410 + i) 0x0D
def hostAtsInvalidations (i : Nat) : Nat := key (0x0410 + i) 0x0E
def hostPriRequests (i : Nat) : Nat := key (0x0410 + i) 0x0F
def hostSubsys (i : Nat) : Nat := key (0x0410 + i) 0x10
def vecSeq : Nat := key 0x0418 0x01
def vecOp : Nat := key 0x0418 0x02
def vecPort : Nat := key 0x0418 0x03
def vecQueue : Nat := key 0x0418 0x04
def vecVector : Nat := key 0x0418 0x05
def vecStatus : Nat := key 0x0418 0x06
-- R377 of 12_dma_queues.md
def dmaCtxBaseA : Nat := key 0x0400 0x01
def dmaCtxBaseB : Nat := key 0x0400 0x02
def dmaCplTimeoutMs : Nat := key 0x0400 0x03
def dmaCtxMisses : Nat := key 0x0400 0x04
def dmaErrors : Nat := key 0x0400 0x05
def dmaFaults : Nat := key 0x0400 0x06
def dmaPuntStaged : Nat := key 0x0400 0x07
def dmaPuntDrops : Nat := key 0x0400 0x08
def dmaPuntMap (j : Nat) : Nat := key 0x0401 (0x01 + j)
-- R378 of 12_dma_queues.md
def dqCtl (i : Nat) : Nat := key (0x2000 + i) 0x01
def dqCtlStatus (i : Nat) : Nat := key (0x2000 + i) 0x02
def dqHome (i : Nat) : Nat := key (0x2000 + i) 0x03
def dqState (i : Nat) : Nat := key (0x2000 + i) 0x04
def dqSqProd (i : Nat) : Nat := key (0x2000 + i) 0x05
def dqSqCons (i : Nat) : Nat := key (0x2000 + i) 0x06
def dqCqTail (i : Nat) : Nat := key (0x2000 + i) 0x07
def dqCqHead (i : Nat) : Nat := key (0x2000 + i) 0x08
def dqErrReason (i : Nat) : Nat := key (0x2000 + i) 0x09
def dqErrIndex (i : Nat) : Nat := key (0x2000 + i) 0x0A
def dqErrTime (i : Nat) : Nat := key (0x2000 + i) 0x0B
def dqItems (i : Nat) : Nat := key (0x2000 + i) 0x0C
def dqBytes (i : Nat) : Nat := key (0x2000 + i) 0x0D
def dqFaults (i : Nat) : Nat := key (0x2000 + i) 0x0E
def dqCqStalls (i : Nat) : Nat := key (0x2000 + i) 0x0F
def dqLastBlock (i : Nat) : Nat := key (0x2000 + i) 0x10
def dqPrefetched (i : Nat) : Nat := key (0x2000 + i) 0x11
-- R402 of 13_object_dictionary.md
def dictVersion : Nat := key 0x0000 0x01
def dictObjects : Nat := key 0x0000 0x02
def dictDirectStatusA : Nat := key 0x0000 0x03
def dictDirectStatusB : Nat := key 0x0000 0x04
def dictMbxDiscards : Nat := key 0x0000 0x05
def dictSessionTimeoutS : Nat := key 0x0001 0x01
def dictSessionOpen : Nat := key 0x0001 0x02
def dictSessionLast (j : Nat) : Nat := key 0x0001 (0x03 + j)
def dictRights (j : Nat) : Nat := key 0x0002 (0x01 + j)
def cfgsGeneration : Nat := key 0x0003 0x01
def cfgsTokens : Nat := key 0x0003 0x02
def cfgsPending : Nat := key 0x0003 0x03
def cfgsLiveBytes : Nat := key 0x0003 0x04
def cfgsCapacity : Nat := key 0x0003 0x05
def cfgsSyncSeq : Nat := key 0x0003 0x06
def cfgsSyncStatus : Nat := key 0x0003 0x07
def cfgsEraseMax : Nat := key 0x0003 0x08
def cfgsClear : Nat := key 0x0003 0x09
def cfgsCopyRepairs : Nat := key 0x0003 0x0A
-- R403 of 13_object_dictionary.md
def idDevice : Nat := key 0x0100 0x01
def idRevision : Nat := key 0x0100 0x02
def idSerial : Nat := key 0x0100 0x03
def idOrdering : Nat := key 0x0100 0x04
def idCustomer : Nat := key 0x0100 0x05
def idAsset : Nat := key 0x0100 0x06
def lifeUptimeS : Nat := key 0x0101 0x01
def lifePowerOnH : Nat := key 0x0101 0x02
def lifeColdResets : Nat := key 0x0101 0x03
def lifeMgmtRestarts : Nat := key 0x0101 0x04
def clkRootLocked : Nat := key 0x0102 0x01
def clkRefFaults : Nat := key 0x0102 0x02
-- R421 of 14_management_network.md
def netUdpPort : Nat := key 0x0500 0x01
def netUdpRate : Nat := key 0x0500 0x02
def netUdpAllow : Nat := key 0x0500 0x03
def netUdpRequests : Nat := key 0x0500 0x04
def netUdpDiscards : Nat := key 0x0500 0x05
def netLldpInterval : Nat := key 0x0500 0x06
def netLldpTtlMult : Nat := key 0x0500 0x07
def mctpMode : Nat := key 0x0501 0x01
def mctpSmbusAddr : Nat := key 0x0501 0x02
def mctpOwnerAddr : Nat := key 0x0501 0x03
def mctpI3cDynAddr : Nat := key 0x0501 0x04
def mctpEid (j : Nat) : Nat := key 0x0501 (0x05 + j)
def mctpRxDiscards : Nat := key 0x0501 0x08
def mctpOwnerResets : Nat := key 0x0501 0x09
def noticeDest (j : Nat) : Nat := key 0x0502 (0x01 + j)
def noticeSent : Nat := key 0x0502 0x05
def noticeDropped : Nat := key 0x0502 0x06
-- R422 of 14_management_network.md
def mportAdmin (i : Nat) : Nat := key (0x1811 + i) 0x01
def mportMode (i : Nat) : Nat := key (0x1811 + i) 0x02
def mportAnEnable (i : Nat) : Nat := key (0x1811 + i) 0x03
def mportCtleMode (i : Nat) : Nat := key (0x1811 + i) 0x04
def mportCtlePeak (i : Nat) : Nat := key (0x1811 + i) 0x05
def mportState (i : Nat) : Nat := key (0x1811 + i) 0x06
def mportSpeed (i : Nat) : Nat := key (0x1811 + i) 0x07
def mportMac (i : Nat) : Nat := key (0x1811 + i) 0x08
def mportIpv4Mode (i : Nat) : Nat := key (0x1811 + i) 0x09
def mportIpv4Addr (i : Nat) : Nat := key (0x1811 + i) 0x0A
def mportIpv4Plen (i : Nat) : Nat := key (0x1811 + i) 0x0B
def mportIpv4Gw (i : Nat) : Nat := key (0x1811 + i) 0x0C
def mportIpv6Addr (i : Nat) : Nat := key (0x1811 + i) 0x0D
def mportIpv6Plen (i : Nat) : Nat := key (0x1811 + i) 0x0E
def mportIpv6Dad (i : Nat) : Nat := key (0x1811 + i) 0x0F
def mportLldpNeighbor (i : Nat) : Nat := key (0x1811 + i) 0x10
def mportCgErrors (i : Nat) : Nat := key (0x1811 + i) 0x11
def mportLinkLosses (i : Nat) : Nat := key (0x1811 + i) 0x12
def mportRxDiscards (i : Nat) : Nat := key (0x1811 + i) 0x13
-- R448 of 15_firmware_and_update.md
def fwRunningSlot : Nat := key 0x0300 0x01
def fwRunningVersion : Nat := key 0x0300 0x02
def fwRunningArb : Nat := key 0x0300 0x03
def fwArbFused : Nat := key 0x0300 0x04
def fwArbSpoiled : Nat := key 0x0300 0x05
def fwTrial : Nat := key 0x0300 0x06
def fwTrialAttempts : Nat := key 0x0300 0x07
def fwConfirmWindowMin : Nat := key 0x0300 0x08
def fwConfirmPolicy : Nat := key 0x0300 0x09
def fwConfirm : Nat := key 0x0300 0x0A
def fwConfirmLeftS : Nat := key 0x0300 0x0B
def fwLastRevert : Nat := key 0x0300 0x0C
def fwBootRecordSeq : Nat := key 0x0300 0x0D
def fwKeyRevoke : Nat := key 0x0300 0x0E
-- R449 of 15_firmware_and_update.md
def fwslotState (i : Nat) : Nat := key (0x0301 + i) 0x01
def fwslotVersion (i : Nat) : Nat := key (0x0301 + i) 0x02
def fwslotArb (i : Nat) : Nat := key (0x0301 + i) 0x03
def fwslotKey (i : Nat) : Nat := key (0x0301 + i) 0x04
def fwslotSize (i : Nat) : Nat := key (0x0301 + i) 0x05
def fwslotFailures (i : Nat) : Nat := key (0x0301 + i) 0x06
-- R450 of 15_firmware_and_update.md
def fwUpdateSources : Nat := key 0x0304 0x01
def fwUpdateDowngrade : Nat := key 0x0304 0x02
def fwStageChunk : Nat := key 0x0304 0x03
def fwStageLength : Nat := key 0x0304 0x04
def fwSessionState : Nat := key 0x0304 0x05
def fwSessionOwner : Nat := key 0x0304 0x06
def fwSessionIdleS : Nat := key 0x0304 0x07
def fwUpdateSeq : Nat := key 0x0304 0x08
def fwUpdateOp : Nat := key 0x0304 0x09
def fwUpdateStatus : Nat := key 0x0304 0x0A
def fwUpdateReason : Nat := key 0x0304 0x0B
def fwUpdateRefusals : Nat := key 0x0304 0x0C
def fwUpdateTarget : Nat := key 0x0304 0x0D
-- R451 of 15_firmware_and_update.md
def fwRestartSeq : Nat := key 0x0305 0x01
def fwRestartCause : Nat := key 0x0305 0x02
def fwWatchdogMs : Nat := key 0x0305 0x03
def fwGmcuState : Nat := key 0x0305 0x04
def fwPctlState : Nat := key 0x0305 0x05
def fwFlashInhibits : Nat := key 0x0305 0x06
def fwFlashMv : Nat := key 0x0305 0x07
-- R484 of 16_power_thermal_ageing.md
def pwrCapW : Nat := key 0x0200 0x01
def pwrNowMw : Nat := key 0x0200 0x02
def pwrWindowMw : Nat := key 0x0200 0x03
def pwrShedLevel : Nat := key 0x0200 0x04
def pwrShedCause : Nat := key 0x0200 0x05
def pwrShedPcFloor : Nat := key 0x0200 0x06
def pwrShedSpillFloor : Nat := key 0x0200 0x07
def pwrShedMaxLevel : Nat := key 0x0200 0x08
def pwrCapUnmet : Nat := key 0x0200 0x09
def pwrShedEvents : Nat := key 0x0200 0x0A
def pwrShedTimeMs : Nat := key 0x0200 0x0B
def pwrMarginPct : Nat := key 0x0200 0x0C
def pwrSpillLimitGbps : Nat := key 0x0200 0x0D
def pwrClockSixteenths : Nat := key 0x0200 0x0E
def pwrEnergyTotal : Nat := key 0x0200 0x0F
def pwrEnergyDevice : Nat := key 0x0200 0x10
def pwrModelReady : Nat := key 0x0200 0x11
def pwrRail : Nat := key 0x0201 0x01
def pwrRailState : Nat := key 0x0201 0x02
def pwrRailErrors : Nat := key 0x0201 0x03
def pwrDomainState : Nat := key 0x0201 0x04
def pwrDomainMw : Nat := key 0x0201 0x05
def pwrTileIdleOff : Nat := key 0x0201 0x06
-- R485 of 16_power_thermal_ageing.md
def thmMax : Nat := key 0x0203 0x01
def thmMaxSensor : Nat := key 0x0203 0x02
def thmTemps : Nat := key 0x0203 0x03
def thmThrottleC : Nat := key 0x0203 0x04
def thmHystC : Nat := key 0x0203 0x05
def thmLevel : Nat := key 0x0203 0x06
def thmTrips : Nat := key 0x0203 0x07
def thmLastTrip : Nat := key 0x0203 0x08
def thmPeak : Nat := key 0x0203 0x09
def thmStackHot : Nat := key 0x0203 0x0A
def ageLimits : Nat := key 0x0204 0x01
def agePointMv : Nat := key 0x0204 0x02
def ageGuardMv : Nat := key 0x0204 0x03
def ageBaseline : Nat := key 0x0204 0x04
def ageSlack : Nat := key 0x0204 0x05
def ageRaisePs : Nat := key 0x0204 0x06
def ageSteps : Nat := key 0x0204 0x07
def ageAtCeiling : Nat := key 0x0204 0x08
def ageHistory : Nat := key 0x0204 0x09
-- R499 of 17_startup_and_reset.md
def resetLastKind : Nat := key 0x0103 0x01
def resetWarmArm : Nat := key 0x0103 0x02
def resetWarmSeq : Nat := key 0x0103 0x03
def resetPipeMask : Nat := key 0x0103 0x04
def resetPipeSeq : Nat := key 0x0103 0x05
def resetPipeStatus : Nat := key 0x0103 0x06
def resetPipeCount : Nat := key 0x0103 0x07
def resetPipeLastNs : Nat := key 0x0103 0x08
def resetMilestones : Nat := key 0x0103 0x09
-- R517 of 18_errors_and_exhaustion.md
def errCorrected : Nat := key 0x0D00 0x01
def errContained : Nat := key 0x0D00 0x02
def errFatal : Nat := key 0x0D00 0x03
def errLog : Nat := key 0x0D00 0x04
def errLogCount : Nat := key 0x0D00 0x05
def errCorrectedLimit : Nat := key 0x0D00 0x06
def errBankRepairs : Nat := key 0x0D00 0x07
def errBankDrops : Nat := key 0x0D00 0x08
def errShadowRepairs : Nat := key 0x0D00 0x09
def errStateResets : Nat := key 0x0D00 0x0A
def errCounterResets : Nat := key 0x0D00 0x0B
def errLifeEquivH : Nat := key 0x0D00 0x0C
def errLifeLeftPct : Nat := key 0x0D00 0x0D
def errCrashCapture : Nat := key 0x0D01 0x01
def errCrashCount : Nat := key 0x0D01 0x02
def errCrashSeq : Nat := key 0x0D01 0x03
def errCrashIndex : Nat := key 0x0D01 0x04
def errCrashStatus : Nat := key 0x0D01 0x05
def errCrashRecord : Nat := key 0x0D01 0x06
def errCrashLast : Nat := key 0x0D01 0x07
def errExhaustWarnPct : Nat := key 0x0D02 0x01
def errExhaustState : Nat := key 0x0D02 0x02
def errExhaustEvents : Nat := key 0x0D02 0x03
-- R194 of 06
def bufPortCfg (i j : Nat) : Nat := key (0x0980 + i) (0x01 + j)
-- R195 of 06
def iqFactor (i j : Nat) : Nat := key (0x09C0 + i) (0x01 + j)
def iqCfg (i j : Nat) : Nat := key (0x09C0 + i) (0x11 + j)
def iqDepth (i j : Nat) : Nat := key (0x09C0 + i) (0x21 + j)
-- R261 of 08
def schedPortCfg (i j : Nat) : Nat := key (0x0B80 + i) (0x01 + j)
-- R262 of 08
def iqSched (i j : Nat) : Nat := key (0x0B40 + i) (0x01 + j)
def iqPortSched (i : Nat) : Nat := key (0x0B40 + i) 0x11
-- R296 of 09
def tsPortCfg (i j : Nat) : Nat := key (0x0640 + i) (0x01 + j)
def tsPortAsym (i j : Nat) : Nat := key (0x0640 + i) (0x11 + j)
-- R326 of 10
def iportStats (j : Nat) : Nat := key 0x0C1C (0x01 + j)
def dropCount (i j : Nat) : Nat := key (0x0C20 + i) (0x01 + j)
def perfSel (i : Nat) : Nat := key (0x0C40 + i) 0x01
def perfEnable (i : Nat) : Nat := key (0x0C40 + i) 0x02
def perfCtr (i j : Nat) : Nat := key (0x0C40 + i) (0x03 + j)
def perfWrap (i : Nat) : Nat := key (0x0C40 + i) 0x0B
def portStats (i j : Nat) : Nat := key (0x0C80 + i) (0x01 + j)
def portHistLat (i j : Nat) : Nat := key (0x0CC0 + i) (0x01 + j)
-- R486 of 16
def pwrEnergyPipe (j : Nat) : Nat := key 0x0208 (0x01 + j)
def pwrEnergyPort (i j : Nat) : Nat := key (0x0240 + i) (0x01 + j)
def pwrEnergyQueues (i j : Nat) : Nat := key (0x0280 + i) (0x01 + j)

end K

end Sys2Proof.Machine
end

