-- ==== Sys2Proof/Config.lean ====
section
/-! DEFINITION. What one part fixes and the spec leaves to it: the fuses, the straps, and the free values. None has a
body that a proof could see. -/
namespace Sys2Proof.Config

/-- The value the fuses (or the factory) give a dictionary element whose default the spec writes as `fuse`, `by fuse`
or `factory` (log 7). Keyed by the element's number. -/
opaque fuse : Nat → Nat

/-- The bytes of a fused blob or string element (log 7). -/
opaque fuseBytes : Nat → List Byte

/-- Free values: the n-th value the spec leaves open in a run (log 3). The counter `Dev.free` supplies n. -/
opaque free : Nat → Nat

/-- The transmit FIR taps that IEEE 802.3 allows the PMD of a port mode and interface (R43, Table 3; log 162). -/
opaque firAllowed : Nat → Nat → List Byte → Bool

/-- A free value that depends on what asks for it and on its operand (log 3). -/
opaque freeAt : Nat → Nat → Nat

end Sys2Proof.Config
end

