-- ==== Sys2Proof/Machine/SMap.lean ====
section
/-! DEFINITION. Sparse data by number, in one canonical form: keys strictly rising, no entry equal to what an unlisted
key reads as. Every addressed RAM, register array and object table of the part is held so. -/
namespace Sys2Proof.Machine

/-- A sparse array: (key, value) pairs. -/
abbrev SMap (α : Type) := List (Nat × α)

/-- What key `k` holds; `d` is what an unlisted key reads as. -/
def SMap.get {α : Type} (m : SMap α) (k : Nat) (d : α) : α :=
  match m with
  | [] => d
  | (k', v) :: t => if k' = k then v else SMap.get t k d

/-- The entry of key `k`, if it is listed. -/
def SMap.find {α : Type} (m : SMap α) (k : Nat) : Option α :=
  match m with
  | [] => none
  | (k', v) :: t => if k' = k then some v else SMap.find t k

/-- Put (k, v) at its place in the order. -/
def SMap.ins {α : Type} (m : SMap α) (k : Nat) (v : α) : SMap α :=
  match m with
  | [] => [(k, v)]
  | (k', v') :: t =>
    if k < k' then (k, v) :: (k', v') :: t
    else if k = k' then (k, v) :: t
    else (k', v') :: SMap.ins t k v

/-- Remove key `k`. -/
def SMap.del {α : Type} (m : SMap α) (k : Nat) : SMap α :=
  match m with
  | [] => []
  | (k', v') :: t => if k' = k then SMap.del t k else (k', v') :: SMap.del t k

/-- Write `v` at `k`, keeping the canonical form. -/
def SMap.set {α : Type} [DecidableEq α] (m : SMap α) (k : Nat) (v d : α) : SMap α :=
  if v = d then SMap.del m k else SMap.ins m k v

/-- Put or remove: an entry that may be absent. -/
def SMap.put {α : Type} (m : SMap α) (k : Nat) (v : Option α) : SMap α :=
  match v with
  | some a => SMap.ins m k a
  | none => SMap.del m k

/-- Put or remove key `k` on the way through a map; `rest` goes on with what follows. -/
def SMap.weave {α : Type} (k : Nat) (v : Option α) (rest : SMap α → SMap α) : SMap α → SMap α
  | [] => (match v with | some a => [(k, a)] | none => []) ++ rest []
  | (k', v') :: t =>
    if k' < k then (k', v') :: SMap.weave k v rest t
    else (match v with | some a => [(k, a)] | none => []) ++ rest (if k' = k then t else (k', v') :: t)

/-- Put or remove many keys, given in rising order. -/
def SMap.setAll {α : Type} : List (Nat × Option α) → SMap α → SMap α
  | [], m => m
  | x :: xs, m => SMap.weave x.1 x.2 (SMap.setAll xs) m

/-- The canonical form, from a lower bound on the keys on. -/
def SMap.wfFrom {α : Type} [DecidableEq α] (d : α) (lo : Nat) : SMap α → Bool
  | [] => true
  | (k, v) :: t => decide (lo ≤ k) && decide (v ≠ d) && SMap.wfFrom d (k + 1) t

/-- The canonical form: keys strictly rising, no entry equal to what an unlisted key reads as. -/
def SMap.wf {α : Type} [DecidableEq α] (d : α) (m : SMap α) : Bool := SMap.wfFrom d 0 m

end Sys2Proof.Machine
end

