-- ==== Sys2Proof/Machine/State.lean ====
section
/-! DEFINITION. The state of the block as plain data: every register, queue, buffer, counter and mode that the spec
gives the part, and the queue of waiting commands. -/
namespace Sys2Proof.Machine

/-- Why a command cannot run at all. -/
inductive Fault where
  /-- Raised by no meaning: every command of the table has an effect in every state, and where the spec gives a command
  none, its effect is to leave the part as it is (NOTES, Stops). The name is kept for a command whose operands no sender
  can form (WellFormed); safe, a run would stop. -/
  | illFormed (what : String)
  deriving DecidableEq, Repr

/-- Why a command has no meaning. -/
inductive Refusal where
  /-- Raised by the dispatcher for a row with no meaning yet. Safe. -/
  | notModelled (mnemonic : String)
  deriving DecidableEq, Repr

/-- Where a notice goes (R414, Table 1): from a management port to a UDP port of an IPv6 address, or over an MCTP bus to an EID. -/
inductive NoticeDest where
  | udp (m port addr : Nat)
  | mctp (bus eid : Nat)
  deriving DecidableEq, Repr

/-- What the part puts outside itself, oldest first: the model's own record of its outputs (log 2). -/
inductive Out where
  /-- A frame left on the line of a front-panel port; `stomped` when its FCS was inverted (R24, R185). -/
  | frame (port : Nat) (bytes : List Byte) (stomped : Bool)
  /-- A flow-control frame left on a front-panel port (R176). -/
  | pfc (port : Nat) (bytes : List Byte)
  /-- A memory write request to the host's memory (R332). -/
  | hostWrite (hp : Nat) (addr : Nat) (bytes : List Byte) (relaxed : Bool)
  /-- A memory read request to the host's memory (R332). -/
  | hostRead (hp : Nat) (addr : Nat) (len : Nat)
  /-- An MSI-X message (R336). -/
  | msix (hp : Nat) (vector : Nat) (addr : Nat) (data : Nat)
  /-- A completion of a BAR0 or BAR2 read; `none` is Unsupported Request (R334). -/
  | completion (hp : Nat) (value : Option Nat)
  /-- An ATS invalidation completion (R339). -/
  | invalDone (hp : Nat) (tag : Nat)
  /-- A translation request for an address (R339). -/
  | translation (hp : Nat) (addr : Nat)
  /-- An error message of a host port with its severity: 0 correctable, 1 non-fatal, 2 fatal (R341). -/
  | aerMessage (hp : Nat) (severity : Nat)
  /-- The TLPs that a host port sends carry an ECRC from now on, or none (R341). -/
  | ecrc (hp : Nat) (on : Bool)
  /-- A front-panel port begins or ends sending remote fault (R58). -/
  | remoteFault (port : Nat) (on : Bool)
  /-- A page request for a queue (R340). -/
  | pageRequest (hp : Nat) (queue : Nat) (addr : Nat)
  /-- The status and value that an element access ends with (R388). -/
  | reply (src : Source) (status : Nat) (value : List Byte)
  /-- A Tuiley message to its requester by UDP (R392, R410). -/
  | message (src : Source) (bytes : List Byte)
  /-- A Tuiley message to its requester by MCTP, in the packets of its bytes, with the tag of the request (R417). -/
  | mctpMessage (binding : Nat) (eid : Nat) (tag : Nat) (packets : List (List Byte))
  /-- A notice message to a destination of notice.dest (R414). -/
  | notice (dest : NoticeDest) (bytes : List Byte)
  /-- An Ethernet frame sent by a management port (R409, R413). -/
  | mgmtFrame (m : Nat) (kind : MgmtTx)
  /-- An MCTP control message or response on a binding (R416, R418). -/
  | mctp (binding : Nat) (eid : Nat) (bytes : List Byte)
  /-- An MCTP packet written to a 7-bit SMBus address, with its PEC (R415, R418). -/
  | smbus (addr : Nat) (bytes : List Byte)
  /-- An I3C in-band interrupt with its mandatory byte, and the packet that its pending read brings (R418). -/
  | ibi (mandatory : Byte) (pending : List Byte)
  /-- The provisional ID that ENTDAA reads (R415). -/
  | i3cId (pid : Nat)
  /-- A block completion of the table engine (R125). -/
  | blockDone (queue : Nat) (bytes : List Byte)
  /-- An output pin changed its level (R292, R482). -/
  | pin (name : Pin) (level : Bool)
  /-- A write of VOUT_COMMAND of the regulator at a PMBus address and page, in half millivolts (R476). -/
  | vout (addr : Nat) (page : Nat) (halfMv : Nat)
  deriving DecidableEq, Repr

/-- A token bucket or another quantity that refills with time, in the unit its user names. -/
structure Bucket where
  /-- Present level. -/
  level : Nat
  /-- The tick at which `level` was right. -/
  at_ : Nat
  deriving DecidableEq, Repr

/-- One entry of a port's MSI-X table, as PCIe defines it (R333). -/
structure MsixEntry where
  addr : Nat
  data : Nat
  masked : Bool
  deriving DecidableEq, Repr

/-- A host port: its own BAR0 registers, configuration space and link (R333, R336, R339, R343). -/
structure HostPort where
  evtCause : BitVec 64
  evtMask : BitVec 64
  msixOn : Bool
  msixFuncMask : Bool
  /-- Vector → entry; an unlisted vector is masked with address and data 0. -/
  msix : SMap MsixEntry
  msixPending : SMap Bool
  /-- Vector → DMA queue bound to it (R337). -/
  vecQueue : SMap Nat
  /-- MBX_CMD.length, and the length of the request that was submitted last (R393, R394). -/
  mbxCmd : Nat
  mbxReq : Nat
  mbxState : Nat
  mbxError : Nat
  mbxLen : Nat
  /-- MBX_DATA: offset → byte. -/
  mbxData : SMap Byte
  txtsHold : BitVec 64
  dlActive : Bool
  bme : Bool
  d0 : Bool
  flr : Bool
  hbExpired : Bool
  /-- The tick at which the heartbeat timer last restarted. -/
  hbAt : Nat
  mps : Nat
  mrrs : Nat
  relaxed : Bool
  atsOn : Bool
  priOn : Bool
  /-- Page requests stopped by a Response Failure until PRI is disabled and enabled (R340). -/
  priStopped : Bool
  /-- Outstanding page requests that the host grants, those outstanding, and the queues and addresses whose request waits
  (R340). -/
  priMax : Nat
  priOut : Nat
  priWait : List (Nat × Nat)
  /-- Bases of BAR0 and BAR2 (R331). -/
  bar0 : Nat
  bar2 : Nat
  /-- ECRC generation and checking; AER: the errors seen, correctable and uncorrectable, and which of the latter are fatal
  (R341). -/
  ecrcGen : Bool
  ecrcCheck : Bool
  aerCor : BitVec 32
  aerUnc : BitVec 32
  aerSev : BitVec 32
  /-- AER: the masks of correctable and uncorrectable errors, whose messages are not sent (R341; PCIe). -/
  aerCorMask : BitVec 32
  aerUncMask : BitVec 32
  /-- Queues whose context read for dq.ctl waits for a tag (R330). -/
  ctxWait : List Nat
  /-- Cached translations: page → page (R339). -/
  xlat : SMap Nat
  /-- Invalidation requests accepted and not completed (R339). -/
  invals : List Nat
  deriving DecidableEq, Repr

/-- One time base and its servo (R264, R270). -/
structure TimeBase where
  sec : Nat
  ns : Nat
  /-- Fraction of a nanosecond in 2^-32 ns. -/
  frac : Nat
  /-- The accumulated remainder below 2^-32 ns, in units of 2^-48 / 25 ns (R265). -/
  resid : Nat
  /-- Rate word ρ, in 2^-48. -/
  rho : Int
  /-- Integrator I. -/
  integ : Int
  /-- Filtered rate R_f. -/
  rf : Int
  /-- Free-running ns of the last offset; `first` while none has come. -/
  last : Nat
  first : Bool
  /-- Free-running ns from which the holdover timeout runs (R272). -/
  holdFrom : Nat
  lockcount : Nat
  outliers : Nat
  overRun : Nat
  state : Nat
  deriving DecidableEq, Repr

/-- One capture input (R291). -/
structure Capture where
  /-- Queued timestamps (80 bits), oldest first, at most 16. -/
  queue : List Nat
  /-- The free-running instant of the previous selected edge, in 2^-16 ns. -/
  last : Option Nat
  deriving DecidableEq, Repr

/-- One pulse output (R292). -/
structure Pulse where
  level : Bool
  active : Bool
  /-- The base time in 2^-16 ns behind which the next leading edge is scheduled: that of the last edge, of the last step of the
  base, or of the last write of the output's settings; `none` before the first. -/
  since : Option Nat
  /-- Time of the base, in 2^-16 ns, until the trailing edge of the pulse in progress is due (R292). -/
  left : Int
  deriving DecidableEq, Repr

/-- A low output that has driven no edge. -/
def Pulse.init : Pulse := { level := false, active := false, since := none, left := 0 }

/-- One transmit-timestamp queue (R284 to R286). -/
structure TxtsQueue where
  /-- Entries, oldest first: the TXTS_POP word without valid, and timestamp bits [63:0]. -/
  entries : List (Nat × Nat)
  overflow : Bool
  discards : Nat
  deriving DecidableEq, Repr

/-- Time: bases, pins, transmit timestamps (Time bases and time-stamping). -/
structure TimeS where
  bases : List TimeBase
  caps : List Capture
  pulses : List Pulse
  txts : SMap TxtsQueue
  deriving DecidableEq, Repr

/-- One entry of a flow tally table (R302). -/
structure Tally where
  key : Nat
  profile : Nat
  pkts : Nat
  bytes : Nat
  maxLat : Nat
  seen : Nat
  deriving DecidableEq, Repr

/-- One export stream's own state beside its elements (R311 to R314). -/
structure StreamS where
  /-- Records of the packet or buffer being filled, oldest first. -/
  ready : List Nat
  /-- Packets sent. -/
  sent : Nat
  deriving DecidableEq, Repr

/-- Telemetry (Telemetry and counters). -/
structure TelS where
  /-- Activity since the rails were last read, by `actEvent`, `actPort`, `actCells` or `actBale` (R471). -/
  acts : SMap Nat
  /-- Slot → 512-bit record: the telemetry region, or the on-die store (R309, R313). -/
  recs : SMap Nat
  /-- Pipeline → drop bucket and total bucket (R307), in 1/16 record / 781,250,000. -/
  dropTok : SMap Bucket
  totTok : SMap Bucket
  streams : SMap StreamS
  /-- Sampler counts: pipeline × 16 + sampler (R306). -/
  sampler : SMap Nat
  /-- Histogram bins (R300): queue × 64 + bin for latency, + 32 for depth; 2^20 + port × 32 + bin for a port. -/
  hist : SMap Nat
  /-- port.stats words: port × 32 + word (R321). -/
  stats : SMap Nat
  /-- Sticky wrap bits: an element's number, or 2^24 + a histogram bin (R319). -/
  wraps : SMap Bool
  /-- Tally entries: barn × 2^20 + bucket × 8 + way (R302). -/
  tally : SMap Tally
  /-- Barns a running snapshot has still to export (R305). -/
  snap : List Nat
  snapCleared : Bool
  /-- Sweeps missed since the last snapshot (R323). -/
  gleanMissed : Nat
  /-- Number of the next snapshot (R324). -/
  gleanSeq : Nat
  /-- The records stand in the telemetry region of the granary, no longer in the on-die store (R313). -/
  inRegion : Bool
  /-- Sequence numbers of records of the region whose bursts are uncorrectable (R503). -/
  badRecs : List Nat
  /-- TCAM queries issued and dropped by admission: pipeline × 4 + kind, 1 punt, 2 privileged port, 3 control-plane protection,
  0 none (R119, R120). -/
  tcamKinds : SMap Nat
  tcamDrops : SMap Nat
  deriving DecidableEq, Repr

/-- One write of a session batch (R395). -/
structure BatchItem where
  op : Nat
  obj : Nat
  el : Nat
  bytes : List Byte
  deriving DecidableEq, Repr

/-- An open session (R395). -/
structure Session where
  id : Nat
  src : Source
  items : List BatchItem
  deriving DecidableEq, Repr

/-- A record that waits for a generation of the store (R397, R398): its number, an element's or that of a part record;
the batch it belongs to; the bytes of a part record, empty for its removal, or `none` for the present value of the
element. -/
structure StoreItem where
  id : Nat
  group : Nat
  part : Option (List Byte)
  deriving DecidableEq, Repr

/-- A copy of the configuration store in the flash: sector, 0 to 31 → its generation records, each as its bytes (R397,
Table 9). -/
abbrev CfgCopy := SMap (List (List Byte))

/-- The object dictionary and the configuration store (The object dictionary). -/
structure DictS where
  /-- Last accepted value of each element of 64 bits or less, and of time elements; unlisted: its default. -/
  vals : SMap Nat
  /-- Last accepted value of each str and blob. -/
  blobs : SMap (List Byte)
  /-- Value in force of elements of class epoch, restart and boot (R384). -/
  force : SMap Nat
  forceB : SMap (List Byte)
  /-- Elements accepted and not yet in force, oldest first (R383). -/
  waiting : List Nat
  /-- Open sessions, oldest first; the next ID. -/
  sessions : List Session
  nextSession : Nat
  /-- Command object → the class that holds it (R396). -/
  claims : SMap OrigClass
  /-- The live records of the store, values and the part's own: record → bytes (R397). -/
  store : SMap (List Byte)
  /-- Records that wait for a generation, oldest first; the number of the next batch (R398, R399). -/
  cfgPend : List StoreItem
  cfgGroup : Nat
  /-- The records of batches below this number are those that cfgs.sync.seq waits for (R401). -/
  cfgSync : Nat
  /-- The two copies in the flash (R397). -/
  copies : List CfgCopy
  /-- The log in each copy: the sector in use, bytes written in it, erases of each of the 64 sectors, the sector of each record
  (R397, R399). -/
  cfgSector : Nat
  cfgFill : Nat
  cfgErases : SMap Nat
  storeAt : SMap Nat
  /-- The token bucket of R398. -/
  tokens : Bucket
  /-- The buckets of the notice destinations (R414). -/
  noticeTok : SMap Bucket
  /-- Fuse elements already written (R382). -/
  fused : List Nat
  /-- Governed elements with their own override (R35). -/
  overrides : List Nat
  deriving DecidableEq, Repr

/-- A crash record: its first 256 bytes, the log and the notices it holds; the rest is free (R510, Table 5). -/
structure CrashRec where
  hdr : List Byte
  log : List Nat
  notices : List Nat
  deriving DecidableEq, Repr

/-- Errors (Errors, service life and exhaustion). -/
structure ErrS where
  /-- err.log, oldest first, at most 256 entries of 256 bits. -/
  log : List Nat
  /-- Source → the free-running ns at which its last entry was written (R501). -/
  last : List (Nat × Nat)
  /-- The last 512 notice records, oldest first (R510, Table 5). -/
  notices : List Nat
  /-- Corrected errors per structure (row of Table 2) this hour, and structures noticed (R502). -/
  corrHour : SMap Nat
  corrNoted : SMap Bool
  /-- The crash region, by seq (R510). -/
  crashes : SMap CrashRec
  /-- The tick of the newest capture since the cold reset (R510, log 179). -/
  crashAt : Option Nat
  /-- Fatal conditions that hold until the next cold reset (bits 2, 3, 6) (R509). -/
  sticky : Nat
  /-- Row states of Table 9 (R515): row → state; utilisation in 0.01%. -/
  exState : SMap Nat
  exUtil : SMap Nat
  /-- Rows whose day has come since the last check (R515). -/
  days : List Nat
  /-- Equivalent hours since manufacture in 2^-32 h; the hottest-sensor readings of the present hour, summed, and their
  number (R514). -/
  lifeAcc : Nat
  hourSum : Int
  hourN : Nat
  deriving DecidableEq, Repr

/-- What a deparser emits: the head before the remainder point, the remainder point, whether it faulted (R141), where
IPv4 headers to be checksummed begin, and the checksums by their place. -/
structure Deparsed where
  head : List Byte
  rem : Nat
  fault : Bool
  csums : List Nat
  patches : List (Nat × Nat)
  /-- Where a followed byte of the frame stands in the rebuilt bytes: that of R178, when the list emitted it as frame bytes. -/
  at_ : Option Nat
  deriving DecidableEq, Repr

/-- A packet descriptor of kind 0: one queued packet or copy (R164, Table 1). -/
structure Desc where
  pkt : Nat
  /-- Cells charged, and the pool charged: 0 to 7, 8 the headroom, 9 none. -/
  c : Nat
  pool : Nat
  /-- Service pool of its queue at the admission. -/
  svc : Nat
  /-- Its admission decision was the headroom, so its cells count in eq.headroom (R173). -/
  hr : Bool
  /-- Enqueue time in 1.024 µs ticks (R189). -/
  enq : Nat
  ecn : Bool
  started : Bool
  tailBad : Bool
  cut : Bool
  copy : Bool
  /-- The packet was spilled; the queue's number of the bale it was in (R215). -/
  spilled : Bool
  bale : Nat
  /-- Its record continues in a bale that has not returned yet (R207, R215). -/
  half : Bool
  /-- Marked as released under R150. -/
  released : Bool
  /-- Depth at the admission decision (R298). -/
  depth : Nat
  /-- pool.used at the admission decision (R315 bit 11). -/
  used : Nat
  deriving DecidableEq, Repr


/-- The image of one bank of one pipeline: the sections of a bundle, each array by index (R142, Table 9). -/
structure Image where
  id : Nat
  /-- The 128-bit parse program header (R73). -/
  hdr : Nat
  states : SMap Nat
  trans : SMap Nat
  extr : SMap Nat
  /-- Profile × 16 + segment → 32-bit segment word (R94). -/
  keys : SMap Nat
  /-- Hash profiles, 64 bits each. -/
  hashes : SMap Nat
  /-- The class map, by byte. -/
  classMap : SMap Nat
  /-- (stage × 16 + class) × 64 + slot → 64-bit instruction word (R135). -/
  ingress : SMap Nat
  egress : SMap Nat
  /-- Class × 32 + entry → 32-bit deparser entry (R140). -/
  dep1 : SMap Nat
  dep2 : SMap Nat
  smac : SMap Nat
  encap : SMap Nat
  deriving DecidableEq, Repr

/-- What the scheduler charged a frame at its selection (R239, R243): its length, whether it was of the launch tier, and the
weight, rate codes and overhead profiles of its queue and port that were in force then. -/
structure Charge where
  len : Nat
  launch : Bool
  weight : Nat
  qRate : Nat
  pRate : Nat
  qProf : Nat
  pProf : Nat
  deriving DecidableEq, Repr

/-- The packet that the stages of a pipeline are running: the sheaf, the decision fields and where its program
stands (R134, R138). -/
structure StageCtx where
  /-- The packet, by its number in the packet table. -/
  pkt : Nat
  sheaf : Sheaf
  /-- Decision fields; an unlisted one holds its default. -/
  fields : SMap Nat
  cls : Nat
  epoch : Nat
  /-- Egress stages: barn, Winnow and TCAM rows do not run there. -/
  egress : Bool
  stage : Nat
  /-- The next instruction slot, 0 to 64. -/
  slot : Nat
  /-- Instructions still to be skipped. -/
  skip : Nat
  /-- A packet stands in the stages. -/
  live : Bool
  /-- Results to be written at the end of the stage: destination, width, value (R134). -/
  results : List (Nat × Nat × Nat)
  /-- The packet is dropped with this reason whatever the program decides (R111, R120). -/
  drop : Option Nat
  /-- The egress stages wrote 2 to dest_kind (R139). -/
  egDrop : Bool
  /-- In the egress pass: the descriptor, its queue, what it was charged at its selection, and late (R242). -/
  desc : Desc
  q : Nat
  charge : Charge
  late : Bool
  deriving DecidableEq, Repr

/-- An exact-match entry (R100, R101, R105, R121). -/
structure EmEntry where
  /-- Place: way × 2^20 + row × 4 + first unit; 2^22 + unit in the stash. -/
  loc : Nat
  tab : Nat
  width : Nat
  key : Nat
  result : Nat
  vis : Nat
  /-- One hit bit per barn. -/
  hit : Nat
  deriving DecidableEq, Repr

/-- A longest-prefix-match entry (R106, R107). -/
structure LpmEntry where
  v6 : Bool
  vrf : Nat
  len : Nat
  addr : Nat
  result : Nat
  vis : Nat
  deriving DecidableEq, Repr

/-- A Winnow rule of one pipeline (R116). -/
structure WinEntry where
  pipe : Nat
  rule : Nat
  /-- Lane bounds: lane i low at [64i + 31:64i], high above it (Table 8). -/
  lanes : Nat
  value : Nat
  mask : Nat
  result : Nat
  vis : Nat
  deriving DecidableEq, Repr

/-- A TCAM entry (R118). -/
structure TcamEntry where
  entry : Nat
  value : Nat
  mask : Nat
  result : Nat
  vis : Nat
  deriving DecidableEq, Repr

/-- A load-balancing group (R110, Table 8). -/
structure Group where
  managed : Bool
  log2 : Nat
  failover : Bool
  rotate : Nat
  base : Nat
  deriving DecidableEq, Repr

/-- A table-command block waiting for settlement or for a flip (R122, R151). -/
structure WaitBlock where
  queue : Nat
  hdr : Nat
  recs : List Nat
  /-- A DMA item waits for it. -/
  item : Bool
  /-- What stops it, once it runs (R125). -/
  fault : Option TblFault
  deriving DecidableEq, Repr

/-- Table contents: the four barns hold them alike (R90). -/
structure TableS where
  em : List EmEntry
  lpm : List LpmEntry
  win : List WinEntry
  tcam : List TcamEntry
  /-- Next-hop entries of 128 bits. -/
  nh : SMap Nat
  groups : SMap Group
  /-- Group × 4096 + ordinal → next-hop index. -/
  members : SMap Nat
  /-- Slot → ordinal + 1; 0 is unassigned. -/
  slots : SMap Nat
  /-- Words found uncorrectable and not yet repaired: barn, table code, place (R127, R505). -/
  bad : List (Nat × Nat × Nat)
  /-- Blocks that wait (R122, R151). -/
  waiting : List WaitBlock
  /-- The queue whose block the engine ran last (R125). -/
  last : Nat
  deriving DecidableEq, Repr

/-- One pipeline's own state. -/
structure Pipe where
  /-- Packets in the arrival buffer, oldest first (R30). -/
  arrival : List Nat
  /-- Packets in the recirculation buffer (R31). -/
  recirc : List Nat
  /-- Packets in the inject buffer (R361). -/
  inject : List Nat
  /-- The tile port (0 to 63) the arbiter served last (R30). -/
  rrPort : Nat
  /-- The place in the round robin of the egress pipeline's ports that was served last (R241). -/
  selPort : Nat
  /-- Slots since the reserved slot, 0 to 255, and whether the next reserved slot is an injected packet's (R31). -/
  slotCount : Nat
  injNext : Bool
  /-- Accepted packets before the parse, oldest first. -/
  accepted : List Nat
  /-- Parsed packets at the cost gate, oldest first (R93). -/
  gate : List Nat
  ctx : StageCtx
  /-- Packets that left the ingress deparser and are being written, oldest first (R173). -/
  tm : List Nat
  /-- Free-running ns of the last Thresher event (R89). -/
  excAt : Option Nat
  /-- TCAM admission bucket (R120). -/
  tcam : Bucket
  bankA : Image
  bankB : Image
  /-- Words of bank A or B with both copies uncorrectable: bank, section, index (R504). -/
  badWords : List (Nat × Nat × Nat)
  /-- Ingress and selection are stopped by a pipeline reset (R493). -/
  stopped : Bool
  deriving DecidableEq, Repr

/-- A packet in the part, from its first bytes to the last copy that leaves. -/
structure Pkt where
  /-- Bytes of the frame received so far, the FCS included once it has come. -/
  frame : List Byte
  /-- The tail has arrived. -/
  whole : Bool
  /-- The tile's mark, once the tail has come: 0, or the drop reason 0x08 to 0x0B (R54). -/
  mark : Nat
  inPort : Nat
  /-- The scheduler time at the receive plane, or at acceptance for an internal port (R298). -/
  rxAt : Nat
  tsTb0 : Nat
  tsPtp : Nat
  /-- The base of `tsPtp` (R278). -/
  ptpBase : Nat
  epoch : Nat
  /-- Decision fields that an inject descriptor sets (R279). -/
  preset : SMap Nat
  sheaf : Sheaf
  fields : SMap Nat
  cls : Nat
  /-- The ingress deparser's output. -/
  dep : Deparsed
  /-- The cells that hold it, in order; its reference count (R165). -/
  cells : List Nat
  refs : Nat
  /-- The pool that a multicast packet's cells are charged to and the service pool it counts for, and how many (R182). -/
  mcPool : Option (Nat × Nat)
  mcCells : Nat
  /-- Where it is tallied: barn, key profile and flow key (R303). -/
  tallied : Option (Nat × Nat × Nat)
  /-- A policer test waits for the tail (R255). -/
  polWait : Bool
  /-- Scheduler time of its tail (R255). -/
  tailAt : Nat
  /-- Linked under the cut-through rules (R184). -/
  cut : Bool
  /-- Its parse read an uncorrectable word of its bank (R504). -/
  bankBad : Bool
  deriving DecidableEq, Repr

/-- One place of a queue's list: a packet, or a reference to bale b, the queue's bale number seq (R209). -/
inductive QItem where
  | pkt (d : Desc)
  | bale (b : Nat) (seq : Nat)
  deriving DecidableEq, Repr

/-- An egress queue (R165): ports 0 to 1040, port × 16 + q. -/
structure EQueue where
  items : List QItem
  /-- On-die depth in cells; cells in headroom; packets queued, spilled ones included. -/
  depth : Nat
  hr : Nat
  held : Bool
  flushing : Bool
  /-- Fair-queueing tags F and, in contention, H (R245). -/
  tagF : Nat
  tagH : Option Nat
  /-- Shaper eligibility time E in 2^-16 ns (R247). -/
  shE : Nat
  openBale : Option Nat
  lastStack : Nat
  baleSeq : Nat
  deriving DecidableEq, Repr

/-- A frame that has left its queue: selected, through the egress pass (R139, R244). -/
structure TxFrame where
  d : Desc
  q : Nat
  /-- The sheaf, fields and deparser output after the egress pass. -/
  sheaf : Sheaf
  fields : SMap Nat
  out : Deparsed
  /-- What the scheduler charged (R239). -/
  charge : Charge
  late : Bool
  stomp : Bool
  underrun : Bool
  /-- Flits of it failed their CRC while it was on the line (R62). -/
  lost : Bool
  /-- Scheduler time and the timestamp on ts_base of the transmit plane, once begun. -/
  txAt : Nat
  stamp : Nat
  /-- The bytes put on the line. -/
  sent : List Byte
  deriving DecidableEq, Repr

/-- The transmit side of an output port and its scheduler (R241 to R250, R176, R177). -/
structure OutPort where
  /-- V of tiers 0 to 3 (R245). -/
  v : SMap Nat
  shE : Nat
  /-- Selected and not yet started, oldest first. -/
  sel : List TxFrame
  tx : Option TxFrame
  /-- Flow-control frames queued: priority and time (R176). -/
  pfc : List (Nat × Nat)
  /-- Priorities whose pause timer runs (R177), with the scheduler time it ends. -/
  pause : SMap Nat
  deriving DecidableEq, Repr

/-- A 288-bit burst as it is written: 256 data bits, the ECC and the tag (R197, R208). -/
structure Burst where
  data : Nat
  ecc : Nat
  tag : Nat
  deriving DecidableEq, Repr

/-- A bale of the granary (R205, R209). -/
structure Bale where
  queue : Nat
  seq : Nat
  /-- Records that start in the bale, oldest first. -/
  recs : List Desc
  used : Nat
  contIn : Nat
  contMore : Bool
  shared : Bool
  /-- Queues that still refer to it (R217). -/
  refs : Nat
  closed : Bool
  written : Bool
  /-- Queues whose read back from the granary is under way (R215, R217). -/
  reading : List Nat
  /-- The records and continuations in it, from byte 64 on (R205, R206). -/
  body : List Byte
  /-- In a shared bale: queue → the decision of its copy, whose record stands in the bale once (R217, R298). -/
  copies : SMap Desc
  /-- Its 256 bursts, once written to the granary (R205 to R208). -/
  bursts : List Burst
  firstEnq : Nat
  lastEnq : Nat
  deriving DecidableEq, Repr

/-- The shared buffer and the pool manager. -/
structure BufS where
  /-- State bit of each cell: listed cells are allocated (R166). -/
  alloc : SMap Bool
  /-- Cells in use per bank (R161). -/
  bankUsed : SMap Nat
  /-- Start residue of the next packet of each ingress pipeline (R161). -/
  residue : SMap Nat
  quarantine : List Nat
  /-- Descriptors in use. -/
  descs : Nat
  auditRun : Bool
  auditAgain : Bool
  /-- The audit that buf.audit.seq waits for: 0 none, 1 the one that runs, 2 the next one. -/
  auditSeq : Nat
  /-- Cells allocated since the running audit began (R167). -/
  auditNew : SMap Bool
  /-- Multicast lists: group → (port, queue) (R181). -/
  mc : SMap (List (Nat × Nat))
  /-- Cells held by packets received on a port, per pool: port × 8 + pool (R175). -/
  held : SMap Nat
  /-- XOFF sent: port × 8 + pool (R175); under R218: the same beyond 2^16. 2^17 + pool: the pool is in XOFF under R218;
  2^17 + 8 + pool: under R175. -/
  xoff : SMap Bool
  /-- Pools whose warning has not rearmed, and the free ns of the last warning + 1 (R174). -/
  warned : SMap Bool
  warnAt : SMap Nat
  deriving DecidableEq, Repr

/-- A byte count by milliseconds: the present one's number, its bytes, those of the one before. -/
structure RateWin where
  ms : Nat
  cur : Nat
  prev : Nat
  deriving DecidableEq, Repr

/-- Work on the granary that waits for the granary microcontroller (R233). -/
inductive GranWork where
  | fail (st seg : Nat)
  | retire (s reason : Nat) (copy : Bool)
  deriving DecidableEq, Repr

/-- The granary. -/
structure GranS where
  bales : SMap Bale
  quarantine : List Nat
  /-- Bales out of service with their segment, and those taken as replacements (R225). -/
  gone : SMap Bool
  /-- Failing segment (stack × 2^20 + local) → its replacement: reserve segment r of the stack as r + 1, spill segment g as
  2^20 + g (R224, R225). -/
  remap : SMap Nat
  /-- Failing segments whose copy to the replacement still runs (R224, steps 1 to 3). -/
  copying : SMap Bool
  /-- Failing segments of other regions for which no spill segment was free yet (R225). -/
  owed : List Nat
  /-- Corrections of a burst in the last 24 h, by free-running ns: (stack × 2^20 + segment) × 2^11 + burst (R224). -/
  ce : SMap (List Nat)
  /-- Uncorrectable bursts of the last 60 s: free-running ns, stack, segment (R227). -/
  ue : List (Nat × Nat × Nat)
  /-- Failed drift retrainings in a row: stack × 4 + channel (R227). -/
  drift : SMap Nat
  /-- Bale bytes written and read in the present and the last millisecond (R234). -/
  wr : RateWin
  rd : RateWin
  /-- Written bales in the order in which they entered their windows: queue, bale, number of the queue (R215). -/
  returns : List (Nat × Nat × Nat)
  /-- Reserve segments that failed themselves: stack × 2^20 + segment + 1 (R224). -/
  badRes : SMap Bool
  /-- Declarations and retirements that came while the microcontroller was being reloaded (R233). -/
  later : List GranWork
  /-- The stacks are trained: steps 1 to 4 of Table 10 are over (R230). -/
  trained : Bool
  /-- Stacks that have failed training since power-on (R230). -/
  failed : Nat
  deriving DecidableEq, Repr

/-- A policer (R254, R257). -/
structure Policer where
  cfg : Nat
  e : Nat
  okPkts : Nat
  okBytes : Nat
  dropPkts : Nat
  dropBytes : Nat
  deriving DecidableEq, Repr

/-- The timing wheels and the policers. -/
structure SchedS where
  /-- Pipeline → entries (slot number = time / 8 ns, owner): a queue, or 2^20 + port (R251). -/
  wheel : SMap (List (Nat × Nat))
  overflow : SMap (List (Nat × Nat))
  policers : SMap Policer
  deriving DecidableEq, Repr

/-- A cut-through packet that was selected and ended before its tail came: its queue, what it was charged,
and the head and remainder point of its ingress deparser, from which its true length follows
(R239, R140). -/
structure LateFix where
  q : Nat
  charge : Charge
  head : Nat
  rem : Nat
  deriving DecidableEq, Repr

/-- Bring-up and loss of one front-panel port beside its elements (R55 to R59). -/
structure LinkS where
  /-- Reasons of the link-loss conditions present, in the order they were detected. -/
  conds : List Nat
  /-- Alignment holds and the up debounce runs. -/
  debounce : Bool
  /-- The 100 ms wait after a failed step runs (R56). -/
  retry : Bool
  /-- A down-hold runs (R187). -/
  hold : Bool
  /-- The frame that is arriving: its packet, and its bytes so far (R69). -/
  rx : Option (Nat × List Byte)
  /-- It is a MAC control frame: its packet as the stamps of its head make it (R177, R276). -/
  mac : Option Pkt
  /-- Its flow entry, which takes its bytes at the tail (R303). -/
  owed : Option (Nat × Nat × Nat)
  /-- It was selected and ended before its tail came (R239). -/
  late : Option LateFix
  /-- Auto-negotiation waits for the reload of the tile's microcontroller (R46). -/
  waitMcu : Bool
  /-- Its lanes get their seeds when that reload completes (R44). -/
  unseeded : Bool
  /-- Remote fault is sent to the partner (R58). -/
  sendsRf : Bool
  deriving DecidableEq, Repr

/-- One direction of a Rouri link (R60 to R64). -/
structure RouriS where
  /-- Wires declared failing whose repair runs, in the order of their declaration. -/
  repairing : List Nat
  /-- Wires repaired onto a spare, the spare used; wires lost beyond the spares. -/
  onSpare : List Nat
  lost : List Nat
  deriving DecidableEq, Repr

/-- Lanes, tiles and ports beside their elements. -/
structure LaneS where
  links : SMap LinkS
  /-- Tile × 2 + direction (0 tile to core). -/
  rouri : SMap RouriS
  /-- Present CTLE code of a lane, where adaptation has set one (R44, R66). -/
  ctle : SMap Nat
  /-- Reloads of a tile's microcontroller that have failed in a row (R424). -/
  mcuFails : SMap Nat
  /-- Lanes whose re-adaptation run is under way (R44). -/
  adapting : SMap Bool
  deriving DecidableEq, Repr

/-- A packet in the punt staging buffer (R367, R368). -/
structure Punt where
  /-- Its queue of port 1040, and the punt queue that it goes to. -/
  cpuQ : Nat
  dq : Nat
  /-- The epoch bit of its packet, whose bank it holds until it is delivered (R145). -/
  epoch : Nat
  /-- The 32-byte punt header with truncated 0. -/
  header : Nat
  bytes : List Byte
  /-- What a drop's postcard says of it: its descriptor, packet, sheaf and fields (R306). -/
  desc : Desc
  pkt : Pkt
  sheaf : Sheaf
  fields : SMap Nat
  deriving DecidableEq, Repr

/-- What a read that a DMA queue waits for will bring (R332, R372): n descriptors, n bytes of the item, the completion
head word, or the context again for the cache. -/
inductive DqRead where
  | descs (n : Nat)
  | data (n : Nat)
  | head
  | ctx
  deriving DecidableEq, Repr

/-- Where an item stands: its bytes are read; it waits for its pipeline or the table engine; its bytes are written; its
completion entry is due. -/
inductive DqStage where
  | read | wait | write | entry
  deriving DecidableEq, Repr

/-- The item in progress of a DMA queue (R370). -/
structure DqItem where
  /-- Index of its first descriptor, its descriptors. -/
  first : Nat
  descs : List Nat
  stage : DqStage
  /-- The descriptor whose bytes move now, and bytes of it moved. -/
  seg : Nat
  off : Nat
  /-- Bytes moved for the item (R364). -/
  done : Nat
  /-- Bytes read so far, or the bytes still to be written. -/
  data : List Byte
  /-- Status and info of its completion entry. -/
  status : Nat
  info : Nat
  /-- The error reason that follows a failed transfer, 0 for none (R365). -/
  err : Nat
  /-- Telemetry drain: the read position after the item's records, and the loss markers among them (R369). -/
  upto : Nat
  marks : Nat
  deriving DecidableEq, Repr

/-- A DMA queue beside its elements (R350 to R376). -/
structure Dq where
  /-- The 512-bit context as it was read. -/
  ctx : Nat
  item : Option DqItem
  /-- Descriptors prefetched and not yet taken by an item, from index C (and past the item's) on. -/
  pre : List Nat
  rd : Option DqRead
  /-- Requests that this read was split into, each with a tag of its own (R330, R332). -/
  tags : Nat
  /-- The operation of dq.ctl that reads its context, and on which port (R374). -/
  cmd : Option (Nat × Nat)
  /-- A page request for it waits or is outstanding (R340, R371). -/
  pri : Bool
  /-- Completion entries not yet signalled (R366). -/
  unsig : Nat
  /-- The completion ring is full and the queue waits (R359). -/
  stalled : Bool
  deriving DecidableEq, Repr

/-- The DMA engine. -/
structure DmaS where
  /-- Packets in the punt staging buffer, in the order of their selection. -/
  staging : List Punt
  qs : SMap Dq
  /-- Priority → the queue served last (R370). -/
  rr : SMap Nat
  /-- Queues whose context is cached, the one used last first, at most 256 (R350). -/
  cache : List Nat
  /-- The Gleaner snapshot that waits for its buffer: its number and its bytes (R323). -/
  snap : Option (Nat × List Byte)
  deriving DecidableEq, Repr
/-- A load of a bundle that is pending (R144, R145). -/
structure Load where
  /-- Pipeline → the image that its idle bank takes. -/
  images : List (Nat × Image)
  /-- The images are being written. -/
  writing : Bool
  deriving DecidableEq, Repr

/-- The loader and the epoch controller beside their elements (Programs, banks and epochs). -/
structure ProgS where
  /-- The staged bundle: byte offset → byte. -/
  bundle : SMap Byte
  load : Option Load
  /-- Idle banks released and not yet recopied (R153). -/
  released : SMap Bool
  /-- The flip under way: 0 none, 1 in step 2 of Table 10, 2 in step 3. -/
  flip : Nat
  /-- Ticks at the last clock T. -/
  lastFlip : Option Nat
  /-- The ingress drain of the last flip runs; its settlement has been carried out (R149, R122). -/
  drain : Bool
  settled : Bool
  /-- The abort under way: cause, unit, tag, record (R155). -/
  abort : Option (Nat × Nat × Nat × Nat)
  /-- The spill threshold that the last profile to govern it set (R34). -/
  thr : Nat
  /-- The epoch bit of the packets parsed before the last flip, 2 before the first, and what the governed elements that
  this flip changed held before it (R33). -/
  oldBit : Nat
  oldVals : SMap Nat
  /-- Invalid idle banks whose recopy runs: a flip is NOT_READY until it is complete (R158, Table 11). -/
  recopy : SMap Bool
  deriving DecidableEq, Repr


/-- A management port beside its elements (R404 to R413). -/
structure MPort where
  /-- Duplicate address detection of the link-local address: 0 none, 1 tentative, 2 in use, 3 duplicate. -/
  dadLl : Nat
  /-- The default router learned: its IPv6 and MAC addresses. -/
  router : Option (Nat × Nat)
  /-- Neighbours by IPv4 or IPv4-mapped or IPv6 address: their MAC addresses. -/
  neigh : List (Nat × Nat)
  /-- DHCP client: 0 off, 1 discovering, 2 requesting, 3 bound, 4 renewing; its server and transaction. -/
  dhcp : Nat
  server : Nat
  xid : Nat
  /-- The lease held: address, prefix length, gateway. -/
  lease : Option (Nat × Nat × Nat)
  /-- An IPv4 packet that waits for the MAC address of the gateway (log 30). -/
  held : Option (Nat × List Byte)
  /-- The CTLE code that acquisition has set (R405). -/
  ctle : Option Nat
  deriving DecidableEq, Repr

/-- A response kept for 2 s (R411). -/
structure KeptResponse where
  src : Source
  tag : Nat
  at_ : Nat
  bytes : List Byte
  deriving DecidableEq, Repr

/-- An MCTP binding beside its elements (R416 to R418). -/
structure Binding where
  /-- EID of the bus owner that set this binding's EID. -/
  owner : Option Nat
  /-- Announcements run; how many have been sent since the EID was lost. -/
  announcing : Bool
  sent : Nat
  /-- Discovered flag of a PCIe endpoint (R416). -/
  discovered : Bool
  deriving DecidableEq, Repr

/-- The management network (Management ports and field transports). -/
structure MgmtS where
  m0 : MPort
  m1 : MPort
  kept : List KeptResponse
  /-- Requests admitted by net.udp.rate. -/
  udpTok : Bucket
  b0 : Binding
  b1 : Binding
  b2 : Binding
  /-- The I3C interface has become an I3C target (R415). -/
  i3c : Bool
  deriving DecidableEq, Repr

/-- A boot record (R430, Table 5). -/
structure BootRec where
  seq : Nat
  active : Nat
  trial : Bool
  attempts : Nat
  stA : Nat
  stB : Nat
  stR : Nat
  confirmMin : Nat
  verA : Nat
  verB : Nat
  arbA : Nat
  arbB : Nat
  deriving DecidableEq, Repr

/-- The start of a boot record sector: erased, a valid record, or bytes whose magic or CRC is wrong (R430). -/
inductive BootSec where
  | blank
  | good (r : BootRec)
  | bad (bytes : List Byte)
  deriving DecidableEq, Repr

/-- The two boot record sectors (R430, R431). -/
structure BootSecs where
  s0 : BootSec
  s1 : BootSec
  deriving DecidableEq, Repr

/-- A flash program or erase that waits for its supply (R444). -/
inductive FlashOp where
  /-- These bytes into a slot; the record of a slot that has been read back well, or not. -/
  | slot (t : Nat) (bytes : List Byte)
  | slotEnd
  /-- Staged bytes of a source straight into the target slot (R436). -/
  | through (src : Source)
  /-- The records of an activation, a confirmation, a revert at the end of the window. -/
  | activate (src : Source) (now : Bool)
  | confirm (spoil : Nat)
  | expire
  | generation
  | boot
  /-- The copies of the configuration store are made to match, and a clear is carried out; a sector of a copy that has no
  ready marker is erased again (R399, R401, R445). -/
  | store
  | sector (copy sector : Nat)
  deriving DecidableEq, Repr

/-- A processor that a management restart reloads (R423, R446). -/
inductive Reload where
  | gmcu
  | tile (t : Nat)
  | pctl
  deriving DecidableEq, Repr

/-- Firmware, boot and update beside their elements. -/
structure FwS where
  /-- The boot record sectors of the flash (R430). -/
  secs : BootSecs
  /-- The images in the flash: 0 slot A, 1 slot B, 2 recovery. -/
  images : SMap (List Byte)
  /-- What each source has staged (R436, R437); the session's owner. -/
  staged : List (Source × List Byte)
  owner : Option Source
  /-- The slot that is being written, 0 to 2 (R439). -/
  writing : Option Nat
  /-- Tick of the owner's last chunk or command. -/
  idleAt : Nat
  /-- Main firmware runs; a management restart is in progress; the boot ROM holds (R434, R446). -/
  running : Bool
  restarting : Bool
  hold : Bool
  /-- What the boot ROM has loaded and started. -/
  booted : Option Nat
  /-- Requests that arrived by mailbox during a restart, by host port; those whose request was in progress when the restart
  began (R394). -/
  heldMbx : List Nat
  lostMbx : List Nat
  /-- The xSPI interface runs in its 8D-8D-8D mode (R534). -/
  xspiOctal : Bool
  /-- The boot ROM of this start has reset the flash (R534). -/
  romFlash : Bool
  /-- Fatal alarms since the boot; the configuration store has been read (R440). -/
  fatalSince : Bool
  storeRead : Bool
  /-- key_index of the running image (R429). -/
  runKey : Nat
  /-- The digest of the component that the power controller runs (R423). -/
  pctlRuns : Nat
  /-- Tiles whose tile.mcu.state was 2 before the activation (R440). -/
  tilesBad : Nat
  /-- Free-running ns of the restarts with cause 5 or 8 on the slot that is confirmed (R441). -/
  crashes : List Nat
  /-- Tick at which the confirm window started. -/
  windowAt : Nat
  /-- The flash supply is low; the early power-fail input is asserted; operations that wait (R444). -/
  flashLow : Bool
  pfail : Bool
  waits : List FlashOp
  /-- Microcontrollers that a management restart still reloads, the one being loaded first (R446, steps 4 to 6). -/
  reloads : List Reload
  deriving DecidableEq, Repr

/-- Power, temperature and ageing beside their elements. -/
structure PwrS where
  /-- The cap loop (R461). -/
  capLevel : Nat
  quiet : Nat
  /-- Comparisons in a row at or below the release temperature (R481). -/
  cool : Nat
  /-- Measured mW of the last 10 ms, newest first; the milliseconds measured with every rail answering. -/
  window : List Nat
  goodMs : Nat
  /-- Reads in a row that a rail has failed, and that a failed rail has answered (R459). -/
  fails : SMap Nat
  oks : SMap Nat
  /-- What each rail had accumulated at its last answer, in nJ (R459). -/
  eout : SMap Nat
  /-- Remainders of the energy counters below 1 µJ, in nJ: the counter's element number, queues at 2^32 + queue. -/
  carry : SMap Nat
  /-- Energy counters of the queues of ports 0 to 1023: port × 16 + q (R486). -/
  queueUj : SMap Nat
  /-- A sensor has been read since thm.peak was cleared (R485). -/
  peaked : Bool
  /-- Samples in a row at or above 115 °C, per sensor (R482). -/
  hot : SMap Nat
  /-- The trip state holds; the latched trip: sensor, reading in 0.01 °C, life.power_on_h. -/
  tripped : Bool
  latch : Option (Nat × Int × Nat)
  /-- Reports since one was below 20 ps above the raise threshold, per rail (R476). -/
  calm : SMap Nat
  /-- Rails whose ceiling has been reported (R477). -/
  ceiling : List Nat
  /-- Stored adaptive points, mV × 2, per rail. -/
  points : SMap Nat
  /-- The sensors have been sampled since the cold reset (R483). -/
  sampled : Bool
  /-- Domains that are to be switched on once the power controller is no longer being reloaded (R424). -/
  owed : List Nat
  deriving DecidableEq, Repr

/-- Resets and clocks beside their elements (Start-up and reset; R508). -/
structure RstS where
  /-- PORST_N is asserted. -/
  porst : Bool
  /-- The core supply is lost. -/
  coreLost : Bool
  /-- The always-on supply has been lost since the last cold reset (R499). -/
  onLost : Bool
  /-- The levels at the strap balls: bit 0 HOSTCFG, bits 1 to 3 SMBADDR0 to SMBADDR2 (R532, log 142). -/
  strapLvl : Nat
  /-- The class that armed a full warm reset (R490). -/
  armed : Option OrigClass
  /-- A full warm reset has been accepted by the write in hand. -/
  warmDue : Bool
  /-- A per-pipeline reset runs: its mask and the tick of its start (R493). -/
  pipeMask : Nat
  pipeAt : Nat
  /-- The root PLL is in holdover (R508). -/
  refBad : Bool
  deriving DecidableEq, Repr

/-- The part, but for the epoch counter and the queue of waiting commands. -/
structure Dev where
  /-- Ticks of the 781.25 MHz counter clock since cold reset: the free-running count (R237, R268). -/
  ticks : Nat
  /-- How many free values the run has used (log 3). -/
  free : Nat
  /-- What the part has put outside itself (log 2). -/
  out : List Out
  dict : DictS
  time : TimeS
  tel : TelS
  err : ErrS
  hostA : HostPort
  hostB : HostPort
  pipes : SMap Pipe
  tbl : TableS
  pkts : SMap Pkt
  nextPkt : Nat
  queues : SMap EQueue
  ports : SMap OutPort
  buf : BufS
  gran : GranS
  sched : SchedS
  lanes : LaneS
  dma : DmaS
  prog : ProgS
  mgmt : MgmtS
  fw : FwS
  pwr : PwrS
  rst : RstS
  deriving DecidableEq, Repr

/-- The state of the machine. -/
structure State where
  /-- The commands that wait, first in, first out (log 1). -/
  pending : List Instr
  /-- The 48-bit epoch counter (R147). -/
  epoch : Nat
  dev : Dev
  deriving DecidableEq, Repr

/-! What an unlisted unit holds, and the state right after reset. -/

/-- A host port after reset: link down, every cause masked, its MSI-X table masked (R336, R346); payload size 128 B and
read request size 512 B as PCIe resets them (log 9); the severities of Table 7 (R341). -/
def HostPort.init : HostPort :=
  { evtCause := 0, evtMask := BitVec.allOnes 64, msixOn := false, msixFuncMask := false, msix := [], msixPending := [],
    vecQueue := [], mbxCmd := 0, mbxReq := 0, mbxState := 0, mbxError := 0, mbxLen := 0, mbxData := [], txtsHold := 0,
    dlActive := false, bme := false, d0 := true, flr := false, hbExpired := false, hbAt := 0, mps := 128, mrrs := 512,
    relaxed := true, atsOn := false, priOn := false, priStopped := false, priMax := 0, priOut := 0, priWait := [],
    bar0 := 0, bar2 := 0, ecrcGen := false, ecrcCheck := false, aerCor := 0, aerUnc := 0, aerSev := 0x62030, aerCorMask := 0, aerUncMask := 0, ctxWait := [],
    xlat := [], invals := [] }

/-- A time base after cold reset (R274, R498). -/
def TimeBase.init : TimeBase :=
  { sec := 0, ns := 0, frac := 0, resid := 0, rho := 0, integ := 0, rf := 0, last := 0, first := true, holdFrom := 0,
    lockcount := 0, outliers := 0, overRun := 0, state := 0 }

/-- Every bank after a cold reset: the empty program (R496): one state, depth 64, class 0 with cost 1, NOPs, deparser
lists that end at once. -/
def Image.empty : Image :=
  { id := 0, hdr := 64 * 2 ^ 24 + 2 ^ 34, states := [], trans := [], extr := [], keys := [], hashes := [],
    classMap := (List.range 16).map (fun c => (264 + c, 1)), ingress := [], egress := [], dep1 := [], dep2 := [],
    smac := [], encap := [] }

/-- An empty descriptor. -/
def Desc.init : Desc :=
  { pkt := 0, c := 0, pool := 9, svc := 0, hr := false, enq := 0, ecn := false, started := false, tailBad := false, cut := false,
    copy := false, spilled := false, bale := 0, half := false, released := false, depth := 0, used := 0 }

def Charge.init : Charge := { len := 0, launch := false, weight := 1, qRate := 0, pRate := 0, qProf := 0, pProf := 0 }

/-- No packet stands in the stages. -/
def StageCtx.init : StageCtx :=
  { pkt := 0, sheaf := 0, fields := [], cls := 0, epoch := 0, egress := false, stage := 0, slot := 0, skip := 0,
    live := false, results := [], drop := none, egDrop := false,
    desc := Desc.init, q := 0, charge := Charge.init, late := false }

/-- A pipeline after reset; its TCAM bucket is full (R498). The arbiter starts as if port 63 had been served last, so port 0
comes first (R30 is silent there: DESIGN CHOICE, log 149), and the first reserved slot is a recirculated packet's (log 159). -/
def Pipe.init : Pipe :=
  { arrival := [], recirc := [], inject := [], rrPort := 63, selPort := 65, slotCount := 0, injNext := false, accepted := [],
    gate := [], ctx := StageCtx.init, tm := [], excAt := none, tcam := { level := 2 ^ 64, at_ := 0 }, bankA := Image.empty,
    bankB := Image.empty, badWords := [], stopped := false }

def Deparsed.init : Deparsed := { head := [], rem := 0, fault := false, csums := [], patches := [], at_ := none }

/-- A packet of which nothing has come yet. -/
def Pkt.init : Pkt :=
  { frame := [], whole := false, mark := 0, inPort := 0, rxAt := 0, tsTb0 := 0, tsPtp := 0, ptpBase := 0, epoch := 0, preset := [],
    sheaf := 0, fields := [], cls := 0, dep := Deparsed.init, cells := [], refs := 0, mcPool := none, mcCells := 0,
    tallied := none, polWait := false, tailAt := 0, cut := false, bankBad := false }

/-- An empty queue; its first bale comes from stack 0 (DESIGN CHOICE, log 159). -/
def EQueue.init : EQueue :=
  { items := [], depth := 0, hr := 0, held := false, flushing := false, tagF := 0, tagH := none, shE := 0,
    openBale := none, lastStack := 15, baleSeq := 0 }

def OutPort.init : OutPort := { v := [], shE := 0, sel := [], tx := none, pfc := [], pause := [] }

def Policer.init : Policer := { cfg := 0, e := 0, okPkts := 0, okBytes := 0, dropPkts := 0, dropBytes := 0 }

def LinkS.init : LinkS :=
  { conds := [], debounce := false, retry := false, hold := false, rx := none, mac := none, owed := none, late := none,
    waitMcu := false, unseeded := false, sendsRf := false }

def RouriS.init : RouriS := { repairing := [], onSpare := [], lost := [] }

def TxtsQueue.init : TxtsQueue := { entries := [], overflow := false, discards := 0 }

def StreamS.init : StreamS := { ready := [], sent := 0 }

/-- A full bucket, of whatever depth its user gives it. -/
def Bucket.full : Bucket := { level := 2 ^ 64, at_ := 0 }

def DictS.init : DictS :=
  { vals := [], blobs := [], force := [], forceB := [], waiting := [], sessions := [], nextSession := 1, claims := [],
    store := [], cfgPend := [], cfgGroup := 0, cfgSync := 0,
    copies := [[], []], cfgSector := 0, cfgFill := 0, cfgErases := [], storeAt := [], tokens := Bucket.full, noticeTok := [], fused := [], overrides := [] }

def TimeS.init : TimeS :=
  { bases := List.replicate 8 TimeBase.init, caps := List.replicate 2 { queue := [], last := none },
    pulses := List.replicate 2 Pulse.init, txts := [] }

def TelS.init : TelS :=
  { acts := [], recs := [], dropTok := [], totTok := [], streams := [], sampler := [], hist := [], stats := [], wraps := [],
    tally := [], snap := [], snapCleared := false, gleanMissed := 0, gleanSeq := 0, inRegion := false, badRecs := [], tcamKinds := [],
    tcamDrops := [] }

def ErrS.init : ErrS :=
  { log := [], last := [], notices := [], corrHour := [], corrNoted := [], crashes := [], crashAt := none, sticky := 0, exState := [], exUtil := [],
    days := [], lifeAcc := 0, hourSum := 0, hourN := 0 }

/-- Empty tables; the engine serves queue 0 first (DESIGN CHOICE, log 159). -/
def TableS.init : TableS :=
  { em := [], lpm := [], win := [], tcam := [], nh := [], groups := [], members := [], slots := [], bad := [],
    waiting := [], last := 2047 }

def BufS.init : BufS :=
  { alloc := [], bankUsed := [], residue := [], quarantine := [], descs := 0, auditRun := false, auditAgain := false, auditSeq := 0, auditNew := [],
    mc := [], held := [], xoff := [], warned := [], warnAt := [] }

def RateWin.init : RateWin := { ms := 0, cur := 0, prev := 0 }

def GranS.init : GranS :=
  { bales := [], quarantine := [], gone := [], remap := [], copying := [], owed := [], ce := [], ue := [], drift := [], wr := RateWin.init,
    rd := RateWin.init, returns := [], badRes := [], later := [], trained := false, failed := 0 }

def SchedS.init : SchedS := { wheel := [], overflow := [], policers := [] }

def Dq.init : Dq := { ctx := 0, item := none, pre := [], rd := none, tags := 0, cmd := none, pri := false, unsig := 0, stalled := false }

/-- An idle engine; queue 0 of a priority is served first (DESIGN CHOICE, log 159). -/
def DmaS.init : DmaS := { staging := [], qs := [], rr := [], cache := [], snap := none }

def ProgS.init : ProgS :=
  { bundle := [], load := none, released := [], flip := 0, lastFlip := none, drain := false, settled := false,
    abort := none, thr := 4096, oldBit := 2, oldVals := [], recopy := [] }

def LaneS.init : LaneS := { links := [], rouri := [], ctle := [], mcuFails := [], adapting := [] }

def MPort.init : MPort :=
  { dadLl := 0, router := none, neigh := [], dhcp := 0, server := 0, xid := 0, lease := none, held := none,
    ctle := none }

def Binding.init : Binding := { owner := none, announcing := false, sent := 0, discovered := false }

def MgmtS.init : MgmtS :=
  { m0 := MPort.init, m1 := MPort.init, kept := [], udpTok := Bucket.full, b0 := Binding.init, b1 := Binding.init,
    b2 := Binding.init, i3c := false }

/-- No image and no boot record (log 10); the first record goes to sector 0 (log 159). -/
def FwS.init : FwS :=
  { secs := { s0 := .blank, s1 := .blank }, runKey := 0, pctlRuns := 0, images := [], staged := [], owner := none, writing := none, idleAt := 0, running := false,
    restarting := false, hold := false, booted := none, heldMbx := [], lostMbx := [], xspiOctal := false, romFlash := false, fatalSince := false, storeRead := false,
    tilesBad := 0, crashes := [], windowAt := 0, flashLow := false, pfail := false, waits := [], reloads := [] }

def PwrS.init : PwrS :=
  { capLevel := 0, quiet := 0, cool := 0, window := [], goodMs := 0, fails := [], oks := [], eout := [], carry := [],
    queueUj := [], peaked := false, hot := [], tripped := false, latch := none, calm := [], ceiling := [], points := [],
    sampled := false, owed := [] }

def RstS.init : RstS :=
  { porst := false, coreLost := false, onLost := false, strapLvl := 0, armed := none, warmDue := false, pipeMask := 0, pipeAt := 0, refBad := false }

/-- The part at the power-good instant of a cold reset with an empty configuration store (R489, R495, R498). -/
def Dev.reset : Dev :=
  { ticks := 0, free := 0, out := [], dict := DictS.init, time := TimeS.init, tel := TelS.init, err := ErrS.init,
    hostA := HostPort.init, hostB := HostPort.init, pipes := [], tbl := TableS.init, pkts := [], nextPkt := 0,
    queues := [], ports := [], buf := BufS.init, gran := GranS.init, sched := SchedS.init, lanes := LaneS.init, dma := DmaS.init,
    prog := ProgS.init, mgmt := MgmtS.init, fw := FwS.init, pwr := PwrS.init, rst := RstS.init }

/-- The machine right after reset. -/
def State.reset : State := { pending := [], epoch := 0, dev := Dev.reset }

end Sys2Proof.Machine
end

