-- ==== Sys2Proof/Machine/Dict.lean ====
section
/-! DEFINITION. Elements of the object dictionary: rows, defaults, values, values in force (R379 to R384). -/
namespace Sys2Proof.Machine

/-- Whether a row describes element `el` of object `obj`. -/
def DictRow.covers (r : DictRow) (obj el : Nat) : Bool :=
  decide (r.obj ≤ obj) && decide (obj < r.obj + r.reps) && decide (r.el ≤ el) && decide (el < r.el + r.els)

/-- The row of an element, `none` where the object or element does not exist (R379, R380). -/
def Dict.findIn : List (Nat × Nat × List DictRow) → Nat → Nat → Option DictRow
  | [], _, _ => none
  | (lo, hi, rows) :: t, obj, el =>
    if lo ≤ obj ∧ obj ≤ hi then
      match rows.find? (fun r => DictRow.covers r obj el) with
      | some r => some r
      | none => Dict.findIn t obj el
    else Dict.findIn t obj el

def Dict.find (obj el : Nat) : Option DictRow := Dict.findIn Dict.pieces obj el

/-- Object and element of an element's number. -/
def keyObj (k : Nat) : Nat := k / 256
def keyEl (k : Nat) : Nat := k % 256

/-- Whether the spec leaves an element's default to the fuses or a strap (log 7). -/
def Dict.fused (k : Nat) : Bool :=
  let o := keyObj k
  let e := keyEl k
  (o == 0x0609 && decide (1 ≤ e ∧ e ≤ 26)) || k == K.idSerial || k == K.fwArbFused
    || k == K.ageLimits || k == K.ageRaisePs

/-- Elements whose default the spec gives by index or by profile, not as one number in a row. -/
def Dict.byIndex (k : Nat) : Option Nat :=
  let o := keyObj k
  let e := keyEl k
  if 0x1000 ≤ o ∧ o < 0x1400 ∧ (e = 3 ∨ e = 4) then some ((o - 0x1000) % 64)
  else if k = K.poolSize 0 then some 1359872
  else if 0x0910 ≤ o ∧ o < 0x0918 ∧ e = 8 then some (o - 0x0910)
  else if 0x4000 ≤ o ∧ e = 0x14 then some 1
  else if 0x4000 ≤ o ∧ e = 0x15 then some 4096
  else if o = 2 ∧ e = 3 then some 0x200E
  else if o = 2 ∧ e = 4 then some 0
  else if k = K.iqPortSched 16 then some 0x17D784
  else if k = K.hostMode 0 ∨ k = K.hostMode 1 then some (Config.fuse (K.hostMode 0) % 2)
  else if k = K.fwArbSpoiled then some (Config.fuse k % (129 - Config.fuse K.fwArbFused % 129))
  else if k = K.mctpSmbusAddr then some (0x60 + Config.fuse k % 8)
  else if k = K.mportMac 0 then some (Config.fuse k % 2 ^ 48)
  else if k = K.mportMac 1 then some ((Config.fuse (K.mportMac 0) + 1) % 2 ^ 48)
  else none

/-- The default of an element of 64 bits or less, or of a time (R382, R402 and the object tables; logs 6, 7). -/
def Dict.dflt (k : Nat) : Nat :=
  match Dict.byIndex k with
  | some v => v
  | none =>
    match Dict.find (keyObj k) (keyEl k) with
    | some r => if Dict.fused k then Config.fuse k % (r.hi.toNat + 1) else r.dflt
    | none => 0

/-- The bytes of an ASCII string. -/
def ascii (s : String) : List Byte := s.toList.map (fun c => BitVec.ofNat 8 c.toNat)

/-- The default of a str or blob (the object tables; log 8 for those the spec gives none). -/
def Dict.dfltB (k : Nat) : List Byte :=
  let o := keyObj k
  let e := keyEl k
  if o = 0x0801 then zeros 40
  else if k = K.telPcDropMask then List.replicate 32 255
  else if k = K.idOrdering then ascii "CZG-204-A1-LC"
  else if o = 0x0502 ∧ 1 ≤ e ∧ e ≤ 4 then zeros 32
  else if k = K.fwSessionOwner then 255 :: zeros 23
  else if k = K.pwrDomainState then zeros 24
  else if k = K.pwrDomainMw then zeros 96
  else if k = K.thmTemps then zeros 128
  else if k = K.thmLastTrip then zeros 8
  else if k = K.agePointMv then zeros 32
  else if k = K.ageBaseline then Config.fuseBytes k
  else if k = K.ageSlack then zeros 448
  else if k = K.resetMilestones then zeros 16
  else if k = K.errCrashLast then zeros 256
  else if k = K.errExhaustState then zeros 48
  else if 0x0710 ≤ o ∧ o < 0x0720 then zeros 16
  else []

/-- An element's last accepted value (R384). -/
def Dev.el (d : Dev) (k : Nat) : Nat := SMap.get d.dict.vals k (Dict.dflt k)

/-- A str's or blob's last accepted value. -/
def Dev.blob (d : Dev) (k : Nat) : List Byte := SMap.get d.dict.blobs k (Dict.dfltB k)

/-- Write an element's value. -/
def Dev.setEl (d : Dev) (k v : Nat) : Dev :=
  { d with dict := { d.dict with vals := SMap.set d.dict.vals k v (Dict.dflt k) } }

def Dev.setBlob (d : Dev) (k : Nat) (v : List Byte) : Dev :=
  { d with dict := { d.dict with blobs := SMap.set d.dict.blobs k v (Dict.dfltB k) } }

/-- The value in force of an element of class epoch, restart or boot (R384). -/
def Dev.elIn (d : Dev) (k : Nat) : Nat := SMap.get d.dict.force k (Dict.dflt k)
def Dev.blobIn (d : Dev) (k : Nat) : List Byte := SMap.get d.dict.forceB k (Dict.dfltB k)

/-- An element that counts to 2^w - 1 and wraps, without a wrap bit (present values, u32 counts). -/
def Dev.addEl (d : Dev) (w k n : Nat) : Dev := Dev.setEl d k ((Dev.el d k + n) % 2 ^ w)

/-- Signed reading of an element (s32, s64: two's complement). -/
def Dev.elS (d : Dev) (w k : Nat) : Int := sgn w (Dev.el d k)

/-- Put every waiting value of commit class c in force (R383). -/
def Dev.commitClass (d : Dev) (c : ECom) : Dev :=
  let mine (k : Nat) : Bool :=
    match Dict.find (keyObj k) (keyEl k) with
    | some r => r.com == c
    | none => false
  let now := d.dict.waiting.filter mine
  let ds := now.foldl (fun (ds : DictS) k =>
    match Dict.find (keyObj k) (keyEl k) with
    | some r =>
      if r.ty == .blob || r.ty == .str then
        { ds with forceB := SMap.set ds.forceB k (SMap.get ds.blobs k (Dict.dfltB k)) (Dict.dfltB k) }
      else { ds with force := SMap.set ds.force k (SMap.get ds.vals k (Dict.dflt k)) (Dict.dflt k) }
    | none => ds) d.dict
  { d with dict := { ds with waiting := d.dict.waiting.filter (fun k => !mine k) } }

/-! The configuration store's pending set (R397, R398). -/

/-- Record `x` waits for the next generation; a later value of the same record takes the place of an earlier one. -/
def Dev.pend (d : Dev) (x : StoreItem) : Dev :=
  { d with dict := { d.dict with cfgPend := d.dict.cfgPend.filter (fun y => y.id != x.id) ++ [x] } }

/-- Element k's value waits for a generation of its own. -/
def Dev.persist (d : Dev) (k : Nat) : Dev :=
  Dev.pend { d with dict := { d.dict with cfgGroup := d.dict.cfgGroup + 1 } } { id := k, group := d.dict.cfgGroup, part := none }

/-- A part record waits for a generation; no bytes remove it. -/
def Dev.persistPart (d : Dev) (id : Nat) (bs : List Byte) : Dev :=
  Dev.pend { d with dict := { d.dict with cfgGroup := d.dict.cfgGroup + 1 } } { id := id, group := d.dict.cfgGroup, part := some bs }

/-- A stored record, as a number. -/
def Dev.stored (d : Dev) (id : Nat) : Nat := leNat (SMap.get d.dict.store id [])

end Sys2Proof.Machine
end

