-- ==== Sys2Proof/Machine/Ops.lean ====
section
/-! DEFINITION. The operations every chapter shares: time, free values, outputs, counters, events and MSI-X, the
telemetry writer, notices, errors. -/
namespace Sys2Proof.Machine

/-! Time (R237, R264 to R268). -/

/-- Scheduler time: nanoseconds with 16 fraction bits, 80 bits (R237). -/
def Dev.now (d : Dev) : Nat := 2097152 * d.ticks / 25 % 2 ^ 80

/-- The free-running count in whole nanoseconds (R268). -/
def Dev.freeNs (d : Dev) : Nat := d.ticks * 32 / 25

/-- The 1.024 µs age counter, as 32 bits (R189). -/
def Dev.age (d : Dev) : Nat := d.ticks / 800 % 2 ^ 32

/-- The signed difference of two scheduler times (R237). -/
def schedDiff (a b : Nat) : Int := sgn 80 (a + 2 ^ 80 - b % 2 ^ 80)

/-- Time base b. -/
def Dev.base (d : Dev) (b : Nat) : TimeBase := (d.time.bases[b]?).getD TimeBase.init
def Dev.setBase (d : Dev) (b : Nat) (t : TimeBase) : Dev :=
  { d with time := { d.time with bases := d.time.bases.set b t } }

/-- A base's time as a time element (R267), as an 80-bit timestamp (R266), and as seconds × 10^9 + ns modulo 2^64. -/
def TimeBase.elem (t : TimeBase) : Nat := t.frac / 2 ^ 16 + t.ns * 2 ^ 16 + t.sec * 2 ^ 48
def TimeBase.stamp (t : TimeBase) : Nat := t.frac / 2 ^ 30 + t.ns * 4 + t.sec * 2 ^ 32
def TimeBase.ns64 (t : TimeBase) : Nat := (t.sec * 1000000000 + t.ns) % 2 ^ 64

/-- TB0 now, in the three forms. -/
def Dev.tb0Elem (d : Dev) : Nat := TimeBase.elem (Dev.base d 0)
def Dev.tb0Ns (d : Dev) : Nat := TimeBase.ns64 (Dev.base d 0)

/-- A time in units of 2^-16 ns added to a base, wrapping the seconds at 2^48 (R265, R268). -/
def TimeBase.add (t : TimeBase) (x : Int) : TimeBase :=
  let total : Int := ((t.sec * 1000000000 + t.ns) * 2 ^ 32 + t.frac : Nat) + x * 2 ^ 16
  let m := (total % ((2 ^ 48 * 1000000000 * 2 ^ 32 : Nat) : Int)).toNat
  { t with frac := m % 2 ^ 32, ns := m / 2 ^ 32 % 1000000000, sec := m / 2 ^ 32 / 1000000000 }

/-- The advance of a base at one tick: 1.28 ns × (1 + ρ × 2^-48), kept exactly in units of 2^-48 / 25 ns (R265). -/
def TimeBase.tick (t : TimeBase) : TimeBase :=
  let unit := 25 * 2 ^ 16
  let r := t.resid + (32 * ((2 ^ 48 : Int) + t.rho)).toNat
  let f := t.frac + r / unit
  let n := t.ns + f / 2 ^ 32
  { t with resid := r % unit, frac := f % 2 ^ 32, ns := n % 1000000000, sec := (t.sec + n / 1000000000) % 2 ^ 48 }

/-- One tick of the counter clock (R237, R265, R268). -/
def Dev.tick (d : Dev) : Dev :=
  { d with ticks := d.ticks + 1, time := { d.time with bases := d.time.bases.map TimeBase.tick } }

/-! Free values and outputs. -/

/-- The next free value, below `m` (log 3). -/
def Dev.freeVal (d : Dev) (m : Nat) : Nat := Config.free d.free % m
def Dev.useFree (d : Dev) : Dev := { d with free := d.free + 1 }

/-- Put something outside the part (log 2). -/
def Dev.emit (d : Dev) (o : Out) : Dev := { d with out := d.out ++ [o] }

/-! Token buckets: levels are kept in 1 / 781,250,000 of the unit in which the rate is given per second. -/

/-- One second of ticks. -/
def ticksPerSec : Nat := 781250000

/-- A bucket brought up to now: `rate` units a second, at most `depth` units. -/
def Dev.fill (d : Dev) (b : Bucket) (rate depth : Nat) : Bucket :=
  { level := min (depth * ticksPerSec) (b.level + (d.ticks - b.at_) * rate), at_ := d.ticks }

/-- Take n units where they are present. -/
def Bucket.take (b : Bucket) (n : Nat) : Option Bucket :=
  if b.level < n * ticksPerSec then none else some { b with level := b.level - n * ticksPerSec }

/-! Host ports, events and MSI-X (R336). -/

/-- Host port 0 (A) or 1 (B). -/
def Dev.hp (d : Dev) (p : Nat) : HostPort := if p = 0 then d.hostA else d.hostB
def Dev.setHp (d : Dev) (p : Nat) (h : HostPort) : Dev :=
  if p = 0 then { d with hostA := h } else { d with hostB := h }

/-- The fixed vector of a cause bit (R336, Table 6). -/
def causeVector (b : Nat) : Nat :=
  match b with
  | 2 => 1 | 3 => 1 | 4 => 2 | 5 => 3
  | _ => if 16 ≤ b then b else 0

/-- The one ×8 port, and whether host port p exists (R328, R329). -/
def Dev.x8 (d : Dev) : Bool := Dev.el d (K.hostMode 0) == 1
def Dev.hostExists (d : Dev) (p : Nat) : Bool := p == 0 || !Dev.x8 d

/-- Whether a source can reach the part: port B, and the MCTP binding on it, are absent in ×8 mode (R329). -/
def Dev.present (d : Dev) : Source → Bool
  | .host hp => Dev.hostExists d hp.val
  | .mctp b _ => b.val != 2 || Dev.hostExists d 1
  | .udp _ _ _ => true

/-! Activity, which the energy model reads once a millisecond (R471). -/

/-- The keys of `TelS.acts`: event e of block b, bytes of port p, cells of queue n, bales of queue n in half `h` of the granary. -/
def actEvent (b e : Nat) : Nat := b * 2 ^ 8 + e
def actPort (p : Nat) : Nat := 2 ^ 16 + p
def actCells (n : Nat) : Nat := 2 ^ 20 + n
def actBale (h n : Nat) : Nat := 2 ^ 21 + h * 2 ^ 16 + n

/-- n more of an activity. -/
def Dev.act (d : Dev) (k n : Nat) : Dev := { d with tel := { d.tel with acts := SMap.set d.tel.acts k (SMap.get d.tel.acts k 0 + n) 0 } }

/-! Performance counters (R322). -/

/-- The index of a performance block in the sweep's order: 0x00 to 0x2C, then 0x30 to 0x3F (R322). -/
def perfBanks : List Nat := List.range 45 ++ (List.range 16).map (· + 0x30)

/-- Count event `e` of block `b` n times in its bank (R322). -/
def Dev.perfBank (d : Dev) (b e n : Nat) : Dev :=
  if Dev.el d K.gleanFreeze = 1 then d
  else
    (List.range 8).foldl (fun d k =>
      if bit (Dev.el d (K.perfEnable b)) k && bits (Dev.el d (K.perfSel b)) (8 * k) 8 == e then
        let v := Dev.el d (K.perfCtr b k) + n
        let d := Dev.setEl d (K.perfCtr b k) (v % 2 ^ 48)
        if 2 ^ 48 ≤ v then Dev.setEl d (K.perfWrap b) (Dev.el d (K.perfWrap b) ||| 2 ^ k) else d
      else d) d

/-- Event `e` of block `b`, n times: in its bank, and as activity (R322, R471). -/
def Dev.perf (d : Dev) (b e n : Nat) : Dev := Dev.perfBank (if e = 0 then d else Dev.act d (actEvent b e) n) b e n

/-- Send a vector's message, or set its pending bit; nothing leaves while the port is not in state 1 (R336, R345,
log 14). -/
def Dev.sendVector (d : Dev) (p v : Nat) : Dev :=
  let h := Dev.hp d p
  let e := SMap.get h.msix v { addr := 0, data := 0, masked := true }
  if Dev.el d (K.hostState p) ≠ 1 ∨ h.msixOn = false then d
  else if h.msixFuncMask || e.masked then Dev.setHp d p { h with msixPending := SMap.set h.msixPending v true false }
  else Dev.perf (Dev.emit d (.msix p v e.addr e.data)) (if p = 0 then 0x2A else 0x2B) 3 1

/-- Raise cause bit b in one port: an unmasked bit that goes from 0 to 1 sends its vector (R336). -/
def Dev.raiseOn (d : Dev) (p b : Nat) : Dev :=
  let h := Dev.hp d p
  if h.evtCause.getLsbD b then d
  else
    let d := Dev.setHp d p { h with evtCause := h.evtCause ||| BitVec.ofNat 64 (2 ^ b) }
    if h.evtMask.getLsbD b then d else Dev.sendVector d p (causeVector b)

/-- Raise cause bit b in both ports (R336). -/
def Dev.raise (d : Dev) (b : Nat) : Dev := Dev.raiseOn (Dev.raiseOn d 0 b) 1 b

/-! Wraps and bits of statistics counters (R319). -/

/-- A statistics counter's value after adding n, and whether it wrapped. -/
def wrap64 (v n : Nat) : Nat × Bool := ((v + n) % 2 ^ 64, decide (2 ^ 64 ≤ v + n))

/-! The telemetry store (R309, R313). -/

/-- Whether gran.state reads 1 or 2: the granary's regions exist (R231, R313). -/
def Dev.granUp (d : Dev) : Bool := Dev.el d K.granState == 1 || Dev.el d K.granState == 2

/-- C: the region's capacity, or 65,536 on-die (R309, R313). -/
def Dev.telCap (d : Dev) : Nat := if d.tel.inRegion then Dev.el d K.telStoreCapacity else 65536

/-- Stacks in service. -/
def Dev.inService (d : Dev) : List Nat :=
  (List.range 16).filter (fun s => let v := Dev.el d (K.gstackState s); v == 0 || v == 1 || v == 4)

/-- Whether the telemetry region gives space at a slot: the slots lie over the stacks in service in turn, and a stack that is too
hot or retires gives none (R226, R227, log 151). -/
def Dev.telSpace (d : Dev) (slot : Nat) : Bool :=
  let l := Dev.inService d
  !d.tel.inRegion || Dev.el d (K.gstackState (l.getD (slot % l.length) 0)) == 0

/-- Record s is lost in the store: every stream that comes to it skips it and counts it (R226, R503). -/
def Dev.recLost (d : Dev) (s : Nat) : Dev :=
  let head := Dev.el d K.telStoreHead
  let keep := d.tel.badRecs.filter (fun x => decide (head ≤ x + Dev.telCap d))
  { d with tel := { d.tel with badRecs := if keep.contains s then keep else keep ++ [s] } }

/-- Put a record, with the next sequence number in [95:32], into its slot (R309). -/
def Dev.telPut (d : Dev) (rec : Nat) : Dev :=
  let head := Dev.el d K.telStoreHead
  let slot := head % Dev.telCap d
  let d :=
    if Dev.telSpace d slot then { d with tel := { d.tel with recs := SMap.ins d.tel.recs slot (putBits rec 32 64 head) } }
    else Dev.recLost d head
  Dev.setEl d K.telStoreHead (head + 1)

/-! Notices (R310, R414). -/

/-- The 64-byte notice record (R310, type 3). -/
def noticeRec (chapter code time detail : Nat) : Nat :=
  3 + chapter * 2 ^ 8 + code % 2 ^ 16 * 2 ^ 16 + time * 2 ^ 96 + detail % 2 ^ 352 * 2 ^ 160

/-- The notice message that carries a record (R414): a Tuiley message of type 3 with one record of op 0x30. -/
def noticeMsg (rec : Nat) : List Byte :=
  [1, 3, 0, 0, 0, 0, 0, 1] ++ beBytes 4 88 ++ zeros 4 ++ [0, 0x30, 0, 0, 0, 0] ++ beBytes 2 64 ++ leBytes 64 rec

/-- Where an entry of notice.dest sends (R414, Table 1); nothing is sent on a host port that is not in state 1 (R345). -/
def Dev.noticeAt (d : Dev) (dst : Nat) : Option NoticeDest :=
  let bus := bits dst 3 2
  match bits dst 0 2 with
  | 1 => some (.udp (bits dst 2 1) (bits dst 16 16) (bits dst 128 128))
  | 2 => if bus = 0 ∨ Dev.el d (K.hostState (bus - 1)) = 1 then some (.mctp bus (bits dst 32 8)) else none
  | _ => none

/-- Send a notice to destination k where its mask selects the class and its bucket holds a token (R414); `cnt` counts it. -/
def Dev.noticeBy (cnt : Dev → Nat → Nat → Dev) (d : Dev) (cls rec k : Nat) : Dev :=
  let dst := leNat (Dev.blob d (K.noticeDest k))
  match Dev.noticeAt d dst with
  | none => d
  | some a =>
    if bit dst (64 + cls) = false then d
    else
      let b := Dev.fill d (SMap.get d.dict.noticeTok k Bucket.full) 100 100
      let set (d : Dev) (b : Bucket) : Dev := { d with dict := { d.dict with noticeTok := SMap.ins d.dict.noticeTok k b } }
      match Bucket.take b 1 with
      | some b => cnt (Dev.emit (set d b) (.notice a (noticeMsg rec))) K.noticeSent 1
      | none => cnt (set d b) K.noticeDropped 1

/-- A notice record that has been written: a crash record will hold it (R510), and it goes to its destinations (R414). -/
def Dev.noticeOut (cnt : Dev → Nat → Nat → Dev) (d : Dev) (cls nr : Nat) : Dev :=
  let d := { d with err := { d.err with notices := (d.err.notices ++ [nr]).drop (d.err.notices.length + 1 - 512) } }
  (List.range 4).foldl (fun d k => Dev.noticeBy cnt d cls nr k) d

/-- The notice record that the store takes next. -/
def Dev.nextNotice (d : Dev) (chapter code detail : Nat) : Nat :=
  putBits (noticeRec chapter code (Dev.tb0Ns d) detail) 32 64 (Dev.el d K.telStoreHead)

/-! Wraps of the counters that notices and lapped streams raise (R319). -/

/-- The notice of a wrap, which names the counter: an element by its key, a histogram bin above 2^24, a word of port.stats above
2^28; its code is a free value (log 146). -/
def Dev.nextWrap (d : Dev) (id : Nat) : Nat := Dev.nextNotice d 10 (Config.freeAt 14 id % 2 ^ 16) id

/-- The wrap notice of a counter that notices raise: what it adds to those counters itself wraps nothing more. -/
def Dev.wrapTell (d : Dev) (id : Nat) : Dev :=
  let nr := Dev.nextWrap d id
  Dev.noticeOut (fun d k n => Dev.addEl d 64 k n) (Dev.telPut d nr) 7 nr

/-- A wrap's sticky bit. -/
def Dev.wrapMark (d : Dev) (id : Nat) : Dev := { d with tel := { d.tel with wraps := SMap.set d.tel.wraps id true false } }

/-- A wrap's sticky bit, its tally and its cause bit; the tally wraps as another counter does (R319). -/
def Dev.wrapBits (d : Dev) (id : Nat) : Dev :=
  let w := wrap64 (Dev.el d K.telWrapEvents) 1
  let d := Dev.raise (Dev.setEl (Dev.wrapMark d id) K.telWrapEvents w.1) 7
  if w.2 then Dev.wrapTell (Dev.setEl (Dev.wrapMark d K.telWrapEvents) K.telWrapEvents 1) K.telWrapEvents else d

/-- Add to a counter that the notices themselves and the lapping of their streams raise (log 146). -/
def Dev.countQuiet (d : Dev) (k n : Nat) : Dev :=
  let w := wrap64 (Dev.el d k) n
  let d := Dev.setEl d k w.1
  if w.2 then Dev.wrapTell (Dev.wrapBits d k) k else d

/-- What the state element of a microcontroller reads after a step of its reload (R451). -/
def ReloadWay.code : ReloadWay → Nat
  | .runs => 0
  | .begins => 1
  | .memory => 1
  | .fails => 2

/-- The day of row r of the table of resources has come (R515). -/
def Dev.day (d : Dev) (r : Nat) : Dev :=
  if d.err.days.contains r then d else { d with err := { d.err with days := r :: d.err.days } }

/-- Word w of port p's statistics (R321). -/
def Dev.stat (d : Dev) (p w : Nat) : Nat := SMap.get d.tel.stats (p * 32 + w) 0

/-! The telemetry store (R309 to R313). -/

/-- Kind, type mask and the other fields of stream.cfg (R325). -/
def Dev.streamKind (d : Dev) (i : Nat) : Nat := bits (Dev.el d (K.streamCfg i)) 0 2
def Dev.stream (d : Dev) (i : Nat) : StreamS := SMap.get d.tel.streams i StreamS.init
def Dev.setStream (d : Dev) (i : Nat) (s : StreamS) : Dev :=
  { d with tel := { d.tel with streams := SMap.set d.tel.streams i s StreamS.init } }

/-- A loss marker (R310, type 4). -/
def lossMarker (first n : Nat) : Nat := 4 + first * 2 ^ 32 + n * 2 ^ 96

/-- Move a stream's read position past lost records (R311, R312). -/
def Dev.streamSkip (d : Dev) (i upTo : Nat) : Dev :=
  let r := Dev.el d (K.streamRead i)
  if upTo ≤ r then d
  else
    let s := Dev.stream d i
    let d := Dev.setStream d i { s with ready := s.ready ++ [lossMarker r (upTo - r)] }
    let d := Dev.setEl d (K.streamRead i) upTo
    Dev.perf (Dev.countQuiet d (K.streamLost i) (upTo - r)) 0x2C 7 (upTo - r)

/-- A lapped stream jumps (R311). -/
def Dev.streamLap (d : Dev) (i : Nat) : Dev :=
  let head := Dev.el d K.telStoreHead
  let c := Dev.telCap d
  if Dev.streamKind d i ≠ 0 ∧ c < head - Dev.el d (K.streamRead i) then Dev.streamSkip d i (head - 15 * c / 16) else d

/-- Write a record, with the next sequence number in [95:32], to its slot; the streams that it laps jump (R309, R311). -/
def Dev.telWrite (d : Dev) (rec : Nat) : Dev := (List.range 8).foldl Dev.streamLap (Dev.telPut d rec)

/-- The two postcard buckets of a pipeline, in 1/16 record (R307). -/
def Dev.totBucket (d : Dev) (n : Nat) : Bucket :=
  Dev.fill d (SMap.get d.tel.totTok n Bucket.full) (1000000 * Dev.el d K.telPcLimitEff) (65536 * 16)
def Dev.dropBucket (d : Dev) (n : Nat) : Bucket :=
  Dev.fill d (SMap.get d.tel.dropTok n Bucket.full) (1000000 * Dev.el d K.telPcDropLimit) (65536 * 16)
def Dev.setTot (d : Dev) (n : Nat) (b : Bucket) : Dev :=
  { d with tel := { d.tel with totTok := SMap.ins d.tel.totTok n b } }
def Dev.setDrop (d : Dev) (n : Nat) (b : Bucket) : Dev :=
  { d with tel := { d.tel with dropTok := SMap.ins d.tel.dropTok n b } }

/-- A tally or notice record takes a total-bucket token of pipeline n when one is present (R307, log 11). -/
def Dev.takeTotal (d : Dev) (n : Nat) : Dev :=
  match Bucket.take (Dev.totBucket d n) 16 with
  | some b => Dev.setTot d n b
  | none => d

/-- Write a notice record and send it to its destinations; `cls` is the event's EVT_CAUSE class (R310, R414). -/
def Dev.notice (d : Dev) (cls chapter code detail : Nat) : Dev :=
  let nr := Dev.nextNotice d chapter code detail
  Dev.noticeOut Dev.countQuiet (Dev.telWrite (Dev.takeTotal d 0) nr) cls nr

/-! Statistics counters (R319, R320). -/

/-- A wrap: the sticky bit of counter `id` and the counter-wrap event, whose notice names the counter (R319, log 146). -/
def Dev.wrapped (d : Dev) (id : Nat) : Dev :=
  let d := Dev.wrapBits d id
  let nr := Dev.nextWrap d id
  Dev.noticeOut Dev.countQuiet (Dev.telWrite (Dev.takeTotal d 0) nr) 7 nr

/-- Add to a statistics counter held in an element (R319). -/
def Dev.count (d : Dev) (k n : Nat) : Dev :=
  let w := wrap64 (Dev.el d k) n
  let d := Dev.setEl d k w.1
  if w.2 then Dev.wrapped d k else d

/-- Add to word w of port.stats; word 31 mirrors the wrap bits (R321). -/
def Dev.countStat (d : Dev) (p w n : Nat) : Dev :=
  let x := wrap64 (Dev.stat d p w) n
  let set (d : Dev) (i v : Nat) : Dev :=
    { d with tel := { d.tel with stats := SMap.set d.tel.stats (p * 32 + i) v 0 } }
  let d := set d w x.1
  let d := if w == 1 || w == 14 then Dev.act d (actPort p) n else d
  let d := if x.2 && (w == 1 || w == 14) then Dev.day d 5 else d
  if x.2 then Dev.wrapped (set d 31 (Dev.stat d p 31 ||| 2 ^ w)) (2 ^ 28 + p * 32 + w) else d

/-- Add one to a histogram bin (R300, R319). -/
def Dev.countBin (d : Dev) (id : Nat) : Dev :=
  let x := wrap64 (SMap.get d.tel.hist id 0) 1
  let d := { d with tel := { d.tel with hist := SMap.set d.tel.hist id x.1 0 } }
  if x.2 then Dev.wrapped d (2 ^ 24 + id) else d

/-- Raise an event of class `cls` whose notice carries `detail` in its low bits; its code and the rest are free values (log 12). -/
def Dev.eventD (d : Dev) (cls chapter detail : Nat) : Dev :=
  let d := Dev.raise d cls
  Dev.useFree (Dev.notice d cls chapter (Dev.freeVal d (2 ^ 16)) (detail % 2 ^ 32 + Dev.freeVal d (2 ^ 320) * 2 ^ 32))

/-- Raise an event of class `cls` whose notice the spec gives neither code nor detail: both are free values (log 12). -/
def Dev.event (d : Dev) (cls chapter : Nat) : Dev :=
  let d := Dev.raise d cls
  Dev.useFree (Dev.notice d cls chapter (Dev.freeVal d (2 ^ 16)) (Dev.freeVal d (2 ^ 352)))

/-! Errors (R500 to R510). -/

/-- An err.log entry (Table 3). -/
def logEntry (time cls chapter code obj el unit : Nat) : Nat :=
  time + cls * 2 ^ 64 + chapter * 2 ^ 72 + code % 2 ^ 16 * 2 ^ 80 + obj * 2 ^ 96 + el * 2 ^ 112 + unit % 2 ^ 32 * 2 ^ 128

/-- The source of an entry: class, chapter, code, object, element and unit. -/
def logSource (e : Nat) : Nat := bits e 64 96

/-- Raise the repeats of the last entry of a source, saturating (R501). -/
def bumpLast (src : Nat) (log : List Nat) : List Nat :=
  (log.reverse.foldl (fun (acc : List Nat × Bool) e =>
    if !acc.2 && logSource e == src then (putBits e 160 16 (min 0xFFFF (bits e 160 16 + 1)) :: acc.1, true)
    else (e :: acc.1, acc.2)) ([], false)).1

/-- Append an entry to err.log, or count a repeat within 1 s of the source's last entry; whether it was new (R501). -/
def Dev.appendLog (d : Dev) (e : Nat) : Dev × Bool :=
  let src := logSource e
  match d.err.last.find? (fun x => x.1 == src) with
  | some x =>
    if Dev.freeNs d < x.2 + 1000000000 then
      ({ d with err := { d.err with log := bumpLast src d.err.log } }, false)
    else append src
  | none => append src
where
  append (src : Nat) : Dev × Bool :=
    let er := { d.err with
      log := (d.err.log ++ [e]).drop (d.err.log.length + 1 - 256),
      last := (src, Dev.freeNs d) :: d.err.last.filter (fun x => x.1 != src) }
    (Dev.count { d with err := er } K.errLogCount 1, true)

/-- A contained error (R500, R501): the counter, the event, the log entry and the notice. -/
def Dev.contained (d : Dev) (chapter code obj el unit : Nat) : Dev :=
  let d := Dev.raise (Dev.count d K.errContained 1) 2
  let e := logEntry (Dev.tb0Ns d) 1 chapter code obj el unit
  let r := Dev.appendLog d e
  if r.2 then Dev.notice r.1 2 18 2 e else r.1

/-- A contained error whose notice code the spec leaves to its chapter and does not give: a free value (log 12). -/
def Dev.containedF (d : Dev) (chapter obj el unit : Nat) : Dev :=
  Dev.contained d chapter (Config.freeAt 1 (key obj el) % 2 ^ 16) obj el unit

/-- The structure of Table 2 whose corrected errors a counter counts, by its row from 0 (R503). -/
def structRow (obj el : Nat) : Nat :=
  if 0x0180 ≤ obj ∧ obj < 0x0190 then 1
  else if obj = 0x0D00 ∧ el = 7 then 4
  else if 0x0810 ≤ obj ∧ obj < 0x0814 then 5
  else if obj = 0x0D00 ∨ obj = 0x0802 ∨ (0x0820 ≤ obj ∧ obj < 0x0830) then 6
  else if 0x0900 ≤ obj ∧ obj < 0x0A00 then 8
  else if 0x0A00 ≤ obj ∧ obj < 0x0B00 then 9
  else if obj = keyObj K.dmaCtxMisses then 14
  else if obj = 0x0003 then 17
  else 18

/-- A corrected error of a structure of Table 2, which the counter (obj, el) counts (R500, R502): beyond the limit in an hour, one
notice an hour, which names the counter. -/
def Dev.corrected (d : Dev) (obj el n : Nat) : Dev :=
  let d := Dev.count d K.errCorrected n
  let s := structRow obj el
  let c := SMap.get d.err.corrHour s 0 + n
  let d := { d with err := { d.err with corrHour := SMap.set d.err.corrHour s c 0 } }
  if Dev.el d K.errCorrectedLimit < c ∧ SMap.get d.err.corrNoted s false = false then
    let d := { d with err := { d.err with corrNoted := SMap.set d.err.corrNoted s true false } }
    Dev.notice d 2 18 1 (obj + el * 2 ^ 16 + c % 2 ^ 32 * 2 ^ 24)
  else d

/-- A capture that is in progress takes a further cause into its record (R510). -/
def Dev.crashMerge (d : Dev) (cause : Nat) : Dev :=
  let seq := Dev.el d K.errCrashCount - 1
  let join (h : List Byte) : List Byte := splice h 5 [BitVec.ofNat 8 (byteAt h 5 ||| cause)]
  let d := Dev.persist (Dev.setBlob d K.errCrashLast (join (Dev.blob d K.errCrashLast))) K.errCrashLast
  match SMap.find d.err.crashes seq with
  | some c => { d with err := { d.err with crashes := SMap.ins d.err.crashes seq { c with hdr := join c.hdr } } }
  | none => d

/-- Capture a crash record for the causes in `cause` (R510, Table 5). While gran.state reads 0 or 3 only err.crash.last
is written. A capture lasts to the end of its tick (log 179): what asks for one until then is merged into it. -/
def Dev.crash (d : Dev) (cause : Nat) : Dev :=
  if d.err.crashAt = some d.ticks then Dev.crashMerge d cause
  else
  let d := { d with err := { d.err with crashAt := some d.ticks } }
  let seq := Dev.el d K.errCrashCount
  let hdr : List Byte :=
    leBytes 4 0x43525348 ++ [1] ++ leBytes 1 cause ++ zeros 2 ++ leBytes 8 seq ++ leBytes 8 (Dev.tb0Ns d)
      ++ leBytes 4 (Dev.el d K.lifePowerOnH) ++ leBytes 8 (Dev.el d K.fwRunningVersion)
      ++ leBytes 8 (Dev.el d K.errFatal) ++ zeros 212
  let d := Dev.setBlob d K.errCrashLast hdr
  let d := Dev.persist d K.errCrashLast
  let d := if Dev.granUp d then
      { d with err := { d.err with
        crashes := SMap.ins d.err.crashes seq { hdr := hdr, log := d.err.log, notices := d.err.notices } } }
    else d
  Dev.notice (Dev.count d K.errCrashCount 1) 2 18 6 (seq + cause * 2 ^ 64)

/-- A fatal error: bit b of err.fatal, the event, the log entry, the notice, and where the bit is set now a crash record (R500,
R501, R509, R510). -/
def Dev.fatal (d : Dev) (b chapter obj el unit : Nat) : Dev :=
  let new := !bit (Dev.el d K.errFatal) b
  let d := Dev.raise (Dev.setEl d K.errFatal (Dev.el d K.errFatal ||| 2 ^ b)) 3
  let d := { d with fw := { d.fw with fatalSince := true } }
  let e := logEntry (Dev.tb0Ns d) 2 chapter b obj el unit
  let r := Dev.appendLog d e
  let d := if r.2 then Dev.notice r.1 3 18 3 (e + Dev.el r.1 K.errFatal * 2 ^ 256) else r.1
  if new then Dev.crash d 4 else d

/-- The end of a command object's command: its status element (R396). -/
def Dev.finish (d : Dev) (k v : Nat) : Dev := Dev.setEl d k v

/-! The update session (R438). -/

/-- The update session ends and its staged copy is discarded (R438). -/
def Dev.fwEnd (d : Dev) : Dev :=
  match d.fw.owner with
  | none => d
  | some o =>
    let d := { d with fw := { d.fw with owner := none, staged := d.fw.staged.filter (fun x => x.1 != o) } }
    let d := Dev.setEl (Dev.setEl d K.fwSessionState 0) K.fwStageLength 0
    Dev.setBlob d K.fwSessionOwner (Dict.dfltB K.fwSessionOwner)

/-! Domains (R452 to R456) and start-up's milestones (R495). -/

/-- pwr.domain.state of domain i: 0 off, 1 on, 2 supply lost. -/
def Dev.domain (d : Dev) (i : Nat) : Nat := byteAt (Dev.blob d K.pwrDomainState) i
def Dev.setDomain (d : Dev) (i v : Nat) : Dev :=
  Dev.setBlob d K.pwrDomainState (splice (Dev.blob d K.pwrDomainState) i [BitVec.ofNat 8 v])

/-- Word i of reset.milestones takes the present time in ms from power-good, where it is not yet set. -/
def Dev.milestone (d : Dev) (i : Nat) : Dev :=
  let m := Dev.blob d K.resetMilestones
  if leNat (slice m (4 * i) 4) = 0 then Dev.setBlob d K.resetMilestones (splice m (4 * i) (leBytes 4 (d.ticks / 781250)))
  else d

/-- PORST_N is asserted, the core supply is lost, or the trip state holds (R455, R482, R489). -/
def Dev.held (d : Dev) : Bool := d.rst.porst || d.rst.coreLost || d.pwr.tripped

/-- Domains D1 to D23 do nothing: they are held, or still isolated, from power-good until the power controller has turned D1 to D5
on (R454, R495). -/
def Dev.dark (d : Dev) : Bool := Dev.held d || Dev.domain d 1 != 1

/-- The power controller runs; while it is reloaded its actuators hold (R424). -/
def Dev.pctlUp (d : Dev) : Bool := Dev.el d K.fwPctlState == 0

/-- A meaning that changes the part and not the epoch counter, and always goes on; of what D1 to D23 do. -/
def lift (f : Dev → Dev) (s : State) : Host.Outcome State Fault Refusal :=
  .next (if Dev.dark s.dev then s else { s with dev := f s.dev })

/-- A meaning that reads the epoch counter. -/
def liftE (f : Nat → Dev → Dev) (s : State) : Host.Outcome State Fault Refusal :=
  .next (if Dev.dark s.dev then s else { s with dev := f s.epoch s.dev })

/-- A meaning of what starts the part: it runs in D0 before D1 is on, and not while D1 to D23 are held (R495). -/
def liftB (f : Dev → Dev) (s : State) : Host.Outcome State Fault Refusal :=
  .next (if Dev.held s.dev then s else { s with dev := f s.dev })

/-- A meaning of D0, which runs whatever the other domains do. -/
def lift0 (f : Dev → Dev) (s : State) : Host.Outcome State Fault Refusal := .next { s with dev := f s.dev }

end Sys2Proof.Machine
end

