-- ==== Sys2Proof/Machine/Thresher.lean ====
section
/-! DEFINITION. The Thresher and the sheaf: the parse program and its one step (R72 to R88), field access. -/
namespace Sys2Proof.Machine

/-- The w bits of the sheaf from offset `off` up (R135). -/
def Sheaf.fld (s : Sheaf) (off w : Nat) : Nat := bits s.toNat off w

/-- The sheaf with the w bits from `off` up replaced. -/
def Sheaf.putFld (s : Sheaf) (off w v : Nat) : Sheaf := BitVec.ofNat 4096 (putBits s.toNat off w v)

/-- Header record i: its class and its offset (R84, Table 8b). -/
def Sheaf.recClass (s : Sheaf) (i : Nat) : Nat := Sheaf.fld s (256 + 16 * i) 7
def Sheaf.recOffset (s : Sheaf) (i : Nat) : Nat := Sheaf.fld s (263 + 16 * i) 9

/-- Intrinsic metadata (R83, Table 8a). -/
def Sheaf.ingressPort (s : Sheaf) : Nat := Sheaf.fld s 0 11
def Sheaf.privileged (s : Sheaf) : Bool := Sheaf.fld s 14 1 == 1
def Sheaf.exception (s : Sheaf) : Nat := Sheaf.fld s 24 8
def Sheaf.parseEnd (s : Sheaf) : Nat := Sheaf.fld s 46 10
def Sheaf.finalState (s : Sheaf) : Nat := Sheaf.fld s 56 8
def Sheaf.headerCount (s : Sheaf) : Nat := Sheaf.fld s 240 6

/-- Depth limit D, start states and counts of a parse program header (R73). -/
def Image.startPort (i : Image) : Nat := bits i.hdr 0 8
def Image.startRecirc (i : Image) : Nat := bits i.hdr 8 8
def Image.startCpu (i : Image) : Nat := bits i.hdr 16 8
def Image.depth (i : Image) : Nat := bits i.hdr 24 10
def Image.stateCount (i : Image) : Nat := bits i.hdr 34 9
def Image.transCount (i : Image) : Nat := bits i.hdr 43 11
def Image.extractCount (i : Image) : Nat := bits i.hdr 54 12

/-- Two bytes in network order (R75). -/
def get16 (f : List Byte) (o : Nat) : Nat := byteAt f o * 256 + byteAt f (o + 1)

/-- A frame field in network order: `len` bits from bit `off` of the frame (R77). -/
def frameBits (f : List Byte) (off len : Nat) : Nat :=
  let o := off / 8
  let n := (off % 8 + len + 7) / 8
  beNat (slice f o n ++ zeros (n - (f.length - o))) / 2 ^ (8 * n - off % 8 - len) % 2 ^ len

/-- How a parse stands or ended. -/
structure Parse where
  cursor : Nat
  state : Nat
  /-- Transitions committed. -/
  n : Nat
  /-- Header records written. -/
  h : Nat
  sheaf : Sheaf
  ptp : Bool
  /-- `some code` once the parse has ended. -/
  done : Option Nat
  deriving DecidableEq, Repr

/-- The exception, if any, of needing k bytes at offset a (R79 need): 0x04 when the data ends at or before D, else
0x01. `len` is `none` while length_pending is 1. -/
def need (len : Option Nat) (dep a k : Nat) : Option Nat :=
  match len with
  | none => if a + k > dep then some 0x01 else none
  | some l => if a + k > min l dep then some (if l ≤ dep then 0x04 else 0x01) else none

/-- The first exception of a list of checks. -/
def firstSome : List (Option Nat) → Option Nat
  | [] => none
  | some x :: _ => some x
  | none :: t => firstSome t

/-- The bytes a frame extract spans: offset past the cursor and count (R77). -/
def extractSpan (x : Nat) : Nat × Nat :=
  let src := bits x 2 12
  let len := bits x 14 7 + 1
  (src / 8, (src % 8 + len + 7) / 8)

/-- One extract action (R77). Of a constant longer than its field the low bits are kept (log 129). -/
def extractOne (f : List Byte) (c : Nat) (x : Nat) (s : Sheaf) : Sheaf :=
  let src := bits x 2 12
  let len := bits x 14 7 + 1
  let dest := bits x 21 12
  let v := match bits x 0 2 with
    | 0 => frameBits f (8 * c + src) len
    | 1 => src
    | _ => Sheaf.fld s src len
  Sheaf.putFld s dest len v

/-- The lowest entry of a state's range that matches (R76). -/
def findTrans (img : Image) (key : Nat) : Nat → Nat → Option Nat
  | 0, _ => none
  | k + 1, i =>
    let e := SMap.get img.trans i 0
    let mask := bits e 32 32
    if key &&& mask = bits e 0 32 &&& mask then some e else findTrans img key k (i + 1)

/-- Whether the last IP record before record i has class 7 (R88). -/
def lastIpV6 (s : Sheaf) : Nat → Bool
  | 0 => false
  | i + 1 =>
    if Sheaf.recClass s i = 7 then true
    else if Sheaf.recClass s i = 6 then false else lastIpV6 s i

/-- The examination of a PTP common header at offset c, whose own record is number h - 1 (R88). -/
def ptpExamine (f : List Byte) (c h : Nat) (s : Sheaf) : Sheaf :=
  let ty := byteAt f c % 16
  if byteAt f (c + 1) % 16 = 2 ∧ ty ≤ 3 then
    let s := Sheaf.putFld s 13 1 1
    let s := Sheaf.putFld s 147 4 ty
    let s := Sheaf.putFld s 151 1 (byteAt f (c + 6) / 2 % 2)
    let s := Sheaf.putFld s 152 8 (byteAt f (c + 4))
    if 2 ≤ h ∧ Sheaf.recClass s (h - 2) = 16 then
      Sheaf.putFld (Sheaf.putFld s 17 1 1) 18 1 (b2n (lastIpV6 s (h - 2)))
    else s
  else s

/-- One parse step of R79: it commits or ends the parse. `len` is the data length, `none` while length_pending. -/
def parseStep (img : Image) (f : List Byte) (len : Option Nat) (p : Parse) : Parse :=
  let dep := img.depth
  let c := p.cursor
  let fail (code : Nat) : Parse := { p with done := some code }
  if p.n = 64 then fail 0x02
  else
    let st := SMap.get img.states p.state 0
    let k0 := bit st 6
    let k1 := bit st 13
    let o0 := c + bits st 0 6
    let o1 := c + bits st 7 6
    match firstSome [if k0 then need len dep o0 2 else none, if k1 then need len dep o1 2 else none] with
    | some code => fail code
    | none =>
      let key := (if k0 then get16 f o0 * 65536 else 0) + (if k1 then get16 f o1 else 0)
      match findTrans img key (bits st 24 8) (bits st 14 10) with
      | none => if bit st 32 then fail 0x05 else { p with done := some 0x00 }
      | some e =>
        let cls := bits e 73 7
        let mark := bit e 80
        let ending := bit e 72
        let next := bits e 64 8
        let xs := (List.range (bits e 121 4)).map (fun i => SMap.get img.extr (bits e 110 11 + i) 0)
        let scale := bits e 107 3
        let lenAt := c + bits e 90 6
        let adv := bits e 81 9 +
          (if scale = 0 then 0
           else (byteAt f lenAt &&& bits e 96 8) / 2 ^ bits e 104 3 * 2 ^ (scale - 1))
        let c2 := c + adv
        let checks :=
          [if cls ≠ 0 ∧ p.h = 32 then some 0x03 else none,
           if mark then need len dep c 34 else none]
          ++ xs.map (fun x => if bits x 0 2 = 0 then need len dep (c + (extractSpan x).1) (extractSpan x).2 else none)
          ++ [if scale ≠ 0 then need len dep lenAt 1 else none,
              if !ending ∧ dep ≤ c2 then some 0x01 else none,
              match len with | some l => if l < c2 then some 0x04 else none | none => none,
              if 1023 < c2 then some 0x01 else none]
        match firstSome checks with
        | some code => fail code
        | none =>
          let s := if cls ≠ 0 then Sheaf.putFld p.sheaf (256 + 16 * p.h) 16 (c * 128 + cls) else p.sheaf
          let h := if cls ≠ 0 then p.h + 1 else p.h
          let s := if mark && !p.ptp then ptpExamine f c h s else s
          let s := xs.foldl (fun s x => extractOne f c x s) s
          { cursor := c2, state := if ending then p.state else next, n := p.n + 1, h := h, sheaf := s,
            ptp := p.ptp || mark, done := if ending then some next else none }

/-- The parse, at most 65 steps (R79: the 65th fails or ends it). -/
def parseRun (img : Image) (f : List Byte) (len : Option Nat) : Nat → Parse → Parse
  | 0, p => p
  | k + 1, p => if p.done.isSome then p else parseRun img f len k (parseStep img f len p)

/-- The whole parse of a packet from state `start` on the loaded sheaf, and what it writes at its end (R80). -/
def parse (img : Image) (f : List Byte) (len : Option Nat) (start : Nat) (s0 : Sheaf) : Parse :=
  let p := parseRun img f len 66
    { cursor := 0, state := start, n := 0, h := 0, sheaf := s0, ptp := false, done := none }
  let code := p.done.getD 0
  let s := Sheaf.putFld p.sheaf 24 8 code
  let s := Sheaf.putFld s 12 1 (b2n (decide (1 ≤ code ∧ code ≤ 5)))
  let s := Sheaf.putFld s 46 10 p.cursor
  let s := Sheaf.putFld s 56 8 p.state
  let s := Sheaf.putFld s 240 6 p.h
  let s := Sheaf.putFld s 246 7 p.n
  { p with sheaf := s, done := some code }

/-- The words of the parse program that one step reads, counted in 8 bytes from the start of section 0x01: the state, the
entries of its range up to the match, and the extract actions of the transition (R74 to R77, log 101). -/
def stepReads (img : Image) (f : List Byte) (p : Parse) : List Nat :=
  let st := SMap.get img.states p.state 0
  let lo := bits st 14 10
  let cnt := bits st 24 8
  let key := (if bit st 6 then get16 f (p.cursor + bits st 0 6) * 65536 else 0)
    + (if bit st 13 then get16 f (p.cursor + bits st 7 6) else 0)
  let hits (i : Nat) : Bool :=
    let e := SMap.get img.trans i 0
    (key &&& bits e 32 32) == (bits e 0 32 &&& bits e 32 32)
  let first := ((List.range cnt).find? (fun i => hits (lo + i))).getD cnt
  let ns := img.stateCount
  let nt := img.transCount
  [2 + p.state]
    ++ (List.range (min cnt (first + 1))).flatMap (fun i => [2 + ns + 2 * (lo + i), 3 + ns + 2 * (lo + i)])
    ++ (match findTrans img key cnt lo with
        | some e => (List.range (bits e 121 4)).map (fun i => 2 + ns + 2 * nt + bits e 110 11 + i)
        | none => [])

/-- The words that a whole parse reads, the header's among them. -/
def parseWords (img : Image) (f : List Byte) (len : Option Nat) : Nat → Parse → List Nat
  | 0, _ => []
  | k + 1, p =>
    if p.done.isSome || p.n == 64 then [] else stepReads img f p ++ parseWords img f len k (parseStep img f len p)

def parseReads (img : Image) (f : List Byte) (len : Option Nat) (start : Nat) (s0 : Sheaf) : List Nat :=
  [0, 1] ++ parseWords img f len 66
    { cursor := 0, state := start, n := 0, h := 0, sheaf := s0, ptp := false, done := none }

/-- The class of a packet by the class map of its bank (R131). -/
def classOf (img : Image) (s : Sheaf) : Nat :=
  let e := Sheaf.exception s
  if 1 ≤ e ∧ e ≤ 5 then SMap.get img.classMap (255 + e) 0 % 16
  else SMap.get img.classMap (Sheaf.finalState s) 0 % 16

/-- The cost of a class (R93, R132). -/
def classCost (img : Image) (cls : Nat) : Nat := SMap.get img.classMap (264 + cls) 0

/-! Keys and hashes (R94 to R99). -/

/-- The key of a profile: its value and its length in bits (R94). -/
def keyOf (img : Image) (s : Sheaf) (prof : Nat) : Nat × Nat :=
  (List.range 16).foldl (fun (kv : Nat × Nat) i =>
    let w := SMap.get img.keys (prof * 16 + i) 0
    if bit w 18 then
      let len := bits w 12 6 + 1
      (kv.1 * 2 ^ len + Sheaf.fld s (bits w 0 12) len, kv.2 + len)
    else kv) (0, 0)

/-- The sixteen CRC polynomials, normal form (R98, Table 3). -/
def crcPolys : List Nat :=
  [0x04C11DB7, 0x1EDC6F41, 0xA833982B, 0xF4ACFB13, 0x741B8CD7, 0x814141AB, 0x8001801B, 0x000000AF,
   0x32558349, 0x9960034D, 0xBA0DC66B, 0x2083B1C1, 0x5A0A1E4F, 0x6D452E39, 0xC86721B5, 0x3B0F4A97]

/-- The CRC of R98 with polynomial number i and seed s. -/
def crcOf (i seed : Nat) (bs : List Byte) : Nat :=
  crcRun (revBits 32 (crcPolys.getD i 0)) (0xFFFFFFFF ^^^ seed) bs ^^^ 0xFFFFFFFF

/-- The Toeplitz function: `key` is the 320-bit key as a number, `x` the input of `n` bits (R99). -/
def toeplitz (key : Nat) (x n : Nat) : Nat → Nat
  | 0 => 0
  | i + 1 =>
    (if bit x (n - 1 - i) then bits key (320 - 32 - i) 32 else 0) ^^^ toeplitz key x n i

/-- The value of hash profile `p`: the key's bytes under the profile's function and seed (R96 to R99). `keys` are the
four device-wide Toeplitz keys. -/
def hashOf (img : Image) (keys : List (List Byte)) (s : Sheaf) (p : Nat) : Nat :=
  let w := SMap.get img.hashes p 0
  let seed := bits w 32 32
  let kv := keyOf img s (bits w 0 8)
  let n := (kv.2 + 7) / 8
  let fn := bits w 8 5
  if fn < 16 then crcOf fn seed (beBytes n kv.1)
  else (toeplitz (beNat (keys.getD (fn - 16) [])) kv.1 (8 * n) (8 * n)) ^^^ seed

end Sys2Proof.Machine
end

