-- ==== Sys2Proof/Machine/Deparser.lean ====
section
/-! DEFINITION. The deparsers (R140, R141). -/
namespace Sys2Proof.Machine

/-- A remainder point: one before the frame's first byte lies outside the frame, as one past its end does (R140). -/
def remPoint (i : Int) : Nat := if i < 0 then 2 ^ 20 else i.toNat

/-- Big-endian 16-bit one's complement sum of bytes. -/
def sum16 : List Byte → Nat
  | [] => 0
  | [a] => a.toNat * 256
  | a :: b :: t => a.toNat * 256 + b.toNat + sum16 t

/-- The Internet checksum of a string. -/
def inetSum (bs : List Byte) : Nat :=
  let s := sum16 bs
  let s := s % 65536 + s / 65536
  let s := s % 65536 + s / 65536
  65535 - s

/-- Offset of an entry: absolute, or relative to a header record (R140). `delta` shifts the record offsets. -/
def depOffset (s : Sheaf) (delta : Int) (e : Nat) : Int :=
  let off : Int := bits e 8 9
  if bit e 2 then off + (Sheaf.recOffset s (bits e 3 5) : Int) + (if bits e 3 5 < Sheaf.headerCount s then delta else 0)
  else off

/-- Frame bytes from a possibly outlying offset, zeros where the frame has none, and whether any was missing. -/
def takeFrame (data : List Byte) (o : Int) (n : Nat) : List Byte × Bool :=
  if o < 0 then (zeros n, true)
  else
    let b := slice data o.toNat n
    (b ++ zeros (n - b.length), decide (b.length < n))

/-- Follow frame byte `tgt` through n bytes emitted from frame offset o with `h` bytes before them (R178). -/
def follow (tgt : Option Nat) (o : Int) (n h : Nat) (was : Option Nat) : Option Nat :=
  match was, tgt with
  | none, some t => if o ≤ (t : Int) ∧ (t : Int) < o + n then some (h + ((t : Int) - o).toNat) else none
  | w, _ => w

/-- The entries of a list from entry i on. `data` is the frame's data, `tgt` a byte of it to follow. -/
def depRun (dep : SMap Nat) (cls : Nat) (s : Sheaf) (delta : Int) (tgt : Option Nat) (data : List Byte) :
    Nat → Nat → Deparsed → Deparsed
  | 0, _, d => { d with rem := remPoint ((Sheaf.parseEnd s : Int) + delta) }
  | k + 1, i, d =>
    let e := SMap.get dep (cls * 32 + i) 0
    match bits e 0 2 with
    | 0 => { d with rem := remPoint ((Sheaf.parseEnd s : Int) + delta) }
    | 1 =>
      let n := bits e 17 9 + 1
      let missing := bit e 2 && decide (Sheaf.headerCount s ≤ bits e 3 5)
      let got := if missing then (zeros n, true) else takeFrame data (depOffset s delta e) n
      let cs := if bit e 31 then d.csums ++ [d.head.length] else d.csums
      depRun dep cls s delta tgt data k (i + 1)
        { d with head := d.head ++ got.1, fault := d.fault || got.2, csums := cs,
                 at_ := if missing then d.at_ else follow tgt (depOffset s delta e) n d.head.length d.at_ }
    | 2 =>
      let n := bits e 14 7 + 1
      let bs := beBytes n (Sheaf.fld s (bits e 2 12) (8 * n))
      let cs := if bit e 31 then d.csums ++ [d.head.length] else d.csums
      depRun dep cls s delta tgt data k (i + 1) { d with head := d.head ++ bs, csums := cs }
    | _ =>
      let missing := bit e 2 && decide (Sheaf.headerCount s ≤ bits e 3 5)
      { d with rem := remPoint (depOffset s delta e), fault := d.fault || missing }

/-- The patch that one IPv4 header checksum makes to the rebuilt bytes at o, or none: a fault (R141). -/
def depCsum (whole : List Byte) (o : Nat) : Option (Nat × Nat) :=
  let ihl := byteAt whole o % 16
  if ihl < 5 ∨ whole.length < o + ihl * 4 then none
  else some (o + 10, inetSum (splice (slice whole o (ihl * 4)) 10 [0, 0]))

/-- The rebuilt bytes of a deparsed packet: the head, the original bytes from the remainder point on, and the header
checksums in their places. -/
def Deparsed.build (d : Deparsed) (data : List Byte) : List Byte :=
  d.patches.foldl (fun w p => splice w p.1 (beBytes 2 p.2)) (d.head ++ data.drop d.rem)

/-- The whole deparser over the frame's data as far as it has arrived, following byte `tgt` of it (R140, R141, R178). -/
def deparse (dep : SMap Nat) (cls : Nat) (s : Sheaf) (delta : Int) (tgt : Option Nat) (data : List Byte) : Deparsed :=
  let d := depRun dep cls s delta tgt data 32 0 Deparsed.init
  let d := { d with at_ := follow tgt d.rem (2 ^ 20) d.head.length d.at_ }
  d.csums.foldl (fun d o =>
    match depCsum (Deparsed.build d data) o with
    | some p => { d with patches := d.patches ++ [p] }
    | none => { d with fault := true }) d

/-- The index of the first header record of one of some classes. -/
def Sheaf.findRec (s : Sheaf) (cs : List Nat) : Option Nat :=
  (List.range (Sheaf.headerCount s)).find? (fun i => cs.contains (Sheaf.recClass s i))

/-- The received byte that ECN marking follows: the first of the first IP header (R178). -/
def Sheaf.ipByte (s : Sheaf) : Option Nat := (Sheaf.findRec s [6, 7]).map (Sheaf.recOffset s)

/-- One's complement checksum hc after a 16-bit word changed from m to m' (RFC 1624, R178, R283). -/
def inetUpdate (hc m m' : Nat) : Nat :=
  let s := (65535 - hc) + (65535 - m) + m'
  let s := s % 65536 + s / 65536
  let s := s % 65536 + s / 65536
  65535 - s

/-- ECN marking of the rebuilt bytes `w`: ECT becomes CE, an IPv4 header checksum is updated (R178). `none` where the
packet is not marked. -/
def Deparsed.ecnMark (d : Deparsed) (s : Sheaf) (w : List Byte) : Option Deparsed :=
  match Sheaf.findRec s [6, 7], d.at_ with
  | some r, some f =>
    let v6 := Sheaf.recClass s r == 7
    let m := byteAt w f * 256 + byteAt w (f + 1)
    let ecn := if v6 then bits m 4 2 else bits m 0 2
    if w.length < f + 12 ∨ ecn = 0 ∨ ecn = 3 then none
    else
      let m' := if v6 then putBits m 4 2 3 else putBits m 0 2 3
      let hc := byteAt w (f + 10) * 256 + byteAt w (f + 11)
      some { d with patches := d.patches ++ (if v6 then [(f, m')] else [(f, m'), (f + 10, inetUpdate hc m m')]) }
  | _, _ => none

end Sys2Proof.Machine
end

