-- ==== Sys2Proof/Machine/Program.lean ====
section
/-! DEFINITION. Action programs: the instruction word, decision fields and the operations of Table 3 (R133 to R139).
The table instructions of Table 4 read the tables and stand in Lookup.lean. -/
namespace Sys2Proof.Machine

/-- Fields of an instruction word (R135, Table 2). -/
def Iw.op (w : Nat) : Nat := bits w 0 6
def Iw.imm (w : Nat) : Bool := bit w 6
def Iw.dst (w : Nat) : Nat := bits w 7 12
def Iw.count (w : Nat) : Nat := bits w 7 6
def Iw.width (w : Nat) : Nat := bits w 19 6 + 1
def Iw.a (w : Nat) : Nat := bits w 25 12
def Iw.b (w : Nat) : Nat := bits w 37 27

/-- Width of a decision field, 0 where it names none (R138 Table 5, R279 Table 5, R299 Table 2). -/
def fieldWidth (k : Nat) : Nat :=
  match k with
  | 0 => 2 | 1 => 11 | 2 => 4 | 3 => 16 | 4 => 8 | 5 => 1 | 6 => 16 | 7 => 5 | 8 => 1 | 9 => 1 | 10 => 1 | 11 => 1
  | 16 => 1 | 17 => 1 | 18 => 1 | 19 => 3 | 20 => 16 | 21 => 64 | 22 => 3 | 23 => 1
  | 24 => 8 | 25 => 8 | 26 => 4 | 27 => 4 | 28 => 2 | 29 => 1
  | _ => 0

/-- Default of a decision field; field 19 starts at the packet's ptp_base (R279). -/
def fieldDefault (ptpBase k : Nat) : Nat :=
  match k with
  | 0 => 2 | 4 => 0xC0 | 8 => 1 | 19 => ptpBase | _ => 0

/-- Whether an egress stage may name the field (R139). -/
def fieldEgress (k : Nat) : Bool := k == 0 || k == 4 || k == 9 || decide (16 ≤ k ∧ k ≤ 31)

/-- A decision field of a packet whose sheaf is `s`. -/
def fieldOf (s : Sheaf) (fs : SMap Nat) (k : Nat) : Nat := SMap.get fs k (fieldDefault (Sheaf.fld s 144 3) k)

/-- A decision field of the packet in the stages (MGET). -/
def StageCtx.field (c : StageCtx) (k : Nat) : Nat := fieldOf c.sheaf c.fields k

/-- A decision field written, truncated to its width (R138); an egress write of dest_kind drops or does nothing
(R139). -/
def StageCtx.setField (c : StageCtx) (k v : Nat) : StageCtx :=
  if c.egress && k == 0 then
    (if v % 4 = 2 then { c with egDrop := true, fields := SMap.set c.fields 0 2 (fieldDefault (Sheaf.fld c.sheaf 144 3) 0) } else c)
  else { c with fields := SMap.set c.fields k (v % 2 ^ fieldWidth k) (fieldDefault (Sheaf.fld c.sheaf 144 3) k) }

/-- A program's write to the sheaf: words 0 to 11 are written by the Thresher only (R82). -/
def Sheaf.write (s : Sheaf) (dst w v : Nat) : Sheaf :=
  if 768 ≤ dst then Sheaf.putFld s dst w v else Sheaf.putFld (Sheaf.putFld s dst w v) 0 768 (Sheaf.fld s 0 768)

/-- Write pending results into the sheaf in the order they were made (R134). -/
def StageCtx.flush (c : StageCtx) : StageCtx :=
  { c with sheaf := c.results.foldl (fun s r => Sheaf.write s r.1 r.2.1 r.2.2) c.sheaf, results := [] }

/-- The end of a stage's program for the packet, at END or after slot 63: results are written and the packet stands
before the next stage (R134). -/
def StageCtx.finish (c : StageCtx) : StageCtx :=
  { StageCtx.flush c with stage := c.stage + 1, slot := 0, skip := 0 }

/-- Go past one instruction slot. -/
def StageCtx.advance (c : StageCtx) : StageCtx :=
  if c.slot = 63 then StageCtx.finish c else { c with slot := c.slot + 1 }

/-- Whether an instruction runs now: a packet stands in the stages and nothing skips the instruction (R135). -/
def StageCtx.runs (c : StageCtx) : Bool := c.live && c.skip == 0

/-- Run one instruction's effect `f` where it runs, count it as skipped where it is skipped (R134, R135). -/
def StageCtx.exec (c : StageCtx) (f : StageCtx → StageCtx) : StageCtx :=
  if StageCtx.runs c then StageCtx.advance (f c)
  else if c.live then StageCtx.advance { c with skip := c.skip - 1 }
  else c

/-- END, where it runs (R134, R135). -/
def StageCtx.execEnd (c : StageCtx) : StageCtx :=
  if StageCtx.runs c then StageCtx.finish c
  else if c.live then StageCtx.advance { c with skip := c.skip - 1 }
  else c

/-- Operand B: a 27-bit immediate or a field of the sheaf (R135). -/
def operandB (s : Sheaf) (b : Operand) (w : Nat) : Nat :=
  match b with
  | .imm v => v.val
  | .field off => Sheaf.fld s off.val w

/-- The operations with a destination (R135, Table 3). -/
def aluValue (op : AluOp) (w a b : Nat) : Nat :=
  match op with
  | .mov => b
  | .add => (a + b) % 2 ^ w
  | .sub => (a + 2 ^ 64 * 2 ^ w - b) % 2 ^ w
  | .subs => if b ≤ a then a - b else 0
  | .and => a &&& b
  | .or => a ||| b
  | .xor => a ^^^ b
  | .shl => a * 2 ^ (b % 64)
  | .shr => a / 2 ^ (b % 64)
  | .min => if a ≤ b then a else b
  | .max => if a ≤ b then b else a

/-- dst ← A op B, truncated to w bits (R135). -/
def StageCtx.alu (c : StageCtx) (op : AluOp) (dst w a : Nat) (b : Operand) : StageCtx :=
  { c with sheaf := Sheaf.write c.sheaf dst w (aluValue op w (Sheaf.fld c.sheaf a w) (operandB c.sheaf b w)) }

/-- Whether a skip's condition holds (R135). -/
def skipHolds (op : SkipOp) (a b : Nat) : Bool :=
  match op with
  | .eq => a == b
  | .ne => a != b
  | .lt => decide (a < b)
  | .ge => decide (b ≤ a)

/-- A skip: when it holds, the next k instructions do not run (R135). -/
def StageCtx.skipIf (c : StageCtx) (op : SkipOp) (k w a : Nat) (b : Operand) : StageCtx :=
  if skipHolds op (Sheaf.fld c.sheaf a w) (operandB c.sheaf b w) then { c with skip := k } else c

/-- A table result waits for the end of the stage (R134); status, where there is one, lies above the result (R136). -/
def StageCtx.result (c : StageCtx) (dst w v : Nat) : StageCtx := { c with results := c.results ++ [(dst, w, v)] }

end Sys2Proof.Machine
end

