-- ==== Sys2Proof/Machine/Queue.lean ====
section
/-! DEFINITION. The settings and the place of ports, egress queues, pools, pipelines and packets: where each is found.
An egress queue has the number port × 16 + q, for ports 0 to 1040 (R165, R195, R196). -/
namespace Sys2Proof.Machine

/-! Pipelines and banks. -/

def Dev.pipe (d : Dev) (n : Nat) : Pipe := SMap.get d.pipes n Pipe.init
def Dev.setPipe (d : Dev) (n : Nat) (p : Pipe) : Dev := { d with pipes := SMap.set d.pipes n p Pipe.init }

/-- The bank that epoch bit e names: 0 bank A, 1 bank B (R147). -/
def Pipe.bank (p : Pipe) (e : Nat) : Image := if e % 2 = 0 then p.bankA else p.bankB
def Pipe.setBank (p : Pipe) (e : Nat) (i : Image) : Pipe := if e % 2 = 0 then { p with bankA := i } else { p with bankB := i }

/-- The pipeline of a port: tile p ÷ 64, recirculation port 1024 + n; the CPU port runs in pipeline 0 (log 16). -/
def portPipe (p : Nat) : Nat := if p < 1024 then p / 64 else if p < 1040 then p - 1024 else 0

/-! Buckets whose rate is about to change are brought up to the present at the old rate. -/

/-- The TCAM admission bucket of pipeline n, up to now (R120). -/
def Dev.tcamBucket (d : Dev) (n : Nat) : Bucket :=
  Dev.fill d (Dev.pipe d n).tcam (1000000 * Dev.el d K.tcamAdmissionRate * Dev.el d K.pwrClockSixteenths / 16)
    (Dev.el d K.tcamAdmissionBurst)

def Dev.settleTcam (d : Dev) : Dev :=
  (List.range 16).foldl (fun d n => Dev.setPipe d n { Dev.pipe d n with tcam := Dev.tcamBucket d n }) d

/-- The postcard buckets of every pipeline, up to now (R307). -/
def Dev.settleCards (d : Dev) : Dev :=
  (List.range 16).foldl (fun d n => Dev.setDrop (Dev.setTot d n (Dev.totBucket d n)) n (Dev.dropBucket d n)) d

/-- The barn of a pipeline (R90). -/
def pipeBarn (n : Nat) : Nat := n / 4

/-! Packets. -/

def Dev.pkt (d : Dev) (i : Nat) : Pkt := SMap.get d.pkts i Pkt.init
def Dev.setPkt (d : Dev) (i : Nat) (p : Pkt) : Dev := { d with pkts := SMap.ins d.pkts i p }
def Dev.delPkt (d : Dev) (i : Nat) : Dev := { d with pkts := SMap.del d.pkts i }

/-- A frame's data without its FCS: the last 4 bytes are the FCS once the tail has come (R69). A truncated frame that is
already in cut-through is sent to the last byte received (R185, log 35). -/
def Pkt.data (p : Pkt) : List Byte :=
  if p.whole && !(p.cut && p.mark == 0x0B) then p.frame.take (p.frame.length - 4) else p.frame

/-- L, the frame length with its FCS. -/
def Pkt.len (p : Pkt) : Nat := p.frame.length

/-- The stored bytes: the rebuilt frame without its FCS (R164). -/
def Pkt.stored (p : Pkt) : List Byte := Deparsed.build p.dep (Pkt.data p)

/-- Cells of B stored bytes (R171). -/
def cellsOf (b : Nat) : Nat := (b + 255) / 256

/-- The packet is an export packet of the part itself, which runs no pass and is not measured (R314). -/
def Pkt.own (p : Pkt) : Bool := p.inPort == 2047

/-- A decision field after the ingress pass. -/
def Pkt.field (p : Pkt) (k : Nat) : Nat := fieldOf p.sheaf p.fields k

/-! Ports. -/

/-- Speed in Gb/s and lanes of a port mode (R49, Table 4). -/
def modeSpeed (m : Nat) : Nat :=
  match m with
  | 1 => 1600 | 2 => 800 | 3 => 800 | 4 => 400 | 5 => 400 | 6 => 200 | 7 => 200 | 8 => 200 | 9 => 100 | 10 => 100
  | 11 => 100 | 12 => 50 | 13 => 25 | _ => 0

def modeWidth (m : Nat) : Nat :=
  match m with
  | 1 => 8 | 2 => 4 | 3 => 8 | 4 => 2 | 5 => 4 | 6 => 1 | 7 => 2 | 8 => 4 | 9 => 1 | 10 => 2 | 11 => 4 | 12 => 1
  | 13 => 1 | _ => 0

def Dev.portSpeed (d : Dev) (p : Nat) : Nat := modeSpeed (Dev.el d (K.portSpeed p))
def Dev.portUp (d : Dev) (p : Nat) : Bool := decide (1024 ≤ p) || Dev.el d (K.portState p) == 5

/-- port.max_frame; the internal ports carry the largest frame of the part, 16,000 bytes (R67). -/
def Dev.maxFrame (d : Dev) (p : Nat) : Nat := if p < 1024 then Dev.el d (K.portMaxFrame p) else 16000

/-- buf.port.cfg of port p (R194, Table 7). -/
def Dev.portCfg (d : Dev) (p : Nat) : Nat := Dev.el d (K.bufPortCfg (p / 16) (p % 16))
def Dev.downHold (d : Dev) (p : Nat) : Nat := bits (Dev.portCfg d p) 0 10
def Dev.ctIn (d : Dev) (p : Nat) : Nat := bits (Dev.portCfg d p) 10 5
def Dev.ctOut (d : Dev) (p : Nat) : Nat := bits (Dev.portCfg d p) 15 5
def Dev.pfcTx (d : Dev) (p : Nat) : Bool := decide (p < 1024) && bit (Dev.portCfg d p) 20
def Dev.pfcRx (d : Dev) (p : Nat) : Bool := decide (p < 1024) && bit (Dev.portCfg d p) 21
def Dev.pfcQuanta (d : Dev) (p : Nat) : Nat := bits (Dev.portCfg d p) 22 16

def Dev.port (d : Dev) (p : Nat) : OutPort := SMap.get d.ports p OutPort.init
def Dev.setPort (d : Dev) (p : Nat) (o : OutPort) : Dev := { d with ports := SMap.set d.ports p o OutPort.init }

/-! Egress queues. -/

def qPort (n : Nat) : Nat := n / 16
def qIdx (n : Nat) : Nat := n % 16
/-- The internal port's index and queue of a queue from 16,384 on. -/
def qInt (n : Nat) : Nat := n / 16 - 1024

def Dev.queue (d : Dev) (n : Nat) : EQueue := SMap.get d.queues n EQueue.init
def Dev.setQueue (d : Dev) (n : Nat) (q : EQueue) : Dev := { d with queues := SMap.set d.queues n q EQueue.init }

/-- Whether a queue belongs to a port 0 to 1023. -/
def qFront (n : Nat) : Bool := decide (n < 16384)

def Dev.iqCfg (d : Dev) (n : Nat) : Nat := Dev.el d (K.iqCfg (qInt n) (qIdx n))
def Dev.iqSched (d : Dev) (n : Nat) : Nat := Dev.el d (K.iqSched (qInt n) (qIdx n))

/-- Pool, push-out class, minimum threshold, and age limit in ms of a queue (R170, R172, R195, R196). -/
def Dev.qPool (d : Dev) (n : Nat) : Nat := if qFront n then Dev.el d (K.eqPool n) else bits (Dev.iqCfg d n) 0 3
def Dev.qClass (d : Dev) (n : Nat) : Nat := if qFront n then Dev.el d (K.eqPushoutClass n) else bits (Dev.iqCfg d n) 3 3
def Dev.qMin (d : Dev) (n : Nat) : Nat := if qFront n then Dev.el d (K.eqMin n) else bits (Dev.iqCfg d n) 8 16
def Dev.qAge (d : Dev) (n : Nat) : Nat := if qFront n then Dev.el d (K.eqAgeLimit n) else bits (Dev.iqCfg d n) 24 16

/-- Tier, weight, shaper code and burst, overhead profile of a queue (R262, R263). -/
def Dev.qTier (d : Dev) (n : Nat) : Nat := if qFront n then Dev.el d (K.eqSchedTier n) else bits (Dev.iqSched d n) 0 2
def Dev.qWeight (d : Dev) (n : Nat) : Nat :=
  if qFront n then Dev.el d (K.eqSchedWeight n) else bits (Dev.iqSched d n) 2 12 + 1
def Dev.qRate (d : Dev) (n : Nat) : Nat := if qFront n then Dev.el d (K.eqShaperRate n) else bits (Dev.iqSched d n) 14 25
def Dev.qBurst (d : Dev) (n : Nat) : Nat := if qFront n then Dev.el d (K.eqShaperBurst n) else bits (Dev.iqSched d n) 44 20
def Dev.qProfile (d : Dev) (n : Nat) : Nat := if qFront n then Dev.el d (K.eqSchedProfile n) else bits (Dev.iqSched d n) 39 5

/-- Port shaper: its configuration word (R261, R262, Table 4). -/
def Dev.portSched (d : Dev) (p : Nat) : Nat :=
  if p < 1024 then Dev.el d (K.schedPortCfg (p / 16) (p % 16)) else Dev.el d (K.iqPortSched (p - 1024))

/-- Spill settings and state of a queue; internal queues never spill (R211, R236). -/
def Dev.qSpillOn (d : Dev) (n : Nat) : Bool := qFront n && Dev.el d (K.eqSpillEnable n) == 1
def Dev.qSpillState (d : Dev) (n : Nat) : Nat := if qFront n then Dev.el d (K.eqSpillState n) else 0

/-! The parameters of a packet's profile (R33). -/

/-- Whether packet p entered its parser before the last flip; the part's own packets run under the present profile
(R33, log 152). -/
def Dev.oldProf (d : Dev) (p : Pkt) : Bool := p.epoch == d.prog.oldBit && !Pkt.own p

/-- A governed element as a packet of the old profile, or of the present one, has it. -/
def Dev.elProf (d : Dev) (old : Bool) (k : Nat) : Nat := if old then SMap.get d.prog.oldVals k (Dev.el d k) else Dev.el d k

/-- Spill enable, spill threshold and threshold factor of queue n, and row g of the cut-through matrix, for a packet. -/
def Dev.spillOnFor (d : Dev) (old : Bool) (n : Nat) : Bool := qFront n && Dev.elProf d old (K.eqSpillEnable n) == 1
def Dev.spillThrFor (d : Dev) (old : Bool) (n : Nat) : Nat := Dev.elProf d old (K.eqSpillThreshold n)
def Dev.factorFor (d : Dev) (old : Bool) (n : Nat) : Nat :=
  Dev.elProf d old (if qFront n then K.eqFactor n else K.iqFactor (qInt n) (qIdx n))
def Dev.ctRowFor (d : Dev) (old : Bool) (g : Nat) : Nat := Dev.elProf d old (K.ctRow g)

/-- Packets of a queue's list, bale references counted by the packets that start in them (R196 eq.depth.pkts). -/
def Dev.qPkts (d : Dev) (n : Nat) : Nat :=
  (Dev.queue d n).items.foldl (fun c x =>
    match x with
    | .pkt _ => c + 1
    | .bale b _ =>
      match SMap.find d.gran.bales b with
      | some bl => c + bl.recs.length
      | none => c) 0

/-- Bales in the middle of a queue, the open one included (R236 eq.spill.bales). -/
def EQueue.bales (q : EQueue) : Nat :=
  q.items.foldl (fun c x => match x with | .bale _ _ => c + 1 | .pkt _ => c) 0

/-- Depth of R298: eq.depth + 32 × eq.spill.bales, or iq.depth. -/
def Dev.qDepth (d : Dev) (n : Nat) : Nat :=
  let q := Dev.queue d n
  if qFront n then q.depth + 32 * EQueue.bales q else q.depth

/-- eq.state: held takes precedence over paused (R196). `paused` says whether a pause holds the queue. -/
def EQueue.stateCode (q : EQueue) (paused : Bool) : Nat :=
  if q.flushing then 2 else if q.held then 1 else if paused then 3 else 0

/-- Whether a queue is paused under R177: a pause timer runs for the priority that its lossless pool names. -/
def Dev.qPaused (d : Dev) (n : Nat) : Bool :=
  let pl := Dev.qPool d n
  Dev.el d (K.poolMode pl) == 1 && (SMap.find (Dev.port d (qPort n)).pause (Dev.el d (K.poolPfcPrio pl))).isSome

end Sys2Proof.Machine
end

