-- ==== Sys2Proof/Machine/TelOps.lean ====
section
/-! DEFINITION. What is measured of a packet (Telemetry and counters): drops and their counters, histograms, the tally
table, postcards. -/
namespace Sys2Proof.Machine

/-! Times of a packet. -/

/-- An 80-bit timestamp as seconds × 10^9 + nanoseconds modulo 2^64 (R308). -/
def stampNs64 (s : Nat) : Nat := (s / 2 ^ 32 * 1000000000 + s / 4 % 2 ^ 30) % 2 ^ 64

/-- Latency in whole ns from the receive point to scheduler time `t`, at least 0 (R298). -/
def Pkt.latencyAt (p : Pkt) (t : Nat) : Nat := (schedDiff t p.rxAt).toNat / 65536

/-- Saturating at 32 bits, as records hold it (R298, Table 1). -/
def sat32 (n : Nat) : Nat := min 0xFFFFFFFF n

/-! Histograms (R300). -/

def latBin (l : Nat) : Nat := min 31 (log2 l - 7)
def depthBin (d : Nat) : Nat := if d = 0 then 0 else min 31 (log2 d + 1)

/-- Bin numbers of a queue's two histograms and of a port's. -/
def binLat (n k : Nat) : Nat := n * 64 + k
def binDepth (n k : Nat) : Nat := n * 64 + 32 + k
def binPort (p k : Nat) : Nat := 2 ^ 20 + p * 32 + k

/-- An admission decision at depth `depth` enters the depth histogram of a front-panel queue (R300). -/
def Dev.histDepth (d : Dev) (n depth : Nat) (excl : Bool) : Dev :=
  if qFront n && !excl then Dev.countBin d (binDepth n (depthBin depth)) else d

/-- A transmitted packet's latency enters the histograms of its queue and port, and the queue's sums (R300, R327). -/
def Dev.histLat (d : Dev) (n l : Nat) (excl : Bool) : Dev :=
  if qFront n then
    let d := if excl then d else Dev.countBin (Dev.countBin d (binLat n (latBin l))) (binPort (qPort n) (latBin l))
    let d := if Dev.el d (K.eqLatMax n) < sat32 l then Dev.setEl d (K.eqLatMax n) (sat32 l) else d
    Dev.count (Dev.count d (K.eqLatSum n) l) (K.eqLatPkts n) 1
  else d

/-! The tally table (R302 to R305). -/

/-- The bucket of a flow (R302). -/
def tallyBucket (prof key : Nat) : Nat := crcOf 5 0 (beBytes 1 prof ++ beBytes 32 key) % 2 ^ 17

/-- A tally record (R310, type 2). -/
def tallyRec (barn reason : Nat) (t : Tally) : Nat :=
  2 + barn * 2 ^ 4 + reason * 2 ^ 6 + t.profile * 2 ^ 8 + t.pkts * 2 ^ 96 + t.bytes * 2 ^ 136 + t.maxLat * 2 ^ 184
    + t.seen * 2 ^ 216 + t.key * 2 ^ 256

/-- Write a tally record: it takes a total token when one is present and is never suppressed (R304, R307, log 11). -/
def Dev.exportTally (d : Dev) (barn reason : Nat) (t : Tally) : Dev :=
  Dev.perf (Dev.telWrite (Dev.takeTotal d (barn * 4)) (tallyRec barn reason t)) 0x2C 4 1

def Dev.setTally (d : Dev) (i : Nat) (t : Option Tally) : Dev :=
  { d with tel := { d.tel with tally := SMap.put d.tel.tally i t } }

/-- Entries of a barn's table in use, and those of one bucket as (place, entry). -/
def Dev.tallyBarn (d : Dev) (barn : Nat) : List (Nat × Tally) := d.tel.tally.filter (fun x => x.1 / 2 ^ 20 == barn)
def Dev.tallyWays (d : Dev) (barn b : Nat) : List (Nat × Tally) :=
  (List.range 8).filterMap (fun w =>
    let i := barn * 2 ^ 20 + b * 8 + w
    (SMap.find d.tel.tally i).map (fun t => (i, t)))

/-- The least recently seen of some entries, the lowest place on a tie (R304). -/
def tallyOldest : List (Nat × Tally) → Option (Nat × Tally)
  | [] => none
  | x :: t =>
    match tallyOldest t with
    | some y => if y.2.seen < x.2.seen then some y else some x
    | none => some x

/-- Add one packet of L bytes to its flow's entry, creating it, after an eviction where its bucket is full (R303,
R304). -/
def Dev.tallyAdd (d : Dev) (barn prof key len ms : Nat) : Dev :=
  let b := tallyBucket prof key
  let ways := Dev.tallyWays d barn b
  let d := Dev.perf d (0x20 + barn) 10 1
  match ways.find? (fun x => x.2.key == key && x.2.profile == prof) with
  | some x =>
    Dev.setTally d x.1
      (some { x.2 with pkts := (x.2.pkts + 1) % 2 ^ 40, bytes := (x.2.bytes + len) % 2 ^ 48, seen := ms })
  | none =>
    let new : Tally := { key := key, profile := prof, pkts := 1, bytes := len, maxLat := 0, seen := ms }
    let d := Dev.perf d (0x20 + barn) 11 1
    match (List.range 8).find? (fun w => !(ways.any (fun x => x.1 % 8 == w))) with
    | some w =>
      Dev.setEl (Dev.setTally d (barn * 2 ^ 20 + b * 8 + w) (some new)) (K.tallyUsed barn)
        (Dev.el d (K.tallyUsed barn) + 1)
    | none =>
      match tallyOldest ways with
      | some x =>
        let d := Dev.day (Dev.perf (Dev.count (Dev.exportTally d barn 0 x.2) K.tallyEvictions 1) (0x20 + barn) 12 1) 2
        Dev.setTally d x.1 (some new)
      | none => d

/-- Bytes of a frame that was tallied before its tail (R303). -/
def Dev.tallyBytes (d : Dev) (barn prof key len : Nat) : Dev :=
  match (Dev.tallyWays d barn (tallyBucket prof key)).find? (fun x => x.2.key == key && x.2.profile == prof) with
  | some x => Dev.setTally d x.1 (some { x.2 with bytes := (x.2.bytes + len) % 2 ^ 48 })
  | none => d

/-- Raise an entry's maximum latency (R303). -/
def Dev.tallyLat (d : Dev) (barn prof key l : Nat) : Dev :=
  match (Dev.tallyWays d barn (tallyBucket prof key)).find? (fun x => x.2.key == key && x.2.profile == prof) with
  | some x =>
    if x.2.maxLat < sat32 l then Dev.setTally d x.1 (some { x.2 with maxLat := sat32 l }) else d
  | none => d

/-! Postcards (R306 to R308). -/

/-- What a postcard says beside what its packet says. -/
structure Card where
  reason : Nat
  spilled : Bool
  ecn : Bool
  stomped : Bool
  dex : Bool
  outPort : Nat
  queue : Nat
  latency : Nat
  depth : Nat
  /-- IOAM Flow ID and Sequence Number of a direct export (R317). -/
  flow : Nat
  seqNo : Nat
  /-- The packet was parsed: before, every field that comes from the sheaf is zero. -/
  parsed : Bool
  deriving DecidableEq, Repr

/-- The four Toeplitz keys in force (R99, R129). -/
def Dev.toeplitzKeys (d : Dev) : List (List Byte) := (List.range 4).map (fun j => Dev.blobIn d (K.hashToeplitzKey j))

/-- The postcard record (R308, Table 3). `trig` holds the trigger bits [7:4]; `img` is the bank whose profiles name the
hash and the key. -/
def cardRec (d : Dev) (img : Image) (c : Card) (p : Pkt) (s : Sheaf) (fs : SMap Nat) (trig : Nat) : Nat :=
  let key := if c.parsed then (keyOf img s (fieldOf s fs 25)).1 else 0
  let hash := if c.parsed then hashOf img (Dev.toeplitzKeys d) s (fieldOf s fs 27) else 0
  let user := if c.dex then c.flow % 2 ^ 32 + c.seqNo % 2 ^ 32 * 2 ^ 32 + key % 2 ^ 128 * 2 ^ 64 else key % 2 ^ 192
  1 + trig * 2 ^ 4 + c.reason * 2 ^ 8 + b2n c.spilled * 2 ^ 16 + b2n p.cut * 2 ^ 17 + b2n c.ecn * 2 ^ 18
    + b2n c.stomped * 2 ^ 19 + p.epoch * 2 ^ 20 + b2n c.dex * 2 ^ 21 + p.cls * 2 ^ 24
    + p.inPort * 2 ^ 96 + c.outPort * 2 ^ 107 + c.queue * 2 ^ 118
    + stampNs64 p.tsTb0 * 2 ^ 128 + sat32 c.latency * 2 ^ 192 + c.depth % 2 ^ 32 * 2 ^ 224 + hash * 2 ^ 256
    + Pkt.len p % 2 ^ 14 * 2 ^ 288 + user * 2 ^ 320

/-- The two buckets of pipeline n let a request pass, or not (R307). -/
def Dev.admitCard (d : Dev) (n : Nat) (dropCard : Bool) : Option Dev :=
  match Bucket.take (Dev.totBucket d n) 16 with
  | none => none
  | some t =>
    if dropCard then
      match Bucket.take (Dev.dropBucket d n) 16 with
      | none => none
      | some x => some (Dev.setDrop (Dev.setTot d n t) n x)
    else some (Dev.setTot d n t)

/-- Request a postcard of pipeline n: it is written, or suppressed (R307). -/
def Dev.requestCard (d : Dev) (n : Nat) (dropCard : Bool) (rec : Nat) (q : Option Nat) : Dev :=
  let d := Dev.perf d 0x2C 1 1
  match Dev.admitCard d n dropCard with
  | some d =>
    let d := Dev.perf (Dev.count (Dev.telWrite d rec) K.telPcWritten 1) 0x2C 2 1
    match q with
    | some q => if qFront q then Dev.count d (K.eqPostcards q) 1 else d
    | none => d
  | none => Dev.perf (Dev.count d K.telPcSuppressed 1) 0x2C 3 1

/-- The sampler of pipeline n counts a packet that names sampler k: every sample.n-th is sampled (R306). -/
def Dev.sample (d : Dev) (n k : Nat) : Dev × Bool :=
  if k = 0 then (d, false)
  else
    let i := n * 16 + k
    let c := SMap.get d.tel.sampler i 0 + 1
    let hit := Dev.el d (K.sampleN (k - 1)) ≤ c
    ({ d with tel := { d.tel with sampler := SMap.set d.tel.sampler i (if hit then 0 else c) 0 } }, hit)

/-- Trigger bits: drop, latency, sample, mark (R306, R308). -/
def triggers (drop lat samp mark : Bool) : Nat := b2n drop + 2 * b2n lat + 4 * b2n samp + 8 * b2n mark

/-- A drop's postcard: requested where the mask selects the reason; it records whether the packet is `sampled` and the
mark trigger too, and with tel_exclude the drop alone (R306). -/
def Dev.dropCardAt (d : Dev) (n : Nat) (c : Card) (p : Pkt) (s : Sheaf) (fs : SMap Nat) (q : Option Nat) (sampled : Bool) :
    Dev :=
  let mark := c.parsed && fieldOf s fs 29 != 1 && fieldOf s fs 11 == 1
  let dropT := bit (byteAt (Dev.blob d K.telPcDropMask) (c.reason / 8)) (c.reason % 8)
  if dropT && !Pkt.own p then
    Dev.requestCard d n true
      (cardRec d (Pipe.bank (Dev.pipe d n) p.epoch) c p s fs (triggers true false sampled mark)) q
  else d

/-- The drop of a packet that its sampler has not counted yet (R306). -/
def Dev.dropCard (d : Dev) (n : Nat) (c : Card) (p : Pkt) (s : Sheaf) (fs : SMap Nat) (q : Option Nat) : Dev :=
  let sm := if c.parsed && fieldOf s fs 29 != 1 then Dev.sample d n (fieldOf s fs 26) else (d, false)
  Dev.dropCardAt sm.1 n c p s fs q sm.2

/-! Uncorrectable records of the telemetry region. -/

/-- The patrol scrub finds the record of sequence number s uncorrectable, where the region holds it (R503). -/
def Dev.badRecord (d : Dev) (s : Nat) : Dev :=
  let head := Dev.el d K.telStoreHead
  if d.tel.inRegion && decide (s < head ∧ head ≤ s + Dev.telCap d) then Dev.recLost d s else d

/-! Drops (R190, R318). -/

/-- drop.count of a code (R318, R326). -/
def Dev.countDrop (d : Dev) (code : Nat) : Dev := Dev.count d (K.dropCount (code / 64) (code % 64)) 1

/-- A drop counted against the port that received the packet: rx.drops, and rx.overrun for codes 0x01 and 0x03
(R318, R321). -/
def Dev.dropAtPort (d : Dev) (code p : Nat) : Dev :=
  let d := Dev.countStat (Dev.countDrop d code) p 10 1
  if code = 0x01 ∨ code = 0x03 then Dev.countStat d p 12 1 else d

/-- The counters of queue n that a reason raises (R190, R196, R229, R318). -/
def Dev.dropAtQueue (d : Dev) (code n : Nat) : Dev :=
  let d := Dev.countStat (Dev.countDrop d code) (qPort n) 21 1
  let pool := Dev.qPool d n
  let d :=
    if code = 0x20 ∨ code = 0x21 then Dev.count d (K.poolDrops pool) 1
    else if code = 0x22 then Dev.count d (K.poolPushouts pool) 1
    else if code = 0x23 then Dev.count d K.hrDrops 1
    else if code = 0x24 then Dev.perf d 0x26 9 1
    else if code = 0x30 then Dev.count d K.granDropsEcc 1
    else if code = 0x31 then Dev.count d K.granDropsRetired 1
    else if code = 0x39 then Dev.count d K.schedLaunchLateDrops 1
    else if code = 0x15 then Dev.count d K.epochReleaseDrops 1
    else if code = 0x40 then Dev.count d K.dmaPuntDrops 1
    else d
  if qFront n then
    let d :=
      if code = 0x20 ∨ code = 0x21 then Dev.count d (K.eqDropThreshold n) 1
      else if code = 0x22 then Dev.count d (K.eqDropPushedOut n) 1
      else if code = 0x25 ∨ code = 0x2B then Dev.count d (K.eqDropPortDown n) 1
      else if code = 0x26 then Dev.count d (K.eqDropAged n) 1
      else if code = 0x27 then Dev.count d (K.eqFlushed n) 1
      else if code = 0x30 ∨ code = 0x31 then Dev.count d (K.eqSpillEccDrops n) 1
      else d
    Dev.setEl (Dev.count d (K.eqDropTotal n) 1) (K.eqDropLast n) code
  else d

/-- A packet is dropped at ingress with `code`, counted against its receiving port: its counters and its postcard
(R190, R306, R318). -/
def Dev.dropIn (d : Dev) (code : Nat) (p : Pkt) (parsed : Bool) : Dev :=
  let d := Dev.dropAtPort d code p.inPort
  let c : Card := { reason := code, spilled := false, ecn := false, stomped := false, dex := false, outPort := 0x7FF,
                    queue := 0, latency := Pkt.latencyAt p (Dev.now d), depth := 0, flow := 0, seqNo := 0,
                    parsed := parsed }
  Dev.dropCard d (portPipe p.inPort) c p p.sheaf p.fields none

/-- What the postcard of a packet dropped against queue n says beside its packet (R308). -/
def Dev.outCard (d : Dev) (code n : Nat) (x : Desc) (p : Pkt) : Card :=
  { reason := code, spilled := x.spilled, ecn := x.ecn, stomped := false, dex := false, outPort := qPort n,
    queue := qIdx n, latency := Pkt.latencyAt p (Dev.now d), depth := x.depth, flow := 0, seqNo := 0, parsed := true }

/-- A packet is dropped against queue n with `code`: its counters and its postcard, from the sheaf and fields it has
then, in the pipeline where it stands (R190, R306, R318). -/
def Dev.dropOut (d : Dev) (code n : Nat) (x : Desc) (p : Pkt) (egress : Bool) (s : Sheaf) (fs : SMap Nat) : Dev :=
  let d := Dev.dropAtQueue d code n
  Dev.dropCard d (if egress then portPipe (qPort n) else portPipe p.inPort) (Dev.outCard d code n x p) p s fs (some n)

/-- A packet of the punt staging buffer is dropped as punt_overflow: its sampler counted it as it entered the buffer
(R306, R367, log 57). -/
def Dev.dropPunt (d : Dev) (y : Punt) : Dev :=
  let n := 1040 * 16 + y.cpuQ
  let d := Dev.dropAtQueue d 0x40 n
  Dev.dropCardAt d (portPipe 1040) (Dev.outCard d 0x40 n y.desc y.pkt) y.pkt y.sheaf y.fields (some n) false

end Sys2Proof.Machine
end

