-- ==== Sys2Proof/Machine/Cells.lean ====
section
/-! DEFINITION. Cells, pools and flow control (Shared buffer and the pool manager). -/
namespace Sys2Proof.Machine

/-! Cells and banks (R160, R161, R166). -/

/-- Cells of the buffer and of a bank. -/
def cellsTotal : Nat := 1572864
def bankCells : Nat := 1536

def Dev.setBuf (d : Dev) (b : BufS) : Dev := { d with buf := b }

/-- Whether a cell may be allocated. -/
def BufS.cellFree (b : BufS) (c : Nat) : Bool := (SMap.find b.alloc c).isNone && !b.quarantine.contains c

/-- Free cells of a bank: quarantined ones that are not allocated are excluded (R191). -/
def BufS.bankFree (b : BufS) (k : Nat) : Nat :=
  bankCells - SMap.get b.bankUsed k 0
    - (b.quarantine.filter (fun c => c / bankCells == k && (SMap.find b.alloc c).isNone)).length

/-- buf.cells.free (R191). -/
def BufS.free (b : BufS) : Nat :=
  cellsTotal - b.alloc.length - (b.quarantine.filter (fun c => (SMap.find b.alloc c).isNone)).length

/-- Of the banks r, r + 16, ... the one with the most free cells, the lowest on a tie (R161). -/
def BufS.bestBank (b : BufS) (r : Nat) : Nat :=
  ((List.range 64).foldl (fun (best : Nat × Nat) i =>
    let k := i * 16 + r
    let f := BufS.bankFree b k
    if best.2 < f then (k, f) else best) (r, BufS.bankFree b r)).1

/-- The lowest free cell of a bank. -/
def BufS.cellIn (b : BufS) (k : Nat) : Option Nat :=
  (List.range bankCells).findSome? (fun i => if BufS.cellFree b (k * bankCells + i) then some (k * bankCells + i) else none)

def BufS.take (b : BufS) (c : Nat) : BufS :=
  { b with alloc := SMap.ins b.alloc c true, auditNew := if b.auditRun then SMap.ins b.auditNew c true else b.auditNew,
           bankUsed := SMap.set b.bankUsed (c / bankCells) (SMap.get b.bankUsed (c / bankCells) 0 + 1) 0 }

def BufS.give (b : BufS) (c : Nat) : BufS :=
  { b with alloc := SMap.del b.alloc c,
           bankUsed := SMap.set b.bankUsed (c / bankCells) (SMap.get b.bankUsed (c / bankCells) 0 - 1) 0 }

/-- Allocate cells i .. i + n - 1 of a packet with start residue r (R161). -/
def BufS.takeMany (r : Nat) : Nat → Nat → BufS → BufS × List Nat
  | 0, _, b => (b, [])
  | n + 1, i, b =>
    match BufS.cellIn b (BufS.bestBank b ((r + 16 * i - i) % 16)) with
    | some c =>
      let x := BufS.takeMany r n (i + 1) (BufS.take b c)
      (x.1, c :: x.2)
    | none => BufS.takeMany r n (i + 1) b

/-- Start an audit, or ask for one more when one runs (R167). -/
def Dev.audit (d : Dev) : Dev :=
  if d.buf.auditRun then Dev.setBuf d { d.buf with auditAgain := true } else Dev.setBuf d { d.buf with auditRun := true }

/-- An audit asked for by buf.audit.seq: its status waits for the one that starts now, or for the next one (R167, R191). -/
def Dev.auditAsked (d : Dev) : Dev :=
  let e := Dev.audit d
  Dev.setBuf e { e.buf with auditSeq := if d.buf.auditRun then 2 else 1 }

/-- A double free of a cell (R166). -/
def Dev.doubleFree (d : Dev) (c : Nat) : Dev :=
  let d := Dev.perf (Dev.count d K.bufDoubleFree 1) 0x27 3 1
  let d := Dev.containedF d 6 0x0900 0x05 c
  let d :=
    if d.buf.quarantine.length < 256 then
      let d := Dev.setBuf d { d.buf with quarantine := d.buf.quarantine ++ [c] }
      Dev.setEl d K.bufQuarantine d.buf.quarantine.length
    else
      let d := Dev.count d K.bufQuarantineOverflow 1
      Dev.fatal { d with err := { d.err with sticky := d.err.sticky ||| 2 ^ 2 } } 2 6 0x0900 0x08 c
  Dev.audit d

/-- n corrected, or n uncorrectable errors of cells, links, descriptors and reference counts are counted (R168, R322). -/
def Dev.bufCorrected (d : Dev) (n : Nat) : Dev := Dev.perf (Dev.count d K.bufEccCorrected n) 0x27 5 n
def Dev.bufUncorrectable (d : Dev) (n : Nat) : Dev := Dev.perf (Dev.count d K.bufEccUncorrectable n) 0x27 6 n

/-- Free one cell (R166). -/
def Dev.freeCell (d : Dev) (c : Nat) : Dev :=
  if (SMap.find d.buf.alloc c).isSome then Dev.perf (Dev.setBuf d (BufS.give d.buf c)) 0x27 2 1 else Dev.doubleFree d c

/-- Write cells for a packet until it has `n` (R161): the first ones take the pipeline's next start residue. -/
def Dev.writeCells (d : Dev) (i n : Nat) : Dev :=
  let p := Dev.pkt d i
  let pipe := portPipe p.inPort
  let have_ := p.cells.length
  if n ≤ have_ then d
  else
    let r0 := SMap.get d.buf.residue pipe 0
    -- the residue of cell 0 of a packet that has cells follows from its bank
    let r := match p.cells with
      | c :: _ => c / bankCells % 16
      | [] => r0
    let x := BufS.takeMany r (n - have_) have_ d.buf
    let b := if p.cells.isEmpty then { x.1 with residue := SMap.set x.1.residue pipe ((r0 + 1) % 16) 0 } else x.1
    let d := Dev.perf (Dev.perf (Dev.setBuf d b) 0x27 1 x.2.length) 0x26 2 x.2.length
    Dev.setPkt d i { p with cells := p.cells ++ x.2 }

/-! Flow control (R175 to R177, R218). -/

/-- Queue a flow-control frame of a port that is up: priority and time (R176). -/
def Dev.queuePfc (d : Dev) (p prio time : Nat) : Dev :=
  if Dev.portUp d p then
    let o := Dev.port d p
    Dev.perf (Dev.setPort d p { o with pfc := o.pfc ++ [(prio, time)] }) 0x26 8 1
  else d

/-- Whether some pool that names `prio` holds it in XOFF on port p, under R175 or R218. -/
def Dev.xoffOn (d : Dev) (p prio : Nat) : Bool :=
  (List.range 8).any (fun k =>
    Dev.el d (K.poolPfcPrio k) == prio
      && (SMap.get d.buf.xoff (p * 8 + k) false || SMap.get d.buf.xoff (2 ^ 16 + p * 8 + k) false))

def Dev.setXoff (d : Dev) (i : Nat) (v : Bool) : Dev :=
  Dev.setBuf d { d.buf with xoff := SMap.set d.buf.xoff i v false }

/-- Pool k's XOFF on port p; `base` is 0 for R175 and 2^16 for R218. -/
def Dev.sendXoff (d : Dev) (base p k : Nat) : Dev :=
  if Dev.pfcTx d p && !(SMap.get d.buf.xoff (base + p * 8 + k) false) then
    Dev.queuePfc (Dev.setXoff d (base + p * 8 + k) true) p (Dev.el d (K.poolPfcPrio k)) (Dev.pfcQuanta d p)
  else d

/-- Pool k's XON on port p, unless another pool holds the priority there (R175). -/
def Dev.sendXon (d : Dev) (base p k : Nat) : Dev :=
  if SMap.get d.buf.xoff (base + p * 8 + k) false then
    let d := Dev.setXoff d (base + p * 8 + k) false
    if Dev.xoffOn d p (Dev.el d (K.poolPfcPrio k)) then d else Dev.queuePfc d p (Dev.el d (K.poolPfcPrio k)) 0
  else d

/-- Ports that hold a cell of pool k, and ports to which it sent XOFF. -/
def Dev.holders (d : Dev) (k : Nat) : List Nat := (d.buf.held.filter (fun x => x.1 % 8 == k)).map (fun x => x.1 / 8)
def Dev.xoffPorts (d : Dev) (base k : Nat) : List Nat :=
  (d.buf.xoff.filter (fun x => decide (base ≤ x.1 ∧ x.1 < base + 2 ^ 16) && (x.1 - base) % 8 == k)).map
    (fun x => (x.1 - base) / 8)

/-- Whether pool k is in XOFF under R175, and under R218. -/
def Dev.inXoff (d : Dev) (k : Nat) : Bool := SMap.get d.buf.xoff (2 ^ 17 + 8 + k) false
def Dev.inSpillXoff (d : Dev) (k : Nat) : Bool := SMap.get d.buf.xoff (2 ^ 17 + k) false

/-- Enter or leave XOFF under one of the two rules: pool.xoff_state reads 1 while either holds the pool (R175, R192, R218). -/
def Dev.setPoolXoff (d : Dev) (spill : Bool) (k : Nat) (v : Bool) : Dev :=
  let d := Dev.setXoff d (if spill then 2 ^ 17 + k else 2 ^ 17 + 8 + k) v
  Dev.setEl d (K.poolXoffState k) (b2n (Dev.inXoff d k || Dev.inSpillXoff d k))

/-- Test pool k's thresholds: enter or leave XOFF (R175). -/
def Dev.xoffTest (d : Dev) (k : Nat) : Dev :=
  let used := Dev.el d (K.poolUsed k)
  let xoff := Dev.el d (K.poolXoff k)
  let on := Dev.el d (K.poolMode k) == 1 && decide (xoff ≠ 0)
  if !Dev.inXoff d k then
    if on && decide (xoff ≤ used) then
      (Dev.holders d k).foldl (fun d p => Dev.sendXoff d 0 p k) (Dev.setPoolXoff d false k true)
    else d
  else if !on || decide (used ≤ Dev.el d (K.poolXon k)) then
    (Dev.xoffPorts d 0 k).foldl (fun d p => Dev.sendXon d 0 p k) (Dev.setPoolXoff d false k false)
  else d

/-- Pool warning (R174): `rose` says that pool.used has just risen; a fall only rearms the event. -/
def Dev.warnTest (d : Dev) (k : Nat) (rose : Bool) : Dev :=
  let used := Dev.el d (K.poolUsed k)
  let warn := Dev.el d (K.poolWarn k)
  let fired := SMap.get d.buf.warned k false
  let at_ := SMap.get d.buf.warnAt k 0
  if warn ≠ 0 ∧ warn ≤ used then
    if rose && !fired && (decide (at_ = 0) || decide (at_ - 1 + 100000000 ≤ Dev.freeNs d)) then
      let d := Dev.setBuf d { d.buf with warned := SMap.set d.buf.warned k true false,
                                         warnAt := SMap.ins d.buf.warnAt k (Dev.freeNs d + 1) }
      Dev.event (Dev.addEl d 32 (K.poolWarnEvents k) 1) 1 6
    else d
  else if used * 8 < warn * 7 then Dev.setBuf d { d.buf with warned := SMap.set d.buf.warned k false false }
  else d

/-! Charges (R171, R173). -/

/-- Cells of pool `svc` held by packets received on port p (R175). -/
def Dev.addHeld (d : Dev) (p svc : Nat) (x : Int) : Dev :=
  let i := p * 8 + svc
  Dev.setBuf d { d.buf with held := SMap.set d.buf.held i (((SMap.get d.buf.held i 0 : Nat) : Int) + x).toNat 0 }

/-- Charge c cells of a packet received on port p to a pool: 0 to 7, 8 the headroom, 9 none. -/
def Dev.charge (d : Dev) (pool svc p c : Nat) : Dev :=
  if pool < 8 then
    let u := Dev.el d (K.poolUsed pool) + c
    let d := Dev.setEl d (K.poolUsed pool) u
    let d := if Dev.el d (K.poolPeak pool) < u then Dev.setEl d (K.poolPeak pool) u else d
    let d := Dev.addHeld d p svc c
    let d := Dev.warnTest (Dev.xoffTest d pool) pool (decide (0 < c))
    if Dev.inXoff d svc then Dev.sendXoff d 0 p svc else d
  else if pool = 8 then
    let u := Dev.el d K.hrUsed + c
    let d := Dev.setEl d K.hrUsed u
    let d := if Dev.el d K.hrPeak < u then Dev.setEl d K.hrPeak u else d
    let d := Dev.addHeld d p svc c
    if Dev.inXoff d svc then Dev.sendXoff d 0 p svc else d
  else d

/-- Give c cells back to their pool. -/
def Dev.uncharge (d : Dev) (pool svc p c : Nat) : Dev :=
  if pool < 8 then
    let d := Dev.setEl d (K.poolUsed pool) (Dev.el d (K.poolUsed pool) - c)
    Dev.warnTest (Dev.xoffTest (Dev.addHeld d p svc (-(c : Int))) pool) pool false
  else if pool = 8 then
    Dev.addHeld (Dev.setEl d K.hrUsed (Dev.el d K.hrUsed - c)) p svc (-(c : Int))
  else d

/-- Free every cell of a packet and forget it. -/
def Dev.freePkt (d : Dev) (i : Nat) : Dev :=
  let p := Dev.pkt d i
  let d := match p.mcPool with
    | some x => Dev.uncharge d x.1 x.2 p.inPort p.mcCells
    | none => d
  Dev.delPkt (p.cells.foldl (fun d c => Dev.freeCell d c) d) i

/-- Decrement a packet's reference count; at zero its cells are freed; below zero its cells are double frees (R166). -/
def Dev.unref (d : Dev) (i : Nat) : Dev :=
  let p := Dev.pkt d i
  if p.refs = 0 then p.cells.foldl (fun d c => Dev.doubleFree d c) (Dev.count d K.bufRefcountErrors 1)
  else if p.refs = 1 then Dev.freePkt d i
  else Dev.setPkt d i { p with refs := p.refs - 1 }

/-- Bring the charge of a descriptor from its estimate to the true count of cells, up or down (R171). -/
def Dev.recharge (d : Dev) (x : Desc) (p c : Nat) : Dev :=
  if c ≤ x.c then Dev.uncharge d x.pool x.svc p (x.c - c) else Dev.charge d x.pool x.svc p (c - x.c)

/-- Release the charge and the reference of a descriptor (R166, R171). -/
def Dev.releaseDesc (d : Dev) (x : Desc) : Dev :=
  let p := Dev.pkt d x.pkt
  let d := Dev.uncharge d x.pool x.svc p.inPort x.c
  let d := Dev.setBuf d { d.buf with descs := d.buf.descs - 1 }
  Dev.unref d x.pkt

/-! Thresholds (R172, R173). -/

/-- floor(factor × n) for a factor code k (R172). -/
def factorOf (k n : Nat) : Nat := if 7 ≤ k then n * 2 ^ (k - 7) else n / 2 ^ (7 - k)

/-- fits(q, c) of R173, for a packet of the old profile or of the present one (R33). -/
def Dev.fits (d : Dev) (old : Bool) (n c : Nat) : Bool :=
  let k := Dev.qPool d n
  let used := Dev.el d (K.poolUsed k)
  let size := Dev.el d (K.poolSize k)
  if size < used + c then false
  else if Dev.el d (K.poolMode k) = 1 then true
  else decide ((Dev.queue d n).depth + c ≤ max (Dev.qMin d n) (factorOf (Dev.factorFor d old n) (size - used)))

/-! ECN marking (R178). -/

/-- The marking probability of pool k at `u` used cells, in 1/65,536. -/
def Dev.ecnProb (d : Dev) (k u : Nat) : Nat :=
  let lo := Dev.el d (K.poolEcnKmin k)
  let hi := Dev.el d (K.poolEcnKmax k)
  let pm := Dev.el d (K.poolEcnPmax k)
  if u < lo then 0
  else if hi ≤ u then pm * 256
  else pm * 256 * (u - lo) / (hi - lo)

/-- The draw for one admitted packet: a free value against the probability (R178, log 3). -/
def Dev.ecnDraw (d : Dev) (k u : Nat) : Dev × Bool := (Dev.useFree d, decide (Dev.freeVal d 65536 < Dev.ecnProb d k u))

end Sys2Proof.Machine
end

