-- ==== Sys2Proof/Machine/Tags.lean ====
section
/-! DEFINITION. Effective lengths, shapers, the timing wheel, contention and the tags of fair queueing (Scheduling,
shaping and policing). -/
namespace Sys2Proof.Machine

/-- L_eff = max(1, length + overhead) (R238). -/
def Dev.leff (d : Dev) (len prof : Nat) : Nat := (max 1 ((len : Int) + Dev.elS d 32 (K.ovhProfile prof))).toNat

/-- The length that the scheduler charges for a descriptor bound for port p: the stored length plus 4, or port.max_frame
while a cut-through packet's tail has not come (R238, R239). -/
def Dev.schedLen (d : Dev) (p : Nat) (x : Desc) : Nat :=
  let k := Dev.pkt d x.pkt
  if x.cut && !k.whole then Dev.maxFrame d p else (Pkt.stored k).length + 4

/-! Shapers (R247). -/

/-- n ÷ k rounded up. -/
def ceilDiv (n k : Nat) : Nat := (n + k - 1) / k

/-- The cost of L bytes at code k, and the burst allowance of b bytes, in 2^-16 ns, rounded up. -/
def shCost (l k : Nat) : Nat := ceilDiv (l * 125000 * 65536) k

/-- now ≥ E - β. -/
def shEligible (now e beta : Nat) : Bool := decide (0 ≤ schedDiff (now + beta) e)

/-- max(E, now) + c. -/
def shCharge (now e c : Nat) : Nat := ((if 0 ≤ schedDiff e now then e else now) + c) % 2 ^ 80

/-! The timing wheel (R251). -/

/-- Owner numbers: a queue's shaper, a port's shaper. -/
def ownQueue (n : Nat) : Nat := n
def ownPort (p : Nat) : Nat := 2 ^ 20 + p

def Dev.wheel (d : Dev) (n : Nat) : List (Nat × Nat) := SMap.get d.sched.wheel n []
def Dev.overflow (d : Dev) (n : Nat) : List (Nat × Nat) := SMap.get d.sched.overflow n []
def Dev.setWheel (d : Dev) (n : Nat) (w o : List (Nat × Nat)) : Dev :=
  { d with sched := { d.sched with wheel := SMap.set d.sched.wheel n w [], overflow := SMap.set d.sched.overflow n o [] } }

/-- The slot of the first 8 ns boundary at or after scheduler time x. -/
def wheelSlot (x : Nat) : Nat := ceilDiv x (8 * 65536)

/-- Whether a shaper has an entry. -/
def Dev.onWheel (d : Dev) (pipe own : Nat) : Bool :=
  (Dev.wheel d pipe).any (fun x => x.2 == own) || (Dev.overflow d pipe).any (fun x => x.2 == own)

/-- Remove a shaper's entry (R249). -/
def Dev.wheelDel (d : Dev) (pipe own : Nat) : Dev :=
  Dev.setWheel d pipe ((Dev.wheel d pipe).filter (fun x => x.2 != own)) ((Dev.overflow d pipe).filter (fun x => x.2 != own))

/-- Enter a shaper at time x, in its slot or in the overflow list (R251). -/
def Dev.wheelAdd (d : Dev) (pipe own x : Nat) : Dev :=
  let d := Dev.wheelDel d pipe own
  if schedDiff x (Dev.now d) ≤ 524288 * 65536 then
    Dev.setWheel d pipe (Dev.wheel d pipe ++ [(wheelSlot x, own)]) (Dev.overflow d pipe)
  else
    let o := Dev.overflow d pipe ++ [(wheelSlot x, own)]
    let d := Dev.setWheel d pipe (Dev.wheel d pipe) o
    if Dev.el d K.schedOverflowPeak < o.length then Dev.setEl d K.schedOverflowPeak (o.length % 65536) else d

/-- Whether queue n's shaper lets it pass: disabled, or released by the wheel and eligible (R240, R247). -/
def Dev.qShaperOk (d : Dev) (n : Nat) : Bool :=
  let k := Dev.qRate d n
  k == 0 || (!Dev.onWheel d (portPipe (qPort n)) (ownQueue n)
              && shEligible (Dev.now d) (Dev.queue d n).shE (shCost (Dev.qBurst d n) k))

/-- Port shaper fields (R261, Table 4). -/
def Dev.pRate (d : Dev) (p : Nat) : Nat := bits (Dev.portSched d p) 0 25
def Dev.pProfile (d : Dev) (p : Nat) : Nat := bits (Dev.portSched d p) 25 5
def Dev.pBurst (d : Dev) (p : Nat) : Nat := bits (Dev.portSched d p) 30 24

/-- Whether port p's shaper is eligible now, its wheel entry released or not (R242, R247, R250). -/
def Dev.pShaperOk (d : Dev) (p : Nat) : Bool :=
  let k := Dev.pRate d p
  k == 0 || shEligible (Dev.now d) (Dev.port d p).shE (shCost (Dev.pBurst d p) k)

/-- Charge queue n's shaper with L_eff bytes (R243, R247). -/
def Dev.chargeQueue (d : Dev) (n l : Nat) : Dev :=
  let k := Dev.qRate d n
  if k = 0 then d
  else
    let q := Dev.queue d n
    let e := shCharge (Dev.now d) q.shE (shCost l k)
    let d := Dev.setQueue d n { q with shE := e }
    let b := shCost (Dev.qBurst d n) k
    if shEligible (Dev.now d) e b then d
    else
      let d := if qFront n then Dev.count d (K.eqShaperBlocked n) 1 else d
      Dev.wheelAdd d (portPipe (qPort n)) (ownQueue n) ((e + 2 ^ 80 - b) % 2 ^ 80)

/-- Charge port p's shaper (R243, R247). -/
def Dev.chargePort (d : Dev) (p l : Nat) : Dev :=
  let k := Dev.pRate d p
  if k = 0 then d
  else
    let o := Dev.port d p
    let e := shCharge (Dev.now d) o.shE (shCost l k)
    let d := Dev.setPort d p { o with shE := e }
    let b := shCost (Dev.pBurst d p) k
    if shEligible (Dev.now d) e b then d else Dev.wheelAdd d (portPipe p) (ownPort p) ((e + 2 ^ 80 - b) % 2 ^ 80)

/-! Contention and tags (R240, R245). -/

/-- The head of a queue, where it is an on-die packet that has returned whole. -/
def EQueue.head (q : EQueue) : Option Desc :=
  match q.items with
  | .pkt x :: _ => if x.half then none else some x
  | _ => none

/-- Whether queue n may be in contention now (R240). -/
def Dev.contends (d : Dev) (n : Nat) : Bool :=
  let q := Dev.queue d n
  decide (Dev.qTier d n < 4) && (EQueue.head q).isSome && !q.held && !q.flushing && !Dev.qPaused d n && Dev.qShaperOk d n

/-- inc(h, w) (R245). -/
def Dev.inc (d : Dev) (n : Nat) (x : Desc) : Nat :=
  Dev.leff d (Dev.schedLen d (qPort n) x) (Dev.qProfile d n) * 4096 / Dev.qWeight d n

/-- Queues of port p in tier t. -/
def Dev.tierQueues (d : Dev) (p t : Nat) : List Nat :=
  ((List.range 16).map (fun q => p * 16 + q)).filter (fun n => Dev.qTier d n == t)

def Dev.tierV (d : Dev) (p t : Nat) : Nat := SMap.get (Dev.port d p).v t 0
def Dev.setTierV (d : Dev) (p t v : Nat) : Dev :=
  let o := Dev.port d p
  Dev.setPort d p { o with v := SMap.set o.v t v 0 }

/-- The tier's update after a change: idle reset, and the subtraction of 2^46 (R245). -/
def Dev.tierUpdate (d : Dev) (p t : Nat) : Dev :=
  let qs := Dev.tierQueues d p t
  if qs.all (fun n => (Dev.queue d n).tagH.isNone) then
    qs.foldl (fun d n => let q := Dev.queue d n; Dev.setQueue d n { q with tagF := 0 }) (Dev.setTierV d p t 0)
  else if 2 ^ 47 ≤ Dev.tierV d p t then
    let d := Dev.setTierV d p t (Dev.tierV d p t - 2 ^ 46)
    let d := qs.foldl (fun d n =>
      let q := Dev.queue d n
      Dev.setQueue d n { q with tagF := q.tagF - 2 ^ 46, tagH := q.tagH.map (fun h => h - 2 ^ 46) }) d
    Dev.count d K.schedRenorms 1
  else d

/-- Take queue n out of contention. -/
def Dev.leave (d : Dev) (n : Nat) : Dev :=
  let q := Dev.queue d n
  match q.tagH with
  | some _ => Dev.tierUpdate (Dev.setQueue d n { q with tagH := none }) (qPort n) (Dev.qTier d n)
  | none => d

/-- Evaluate queue n's contention again: it enters (on_enter), leaves, or stays (R240, R245). -/
def Dev.recontend (d : Dev) (n : Nat) : Dev :=
  let q := Dev.queue d n
  let t := Dev.qTier d n
  match q.tagH, Dev.contends d n, EQueue.head q with
  | none, true, some x =>
    let h := max (Dev.tierV d (qPort n) t) q.tagF + Dev.inc d n x
    Dev.tierUpdate (Dev.setQueue d n { q with tagH := some h }) (qPort n) t
  | some _, false, _ => Dev.leave d n
  | _, _, _ => d

/-- Evaluate every queue of a port again. -/
def Dev.recontendPort (d : Dev) (p : Nat) : Dev :=
  (List.range 16).foldl (fun d q => Dev.recontend d (p * 16 + q)) d

/-- on_served: V and F take H; a queue that stays in contention takes its next head's tag (R245). The queue's list
already stands at the next head, and its shaper is charged. -/
def Dev.served (d : Dev) (n : Nat) : Dev :=
  let q := Dev.queue d n
  let t := Dev.qTier d n
  match q.tagH with
  | none => d
  | some h =>
    let d := Dev.setTierV (Dev.setQueue d n { q with tagF := h }) (qPort n) t h
    let q := Dev.queue d n
    match Dev.contends d n, EQueue.head q with
    | true, some x =>
      Dev.tierUpdate (Dev.setQueue d n { q with tagH := some (h + Dev.inc d n x) }) (qPort n) t
    | _, _ => Dev.leave d n

end Sys2Proof.Machine
end

