-- ==== Sys2Proof/Machine/Granary.lean ====
section
/-! DEFINITION. The granary: bales, spill states, the return window (The granary, R202 to R222). -/
namespace Sys2Proof.Machine

def Dev.setGran (d : Dev) (g : GranS) : Dev := { d with gran := g }

/-- A bale nothing has been put into. -/
def Bale.init : Bale :=
  { queue := 0, seq := 0, recs := [], used := 64, contIn := 0, contMore := false, shared := false, refs := 1,
    closed := false, written := false, reading := [], body := [], copies := [], bursts := [], firstEnq := 0, lastEnq := 0 }

def Dev.bale (d : Dev) (b : Nat) : Bale := SMap.get d.gran.bales b Bale.init
def Dev.setBale (d : Dev) (b : Nat) (x : Bale) : Dev := Dev.setGran d { d.gran with bales := SMap.ins d.gran.bales b x }

/-! Allocation (R204, R210). -/

/-- Bales of each stack under the layout in force: 131,072 bales a GiB over sixteen stacks (R203, R204). -/
def Dev.stackBales (d : Dev) : Nat := bits (Dev.elIn d K.granRegionLayout) 0 8 * 8192

def Dev.baleUsable (d : Dev) (b : Nat) : Bool :=
  (SMap.find d.gran.bales b).isNone && !d.gran.quarantine.contains b && (SMap.find d.gran.gone b).isNone

/-- Bales of stack s that are not free: allocated, quarantined or out of service. -/
def Dev.stackBusy (d : Dev) (s : Nat) : Nat :=
  (d.gran.bales.filter (fun x => x.1 % 16 == s)).length
    + (d.gran.quarantine.filter (fun b => b % 16 == s && (SMap.find d.gran.bales b).isNone)).length
    + (d.gran.gone.filter (fun x => x.1 % 16 == s && (SMap.find d.gran.bales x.1).isNone)).length

/-- Whether bales may be allocated on stack s: in service, and not above its temperature (R210, R226, R227). -/
def Dev.stackOk (d : Dev) (s : Nat) : Bool := Dev.el d (K.gstackState s) == 0
def Dev.stackFree (d : Dev) (s : Nat) : Nat := if Dev.stackOk d s then Dev.stackBales d - Dev.stackBusy d s else 0

/-- Free bales on stacks in service. -/
def Dev.balesFree (d : Dev) : Nat := ((List.range 16).map (Dev.stackFree d)).foldl (· + ·) 0

/-- The lowest free bale of stack s: among its first busy + 1 places one is free. -/
def Dev.baleOn (d : Dev) (s : Nat) : Option Nat :=
  (List.range (Dev.stackBusy d s + 1)).findSome? (fun i =>
    if Dev.baleUsable d (i * 16 + s) && decide (i < Dev.stackBales d) then some (i * 16 + s) else none)

/-- The next bale after one on stack `last` (R210). -/
def Dev.nextBale (d : Dev) (last : Nat) : Option Nat :=
  (List.range 16).findSome? (fun i =>
    let s := (last + 1 + i) % 16
    if 0 < Dev.stackFree d s then Dev.baleOn d s else none)

def Dev.backlog (d : Dev) : Nat := Dev.el d K.granSpillBacklog

/-- Ports from which the packets now in bales of pool k's spilling queues came (R218). -/
def Dev.spillPorts (d : Dev) (k : Nat) : List Nat :=
  d.queues.flatMap (fun x =>
    if Dev.qSpillState d x.1 == 1 && Dev.qPool d x.1 == k then
      x.2.items.flatMap (fun it =>
        match it with
        | .bale b _ => (Dev.bale d b).recs.map (fun r => (Dev.pkt d r.pkt).inPort)
        | .pkt _ => [])
    else [])

def Dev.hasSpilling (d : Dev) (k : Nat) : Bool :=
  d.queues.any (fun x => Dev.qSpillState d x.1 == 1 && Dev.qPool d x.1 == k)

/-- XOFF and XON of lossless pools by the free bales (R218). -/
def Dev.spillXoff (d : Dev) : Dev :=
  let free := Dev.el d K.granSpillBalesFree
  let low := Dev.el d K.granSpillXoffFree
  (List.range 8).foldl (fun d k =>
    if low ≠ 0 ∧ free ≤ low then
      if Dev.el d (K.poolMode k) = 1 ∧ Dev.hasSpilling d k = true then
        (Dev.spillPorts d k).foldl (fun d p => Dev.sendXoff d (2 ^ 16) p k) (Dev.setPoolXoff d true k true)
      else d
    else if Dev.inSpillXoff d k = true ∧ (low = 0 ∨ Dev.el d K.granSpillXonFree < free) then
      (Dev.xoffPorts d (2 ^ 16) k).foldl (fun d p => Dev.sendXon d (2 ^ 16) p k) (Dev.setPoolXoff d true k false)
    else d) d

/-! Places of segments (R202, R204, R224). A segment's number is its place in its stack; the spill region comes first, the
telemetry, staging and crash regions follow, and the 3,072 reserve segments come last (log 20). -/

def segKey (st seg : Nat) : Nat := st * 2 ^ 20 + seg

/-- The first reserve segment of a stack: 125 GiB of other regions lie before it. -/
def resBase : Nat := 128000

/-- The segment of its stack in which the contents of segment `seg` stand: its replacement, once the remap entry has taken
effect (R224, step 3). -/
def Dev.segPhys (d : Dev) (st seg : Nat) : Nat :=
  let k := segKey st seg
  match SMap.find d.gran.remap k with
  | some r => if SMap.get d.gran.copying k false then seg else if r < 2 ^ 20 then resBase + (r - 1) else r - 2 ^ 20
  | none => seg

/-- The upper tag byte of the bursts of a segment outside the spill region (R208). -/
def Dev.segMark (d : Dev) (seg : Nat) : Nat :=
  let l := Dev.elIn d K.granRegionLayout
  let spill := 1024 * bits l 0 8
  let tel := spill + 1024 * bits l 8 8
  let staging := tel + 1024 * bits l 16 8
  if seg < tel then 0xF1 else if seg < staging then 0xF2 else if seg < resBase then 0xF3 else 0xF4

/-! Bursts and references (R205 to R209). -/

/-- The 64-byte header of a bale (R205, Table 4). -/
def Bale.header (x : Bale) : List Byte :=
  leBytes 64 (0xB41E + 1 * 2 ^ 16 + x.recs.length % 256 * 2 ^ 24 + x.queue % 2 ^ 14 * 2 ^ 32 + x.seq % 2 ^ 32 * 2 ^ 48
    + x.contIn % 2 ^ 14 * 2 ^ 80 + b2n x.contMore * 2 ^ 94 + b2n x.shared * 2 ^ 95 + x.firstEnq % 2 ^ 32 * 2 ^ 96
    + x.lastEnq % 2 ^ 32 * 2 ^ 128 + x.used % 2 ^ 14 * 2 ^ 160)

/-- A packet record (R206). Which sheaf fields are the 64 bytes of carried metadata the spec leaves open (log 111). -/
def Dev.recBytes (d : Dev) (x : Desc) : List Byte :=
  let p := Dev.pkt d x.pkt
  let bs := Pkt.stored p
  leBytes 32 (bs.length % 2 ^ 15 + p.epoch % 2 * 2 ^ 15 + b2n x.ecn * 2 ^ 16 + x.enq % 2 ^ 32 * 2 ^ 32)
    ++ leBytes 64 (Config.freeAt 8 p.sheaf.toNat) ++ padTo 32 bs

/-- The tag of burst i of an 8 KiB block: a bale's number `hi`, or the mark of another region (R208). -/
def burstTag (hi i : Nat) : Nat := i % 256 + hi % 256 * 256

/-- The upper tag byte of the bursts of bale b: its number, or the mark of the reserve segment that replaces its own. -/
def Dev.baleMark (d : Dev) (b seq : Nat) : Nat := if resBase ≤ Dev.segPhys d (b % 16) (b / 128) then 0xF4 else seq

/-- A burst with its tag and an ECC over both; the code is the part's own (R208, log 112). -/
def burstOf (data tag : Nat) : Burst := { data := data, ecc := Config.freeAt 9 (data + tag * 2 ^ 256) % 2 ^ 16, tag := tag }

/-- The 256 bursts of bale b, their tags with `hi` above; the bytes beyond `used` are undefined (R205, log 112). -/
def Bale.image (x : Bale) (b hi : Nat) : List Burst :=
  let bs := Bale.header x ++ x.body
  let bs := bs ++ leBytes (8192 - bs.length) (Config.freeAt 10 (b + x.seq * 2 ^ 24))
  (List.range 256).map (fun i => burstOf (leNat (slice bs (i * 32) 32)) (burstTag hi i))

/-- The bursts of a bale that carry another tag than the part expects (R208). -/
def Bale.oddTags (x : Bale) (hi : Nat) : List Nat :=
  (x.bursts.zipIdx.filter (fun y => y.1.tag != burstTag hi y.2)).map (fun y => y.2)

/-- Every burst of a bale read back carries the tag that the part expects (R208). -/
def Bale.tagsOk (x : Bale) (hi : Nat) : Bool := (Bale.oddTags x hi).isEmpty

/-- The contents of bale b have been copied to another place: its bursts carry the tags of that place (R208, R224, R225). -/
def Dev.retag (d : Dev) (b : Nat) : Dev :=
  match SMap.find d.gran.bales b with
  | some x => Dev.setBale d b { x with bursts := x.bursts.zipIdx.map (fun y => burstOf y.1.data (burstTag (Dev.baleMark d b x.seq) y.2)) }
  | none => d

/-- A bale reference descriptor of kind 1 (R209, Table 5): the 36 bits of head_cell and length, enq_time and the first
8 bytes of its metadata; every other field is zero. `returned` stands at 0: the records of a bale that has returned
take its reference's place (log 111). -/
structure BaleRef where
  place : Nat
  enq : Nat
  meta8 : Nat
  deriving DecidableEq, Repr

/-- The reference to bale b as number seq of its queue. -/
def Dev.baleRef (d : Dev) (b seq : Nat) : BaleRef :=
  let x := Dev.bale d b
  { place := b % 2 ^ 24 + x.recs.length % 256 * 2 ^ 24 + b2n (decide (0 < x.contIn)) * 2 ^ 32 + b2n x.contMore * 2 ^ 33
      + b2n x.shared * 2 ^ 34,
    enq := x.lastEnq % 2 ^ 32, meta8 := seq % 2 ^ 32 + x.firstEnq % 2 ^ 32 * 2 ^ 32 }

/-- Records that start in the bale of a reference. -/
def BaleRef.records (r : BaleRef) : Nat := bits r.place 24 8

/-! Stacks in service and the totals that follow (R200, R204, R224, R225, R227, R230, R234). -/

/-- Reserve segments of stack s in use. -/
def Dev.resUsed (d : Dev) (s : Nat) : Nat :=
  (d.gran.remap.filter (fun x => x.1 / 2 ^ 20 == s && decide (x.2 < 2 ^ 20))).length

/-- Reserve segments of stack s that have failed themselves. -/
def Dev.resBad (d : Dev) (s : Nat) : Nat := (d.gran.badRes.filter (fun x => x.1 / 2 ^ 20 == s)).length

def Dev.granTotals (d : Dev) : Dev :=
  let n := (Dev.inService d).length
  let lost := (d.gran.gone.filter (fun x => (Dev.inService d).contains (x.1 % 16))).length
  let d := Dev.setEl d K.granSpillBalesTotal (n * Dev.stackBales d - lost)
  let d := Dev.setEl d K.granSpillBalesFree (Dev.balesFree d)
  let d := Dev.setEl d K.granReserveFree ((Dev.inService d).foldl (fun a s => a + (3072 - Dev.resUsed d s - Dev.resBad d s)) 0)
  let d := (List.range 16).foldl (fun d s => Dev.setEl d (K.gstackRemaps s) (Dev.resUsed d s)) d
  Dev.spillXoff
    (Dev.setEl d K.telStoreCapacity (if Dev.granUp d then bits (Dev.elIn d K.granRegionLayout) 8 8 * 2 ^ 24 * n / 16 else 65536))

/-! Segments (R224, R225). -/

/-- Spill segments of a stack, and the bales of one. -/
def Dev.spillSegs (d : Dev) : Nat := Dev.stackBales d / 8
def segBales (st seg : Nat) : List Nat := (List.range 8).map (fun i => (seg * 8 + i) * 16 + st)

/-- Take the 8 bales of a spill segment out of service. -/
def Dev.segmentGone (d : Dev) (st seg : Nat) : Dev :=
  let d := Dev.setGran d { d.gran with gone := (segBales st seg).foldl (fun m b => SMap.ins m b true) d.gran.gone }
  Dev.granTotals (Dev.day (Dev.addEl d 32 K.granSegmentsLost 1) 9)

/-- A failing segment of another region takes the first spill segment of its stack whose 8 bales are all free; where none
is, the first one that becomes so (R225). -/
def Dev.segmentBorrow (d : Dev) (st seg : Nat) : Dev :=
  match (List.range (Dev.spillSegs d)).find? (fun g => (segBales st g).all (Dev.baleUsable d)) with
  | some g =>
    let k := segKey st seg
    Dev.segmentGone (Dev.setGran d { d.gran with
      remap := SMap.ins d.gran.remap k (2 ^ 20 + g), copying := SMap.set d.gran.copying k true false,
      owed := d.gran.owed.filter (fun x => x != k) }) st g
  | none =>
    if d.gran.owed.contains (segKey st seg) then d
    else Dev.setGran d { d.gran with owed := d.gran.owed ++ [segKey st seg] }

/-- While the granary microcontroller is being reloaded, scrub, drift retraining and the steps of repair and retirement
pause (R233). -/
def Dev.gmcuAway (d : Dev) : Bool := Dev.el d K.fwGmcuState != 0

/-- A bale of stack st has been freed: a segment that is owed a replacement takes one when it can (R225). -/
def Dev.payOwed (d : Dev) (st : Nat) : Dev :=
  if Dev.gmcuAway d then d else
  match d.gran.owed.find? (fun k => k / 2 ^ 20 == st) with
  | some k => Dev.segmentBorrow d st (k % 2 ^ 20)
  | none => d

/-! Freeing bales (R210, R217, R234, R235). -/

/-- Take a bale out of the free list, or give it back: the counts (R234, R235). A bale of a stack on which none is
allocated is not free (R226, R227). -/
def Dev.baleCounts (d : Dev) (b : Nat) (taken : Bool) : Dev :=
  let s := b % 16
  let step (v : Nat) (up : Bool) : Nat := if up then v + 1 else v - 1
  let d :=
    if Dev.stackOk d s then Dev.setEl d K.granSpillBalesFree (step (Dev.el d K.granSpillBalesFree) (!taken)) else d
  Dev.setEl d (K.gstackBalesUsed s) (step (Dev.el d (K.gstackBalesUsed s)) taken)

def Dev.addBacklog (d : Dev) (up : Bool) : Dev :=
  Dev.setEl d K.granSpillBacklog (if up then Dev.backlog d + 1 else Dev.backlog d - 1)

/-- Start the audit that a double free of a bale asks for; the bale is quarantined (R210). -/
def Dev.baleDoubleFree (d : Dev) (b : Nat) : Dev :=
  let d := Dev.containedF (Dev.count d K.granDoubleFree 1) 7 0x0A00 0x0D b
  Dev.audit (Dev.setGran d { d.gran with quarantine := d.gran.quarantine ++ [b] })

/-- Free a bale with what it holds (R210). -/
def Dev.freeBale (d : Dev) (b : Nat) : Dev :=
  match SMap.find d.gran.bales b with
  | none => Dev.baleDoubleFree d b
  | some x =>
    let d := if x.written then x.recs.foldl (fun d r => Dev.delPkt d r.pkt) d else Dev.addBacklog d false
    let d := Dev.setGran d { d.gran with bales := SMap.del d.gran.bales b }
    let d := if x.shared then Dev.setEl d K.granMcSharedFree (Dev.el d K.granMcSharedFree + 1) else d
    Dev.payOwed (Dev.spillXoff (Dev.baleCounts d b false)) (b % 16)

/-- A queue's reference to a bale is released (R217). -/
def Dev.unrefBale (d : Dev) (b : Nat) : Dev :=
  let x := Dev.bale d b
  if x.refs ≤ 1 then Dev.freeBale d b else Dev.setBale d b { x with refs := x.refs - 1 }

/-! The return window (R215). -/

/-- The bale number of the middle that an item stands for, plus one; 0 where it stands for none. -/
def QItem.mark : QItem → Nat
  | .pkt x => if x.spilled then x.bale else 0
  | .bale _ s => s + 1

/-- Packets of queue n that are selected and neither transmitted nor dropped: in the egress stages, before the MAC or on
the line. -/
def Dev.flying (d : Dev) (n : Nat) : List Desc :=
  let o := Dev.port d (qPort n)
  let c := (Dev.pipe d (portPipe (qPort n))).ctx
  ((o.tx.toList ++ o.sel).filter (fun f => f.q == n)).map (fun f => f.d)
    ++ (if c.live && c.egress && c.q == n then [c.desc] else [])

/-- Change the descriptor of every such packet. -/
def Dev.mapFlying (d : Dev) (n : Nat) (f : Desc → Desc) : Dev :=
  let o := Dev.port d (qPort n)
  let g (x : TxFrame) : TxFrame := if x.q = n then { x with d := f x.d } else x
  let d := Dev.setPort d (qPort n) { o with tx := o.tx.map g, sel := o.sel.map g }
  let p := Dev.pipe d (portPipe (qPort n))
  if p.ctx.live && p.ctx.egress && p.ctx.q == n then
    Dev.setPipe d (portPipe (qPort n)) { p with ctx := { p.ctx with desc := f p.ctx.desc } }
  else d

/-- The bales of the middle in queue order, those included of which a packet is queued or on its way out (R215). -/
def Dev.marks (d : Dev) (n : Nat) : List Nat :=
  ((Dev.flying d n).map QItem.pkt ++ (Dev.queue d n).items).foldl
    (fun l x => if QItem.mark x = 0 || l.contains (QItem.mark x) then l else l ++ [QItem.mark x]) []

/-- Whether the queue's bale number s lies in its return window. -/
def Dev.inWindow (d : Dev) (n s : Nat) : Bool := ((Dev.marks d n).take 2).contains (s + 1)

/-- The written bales of queue n in its return window that are not being read yet: queue, bale and number (R215). -/
def Dev.returnable (d : Dev) (n : Nat) : List (Nat × Nat × Nat) :=
  (Dev.queue d n).items.filterMap (fun it =>
    match it with
    | .bale b s =>
      let x := Dev.bale d b
      if x.written && !x.reading.contains n && Dev.inWindow d n s then some (n, b, s) else none
    | .pkt _ => none)

/-- Bales of queue n that have entered its window take their places in the order of the returns (R215). -/
def Dev.noteReturns (d : Dev) (n : Nat) : Dev :=
  match (Dev.returnable d n).filter (fun r => !d.gran.returns.contains r) with
  | [] => d
  | l => Dev.setGran d { d.gran with returns := d.gran.returns ++ l }

/-- Whether every bale of the middle lies in the window. -/
def Dev.allInWindow (d : Dev) (n : Nat) : Bool :=
  (Dev.queue d n).items.all (fun x => match x with | .bale _ s => Dev.inWindow d n s | .pkt _ => true)

/-! On-die depth and its peak. -/

def Dev.addDepth (d : Dev) (n c hr : Nat) : Dev :=
  let q := Dev.queue d n
  let d := Dev.setQueue d n { q with depth := q.depth + c, hr := q.hr + hr }
  if qFront n && decide (Dev.el d (K.eqDepthPeak n) < q.depth + c) then Dev.setEl d (K.eqDepthPeak n) (q.depth + c) else d

def Dev.subDepth (d : Dev) (n c hr : Nat) : Dev :=
  let q := Dev.queue d n
  Dev.setQueue d n { q with depth := q.depth - c, hr := q.hr - hr }

def Dev.addDescs (d : Dev) (up down : Nat) : Dev := Dev.setBuf d { d.buf with descs := d.buf.descs + up - down }

/-! Linking a bale's records on-die (R214, R215). -/

/-- A record as an on-die descriptor: charged to the queue's depth and pool without an admission decision. -/
def Dev.linkRec (d : Dev) (n seq : Nat) (x : Desc) : Dev × Desc :=
  let k := Dev.qPool d n
  let c := cellsOf (Pkt.stored (Dev.pkt d x.pkt)).length
  let x := { x with c := c, pool := k, svc := k, spilled := true, bale := seq + 1 }
  let d := Dev.addDepth (Dev.charge d k k (Dev.pkt d x.pkt).inPort c) n c 0
  (d, x)

/-- Mark the last record as continuing in a bale that has not returned (R207, R215). -/
def halfLast (more : Bool) : List Desc → List Desc
  | [] => []
  | [x] => [{ x with half := more }]
  | x :: t => x :: halfLast more t

/-- The rest of the record that continues into the bale (b, seq) is on-die. -/
def QItem.whole (b seq : Nat) : List QItem → List QItem
  | [] => []
  | .pkt x :: t => .pkt { x with half := false } :: QItem.whole b seq t
  | .bale c s :: t => if c = b ∧ s = seq then .bale c s :: t else .bale c s :: QItem.whole b seq t

/-- Put the records of bale b in place of its reference in queue n. A record that continues beyond the bale (`more`) can
leave once its last bale has come (R215). -/
def Dev.linkBale (d : Dev) (n b seq : Nat) (recs : List Desc) (more : Bool) : Dev :=
  let x := Dev.bale d b
  let r := (halfLast more recs).foldl (fun (a : Dev × List Desc) x => let y := Dev.linkRec a.1 n seq x; (y.1, a.2 ++ [y.2])) (d, [])
  let d := Dev.addDescs r.1 r.2.length 1
  let q := Dev.queue d n
  let items := if 0 < x.contIn ∧ (recs.isEmpty = false ∨ x.contMore = false) then QItem.whole b seq q.items else q.items
  let items := items.flatMap (fun x =>
    match x with
    | .bale b' s => if b' = b ∧ s = seq then r.2.map QItem.pkt else [x]
    | _ => [x])
  Dev.recontend (Dev.setQueue d n { q with items := items }) n

/-- A fresh packet that holds a record's contents, read into cells of its own (R215). -/
def Dev.copyRec (d : Dev) (x : Desc) : Dev × Desc :=
  let i := d.nextPkt
  let p := { Dev.pkt d x.pkt with cells := [], refs := 1, mcPool := none, mcCells := 0 }
  let d := Dev.setPkt { d with nextPkt := i + 1 } i p
  (Dev.writeCells d i (cellsOf (Pkt.stored p).length), { x with pkt := i })

/-! Spill states (R212). -/

/-- The middle is gone: state 0; what came back counts for no window any more. -/
def Dev.drained (d : Dev) (n : Nat) : Dev :=
  let q := Dev.queue d n
  if Dev.qSpillState d n = 2 ∧ EQueue.bales q = 0 then
    let items := q.items.map (fun x => match x with | .pkt y => QItem.pkt { y with bale := 0 } | z => z)
    let d := Dev.mapFlying (Dev.setQueue d n { q with items := items }) n (fun y => { y with bale := 0 })
    Dev.setEl d (K.eqSpillState n) 0
  else d

/-- Close queue n's open bale: linked on-die inside the window, else queued for writing (R214). -/
def Dev.closeBale (d : Dev) (n : Nat) : Dev :=
  let q := Dev.queue d n
  match q.openBale with
  | none => d
  | some b =>
    let x := Dev.bale d b
    let d := Dev.setBale (Dev.setQueue d n { q with openBale := none }) b { x with closed := true }
    if Dev.inWindow d n x.seq && !x.shared then
      let d := Dev.linkBale d n b x.seq x.recs x.contMore
      Dev.perf (Dev.freeBale d b) 0x28 5 1
    else d

/-- Enter state 2: the open bale closes (R212). -/
def Dev.enterDraining (d : Dev) (n : Nat) : Dev :=
  Dev.drained (Dev.closeBale (Dev.setEl d (K.eqSpillState n) 2) n) n

/-- The window has moved: state 1 ends when it holds the whole middle (R212). -/
def Dev.windowMoved (d : Dev) (n : Nat) : Dev :=
  let d := Dev.noteReturns d n
  if Dev.qSpillState d n = 1 ∧ Dev.allInWindow d n = true then Dev.enterDraining d n
  else Dev.drained d n

/-- A packet of queue n has been transmitted or dropped: the window moves past its bale with the last one (R215). -/
def Dev.gone (d : Dev) (n : Nat) (x : Desc) : Dev :=
  if x.spilled && decide (x.bale ≠ 0) && !((Dev.marks d n).contains x.bale) then Dev.windowMoved d n else d

/-! Records and bales (R205 to R207, R213). -/

/-- The length of a record of n stored bytes (R206). -/
def recLen (n : Nat) : Nat := 96 + 32 * ((n + 31) / 32)

/-- New bales that a record needs beyond the open bale's free bytes (R213). -/
def Dev.balesFor (d : Dev) (n len : Nat) : Nat :=
  let free := match (Dev.queue d n).openBale with
    | some b => 8192 - (Dev.bale d b).used
    | none => 0
  let free := if free < 96 then 0 else free
  ceilDiv (recLen len - free) 8128

/-- Whether `need` bales can be had for queue n (R213). -/
def Dev.canHave (d : Dev) (n need : Nat) : Bool :=
  decide (Dev.backlog d + need < 1024) && decide (need ≤ Dev.balesFree d)
    && decide (EQueue.bales (Dev.queue d n) + need ≤ Dev.el d (K.eqSpillMaxBales n))

/-- Open a bale for queue n, which begins with the rest of a record: its reference stands in the queue from now on (R205,
R210, R214). -/
def Dev.openBale (d : Dev) (n : Nat) (rest : List Byte) : Dev :=
  let q := Dev.queue d n
  match Dev.nextBale d q.lastStack with
  | none => d
  | some b =>
    let x := { Bale.init with queue := n, seq := q.baleSeq, contIn := rest.length, used := 64 + rest.length,
                               body := rest }
    let d := Dev.setBale d b x
    let d := Dev.setQueue d n { q with items := q.items ++ [.bale b q.baleSeq], openBale := some b,
                                       lastStack := b % 16, baleSeq := (q.baleSeq + 1) % 2 ^ 32 }
    Dev.addBacklog (Dev.baleCounts (Dev.addDescs d 1 0) b true) true

/-- The rest of a record continues in the next bales (R207); the fuel covers the longest record. -/
def Dev.spillRest (d : Dev) (n : Nat) : Nat → List Byte → Dev
  | 0, _ => d
  | k + 1, rest =>
    if rest.isEmpty then
      match (Dev.queue d n).openBale with
      | some b => if 8192 - (Dev.bale d b).used < 96 then Dev.closeBale d n else d
      | none => d
    else
      let d := match (Dev.queue d n).openBale with
        | some b => Dev.closeBale (Dev.setBale d b { Dev.bale d b with contMore := true }) n
        | none => d
      Dev.spillRest (Dev.openBale d n (rest.take 8128)) n k (rest.drop 8128)

/-- Append a packet as a record to queue n's open bale; the free-bale levels are tested with the record in it (R213, R218). -/
def Dev.appendRec (d : Dev) (n : Nat) (x : Desc) (len : Nat) : Dev :=
  let d := match (Dev.queue d n).openBale with
    | some b => if 8192 - (Dev.bale d b).used < 96 then Dev.openBale (Dev.closeBale d n) n [] else d
    | none => Dev.openBale d n []
  match (Dev.queue d n).openBale with
  | none => d
  | some b =>
    let bl := Dev.bale d b
    let bs := Dev.recBytes d x
    let part := min (recLen len) (8192 - bl.used)
    let d := Dev.setBale d b { bl with
      recs := bl.recs ++ [x], used := bl.used + part, body := bl.body ++ bs.take part,
      firstEnq := if bl.recs.isEmpty then x.enq else bl.firstEnq, lastEnq := x.enq }
    Dev.spillXoff (Dev.count (Dev.spillRest d n 4 (bs.drop part)) (K.eqSpillPkts n) 1)

/-! Dropping bales (R220, R222, R227). -/

/-- Queue n's read of bale b ends (R215). -/
def Dev.endRead (d : Dev) (n b : Nat) : Dev :=
  match SMap.find d.gran.bales b with
  | some x => Dev.setBale d b { x with reading := x.reading.filter (fun m => m != n) }
  | none => d

/-- Take the reference (b, seq) out of queue n's list; a read under way for it is discarded (R220). -/
def Dev.cutBale (d : Dev) (n b seq : Nat) : Dev :=
  let d := Dev.endRead d n b
  let q := Dev.queue d n
  let items := q.items.filter (fun x => match x with | .bale b' s => !(b' == b && s == seq) | .pkt _ => true)
  Dev.addDescs (Dev.setQueue d n { q with items := items,
                                          openBale := if q.openBale = some b then none else q.openBale }) 0 1

/-- The records of a bale as descriptors of queue n: a shared bale holds the packet, the queue its own copy's (R217). -/
def Bale.recsOf (x : Bale) (n : Nat) : List Desc :=
  match SMap.find x.copies n with
  | some y => x.recs.map (fun (r : Desc) => { y with pkt := r.pkt })
  | none => x.recs

/-- The records of a bale of queue n drop, each with its counts and its postcard (R220, R222, R227, R306). -/
def Dev.dropRecs (d : Dev) (code n : Nat) (x : Bale) : Dev :=
  (Bale.recsOf x n).foldl (fun d r =>
    let p := Dev.pkt d r.pkt
    Dev.dropOut d code n { r with spilled := true } p false p.sheaf p.fields) d

/-- Drop a bale's records without a read, as many as its reference counts (R220, R227); the postcards that R306 asks for are
those of its records (log 43). The records of a bale not yet written give back their packets. -/
def Dev.dropBaleUnread (d : Dev) (code n b seq : Nat) : Dev :=
  let x := Dev.bale d b
  let d := Dev.dropRecs d code n x
  let d := if x.written || decide (1 < x.refs) then d else x.recs.foldl (fun d r => Dev.unref d r.pkt) d
  Dev.unrefBale (Dev.cutBale d n b seq) b

/-- Drop a bale whose read failed: each record is a packet dropped with its postcard (R222). -/
def Dev.dropBaleRead (d : Dev) (code n b seq : Nat) : Dev :=
  let d := Dev.dropRecs d code n (Dev.bale d b)
  Dev.unrefBale (Dev.cutBale d n b seq) b

end Sys2Proof.Machine
end

