-- ==== Sys2Proof/Machine/Admit.lean ====
section
/-! DEFINITION. Admission, push-out, replication, cut-through and the drops of queued packets (R164 to R188, R213). -/
namespace Sys2Proof.Machine

/-! Leaving a queue. -/

/-- Cells of a descriptor that count in eq.headroom (R173). -/
def Desc.hrCells (x : Desc) : Nat := if x.hr then x.c else 0

/-- Take the head packet out of queue n: its on-die depth falls (R171). -/
def Dev.popHead (d : Dev) (n : Nat) : Dev :=
  let q := Dev.queue d n
  match q.items with
  | .pkt x :: t =>
    Dev.subDepth (Dev.setQueue d n { q with items := t }) n x.c (Desc.hrCells x)
  | _ => d

/-- A packet that was selected from queue n, or dropped there, is done with: its charge and reference are released and the
return window may move (R166, R171, R215). -/
def Dev.releaseFrom (d : Dev) (n : Nat) (x : Desc) : Dev := Dev.gone (Dev.releaseDesc d x) n x

/-- Drop a packet that has left its queue: counters, postcard, charge and reference (R166, R190). -/
def Dev.dropDesc (d : Dev) (code n : Nat) (x : Desc) : Dev :=
  let p := Dev.pkt d x.pkt
  Dev.releaseFrom (Dev.dropOut d code n x p false p.sheaf p.fields) n x

/-- Drop the head packet of queue n. -/
def Dev.dropHead (d : Dev) (code n : Nat) : Dev :=
  match EQueue.head (Dev.queue d n) with
  | some x => Dev.dropDesc (Dev.popHead d n) code n x
  | none => d

/-- Drop released packets from the head of queue n; `k` bounds the drops (R150). -/
def Dev.dropReleased (d : Dev) (n : Nat) : Nat → Dev
  | 0 => d
  | k + 1 =>
    match EQueue.head (Dev.queue d n) with
    | some x => if x.released then Dev.dropReleased (Dev.dropHead d 0x15 n) n k else d
    | none => d

/-- Every released packet at the head of queue n drops (R150). -/
def Dev.dropReleasedAll (d : Dev) (n : Nat) : Dev := Dev.dropReleased d n ((Dev.queue d n).items.length + 1)

/-- A packet is older than its limit, in ms (R189). -/
def Dev.aged (d : Dev) (n enq : Nat) : Bool :=
  decide (1000000 * Dev.qAge d n < (Dev.age d + 2 ^ 32 - enq) % 2 ^ 32 * 1024)

/-- Drop aged packets, released packets and aged unread bales from the head of queue n on (R150, R189, R220). `k` bounds
the drops by the length of the list. -/
def Dev.cleanHead (d : Dev) (n : Nat) : Nat → Dev
  | 0 => d
  | k + 1 =>
    match (Dev.queue d n).items with
    | .pkt x :: _ =>
      if x.released then Dev.cleanHead (Dev.dropHead d 0x15 n) n k
      else if Dev.aged d n x.enq then Dev.cleanHead (Dev.dropHead d 0x26 n) n k
      else d
    | .bale b s :: _ =>
      if Dev.aged d n (Dev.baleRef d b s).enq then
        Dev.cleanHead (Dev.windowMoved (Dev.dropBaleUnread d 0x26 n b s) n) n k
      else d
    | [] => d

def Dev.clean (d : Dev) (n : Nat) : Dev := Dev.cleanHead d n ((Dev.queue d n).items.length + 1)

/-- Flush queue n: every descriptor drops as flushed and every bale reference is released (R188, R220). -/
def Dev.flushQueue (d : Dev) (n : Nat) : Dev :=
  let d := (Dev.queue d n).items.foldl (fun d x =>
    match x with
    | .pkt y => Dev.dropDesc d 0x27 n y
    | .bale b s => Dev.dropBaleUnread d 0x27 n b s) d
  let q := Dev.queue d n
  let d := Dev.setQueue d n { q with items := [], depth := 0, hr := 0, openBale := none }
  let d := if qFront n then Dev.setEl d (K.eqSpillState n) 0 else d
  Dev.leave d n

/-! Push-out (R179, R180). -/

/-- The eligible tail of a queue (R179, R219). -/
def Dev.tailOf (d : Dev) (q : EQueue) : Option Desc :=
  match q.items.getLast? with
  | some (.pkt x) => if x.spilled || x.started || !(Dev.pkt d x.pkt).whole then none else some x
  | _ => none

/-- Of some queues the one of greatest on-die depth, the lowest number on a tie. -/
def deepest : List (Nat × EQueue) → Option Nat
  | [] => none
  | x :: t =>
    match deepest t with
    | some m =>
      match t.find? (fun y => y.1 == m) with
      | some y => if x.2.depth < y.2.depth then some m else some x.1
      | none => some x.1
    | none => some x.1

/-- The victim's queue for an arrival of class `cls` in pool k (R179). -/
def Dev.victim (d : Dev) (k cls : Nat) : Option Nat :=
  (List.range cls).findSome? (fun c =>
    deepest (d.queues.filter (fun x => Dev.qPool d x.1 == k && Dev.qClass d x.1 == c && (Dev.tailOf d x.2).isSome)))

/-- Evict the tail of queue n (R180). -/
def Dev.evict (d : Dev) (n : Nat) : Dev :=
  let q := Dev.queue d n
  match Dev.tailOf d q with
  | none => d
  | some x =>
    let d := Dev.setQueue d n { q with items := q.items.dropLast }
    let d := Dev.subDepth d n x.c (Desc.hrCells x)
    Dev.recontend (Dev.perf (Dev.dropDesc d 0x22 n x) 0x26 6 1) n

/-- At most 16 victims, while the packet does not fit (R173); `old` says that the packet runs under the profile of before
the last flip (R33). -/
def Dev.pushOut (d : Dev) (old : Bool) (n c : Nat) : Nat → Dev
  | 0 => d
  | k + 1 =>
    if Dev.fits d old n c then d
    else
      match Dev.victim d (Dev.qPool d n) (Dev.qClass d n) with
      | some v => Dev.pushOut (Dev.evict d v) old n c k
      | none => d

/-! Spill (R213). -/

/-- spill_applies of R213 without its effects: whether queue n would take the packet to a bale. -/
def Dev.wouldSpill (d : Dev) (old : Bool) (n c : Nat) : Bool :=
  Dev.spillOnFor d old n && Dev.granUp d && Dev.qSpillState d n != 2
    && !(Dev.qSpillState d n == 0 && decide ((Dev.queue d n).depth + c ≤ Dev.spillThrFor d old n))

/-- spill_applies(q, pkt, c) (R213). -/
def Dev.spillApplies (d : Dev) (old : Bool) (n len c : Nat) : Dev × Bool :=
  if Dev.wouldSpill d old n c then
    if Dev.canHave d n (Dev.balesFor d n len) then (Dev.setEl d (K.eqSpillState n) 1, true)
    else if Dev.qSpillState d n = 1 then
      (Dev.enterDraining (Dev.addEl d 32 (K.eqSpillForced n) 1) n, false)
    else (d, false)
  else (d, false)

/-! Admission (R173). -/

/-- How an admission ended: on-die in a pool (0 to 7, 8 the headroom), in the granary, or dropped with a reason. -/
inductive Admitted where
  | onDie (pool : Nat)
  | spilled
  | drop (code : Nat)
  deriving DecidableEq, Repr

/-- The decision of R173 for c cells of a packet of `len` stored bytes bound for queue n. -/
def Dev.judge (d : Dev) (old : Bool) (n len c : Nat) (copy spill : Bool) : Dev × Admitted :=
  let port := qPort n
  if !Dev.portUp d port || (Dev.queue d n).flushing then (d, .drop 0x25)
  else if 2097152 ≤ d.buf.descs then (d, .drop 0x24)
  else
    let s := if spill then Dev.spillApplies d old n len c else (d, false)
    if s.2 then (s.1, .spilled)
    else
      let d := s.1
      let k := Dev.qPool d n
      if Dev.fits d old n c then (d, .onDie k)
      else if Dev.el d (K.poolMode k) = 1 then
        if Dev.el d K.hrUsed + c ≤ Dev.el d K.hrSize then (d, .onDie 8) else (d, .drop 0x23)
      else
        let d := if copy then d else Dev.pushOut d old n c 16
        if Dev.fits d old n c then (d, .onDie k)
        else (d, .drop (if Dev.el d (K.poolSize k) < Dev.el d (K.poolUsed k) + c then 0x21 else 0x20))

/-- Count an admission (R196). -/
def Dev.countEnq (d : Dev) (n len : Nat) : Dev :=
  let d := Dev.perf d 0x26 1 1
  if qFront n then Dev.count (Dev.count d (K.eqEnqPkts n) 1) (K.eqEnqBytes n) len else d

/-- The descriptor of a packet for queue n at its admission decision (R164, R298). -/
def Dev.newDesc (d : Dev) (i n c : Nat) (copy cut : Bool) : Desc :=
  { Desc.init with pkt := i, c := c, svc := Dev.qPool d n, enq := Dev.age d, copy := copy, cut := cut,
                   depth := Dev.qDepth d n, used := Dev.el d (K.poolUsed (Dev.qPool d n)) }

/-- Link a descriptor at the tail of queue n. `pool` is charged, 9 none; `hr` says that its decision was the headroom (R173). -/
def Dev.link (d : Dev) (n : Nat) (x : Desc) (pool : Nat) (hr : Bool) : Dev :=
  let p := Dev.pkt d x.pkt
  let x := { x with hr := hr }
  -- a packet that joins on-die behind an open bale, under a profile of before a flip, ends the middle: what comes after it stays
  -- behind it (R28, R33, R212)
  let d := if Dev.qSpillState d n = 1 then Dev.enterDraining d n else d
  let e := Dev.ecnDraw d x.svc x.used
  let d := Dev.charge e.1 pool x.svc p.inPort x.c
  let d := Dev.addDescs (Dev.addDepth d n x.c (Desc.hrCells x)) 1 0
  let q := Dev.queue d n
  let d := Dev.setQueue d n { q with items := q.items ++ [.pkt { x with pool := pool, ecn := e.2 }] }
  Dev.recontend (Dev.countEnq (Dev.act d (actCells n) p.cells.length) n (Pkt.stored p).length) n

/-- Admit one packet or copy to queue n; whether it was admitted (R173). `first` is false for the later copies of a
multicast packet, which charge no pool (R182). The ECN band takes pool.used as it is before the push-out of the same
admission (DESIGN CHOICE, log 170). -/
def Dev.admitTo (d : Dev) (i n : Nat) (copy first spill : Bool) : Dev × Bool :=
  let p := Dev.pkt d i
  let len := (Pkt.stored p).length
  let c := cellsOf len
  let x := Dev.newDesc d i n c copy false
  let d := Dev.histDepth d n x.depth (Pkt.field p 29 == 1)
  let r := Dev.judge d (Dev.oldProf d p) n len c copy spill
  match r.2 with
  | .onDie k =>
    if copy then
      let d := if first then
          let d := Dev.setPkt r.1 i { Dev.pkt r.1 i with mcPool := some (k, x.svc), mcCells := c }
          Dev.charge d k x.svc p.inPort c
        else r.1
      (Dev.link d n x 9 (decide (k = 8)), true)
    else (Dev.link r.1 n x k (decide (k = 8)), true)
  | .spilled =>
    let e := Dev.ecnDraw r.1 x.svc x.used
    (Dev.countEnq (Dev.appendRec e.1 n { x with ecn := e.2, spilled := true } len) n len, true)
  | .drop code =>
    let d := Dev.perf (Dev.dropOut r.1 code n x p false p.sheaf p.fields) 0x26 5 1
    ((if copy then Dev.count d K.mcCopyDrops 1 else d), false)

/-! Multicast (R181 to R183, R217). -/

/-- The list of a group. -/
def Dev.mcList (d : Dev) (g : Nat) : List (Nat × Nat) := SMap.get d.buf.mc g []

/-- Write packet i once into a shared bale that the queues `ns` refer to (R217). Each queue's copy keeps the depth of its
own decision (R298, R300); the record's one ECN mark is drawn for the first queue (log 113). -/
def Dev.shareBale (d : Dev) (i : Nat) (ns : List Nat) : Dev :=
  let p := Dev.pkt d i
  let len := (Pkt.stored p).length
  let c := cellsOf len
  let n0 := ns.headD 0
  let e := Dev.ecnDraw d (Dev.qPool d n0) (Dev.el d (K.poolUsed (Dev.qPool d n0)))
  let copies := ns.map (fun n => (n, { Dev.newDesc d i n c true false with spilled := true, ecn := e.2 }))
  let d := ns.foldl (fun d n => Dev.closeBale (Dev.setEl d (K.eqSpillState n) 1) n) e.1
  match Dev.nextBale d (Dev.queue d n0).lastStack with
  | none => d
  | some b =>
    let x := { Dev.newDesc d i n0 c true false with spilled := true, ecn := e.2 }
    let d := Dev.setBale d b { Bale.init with
      queue := n0, seq := (Dev.queue d n0).baleSeq, recs := [x], used := 64 + recLen len, body := Dev.recBytes d x,
      copies := copies.foldl (fun m y => SMap.ins m y.1 y.2) [], shared := true, refs := ns.length, closed := true,
      firstEnq := x.enq, lastEnq := x.enq }
    let d := Dev.setEl d K.granMcSharedFree (Dev.el d K.granMcSharedFree - 1)
    let d := Dev.addBacklog (Dev.baleCounts d b true) true
    let d := copies.foldl (fun d y => Dev.histDepth d y.1 y.2.depth (Pkt.field p 29 == 1)) d
    Dev.spillXoff (ns.foldl (fun d n =>
      let q := Dev.queue d n
      let d := Dev.setQueue d n { q with items := q.items ++ [.bale b q.baleSeq], lastStack := b % 16,
                                         baleSeq := (q.baleSeq + 1) % 2 ^ 32 }
      Dev.countEnq (Dev.count (Dev.addDescs d 1 0) (K.eqSpillPkts n) 1) n len) d)

/-- Replicate packet i to the list of its group (R182). -/
def Dev.replicate (d : Dev) (i : Nat) : Dev :=
  let p := Dev.pkt d i
  let lst := (Dev.mcList d (Pkt.field p 3)).map (fun e => e.1 * 16 + e.2)
  if lst.isEmpty then Dev.freePkt (Dev.dropIn d 0x2C p true) i
  else
    let len := (Pkt.stored p).length
    let c := cellsOf len
    let sh := lst.filter (fun n =>
      Dev.portUp d (qPort n) && !(Dev.queue d n).flushing && Dev.wouldSpill d (Dev.oldProf d p) n c && Dev.canHave d n 1)
    -- a record that one bale cannot hold is not shared (log 113)
    let share := decide (2 ≤ sh.length) && decide (0 < Dev.el d K.granMcSharedFree) && decide (recLen len ≤ 8128)
      && decide (d.buf.descs + sh.length ≤ 2097152)
    let r := lst.foldl (fun (a : Dev × Nat × Bool) n =>
      let d := Dev.perf a.1 0x26 3 1
      if share && sh.contains n then (d, a.2.1, a.2.2)
      else
        let before := (Dev.pkt d i).mcPool.isSome
        let x := Dev.admitTo d i n true (!before) true
        (x.1, if x.2 then a.2.1 + 1 else a.2.1, a.2.2 || x.2)) (d, 0, false)
    let d := if share then Dev.shareBale r.1 i sh else r.1
    let refs := r.2.1 + (if share then 1 else 0)
    if refs = 0 then Dev.freePkt d i else Dev.setPkt d i { Dev.pkt d i with refs := refs }

/-! Cut-through (R184). -/

/-- Whether packet i is linked to queue n under the cut-through rules. -/
def Dev.cutOk (d : Dev) (i n : Nat) : Bool :=
  let p := Dev.pkt d i
  let port := qPort n
  decide (p.inPort < 1024) && decide (port < 1024) && Pkt.field p 0 == 0 && Pkt.field p 8 == 1
    && bit (Dev.ctRowFor d (Dev.oldProf d p) (Dev.ctIn d p.inPort)) (Dev.ctOut d port)
    && decide (Dev.portSpeed d port ≤ Dev.portSpeed d p.inPort)
    && (Dev.queue d n).items.isEmpty && (Dev.queue d n).openBale.isNone
    && !Dev.spillOnFor d (Dev.oldProf d p) n && Dev.qTier d n != 4
    && Dev.portUp d port && !(Dev.queue d n).held && !(Dev.queue d n).flushing && p.mark == 0
    && decide (d.buf.descs < 2097152)
    && Dev.fits d (Dev.oldProf d p) n (cellsOf (Dev.maxFrame d port))

/-- Link packet i to queue n at its first cell: the charge is the estimate until the tail comes (R171, R184). -/
def Dev.cutLink (d : Dev) (i n : Nat) : Dev :=
  let p := Dev.pkt d i
  let c := if p.whole then cellsOf (Pkt.stored p).length else cellsOf (Dev.maxFrame d (qPort n))
  let x := Dev.newDesc d i n c false true
  let d := Dev.histDepth d n x.depth (Pkt.field p 29 == 1)
  let d := Dev.writeCells d i (cellsOf (Pkt.stored p).length)
  let d := Dev.setPkt d i { Dev.pkt d i with refs := 1, cut := true }
  let d := Dev.perf (Dev.count d (K.eqCutThrough n) 1) 0x26 4 1
  Dev.link d n x x.svc false

end Sys2Proof.Machine
end

