-- ==== Sys2Proof/Machine/Tables.lean ====
section
/-! DEFINITION. Barns, tables and classification: lookups (R101 to R119) and the records of table commands (R103 to
R126, R156, R538). Everything here is a function of the tables' contents and the epoch bit. -/
namespace Sys2Proof.Machine

/-- Whether an entry with visibility bits `vis` is seen by packets of epoch bit e (R121). -/
def sees (vis e : Nat) : Bool := bit vis e

/-- The visibility bits a table command asks for (R121). -/
def visFor (next : Bool) (e : Nat) : Nat := if next then 2 ^ (1 - e) else 3

/-! Exact match. -/

/-- The candidate row of a key in way v (R102). -/
def emRow (tab width key v : Nat) : Nat :=
  crcOf v 0 (BitVec.ofNat 8 tab :: beBytes (16 * width) key) % 2 ^ 18

/-- A place: way × 2^20 + row × 4 + unit. -/
def emPlace (way row unit : Nat) : Nat := way * 2 ^ 20 + row * 4 + unit

/-- The first units that an entry of a width may take in a row (R100). -/
def emUnits (width : Nat) : List Nat :=
  match width with
  | 1 => [0, 1, 2, 3]
  | 2 => [0, 2]
  | _ => [0]

/-- Whether the places of two entries overlap. -/
def overlaps (a aw b bw : Nat) : Bool := decide (a < b + bw) && decide (b < a + aw)

/-- The entries that stand on the w units from a place on. -/
def emAt (em : List EmEntry) (loc w : Nat) : List EmEntry := em.filter (fun x => overlaps loc w x.loc x.width)

/-- The aligned places of a key's candidate rows, way 0 first (R100, R102). -/
def emPlaces (tab width key : Nat) : List Nat :=
  (List.range 4).flatMap (fun v => (emUnits width).map (fun u => emPlace v (emRow tab width key v) u))

/-- The free places among a list. -/
def emFree (em : List EmEntry) (width : Nat) (ps : List Nat) : List Nat :=
  ps.filter (fun p => (emAt em p width).isEmpty)

/-- One displacement path: moves (from, to), the move to make first at the head. -/
abbrev EmPath := List (Nat × Nat)

/-- Make the moves of a path (R103). The hit bits of an entry go with it, here and when it leaves the stash: R105 names a
hit bit for each unit and says nothing of moves (DESIGN CHOICE, log 165). -/
def emMove (em : List EmEntry) (path : EmPath) : List EmEntry :=
  path.foldl (fun em m => em.map (fun x => if x.loc = m.1 then { x with loc := m.2 } else x)) em

/-- Whether every move of a path finds its new place free, the moves before it made, and the path frees one of the places
`ps` for an entry of width w (R103). -/
def emPathOk (em : List EmEntry) (w : Nat) (ps : List Nat) : EmPath → Bool
  | [] => !(emFree em w ps).isEmpty
  | m :: rest =>
    match em.find? (fun x => x.loc == m.1) with
    | some x => (emAt em m.2 x.width).isEmpty && emPathOk (emMove em [m]) w ps rest
    | none => false

/-- Breadth-first search for a path of at most 3 moves that `ok` accepts; each item is a place to be freed, its width, and
the moves to make after it is freed. `fuel` bounds the rows examined, four a round (R103). -/
def emSearch (em : List EmEntry) (ok : EmPath → Bool) : Nat → List (Nat × Nat × EmPath) → Option EmPath
  | 0, _ => none
  | _, [] => none
  | fuel + 1, (loc, w, path) :: rest =>
    match emAt em loc w with
    | [x] =>
      let ps := (emPlaces x.tab x.width x.key).filter (fun p => !overlaps p x.width loc w && p != x.loc)
      match (ps.map (fun q => (x.loc, q) :: path)).find? ok with
      | some done => some done
      | none =>
        let more := if path.length < 2 then ps.map (fun p => (p, x.width, (x.loc, p) :: path)) else []
        emSearch em ok fuel (rest ++ more)
    | _ => emSearch em ok fuel rest

/-- The stash places of a width (R100). -/
def stashPlaces (width : Nat) : List Nat :=
  match width with
  | 1 => (List.range 64).map (fun u => 2 ^ 22 + u)
  | 2 => (List.range 32).map (fun u => 2 ^ 22 + 2 * u)
  | _ => []

/-- The moves that a search finds to free one of the places `ps`. -/
def emTarget (em : List EmEntry) (width : Nat) (ps : List Nat) : Option EmPath :=
  emSearch em (emPathOk em width ps) 127 (ps.map (fun p => (p, width, [])))

/-- Put an entry on the first free place of a list, when there is one. -/
def emPut (em : List EmEntry) (e : EmEntry) (ps : List Nat) : Option (List EmEntry × Nat) :=
  match emFree em e.width ps with
  | p :: _ => some (em ++ [{ e with loc := p }], p)
  | [] => none

/-- Place an entry (R103): a free aligned place, a displacement path, the stash, or none. `none` moves nothing. -/
def emInsert (em : List EmEntry) (e : EmEntry) : Option (List EmEntry × Nat) :=
  let ps := emPlaces e.tab e.width e.key
  let moved : Option (List EmEntry × Nat) :=
    match emTarget em e.width ps with
    | some path => emPut (emMove em path) e ps
    | none => none
  ((emPut em e ps).or moved).or (emPut em e (stashPlaces e.width))

/-- After a delete the engine tries to move stash entries back, oldest first (R104). The list keeps entries in the
order they were placed. -/
def emUnstash (em : List EmEntry) : List EmEntry :=
  em.foldl (fun cur x =>
    if 2 ^ 22 ≤ x.loc then
      match emFree cur x.width (emPlaces x.tab x.width x.key) with
      | p :: _ => cur.map (fun y => if y.loc = x.loc then { y with loc := p } else y)
      | [] => cur
    else cur) em

/-- Whether an entry has the lookup's table, width and key (R101). -/
def EmEntry.is (x : EmEntry) (tab width key : Nat) : Bool :=
  x.tab == tab && x.width == width && x.key == key

/-- An exact-match lookup by a packet of epoch bit e (R101). -/
def emFind (em : List EmEntry) (tab width key e : Nat) : Option EmEntry :=
  em.find? (fun x => EmEntry.is x tab width key && sees x.vis e)

/-- Location as a completion names it (R538, Table 9a). -/
def emLocation (loc : Nat) : Nat :=
  if 2 ^ 22 ≤ loc then 2 ^ 31 + (loc - 2 ^ 22)
  else loc / 4 % 2 ^ 18 + loc / 2 ^ 20 * 2 ^ 18 + loc % 4 * 2 ^ 20

/-! Longest-prefix match. -/

/-- Width of a family's address. -/
def famBits (v6 : Bool) : Nat := if v6 then 128 else 32

/-- Whether a prefix covers an address (R107). -/
def LpmEntry.covers (x : LpmEntry) (addr : Nat) : Bool :=
  addr / 2 ^ (famBits x.v6 - x.len) == x.addr / 2 ^ (famBits x.v6 - x.len)

/-- The address with the bits beyond the prefix cleared (R107). -/
def lpmMask (v6 : Bool) (len addr : Nat) : Nat :=
  addr / 2 ^ (famBits v6 - len) * 2 ^ (famBits v6 - len)

/-- A longest-prefix-match lookup (R107). -/
def lpmFind (t : List LpmEntry) (v6 : Bool) (vrf addr e : Nat) : Option LpmEntry :=
  t.foldl (fun best x =>
    if (x.v6 == v6 && x.vrf == vrf && sees x.vis e && LpmEntry.covers x addr) then
      match best with
      | some b => if b.len < x.len then some x else best
      | none => some x
    else best) none

/-- Units of the short store an entry takes, and prefixes of the long store (R106). -/
def LpmEntry.short (x : LpmEntry) : Nat := if !x.v6 then 1 else if x.len ≤ 64 then 2 else 0
def LpmEntry.long (x : LpmEntry) : Nat := if x.v6 && decide (64 < x.len) then 1 else 0
def lpmShort (t : List LpmEntry) : Nat := t.foldl (fun n x => n + LpmEntry.short x) 0
def lpmLong (t : List LpmEntry) : Nat := t.foldl (fun n x => n + LpmEntry.long x) 0

/-! Winnow and TCAM. -/

/-- Whether a rule matches a 512-bit key (R116). -/
def WinEntry.hits (x : WinEntry) (key : Nat) : Bool :=
  (List.range 8).all (fun i =>
    let l := bits key (32 * i) 32
    decide (bits x.lanes (64 * i) 32 ≤ l) && decide (l ≤ bits x.lanes (64 * i + 32) 32))
  && (bits key 256 256 &&& x.mask) == (x.value &&& x.mask)

/-- A Winnow query: the lowest matching rule (R116). -/
def winFind (t : List WinEntry) (pipe key e : Nat) : Option WinEntry :=
  t.foldl (fun best x =>
    if x.pipe == pipe && sees x.vis e && WinEntry.hits x key then
      match best with
      | some b => if x.rule < b.rule then some x else best
      | none => some x
    else best) none

/-- A TCAM query: the lowest matching entry (R118). -/
def tcamFind (t : List TcamEntry) (key e : Nat) : Option TcamEntry :=
  t.foldl (fun best x =>
    if sees x.vis e && (key &&& x.mask) == (x.value &&& x.mask) then
      match best with
      | some b => if x.entry < b.entry then some x else best
      | none => some x
    else best) none

/-! Next hops and groups. -/

/-- Fields of a next-hop entry (R109). -/
def nhPort (e : Nat) : Nat := bits e 0 11
def nhValid (e : Nat) : Bool := bit e 11

/-- A 32-bit value rotated right (R111). -/
def rotr32 (h r : Nat) : Nat := h / 2 ^ (r % 32) + h % 2 ^ (r % 32) * 2 ^ (32 - r % 32) % 2 ^ 32

/-- Outcome of a group resolve: a next-hop entry, a miss, or a drop with its reason (R111). -/
inductive Resolve where
  | hit (entry : Nat)
  | miss
  | drop (code : Nat)
  deriving DecidableEq, Repr

/-- The next-hop index of a group's member (R110); `none` where no member holds the ordinal. -/
def memberOf (t : TableS) (g m : Nat) : Option Nat := SMap.find t.members (g * 4096 + m)

/-- Whether ordinal + 1 = m stands for a live member (R111). -/
def liveMember (t : TableS) (up : Nat → Bool) (g m : Nat) : Bool :=
  m != 0 && (match memberOf t g (m - 1) with
    | some i => nhValid (SMap.get t.nh i 0) && up (nhPort (SMap.get t.nh i 0))
    | none => false)

/-- The probes of a group with failover: j = 1 .. 7 (R111). -/
def probe (t : TableS) (up : Nat → Bool) (g base s slot stride : Nat) : Nat → Nat → Nat → Nat
  | 0, _, m => m
  | k + 1, j, m =>
    if liveMember t up g m then m
    else probe t up g base s slot stride k (j + 1) (SMap.get t.slots (base + (slot + j * stride) % s) 0)

/-- How many of these probes look at another slot (R111, R322). -/
def probes (t : TableS) (up : Nat → Bool) (g base s slot stride : Nat) : Nat → Nat → Nat → Nat
  | 0, _, _ => 0
  | k + 1, j, m =>
    if liveMember t up g m then 0
    else probes t up g base s slot stride k (j + 1) (SMap.get t.slots (base + (slot + j * stride) % s) 0) + 1

/-- The stride of a group's probes: the next bits of the hash, made odd (R111). -/
def strideOf (r s : Nat) : Nat := if r / 2 ^ 16 % s % 2 = 1 then r / 2 ^ 16 % s else r / 2 ^ 16 % s + 1

/-- The failover probes of a group resolve (R322). -/
def resolveProbes (t : TableS) (up : Nat → Bool) (g h : Nat) : Nat :=
  match SMap.find t.groups g with
  | some gr =>
    let r := rotr32 h gr.rotate
    let s := 2 ^ gr.log2
    if gr.failover then probes t up g gr.base s (r % s) (strideOf r s) 7 1 (SMap.get t.slots (gr.base + r % s) 0) else 0
  | none => 0

/-- A group resolve of hash value h (R111). `up` says whether an egress port is live. -/
def resolve (t : TableS) (up : Nat → Bool) (g h : Nat) : Resolve :=
  match SMap.find t.groups g with
  | none => .miss
  | some gr =>
    let r := rotr32 h gr.rotate
    let s := 2 ^ gr.log2
    let slot := r % s
    let m := SMap.get t.slots (gr.base + slot) 0
    let nh (m : Nat) : Resolve :=
      match memberOf t g (m - 1) with
      | some i => if nhValid (SMap.get t.nh i 0) then .hit (SMap.get t.nh i 0) else .miss
      | none => .miss
    if gr.failover then
      let m := probe t up g gr.base s slot (strideOf r s) 7 1 m
      if liveMember t up g m then nh m else .drop 0x13
    else if m = 0 ∨ (memberOf t g (m - 1)).isNone then .drop 0x12 else nh m

/-! Slots of managed groups (R114). -/

/-- Slots of a group that hold value v (ordinal + 1, or 0), ascending. -/
def slotsOf (t : TableS) (gr : Group) (v : Nat) : List Nat :=
  (List.range (2 ^ gr.log2)).filter (fun s => SMap.get t.slots (gr.base + s) 0 == v)

/-- Ordinals that members of group g hold, ascending. -/
def ordinals (t : TableS) (g : Nat) : List Nat :=
  (t.members.filter (fun m => m.1 / 4096 == g)).map (fun m => m.1 % 4096)

/-- Write one slot: ordinal + 1, or 0 for unassigned. -/
def setSlot (t : TableS) (gr : Group) (s v : Nat) : TableS := { t with slots := SMap.set t.slots (gr.base + s) v 0 }

/-- The ordinal with the most slots, the lowest on a tie; likewise with the fewest. -/
def mostSlots (t : TableS) (gr : Group) (os : List Nat) : Option (Nat × Nat) :=
  os.foldl (fun best o =>
    let n := (slotsOf t gr (o + 1)).length
    match best with
    | some b => if b.2 < n then some (o, n) else best
    | none => some (o, n)) none
def fewestSlots (t : TableS) (gr : Group) (os : List Nat) : Option (Nat × Nat) :=
  os.foldl (fun best o =>
    let n := (slotsOf t gr (o + 1)).length
    match best with
    | some b => if n < b.2 then some (o, n) else best
    | none => some (o, n)) none

/-- Take slots from donors until member o has its target (R114). -/
def takeSlots (gr : Group) (o target : Nat) (donors : List Nat) : Nat → TableS → TableS
  | 0, t => t
  | k + 1, t =>
    if target ≤ (slotsOf t gr (o + 1)).length then t
    else
      match slotsOf t gr 0 with
      | s :: _ => takeSlots gr o target donors k (setSlot t gr s (o + 1))
      | [] =>
        match mostSlots t gr donors with
        | some (d, _) =>
          match (slotsOf t gr (d + 1)).getLast? with
          | some s => takeSlots gr o target donors k (setSlot t gr s (o + 1))
          | none => t
        | none => t

/-- The lowest number below 4096 that a list lacks. -/
def lowestFree (l : List Nat) : Option Nat := (List.range 4096).find? (fun o => !l.contains o)

/-- MEMBER_ADD to a group (R114): the new ordinal, the lowest free one in an explicit group too (log 125). -/
def memberAdd (t : TableS) (g : Nat) (gr : Group) (nh : Nat) : Option (TableS × Nat) :=
  let os := ordinals t g
  if 1048576 ≤ t.members.length then none
  else match lowestFree os with
  | none => none
  | some o =>
    let t' := { t with members := SMap.ins t.members (g * 4096 + o) nh }
    if gr.managed then
      some (takeSlots gr o (2 ^ gr.log2 / (os.length + 1)) os (2 ^ gr.log2) t', o)
    else some (t', o)

/-- MEMBER_REMOVE of ordinal o (R114). -/
def memberRemove (t : TableS) (g : Nat) (gr : Group) (o : Nat) : TableS :=
  let t' := { t with members := SMap.del t.members (g * 4096 + o) }
  if gr.managed then
    (slotsOf t' gr (o + 1)).foldl (fun t s =>
      match fewestSlots t gr (ordinals t g) with
      | some (d, _) => setSlot t gr s (d + 1)
      | none => setSlot t gr s 0) t'
  else t'

/-- Whether the block of s slots from b on is free. -/
def blockFree (t : TableS) (b s : Nat) : Bool :=
  t.groups.all (fun g => !overlaps b s g.2.base (2 ^ g.2.log2))

/-- The lowest free aligned block of s slots from b on (R110). -/
def findBlock (t : TableS) (s : Nat) : Nat → Nat → Option Nat
  | 0, _ => none
  | k + 1, b => if blockFree t b s then some b else findBlock t s k (b + s)

/-- The largest free aligned slot block (R128). -/
def largestFree (t : TableS) : Nat → Nat
  | 0 => if (findBlock t 1 2097152 0).isSome then 1 else 0
  | k + 1 => if (findBlock t (2 ^ (k + 1)) (2 ^ (20 - k)) 0).isSome then 2 ^ (k + 1) else largestFree t k

/-! Records of table commands. -/

/-- Codes of Table 9. -/
def TS.ok : Nat := 0
def TS.noRoom : Nat := 1
def TS.exists_ : Nat := 2
def TS.notFound : Nat := 3
def TS.invalid : Nat := 4
def TS.writeEcc : Nat := 5
def TS.timeout : Nat := 6
def TS.aborted : Nat := 7

/-- What one record did: its status, location, the tables after it, and for READ the record returned. -/
structure RecResult where
  status : Nat
  loc : Nat
  tbl : TableS
  back : Nat
  deriving DecidableEq, Repr

/-- A failing record that concerns no entry found (R538). -/
def recFail (t : TableS) (st : Nat) (rec : Nat) : RecResult :=
  { status := st, loc := 0xFFFFFFFF, tbl := t, back := rec }

/-- A failing record that names the entry it found (R538). -/
def recFailAt (t : TableS) (st loc rec : Nat) : RecResult := { status := st, loc := loc, tbl := t, back := rec }

/-- A record that completed. -/
def recOk (t : TableS) (loc rec : Nat) : RecResult := { status := TS.ok, loc := loc, tbl := t, back := rec }

/-- One exact-match record (Table 8 code 0; R103, R121, R156). `op` 1 INSERT, 2 MODIFY, 3 DELETE, 4 READ. A DELETE with
BOTH may take out two copies of one key at two places, and R538 names one place: the location is that of the copy that
was placed first (DESIGN CHOICE, log 165). -/
def recEm (t : TableS) (e op : Nat) (next clearHit : Bool) (rec : Nat) : RecResult :=
  let key := bits rec 0 512
  let res := bits rec 512 64
  let tab := bits rec 576 6
  let width := bits rec 582 2 + 1
  if 2 ^ (128 * width) ≤ key ∨ 2 ^ 585 ≤ rec then recFail t TS.invalid rec
  else
    let mine := t.em.filter (fun x => EmEntry.is x tab width key)
    let at_ (b : Nat) : Option EmEntry := mine.find? (fun x => sees x.vis b)
    let new (vis : Nat) : EmEntry :=
      { loc := 0, tab := tab, width := width, key := key, result := res, vis := vis, hit := 0 }
    match op with
    | 1 =>
      match mine.find? (fun x => x.vis &&& visFor next e != 0) with
      | some x => recFailAt t TS.exists_ (emLocation x.loc) rec
      | none =>
        match emInsert t.em (new (visFor next e)) with
        | some (em, loc) => recOk { t with em := em } (emLocation loc) rec
        | none => recFail t TS.noRoom rec
    | 2 =>
      match at_ (if next then 1 - e else e) with
      | none => recFail t TS.notFound rec
      | some x =>
        if next && sees x.vis e then
          let em := t.em.map (fun y => if y.loc = x.loc then { y with vis := 2 ^ e } else y)
          match emInsert em (new (2 ^ (1 - e))) with
          | some (em, loc) => recOk { t with em := em } (emLocation loc) rec
          | none => recFail t TS.noRoom rec
        else
          recOk { t with em := t.em.map (fun y => if y.loc = x.loc then { y with result := res } else y) }
            (emLocation x.loc) rec
    | 3 =>
      if next then
        match at_ (1 - e) with
        | none => recFail t TS.notFound rec
        | some x =>
          let em := (t.em.map (fun y => if y.loc = x.loc then { y with vis := y.vis &&& 2 ^ e } else y)).filter
            (fun y => y.vis != 0)
          recOk { t with em := emUnstash em } (emLocation x.loc) rec
      else
        match mine with
        | [] => recFail t TS.notFound rec
        | x :: _ =>
          recOk { t with em := emUnstash (t.em.filter (fun y => !EmEntry.is y tab width key)) } (emLocation x.loc) rec
    | _ =>
      match firstSomeE (at_ (if next then 1 - e else e)) mine.head? with
      | none => recFail t TS.notFound rec
      | some x =>
        let back := key + x.result * 2 ^ 512 + tab * 2 ^ 576 + (width - 1) * 2 ^ 582 + b2n (x.hit != 0) * 2 ^ 584
        let em := if clearHit then t.em.map (fun y => if y.loc = x.loc then { y with hit := 0 } else y) else t.em
        recOk { t with em := em } (emLocation x.loc) back
where
  firstSomeE (a b : Option EmEntry) : Option EmEntry :=
    match a with
    | some x => some x
    | none => b

/-- One longest-prefix-match record (Table 8 codes 1 and 2; R106, R107). A result of type 1 with bits set in [18:14], which
Table 4 calls zero, is stored as it is given: the spec does not call such a record malformed (DESIGN CHOICE, log 166). -/
def recLpm (t : TableS) (v6 : Bool) (e op : Nat) (next : Bool) (rec : Nat) : RecResult :=
  let len := bits rec 128 8
  let vrf := bits rec 136 16
  let res := bits rec 152 32
  let raw := bits rec 0 128
  if famBits v6 < len ∨ 2 ^ 184 ≤ rec ∨ 2 ^ famBits v6 ≤ raw then recFail t TS.invalid rec
  else
    let addr := lpmMask v6 len raw
    let is (x : LpmEntry) : Bool := x.v6 == v6 && x.vrf == vrf && x.len == len && x.addr == addr
    let mine := t.lpm.filter is
    let at_ (b : Nat) : Option LpmEntry := mine.find? (fun x => sees x.vis b)
    let new (vis : Nat) : LpmEntry := { v6 := v6, vrf := vrf, len := len, addr := addr, result := res, vis := vis }
    let room : Bool := decide (lpmShort t.lpm + LpmEntry.short (new 3) ≤ 2097152)
      && decide (lpmLong t.lpm + LpmEntry.long (new 3) ≤ 262144)
    match op with
    | 1 =>
      if mine.any (fun x => x.vis &&& visFor next e != 0) then recFailAt t TS.exists_ 0 rec
      else if room then recOk { t with lpm := t.lpm ++ [new (visFor next e)] } 0 rec
      else recFail t TS.noRoom rec
    | 2 =>
      match at_ (if next then 1 - e else e) with
      | none => recFail t TS.notFound rec
      | some x =>
        if next && sees x.vis e then
          if room then
            recOk { t with lpm := t.lpm.map (fun y => if y = x then { y with vis := 2 ^ e } else y) ++ [new (2 ^ (1 - e))] }
              0 rec
          else recFail t TS.noRoom rec
        else recOk { t with lpm := t.lpm.map (fun y => if y = x then { y with result := res } else y) } 0 rec
    | 3 =>
      if next then
        match at_ (1 - e) with
        | none => recFail t TS.notFound rec
        | some x =>
          let l := t.lpm.map (fun y => if y = x then { y with vis := y.vis &&& 2 ^ e } else y)
          recOk { t with lpm := l.filter (fun y => y.vis != 0) } 0 rec
      else if mine.isEmpty then recFail t TS.notFound rec
      else recOk { t with lpm := t.lpm.filter (fun y => !is y) } 0 rec
    | _ =>
      match (match at_ (if next then 1 - e else e) with | some x => some x | none => mine.head?) with
      | none => recFail t TS.notFound rec
      | some x => recOk t 0 (addr + len * 2 ^ 128 + vrf * 2 ^ 136 + x.result * 2 ^ 152)

/-- One next-hop record (code 3; R109, R115). An egress port above 1040 is malformed under every opcode, and an entry is
stored as given, its valid bit too (log 126). -/
def recNh (t : TableS) (op : Nat) (rec : Nat) : RecResult :=
  let ent := bits rec 0 128
  let i := bits rec 128 19
  let old := SMap.get t.nh i 0
  if 2 ^ 147 ≤ rec ∨ bits ent 100 28 ≠ 0 ∨ 1040 < nhPort ent then recFail t TS.invalid rec
  else
    match op with
    | 1 => if nhValid old then recFailAt t TS.exists_ i rec else recOk { t with nh := SMap.set t.nh i ent 0 } i rec
    | 2 => if nhValid old then recOk { t with nh := SMap.set t.nh i ent 0 } i rec else recFail t TS.notFound rec
    | 3 => if nhValid old then recOk { t with nh := SMap.set t.nh i 0 0 } i rec else recFail t TS.notFound rec
    | _ => if nhValid old then recOk t i (old + i * 2 ^ 128) else recFail t TS.notFound rec

/-- One group record (code 4; R110). `op` 4 READ, 5 GROUP_CREATE, 6 GROUP_DELETE. -/
def recGroup (t : TableS) (op : Nat) (rec : Nat) : RecResult :=
  let g := bits rec 0 14
  if 2 ^ 26 ≤ rec ∨ 1 < bits rec 14 2 ∨ 12 < bits rec 16 4 then recFail t TS.invalid rec
  else
    let new (b : Nat) : Group :=
      { managed := bits rec 14 2 == 1, log2 := bits rec 16 4, failover := bit rec 20, rotate := bits rec 21 5, base := b }
    match op, SMap.find t.groups g with
    | 5, some gr => recFailAt t TS.exists_ gr.base rec
    | 5, none =>
      let s := 2 ^ bits rec 16 4
      match findBlock t s (2097152 / s) 0 with
      | some b => recOk { t with groups := SMap.ins t.groups g (new b) } b rec
      | none => recFail t TS.noRoom rec
    | 6, some gr =>
      let slots := (List.range (2 ^ gr.log2)).foldl (fun m s => SMap.del m (gr.base + s)) t.slots
      recOk { t with groups := SMap.del t.groups g, slots := slots,
                     members := t.members.filter (fun m => m.1 / 4096 != g) } g rec
    | 6, none => recFail t TS.notFound rec
    | _, some gr =>
      recOk t gr.base (g + b2n gr.managed * 2 ^ 14 + gr.log2 * 2 ^ 16 + b2n gr.failover * 2 ^ 20 + gr.rotate * 2 ^ 21)
    | _, none => recFail t TS.notFound rec

/-- One member record (code 5; R114). `op` 4 READ, 7 MEMBER_ADD, 8 MEMBER_REMOVE. -/
def recMember (t : TableS) (op : Nat) (rec : Nat) : RecResult :=
  let g := bits rec 0 14
  let o := bits rec 14 12
  let nh := bits rec 26 19
  if 2 ^ 45 ≤ rec then recFail t TS.invalid rec
  else
    match SMap.find t.groups g with
    | none => recFail t TS.notFound rec
    | some gr =>
      match op with
      | 7 =>
        match memberAdd t g gr nh with
        | some (t', o) => recOk t' o rec
        | none => recFail t TS.noRoom rec
      | 8 => if (memberOf t g o).isSome then recOk (memberRemove t g gr o) o rec else recFail t TS.notFound rec
      | _ =>
        match memberOf t g o with
        | some i => recOk t o (g + o * 2 ^ 14 + i * 2 ^ 26)
        | none => recFail t TS.notFound rec

/-- One slot record (code 6; R114). `op` 4 READ, 9 SLOT_WRITE. -/
def recSlot (t : TableS) (op : Nat) (rec : Nat) : RecResult :=
  let g := bits rec 0 14
  let s := bits rec 14 12
  let o := bits rec 26 12
  if 2 ^ 39 ≤ rec then recFail t TS.invalid rec
  else
    match SMap.find t.groups g with
    | none => recFail t TS.notFound rec
    | some gr =>
      if 2 ^ gr.log2 ≤ s then recFail t TS.invalid rec
      else
        match op with
        | 9 =>
          if gr.managed then recFail t TS.invalid rec
          else recOk (setSlot t gr s (if bit rec 38 then 0 else o + 1)) s rec
        | _ =>
          let v := SMap.get t.slots (gr.base + s) 0
          recOk t s (g + s * 2 ^ 14 + (if v = 0 then 2 ^ 38 else (v - 1) * 2 ^ 26))

/-- One Winnow record (code 7; R116, R117): every pipeline of the mask. A READ of several pipelines answers from the lowest, a
MODIFY or DELETE needs the rule in each of them, and an empty mask names none (log 124). -/
def recWin (t : TableS) (e op : Nat) (next : Bool) (rec : Nat) : RecResult :=
  let rule := bits rec 1056 13
  let pm := bits rec 1069 16
  let lanes := bits rec 0 512
  let pipes := (List.range 16).filter (fun n => bit pm n)
  let badLane := (List.range 8).any (fun i => decide (bits lanes (64 * i + 32) 32 < bits lanes (64 * i) 32))
  if 2 ^ 1085 ≤ rec ∨ (badLane ∧ op ≤ 2) then recFail t TS.invalid rec
  else
    let is (n : Nat) (x : WinEntry) : Bool := x.pipe == n && x.rule == rule
    let new (n vis : Nat) : WinEntry :=
      { pipe := n, rule := rule, lanes := lanes, value := bits rec 512 256, mask := bits rec 768 256,
        result := bits rec 1024 32, vis := vis }
    let has (n vis : Nat) : Bool := t.win.any (fun x => is n x && x.vis &&& vis != 0)
    match op with
    | 1 =>
      if pipes.any (fun n => has n (visFor next e)) then recFailAt t TS.exists_ rule rec
      else recOk { t with win := t.win ++ pipes.map (fun n => new n (visFor next e)) } rule rec
    | 2 =>
      let v := 2 ^ (if next then 1 - e else e)
      if pipes.all (fun n => has n v) then
        let win := pipes.foldl (fun w n =>
          if next then
            (w.map (fun x => if is n x then { x with vis := x.vis &&& 2 ^ e } else x)).filter (fun x => x.vis != 0)
              ++ [new n v]
          else w.map (fun x => if is n x && sees x.vis e then { new n x.vis with pipe := n } else x)) t.win
        recOk { t with win := win } rule rec
      else recFail t TS.notFound rec
    | 3 =>
      let v := visFor next e
      if pipes.all (fun n => has n v) then
        let win := (t.win.map (fun x =>
          if pipes.any (fun n => is n x) then { x with vis := x.vis &&& (3 - v) } else x)).filter (fun x => x.vis != 0)
        recOk { t with win := win } rule rec
      else recFail t TS.notFound rec
    | _ =>
      let v := 2 ^ (if next then 1 - e else e)
      match pipes.head? with
      | none => recFail t TS.notFound rec
      | some n =>
        match (match t.win.find? (fun x => is n x && x.vis &&& v != 0) with
               | some x => some x | none => t.win.find? (is n)) with
        | some x => recOk t rule (x.lanes + x.value * 2 ^ 512 + x.mask * 2 ^ 768 + x.result * 2 ^ 1024 + rule * 2 ^ 1056
            + pm * 2 ^ 1069)
        | none => recFail t TS.notFound rec

/-- One TCAM record (code 8; R118). -/
def recTcam (t : TableS) (e op : Nat) (next : Bool) (rec : Nat) : RecResult :=
  let n := bits rec 1344 15
  if 2 ^ 1359 ≤ rec then recFail t TS.invalid rec
  else
    let new (vis : Nat) : TcamEntry :=
      { entry := n, value := bits rec 0 640, mask := bits rec 640 640, result := bits rec 1280 64, vis := vis }
    let is (x : TcamEntry) : Bool := x.entry == n
    let has (vis : Nat) : Bool := t.tcam.any (fun x => is x && x.vis &&& vis != 0)
    let v := 2 ^ (if next then 1 - e else e)
    match op with
    | 1 =>
      if has (visFor next e) then recFailAt t TS.exists_ n rec
      else recOk { t with tcam := t.tcam ++ [new (visFor next e)] } n rec
    | 2 =>
      if has v then
        let tc := if next then
            (t.tcam.map (fun x => if is x then { x with vis := x.vis &&& 2 ^ e } else x)).filter (fun x => x.vis != 0)
              ++ [new v]
          else t.tcam.map (fun x => if is x && sees x.vis e then new x.vis else x)
        recOk { t with tcam := tc } n rec
      else recFail t TS.notFound rec
    | 3 =>
      if has (visFor next e) then
        let l := t.tcam.map (fun x => if is x then { x with vis := x.vis &&& (3 - visFor next e) } else x)
        recOk { t with tcam := l.filter (fun x => x.vis != 0) } n rec
      else recFail t TS.notFound rec
    | _ =>
      match (match t.tcam.find? (fun x => is x && x.vis &&& v != 0) with
             | some x => some x | none => t.tcam.find? is) with
      | some x => recOk t n (x.value + x.mask * 2 ^ 640 + x.result * 2 ^ 1280 + n * 2 ^ 1344)
      | none => recFail t TS.notFound rec

/-- Whether a table accepts an opcode with a visibility and clear_hit (R124). -/
def accepts (op table : Nat) (next clearHit : Bool) : Bool :=
  (match table with
   | 0 | 1 | 2 | 7 | 8 => decide (1 ≤ op ∧ op ≤ 4)
   | 3 => decide (1 ≤ op ∧ op ≤ 4) && !next
   | 4 => decide (4 ≤ op ∧ op ≤ 6) && !next
   | 5 => (op == 4 || op == 7 || op == 8) && !next
   | 6 => (op == 4 || op == 9) && !next
   | _ => false)
  && (!clearHit || (op == 4 && table == 0))

/-- One record of a block (R123 to R126). -/
def runRecord (t : TableS) (e op table : Nat) (next clearHit : Bool) (rec : Nat) : RecResult :=
  match table with
  | 0 => recEm t e op next clearHit rec
  | 1 => recLpm t false e op next rec
  | 2 => recLpm t true e op next rec
  | 3 => recNh t op rec
  | 4 => recGroup t op rec
  | 5 => recMember t op rec
  | 6 => recSlot t op rec
  | 7 => recWin t e op next rec
  | 8 => recTcam t e op next rec
  | _ => recFail t TS.invalid rec

/-- Visibility settled for epoch bit e (R122): entries seen only by 1 - e go, entries seen only by e are seen by both.
The undo of a staged set under R155 step 3 does the same with the bit in force. -/
def settleVis (e vis : Nat) : Nat := if sees vis e then 3 else 0

/-- Settlement over every table (R122, R155). -/
def settle (t : TableS) (e : Nat) : TableS :=
  { t with
    em := emUnstash ((t.em.map (fun x => { x with vis := settleVis e x.vis })).filter (fun x => x.vis != 0)),
    lpm := (t.lpm.map (fun x => { x with vis := settleVis e x.vis })).filter (fun x => x.vis != 0),
    win := (t.win.map (fun x => { x with vis := settleVis e x.vis })).filter (fun x => x.vis != 0),
    tcam := (t.tcam.map (fun x => { x with vis := settleVis e x.vis })).filter (fun x => x.vis != 0) }

end Sys2Proof.Machine
end

