-- ==== Sys2Proof/Machine/Lookup.lean ====
section
/-! DEFINITION. The table instructions of a stage (R101, R105, R107, R111, R116 to R120, R136, R137) and the run of an
instruction word. `way` says how the words that a lookup reads fare (R127, R504, R505). -/
namespace Sys2Proof.Machine

/-- What an instruction makes of the part and of the packet in the stages. -/
abbrev Ran := Dev × StageCtx

/-- The bank of the packet in the stages of pipeline n. -/
def Dev.ctxBank (d : Dev) (n : Nat) (c : StageCtx) : Image := Pipe.bank (Dev.pipe d n) c.epoch

/-- Result bits with the 2-bit status above them (R136). -/
def withStatus (bits_ v status : Nat) : Nat := v % 2 ^ bits_ + status * 2 ^ bits_

/-- Write a result of `w` bits and its status at dst, at the end of the stage (R134, R136). -/
def StageCtx.answer (c : StageCtx) (dst w v status : Nat) : StageCtx := StageCtx.result c dst (w + 2) (withStatus w v status)

/-- The words waiting for a repair, with one more; a word waits once (R127). -/
def TableS.note (bad : List (Nat × Nat × Nat)) (w : Nat × Nat × Nat) : List (Nat × Nat × Nat) :=
  if bad.contains w then bad else bad ++ [w]

/-- An uncorrectable word met by a lookup in barn k, at a place of a table of Table 8: status 2; the result is a free value;
the word waits for its repair from a peer (R127). -/
def Dev.barnBad (d : Dev) (k table place : Nat) (c : StageCtx) (dst w : Nat) : Ran :=
  let v := Dev.freeVal d (2 ^ w)
  let d := Dev.useFree d
  let d := Dev.perf (Dev.count d (K.barnUncorrectable k) 1) (0x20 + k) 9 1
  let d := { d with tbl := { d.tbl with bad := TableS.note d.tbl.bad (k, table, place) } }
  (Dev.containedF d 4 (0x0810 + k) 0x02 place, StageCtx.answer c dst w v 2)

/-- A lookup of barn k that meets a corrected word returns the corrected data and counts it (R127, R130, R500). -/
def Dev.barnWay (d : Dev) (k : Nat) (way : LookWay) : Dev :=
  if way = .corrected then Dev.corrected (Dev.perf (Dev.count d (K.barnCorrected k) 1) (0x20 + k) 8 1) (0x0810 + k) 0x01 1
  else d

/-- Whether a word that a lookup reads is uncorrectable. -/
def LookWay.isBad : LookWay → Bool
  | .bad _ => true
  | _ => false

/-- Which word is uncorrectable: in a Winnow the rule, in the TCAM the entry. -/
def LookWay.unit : LookWay → Nat
  | .bad k => k.val
  | _ => 0

/-- A corrected word of a Winnow or of the TCAM (R500). -/
def Dev.shadowWay (d : Dev) (obj : Nat) (way : LookWay) : Dev := if way = .corrected then Dev.corrected d obj 0 1 else d

/-- Count a barn lookup of pipeline n: its kind's event, and the slots it uses (R92, R322). -/
def Dev.barnLookup (d : Dev) (n kind slots : Nat) : Dev :=
  Dev.perf (Dev.perf (Dev.perf d n 9 1) n 10 slots) (0x20 + pipeBarn n) kind 1

/-- A match, or a miss with a zero result (R136). -/
def hitOr (c : StageCtx) (dst w : Nat) (r : Option Nat) : StageCtx :=
  match r with
  | some v => StageCtx.answer c dst w v 1
  | none => StageCtx.answer c dst w 0 0

/-- LKEM (R101, R105). `w` is the width in units. -/
def Dev.lkem (d : Dev) (n : Nat) (dst prof tab w : Nat) (way : LookWay) (c : StageCtx) : Ran :=
  let k := pipeBarn n
  let d := Dev.barnWay (Dev.barnLookup d n 1 (if w ≤ 2 then 1 else 2)) k way
  let key := (keyOf (Dev.ctxBank d n c) c.sheaf prof).1
  match way with
  | .bad i => Dev.barnBad d k 0 (if i.val < 4 then emPlace i.val (emRow tab w key i.val) 0 else 2 ^ 22) c dst 64
  | _ =>
    match emFind d.tbl.em tab w key c.epoch with
    | some e =>
      let em := d.tbl.em.map (fun x => if x.loc = e.loc then { x with hit := x.hit ||| 2 ^ k } else x)
      (Dev.perf { d with tbl := { d.tbl with em := em } } (0x20 + k) 2 1, StageCtx.answer c dst 64 e.result 1)
    | none => (d, StageCtx.answer c dst 64 0 0)

/-- LKLPM4 and LKLPM6: VRF in the upper 16 bits of the key, the address below (R107, R136). -/
def Dev.lklpm (d : Dev) (n : Nat) (v6 : Bool) (dst prof : Nat) (way : LookWay) (c : StageCtx) : Ran :=
  let k := pipeBarn n
  let d := Dev.barnWay (Dev.barnLookup d n 3 1) k way
  match way with
  | .bad i => Dev.barnBad d k (if v6 then 2 else 1) i.val c dst 32
  | _ =>
    let key := (keyOf (Dev.ctxBank d n c) c.sheaf prof).1
    let r := (lpmFind d.tbl.lpm v6 (key / 2 ^ famBits v6 % 65536) (key % 2 ^ famBits v6) c.epoch).map (·.result)
    (if r.isSome then Dev.perf d (0x20 + k) 4 1 else d, hitOr c dst 32 r)

/-- LKNH: the entry at a 19-bit index; an entry that is not valid is a miss (R109, R111). -/
def Dev.lknh (d : Dev) (n : Nat) (dst a : Nat) (way : LookWay) (c : StageCtx) : Ran :=
  let d := Dev.barnWay (Dev.barnLookup d n 5 1) (pipeBarn n) way
  let i := Sheaf.fld c.sheaf a 19
  match way with
  | .bad _ => Dev.barnBad d (pipeBarn n) 3 i c dst 128
  | _ =>
    let e := SMap.get d.tbl.nh i 0
    (d, hitOr c dst 128 (if nhValid e then some e else none))

/-- The table and the place of the k-th word that a resolve of group g with hash value h reads: the group, its first slot, the
member there, and that member's next hop (R111). -/
def groupPlace (t : TableS) (g h k : Nat) : Nat × Nat :=
  match SMap.find t.groups g with
  | none => (4, g)
  | some gr =>
    let slot := gr.base + rotr32 h gr.rotate % 2 ^ gr.log2
    let m := g * 4096 + (SMap.get t.slots slot 0 - 1)
    match k with
    | 0 => (4, g)
    | 1 => (6, slot)
    | 2 => (5, m)
    | _ => (3, SMap.get t.members m 0)

/-- LKGRP: a group resolve (R111). A packet dropped already keeps its first reason, and only a packet that this resolve drops
counts in tbl.lb_drops (R128, log 127). -/
def Dev.lkgrp (d : Dev) (n : Nat) (dst a hash : Nat) (way : LookWay) (c : StageCtx) : Ran :=
  let d := Dev.barnWay (Dev.barnLookup d n 6 1) (pipeBarn n) way
  let h := hashOf (Dev.ctxBank d n c) (Dev.toeplitzKeys d) c.sheaf hash
  let g := Sheaf.fld c.sheaf a 14
  match way with
  | .bad k =>
    let x := groupPlace d.tbl g h k.val
    Dev.barnBad d (pipeBarn n) x.1 x.2 c dst 128
  | _ =>
    let d := Dev.perf d (0x20 + pipeBarn n) 7 (resolveProbes d.tbl (Dev.portUp d) g h)
    match resolve d.tbl (Dev.portUp d) g h with
    | .hit e => (d, StageCtx.answer c dst 128 e 1)
    | .miss => (d, StageCtx.answer c dst 128 0 0)
    | .drop code => (if c.drop.isNone then Dev.count d K.tblLbDrops 1 else d, { StageCtx.answer c dst 128 0 0 with drop := c.drop.or (some code) })

/-- HASH: 32 bits, no status (R97, R136). -/
def Dev.hash (d : Dev) (n : Nat) (dst prof : Nat) (c : StageCtx) : Ran :=
  (d, StageCtx.result c dst 32
    (hashOf (Dev.ctxBank d n c) (Dev.toeplitzKeys d) c.sheaf prof))

/-- WIN (R116, R117). A query that meets an uncorrectable word counts as neither a hit nor a miss (log 128), and the word is
repaired from its shadow (R505). -/
def Dev.win (d : Dev) (n : Nat) (dst prof : Nat) (way : LookWay) (c : StageCtx) : Ran :=
  let d := Dev.shadowWay (Dev.perf d n 11 1) (0x0820 + n) way
  if LookWay.isBad way then
    (Dev.useFree (Dev.containedF (Dev.count d K.errShadowRepairs 1) 4 0x0D00 0x09 (n * 2 ^ 16 + LookWay.unit way)), StageCtx.answer c dst 32 (Dev.freeVal d (2 ^ 32)) 2)
  else
    let key := (keyOf (Dev.ctxBank d n c) c.sheaf prof).1
    match winFind d.tbl.win n key c.epoch with
    | some x => (Dev.count d (K.winnowHits n) 1, StageCtx.answer c dst 32 x.result 1)
    | none => (Dev.count d (K.winnowMisses n) 1, StageCtx.answer c dst 32 0 0)

/-- The kind of a TCAM query: 1 punt, 2 privileged port, 3 control-plane protection, 0 none of them (R119). -/
def tcamKind (c : StageCtx) (flag : Bool) : Nat :=
  if StageCtx.field c 0 == 0 && StageCtx.field c 1 == 1040 then 1
  else if Sheaf.privileged c.sheaf then 2
  else if flag then 3
  else 0

/-- Count a query, and with `drop` its drop, against its pipeline and its kind: R119 and R120 name no element (log 132). -/
def Dev.tcamCount (d : Dev) (n kind : Nat) (drop : Bool) : Dev :=
  let bump (m : SMap Nat) : SMap Nat := SMap.set m (n * 4 + kind) (SMap.get m (n * 4 + kind) 0 + 1) 0
  if drop then { d with tel := { d.tel with tcamDrops := bump d.tel.tcamDrops } }
  else { d with tel := { d.tel with tcamKinds := bump d.tel.tcamKinds } }

/-- TCAM: refused, dropped by its pipeline's admission bucket, or performed (R118 to R120). A packet that is dropped already
keeps its first reason and is not counted as dropped here; its query meets the bucket all the same (log 127). -/
def Dev.tcam (d : Dev) (n : Nat) (dst prof : Nat) (flag : Bool) (way : LookWay) (c : StageCtx) : Ran :=
  let k := tcamKind c flag
  let d := Dev.tcamCount (Dev.perf d n 12 1) n k false
  if k = 0 then (Dev.perf (Dev.count d K.tcamRefused 1) 0x25 4 1, StageCtx.answer c dst 64 0 3)
  else
    let p := Dev.pipe d n
    let b := Dev.tcamBucket d n
    match Bucket.take b 1 with
    | none =>
      let d := Dev.setPipe d n { p with tcam := b }
      (if c.drop = none then Dev.perf (Dev.count (Dev.tcamCount d n k true) K.tcamAdmissionDrops 1) 0x25 3 1 else d,
       { c with drop := c.drop.or (some 0x11) })
    | some b =>
      let d := Dev.shadowWay (Dev.perf (Dev.count (Dev.setPipe d n { p with tcam := b }) K.tcamQueries 1) 0x25 1 1) 0x0802 way
      if LookWay.isBad way then
        (Dev.useFree (Dev.containedF (Dev.count d K.errShadowRepairs 1) 4 0x0D00 0x09 (LookWay.unit way)), StageCtx.answer c dst 64 (Dev.freeVal d (2 ^ 64)) 2)
      else
        let key := (keyOf (Dev.ctxBank d n c) c.sheaf prof).1
        match tcamFind d.tbl.tcam key c.epoch with
        | some x => (Dev.perf d 0x25 2 1, StageCtx.answer c dst 64 x.result 1)
        | none => (d, StageCtx.answer c dst 64 0 0)

/-- Whether a word of bank e's section `typ` is uncorrectable in both copies with no substitute (R504). -/
def Pipe.wordBad (p : Pipe) (e typ i : Nat) : Bool := p.badWords.contains (e % 2, typ, i)

/-- Whether the same word of the pipeline's other bank can stand for a word of bank b: the idle bank is a copy of the active one,
and the word is good there (R504). -/
def Dev.otherBank (d : Dev) (n b sect i : Nat) : Bool :=
  Dev.el d (K.bankIdleState n) == 0 && !(Dev.pipe d n).badWords.contains (1 - b, sect, i)

/-- A word of bank b is rewritten, in both copies (R504). -/
def Dev.bankRepair (d : Dev) (n b sect i : Nat) : Dev :=
  let p := Dev.pipe d n
  Dev.corrected (Dev.count (Dev.setPipe d n { p with badWords := p.badWords.filter (fun w => w != (b, sect, i)) }) K.errBankRepairs 1)
    0x0D00 0x07 1

/-- A word of bank b's section is found bad in one copy, or in `both`, or is known to be: it is rewritten from its other copy or
from the pipeline's other bank; else it stays bad until its bank is loaded or recopied (R504). -/
def Dev.bankWord (d : Dev) (n b sect i : Nat) (both : Bool) : Dev :=
  let p := Dev.pipe d n
  let known := p.badWords.contains (b, sect, i)
  if Dev.otherBank d n b sect i = true ∨ (both = false ∧ known = false) then Dev.bankRepair d n b sect i
  else if known then d
  else
    let d := Dev.setPipe d n { p with badWords := p.badWords ++ [(b, sect, i)] }
    Dev.contained d 5 0xC0 0x0D00 0x08 (n * 2 ^ 24 + sect * 2 ^ 16 + i)

/-- Words of bank b that a pass reads: one bad in both copies is read from the other bank, where that can be, and rewritten (R504). -/
def Dev.mendWords (d : Dev) (n b : Nat) (xs : List (Nat × Nat)) : Dev :=
  if (Dev.pipe d n).badWords.isEmpty then d
  else xs.foldl (fun d x =>
    if (Dev.pipe d n).badWords.contains (b, x) && Dev.otherBank d n b x.1 x.2 then Dev.bankRepair d n b x.1 x.2 else d) d

/-- LKIX: the source MAC table, or with `encap` the encapsulation table; an index beyond the table reads no word and misses
(R137). A word that stays bad in both copies answers status 2 with a free value (R504). -/
def Dev.lkix (d : Dev) (n : Nat) (dst w a : Nat) (encap : Bool) (way : LookWay) (c : StageCtx) : Ran :=
  let i := Sheaf.fld c.sheaf a w
  let img := Dev.ctxBank d n c
  let len := if encap then 256 else 48
  let sect := if encap then 0x41 else 0x40
  let inside := i < (if encap then 65536 else 256)
  let d := if inside ∧ way ≠ .ok then Dev.bankWord d n (c.epoch % 2) sect i (LookWay.isBad way) else d
  let d := if inside then Dev.mendWords d n (c.epoch % 2) [(sect, i)] else d
  if inside ∧ Pipe.wordBad (Dev.pipe d n) c.epoch sect i then (Dev.useFree d, StageCtx.answer c dst len (Dev.freeVal d (2 ^ len)) 2)
  else if encap then
    (d, hitOr c dst 256 (if i < 65536 then some (SMap.get img.encap i 0) else none))
  else (d, hitOr c dst 48 (if i < 256 then some (SMap.get img.smac i 0) else none))

/-! The run of an instruction word. -/

/-- Run `f` where the instruction at the present slot runs, count a skipped one (R134, R135). -/
def StageCtx.step (d : Dev) (c : StageCtx) (f : StageCtx → Ran) : Ran :=
  if StageCtx.runs c then
    let r := f c
    (r.1, StageCtx.advance r.2)
  else (d, StageCtx.exec c (fun c => c))

/-- Operand B of a word (R135). -/
def Iw.operand (w : Nat) : Operand :=
  if Iw.imm w then .imm (Fin.ofNat 134217728 (Iw.b w)) else .field (Fin.ofNat 4096 (bits w 37 12))

/-- The operation of an opcode of Table 3 with a destination. -/
def aluOf (op : Nat) : Option AluOp :=
  match op with
  | 0x02 => some .mov | 0x03 => some .add | 0x04 => some .sub | 0x05 => some .subs | 0x06 => some .and
  | 0x07 => some .or | 0x08 => some .xor | 0x09 => some .shl | 0x0A => some .shr | 0x0B => some .min
  | 0x0C => some .max | _ => none

def skipOf (op : Nat) : Option SkipOp :=
  match op with
  | 0x10 => some .eq | 0x11 => some .ne | 0x12 => some .lt | 0x13 => some .ge | _ => none

/-- MSET and MGET (R135, R138, R139). -/
def StageCtx.mset (c : StageCtx) (k w : Nat) (b : Operand) : StageCtx := StageCtx.setField c k (operandB c.sheaf b w)
def StageCtx.mget (c : StageCtx) (dst w k : Nat) : StageCtx :=
  { c with sheaf := Sheaf.write c.sheaf dst w (StageCtx.field c k) }

/-- One instruction word of pipeline n (R135, R136). The egress stages hold no barn, Winnow or TCAM instruction (R133). -/
def Dev.runWord (d : Dev) (n w : Nat) (way : LookWay) (c : StageCtx) : Ran :=
  let op := Iw.op w
  let dst := Iw.dst w
  let a := Iw.a w
  if op = 0x01 then (d, StageCtx.execEnd c)
  else
    StageCtx.step d c (fun c =>
      match aluOf op, skipOf op with
      | some o, _ => (d, StageCtx.alu c o dst (Iw.width w) a (Iw.operand w))
      | _, some o => (d, StageCtx.skipIf c o (Iw.count w) (Iw.width w) a (Iw.operand w))
      | none, none =>
        match op with
        | 0x18 => (d, StageCtx.mset c (Iw.count w) (Iw.width w) (Iw.operand w))
        | 0x19 => (d, StageCtx.mget c dst (Iw.width w) (a % 64))
        | 0x20 => Dev.lkem d n dst (a % 256) (bits w 37 6) (bits w 43 2 + 1) way c
        | 0x21 => Dev.lklpm d n false dst (a % 256) way c
        | 0x22 => Dev.lklpm d n true dst (a % 256) way c
        | 0x23 => Dev.lknh d n dst a way c
        | 0x24 => Dev.lkgrp d n dst a (bits w 37 4) way c
        | 0x25 => Dev.hash d n dst (bits w 37 4) c
        | 0x26 => Dev.win d n dst (a % 256) way c
        | 0x27 => Dev.tcam d n dst (a % 256) (bit w 37) way c
        | 0x28 => Dev.lkix d n dst (Iw.width w) a (bit w 37) way c
        | _ => (d, c))

/-- The word at the present slot. -/
def Dev.wordAt (d : Dev) (n : Nat) (c : StageCtx) : Nat :=
  let img := Dev.ctxBank d n c
  SMap.get (if c.egress then img.egress else img.ingress) ((c.stage * 16 + c.cls) * 64 + c.slot) 0

/-- A pass that reads an uncorrectable bank word ends: dest_kind 2 and drop_reason 0xC0 (R504). -/
def StageCtx.spoil (c : StageCtx) (last : Nat) : StageCtx :=
  { StageCtx.setField (StageCtx.setField c 0 2) 4 0xC0 with stage := last, slot := 0, skip := 0, results := [] }

/-- The words of bank sections that the pass of a packet reads at the present slot: the class map at its start, the
instruction, and the key and hash profiles that an instruction that runs names. A word is named by its section's type and its
number in the section; stages count on (R504, log 101). -/
def Dev.ctxReads (d : Dev) (n : Nat) (c : StageCtx) : List (Nat × Nat) :=
  let img := Dev.ctxBank d n c
  let w := SMap.get (if c.egress then img.egress else img.ingress) ((c.stage * 16 + c.cls) * 64 + c.slot) 0
  let prof (p : Nat) : List (Nat × Nat) := (List.range 16).map (fun i => (0x02, p % 256 * 16 + i))
  let hash (p : Nat) : List (Nat × Nat) := (0x03, p) :: prof (bits (SMap.get img.hashes p 0) 0 8)
  let e := Sheaf.exception c.sheaf
  (if c.stage = 0 ∧ c.slot = 0 then
    (0x04, if 1 ≤ e ∧ e ≤ 5 then 255 + e else Sheaf.finalState c.sheaf) :: (if c.egress then [] else [(0x04, 264 + c.cls)])
   else [])
    ++ [(if c.egress then 0x20 else 0x10, (c.stage * 16 + c.cls) * 64 + c.slot)]
    ++ (if c.skip ≠ 0 then []
        else
          match Iw.op w with
          | 0x20 | 0x21 | 0x22 | 0x26 | 0x27 => prof (Iw.a w)
          | 0x24 | 0x25 => hash (bits w 37 4)
          | _ => [])

/-- Whether the pass meets an uncorrectable word at the present slot: one that its parse met, or one that it reads now. -/
def Dev.wordAtBad (d : Dev) (n : Nat) (c : StageCtx) : Bool :=
  let p := Dev.pipe d n
  (!c.egress && (Dev.pkt d c.pkt).bankBad)
    || (!p.badWords.isEmpty && (Dev.ctxReads d n c).any (fun x => Pipe.wordBad p c.epoch x.1 x.2))

/-- The deparser of the packet in `c` reads an uncorrectable entry of its class's list: the packet is dropped (R504). -/
def Dev.depRead (d : Dev) (n last : Nat) (c : StageCtx) : Ran :=
  let img := Dev.ctxBank d n c
  let dep := if c.egress then img.dep2 else img.dep1
  let used := ((List.range 32).takeWhile (fun i => i == 0 || [1, 2].contains (bits (SMap.get dep (c.cls * 32 + i - 1) 0) 0 2))).map
    (fun i => (if c.egress then 0x31 else 0x30, c.cls * 32 + i))
  let d := Dev.mendWords d n (c.epoch % 2) used
  if used.any (fun x => Pipe.wordBad (Dev.pipe d n) c.epoch x.1 x.2) then
    (Dev.count d K.errBankDrops 1, StageCtx.spoil c last)
  else (d, c)

/-- A stage finds a parity error in the packet's sheaf or registers: its pass ends as a drop (R503). -/
def Dev.parityError (d : Dev) (n last : Nat) (c : StageCtx) : Ran :=
  (Dev.contained d 5 0xC0 (0x0710 + n) 0 c.stage, StageCtx.spoil c last)

/-- How the lookup at a stage and a slot of a pass fares. -/
def lookAt (ws : List LookAt) (stage slot : Nat) : LookWay :=
  match ws.find? (fun x => x.stage.val == stage && x.slot.val == slot) with
  | some x => x.way
  | none => .ok

/-- Run the stages of a pass up to stage `last`, each of at most 64 slots; `ws` says which lookups meet bad words (R134). -/
def Dev.runStages (n last : Nat) (ws : List LookAt) : Nat → Dev → StageCtx → Ran
  | 0, d, c => (d, c)
  | k + 1, d, c =>
    let d := if (Dev.pipe d n).badWords.isEmpty then d else Dev.mendWords d n (c.epoch % 2) (Dev.ctxReads d n c)
    if last ≤ c.stage then (d, c)
    else if Dev.wordAtBad d n c then (Dev.count d K.errBankDrops 1, StageCtx.spoil c last)
    else
      let r := Dev.runWord d n (Dev.wordAt d n c) (lookAt ws c.stage c.slot) c
      Dev.runStages n last ws k r.1 r.2

end Sys2Proof.Machine
end

