-- ==== Sys2Proof/Machine/Bundle.lean ====
section
/-! DEFINITION. Bildex bundles: their form, the checks of a bundle and of the images it makes (R78, R94, R95, R99, R132
to R143). -/
namespace Sys2Proof.Machine

/-! Faults: the directory index of the section (0xFFFF the header) and a byte offset in the bundle (R146). -/

/-- The first check of a list that is broken: where, and whether it is broken. -/
def firstBad {α : Type} : List (α × Bool) → Option α
  | [] => none
  | (a, b) :: t => if b then some a else firstBad t

/-- A section of a bundle (R142, Table 8): its place in the directory, type, index, offset and size. -/
structure Sect where
  i : Nat
  typ : Nat
  idx : Nat
  off : Nat
  size : Nat
  deriving DecidableEq, Repr

/-- Little-endian field of a byte string. -/
def leAt (bs : List Byte) (o n : Nat) : Nat := leNat (slice bs o n)

/-- The n-byte words of a byte string, in index order. -/
def words (n : Nat) (bs : List Byte) : List Nat := (List.range (bs.length / n)).map (fun i => leAt bs (i * n) n)

/-- An array as a sparse map from key `base` on. -/
def toMap (base : Nat) (xs : List Nat) : SMap Nat :=
  (xs.zipIdx.filter (fun x => x.1 != 0)).map (fun x => (base + x.2, x.1))

/-- Replace the keys lo .. hi - 1 of a map. -/
def overlay (m : SMap Nat) (lo hi : Nat) (new : SMap Nat) : SMap Nat :=
  m.filter (fun x => decide (x.1 < lo)) ++ new ++ m.filter (fun x => decide (hi ≤ x.1))

/-! The header and the directory (Tables 7 to 9). -/

/-- The directory of a bundle. -/
def directory (bs : List Byte) : List Sect :=
  (List.range (leAt bs 12 2)).map (fun i =>
    let o := 64 + 16 * i
    { i := i, typ := leAt bs o 1, idx := leAt bs (o + 1) 1, off := leAt bs (o + 4) 4, size := leAt bs (o + 8) 4 })

def Sect.bytes (s : Sect) (bs : List Byte) : List Byte := slice bs s.off s.size

/-- The header's checks by offset. -/
def headerBad (bs : List Byte) : Option Nat :=
  let n := leAt bs 12 2
  firstBad [
    (0, decide (bs.length < 64) || leAt bs 0 4 != 0x58444C42), (4, leAt bs 4 2 != 1), (6, leAt bs 6 2 != 0x0204),
    (8, leAt bs 8 4 != bs.length || decide (8388608 < bs.length)), (12, decide (n < 1 ∨ 64 < n)),
    (14, leAt bs 14 2 == 0),
    (24, leAt bs 24 4 != crcOf 0 0 (splice bs 24 (zeros 4))), (28, decide (2 ≤ leAt bs 28 36))]

def sectTypes : List Nat := [0x01, 0x02, 0x03, 0x04, 0x10, 0x20, 0x30, 0x31, 0x40, 0x41]

/-- Whether a section's size is wrong for its type. -/
def Sect.badSize (s : Sect) (bs : List Byte) : Bool :=
  match s.typ with
  | 0x01 =>
    let h := leAt bs s.off 16
    decide (s.size < 16) || s.size != 16 + 8 * bits h 34 9 + 16 * bits h 43 11 + 8 * bits h 54 12
  | 0x02 => s.size != 16384
  | 0x03 => s.size != 128
  | 0x04 => s.size != 280
  | 0x10 | 0x20 => s.size != 8192
  | 0x41 => s.size % 32 != 0 || decide (65536 * 32 < s.size)
  | _ => s.size != 2048

/-- The checks of one directory entry against the header and the entries before it. -/
def Sect.bad (s : Sect) (bs : List Byte) (before : List Sect) : Option Nat :=
  let o := 64 + 16 * s.i
  let first := 64 + 16 * leAt bs 12 2
  let top := if s.typ = 0x10 then 12 else if s.typ = 0x20 then 8 else 1
  firstBad [
    (o, !sectTypes.contains s.typ || before.any (fun t => t.typ == s.typ && t.idx == s.idx)),
    (o + 1, decide (top ≤ s.idx)), (o + 2, leAt bs (o + 2) 2 != 0),
    (o + 4, s.off % 8 != 0 || decide (s.off < first) || decide (bs.length < s.off + s.size)
      || before.any (fun t => decide (t.off < s.off + s.size) && decide (s.off < t.off + t.size))),
    (o + 8, Sect.badSize s bs), (o + 12, leAt bs (o + 12) 4 != 0)]

/-- The first fault of the directory. -/
def directoryBad (bs : List Byte) : List Sect → List Sect → Option (Nat × Nat)
  | _, [] => none
  | before, s :: t =>
    match Sect.bad s bs before with
    | some o => some (s.i, o)
    | none => directoryBad bs (before ++ [s]) t

/-! The image that a bundle makes of a pipeline's active image (R142, R143). -/

/-- Put one section into an image. -/
def Image.putSect (img : Image) (s : Sect) (bs : List Byte) : Image :=
  let b := Sect.bytes s bs
  match s.typ with
  | 0x01 =>
    let h := leAt b 0 16
    let ns := bits h 34 9
    let nt := bits h 43 11
    { img with hdr := h, states := toMap 0 (words 8 (slice b 16 (8 * ns))),
               trans := toMap 0 (words 16 (slice b (16 + 8 * ns) (16 * nt))),
               extr := toMap 0 (words 8 (b.drop (16 + 8 * ns + 16 * nt))) }
  | 0x02 => { img with keys := toMap 0 (words 4 b) }
  | 0x03 => { img with hashes := toMap 0 (words 8 b) }
  | 0x04 => { img with classMap := toMap 0 (words 1 b) }
  | 0x10 => { img with ingress := overlay img.ingress (s.idx * 1024) (s.idx * 1024 + 1024) (toMap (s.idx * 1024) (words 8 b)) }
  | 0x20 => { img with egress := overlay img.egress (s.idx * 1024) (s.idx * 1024 + 1024) (toMap (s.idx * 1024) (words 8 b)) }
  | 0x30 => { img with dep1 := toMap 0 (words 4 b) }
  | 0x31 => { img with dep2 := toMap 0 (words 4 b) }
  | 0x40 => { img with smac := toMap 0 (words 8 b) }
  | _ => { img with encap := toMap 0 (words 32 b) }

/-- The image of a bundle: a full one starts from nothing, a partial one from the active image. -/
def bundleImage (bs : List Byte) (active : Image) : Image :=
  let empty := { Image.empty with classMap := [], hdr := 0 }
  let start := if bit (leAt bs 28 1) 0 then active else empty
  { (directory bs).foldl (fun i s => Image.putSect i s bs) start with id := leAt bs 16 8 }

/-! Content. Each check answers the byte offset of the fault within its section. -/

/-- The parse program (R78, R86). An empty range whose base lies beyond the count extends past it (log 130). -/
def parseBad (img : Image) : Option Nat :=
  let ns := Image.stateCount img
  let nt := Image.transCount img
  let nx := Image.extractCount img
  let present (s : Nat) : Bool := decide (s < ns)
  let hdr : List (Nat × Bool) := [
    (0, !present (Image.startPort img)), (1, !present (Image.startRecirc img)), (2, !present (Image.startCpu img)),
    (3, decide (Image.depth img < 64 ∨ 512 < Image.depth img)), (4, decide (ns < 1 ∨ 256 < ns)), (5, decide (1024 < nt)),
    (6, decide (2048 < nx)), (8, bits img.hdr 66 62 != 0)]
  let states := (List.range ns).flatMap (fun i =>
    let w := SMap.get img.states i 0
    let o := 16 + 8 * i
    [(o + 1, decide (nt < bits w 14 10 + bits w 24 8)), (o + 3, decide (128 < bits w 24 8)), (o + 4, bits w 33 31 != 0)])
  let trans := (List.range nt).flatMap (fun i =>
    let w := SMap.get img.trans i 0
    let o := 16 + 8 * ns + 16 * i
    let fin := bit w 72
    let next := bits w 64 8
    let cls := bits w 73 7
    [(o + 8, (!fin && !present next) || (fin && decide (1 ≤ next ∧ next ≤ 0x7F))),
     (o + 9, (cls == 22) != bit w 80 || decide (26 ≤ cls ∧ cls ≤ 63)), (o + 13, decide (5 ≤ bits w 107 3)),
     (o + 13, decide (nx < bits w 110 11 + bits w 121 4)), (o + 15, decide (8 < bits w 121 4)), (o + 15, bits w 125 3 != 0)])
  let extr := (List.range nx).flatMap (fun i =>
    let w := SMap.get img.extr i 0
    let o := 16 + 8 * ns + 16 * nt + 8 * i
    let len := bits w 14 7 + 1
    [(o, bits w 0 2 == 3 || (bits w 0 2 == 2 && decide (768 < bits w 2 12 + len))),
     (o + 2, decide (bits w 21 12 < 768 ∨ 4096 < bits w 21 12 + len)), (o + 4, bits w 33 31 != 0)])
  firstBad (hdr ++ states ++ trans ++ extr)

/-- Bits of the enabled segments among the first m of key profile p (R94). -/
def profileBitsTo (img : Image) (p m : Nat) : Nat :=
  (List.range m).foldl (fun n i =>
    let w := SMap.get img.keys (p * 16 + i) 0
    if bit w 18 then n + bits w 12 6 + 1 else n) 0

/-- Bits of the enabled segments of key profile p (R94). -/
def profileBits (img : Image) (p : Nat) : Nat := profileBitsTo img p 16

/-- Key profiles (R94, R95); a profile of more than 640 bits is reported at the segment that first passes them (R146). -/
def keysBad (img : Image) : Option Nat :=
  firstBad ((List.range 4096).flatMap (fun i =>
    let w := SMap.get img.keys i 0
    [(4 * i, bit w 18 && decide (4096 < bits w 0 12 + bits w 12 6 + 1)), (4 * i + 2, bits w 19 13 != 0),
     (4 * i, bit w 18 && decide (640 < profileBitsTo img (i / 16) (i % 16 + 1)))]))

/-- Hash profiles (R97, R99). -/
def hashBad (img : Image) : Option Nat :=
  firstBad ((List.range 16).flatMap (fun i =>
    let w := SMap.get img.hashes i 0
    let f := bits w 8 5
    [(8 * i + 1, decide (19 < f) || bits w 13 19 != 0),
     (8 * i, decide (16 ≤ f) && decide (288 < profileBits img (bits w 0 8)))]))

/-- Barn slots of a word (R92, Table 1). -/
def barnSlots (w : Nat) : Nat :=
  match Iw.op w with
  | 0x20 => if bits w 43 2 < 2 then 1 else 2
  | 0x21 | 0x22 | 0x23 | 0x24 => 1
  | _ => 0

/-- The words of class c in a stage. -/
def stageWords (prog : SMap Nat) (stage c : Nat) : List Nat :=
  (List.range 64).map (fun k => SMap.get prog ((stage * 16 + c) * 64 + k) 0)

/-- The largest number of barn slots that class c names in one ingress stage (R132). -/
def classSlots (img : Image) (c : Nat) : Nat :=
  (List.range 12).foldl (fun m s => max m ((stageWords img.ingress s c).foldl (fun n w => n + barnSlots w) 0)) 0

/-- The class map (R132, R142, R143). -/
def classBad (img : Image) : Option Nat :=
  firstBad ((List.range 280).map (fun i =>
    let v := SMap.get img.classMap i 0
    (i, if i < 261 then decide (15 < v) else if i < 264 then v != 0
        else decide (v < 1 ∨ 2 < v) || decide (v < classSlots img (i - 264)))))

/-- Whether an instruction word in slot k is malformed by itself (R135 to R139, R94). -/
def wordBad (img : Image) (egress : Bool) (k w : Nat) : Bool :=
  let op := Iw.op w
  let width := Iw.width w
  let dst := Iw.dst w
  let b := Iw.b w
  let badB := !Iw.imm w && (decide (4096 < bits w 37 12 + width) || bits w 49 15 != 0)
  let badA := decide (4096 < Iw.a w + width)
  let badD (n : Nat) := decide (dst < 768 ∨ 4096 < dst + n)
  let prof (n : Nat) := bits (Iw.a w) 8 4 != 0 || decide (n < profileBits img (bits (Iw.a w) 0 8))
  let tab := Iw.imm w || bits w 19 6 != 0
  let field (f : Nat) := fieldWidth f == 0 || (egress && !fieldEgress f)
  if op ≤ 1 then false
  else if op = 2 then Iw.a w != 0 || badD width || badB
  else if op ≤ 0x0C then badD width || badA || badB
  else if 0x10 ≤ op ∧ op ≤ 0x13 then
    Iw.count w == 0 || bits w 13 6 != 0 || decide (63 < k + Iw.count w) || badA || badB
  else if op = 0x18 then bits w 13 6 != 0 || field (bits w 7 6) || badB
  else if op = 0x19 then bits (Iw.a w) 6 6 != 0 || field (bits (Iw.a w) 0 6) || badD width
  else if op = 0x20 then egress || tab || prof (128 * (bits w 43 2 + 1)) || bits w 45 19 != 0 || badD 66
  else if op = 0x21 then egress || tab || prof 48 || b != 0 || badD 34
  else if op = 0x22 then egress || tab || prof 144 || b != 0 || badD 34
  else if op = 0x23 then egress || tab || decide (4096 < Iw.a w + 19) || b != 0 || badD 130
  else if op = 0x24 then egress || tab || decide (4096 < Iw.a w + 14) || bits w 41 23 != 0 || badD 130
  else if op = 0x25 then tab || Iw.a w != 0 || bits w 41 23 != 0 || badD 32
  else if op = 0x26 then egress || tab || prof 512 || b != 0 || badD 34
  else if op = 0x27 then egress || tab || prof 640 || bits w 38 26 != 0 || badD 66
  else if op = 0x28 then Iw.imm w || badA || bits w 38 26 != 0 || badD (if bit w 37 then 258 else 50)
  else true

/-- Queries of a kind that class c's program names before stage s (R133). -/
def countOps (prog : SMap Nat) (c op s : Nat) : Nat :=
  (List.range s).foldl (fun n t => n + ((stageWords prog t c).filter (fun w => Iw.op w == op)).length) 0

/-- The first malformed instruction of class c in a stage: by itself, or the one that first exceeds a limit of Table 1
(R133, R146): of the queries of a packet, whose limit is 1, the second with stages and slots ascending. -/
def classStageBad (img : Image) (egress : Bool) (stage c : Nat) : Option Nat :=
  let prog := if egress then img.egress else img.ingress
  let ws := stageWords prog stage c
  firstBad (ws.zipIdx.map (fun x =>
    let upTo := ws.take (x.2 + 1)
    let many (op n : Nat) := decide (n < (upTo.filter (fun w => Iw.op w == op)).length)
    let tooMany :=
      match Iw.op x.1 with
      | 0x20 | 0x21 | 0x22 | 0x23 | 0x24 => decide (2 < (upTo.filter (fun w => barnSlots w != 0)).length)
      | 0x25 => many 0x25 4
      | 0x28 => many 0x28 1
      | 0x26 => decide (countOps prog c 0x26 stage + (upTo.filter (fun w => Iw.op w == 0x26)).length = 2)
      | 0x27 => decide (countOps prog c 0x27 stage + (upTo.filter (fun w => Iw.op w == 0x27)).length = 2)
      | _ => false
    ((c * 64 + x.2) * 8, wordBad img egress x.2 x.1 || tooMany)))

def stageBad (img : Image) (egress : Bool) (stage : Nat) : Option Nat :=
  (List.range 16).findSome? (classStageBad img egress stage)

/-- Bytes a deparser list emits before its remainder point (R140, R141). -/
def headLen (es : List Nat) : Nat :=
  match es with
  | [] => 0
  | e :: t =>
    match bits e 0 2 with
    | 1 => bits e 17 9 + 1 + headLen t
    | 2 => bits e 14 7 + 1 + headLen t
    | _ => 0

/-- A deparser's lists (R140, R141); a head of more than 1,024 bytes is reported at the entry that first passes them (R146). -/
def deparserBad (m : SMap Nat) : Option Nat :=
  firstBad ((List.range 512).flatMap (fun i =>
    let e := SMap.get m i 0
    let kind2 := bits e 0 2 == 2
    let head (m' : Nat) : Nat := headLen ((List.range m').map (fun j => SMap.get m (i / 32 * 32 + j) 0))
    [(4 * i, kind2 && (decide (4096 < bits e 2 12 + 8 * (bits e 14 7 + 1)) || bits e 21 10 != 0)),
     (4 * i + 3, !kind2 && bits e 26 5 != 0),
     (4 * i, decide (1024 < head (i % 32 + 1)))]))

/-- The source MAC table. -/
def smacBad (m : SMap Nat) : Option Nat :=
  firstBad ((List.range 256).map (fun i => (8 * i + 6, decide (2 ^ 48 ≤ SMap.get m i 0))))

/-- The content of one section of the image. -/
def contentBad (img : Image) (typ idx : Nat) : Option Nat :=
  match typ with
  | 0x01 => parseBad img
  | 0x02 => keysBad img
  | 0x03 => hashBad img
  | 0x04 => classBad img
  | 0x10 => stageBad img false idx
  | 0x20 => stageBad img true idx
  | 0x30 => deparserBad img.dep1
  | 0x31 => deparserBad img.dep2
  | 0x40 => smacBad img.smac
  | _ => none

/-- Every section an image has, with its index. -/
def sectList : List (Nat × Nat) :=
  [(0x01, 0), (0x02, 0), (0x03, 0), (0x04, 0)] ++ (List.range 12).map (fun i => (0x10, i))
    ++ (List.range 8).map (fun i => (0x20, i)) ++ [(0x30, 0), (0x31, 0)]

/-- The first fault of the contents: sections in directory order, then what a partial bundle keeps of the active image, which
no section of the bundle holds: it is reported as a missing section is (log 131). -/
def imageBad (img : Image) (bs : List Byte) : Option (Nat × Nat) :=
  let dir := directory bs
  match dir.findSome? (fun s => (contentBad img s.typ s.idx).map (fun o => (s.i, s.off + o))) with
  | some f => some f
  | none =>
    if sectList.any (fun t => !dir.any (fun s => s.typ == t.1 && s.idx == t.2) && (contentBad img t.1 t.2).isSome) then
      some (0xFFFF, 0)
    else none

/-- Whether a full bundle lacks a section it must have. -/
def missing (bs : List Byte) : Bool :=
  !bit (leAt bs 28 1) 0
    && sectList.any (fun t => !(directory bs).any (fun s => s.typ == t.1 && s.idx == t.2))

/-- The pipelines a bundle names. -/
def bundlePipes (bs : List Byte) : List Nat := (List.range 16).filter (fun n => bit (leAt bs 14 2) n)

/-- The check of a whole bundle: the first fault, or the image of each pipeline (R143, R144, R146). -/
def checkBundle (bs : List Byte) (active : Nat → Image) : Option (Nat × Nat) × List (Nat × Image) :=
  match headerBad bs with
  | some o => (some (0xFFFF, o), [])
  | none =>
    match directoryBad bs [] (directory bs) with
    | some f => (some f, [])
    | none =>
      let imgs := (bundlePipes bs).map (fun n => (n, bundleImage bs (active n)))
      match imgs.findSome? (fun x => imageBad x.2 bs) with
      | some f => (some f, [])
      | none => if missing bs then (some (0xFFFF, 0), []) else (none, imgs)

end Sys2Proof.Machine
end

