-- ==== Sys2Proof/Machine/IngressOps.lean ====
section
/-! DEFINITION. From a receive ball to the traffic manager: reception, the arbiter, the parse, the ingress pass, policers,
the tail of a cut-through frame (R24, R30, R31, R54, R69 to R71, R89, R134, R185, R239, R254). -/
namespace Sys2Proof.Machine

/-! Receive timestamps (R276, R278). -/

/-- ts.port.cfg and ts.port.asym of port p (R296). -/
def Dev.tsCfg (d : Dev) (p : Nat) : Nat := Dev.el d (K.tsPortCfg (p / 16) (p % 16))
def Dev.tsAsym (d : Dev) (p : Nat) : Int := Dev.elS d 32 (K.tsPortAsym (p / 16) (p % 16))
def Dev.ptpBase (d : Dev) (p : Nat) : Nat := if p < 1024 then bits (Dev.tsCfg d p) 0 3 else 0

/-- ts.lat.rx[mode] + rx_adj of port p, in 2^-16 ns; likewise for transmission. -/
def Dev.rxDelay (d : Dev) (p : Nat) : Int :=
  (Dev.el d (K.tsLatRx (Dev.el d (K.portSpeed p) - 1)) : Int) + sgn 16 (bits (Dev.tsCfg d p) 20 16) * 4096
def Dev.txDelay (d : Dev) (p : Nat) : Int :=
  (Dev.el d (K.tsLatTx (Dev.el d (K.portSpeed p) - 1)) : Int) + sgn 16 (bits (Dev.tsCfg d p) 4 16) * 4096

/-- A quarter-nanosecond phase in 2^-16 ns (R266). -/
def phaseUnits (ph : Nat) : Int := (ph : Int) * 16384

/-- The stamp on base b of an event at phase `ph` of the present tick, corrected by x (R266, R276). -/
def Dev.stampOn (d : Dev) (b ph : Nat) (x : Int) : Nat := TimeBase.stamp (TimeBase.add (Dev.base d b) (phaseUnits ph + x))

/-- The free-running instant of an event at phase `ph`, corrected by x, as scheduler time. -/
def Dev.instant (d : Dev) (ph : Nat) (x : Int) : Nat := (((Dev.now d : Nat) : Int) + phaseUnits ph + x).toNat % 2 ^ 80

/-! Links. -/

def Dev.linkS (d : Dev) (p : Nat) : LinkS := SMap.get d.lanes.links p LinkS.init
def Dev.setLink (d : Dev) (p : Nat) (l : LinkS) : Dev :=
  { d with lanes := { d.lanes with links := SMap.set d.lanes.links p l LinkS.init } }

/-- One direction of tile t's Rouri link: 0 tile to core, 1 core to tile. -/
def Dev.rouri (d : Dev) (t dir : Nat) : RouriS := SMap.get d.lanes.rouri (t * 2 + dir) RouriS.init
def Dev.setRouri (d : Dev) (t dir : Nat) (r : RouriS) : Dev :=
  { d with lanes := { d.lanes with rouri := SMap.set d.lanes.rouri (t * 2 + dir) r RouriS.init } }

/-- Whether two wires of one group of 32 are failing at once, before their repair (R62). -/
def RouriS.twoOfGroup (r : RouriS) : Bool :=
  r.repairing.any (fun a => r.repairing.any (fun b => a != b && a / 32 == b / 32))

/-! Frame status and MAC control (R54, R177). -/

/-- A frame that ends before its length field: bytes 12 and 13 hold a length, up to 1,500, of more data than it carries
(R54; where that field stands is IEEE 802.3's, log 117). -/
def endsShort (bytes : List Byte) : Bool :=
  decide (get16 bytes 12 ≤ 1500 ∧ bytes.length < get16 bytes 12 + 18)

/-- The status of a frame that has ended or was cut short (R54, R69). Where several conditions hold the spec gives no order
among them; the model tests runt, truncated, oversize and bad FCS in turn (DESIGN CHOICE, log 154). -/
def frameMark (maxLen : Nat) (bytes : List Byte) (e : RxEnd) (fecBad : Bool) : Nat :=
  let n := bytes.length
  if n < 64 then 0x09
  else if e = .truncated || endsShort bytes then 0x0B
  else if maxLen < n then 0x0A
  else if fecBad || leNat (bytes.drop (n - 4)) != fcs32 (bytes.take (n - 4)) then 0x08
  else 0

/-- Destination address kinds, for rx.mcast and rx.bcast (R321). -/
def isBcast (bs : List Byte) : Bool := decide (6 ≤ bs.length) && (bs.take 6).all (fun b => b == 0xFF)
def isMcast (bs : List Byte) : Bool := byteAt bs 0 % 2 == 1 && !isBcast bs

def isMacControl (bs : List Byte) : Bool := get16 bs 12 == 0x8808
def isPfc (bs : List Byte) : Bool := isMacControl bs && get16 bs 14 == 0x0101

/-- A received priority flow-control frame on a port that honours it: a timer for each enabled priority (R177). -/
def Dev.honourPfc (d : Dev) (p : Nat) (bs : List Byte) : Dev :=
  let en := get16 bs 16
  let d := (List.range 8).foldl (fun d k =>
    if bit en k then
      let t := get16 bs (18 + 2 * k)
      let o := Dev.port d p
      let until_ := (Dev.now d + ceilDiv (t * 512 * 65536) (max 1 (Dev.portSpeed d p))) % 2 ^ 80
      Dev.setPort d p { o with pause := SMap.put o.pause k (if t = 0 then none else some until_) }
    else d) d
  Dev.recontendPort d p

/-- Consume a MAC control frame: count it, honour flow control where pfc_rx is 1, forward nothing (R177). -/
def Dev.macControl (d : Dev) (p : Nat) (bs : List Byte) : Dev :=
  if isPfc bs then
    let d := Dev.countStat d p 8 1
    if Dev.pfcRx d p then Dev.honourPfc d p bs else d
  else Dev.countStat d p 9 1

/-- Count a whole received frame (R321). -/
def Dev.countRx (d : Dev) (p : Nat) (bs : List Byte) (mark : Nat) : Dev :=
  let d := Dev.countStat (Dev.countStat d p 0 1) p 1 bs.length
  let d := if isMcast bs then Dev.countStat d p 2 1 else if isBcast bs then Dev.countStat d p 3 1 else d
  match mark with
  | 0x08 => Dev.countStat d p 4 1
  | 0x09 => Dev.countStat d p 5 1
  | 0x0A => Dev.countStat d p 6 1
  | 0x0B => Dev.countStat d p 7 1
  | _ => d

/-! Policers (R254, R255). -/

def Dev.policer (d : Dev) (i : Nat) : Policer := SMap.get d.sched.policers i Policer.init
def Dev.setPolicer (d : Dev) (i : Nat) (p : Policer) : Dev :=
  { d with sched := { d.sched with policers := SMap.set d.sched.policers i p Policer.init } }

/-- Rate code and burst of pol.cfg (R260). -/
def polRate (cfg : Nat) : Nat := bits cfg 0 25
def polBurst (cfg : Nat) : Nat := bits cfg 25 24

/-- Test a packet of L bytes against policer i at scheduler time `now`; `false` drops it (R254). -/
def Dev.police (d : Dev) (now i len prof : Nat) : Dev × Bool :=
  let p := Dev.policer d i
  let k := polRate p.cfg
  let ok (p : Policer) : Policer :=
    { p with okPkts := (p.okPkts + 1) % 2 ^ 64, okBytes := (p.okBytes + len) % 2 ^ 64 }
  if k = 0 then (Dev.setPolicer d i (ok p), true)
  else if shEligible now p.e (shCost (polBurst p.cfg) k) then
    (Dev.setPolicer d i (ok { p with e := shCharge now p.e (shCost (Dev.leff d len prof) k) }), true)
  else
    let d := Dev.setPolicer d i
      { p with dropPkts := (p.dropPkts + 1) % 2 ^ 64, dropBytes := (p.dropBytes + len) % 2 ^ 64 }
    (Dev.count d K.polDropsTotal 1, false)

/-- The policer test of packet i, where its fields ask for one (R254): `false` when it was dropped. -/
def Dev.policeTest (d : Dev) (i : Nat) : Dev × Bool :=
  let p := Dev.pkt d i
  if Pkt.field p 5 = 1 then
    -- a packet whose length was not known at the parse is tested with the time of its tail (R255)
    let at_ := if Sheaf.fld p.sheaf 19 1 = 1 then p.tailAt else Dev.now d
    let r := Dev.police d at_ (Pkt.field p 6) (Pkt.len p) (Pkt.field p 7)
    if r.2 then r else (Dev.freePkt (Dev.dropIn r.1 0x38 p true) i, false)
  else (d, true)

/-! The ingress deparser and the decision (R138, R140, R141, R303). -/

/-- Stands in for the bytes of a frame that have not come: none of them is a fault of the deparser's (R141). -/
def Pkt.padded (p : Pkt) : Pkt := if p.whole then p else { p with frame := p.frame ++ List.replicate (16000 - p.frame.length) 0x45 }

/-- Deparse packet i over the data it has (R140). A packet counts at most one fault of this deparser (R141): at once where
the bytes still to come cannot undo it, else at its tail. -/
def Dev.deparseIn (d : Dev) (i : Nat) : Dev :=
  let p := Dev.pkt d i
  let run (p : Pkt) : Deparsed :=
    deparse (Pipe.bank (Dev.pipe d (portPipe p.inPort)) p.epoch).dep1 p.cls p.sheaf 0 (Sheaf.ipByte p.sheaf) (Pkt.data p)
  let bad := (run (Pkt.padded p)).fault
  let d := if bad && !p.dep.fault then Dev.count d K.progDeparseFaults 1 else d
  Dev.setPkt d i { p with dep := { run p with fault := bad || p.dep.fault } }

/-- Milliseconds of a packet's ts_tb0, modulo 2^40 (R302). -/
def Pkt.seenMs (p : Pkt) : Nat := stampNs64 p.tsTb0 / 1000000 % 2 ^ 40

/-- Tally packet i where its fields ask for it, as it leaves the ingress deparser; the bytes of a frame that is still
arriving join its entry at the tail (R303). -/
def Dev.tallyPkt (d : Dev) (i : Nat) : Dev :=
  let p := Dev.pkt d i
  if Pkt.field p 10 = 1 ∧ Pkt.field p 29 = 0 then
    let n := portPipe p.inPort
    let prof := Pkt.field p 24
    let key := (keyOf (Pipe.bank (Dev.pipe d n) p.epoch) p.sheaf prof).1 % 2 ^ 256
    let d := Dev.setPkt d i { p with tallied := some (pipeBarn n, prof, key) }
    let d := if p.whole then d
      else Dev.setLink d p.inPort { Dev.linkS d p.inPort with owed := some (pipeBarn n, prof, key) }
    Dev.tallyAdd d (pipeBarn n) prof key (if p.whole then Pkt.len p else 0) (Pkt.seenMs p)
  else d

/-- The program's drop reason: 0xC0 for a value below it (R138). -/
def progReason (r : Nat) : Nat := if r < 0xC0 then 0xC0 else r

/-- The queue that a unicast packet's fields name. -/
def Pkt.queueNo (p : Pkt) : Nat := Pkt.field p 1 * 16 + Pkt.field p 2

/-- Whether a packet of the same ingress port that is bound for queue n still waits in pipeline m to be written (R28). -/
def Dev.behind (d : Dev) (m port n : Nat) : Bool :=
  (Dev.pipe d m).tm.any (fun j =>
    let k := Dev.pkt d j
    k.inPort == port && (if Pkt.field k 0 = 1 then (Dev.mcList d (Pkt.field k 3)).any (fun e => e.1 * 16 + e.2 == n)
      else Pkt.queueNo k == n))

/-- Give packet i to the traffic manager of its pipeline: cut through, unless that would overtake a packet of its port to
the same queue, or written into cells of the slack until its admission is decided (R28, R163, R173, R184). -/
def Dev.toTm (d : Dev) (i : Nat) : Dev :=
  let p := Dev.pkt d i
  if Pkt.field p 0 = 0 ∧ Dev.cutOk d i (Pkt.queueNo p) = true
      ∧ Dev.behind d (portPipe p.inPort) p.inPort (Pkt.queueNo p) = false then Dev.cutLink d i (Pkt.queueNo p)
  else
    let d := Dev.writeCells d i (cellsOf (Pkt.stored p).length)
    let n := portPipe p.inPort
    let x := Dev.pipe d n
    Dev.setPipe d n { x with tm := x.tm ++ [i] }

/-- The ingress stages. -/
def ingressStages : Nat := 12
def egressStages : Nat := 8

/-- The end of the ingress pass of the packet in `c`: deparser, tally, decision, policer (R134, R138, R140, R254). -/
def Dev.endIngress (d : Dev) (c : StageCtx) : Dev :=
  let i := c.pkt
  let r := Dev.depRead d (portPipe (Dev.pkt d i).inPort) ingressStages c
  let d := r.1
  let c := r.2
  let p := { Dev.pkt d i with sheaf := c.sheaf, fields := c.fields, cls := c.cls }
  let d := Dev.tallyPkt (Dev.deparseIn (Dev.setPkt d i p) i) i
  let p := Dev.pkt d i
  match c.drop with
  | some code => Dev.freePkt (Dev.dropIn d code p true) i
  | none =>
    if 2 ≤ Pkt.field p 0 then Dev.freePkt (Dev.dropIn d (progReason (Pkt.field p 4)) p true) i
    else if Pkt.field p 0 = 0 ∧ 1040 < Pkt.field p 1 then Dev.freePkt (Dev.dropIn d 0x10 p true) i
    else
      let wait := decide (Pkt.field p 5 = 1 ∧ Sheaf.fld p.sheaf 19 1 = 1)
      let p := if wait then { p with fields := SMap.set p.fields 8 0 1 } else p
      if wait && !p.whole then Dev.toTm (Dev.setPkt d i { p with polWait := true }) i
      else
        let r := Dev.policeTest (Dev.setPkt d i p) i
        if r.2 then Dev.toTm r.1 i else r.1

/-- The context of packet i at ingress stage 0 (R131, R138, R279). -/
def Dev.ingressCtx (d : Dev) (n i : Nat) : StageCtx :=
  let p := Dev.pkt d i
  { StageCtx.init with pkt := i, sheaf := p.sheaf, fields := p.preset, epoch := p.epoch, live := true,
                       cls := classOf (Pipe.bank (Dev.pipe d n) p.epoch) p.sheaf }

/-- Run the whole ingress pass of packet i; `ws` says which of its lookups meet bad words. -/
def Dev.ingressPass (d : Dev) (n i : Nat) (ws : List LookAt) : Dev :=
  let r := Dev.runStages n ingressStages ws (ingressStages * 64) d (Dev.ingressCtx d n i)
  Dev.endIngress r.1 r.2

/-- The ingress pass of packet i up to stage k, which finds a parity error (R503). -/
def Dev.ingressParity (d : Dev) (n k i : Nat) (ws : List LookAt) : Dev :=
  let r := Dev.runStages n k ws (k * 64) d (Dev.ingressCtx d n i)
  let r := Dev.parityError r.1 n ingressStages r.2
  Dev.endIngress r.1 r.2

/-- The packets the cost gate lets pass in one clock (R93). -/
def gateTake (cost : Nat → Nat) : Nat → List Nat → List Nat
  | _, [] => []
  | room, i :: t => if cost i ≤ room then i :: gateTake cost (room - cost i) t else []

/-- The cost of packet i's class, at least 1. -/
def Dev.costOf (d : Dev) (n i : Nat) : Nat :=
  let img := Pipe.bank (Dev.pipe d n) (Dev.pkt d i).epoch
  max 1 (classCost img (classOf img (Dev.pkt d i).sheaf))

/-! The Thresher (R69, R70, R80 to R83, R89). -/

/-- The sheaf at the start of a parse (R83). `len` is L, 0 while the length is pending. -/
def startSheaf (p : Pkt) (priv pending : Bool) (len start : Nat) : Sheaf :=
  BitVec.ofNat 4096
    (p.inPort + p.epoch * 2 ^ 11 + b2n priv * 2 ^ 14 + b2n (decide (1024 ≤ p.inPort ∧ p.inPort < 1040)) * 2 ^ 15
      + b2n (decide (p.inPort = 1040)) * 2 ^ 16 + b2n pending * 2 ^ 19 + len % 2 ^ 14 * 2 ^ 32 + start * 2 ^ 56
      + p.tsTb0 * 2 ^ 64 + p.ptpBase * 2 ^ 144 + p.tsPtp * 2 ^ 160)

/-- Whether a port is flagged privileged (R119). -/
def Dev.privileged (d : Dev) (p : Nat) : Bool :=
  decide (p < 1024) && (List.range 64).any (fun j => Dev.el d (K.privPort j) == p)

/-- The counter of an exception code (R89, Table 11). -/
def excElement (n code : Nat) : Option Nat :=
  match code with
  | 1 => some (K.thresherExcDepth n) | 2 => some (K.thresherExcBudget n) | 3 => some (K.thresherExcHeaders n)
  | 4 => some (K.thresherExcTruncated n) | 5 => some (K.thresherExcNomatch n)
  | _ => if 0x80 ≤ code then some (K.thresherExcProgram n) else none

/-- The 16-byte last-exception record (R89, Table 11). -/
def excRecord (s : Sheaf) (tb0 : Nat) : List Byte :=
  leBytes 2 (Sheaf.ingressPort s) ++ leBytes 1 (Sheaf.exception s) ++ leBytes 1 (Sheaf.finalState s)
    ++ leBytes 2 (Sheaf.parseEnd s) ++ leBytes 1 (Sheaf.fld s 246 7) ++ leBytes 1 (Sheaf.headerCount s) ++ leBytes 8 tb0

/-- Count a parsed packet, record its exception and raise its event (R89). The TB0 time of the record is that of the parse,
not the packet's receive time: the spec does not say which (DESIGN CHOICE, log 120). -/
def Dev.countParse (d : Dev) (n : Nat) (s : Sheaf) : Dev :=
  let code := Sheaf.exception s
  let d := Dev.count d (K.thresherPackets n) 1
  let d := if Sheaf.fld s 12 1 = 1 then Dev.count d (K.thresherIncomplete n) 1 else d
  let d := if Sheaf.fld s 13 1 = 1 then Dev.count d (K.thresherPtpEvents n) 1 else d
  let peak (d : Dev) (k v : Nat) : Dev := if Dev.el d k < v then Dev.setEl d k v else d
  let d := peak (peak d (K.thresherPeakTransitions n) (Sheaf.fld s 246 7)) (K.thresherPeakHeaders n) (Sheaf.headerCount s)
  if code = 0 then d
  else
    let d := match excElement n code with
      | some k => Dev.count d k 1
      | none => d
    let r := excRecord s (Dev.tb0Ns d)
    let d := Dev.perf (Dev.setBlob d (K.thresherLastException n) r) n 8 1
    let p := Dev.pipe d n
    let due := match p.excAt with
      | some t => decide (t + 1000000000 ≤ Dev.freeNs d)
      | none => true
    if decide (1 ≤ code ∧ code ≤ 5) && bit (Dev.el d (K.thresherEventMask n)) code && due then
      Dev.notice (Dev.raise (Dev.setPipe d n { p with excAt := some (Dev.freeNs d) }) 10) 10 3 1 (leNat r)
    else d

/-- Whether enough of a frame has come for its parse: min(L - 4, D) bytes (R69). While the tail is open and no more than
D + 4 bytes have come, L - 4 may still turn out to be D or less: the parse waits for the next byte (log 121). -/
def parseReady (img : Image) (p : Pkt) : Bool := p.whole || decide (img.depth + 4 < p.frame.length)

/-- Stamp, load and parse packet i with epoch bit e (R69 to R71, R79 to R83). -/
def Dev.parsePkt (d : Dev) (n i e : Nat) : Dev :=
  let p := { Dev.pkt d i with epoch := e }
  let img := Pipe.bank (Dev.pipe d n) e
  let dataLen := if p.whole then some (Pkt.data p).length else none
  let pending := match dataLen with
    | some l => decide (img.depth < l)
    | none => true
  let start := if p.inPort < 1024 then img.startPort else if p.inPort < 1040 then img.startRecirc else img.startCpu
  let s := startSheaf p (Dev.privileged d p.inPort) pending (if pending then 0 else Pkt.len p) start
  let r := parse img (Pkt.data p) (if pending then none else dataLen) start s
  let reads := if (Dev.pipe d n).badWords.isEmpty then [] else parseReads img (Pkt.data p) (if pending then none else dataLen) start s
  let d := Dev.mendWords d n (e % 2) (reads.map (fun j => (0x01, j)))
  let bad := reads.any (fun j => Pipe.wordBad (Dev.pipe d n) e 0x01 j)
  let d := Dev.setPkt d i { p with sheaf := r.sheaf, bankBad := bad }
  Dev.countParse d n r.sheaf

/-! The tail of a frame (R69, R185, R239, R255). -/

/-- The wheel follows the corrected eligibility time `e` of a shaper with rate code k: it holds the shaper while that is
not eligible (R239, R240, R247). -/
def Dev.wheelMove (d : Dev) (pipe own k e b : Nat) : Dev :=
  if k = 0 then d
  else if shEligible (Dev.now d) e b then Dev.wheelDel d pipe own
  else Dev.wheelAdd d pipe own ((e + 2 ^ 80 - b) % 2 ^ 80)

/-- An eligibility time moved by the cost `de`, back where it is positive. -/
def shBack (e : Nat) (de : Int) : Nat := (((e : Int) - de) % (2 ^ 80 : Int)).toNat

/-- Queue n's shaper after its time or its settings have changed: one that is no longer eligible takes the queue out of
contention, and the wheel follows (R240, R247, R263, log 139). -/
def Dev.qShaperMoved (d : Dev) (n : Nat) : Dev :=
  let k := Dev.qRate d n
  let q := Dev.queue d n
  let b := shCost (Dev.qBurst d n) k
  let d := if k ≠ 0 ∧ q.tagH.isSome ∧ shEligible (Dev.now d) q.shE b = false ∧ qFront n then Dev.count d (K.eqShaperBlocked n) 1 else d
  Dev.wheelMove d (portPipe (qPort n)) (ownQueue n) k q.shE b

/-- Subtract the difference between what a cut-through packet was charged and its true length from queue n's tags, from the
shapers and from eq.tx.bytes, by the weight, rates and profiles of the charge (R239). `len` is the true length. -/
def Dev.fixCharge (d : Dev) (n : Nat) (ch : Charge) (len : Nat) : Dev :=
  let p := qPort n
  let q := Dev.queue d n
  let tag (l : Nat) : Int := ((Dev.leff d l ch.qProf * 4096 / ch.weight : Nat) : Int)
  let cost (l prof k : Nat) : Int := if k = 0 then 0 else ((shCost (Dev.leff d l prof) k : Nat) : Int)
  let back (x : Nat) : Nat := ((x : Int) - (tag ch.len - tag len)).toNat
  let q := if ch.launch then q
    else { q with tagF := back q.tagF, tagH := q.tagH.map back,
                  shE := shBack q.shE (cost ch.len ch.qProf ch.qRate - cost len ch.qProf ch.qRate) }
  let d := Dev.setQueue d n q
  let o := Dev.port d p
  let d := Dev.setPort d p { o with shE := shBack o.shE (cost ch.len ch.pProf ch.pRate - cost len ch.pProf ch.pRate) }
  let d := if ch.launch then d else Dev.qShaperMoved d n
  let kp := Dev.pRate d p
  let d := Dev.wheelMove d (portPipe p) (ownPort p) kp (Dev.port d p).shE (shCost (Dev.pBurst d p) kp)
  let d := Dev.recontendPort d p
  if qFront n then Dev.setEl d (K.eqTxBytes n) ((Dev.el d (K.eqTxBytes n) + 2 ^ 64 + len - ch.len) % 2 ^ 64) else d

/-- Correct the charge of a linked descriptor to the true cell count (R171). -/
def Dev.fixCells (d : Dev) (x : Desc) : Dev × Desc :=
  let p := Dev.pkt d x.pkt
  let c := cellsOf (Pkt.stored p).length
  (Dev.recharge d x p.inPort c, { x with c := c })

/-- Δ: what the ingress deparser's head shifts every later byte by (R140). -/
def Pkt.delta (p : Pkt) : Int := (p.dep.head.length : Int) - (p.dep.rem : Int)

/-- The egress deparser's output for packet p with the sheaf `s` its egress pass left; `ecn` asks for the mark (R140,
R178). -/
def egressOut (img : Image) (p : Pkt) (s : Sheaf) (ecn : Bool) : Deparsed :=
  let x := deparse img.dep2 (classOf img p.sheaf) s (Pkt.delta p) p.dep.at_ (Pkt.stored p)
  if ecn then (Deparsed.ecnMark x s (Deparsed.build x (Pkt.stored p))).getD x else x

/-- Recompute what the egress deparser emits of a selected frame now that its data is whole (R140). -/
def Dev.reEgress (d : Dev) (n : Nat) (f : TxFrame) : TxFrame :=
  let p := Dev.pkt d f.d.pkt
  let img := Pipe.bank (Dev.pipe d (portPipe (qPort n))) p.epoch
  { f with out := egressOut img p f.sheaf f.d.ecn }

/-- The tail of a cut-through packet that has left queue n: its charges are corrected to its true length, which is
answered, and a faulty tail counts stomp_rx (R171, R185, R239). -/
def Dev.tailCharge (d : Dev) (n : Nat) (x : Desc) (ch : Charge) : Dev × Desc × Charge :=
  let p := Dev.pkt d x.pkt
  let r := Dev.fixCells d x
  let len := (Pkt.stored p).length + 4
  let d := Dev.fixCharge r.1 n ch len
  let d := if p.mark ≠ 0 then Dev.countStat d p.inPort 11 1 else d
  (d, { r.2 with tailBad := decide (p.mark ≠ 0) }, { ch with len := len })

/-- The tail of a selected frame: its charges, the bytes that the egress deparser emits of it, a fault that only they show
(R141), and the stomp of a faulty tail (R185, R239). -/
def Dev.tailSelected (d : Dev) (n : Nat) (f : TxFrame) : Dev × TxFrame :=
  let r := Dev.tailCharge d n f.d f.charge
  let g := Dev.reEgress r.1 n { f with d := r.2.1, charge := r.2.2, stomp := f.stomp || r.2.1.tailBad }
  (if g.out.fault && !f.out.fault then Dev.count r.1 K.progDeparseFaults 1 else r.1, g)

/-- A frame that ends before its tail is corrected when the tail comes (R239): what that takes is kept with its port. -/
def Dev.oweFix (d : Dev) (x : Desc) (n : Nat) (ch : Charge) : Dev :=
  let p := Dev.pkt d x.pkt
  let l := Dev.linkS d p.inPort
  if x.cut && !p.whole && l.rx.any (fun r => r.1 == x.pkt) then
    let f : LateFix := { q := n, charge := ch, head := p.dep.head.length, rem := p.dep.rem }
    Dev.setLink d p.inPort { l with late := some f }
  else d

/-- The correction of a frame of L bytes that ended before its tail. -/
def Dev.fixLate (d : Dev) (f : LateFix) (len : Nat) : Dev :=
  Dev.fixCharge d f.q f.charge (f.head + (len - 4 - f.rem) + 4)

/-- Whether flits that cross tile t's link in direction `dir` fail their CRC: two wires of a group are failing (R62). -/
def Dev.rouriBroken (d : Dev) (t dir : Nat) : Bool := RouriS.twoOfGroup (Dev.rouri d t dir)

/-- The tail of packet i, linked under the cut-through rules to queue n: it waits in the queue, or stands in the egress
stages, before the MAC or on the line (R171, R185, R239). -/
def Dev.cutTail (d : Dev) (i n : Nat) : Dev :=
  let p := Dev.pkt d i
  let q := Dev.queue d n
  let d := Dev.writeCells d i (cellsOf (Pkt.stored p).length)
  let d := Dev.act d (actCells n) ((Dev.pkt d i).cells.length - p.cells.length)
  if q.items.any (fun x => match x with | .pkt y => y.pkt == i | .bale _ _ => false) then
    let x := q.items.foldl (fun a x => match x with | .pkt y => if y.pkt = i then y else a | .bale _ _ => a) Desc.init
    if p.mark ≠ 0 then
      let items := q.items.filter (fun x => match x with | .pkt y => y.pkt != i | .bale _ _ => true)
      let d := Dev.subDepth (Dev.setQueue d n { q with items := items }) n x.c (Desc.hrCells x)
      Dev.recontend (Dev.releaseDesc (Dev.dropIn d 0x28 p true) x) n
    else
      let r := Dev.fixCells d x
      let items := q.items.map (fun y => match y with
        | .pkt z => if z.pkt = i then QItem.pkt r.2 else y
        | .bale _ _ => y)
      let d := Dev.setQueue r.1 n { Dev.queue r.1 n with items := items }
      if x.c ≤ r.2.c then Dev.addDepth d n (r.2.c - x.c) (Desc.hrCells r.2 - Desc.hrCells x)
      else Dev.subDepth d n (x.c - r.2.c) (Desc.hrCells x - Desc.hrCells r.2)
  else if inStages d then
    let c := (Dev.pipe d (portPipe (qPort n))).ctx
    let r := Dev.tailCharge d n c.desc c.charge
    let y := Dev.pipe r.1 (portPipe (qPort n))
    Dev.setPipe r.1 (portPipe (qPort n)) { y with ctx := { y.ctx with desc := r.2.1, charge := r.2.2 } }
  else
    let o := Dev.port d (qPort n)
    match o.tx with
    | some f =>
      if f.d.pkt = i then
        let r := Dev.tailSelected d n f
        let o := Dev.port r.1 (qPort n)
        -- its last flits cross the link while that is broken (R62)
        Dev.setPort r.1 (qPort n) { o with tx := some { r.2 with lost := r.2.lost || Dev.rouriBroken d (portPipe (qPort n)) 1 } }
      else inSel d o
    | none => inSel d o
where
  inStages (d : Dev) : Bool :=
    let c := (Dev.pipe d (portPipe (qPort n))).ctx
    c.live && c.egress && c.pkt == i
  inSel (d : Dev) (o : OutPort) : Dev :=
    match o.sel.find? (fun f => f.d.pkt == i) with
    | some f =>
      let r := Dev.tailSelected d n f
      let o := Dev.port r.1 (qPort n)
      Dev.setPort r.1 (qPort n) { o with sel := o.sel.map (fun g => if g.d.pkt = i then r.2 else g) }
    | none => d

/-- The bytes of a cut-through packet that came after it was linked are admitted too (R196). -/
def Dev.enqRest (d : Dev) (n before after : Nat) : Dev :=
  if qFront n then Dev.count d (K.eqEnqBytes n) (after - before) else d

/-- The last byte of packet i's frame has come (R69, R185, R255, R303). -/
def Dev.tailOn (d : Dev) (i : Nat) (bs : List Byte) (mark : Nat) : Dev :=
  match SMap.find d.pkts i with
  | none => d
  | some p =>
    let n := portPipe p.inPort
    let d := Dev.setPkt d i { p with frame := bs, whole := true, mark := if p.mark = 0 then mark else p.mark, tailAt := Dev.now d }
    let left := p.cut || (Dev.pipe d n).tm.contains i
    let d := if left then Dev.deparseIn d i else d
    if p.cut then Dev.enqRest (Dev.cutTail d i (Pkt.queueNo p)) (Pkt.queueNo p) (Pkt.stored p).length (Pkt.stored (Dev.pkt d i)).length
    else if p.polWait then
      let d := Dev.setPkt d i { Dev.pkt d i with polWait := false }
      let r := Dev.policeTest d i
      if r.2 then r.1
      else
        let x := Dev.pipe r.1 n
        Dev.setPipe r.1 n { x with tm := x.tm.filter (fun j => j != i) }
    else d

/-! Reception (R24, R30, R54, R63). -/

/-- Bytes and packets in pipeline n's arrival buffer. -/
def Dev.arrivalBytes (d : Dev) (n : Nat) : Nat :=
  (Dev.pipe d n).arrival.foldl (fun c i => c + (Dev.pkt d i).frame.length) 0

/-- A new packet received on port p at phase `ph`. -/
def Dev.rxPkt (d : Dev) (p ph : Nat) (bs : List Byte) (whole : Bool) (mark : Nat) : Pkt :=
  let b := Dev.ptpBase d p
  { Pkt.init with
    frame := bs, whole := whole, mark := mark, inPort := p,
    rxAt := Dev.instant d ph (-(Dev.rxDelay d p)),
    tsTb0 := Dev.stampOn d 0 ph (-(Dev.rxDelay d p) - Dev.tsAsym d p),
    tsPtp := Dev.stampOn d b ph (-(Dev.rxDelay d p) - Dev.tsAsym d p), ptpBase := b }

/-- Packet i enters the arrival buffer of pipeline n. -/
def Dev.enterArrival (d : Dev) (n i : Nat) (pk : Pkt) : Dev :=
  let x := Dev.pipe d n
  Dev.setPkt (Dev.setPipe d n { x with arrival := x.arrival ++ [i] }) i pk

/-- Drop an arriving frame before its parse, with `code` (R30, R62, R63). -/
def Dev.rxDrop (d : Dev) (code : Nat) (p : Pkt) : Dev :=
  let d := Dev.dropIn d code p false
  let t := portPipe p.inPort
  match code with
  | 0x01 => Dev.perf d t 7 1
  | 0x03 => Dev.count d (K.tileRouriOverrun t) 1
  | _ => d

/-- Flits of a frame fail their CRC on tile t's link: as many as the command names, else a free number of them (R62, R65,
log 119). -/
def Dev.badFlits (d : Dev) (t : Nat) (named : Option Nat) : Dev :=
  let k := match named with
    | some k => max 1 k
    | none => Dev.freeVal d 65536 + 1
  let d := if named.isSome then d else Dev.useFree d
  let d := Dev.perf (Dev.count d (K.tileRouriCrcDrops t) k) (0x30 + t) 3 k
  Dev.contained d 2 0x04 (0x0180 + t) 0x0B t

def RouriWay.flits : RouriWay → Option Nat
  | .crcFail k => some k
  | _ => none

/-- Whether n more bytes pass the arrival buffer of pipeline `m` (R30). -/
def Dev.arrivalOver (d : Dev) (m n : Nat) : Bool := decide (524288 < Dev.arrivalBytes d m + n)

/-- A frame that comes from the tile enters the arrival buffer of pipeline n, or is dropped: beyond the link's reduced
capacity, with flits that failed, or because the buffer is full in bytes or in packets (R30, R62, R63). -/
def Dev.intoArrival (d : Dev) (n i : Nat) (pk : Pkt) (w : RouriWay) : Dev :=
  if w = .overrun ∧ Dev.el d (K.tileRouriT2cCapacity n) < 12800 then Dev.rxDrop d 0x03 pk
  else if Dev.rouriBroken d n 0 then Dev.rxDrop (Dev.badFlits d n (RouriWay.flits w)) 0x04 pk
  else if 2048 ≤ (Dev.pipe d n).arrival.length ∨ Dev.arrivalOver d n pk.frame.length = true then Dev.rxDrop d 0x01 pk
  else Dev.enterArrival d n i pk

/-- Later bytes of the frame of packet i come while the buffer has no room for them: a packet that still stands in it is
dropped as ingress overrun (R30; that the rule covers a frame whose head fitted is DEDUCED, log 122). -/
def Dev.overArrival (d : Dev) (n i extra : Nat) : Option Dev :=
  let x := Dev.pipe d n
  if x.arrival.contains i && Dev.arrivalOver d n extra then
    let d := Dev.rxDrop d 0x01 (Dev.pkt d i)
    some (Dev.delPkt (Dev.setPipe d n { Dev.pipe d n with arrival := x.arrival.filter (fun j => j != i) }) i)
  else none

/-- The frame now arriving on port p ends with the bytes `more`: it is counted, and its packet has its tail (R69). A sound
MAC control frame is consumed; another one becomes a packet with the stamps of its head (R177, R276). A packet whose last
flits fail their CRC is marked as a Rouri error (R62). -/
def Dev.rxTail (d : Dev) (p : Nat) (more : List Byte) (e : RxEnd) (fecBad : Bool) (w : RouriWay) : Dev :=
  let l := Dev.linkS d p
  match l.rx with
  | none => d
  | some x =>
    let bs := x.2 ++ more
    let mark := frameMark (Dev.maxFrame d p) bs e fecBad
    let d := Dev.countRx (Dev.setLink d p { l with rx := none, mac := none, owed := none, late := none }) p bs mark
    let d := if fecBad then Dev.contained d 2 0x08 (0x1400 + p) 0x12 p else d
    let d := match l.owed with
      | some t => Dev.tallyBytes d t.1 t.2.1 t.2.2 bs.length
      | none => d
    let d := match l.late with
      | some f => Dev.fixLate d f bs.length
      | none => d
    match l.mac with
    | some pk =>
      if mark = 0 then Dev.macControl d p bs
      else Dev.intoArrival d (portPipe p) x.1 { pk with frame := bs, whole := true, mark := mark } w
    | none =>
      if (SMap.find d.pkts x.1).isSome && Dev.rouriBroken d (portPipe p) 0 then
        Dev.tailOn (Dev.badFlits d (portPipe p) (RouriWay.flits w)) x.1 bs 0x04
      else (Dev.overArrival d (portPipe p) x.1 more.length).getD (Dev.tailOn d x.1 bs mark)

/-- Reception of a frame on port p that is up (R24): its status, its place in the arrival buffer, or its drop. -/
def Dev.receive (d : Dev) (p ph : Nat) (bs : List Byte) (e : RxEnd) (fecBad : Bool) (w : RouriWay) : Dev :=
  let d := Dev.rxTail d p [] .truncated false .ok
  let n := portPipe p
  let whole := decide (e ≠ .more)
  let mark := if whole then frameMark (Dev.maxFrame d p) bs e fecBad else 0
  let d := if whole then Dev.countRx d p bs mark else d
  let d := if whole && fecBad then Dev.contained d 2 0x08 (0x1400 + p) 0x12 p else d
  if whole && mark == 0 && isMacControl bs then Dev.macControl d p bs
  else if !whole && isMacControl bs then
    Dev.setLink { d with nextPkt := d.nextPkt + 1 } p
      { Dev.linkS d p with rx := some (d.nextPkt, bs), mac := some (Dev.rxPkt d p ph bs false 0) }
  else
    let pk := Dev.rxPkt d p ph bs whole mark
    let i := d.nextPkt
    let d := { d with nextPkt := i + 1 }
    let d := if whole then d else Dev.setLink d p { Dev.linkS d p with rx := some (i, bs) }
    Dev.intoArrival d n i pk w

/-! The arbiter (R30, R31). -/

/-- The next port of the tile with a packet waiting, after the one served last, and its packet. -/
def Dev.nextArrival (d : Dev) (n : Nat) : Option (Nat × Nat) :=
  let x := Dev.pipe d n
  (List.range 64).findSome? (fun k =>
    let t := (x.rrPort + 1 + k) % 64
    (x.arrival.find? (fun i => (Dev.pkt d i).inPort == n * 64 + t)).map (fun i => (t, i)))

/-- An internal packet is stamped when the arbiter accepts it, and counts as received on its port there (R278, R298, R321,
log 118). -/
def Dev.stampInternal (d : Dev) (i : Nat) : Dev :=
  let s := Dev.stampOn d 0 0 0
  let d := Dev.countRx d (Dev.pkt d i).inPort (Dev.pkt d i).frame 0
  Dev.setPkt d i { Dev.pkt d i with rxAt := Dev.now d, tsTb0 := s, tsPtp := s, ptpBase := 0 }

/-- Accept one packet into a slot of pipeline n: the slot reserved in every 64 clocks, or the tile's turn, or an internal
packet in a slot the tile leaves free (R31). The two kinds alternate in the reserved slot; which of them takes a free slot
while both wait is a free value (log 123). The arbiter admits none while the cost gate holds 128 packets or the Thresher
192 (R68, R93). -/
def Dev.accept (d : Dev) (n : Nat) : Dev :=
  let x := Dev.pipe d n
  if x.stopped || decide (128 ≤ x.gate.length) || decide (192 ≤ x.accepted.length) then d
  else
    let last := x.slotCount == 255
    let x := { x with slotCount := (x.slotCount + 1) % 256 }
    let internal := !(x.recirc.isEmpty && x.inject.isEmpty)
    match (if last && internal then none else Dev.nextArrival d n) with
    | some ti =>
      let x := { x with rrPort := ti.1, arrival := x.arrival.filter (fun i => i != ti.2), accepted := x.accepted ++ [ti.2] }
      Dev.perf (Dev.perf (Dev.setPipe d n x) n 1 1) n 2 1
    | none =>
      let both := !x.inject.isEmpty && !x.recirc.isEmpty
      let useInj := if both then (if last then x.injNext else Dev.freeVal d 2 == 1) else x.recirc.isEmpty
      let d := if both && !last then Dev.useFree d else d
      match (if useInj then x.inject else x.recirc) with
      | i :: t =>
        let x := { x with inject := if useInj then t else x.inject, recirc := if useInj then x.recirc else t,
                          injNext := if last then !useInj else x.injNext, accepted := x.accepted ++ [i] }
        Dev.perf (Dev.perf (Dev.stampInternal (Dev.setPipe d n x) i) n 1 1) n (if useInj then 4 else 3) 1
      | [] => Dev.perf (Dev.setPipe d n x) n 13 1

/-- The arrival or recirculation buffer reads the packet just accepted as uncorrectable: it is a bad-FCS frame from here on
(R54, R503). `old` is the part before the acceptance. -/
def Dev.acceptBad (old d : Dev) (n : Nat) : Dev :=
  match (Dev.pipe d n).accepted.drop (Dev.pipe old n).accepted.length with
  | i :: _ =>
    let p := Dev.pkt d i
    Dev.contained (Dev.setPkt d i { p with mark := if p.mark = 0 then 0x08 else p.mark }) 2 0x08 (0x0180 + n) 0 p.inPort
  | [] => d

end Sys2Proof.Machine
end

