-- ==== Sys2Proof/Machine/Select.lean ====
section
/-! DEFINITION. Selection at a port, the egress pass and where a packet goes from the egress deparser (R31, R139 to
R141, R150, R168, R169, R189, R240 to R244, R287 to R289, R298, R306, R367). -/
namespace Sys2Proof.Machine

/-! The punt staging buffer (R367, R368). -/

def Punt.size (x : Punt) : Nat := 32 + x.bytes.length
def Dev.puntStaged (d : Dev) : Nat := d.dma.staging.foldl (fun n x => n + Punt.size x) 0
def Dev.setStaging (d : Dev) (l : List Punt) : Dev :=
  let d := { d with dma := { d.dma with staging := l } }
  Dev.setEl d K.dmaPuntStaged (Dev.puntStaged d)

def Dev.dq (d : Dev) (q : Nat) : Dq := SMap.get d.dma.qs q Dq.init
def Dev.setDq (d : Dev) (q : Nat) (x : Dq) : Dev := { d with dma := { d.dma with qs := SMap.set d.dma.qs q x Dq.init } }

/-- The 64 sheaf bits that a punt queue's context asks for, or zero (R368, Table 8). -/
def puntMeta (ctx : Nat) (s : Sheaf) : Nat := if bit ctx 268 then Sheaf.fld s (bits ctx 256 12) 64 else 0

/-- Bytes of packets of punt queue q in the staging buffer. -/
def Dev.puntHeld (d : Dev) (q : Nat) : Nat := d.dma.staging.foldl (fun a y => if y.dq = q then a + Punt.size y else a) 0

/-- The 32-byte punt header, truncated 0 (R368, Table 8). -/
def puntHeader (p : Pkt) (cpuQ cls len ctx : Nat) (s : Sheaf) : Nat :=
  p.inPort + cpuQ * 2 ^ 11 + cls * 2 ^ 16 + p.epoch * 2 ^ 20 + len % 2 ^ 15 * 2 ^ 32 + p.tsTb0 * 2 ^ 64
    + puntMeta ctx s * 2 ^ 192

/-! Asking for a selection (R241). -/

/-- L_eff of a frame as its queue was charged. -/
def Dev.chargedLeff (d : Dev) (ch : Charge) : Nat := Dev.leff d ch.len ch.qProf

/-- The packet of port p that stands in the egress stages. -/
def Dev.inStages (d : Dev) (p : Nat) : Option StageCtx :=
  let c := (Dev.pipe d (portPipe p)).ctx
  if c.live && c.egress && qPort c.q == p then some c else none

/-- L_eff bytes that port p has selected and not yet begun to transmit (R241). -/
def Dev.selectedBytes (d : Dev) (p : Nat) : Nat :=
  (Dev.port d p).sel.foldl (fun n f => n + Dev.chargedLeff d f.charge)
    (match Dev.inStages d p with
      | some c => Dev.chargedLeff d c.charge
      | none => 0)

/-- Whether port p asks for a selection: not while a pipeline reset stops it (R241, R493). -/
def Dev.asks (d : Dev) (p : Nat) : Bool :=
  !(Dev.pipe d (portPipe p)).stopped &&
    (if p < 1024 then
      decide (Dev.selectedBytes d p < Dev.portSpeed d p * 20)
    else if p < 1040 then decide ((Dev.pipe d (p - 1024)).recirc.length < 64)
    else decide (Dev.puntStaged d + 16032 ≤ 524288))

/-! The launch tier (R242, R252, R287 to R289). -/

/-- launch_time less the present time of launch_base, in ns (R287). -/
def Dev.launchDiff (d : Dev) (p : Pkt) : Int :=
  sgn 64 (Pkt.field p 21 + 2 ^ 64 - TimeBase.ns64 (Dev.base d (Pkt.field p 22)))

def Pkt.hasLaunch (p : Pkt) : Bool := Pkt.field p 23 == 1

/-- late(h) of a head of queue n (R288). -/
def Dev.isLate (d : Dev) (n : Nat) (p : Pkt) : Bool :=
  Pkt.hasLaunch p && decide ((Dev.el d (K.eqLaunchLateNs n) : Int) < -(Dev.launchDiff d p))

/-- Put (key, queue) in ascending order of key, the lower queue first on a tie. -/
def insLaunch (x : Int × Nat) : List (Int × Nat) → List (Int × Nat)
  | [] => [x]
  | y :: t => if x.1 < y.1 ∨ (x.1 = y.1 ∧ x.2 < y.2) then x :: y :: t else y :: insLaunch x t

/-- Launch-time queues of port p whose head may be considered, in order of launch time; a head without one counts as due
now. -/
def Dev.launchHeads (d : Dev) (p : Nat) : List (Int × Nat) :=
  (Dev.tierQueues d p 4).foldl (fun l n =>
    let q := Dev.queue d n
    match EQueue.head q with
    | some x =>
      if p < 1024 ∧ q.held = false ∧ q.flushing = false ∧ Dev.qPaused d n = false then
        let k := Dev.pkt d x.pkt
        insLaunch (if Pkt.hasLaunch k then Dev.launchDiff d k else 0, n) l
      else l
    | none => l) []

/-- The launch tier's choice; late heads are dropped where their queue says so (R242). -/
def Dev.pickLaunch : List Nat → Dev → Dev × Option (Nat × Bool)
  | [], d => (d, none)
  | n :: t, d =>
    match EQueue.head (Dev.queue d n) with
    | none => Dev.pickLaunch t d
    | some x =>
      let k := Dev.pkt d x.pkt
      if !Pkt.hasLaunch k then (d, some (n, false))
      else if Dev.isLate d n k then
        if Dev.el d (K.eqLaunchLateAction n) = 0 then Dev.pickLaunch t (Dev.dropReleasedAll (Dev.dropHead d 0x39 n) n) else (d, some (n, true))
      else if Dev.launchDiff d k ≤ 400 then (d, some (n, false))
      else Dev.pickLaunch t d

/-! The strict tiers (R242, R253). -/

/-- Line time of b bytes at port p, in 2^-16 ns. -/
def Dev.lineTime (d : Dev) (p b : Nat) : Nat := b * 8 * 65536 / max 1 (Dev.portSpeed d p)

/-- A selected launch frame that the MAC holds until its launch time (R287). -/
def TxFrame.waits (f : TxFrame) : Bool := f.charge.launch && fieldOf f.sheaf f.fields 23 == 1 && !f.late

/-- The packet of a selected frame with its sheaf and fields of now. -/
def TxFrame.now (d : Dev) (f : TxFrame) : Pkt := { Dev.pkt d f.d.pkt with sheaf := f.sheaf, fields := f.fields }

/-- Scheduler time from now until the data selected for port p will have left (R242 tail), in 2^-16 ns: each frame in turn, a
launch frame not before its launch time. -/
def Dev.tail (d : Dev) (p : Nat) : Nat :=
  let o := Dev.port d p
  let busy : Nat :=
    match o.tx with
    | some f => (schedDiff ((f.txAt + Dev.lineTime d p (f.charge.len + 20)) % 2 ^ 80) (Dev.now d)).toNat
    | none => 0
  let busy := o.sel.foldl (fun n f =>
    (if TxFrame.waits f then max n (Dev.launchDiff d (TxFrame.now d f) * 65536).toNat else n)
      + Dev.lineTime d p (f.charge.len + 20)) busy
  match Dev.inStages d p with
  | some c =>
    let k := { Dev.pkt d c.pkt with sheaf := c.sheaf, fields := c.fields }
    (if c.charge.launch && fieldOf c.sheaf c.fields 23 == 1 && !c.late then max busy (Dev.launchDiff d k * 65536).toNat else busy)
      + Dev.lineTime d p (c.charge.len + 20)
  | none => busy

/-- The launch guard (R242, R253): no frame of tiers 0 to 3 may overlap the due launch of any launch-time queue's head, a
paused queue's too. -/
def Dev.guardOk (d : Dev) (p : Nat) (x : Desc) : Bool :=
  (Dev.tierQueues d p 4).all (fun n =>
    match EQueue.head (Dev.queue d n) with
    | some y =>
      let k := Dev.pkt d y.pkt
      !Pkt.hasLaunch k || Dev.isLate d n k
        || decide ((Dev.tail d p + Dev.lineTime d p (Dev.schedLen d p x + 20) : Int) ≤ Dev.launchDiff d k * 65536)
    | none => true)

/-- Of the queues of tier t in contention the one with the least H, the lowest number on a tie (R242). -/
def Dev.tierPick (d : Dev) (p t : Nat) : Option Nat :=
  ((Dev.tierQueues d p t).foldl (fun (b : Option (Nat × Nat)) n =>
    match (Dev.queue d n).tagH, b with
    | some h, some x => if h < x.1 then some (h, n) else b
    | some h, none => some (h, n)
    | none, _ => b) none).map (fun x => x.2)

/-- The strict tiers' choice (R242). -/
def Dev.pickTier (d : Dev) (p : Nat) : Option Nat :=
  match (List.range 4).findSome? (Dev.tierPick d p) with
  | some n =>
    match EQueue.head (Dev.queue d n) with
    | some x => if Dev.guardOk d p x then some n else none
    | none => none
  | none => none

/-- select(p, now): the queue, whether of the launch tier, whether late (R242). -/
def Dev.select (d : Dev) (p : Nat) : Dev × Option (Nat × Bool × Bool) :=
  let d := Dev.recontendPort d p
  let r := Dev.pickLaunch ((Dev.launchHeads d p).map (fun x => x.2)) d
  match r.2 with
  | some x => (r.1, some (x.1, true, x.2))
  | none =>
    if Dev.pShaperOk r.1 p then (r.1, (Dev.pickTier r.1 p).map (fun n => (n, false, false))) else (r.1, none)

/-! Taking the packet (R189, R238, R239, R243). -/

/-- select(p, now) with the head check of every dequeue (R189, R220): where the check drops the head of the chosen queue, the
choice is made anew, so that what leaves has passed the tests of R242. The fuel bounds the drops. -/
def Dev.selectHead (p : Nat) : Nat → Dev → Dev × Option (Nat × Bool × Bool)
  | 0, d => (d, none)
  | k + 1, d =>
    let r := Dev.select d p
    match r.2 with
    | none => r
    | some x =>
      let e := Dev.clean r.1 x.1
      if (Dev.queue e x.1).items.length < (Dev.queue r.1 x.1).items.length then Dev.selectHead p k (Dev.recontend e x.1)
      else r

/-- The places of the lists of port p's queues. -/
def Dev.portItems (d : Dev) (p : Nat) : Nat :=
  (List.range 16).foldl (fun n q => n + (Dev.queue d (p * 16 + q)).items.length) 0

/-- Take the head of queue n out and charge it; what it was charged (R239, R243). -/
def Dev.dequeue (d : Dev) (n : Nat) (launch : Bool) : Dev × Option (Desc × Charge) :=
  match EQueue.head (Dev.queue d n) with
  | none => (Dev.recontend d n, none)
  | some x =>
    let p := qPort n
    let k := Dev.pkt d x.pkt
    let l := Dev.schedLen d p x
    let ch : Charge := { len := l, launch := launch, weight := Dev.qWeight d n, qRate := Dev.qRate d n, pRate := Dev.pRate d p,
                         qProf := Dev.qProfile d n, pProf := Dev.pProfile d p }
    let d := if launch then d else Dev.chargeQueue d n (Dev.leff d l (Dev.qProfile d n))
    let d := Dev.chargePort d p (Dev.leff d l (Dev.pProfile d p))
    let d := Dev.popHead d n
    let d := Dev.dropReleasedAll d n
    let d := if launch then d else Dev.served d n
    let d := if qFront n then Dev.count (Dev.count d (K.eqTxPkts n) 1) (K.eqTxBytes n) l else d
    let d := if !launch && Pkt.hasLaunch k then Dev.count d K.schedLaunchIgnored 1 else d
    let d := Dev.perf d (0x10 + portPipe p) 1 1
    let d := if launch then Dev.perf d (0x10 + portPipe p) 2 1 else d
    (d, some ({ x with started := true }, ch))

/-! The egress pass (R139, R140). -/

/-- The sheaf as the egress stages read it: every header record's offset and parse_end increased by Δ (R140). A sum that
passes its field wraps to the field's width (DESIGN CHOICE, log 167). -/
def shiftSheaf (s : Sheaf) (delta : Int) : Sheaf :=
  let sh (s : Sheaf) (off w : Nat) : Sheaf := Sheaf.putFld s off w (unsgn w ((Sheaf.fld s off w : Int) + delta))
  (List.range (Sheaf.headerCount s)).foldl (fun s i => sh s (263 + 16 * i) 9) (sh s 46 10)

/-- What the pass of sheaf `c` leaves of sheaf `s`: the intrinsic part, which no program writes, keeps its unshifted
offsets. -/
def unshiftSheaf (s c : Sheaf) : Sheaf := Sheaf.putFld c 0 768 (Sheaf.fld s 0 768)

/-- The context of a selected packet at egress stage 0 (R131, R139). -/
def Dev.egressCtx (d : Dev) (n : Nat) (x : Desc) (ch : Charge) (late : Bool) : StageCtx :=
  let p := Dev.pkt d x.pkt
  { StageCtx.init with
    pkt := x.pkt, sheaf := shiftSheaf p.sheaf (Pkt.delta p), fields := p.fields, epoch := p.epoch, egress := true,
    live := true, cls := classOf (Pipe.bank (Dev.pipe d (portPipe (qPort n))) p.epoch) p.sheaf,
    desc := x, q := n, charge := ch, late := late }

/-! What is measured of a packet that leaves (R298, R300, R303, R306, R317). -/

/-- Offset of the first IOAM header and whether it lies in an IPv6 extension header (R316). -/
def ioamRec (s : Sheaf) : Option (Nat × Nat) :=
  match Sheaf.findRec s [25] with
  | none => none
  | some r =>
    match ((List.range r).reverse.find? (fun i => [7, 15, 16].contains (Sheaf.recClass s i))) with
    | some i => if Sheaf.recClass s i = 7 then some (r, i) else none
    | none => none

/-- Whether a Namespace-ID is enabled (R316). -/
def Dev.ioamNsOn (d : Dev) (ns : Nat) : Bool :=
  (List.range 4).any (fun j => bit (Dev.el d (K.ioamNs j)) 16 && bits (Dev.el d (K.ioamNs j)) 0 16 == ns)

/-- Whether the packet asks for a direct-export postcard: an enabled namespace, option-type 4 in the byte before the
option header (R317, log 18). -/
def Dev.dexWanted (d : Dev) (p : Pkt) (s : Sheaf) (fs : SMap Nat) : Option Nat :=
  if fieldOf s fs 28 = 2 then
    match Sheaf.findRec s [25] with
    | some r =>
      let o := Sheaf.recOffset s r
      if 0 < o ∧ byteAt p.frame (o - 1) = 4 ∧ Dev.ioamNsOn d (get16 p.frame o) = true then some o else none
    | none => none
  else none

/-- A packet or copy of queue n has left for port `out` with latency `l`: histograms, the tally's maximum, postcards. -/
def Dev.measure (d : Dev) (n out : Nat) (x : Desc) (s : Sheaf) (fs : SMap Nat) (l : Nat) (stomped : Bool) : Dev :=
  let p := Dev.pkt d x.pkt
  if Pkt.own p then d
  else
  let pipe := portPipe out
  let excl := fieldOf s fs 29 == 1
  let d := if out < 1024 then Dev.histLat d n l excl else d
  let d := match p.tallied with
    | some t => Dev.tallyLat d t.1 t.2.1 t.2.2 l
    | none => d
  let img := Pipe.bank (Dev.pipe d pipe) p.epoch
  let c : Card := { reason := 0, spilled := x.spilled, ecn := x.ecn, stomped := stomped, dex := false, outPort := out,
                    queue := qIdx n, latency := l, depth := x.depth, flow := 0, seqNo := 0, parsed := true }
  let sm := if excl then (d, false) else Dev.sample d pipe (fieldOf s fs 26)
  let d := sm.1
  let thr := if qFront n then Dev.el d (K.eqTelLatThreshold n) else 0
  let lat := !excl && decide (thr ≠ 0 ∧ thr < l)
  let mark := !excl && fieldOf s fs 11 == 1
  let d :=
    if lat || sm.2 || mark then
      Dev.requestCard d pipe false (cardRec d img c p s fs (triggers false lat sm.2 mark)) (some n)
    else d
  match Dev.dexWanted d p s fs with
  | some o =>
    let hasFlow := bit (byteAt p.frame (o + 3)) 7
    let hasSeq := bit (byteAt p.frame (o + 3)) 6
    let c := { c with dex := true,
                      flow := if hasFlow then beNat (slice p.frame (o + 8) 4) else 0,
                      seqNo := if hasSeq then beNat (slice p.frame (if hasFlow then o + 12 else o + 8) 4) else 0 }
    Dev.requestCard (Dev.count d K.ioamDex 1) pipe false (cardRec d img c p s fs 0) (some n)
  | none => d

/-! Where a packet goes from the egress deparser. -/

/-- A selected packet is dropped: counters, postcard, charge and reference; what it was charged beyond its length is
corrected at its tail (R239). -/
def Dev.dropSelected (d : Dev) (code n : Nat) (x : Desc) (ch : Charge) (s : Sheaf) (fs : SMap Nat) : Dev :=
  let d := Dev.oweFix d x n ch
  let p := Dev.pkt d x.pkt
  Dev.perf (Dev.releaseFrom (Dev.dropOut d code n x p true s fs) n x) (0x10 + portPipe (qPort n)) 8 1

/-- A frame leaves for internal port p: it counts as transmitted there (R298, R321, log 118). -/
def Dev.countOut (d : Dev) (p : Nat) (bs : List Byte) : Dev :=
  let d := Dev.countStat (Dev.countStat d p 13 1) p 14 (bs.length + 4)
  if isMcast bs then Dev.countStat d p 15 1 else if isBcast bs then Dev.countStat d p 16 1 else d

/-- A rebuilt frame enters the recirculation buffer of pipeline m, or is dropped as recirculation overrun (R31). -/
def Dev.recirculate (d : Dev) (m : Nat) (bytes : List Byte) : Dev :=
  let fcs := leBytes 4 (fcs32 bytes)
  let pk := { Pkt.init with frame := bytes ++ fcs, whole := true, inPort := 1024 + m, rxAt := Dev.now d }
  let d := Dev.perf d (0x10 + m) 10 1
  let x := Dev.pipe d m
  if 64 ≤ x.recirc.length then Dev.dropIn d 0x02 pk false
  else
    let d := Dev.countOut d (1024 + m) bytes
    let i := d.nextPkt
    Dev.setPkt (Dev.setPipe { d with nextPkt := i + 1 } m { x with recirc := x.recirc ++ [i] }) i pk

/-- A packet leaves for port 1040: the staging buffer takes it, or it is dropped as punt_overflow (R367). -/
def Dev.punt (d : Dev) (n cls : Nat) (x : Desc) (s : Sheaf) (fs : SMap Nat) (bytes : List Byte) : Dev × Bool :=
  let p := Dev.pkt d x.pkt
  let dq := Dev.el d (K.dmaPuntMap (qIdx n))
  let st := Dev.el d (K.dqState dq)
  let y : Punt := { cpuQ := qIdx n, dq := dq, bytes := bytes,
                    epoch := p.epoch, header := puntHeader p (qIdx n) cls bytes.length (Dev.dq d dq).ctx s,
                    desc := x, pkt := p, sheaf := s, fields := fs }
  if dq = 0xFFFF ∨ (st ≠ 1 ∧ st ≠ 2) ∨ 65536 ≤ Dev.puntHeld d dq ∨ 524288 < Dev.puntStaged d + Punt.size y then
    (Dev.dropOut d 0x40 n x p true s fs, false)
  else (Dev.countOut (Dev.setStaging d (d.dma.staging ++ [y])) 1040 bytes, true)

/-- The end of the egress pass of the packet in `c` (R139 to R141, R178, R298). A packet that recirculates, a bad tail or
not, enters with a good FCS: only a MAC stomps (DEDUCED, log 171). -/
def Dev.endEgress (d : Dev) (c : StageCtx) : Dev :=
  let x := c.desc
  let n := c.q
  let port := qPort n
  let p := Dev.pkt d x.pkt
  let e := if Pkt.own p || c.egDrop then (d, c) else Dev.depRead d (portPipe port) egressStages c
  let d := e.1
  let c := e.2
  let s := unshiftSheaf p.sheaf c.sheaf
  let fs := c.fields
  let img := Pipe.bank (Dev.pipe d (portPipe port)) p.epoch
  let drop (d : Dev) (code : Nat) : Dev := Dev.dropSelected d code n x c.charge s fs
  if c.egDrop then drop d (progReason (fieldOf s fs 4))
  else
    let plain := if Pkt.own p then Deparsed.init else egressOut img p s false
    let out := if Pkt.own p then plain else egressOut img p s x.ecn
    let marked := x.ecn && out.patches.length != plain.patches.length
    let bytes := Deparsed.build out (Pkt.stored p)
    -- what the bytes still to come cannot undo is a fault now, the rest shows at the tail (R141)
    let bad := !Pkt.own p && (egressOut img (Pkt.padded p) s false).fault
    let out := { out with fault := bad }
    let d := if bad then Dev.count d K.progDeparseFaults 1 else d
    let toMac := decide (port < 1024) && fieldOf s fs 9 != 1
    -- of a cut-through packet the MAC ends the frame (R186)
    if p.whole && decide (Dev.maxFrame d port < bytes.length + 4) && !(x.cut && toMac) then drop d 0x14
    else
      let d := if marked then Dev.perf (if qFront n then Dev.count d (K.eqEcnMarked n) 1 else d) 0x26 7 1 else d
      let x := { x with ecn := marked }
      let d := Dev.act (Dev.perf d (0x10 + portPipe port) 5 p.cells.length) (actCells n) p.cells.length
      let l := Pkt.latencyAt p (Dev.now d)
      if 1024 ≤ port ∧ port < 1040 then
        Dev.releaseFrom (Dev.measure (Dev.recirculate d (port - 1024) bytes) n port x s fs l false) n x
      else if fieldOf s fs 9 = 1 ∧ p.whole = true then
        let m := portPipe port
        Dev.releaseFrom (Dev.measure (Dev.recirculate d m bytes) n (1024 + m) x s fs l false) n x
      else if port = 1040 then
        let r := Dev.punt d n c.cls x s fs bytes
        Dev.releaseFrom (if r.2 then Dev.measure r.1 n port x s fs l false else r.1) n x
      else
        let f : TxFrame := { d := x, q := n, sheaf := s, fields := fs, out := out, charge := c.charge,
                             late := c.late, stomp := x.tailBad, underrun := false, lost := false, txAt := 0,
                             stamp := 0, sent := [] }
        let o := Dev.port d port
        Dev.setPort d port { o with sel := o.sel ++ [f] }

/-- Run the whole egress pass of the packet in `c`. -/
def Dev.egressPass (d : Dev) (c : StageCtx) : Dev :=
  let r := Dev.runStages (portPipe (qPort c.q)) egressStages [] (egressStages * 64) d c
  Dev.endEgress r.1 r.2

/-- The egress pass of the packet in `c` up to stage k, which finds a parity error (R503). -/
def Dev.egressParity (d : Dev) (k : Nat) (c : StageCtx) : Dev :=
  let n := portPipe (qPort c.q)
  let r := Dev.runStages n k [] (k * 64) d c
  let r := Dev.parityError r.1 n egressStages r.2
  Dev.endEgress r.1 r.2

/-! Broken reads (R168, R169). -/

/-- A reference to packet i is lost: with the last one its pool charge goes, its cells stay for the audit (R169, R182). -/
def Dev.loseRef (d : Dev) (i : Nat) : Dev :=
  let p := Dev.pkt d i
  if p.refs ≤ 1 then
    let d := match p.mcPool with
      | some x => Dev.uncharge d x.1 x.2 p.inPort p.mcCells
      | none => d
    Dev.delPkt d i
  else Dev.setPkt d i { p with refs := p.refs - 1 }

/-- A place of queue n's list beyond the damage is lost: its packets drop as list_break; an unshared bale and the cells of
its packets stay allocated until the audit (R169, R210). -/
def Dev.loseItem (d : Dev) (n : Nat) (it : QItem) : Dev :=
  match it with
  | .pkt x =>
    let p := Dev.pkt d x.pkt
    let d := Dev.dropOut d 0x2A n x p false p.sheaf p.fields
    let d := Dev.subDepth (Dev.uncharge d x.pool x.svc p.inPort x.c) n x.c (Desc.hrCells x)
    Dev.loseRef (Dev.addDescs d 0 1) x.pkt
  | .bale b s =>
    let x := Dev.bale d b
    if x.shared then Dev.dropBaleUnread d 0x2A n b s
    else
      let d := Dev.dropRecs d 0x2A n x
      let d := if x.written then d else x.recs.foldl (fun d r => Dev.loseRef d r.pkt) d
      let d := Dev.cutBale d n b s
      if x.written then d else Dev.setBale d b { Dev.bale d b with recs := [], closed := true }

/-- The list of queue n is damaged after its first k places: it is cut there, what follows is lost, and an audit starts
(R169). -/
def Dev.listBreak (d : Dev) (n k : Nat) : Dev :=
  let d := ((Dev.queue d n).items.drop k).foldl (fun d it => Dev.loseItem d n it) d
  let q := Dev.queue d n
  let d := Dev.setQueue d n { q with items := q.items.take k }
  let d := Dev.windowMoved d n
  let d := Dev.bufUncorrectable (Dev.count d K.bufListBreaks 1) 1
  Dev.recontend (Dev.audit (Dev.contained d 6 0x2A 0x0900 0x0F n)) n

/-- The ports that egress pipeline n serves: those of its tile, its recirculation port and, where it has it, the CPU port. -/
def pipePorts (n : Nat) : List Nat :=
  (List.range 64).map (n * 64 + ·) ++ [1024 + n] ++ (if portPipe 1040 = n then [1040] else [])

/-- The next asking port of pipeline n in round robin, with its place (R241). -/
def Dev.nextAsk (d : Dev) (n : Nat) : Option (Nat × Nat) :=
  let asking := (pipePorts n).zipIdx.filter (fun x => Dev.asks d x.1)
  match asking.find? (fun x => decide ((Dev.pipe d n).selPort < x.2)) with
  | some x => some x
  | none => asking.head?

/-- Port p of pipeline n makes a selection: the queue, the charge and the egress pass. A damaged descriptor or cell link cuts the
list before itself, the head included (R169). -/
def Dev.selectPort (d : Dev) (n p : Nat) (fetch : Bool) (w : ReadWay) : Dev :=
    let r := Dev.selectHead p (Dev.portItems d p + 1) d
    match r.2 with
    | none => r.1
    | some (q, launch, late) =>
      if w = .listBad 0 then Dev.listBreak r.1 q 0
      else
      let t := Dev.dequeue r.1 q launch
      match t.2 with
      | none => t.1
      | some (x, l) =>
        let d := match w with
          | .listBad k => Dev.listBreak t.1 q (k - 1)
          | _ => t.1
        if w = .cellBad then
          let k := Dev.pkt d x.pkt
          let d := Dev.contained (Dev.bufUncorrectable d 1) 6 0x29 0x0900 0x0E q
          Dev.dropSelected d 0x29 q x l k.sheaf k.fields
        else
          let c := Dev.egressCtx d q x l late
          if Pkt.own (Dev.pkt d x.pkt) then Dev.endEgress d c
          else
            match w with
            | .parity k => Dev.egressParity d (if fetch then k.val else 0) c
            | _ => if fetch then Dev.egressPass d c else Dev.setPipe d n { Dev.pipe d n with ctx := c }

/-- SCHED_SELECT (R241, R242): the next asking port of pipeline n selects, the packet is charged and goes through the egress
pass. `fetch` runs the bank's program; without it the packet stands at egress stage 0 and its instructions come as commands
(log 15). -/
def Dev.schedSelect (d : Dev) (n : Nat) (fetch : Bool) (w : ReadWay) : Dev :=
  if !fetch && (Dev.pipe d n).ctx.live then d
  else
    match Dev.nextAsk d n with
    | none => d
    | some (p, k) => Dev.selectPort (Dev.setPipe d n { Dev.pipe d n with selPort := k }) n p fetch w

end Sys2Proof.Machine
end

