-- ==== Sys2Proof/Machine/Transmit.lean ====
section
/-! DEFINITION. Transmission: the updates of the egress MAC, the frame's start and end, transmit timestamps, flow-control
frames, ageing, port down (R24, R176, R177, R185 to R189, R220, R276 to R289, R315 to R317). -/
namespace Sys2Proof.Machine

/-! Following a header into the transmitted frame (R280). -/

/-- Where frame byte o stands in the transmitted frame, when each deparser appended it from its remainder point. -/
def TxFrame.place (p : Pkt) (f : TxFrame) (o : Nat) : Option Nat :=
  if o < p.dep.rem then none
  else
    let o1 := o - p.dep.rem + p.dep.head.length
    if o1 < f.out.rem then none else some (o1 - f.out.rem + f.out.head.length)

/-! One-step and transparent-clock updates (R280 to R283). -/

/-- A UDP checksum at `u` brought up to date for the words of `w` that changed to `w'` from `a` up to `b`, counted from
the UDP header (R283). -/
def udpFix (w w' : List Byte) (u a b : Nat) (v6 : Bool) : List Byte :=
  let hc := byteAt w (u + 6) * 256 + byteAt w (u + 7)
  if !v6 && hc == 0 then w'
  else
    let a0 := a - (a - u) % 2
    let n := (b - a0 + 1) / 2
    let hc' := (List.range n).foldl (fun hc i =>
      inetUpdate hc (byteAt w (a0 + 2 * i) * 256 + byteAt w (a0 + 2 * i + 1))
        (byteAt w' (a0 + 2 * i) * 256 + byteAt w' (a0 + 2 * i + 1))) hc
    splice w' (u + 6) (beBytes 2 hc')

/-- Add x to the correctionField of the PTP header at o, as a signed 64-bit sum (R281, R282). -/
def addCorrection (w : List Byte) (o : Nat) (x : Int) : List Byte :=
  splice w (o + 8) (beBytes 8 (unsgn 64 ((beNat (slice w (o + 8) 8) : Int) + x)))

/-- Residence time in 2^-16 ns on base b (R282). -/
def Dev.residence (d : Dev) (b : Nat) (p : Pkt) (f : TxFrame) : Int :=
  schedDiff f.txAt p.rxAt * ((2 ^ 48 : Int) + (Dev.base d b).rho) / 2 ^ 48

/-- The places of the PTP header and, where the record before it is a UDP header, of that header; `none` where either
does not lie in appended bytes (R280). -/
def TxFrame.ptpPlace (p : Pkt) (f : TxFrame) : Option (Nat × Option Nat) :=
  match Sheaf.findRec f.sheaf [22] with
  | none => none
  | some r =>
    match TxFrame.place p f (Sheaf.recOffset f.sheaf r) with
    | none => none
    | some o =>
      if 0 < r ∧ Sheaf.recClass f.sheaf (r - 1) = 16 then
        (TxFrame.place p f (Sheaf.recOffset f.sheaf (r - 1))).map (fun u => (o, some u))
      else some (o, none)

/-- The PTP update of frame `w`, or its count as skipped (R280 to R283). -/
def Dev.ptpUpdate (d : Dev) (p : Pkt) (f : TxFrame) (w : List Byte) : Dev × List Byte :=
  let one := fieldOf f.sheaf f.fields 17 == 1
  let tc := fieldOf f.sheaf f.fields 18 == 1
  if !one && !tc then (d, w)
  else
    let b := fieldOf f.sheaf f.fields 19
    let skip := (Dev.count d K.tsSkipped 1, w)
    match TxFrame.ptpPlace p f with
    | none => skip
    | some (o, u) =>
      let kind := byteAt w o % 16
      if Sheaf.fld f.sheaf 13 1 = 0 ∨ w.length < o + (if tc then 34 else 44) ∨ (tc = false ∧ kind ≠ 0) then skip
      else
        let v6 := match Sheaf.findRec f.sheaf [22] with
          | some r => lastIpV6 f.sheaf (r - 1)
          | none => false
        let fix (w' : List Byte) (a b : Nat) : List Byte :=
          match u with
          | some u => udpFix w w' u a b v6
          | none => w'
        if tc then
          let d := if one then Dev.count d K.tsSkipped 1 else d
          (Dev.count d K.tsTc 1, fix (addCorrection w o (Dev.residence d b p f)) (o + 8) (o + 16))
        else
          let sec := f.stamp / 2 ^ 32
          let ns := f.stamp / 4 % 2 ^ 30
          let w' := splice w (o + 34) (beBytes 6 sec ++ beBytes 4 ns)
          let w' := addCorrection w' o ((f.stamp % 4 * 16384 : Nat) : Int)
          (Dev.perf (Dev.count d K.tsOnestep 1) (0x10 + portPipe (qPort f.q)) 12 1, fix w' (o + 8) (o + 44))

/-! IOAM trace options (R315, R316). -/

/-- Bytes of the data that trace-type bit i selects. -/
def ioamLen (i : Nat) : Nat := if 8 ≤ i ∧ i ≤ 10 then 8 else 4

/-- Bit i of a 24-bit IOAM-Trace-Type, bit 0 the most significant. -/
def ioamBit (t i : Nat) : Bool := bit t (23 - i)

/-- The data of trace-type bit i (R315, Table 5). `hop` is the hop limit, `l` the latency. -/
def Dev.ioamData (d : Dev) (p : Pkt) (f : TxFrame) (hop l i : Nat) : List Byte :=
  let out := qPort f.q
  match i with
  | 0 => beBytes 1 hop ++ beBytes 3 (Dev.el d K.ioamNodeId)
  | 1 => beBytes 2 p.inPort ++ beBytes 2 out
  | 2 => beBytes 4 (p.tsTb0 / 2 ^ 32)
  | 3 => beBytes 4 (p.tsTb0 / 4 % 2 ^ 30)
  | 4 => beBytes 4 (if l < 2 ^ 31 then l else 2 ^ 31)
  | 5 => beBytes 4 (Dev.el d K.ioamNsData)
  | 6 => beBytes 4 f.d.depth
  | 8 => beBytes 1 hop ++ beBytes 7 (Dev.el d K.ioamNodeId)
  | 9 => beBytes 4 p.inPort ++ beBytes 4 out
  | 10 => beBytes 8 (Dev.el d K.ioamNsDataWide)
  | 11 => beBytes 4 f.d.used
  | _ => List.replicate (ioamLen i) 255

/-- The hop limit or TTL, as transmitted, of the last class-6 or class-7 record before the option of record r, which
stands at o (R315); `ip` is the last class-7 record before it. -/
def TxFrame.hopLimit (p : Pkt) (f : TxFrame) (w : List Byte) (o r ip : Nat) : Nat :=
  let k := ((List.range r).reverse.find? (fun i => [6, 7].contains (Sheaf.recClass f.sheaf i))).getD ip
  let at_ := (TxFrame.place p f (Sheaf.recOffset f.sheaf k)).getD (o - (Sheaf.recOffset f.sheaf r - Sheaf.recOffset f.sheaf k))
  byteAt w (at_ + (if Sheaf.recClass f.sheaf k = 6 then 8 else 7))

/-- The IOAM trace fill of frame `w` (R316). The option header is Namespace-ID, NodeLen, Flags and RemainingLen, then the
trace type (RFC 9197). -/
def Dev.ioamFill (d : Dev) (p : Pkt) (f : TxFrame) (l : Nat) (w : List Byte) : Dev × List Byte :=
  if fieldOf f.sheaf f.fields 28 ≠ 1 then (d, w)
  else
    let skip := (Dev.count d K.ioamSkipped 1, w)
    match ioamRec f.sheaf with
    | none => skip
    | some (r, ip) =>
      match TxFrame.place p f (Sheaf.recOffset f.sheaf r) with
      | none => skip
      | some o =>
        let h := get16 w (o + 2)
        let nodeLen := bits h 11 5
        let rem := bits h 0 7
        let t := beNat (slice w (o + 4) 3)
        let sel := (List.range 23).filter (ioamBit t)
        -- the option-type in the byte before the option header: only the pre-allocated trace option, 0, is filled (R315)
        if o = 0 ∨ byteAt w (o - 1) ≠ 0 ∨ w.length < o + 8 + rem * 4 ∨ Dev.ioamNsOn d (get16 w o) = false then skip
        else if nodeLen * 4 ≠ (sel.map ioamLen).foldl (· + ·) 0 ∨ rem < nodeLen then
          (Dev.count d K.ioamOverflow 1, splice w (o + 2) (beBytes 2 (putBits h 10 1 1)))
        else
          let hop := TxFrame.hopLimit p f w o r ip
          let w' := splice w (o + 8 + (rem - nodeLen) * 4) (sel.flatMap (Dev.ioamData d p f hop l))
          let d := Dev.perf (Dev.count d K.ioamFilled 1) (0x10 + portPipe (qPort f.q)) 11 1
          (d, splice w' (o + 2) (beBytes 2 (putBits h 0 7 (rem - nodeLen))))

/-! The frame on the line. -/

/-- Latency of a frame to its transmit plane (R298). -/
def TxFrame.latency (p : Pkt) (f : TxFrame) : Nat := Pkt.latencyAt p f.txAt

/-- The frame's bytes without its FCS, with the MAC's updates. -/
def Dev.compose (d : Dev) (f : TxFrame) : Dev × TxFrame :=
  let p := Dev.pkt d f.d.pkt
  let w := Deparsed.build f.out (Pkt.stored p)
  let a := Dev.ptpUpdate d p f w
  let b := Dev.ioamFill a.1 p f (TxFrame.latency p f) a.2
  (b.1, { f with sent := b.2 })

/-- Count a frame started on the line by its destination address (R321). -/
def Dev.countTx (d : Dev) (p : Nat) (bs : List Byte) : Dev :=
  let d := Dev.countStat d p 13 1
  if isMcast bs then Dev.countStat d p 15 1 else if isBcast bs then Dev.countStat d p 16 1 else d

/-- Start the first selected frame of port p at phase `ph`; `ecc` says that a later cell of it reads uncorrectable, so
the frame is stomped (R24, R168, R276). -/
def Dev.startFrame (d : Dev) (p ph : Nat) (ecc : Bool) : Dev :=
  let o := Dev.port d p
  match o.sel with
  | [] => d
  | f :: t =>
    let d := Dev.setPort d p { o with sel := t }
    let k := Dev.pkt d f.d.pkt
    let f := { f with txAt := Dev.instant d ph (Dev.txDelay d p), stomp := f.stomp || ecc,
                      stamp := Dev.stampOn d (fieldOf f.sheaf f.fields 19) ph (Dev.txDelay d p - Dev.tsAsym d p) }
    let d := if ecc then Dev.contained (Dev.bufUncorrectable d 1) 6 0x29 0x0900 0x0E f.q else d
    let d := Dev.countTx d p (Deparsed.build f.out (Pkt.stored k))
    let d := if f.charge.launch then Dev.countStat d p 22 1 else d
    let d := if f.late then Dev.countStat d p 23 1 else d
    let r := if k.whole then Dev.compose d f else (d, f)
    Dev.setPort r.1 p { Dev.port r.1 p with tx := some r.2 }

/-- Whether a selected frame of port p is a launch frame whose first bit, started now, would reach its plane before the launch
time on the launch base (R276, R287; log 164). -/
def Dev.launchHeld (d : Dev) (p ph : Nat) (f : TxFrame) : Bool :=
  TxFrame.waits f && decide (phaseUnits ph + Dev.txDelay d p < Dev.launchDiff d (TxFrame.now d f) * 65536)

/-- A cut-through packet that its egress pass sent to recirculation goes there once it is whole, unless it passes the largest
frame: no MAC ends it (R141, R186). -/
def Dev.lateRecirc (d : Dev) (p : Nat) (f : TxFrame) (t : List TxFrame) : Dev :=
  let k := Dev.pkt d f.d.pkt
  let m := portPipe p
  if k.whole then
    let d := Dev.setPort d p { Dev.port d p with sel := t }
    if Dev.maxFrame d p < (Deparsed.build f.out (Pkt.stored k)).length + 4 then
      Dev.dropSelected d 0x14 f.q f.d f.charge f.sheaf f.fields
    else
    let d := Dev.recirculate d m (Deparsed.build f.out (Pkt.stored k))
    Dev.releaseFrom
      (Dev.measure d f.q (1024 + m) f.d f.sheaf f.fields (Pkt.latencyAt k (Dev.now d)) false) f.q f.d
  else d

/-- A selected frame whose flits fail their CRC on the core-to-tile link is dropped (R62). -/
def Dev.txCrcFail (d : Dev) (p : Nat) (f : TxFrame) (t : List TxFrame) (flits : Option Nat) : Dev :=
  let d := Dev.setPort d p { Dev.port d p with sel := t }
  Dev.dropSelected (Dev.badFlits d (portPipe p) flits) 0x04 f.q f.d f.charge f.sheaf f.fields

def TxWay.flits : TxWay → Option Nat
  | .crcFail k => some k
  | _ => none

/-- FRAME_TRANSMIT: the MAC of a port that is up starts its first selected frame, unless a frame or a flow-control frame
goes first, or the launch time has not come (R24, R176, R287). -/
def Dev.frameTransmit (d : Dev) (p ph : Nat) (w : TxWay) : Dev :=
  let o := Dev.port d p
  match o.tx, o.pfc, o.sel with
  | none, [], f :: t =>
    if Dev.portUp d p = false then d
    else if fieldOf f.sheaf f.fields 9 = 1 then Dev.lateRecirc d p f t
    else if Dev.launchHeld d p ph f then d
    else if Dev.rouriBroken d (portPipe p) 1 then Dev.txCrcFail d p f t (TxWay.flits w)
    else Dev.startFrame d p ph (decide (w = .cellBad))
  | _, _, _ => d

/-! Transmit timestamps (R284 to R286). -/

def Dev.txts (d : Dev) (n : Nat) : TxtsQueue := SMap.get d.time.txts n TxtsQueue.init
def Dev.setTxts (d : Dev) (n : Nat) (q : TxtsQueue) : Dev :=
  { d with time := { d.time with txts := SMap.set d.time.txts n q TxtsQueue.init } }

/-- Discard an entry: the sticky bit, the counters and the overflow event (R286). -/
def Dev.txtsDiscard (d : Dev) (n : Nat) : Dev :=
  let q := Dev.txts d n
  let d := Dev.setTxts d n { q with overflow := true, discards := (q.discards + 1) % 2 ^ 32 }
  Dev.event (Dev.count d (K.txtsOverflow n) 1) 5 9

/-- An entry arrives at the queue of pipeline n. -/
def Dev.txtsPush (d : Dev) (n : Nat) (e : Nat × Nat) : Dev :=
  let q := Dev.txts d n
  let d := Dev.perf d (0x10 + n) 13 1
  if 64 ≤ q.entries.length then Dev.txtsDiscard d n
  else
    let d := Dev.setTxts d n { q with entries := q.entries ++ [e] }
    if q.entries.isEmpty then Dev.raise d (16 + n) else d

/-- The entry of a frame with ts_capture 1 (R284, Table 6). -/
def Dev.txtsFrame (d : Dev) (p : Nat) (f : TxFrame) (bad : Bool) : Dev :=
  if fieldOf f.sheaf f.fields 16 ≠ 1 then d
  else
    let k := Dev.pkt d f.d.pkt
    let id := fieldOf f.sheaf f.fields 20
    let base := fieldOf f.sheaf f.fields 19
    let x : Nat × Nat × Nat :=
      if id ≠ 0 then (id, 0, 0)
      else
        match Sheaf.findRec f.sheaf [22] with
        | some r =>
          let o := Sheaf.recOffset f.sheaf r
          (get16 k.frame (o + 30), 1, byteAt k.frame (o + 4))
        | none => (0, 0, 0)
    let w := x.2.1 * 2 + base * 2 ^ 2 + p * 2 ^ 5 + x.1 * 2 ^ 16 + x.2.2 * 2 ^ 32 + f.stamp / 2 ^ 64 * 2 ^ 40
      + b2n bad * 2 ^ 56
    Dev.txtsPush d (portPipe p) (w, f.stamp % 2 ^ 64)

/-! The end of a frame. -/

/-- The frame leaves the line: what it was goes out, is counted and measured, and its packet is released; one that lost flits on
the link ends stomped and counts as dropped for that (R62, R185, R186, R284, R298, R321; log 163). -/
def Dev.endFrame (d : Dev) (p : Nat) (f : TxFrame) : Dev :=
  let k := Dev.pkt d f.d.pkt
  let limit := Dev.maxFrame d p - 4
  let long := decide (limit < f.sent.length)
  let stomp := f.stomp || f.underrun || f.lost || long
  let data := if long then f.sent.take limit else f.sent
  let fcs := if stomp then fcs32 data ^^^ 0xFFFFFFFF else fcs32 data
  let d := Dev.emit d (.frame p (data ++ leBytes 4 fcs) stomp)
  let d := Dev.countStat d p 14 (data.length + 4)
  let d := if stomp then Dev.perf (Dev.countStat d p 19 1) (0x10 + portPipe p) 9 1 else d
  let d := if f.underrun then Dev.countStat d p 20 1 else d
  let d := if f.lost then
      Dev.dropOut (Dev.badFlits d (portPipe p) none) 0x04 f.q f.d k true f.sheaf f.fields
    else Dev.measure d f.q p f.d f.sheaf f.fields (TxFrame.latency k f) stomp
  Dev.releaseFrom (Dev.oweFix (Dev.txtsFrame d p f stomp) f.d f.q f.charge) f.q f.d

/-- FRAME_TX_END: a frame whose bytes are not all there ends as an underrun (R186). -/
def Dev.frameTxEnd (d : Dev) (p : Nat) : Dev :=
  let o := Dev.port d p
  match o.tx with
  | none => d
  | some f =>
    let d := Dev.setPort d p { o with tx := none }
    let k := Dev.pkt d f.d.pkt
    let f := { f with underrun := !k.whole }
    let r := if f.sent.isEmpty then Dev.compose d f else (d, f)
    Dev.endFrame r.1 p r.2

/-! Flow-control frames (R176). -/

/-- A priority flow-control frame with its FCS, padded to 64 bytes. -/
def Dev.pfcFrame (d : Dev) (prio time : Nat) : List Byte :=
  let head := beBytes 6 0x0180C2000001 ++ beBytes 6 (Dev.el d K.bufPfcSmac) ++ beBytes 2 0x8808 ++ beBytes 2 0x0101
    ++ beBytes 2 (2 ^ prio) ++ zeros (2 * prio) ++ beBytes 2 time
  let body := head ++ zeros (60 - head.length)
  body ++ leBytes 4 (fcs32 body)

/-- Send the oldest queued flow-control frame once no frame is in transmission. -/
def Dev.pfcSend (d : Dev) (p : Nat) : Dev :=
  let o := Dev.port d p
  match o.tx, o.pfc with
  | none, (prio, time) :: t =>
    let bs := Dev.pfcFrame d prio time
    let d := Dev.emit (Dev.setPort d p { o with pfc := t }) (.pfc p bs)
    let d := Dev.countStat (Dev.countTx d p bs) p 14 bs.length
    Dev.countStat d p (if time = 0 then 18 else 17) 1
  | _, _ => d

/-- The present XOFF state of port p is queued first when it comes up (R176). -/
def Dev.pfcPresent (d : Dev) (p : Nat) : Dev :=
  (List.range 8).foldl (fun d pr =>
    if Dev.pfcTx d p && Dev.xoffOn d p pr then Dev.queuePfc d p pr (Dev.pfcQuanta d p) else d) d

/-! Ageing (R189, R220, R289). -/

/-- Whether queue n's head waits for its launch time. -/
def Dev.launchWaits (d : Dev) (n : Nat) : Bool :=
  Dev.qTier d n == 4 &&
    (match EQueue.head (Dev.queue d n) with
      | some x => Pkt.hasLaunch (Dev.pkt d x.pkt) && decide (400 < Dev.launchDiff d (Dev.pkt d x.pkt))
      | none => false)

/-- The 1 ms check of every held, paused or launch-waiting queue, and of the queues that a per-pipeline reset stops (R189, R493). -/
def Dev.ageCheck (d : Dev) : Dev :=
  (d.queues.map (fun x => x.1)).foldl (fun d n =>
    if (Dev.queue d n).held || Dev.qPaused d n || Dev.launchWaits d n || (Dev.pipe d (portPipe (qPort n))).stopped then Dev.recontend (Dev.clean d n) n else d) d

/-! Port down (R187, R188, R220, R244). -/

/-- The 16 queues of port p. -/
def portQueues (p : Nat) : List Nat := (List.range 16).map (fun q => p * 16 + q)

/-- The frame in transmission ends at once: tx_aborted; how many of its bytes left is a free value (R187, R284, log 3). -/
def Dev.cutFrame (d : Dev) (p : Nat) (f : TxFrame) : Dev :=
  let r := if f.sent.isEmpty then Dev.compose d f else (d, f)
  let d := r.1
  let n := Dev.freeVal d (r.2.sent.length + 1)
  let d := Dev.emit (Dev.useFree d) (.frame p (r.2.sent.take n) true)
  let d := Dev.countStat d p 14 n
  let k := Dev.pkt d f.d.pkt
  let d := Dev.dropOut d 0x2B f.q f.d k true f.sheaf f.fields
  Dev.releaseFrom (Dev.oweFix (Dev.txtsFrame d p r.2 true) f.d f.q f.charge) f.q f.d

/-- Port p goes down: the frame in transmission and the selected frames, one in the egress stages among them, are aborted, flow-control frames are discarded,
and every queue is held (R187, R214, R244). -/
def Dev.holdPort (d : Dev) (p : Nat) : Dev :=
  let o := Dev.port d p
  let d := Dev.setPort d p { o with tx := none, sel := [], pfc := [] }
  let d := match o.tx with
    | some f => Dev.cutFrame d p f
    | none => d
  let d := o.sel.foldl (fun d f => Dev.dropSelected d 0x2B f.q f.d f.charge f.sheaf f.fields) d
  let d := match Dev.inStages d p with
    | some c =>
      let n := portPipe p
      let d := Dev.setPipe d n { Dev.pipe d n with ctx := StageCtx.init }
      Dev.dropSelected d 0x2B c.q c.desc c.charge (unshiftSheaf (Dev.pkt d c.pkt).sheaf c.sheaf) c.fields
    | none => d
  (portQueues p).foldl (fun d n =>
    let d := Dev.closeBale d n
    let d := Dev.setQueue d n { Dev.queue d n with held := true }
    Dev.leave d n) d

/-- Begin the flush of every queue of port p (R188). -/
def Dev.flushPort (d : Dev) (p : Nat) : Dev :=
  (portQueues p).foldl (fun d n =>
    let d := Dev.flushQueue d n
    Dev.setQueue d n { Dev.queue d n with flushing := true }) d

/-- The flush is complete: the queues are empty, and those of a port that is back run (R188). Those of a port that is still
down stay held (DEDUCED, log 172). -/
def Dev.flushDone (d : Dev) (p : Nat) : Dev :=
  let d := (portQueues p).foldl (fun d n =>
    let q := Dev.queue d n
    Dev.setQueue d n { q with flushing := false, held := q.held && !Dev.portUp d p }) d
  Dev.recontendPort d p

/-- Port p is back: its queues resume, unless a flush runs (R188). -/
def Dev.releasePort (d : Dev) (p : Nat) : Dev :=
  let d := (portQueues p).foldl (fun d n =>
    let q := Dev.queue d n
    Dev.setQueue d n { q with held := q.held && q.flushing }) d
  Dev.recontendPort (Dev.pfcPresent d p) p

end Sys2Proof.Machine
end

