-- ==== Sys2Proof/Machine/Epochs.lean ====
section
/-! DEFINITION. Table-command blocks, the staged set, banks, loads and the epoch flip (Barns, tables and classification;
Programs, banks and epochs). -/
namespace Sys2Proof.Machine

def Dev.setProg (d : Dev) (p : ProgS) : Dev := { d with prog := p }
def Dev.setTbl (d : Dev) (t : TableS) : Dev := { d with tbl := t }

/-! Aborts (R154, R155). -/

/-- Moves of exact-match entries, and entries put into the stash, between two contents of the tables (R103, R104, R322). -/
def emMoves (t u : TableS) : Nat :=
  (u.em.filter (fun y => t.em.any (fun z => decide (({ z with loc := y.loc } : EmEntry) = y) && z.loc != y.loc))).length
def emStashed (t u : TableS) : Nat :=
  (u.em.filter (fun y => decide (2 ^ 22 ≤ y.loc) && !t.em.any (fun z => z.loc == y.loc))).length

/-- Entries that are visible only to the bit that is not in force, and entries whose visibility a settlement changes. -/
def staged (t : TableS) (e : Nat) : Nat :=
  let only (v : Nat) : Bool := !sees v e
  (t.em.filter (fun x => only x.vis)).length + (t.lpm.filter (fun x => only x.vis)).length
    + (t.win.filter (fun x => only x.vis)).length + (t.tcam.filter (fun x => only x.vis)).length
def unsettled (t : TableS) : Nat :=
  (t.em.filter (fun x => x.vis != 3)).length + (t.lpm.filter (fun x => x.vis != 3)).length
    + (t.win.filter (fun x => x.vis != 3)).length + (t.tcam.filter (fun x => x.vis != 3)).length

/-- The tables after a settlement, or the undo of a staged set (R122, R155). -/
def Dev.settleTbl (d : Dev) (e : Nat) : Dev :=
  let t := settle d.tbl e
  Dev.perf (Dev.setTbl d t) 0x24 2 (emMoves d.tbl t)

/-- The staged set is aborted: its undo begins. An abort while one is under way or done changes nothing. -/
def Dev.abort (d : Dev) (cause unit tag rec : Nat) : Dev :=
  if Dev.el d K.epochStageState ≠ 0 then d
  else
    let d := Dev.setEl d K.epochStageState 1
    Dev.setProg d { d.prog with abort := some (cause, unit, tag, rec) }

/-- The undo completes: state 2, with the cause (R155). -/
def Dev.abortDone (ep : Nat) (d : Dev) : Dev :=
  match d.prog.abort with
  | none => d
  | some (c, u, t, r) =>
    let d := Dev.perf (Dev.settleTbl (Dev.setProg d { d.prog with abort := none }) (ep % 2)) 0x24 7 (staged d.tbl (ep % 2))
    let d := Dev.setEl (Dev.setEl d K.epochStageState 2) K.epochStageEntries 0
    Dev.setEl (Dev.setEl (Dev.setEl (Dev.setEl d K.epochAbortCause c) K.epochAbortUnit u) K.epochAbortTag t) K.epochAbortRecord r

/-! Table-command blocks (R123 to R126). -/

/-- Fields of a block's header (Table 7). -/
def Blk.op (h : Nat) : Nat := bits h 0 8
def Blk.table (h : Nat) : Nat := bits h 8 4
def Blk.vis (h : Nat) : Nat := bits h 12 2
def Blk.next (h : Nat) : Bool := Blk.vis h == 1
def Blk.clearHit (h : Nat) : Bool := bit h 14
def Blk.count (h : Nat) : Nat := bits h 16 8
def Blk.tag (h : Nat) : Nat := bits h 32 32

/-- Record size of a table in bytes (Table 8). -/
def blkRecBytes (table : Nat) : Nat :=
  match table with
  | 0 => 96 | 7 => 160 | 8 => 192 | _ => 32

/-- How a block ended. -/
structure BlkEnd where
  status : Nat
  unit : Nat
  done : Nat
  loc : Nat
  tbl : TableS
  back : List Nat
  deriving DecidableEq, Repr

/-- The end of a block that does not start: no record runs. -/
def BlkEnd.stop (t : TableS) (st : Nat) : BlkEnd :=
  { status := st, unit := 0xE, done := 0, loc := 0xFFFFFFFF, tbl := t, back := [] }

/-- Run the records of a block in order up to the first that fails, or to that in which the host aborts the staged set of
which they are part (R125, R155). -/
def runRecords (e h : Nat) (f : Option TblFault) (i : Nat) (t : TableS) (loc : Nat) (back : List Nat) : List Nat → BlkEnd
  | [] => { status := TS.ok, unit := 0xE, done := i, loc := loc, tbl := t, back := back }
  | r :: rs =>
    let x := runRecord t e (Blk.op h) (Blk.table h) (Blk.next h) (Blk.clearHit h) r
    if x.status ≠ TS.ok then
      { status := x.status, unit := 0xE, done := i, loc := x.loc, tbl := t, back := back }
    else
      match (match f with | some b => if b.record.val = i then some b.stop else none | none => none) with
      | some (.writeEcc u) => { status := TS.writeEcc, unit := u.val, done := i, loc := x.loc, tbl := t, back := back }
      | some (.timeout u) => { status := TS.timeout, unit := u.val, done := i, loc := x.loc, tbl := t, back := back }
      | some .hostAbort =>
        if Blk.next h then
          { status := TS.aborted, unit := 0xE, done := i + 1, loc := 0xFFFFFFFF, tbl := x.tbl, back := back ++ [x.back] }
        else runRecords e h f (i + 1) x.tbl x.loc (back ++ [x.back]) rs
      | none => runRecords e h f (i + 1) x.tbl x.loc (back ++ [x.back]) rs

/-- Whether the host's abort came while the block ran. -/
def TblFault.aborts (f : Option TblFault) (done : Nat) : Bool :=
  match f with
  | some b => b.stop == .hostAbort && decide (b.record.val < done)
  | none => false

/-- Whether a block is malformed, or of a pair the table does not accept (R123, R124). -/
def Blk.bad (h : Nat) (recs : List Nat) : Bool :=
  decide (Blk.op h < 1 ∨ 9 < Blk.op h) || decide (2 ≤ Blk.vis h) || decide (8 < Blk.table h) || bit h 15
    || bits h 24 8 != 0 || bits h 64 64 != 0 || Blk.count h == 0 || Blk.count h != recs.length
    || !accepts (Blk.op h) (Blk.table h) (Blk.next h) (Blk.clearHit h)

/-- The 16 bytes that the part writes into a block's header (Table 7); `fr` is fail_record. -/
def BlkEnd.bytes (x : BlkEnd) (fr : Nat) : List Byte :=
  [BitVec.ofNat 8 x.status, BitVec.ofNat 8 x.unit, BitVec.ofNat 8 fr, BitVec.ofNat 8 x.done]
    ++ leBytes 4 x.loc ++ zeros 8

/-- The image of a completed block: the header with its result, and the records (R363). -/
def blockImage (h : Nat) (recs : List Nat) (x : BlkEnd) (fr : Nat) : List Byte :=
  leBytes 16 h ++ BlkEnd.bytes x fr
    ++ ((x.back ++ recs.drop x.back.length).map (leBytes (blkRecBytes (Blk.table h)))).flatten

/-- The bytes of an image that the part writes back: the PW fields, and the records of a READ (R363). -/
def backBytes (h : Nat) (img : List Byte) : List Byte := (if Blk.op h = 4 then img else img.take 32).drop 16

/-- A block is complete: it is counted, kept as the queue's last, and its completion goes to its queue; `item` says that
a DMA item waits for it (R125, R128, R363, R364, R375). `failed` says that a record failed; where none did, fail_record is
a free value (log 33). -/
def Dev.blockEnd (d : Dev) (q h : Nat) (recs : List Nat) (item failed : Bool) (x : BlkEnd) : Dev :=
  let fr := if failed then x.done else Dev.freeVal d 256
  let d := if failed then d else Dev.useFree d
  let d := Dev.perf (Dev.count d K.tblCmdBlocks 1) 0x24 5 1
  let d := if x.status ≠ TS.ok then Dev.count d K.tblCmdFailed 1 else d
  let d := Dev.setEl d (K.dqLastBlock (q % 2048)) (Blk.tag h + x.status * 2 ^ 32 + x.done * 2 ^ 40)
  let img := blockImage h recs x fr
  match (Dev.dq d q).item with
  | some it =>
    if item && it.stage == .wait then
      Dev.setDq d q { Dev.dq d q with item := some { it with
        stage := .write, seg := 0, off := 0, data := backBytes h img,
        info := x.status + x.done * 2 ^ 8 + Blk.tag h * 2 ^ 32 } }
    else if item then d else Dev.emit d (.blockDone q img)
  | none => if item then d else Dev.emit d (.blockDone q img)

/-- The table engine's events of a block that ran on tables `t` (R322). -/
def Dev.blockEvents (d : Dev) (h : Nat) (t : TableS) (x : BlkEnd) : Dev :=
  let d := Dev.perf d 0x24 1 (if Blk.op h = 4 then 0 else x.done)
  let d := Dev.perf (Dev.perf d 0x24 2 (emMoves t x.tbl)) 0x24 3 (emStashed t x.tbl)
  Dev.perf d 0x24 4 (b2n (x.status == TS.noRoom))

/-- Run a block to its end (R103, R123 to R126, R154, R155). -/
def Dev.runBlock (ep : Nat) (d : Dev) (q h : Nat) (recs : List Nat) (item : Bool) (f : Option TblFault) : Dev :=
  let d := Dev.setTbl d { d.tbl with last := q }
  if Blk.bad h recs then Dev.blockEnd d q h recs item false (BlkEnd.stop d.tbl TS.invalid)
  else if Blk.next h && Dev.el d K.epochStageState != 0 then Dev.blockEnd d q h recs item false (BlkEnd.stop d.tbl TS.aborted)
  else
    let x := runRecords (ep % 2) h f 0 d.tbl 0xFFFFFFFF [] recs
    let d := Dev.blockEvents (Dev.setTbl d x.tbl) h d.tbl x
    let d :=
      if x.status = TS.noRoom then
        if Blk.table h = 0 then Dev.day (Dev.count d K.tblEmNoRoom 1) 0
        else if 5 ≤ Blk.op h then Dev.day d 1 else d
      else d
    let d := if Blk.next h && Blk.op h != 4 then Dev.addEl d 32 K.epochStageEntries x.done else d
    let d :=
      if Blk.next h then
        if x.status = TS.noRoom then Dev.abort d 1 0xE (Blk.tag h) x.done
        else if x.status = TS.writeEcc then Dev.abort d 2 x.unit (Blk.tag h) x.done
        else if x.status = TS.timeout then Dev.abort d 3 x.unit (Blk.tag h) x.done
        else d
      else d
    let d := if TblFault.aborts f x.done then Dev.abort d 5 0xE 0 0 else d
    Dev.blockEnd d q h recs item (x.status != TS.ok) x

/-- Whether a block must wait: for the flip from its step 2 to the end of the ingress drain, NEXT records also for
settlement, and every block behind a waiting one of its queue (R122, R125, R151). -/
def Dev.blockWaits (d : Dev) (waiting : List WaitBlock) (q h : Nat) : Bool :=
  d.prog.flip != 0 || d.prog.drain || (Dev.el d K.tblSettling == 1 && Blk.next h) || waiting.any (fun b => b.queue == q)

/-- A block reaches the table engine. -/
def Dev.block (ep : Nat) (d : Dev) (q h : Nat) (recs : List Nat) (item : Bool) (f : Option TblFault) : Dev :=
  if Dev.blockWaits d d.tbl.waiting q h then
    Dev.setTbl d { d.tbl with waiting := d.tbl.waiting ++ [{ queue := q, hdr := h, recs := recs, item := item, fault := f }] }
  else Dev.runBlock ep d q h recs item f

/-- The oldest waiting block of each queue, where it may run. -/
def Dev.runnable (d : Dev) (seen : List WaitBlock) : List WaitBlock → List WaitBlock
  | [] => []
  | b :: t => (if Dev.blockWaits d seen b.queue b.hdr then [] else [b]) ++ Dev.runnable d (seen ++ [b]) t

/-- How far queue q stands behind the queue served last, in the round robin. -/
def rrTurn (last q : Nat) : Nat := if last < q then q - last else q + 2 ^ 16

/-- The block that the engine takes next: its queue is the first behind the one served last (R125). -/
def rrFirst (last : Nat) (bs : List WaitBlock) : Option WaitBlock :=
  bs.foldl (fun best b =>
    match best with
    | some a => if rrTurn last b.queue < rrTurn last a.queue then some b else best
    | none => some b) none

/-- Waiting blocks that may run do so, the queues in round robin, one block at a time; `k` bounds the blocks (R125). -/
def Dev.resumeFrom (ep : Nat) : Nat → Dev → Dev
  | 0, d => d
  | k + 1, d =>
    match rrFirst d.tbl.last (Dev.runnable d [] d.tbl.waiting) with
    | none => d
    | some b =>
      let d := Dev.setTbl d { d.tbl with waiting := d.tbl.waiting.erase b }
      Dev.resumeFrom ep k (Dev.runBlock ep d b.queue b.hdr b.recs b.item b.fault)

def Dev.resumeBlocks (ep : Nat) (d : Dev) : Dev := Dev.resumeFrom ep d.tbl.waiting.length d

/-! Banks (R145, R150, R153). -/

def Dev.activeImg (ep : Nat) (d : Dev) (n : Nat) : Image := Pipe.bank (Dev.pipe d n) ep
def Dev.idleImg (ep : Nat) (d : Dev) (n : Nat) : Image := Pipe.bank (Dev.pipe d n) (ep + 1)

/-- Put an image into the idle bank of pipeline n; words of that bank that were bad are written afresh (R504). -/
def Dev.setIdle (ep : Nat) (d : Dev) (n : Nat) (img : Image) : Dev :=
  let x := Pipe.setBank (Dev.pipe d n) (ep + 1) img
  Dev.setPipe d n { x with badWords := x.badWords.filter (fun w => w.1 != (ep + 1) % 2) }

/-- bank.a.image and bank.b.image. -/
def Dev.setImageIds (d : Dev) (n : Nat) : Dev :=
  Dev.setEl (Dev.setEl d (K.bankAImage n) (Dev.pipe d n).bankA.id) (K.bankBImage n) (Dev.pipe d n).bankB.id

/-- Whether a descriptor's packet holds the banks of epoch bit e. -/
def Dev.descHolds (d : Dev) (e : Nat) (x : Desc) : Bool :=
  !x.released && (Dev.pkt d x.pkt).epoch == e && !Pkt.own (Dev.pkt d x.pkt)

/-- The descriptors of a bale that stand for queue n: of a shared bale, its own copy (R217). -/
def Bale.descsOf (b : Bale) (n : Nat) : List Desc :=
  match SMap.find b.copies n with
  | some y => [y]
  | none => b.recs

/-- The descriptors of queue n, those of its bales included. -/
def Dev.queueDescs (d : Dev) (n : Nat) (q : EQueue) : List Desc :=
  q.items.flatMap (fun it =>
    match it with
    | .pkt x => [x]
    | .bale b _ => Bale.descsOf (Dev.bale d b) n)

/-- bank.held.packets of pipeline n: packets and copies that hold its idle bank (R145). -/
def Dev.heldPackets (ep : Nat) (d : Dev) (n : Nat) : Nat :=
  let e := (ep + 1) % 2
  let x := Dev.pipe d n
  let ing := (x.gate.filter (fun i => (Dev.pkt d i).epoch == e)).length + b2n (x.ctx.live && x.ctx.epoch == e && !(x.ctx.egress && x.ctx.desc.released))
  let qs := (d.queues.filter (fun q => portPipe (qPort q.1) == n)).flatMap (fun q => Dev.queueDescs d q.1 q.2)
  let outs := (d.ports.filter (fun o => portPipe o.1 == n)).flatMap (fun o =>
    (o.2.sel ++ o.2.tx.toList).map (fun f => f.d))
  let cpu := if n = 0 then (d.dma.staging.filter (fun y => y.epoch == e)).length else 0
  ing + ((qs ++ outs).filter (Dev.descHolds d e)).length + cpu

/-- Whether a pending load names pipeline n. -/
def Dev.loadNames (d : Dev) (n : Nat) : Bool :=
  match d.prog.load with
  | some l => l.images.any (fun x => x.1 == n)
  | none => false

/-- The last holder of a held idle bank has left: the bank is released. -/
def Dev.bankRelease (ep : Nat) (d : Dev) (n : Nat) : Dev :=
  if Dev.el d (K.bankIdleState n) = 2 ∧ Dev.heldPackets ep d n = 0 then
    Dev.setProg d { d.prog with released := SMap.set d.prog.released n true false }
  else d

/-- The copy of the active image into a released or invalid idle bank starts, when no load is pending for it (R153). -/
def Dev.bankCopy (d : Dev) (n : Nat) : Dev :=
  let st := Dev.el d (K.bankIdleState n)
  if ((st = 2 ∧ SMap.get d.prog.released n false = true) ∨ st = 5) ∧ Dev.loadNames d n = false then
    Dev.setEl (Dev.setProg d { d.prog with
      released := SMap.set d.prog.released n false false, recopy := SMap.set d.prog.recopy n (st == 5) false }) (K.bankIdleState n) 4
  else d

/-- The copy is complete: the idle bank is a valid copy. -/
def Dev.bankCopyDone (ep : Nat) (d : Dev) (n : Nat) : Dev :=
  if Dev.el d (K.bankIdleState n) = 4 then
    let d := Dev.setProg d { d.prog with recopy := SMap.set d.prog.recopy n false false }
    Dev.setEl (Dev.setImageIds (Dev.setIdle ep d n (Dev.activeImg ep d n)) n) (K.bankIdleState n) 0
  else d

/-- The released packet in the egress stages of pipeline n drops: its egress pass runs no further (R150, log 135). -/
def Dev.dropReleasedCtx (d : Dev) (n : Nat) : Dev :=
  let c := (Dev.pipe d n).ctx
  if c.live && c.egress && c.desc.released then
    Dev.dropSelected (Dev.setPipe d n { Dev.pipe d n with ctx := StageCtx.init }) 0x15 c.q c.desc c.charge c.sheaf c.fields
  else d

/-- epoch.release.limit expires: packets that still hold a now-idle bank are marked as released, those at the head of
their queue and in the egress stages drop, and the banks are released (R150). A frame that has left the egress stages is not
dropped, and holds no bank either (log 135). -/
def Dev.releaseLimit (ep : Nat) (d : Dev) : Dev :=
  let e := (ep + 1) % 2
  let mark (d : Dev) (x : Desc) : Desc := if Dev.descHolds d e x then { x with released := true } else x
  let qs := d.queues.map (fun q => (q.1, { q.2 with items := q.2.items.map (fun it =>
    match it with
    | .pkt x => .pkt (mark d x)
    | z => z) }))
  let bs := d.gran.bales.map (fun b => (b.1, { b.2 with
    recs := b.2.recs.map (mark d), copies := b.2.copies.map (fun y => (y.1, mark d y.2)) }))
  let xs := d.pipes.map (fun x => (x.1, if x.2.ctx.live && x.2.ctx.egress then
    { x.2 with ctx := { x.2.ctx with desc := mark d x.2.ctx.desc } } else x.2))
  let ps := d.ports.map (fun o => (o.1, { o.2 with
    sel := o.2.sel.map (fun f => { f with d := mark d f.d }), tx := o.2.tx.map (fun f => { f with d := mark d f.d }) }))
  let st := d.dma.staging.map (fun y => if y.epoch = e then { y with epoch := 2 } else y)
  let d := { d with queues := qs, pipes := xs, gran := { d.gran with bales := bs }, ports := ps, dma := { d.dma with staging := st } }
  let d := qs.foldl (fun d q => Dev.recontend (Dev.dropReleasedAll d q.1) q.1) d
  (List.range 16).foldl (fun d n => Dev.bankRelease ep (Dev.dropReleasedCtx d n) n) d

/-! Loads (R144 to R146). -/

/-- prog.stage.chunk: the bytes land at prog.stage.offset; a chunk at offset 0 discards what was staged before. -/
def Dev.stageChunk (d : Dev) (bs : List Byte) : Dev :=
  let o := Dev.el d K.progStageOffset
  let old : SMap Byte := if o = 0 then [] else d.prog.bundle
  let m := bs.zipIdx.foldl (fun m x => SMap.set m (o + x.2) x.1 0) old
  let len := if o = 0 then 0 else Dev.el d K.progStageLength
  let d := Dev.setProg d { d.prog with bundle := m }
  Dev.setEl (Dev.setEl d K.progStageOffset (o + bs.length)) K.progStageLength (max len (o + bs.length))

/-- The staged bundle. -/
def Dev.bundle (d : Dev) : List Byte := (List.range (Dev.el d K.progStageLength)).map (fun i => SMap.get d.prog.bundle i 0)

/-- The load ends: status, its number, and the event (R144, R336). prog.load.fail_section and fail_offset keep the last
fault (DESIGN CHOICE, log 169). -/
def Dev.loadEnd (d : Dev) (st : Nat) : Dev :=
  Dev.event (Dev.setEl (Dev.setEl d K.progLoadStatus st) K.progLoadDoneSeq (Dev.el d K.progLoadSeq)) 10 5

/-- A new prog.load.seq: the whole bundle is checked (R143, R144). What a partial bundle leaves out comes from the bank that
is active now, at the start of the load (DEDUCED, log 107). -/
def Dev.loadStart (ep : Nat) (d : Dev) : Dev :=
  let r := checkBundle (Dev.bundle d) (Dev.activeImg ep d)
  match r.1 with
  | some f => Dev.loadEnd (Dev.setEl (Dev.setEl d K.progLoadFailSection f.1) K.progLoadFailOffset f.2) 2
  | none => Dev.setEl (Dev.setProg d { d.prog with load := some { images := r.2, writing := false } }) K.progLoadStatus 1

/-- Every named idle bank is free of packets: the loader writes the images. -/
def Dev.loadWrite (ep : Nat) (d : Dev) : Dev :=
  match d.prog.load with
  | none => d
  | some l =>
    if l.writing || l.images.any (fun x => Dev.heldPackets ep d x.1 != 0) || d.prog.flip == 2 then d
    else
      let d := Dev.setProg d { d.prog with load := some { l with writing := true } }
      l.images.foldl (fun d x =>
        let d := Dev.setProg (Dev.setIdle ep d x.1 x.2) { d.prog with
          released := SMap.set d.prog.released x.1 false false, recopy := SMap.set d.prog.recopy x.1 false false }
        Dev.setEl (Dev.setImageIds d x.1) (K.bankIdleState x.1) 3) d

/-- The load ends; pipeline n of `failed` failed its read-back (R146). -/
def Dev.loadDone (d : Dev) (failed : Nat) : Dev :=
  match d.prog.load with
  | none => d
  | some l =>
    if l.writing then
      let bad (n : Nat) : Bool := bit failed n
      let d := l.images.foldl (fun d x => Dev.setEl d (K.bankIdleState x.1) (if bad x.1 then 5 else 1)) d
      Dev.loadEnd (Dev.setProg d { d.prog with load := none }) (if l.images.any (fun x => bad x.1) then 4 else 0)
    else d

/-- prog.load.discard: every loaded idle bank is replaced with a copy of the active image (R146). -/
def Dev.loadDiscard (d : Dev) : Dev :=
  (List.range 16).foldl (fun d n =>
    if Dev.el d (K.bankIdleState n) = 1 then Dev.setEl d (K.bankIdleState n) 4 else d) d

/-! The flip (R147 to R152). -/

/-- The flip ends: status, its number, and the event (R151, R336). -/
def Dev.flipEnd (d : Dev) (st : Nat) : Dev :=
  let d := Dev.setProg d { d.prog with flip := 0 }
  Dev.event (Dev.setEl (Dev.setEl d K.epochFlipStatus st) K.epochFlipDoneSeq (Dev.el d K.epochFlipSeq)) 10 5

/-- Whether every idle bank's state satisfies f. -/
def Dev.allIdle (d : Dev) (f : Nat → Bool) : Bool := (List.range 16).all (fun n => f (Dev.el d (K.bankIdleState n)))

/-- Step 1 of Table 10. An invalid bank stays so until its recopy is complete (R158). -/
def Dev.flipStart (d : Dev) : Dev :=
  if !Dev.allIdle d (fun s => s != 5 && s != 3) || !d.prog.recopy.isEmpty then Dev.flipEnd d 4
  else if Dev.el d K.epochStageState ≠ 0 then Dev.flipEnd d 2
  else Dev.setEl (Dev.setProg d { d.prog with flip := 1 }) K.epochFlipStatus 1

/-- Step 2 of Table 10 ends: 10 µs since the last flip, its settlement complete, every idle bank valid. -/
def Dev.flipReady (d : Dev) : Bool :=
  (match d.prog.lastFlip with
   | some t => decide (10000 * 25 ≤ (d.ticks - t) * 32)
   | none => true)
  && d.rst.pipeMask == 0 && !d.prog.drain && Dev.el d K.tblSettling == 0 && Dev.allIdle d (fun s => s == 0 || s == 1)

def Dev.flipAcks (d : Dev) : Dev :=
  if d.prog.flip = 1 ∧ Dev.flipReady d = true then Dev.setProg d { d.prog with flip := 2 } else d

/-- A barn has not acknowledged within 100 µs: TIMEOUT, and the staged set is aborted. -/
def Dev.flipTimeout (ep : Nat) (d : Dev) (k : Nat) : Dev :=
  if d.prog.flip = 2 then Dev.resumeBlocks ep (Dev.abort (Dev.flipEnd d 3) 4 k 0 0) else d

/-- A host abort also ends a pending flip with ABORTED (Table 11). -/
def Dev.hostAbort (ep : Nat) (d : Dev) : Dev :=
  let d := Dev.abort d 5 0xE 0 0
  if d.prog.flip = 0 then d else Dev.resumeBlocks ep (Dev.flipEnd d 2)

/-- Every override ends; a governed element without one is no operator's value, so its record goes too (R35, log 31). -/
def Dev.clearOverrides (d : Dev) : Dev :=
  let ks := d.dict.overrides
  let d := ks.foldl Dev.persist { d with dict := { d.dict with overrides := [] } }
  Dev.setEl d K.devProfileClearOverrides 0

/-- What the governed elements that a flip changes hold before it, for the packets that entered the parser before it (R33). -/
def Dev.changedVals (d : Dev) (xs : List (Nat × Option Nat)) : SMap Nat :=
  xs.filterMap (fun x =>
    let v := Dev.el d x.1
    if d.dict.overrides.contains x.1 || v == x.2.getD (Dict.dflt x.1) then none else some (x.1, v))

/-- Governed elements, in rising order, take the profile's values unless they hold an override (R34, R35). -/
def Dev.govern (d : Dev) (xs : List (Nat × Option Nat)) : Dev :=
  { d with prog := { d.prog with oldVals := Dev.changedVals d xs }, dict := { d.dict with vals := SMap.setAll (xs.filter (fun x => !d.dict.overrides.contains x.1)) d.dict.vals } }

/-- A profile's value for element k, where it is not the default `d0`. -/
def profVal (k v d0 : Nat) : Nat × Option Nat := (k, if v = d0 then none else some v)

/-- The parameters of the profile, at a flip that ends with OK (R33 to R35). `p`: 0 throughput, 1 latency, 2 depth. -/
def Dev.applyProfile (d : Dev) (p : Nat) : Dev :=
  let d := Dev.setEl d K.devProfileActive p
  let thr := if p = 0 then 4096 else if p = 2 then 1024 else d.prog.thr
  let d := Dev.setProg d { d.prog with thr := thr }
  let factor := if p = 0 then 7 else if p = 1 then 5 else 8
  let pools := d.dict.vals.filter (fun x => decide (K.eqPool 0 ≤ x.1) && x.1 % 256 == K.eqPool 0 % 256)
  let lossy := (List.range 8).map (fun k => b2n (Dev.el d (K.poolMode k) == 0))
  let rows := (List.range 32).map (fun j => profVal (K.ctRow j) (if p = 1 then 0xFFFFFFFF else 0) (Dict.dflt (K.ctRow 0)))
  let iqs := (List.range 272).map (fun i => profVal (K.iqFactor (i / 16) (i % 16)) factor (Dict.dflt (K.iqFactor 0 0)))
  let f0 := Dict.dflt (K.eqFactor 0)
  let e0 := Dict.dflt (K.eqSpillEnable 0)
  let t0 := Dict.dflt (K.eqSpillThreshold 0)
  let p0 := Dict.dflt (K.eqPool 0)
  let eqs := (List.range 16384).flatMap (fun q =>
    let on := if p = 0 then (lossy[SMap.get pools (K.eqPool q) p0]?).getD 0 else if p = 1 then 0 else 1
    [profVal (K.eqFactor q) factor f0, profVal (K.eqSpillEnable q) on e0, profVal (K.eqSpillThreshold q) thr t0])
  let d := Dev.govern d (rows ++ iqs ++ eqs)
  let spilling := d.dict.vals.filter (fun x =>
    decide (K.eqSpillState 0 ≤ x.1) && x.1 % 256 == K.eqSpillState 0 % 256 && x.2 == 1)
  spilling.foldl (fun d x =>
    let q := (x.1 - K.eqSpillState 0) / 256
    if Dev.el d (K.eqSpillEnable q) = 0 then Dev.enterDraining d q else d) d

/-- What clock T brings to everything but the epoch counter (R33 to R35, R151, R153). `ep` is the epoch that ends. -/
def Dev.commit (ep : Nat) (d : Dev) : Dev :=
  let d := Dev.commitClass d .epoch
  let d :=
    if Dev.el d K.devProfileClearOverrides = 1 then Dev.clearOverrides d else d
  let d := Dev.applyProfile d (Dev.elIn d K.devProfileSelect)
  let d := (List.range 16).foldl (fun d n =>
    let x := Dev.pipe d n
    Dev.setEl (Dev.setEl d (K.bankIdleState n) (if x.bankA.id = x.bankB.id then 0 else 2)) (K.bankActive n) ((ep + 1) % 2)) d
  let d := Dev.setEl (Dev.count (Dev.setEl d K.epochFlipTime (Dev.tb0Elem d)) K.epochFlips 1) K.epochStageEntries 0
  let d := Dev.setProg d { d.prog with
    lastFlip := some d.ticks, drain := true, settled := false, released := [], recopy := [], oldBit := ep % 2 }
  Dev.flipEnd d 0

/-- The last old-bit packet has left its ingress pass, `ns` after T: settlement starts, BOTH blocks resume (R149, R151). -/
def Dev.drainEnd (ep : Nat) (d : Dev) (ns : Nat) : Dev :=
  let old := (ep + 1) % 2
  let inside := (List.range 16).any (fun n =>
    let x := Dev.pipe d n
    x.gate.any (fun i => (Dev.pkt d i).epoch == old) || (x.ctx.live && !x.ctx.egress && x.ctx.epoch == old))
  if d.prog.drain = false ∨ inside = true then d
  else
    let d := Dev.setEl (Dev.setEl d K.epochDrainNs (ns % 2 ^ 32)) K.tblSettling 1
    Dev.resumeBlocks ep (Dev.setProg d { d.prog with drain := false, settled := false })

/-- Settlement of visibility with the bit now in force (R122). -/
def Dev.settleNow (ep : Nat) (d : Dev) : Dev :=
  if Dev.el d K.tblSettling = 1 then
    Dev.perf (Dev.settleTbl (Dev.setProg d { d.prog with settled := true }) (ep % 2)) 0x24 6 (unsettled d.tbl)
  else d

/-- Settlement is complete: waiting NEXT blocks resume (R151). -/
def Dev.settleDone (ep : Nat) (d : Dev) : Dev :=
  if Dev.el d K.tblSettling = 1 ∧ d.prog.settled = true then Dev.resumeBlocks ep (Dev.setEl d K.tblSettling 0) else d

/-! Commands: table blocks. Each row's opcode is the command's own; `h` gives the rest of the header (Table 7). -/

/-- A table-command block of one opcode reaches the engine. -/
def Dev.tableCmd (op : Nat) (ep : Nat) (d : Dev) (q h : Nat) (recs : List Nat) (f : Option TblFault) : Dev :=
  Dev.block ep d q (putBits h 0 8 op) recs false f

/-- INSERT (R103, R121). -/
def execTblInsert (q : Fin 2048) (h : Nat) (recs : List Nat) (f : Option TblFault) (s : State) :
    Host.Outcome State Fault Refusal :=
  liftE (fun ep d => Dev.tableCmd 1 ep d q h recs f) s
/-- MODIFY (R121). -/
def execTblModify (q : Fin 2048) (h : Nat) (recs : List Nat) (f : Option TblFault) (s : State) :
    Host.Outcome State Fault Refusal :=
  liftE (fun ep d => Dev.tableCmd 2 ep d q h recs f) s
/-- DELETE (R121). -/
def execTblDelete (q : Fin 2048) (h : Nat) (recs : List Nat) (f : Option TblFault) (s : State) :
    Host.Outcome State Fault Refusal :=
  liftE (fun ep d => Dev.tableCmd 3 ep d q h recs f) s
/-- READ (R105). -/
def execTblRead (q : Fin 2048) (h : Nat) (recs : List Nat) (s : State) : Host.Outcome State Fault Refusal :=
  liftE (fun ep d => Dev.tableCmd 4 ep d q h recs none) s
/-- GROUP_CREATE (R110). -/
def execGroupCreate (q : Fin 2048) (h : Nat) (recs : List Nat) (f : Option TblFault) (s : State) :
    Host.Outcome State Fault Refusal :=
  liftE (fun ep d => Dev.tableCmd 5 ep d q h recs f) s
/-- GROUP_DELETE (R110). -/
def execGroupDelete (q : Fin 2048) (h : Nat) (recs : List Nat) (f : Option TblFault) (s : State) :
    Host.Outcome State Fault Refusal :=
  liftE (fun ep d => Dev.tableCmd 6 ep d q h recs f) s
/-- MEMBER_ADD (R114). -/
def execMemberAdd (q : Fin 2048) (h : Nat) (recs : List Nat) (f : Option TblFault) (s : State) :
    Host.Outcome State Fault Refusal :=
  liftE (fun ep d => Dev.tableCmd 7 ep d q h recs f) s
/-- MEMBER_REMOVE (R114). -/
def execMemberRemove (q : Fin 2048) (h : Nat) (recs : List Nat) (f : Option TblFault) (s : State) :
    Host.Outcome State Fault Refusal :=
  liftE (fun ep d => Dev.tableCmd 8 ep d q h recs f) s
/-- SLOT_WRITE (R114). -/
def execSlotWrite (q : Fin 2048) (h : Nat) (recs : List Nat) (f : Option TblFault) (s : State) :
    Host.Outcome State Fault Refusal :=
  liftE (fun ep d => Dev.tableCmd 9 ep d q h recs f) s

/-! Commands: settlement and the barns. -/

/-- VISIBILITY_SETTLEMENT (R122). -/
def execVisibilitySettlement (s : State) : Host.Outcome State Fault Refusal := liftE Dev.settleNow s

/-- SETTLEMENT_DONE (R151). -/
def execSettlementDone (s : State) : Host.Outcome State Fault Refusal := liftE Dev.settleDone s

/-- BARN_PEER_REPAIR (R127): the oldest bad word of barn k is repaired from a peer. -/
def execBarnPeerRepair (k : Fin 4) (s : State) : Host.Outcome State Fault Refusal :=
  lift (fun d =>
    match d.tbl.bad.find? (fun w => w.1 == k.val) with
    | some w => Dev.count (Dev.setTbl d { d.tbl with bad := d.tbl.bad.filter (fun v => v != w) }) (K.barnPeerRepairs k) 1
    | none => d) s

/-- BARN_SCRUB_PASS (R127): a pass of barn k that corrected `corrected` words and repaired `repaired` mismatches from the
majority in `ms`. -/
def execBarnScrubPass (k : Fin 4) (corrected repaired ms : Nat) (s : State) : Host.Outcome State Fault Refusal :=
  lift (fun d =>
    let d := Dev.setTbl d { d.tbl with bad := d.tbl.bad.filter (fun w => w.1 != k.val) }
    let d := Dev.count (Dev.count d (K.barnCorrected k) corrected) (K.barnPeerRepairs k) repaired
    let d := if corrected = 0 then d else Dev.corrected (Dev.perf d (0x20 + k) 8 corrected) (0x0810 + k) 0x01 corrected
    let d := if repaired = 0 then d else Dev.corrected d (0x0810 + k) 0x03 repaired
    Dev.setEl d (K.barnScrubPassMs k) (ms % 2 ^ 32)) s

/-! Commands: loads, banks and the flip. -/

/-- PROG_LOAD_WRITE (R145). -/
def execProgLoadWrite (s : State) : Host.Outcome State Fault Refusal := liftE Dev.loadWrite s

/-- PROG_LOAD_DONE (R146): `failed` has the bit of each pipeline whose read-back failed. -/
def execProgLoadDone (failed : Fin 65536) (s : State) : Host.Outcome State Fault Refusal :=
  lift (fun d => Dev.loadDone d failed) s

/-- FLIP_ACK_WAIT (R151). -/
def execFlipAckWait (s : State) : Host.Outcome State Fault Refusal := lift Dev.flipAcks s

/-- FLIP_ACK_TIMEOUT (R151): barn k has not acknowledged. -/
def execFlipAckTimeout (k : Fin 4) (s : State) : Host.Outcome State Fault Refusal :=
  liftE (fun ep d => Dev.flipTimeout ep d k) s

/-- FLIP_COMMIT (R147, R152): the counter advances by one. A bank whose image was discarded after the acknowledgements is
activated all the same (DESIGN CHOICE, log 168). -/
def execFlipCommit (s : State) : Host.Outcome State Fault Refusal :=
  if Dev.dark s.dev = false ∧ s.dev.prog.flip = 2 then
    .next { s with epoch := (s.epoch + 1) % 2 ^ 48, dev := Dev.commit s.epoch s.dev }
  else .next s

/-- INGRESS_DRAIN_END (R149). -/
def execIngressDrainEnd (ns : Nat) (s : State) : Host.Outcome State Fault Refusal :=
  liftE (fun ep d => Dev.drainEnd ep d ns) s

/-- BANK_RELEASE (R145). -/
def execBankRelease (n : Fin 16) (s : State) : Host.Outcome State Fault Refusal :=
  liftE (fun ep d => Dev.bankRelease ep d n) s

/-- EPOCH_RELEASE_LIMIT (R150). -/
def execEpochReleaseLimit (s : State) : Host.Outcome State Fault Refusal := liftE Dev.releaseLimit s

/-- BANK_COPY (R153). -/
def execBankCopy (n : Fin 16) (s : State) : Host.Outcome State Fault Refusal := lift (fun d => Dev.bankCopy d n) s

/-- BANK_COPY_DONE (R153). -/
def execBankCopyDone (n : Fin 16) (s : State) : Host.Outcome State Fault Refusal :=
  liftE (fun ep d => Dev.bankCopyDone ep d n) s

/-- STAGE_ABORT_DONE (R155). -/
def execStageAbortDone (s : State) : Host.Outcome State Fault Refusal := liftE Dev.abortDone s

end Sys2Proof.Machine
end

