-- ==== Sys2Proof/Machine/Streams.lean ====
section
/-! DEFINITION. What leaves the telemetry blocks: tally sweeps and snapshots, cleared histograms and wrap bits, the
performance banks and the Gleaner, the export streams (Telemetry and counters). -/
namespace Sys2Proof.Machine

/-! The tally table (R304, R305). -/

/-- The barns that 0 to 4 names. -/
def tallyBarns (k : Nat) : List Nat := if k = 4 then [0, 1, 2, 3] else [k]

/-- tally.snapshot takes k (R304). The records are written when the snapshot ends (log 21). -/
def Dev.tallySnapshot (d : Dev) (k : Nat) : Dev :=
  Dev.setEl { d with tel := { d.tel with snap := tallyBarns k, snapCleared := false } } K.tallySnapshotStatus 1

/-- The running snapshot writes its records and ends (R304, R305). -/
def Dev.tallySnapshotDone (d : Dev) : Dev :=
  if Dev.el d K.tallySnapshotStatus = 1 then
    let st := if d.tel.snapCleared then 2 else 0
    let d := d.tel.snap.foldl (fun d b =>
      (Dev.tallyBarn d b).foldl (fun d x => Dev.exportTally d b 2 x.2) d) d
    Dev.setEl { d with tel := { d.tel with snap := [], snapCleared := false } } K.tallySnapshotStatus st
  else d

/-- Free every entry of barn b. -/
def Dev.tallyFree (d : Dev) (b : Nat) : Dev :=
  Dev.setEl { d with tel := { d.tel with tally := d.tel.tally.filter (fun x => x.1 / 2 ^ 20 != b) } } (K.tallyUsed b) 0

/-- tally.clear takes k (R305). -/
def Dev.tallyClear (d : Dev) (k : Nat) : Dev :=
  let d := (tallyBarns k).foldl Dev.tallyFree d
  if Dev.el d K.tallySnapshotStatus = 1 then
    { d with tel := { d.tel with snap := d.tel.snap.filter (fun b => !(tallyBarns k).contains b), snapCleared := true } }
  else d

/-- The idle sweep: entries unseen for tally.idle_s are exported and freed (R304). -/
def Dev.tallySweep (d : Dev) : Dev :=
  let idle := Dev.el d K.tallyIdleS * 1000
  let now := Dev.tb0Ns d / 1000000 % 2 ^ 40
  if idle = 0 then d
  else
    (d.tel.tally.filter (fun x => decide (idle ≤ (now + 2 ^ 40 - x.2.seen) % 2 ^ 40))).foldl (fun d x =>
      let b := x.1 / 2 ^ 20
      let d := Dev.setTally (Dev.count (Dev.exportTally d b 1 x.2) K.tallyIdleExports 1) x.1 none
      Dev.setEl d (K.tallyUsed b) (Dev.el d (K.tallyUsed b) - 1)) d

/-! Histograms and wrap bits (R301, R320). -/

def Dev.clearBins (d : Dev) (lo n : Nat) : Dev :=
  { d with tel := { d.tel with
    hist := d.tel.hist.filter (fun x => decide (x.1 < lo ∨ lo + n ≤ x.1)),
    wraps := d.tel.wraps.filter (fun x => decide (x.1 < 2 ^ 24 + lo ∨ 2 ^ 24 + lo + n ≤ x.1)) } }

/-- eq.hist.clear of queue n (R301). -/
def Dev.histClear (d : Dev) (n : Nat) : Dev := Dev.setEl (Dev.clearBins d (binLat n 0) 64) (K.eqHistSince n) (Dev.tb0Elem d)

/-- tel.hist.clear_port of port p (R301). -/
def Dev.histClearPort (d : Dev) (p : Nat) : Dev := Dev.clearBins d (binPort p 0) 32

/-- The 256 bytes of a histogram from bin `lo` on (R301). -/
def Dev.histBlob (d : Dev) (lo : Nat) : List Byte :=
  ((List.range 32).map (fun k => leBytes 8 (SMap.get d.tel.hist (lo + k) 0))).flatten

/-- The 256 bytes of port.stats or iport.stats (R321). -/
def Dev.statBlob (d : Dev) (p : Nat) : List Byte :=
  ((List.range 32).map (fun w => leBytes 8 (Dev.stat d p w))).flatten

/-- tel.wrap.bit: the sticky bit of the counter that tel.wrap.select names (R320). -/
def Dev.wrapBit (d : Dev) : Bool :=
  decide (Dev.el d K.telWrapSelect < 2 ^ 24) && SMap.get d.tel.wraps (Dev.el d K.telWrapSelect) false

def Dev.wrapClear (d : Dev) : Dev :=
  if Dev.wrapBit d then
    { d with tel := { d.tel with wraps := SMap.set d.tel.wraps (Dev.el d K.telWrapSelect) false false } }
  else d

/-! Performance banks and the Gleaner (R322 to R324). -/

/-- The greatest event number of a block (R322, Table 8). -/
def perfMax (b : Nat) : Nat :=
  if b < 0x20 then 13 else if b < 0x24 then 12 else if b = 0x24 then 7 else if b = 0x25 then 4 else if b = 0x26 then 9
  else if b = 0x27 then 6 else if b = 0x28 then 11 else if b = 0x29 then 8 else if b < 0x2C then 7 else if b = 0x2C then 7
  else 6

/-- Every selection of a perf.sel value is in the block's list. -/
def perfSelOk (b v : Nat) : Bool := (List.range 8).all (fun k => decide (bits v (8 * k) 8 ≤ perfMax b))

/-- perf.sel and perf.enable of block b take new values: counters whose selection or enable bit changes are zeroed
(R322). -/
def Dev.perfConfig (d : Dev) (b sel en : Nat) : Dev :=
  let changed := (List.range 8).filter (fun k =>
    bits sel (8 * k) 8 != bits (Dev.el d (K.perfSel b)) (8 * k) 8 || bit en k != bit (Dev.el d (K.perfEnable b)) k)
  let d := changed.foldl (fun d k =>
    Dev.setEl (Dev.setEl d (K.perfCtr b k) 0) (K.perfWrap b) (putBits (Dev.el d (K.perfWrap b)) k 1 0)) d
  Dev.setEl (Dev.setEl d (K.perfSel b) sel) (K.perfEnable b) en

/-- The record of bank b, read `off` ns after the first (R324, Table 9). -/
def Dev.bankRec (d : Dev) (b off : Nat) : List Byte :=
  ((List.range 8).map (fun k => leBytes 6 (Dev.el d (K.perfCtr b k)))).flatten
    ++ leBytes 1 b ++ leBytes 1 (Dev.el d (K.perfWrap b)) ++ leBytes 1 (Dev.el d (K.perfEnable b)) ++ zeros 1
    ++ leBytes 4 off ++ leBytes 8 (Dev.el d (K.perfSel b))

/-- The span of a sweep: 60 intervals of 640 ns (R323). -/
def sweepSpan : Nat := 38400

/-- A snapshot of 3,968 bytes; every bank is read at one instant (R323, R324, log 21). -/
def Dev.snapshot (d : Dev) : List Byte :=
  let t := Dev.tb0Ns d
  leBytes 4 0x534E4C47 ++ [1, 61] ++ zeros 2 ++ leBytes 8 d.tel.gleanSeq ++ leBytes 8 t ++ leBytes 8 (t + sweepSpan)
    ++ leBytes 4 d.tel.gleanMissed ++ leBytes 4 (Dev.el d K.gleanPeriodUs) ++ leBytes 8 (Dev.freeNs d) ++ zeros 16
    ++ ((List.range 61).map (fun i => Dev.bankRec d ((perfBanks[i]?).getD 0) (i * 640))).flatten

/-- Whether the counter-snapshot queue has a buffer and has written the last snapshot (R323). -/
def Dev.gleanReady (d : Dev) : Bool :=
  let q := Dev.el d K.gleanQueue
  decide (q < 2048) && Dev.el d (K.dqState q) == 1 && (Dev.dq d q).item.isNone && d.dma.snap.isNone
    && !(Dev.dq d q).stalled && Dev.el d (K.dqSqProd q) != Dev.el d (K.dqSqCons q)

/-- One sweep of the Gleaner (R323). -/
def Dev.gleanSweep (d : Dev) : Dev :=
  if Dev.el d K.gleanPeriodUs = 0 then d
  else if Dev.gleanReady d then
    let x := Dev.snapshot d
    let d := { d with dma := { d.dma with snap := some (d.tel.gleanSeq, x) },
                      tel := { d.tel with gleanSeq := d.tel.gleanSeq + 1, gleanMissed := 0 } }
    Dev.setEl d K.gleanLastSpanNs sweepSpan
  else Dev.count { d with tel := { d.tel with gleanMissed := d.tel.gleanMissed + 1 } } K.gleanMissed 1

/-! Export streams (R311, R312, R314). -/

/-- Drain queue, collector and records per packet of stream i (R325). -/
def Dev.streamQueue (d : Dev) (i : Nat) : Nat := bits (Dev.el d (K.streamCfg i)) 6 11
def Dev.streamCol (d : Dev) (i : Nat) : Nat := bits (Dev.el d (K.streamCfg i)) 17 3
def Dev.streamN (d : Dev) (i : Nat) : Nat := bits (Dev.el d (K.streamCfg i)) 20 5

/-- Whether stream i selects a record, by its type. -/
def Dev.streamWants (d : Dev) (i rec : Nat) : Bool :=
  decide (1 ≤ rec % 16 ∧ rec % 16 ≤ 4) && bit (Dev.el d (K.streamCfg i)) (2 + rec % 16 - 1)

/-- The record of sequence number s. -/
def Dev.recAt (d : Dev) (s : Nat) : Nat := SMap.get d.tel.recs (s % Dev.telCap d) 0

/-- What a stream takes from its markers and from the store: the records, markers used, and the read position after
them. -/
structure Gather where
  recs : List Nat
  marks : Nat
  upto : Nat
  deriving DecidableEq, Repr

/-- Take records until `g` holds n: first the markers, then the store from position `g.upto` on; an uncorrectable record is
skipped, with a loss marker in its place (R503). -/
def Dev.gatherStep (d : Dev) (i n : Nat) : Nat → List Nat → Gather → Gather
  | 0, _, g => g
  | k + 1, m, g =>
    if n ≤ g.recs.length then g
    else
      match m with
      | r :: t =>
        Dev.gatherStep d i n k t { g with recs := if Dev.streamWants d i r then g.recs ++ [r] else g.recs,
                                          marks := g.marks + 1 }
      | [] =>
        if g.upto < Dev.el d K.telStoreHead then
          let r := if d.tel.badRecs.contains g.upto then lossMarker g.upto 1 else Dev.recAt d g.upto
          Dev.gatherStep d i n k [] { g with recs := if Dev.streamWants d i r then g.recs ++ [r] else g.recs,
                                             upto := g.upto + 1 }
        else g

/-- The next n records of stream i after `marks` markers and position `upto`. -/
def Dev.gather (d : Dev) (i n marks upto : Nat) : Gather :=
  let m := (Dev.stream d i).ready.drop marks
  let from_ := max upto (Dev.el d (K.streamRead i))
  Dev.gatherStep d i n (m.length + (Dev.el d K.telStoreHead - from_) + 1) m { recs := [], marks := marks, upto := from_ }

/-- Uncorrectable records of the region between stream i's read position and `upto` (R503). -/
def Dev.badBetween (d : Dev) (i upto : Nat) : Nat :=
  (d.tel.badRecs.filter (fun s => decide (Dev.el d (K.streamRead i) ≤ s ∧ s < upto))).length

/-- Records of the store delivered count in stream.records; the position moves behind them. -/
def Dev.deliver (d : Dev) (i : Nat) (recs : List Nat) (marks upto : Nat) : Dev :=
  let s := Dev.stream d i
  let lost := Dev.badBetween d i upto
  let d := if lost = 0 then d else Dev.containedF (Dev.count d (K.streamLost i) lost) 10 (keyObj (K.streamLost i)) 0 lost
  let d := Dev.setStream d i { s with ready := s.ready.drop marks }
  let d := Dev.setEl d (K.streamRead i) (max upto (Dev.el d (K.streamRead i)))
  Dev.count d (K.streamRecords i) (recs.filter (fun r => r % 16 != 4)).length

/-- IPv4 or IPv6 header and UDP of an export packet over `body`; `f` holds the header bits the spec leaves open
(R314, log 22). -/
def exportIp (v6 : Bool) (src dst : List Byte) (udp dscp hops f : Nat) (body : List Byte) : List Byte :=
  let len := 8 + body.length
  let u (c : Nat) : List Byte := beBytes 2 (bits udp 0 16) ++ beBytes 2 (bits udp 16 16) ++ beBytes 2 len ++ beBytes 2 c
  if v6 then
    let c := inetSum (src ++ dst ++ beBytes 4 len ++ beBytes 4 17 ++ u 0 ++ body ++ zeros (body.length % 2))
    beBytes 4 (6 * 2 ^ 28 + dscp * 2 ^ 22 + bits f 17 20) ++ beBytes 2 len ++ beBytes 1 17 ++ beBytes 1 hops ++ src ++ dst
      ++ u (if c = 0 then 0xFFFF else c) ++ body
  else
    let h (c : Nat) : List Byte :=
      beBytes 1 0x45 ++ beBytes 1 (dscp * 4) ++ beBytes 2 (20 + len) ++ beBytes 2 (bits f 0 16)
        ++ beBytes 2 (bits f 16 1 * 2 ^ 14) ++ beBytes 1 hops ++ beBytes 1 17 ++ beBytes 2 c ++ src ++ dst
    h (inetSum (h 0)) ++ u 0 ++ body

/-- The export header (R314). -/
def Dev.exportHeader (d : Dev) (i n : Nat) : List Byte :=
  beBytes 2 1 ++ beBytes 1 i ++ beBytes 1 n ++ beBytes 4 (Dev.el d K.idSerial) ++ beBytes 8 (Dev.stream d i).sent

/-- The export frame of stream i with `recs`, without its FCS (R314). -/
def Dev.exportFrame (d : Dev) (i : Nat) (recs : List Nat) : List Byte :=
  let c := Dev.streamCol d i
  let f := Dev.freeVal d (2 ^ 41)
  let dst := Dev.blob d (K.colDst c)
  let v6 := dst.length == 16
  let vlan := Dev.el d (K.colVlan c)
  beBytes 6 (Dev.el d (K.colDmac c)) ++ beBytes 6 (Dev.el d (K.colSmac c))
    ++ (if vlan = 0 then [] else beBytes 2 0x8100 ++ beBytes 2 (bits f 37 4 * 2 ^ 12 + vlan % 4096))
    ++ beBytes 2 (if v6 then 0x86DD else 0x0800)
    ++ exportIp v6 (Dev.blob d (K.colSrc c)) dst (Dev.el d (K.colUdp c)) (Dev.el d (K.colDscp c)) (Dev.el d (K.colHops c)) f
      (Dev.exportHeader d i recs.length ++ (recs.map (leBytes 64)).flatten)

/-- A frame of the part itself enters egress queue n directly, when R173 admits it; whether it did (R314). -/
def Dev.admitOwn (ep : Nat) (d : Dev) (n : Nat) (bytes : List Byte) : Dev × Bool :=
  let i := d.nextPkt
  let pk := { Pkt.init with frame := bytes ++ leBytes 4 (fcs32 bytes), whole := true, inPort := 2047,
                            rxAt := Dev.now d, epoch := ep % 2 }
  let d := Dev.setPkt { d with nextPkt := i + 1 } i pk
  let len := bytes.length
  let c := cellsOf len
  let x := Dev.newDesc d i n c false false
  let r := Dev.judge d false n len c false true
  match r.2 with
  | .onDie k => (Dev.link (Dev.setPkt (Dev.writeCells r.1 i c) i { Dev.pkt (Dev.writeCells r.1 i c) i with refs := 1 }) n x k (decide (k = 8)), true)
  | .spilled =>
    let e := Dev.ecnDraw r.1 x.svc x.used
    (Dev.countEnq (Dev.appendRec (Dev.setPkt e.1 i { pk with refs := 1 }) n { x with ecn := e.2, spilled := true } len) n len, true)
  | .drop _ => (Dev.delPkt r.1 i, false)

/-- Whether UDP stream i may send: its collector's port is up and its addresses are of one family (R312, R325). -/
def Dev.streamCan (d : Dev) (i : Nat) : Bool :=
  let c := Dev.streamCol d i
  let n := (Dev.blob d (K.colDst c)).length
  Dev.portUp d (Dev.el d (K.colPort c)) && (n == 4 || n == 16) && (Dev.blob d (K.colSrc c)).length == n

/-- The export packet of UDP stream i leaves (R314), or the stream pauses (R312). -/
def Dev.streamExport (ep : Nat) (d : Dev) (i : Nat) : Dev :=
  if Dev.streamKind d i ≠ 2 then d
  else
    let g := Dev.gather d i (Dev.streamN d i) 0 0
    if g.recs.isEmpty then Dev.deliver d i [] g.marks g.upto
    else if Dev.streamCan d i = false then Dev.setEl d (K.streamState i) 2
    else
      let c := Dev.streamCol d i
      let n := Dev.el d (K.colPort c) * 16 + Dev.el d (K.colQueue c)
      let r := Dev.admitOwn ep (Dev.useFree d) n (Dev.exportFrame d i g.recs)
      if r.2 then
        let d := Dev.deliver r.1 i g.recs g.marks g.upto
        let s := Dev.stream d i
        let d := Dev.setStream d i { s with sent := s.sent + 1 }
        Dev.perf (Dev.setEl d (K.streamState i) 1) 0x2C 5 1
      else Dev.setEl r.1 (K.streamState i) 2

/-- stream.state: off; a DMA stream is paused while its queue is faulted, frozen or in error; a UDP stream while its port
is down or its last packet was refused (R312, R325). -/
def Dev.streamStateLive (d : Dev) (i : Nat) : Nat :=
  match Dev.streamKind d i with
  | 0 => 0
  | 1 =>
    let st := Dev.el d (K.dqState (Dev.streamQueue d i))
    if st = 2 ∨ st = 3 ∨ st = 4 then 2 else 1
  | 2 => if Dev.streamCan d i && Dev.el d (K.streamState i) != 2 then 1 else 2
  | _ => 0

/-! The meanings. -/

def execTallyIdleSweep : State → Host.Outcome State Fault Refusal := lift Dev.tallySweep
def execTallySnapshotDone : State → Host.Outcome State Fault Refusal := lift Dev.tallySnapshotDone
def execGleanerSweep : State → Host.Outcome State Fault Refusal := lift Dev.gleanSweep
def execStreamExport (i : Fin 8) : State → Host.Outcome State Fault Refusal := liftE (fun ep d => Dev.streamExport ep d i.val)

end Sys2Proof.Machine
end

