-- ==== Sys2Proof/Machine/DmaOps.lean ====
section
/-! DEFINITION. DMA queues: contexts, states, errors, operations of dq.ctl, completion entries (DMA queues and rings). -/
namespace Sys2Proof.Machine

/-! The context (R350, Table 2). -/

def ctxKind (c : Nat) : Nat := bits c 0 3
def ctxSqLog (c : Nat) : Nat := bits c 3 4 + 6
def ctxCqLog (c : Nat) : Nat := bits c 7 4 + 6
def ctxPrio (c : Nat) : Nat := bits c 11 3
def ctxVector (c : Nat) : Nat := bits c 16 16
def ctxCoal (c : Nat) : Nat := bits c 32 8
def ctxCoalUs (c : Nat) : Nat := bits c 40 16
def ctxSqBase (c : Nat) : Nat := bits c 64 64
def ctxCqBase (c : Nat) : Nat := bits c 128 64
def ctxHeadAddr (c : Nat) : Nat := bits c 192 64

/-- Difference and expected phase of ring indices (R353, R354). -/
def idxSub (a b : Nat) : Nat := (a + 65536 - b % 65536) % 65536
def ringPhase (k i : Nat) : Nat := 1 - i / 2 ^ k % 2

/-- Home of queue q: port 0 or 1; 2 for none. -/
def Dev.dqHp (d : Dev) (q : Nat) : Nat := if Dev.el d (K.dqHome q) = 0 then 2 else Dev.el d (K.dqHome q) - 1
def Dev.dqSt (d : Dev) (q : Nat) : Nat := Dev.el d (K.dqState q)
def Dev.setDqSt (d : Dev) (q s : Nat) : Dev := Dev.setEl d (K.dqState q) s
def Dev.hostUp (d : Dev) (p : Nat) : Bool := decide (p < 2) && Dev.el d (K.hostState p) == 1
def Dev.ctxBase (d : Dev) (p : Nat) : Nat := if p = 0 then Dev.el d K.dmaCtxBaseA else Dev.el d K.dmaCtxBaseB

/-- Kinds that the maps assign to queue q (R351, R376). -/
def Dev.dqKinds (d : Dev) (q : Nat) : List Nat :=
  (if (List.range 16).any (fun j => Dev.el d (K.dmaPuntMap j) == q) then [1] else [])
    ++ (if (List.range 8).any (fun i => Dev.streamKind d i == 1 && Dev.streamQueue d i == q) then [3] else [])
    ++ (if Dev.el d K.gleanQueue = q then [4] else [])

/-- A context is malformed for queue q on port p (R351). -/
def Dev.ctxBad (d : Dev) (q p c : Nat) : Bool :=
  let v := ctxVector c
  decide (4 < ctxKind c) || decide (9 < bits c 3 4) || decide (9 < bits c 7 4) || bits c 14 2 != 0 || bits c 56 8 != 0
    || bits c 269 243 != 0 || (ctxKind c != 1 && bits c 256 13 != 0) || decide (4032 < bits c 256 12)
    || ctxSqBase c % 4096 != 0 || ctxCqBase c % 4096 != 0 || ctxHeadAddr c % 8 != 0
    || (decide (1 < ctxCoal c) && ctxCoalUs c == 0)
    || (Dev.dqKinds d q).any (fun k => k != ctxKind c)
    || (v != 0xFFFF && (decide (v < 32 ∨ 2047 < v)
        || (match SMap.find (Dev.hp d p).vecQueue v with | some o => o != q | none => false)))

/-- The context cache (R350): queue q becomes the one used last; the one unused longest leaves (log 23). -/
def Dev.cachePush (d : Dev) (q : Nat) : Dev :=
  { d with dma := { d.dma with cache := (q :: d.dma.cache.erase q).take 256 } }

/-! Errors of a host port (R341, Table 7). -/

/-- An error message of port p, while it may send (R345). -/
def Dev.aerSend (d : Dev) (p sev : Nat) : Dev := if Dev.hostUp d p then Dev.emit d (.aerMessage p sev) else d

/-- Bit b of the uncorrectable errors of port p: counted, shown, and, unless masked, reported with the severity that the host
set (log 140). -/
def Dev.aerError (d : Dev) (p b : Nat) : Dev :=
  let h := Dev.hp d p
  let d := Dev.count (Dev.setHp d p { h with aerUnc := h.aerUnc ||| BitVec.ofNat 32 (2 ^ b) }) (K.hostAerUncorrectable p) 1
  if h.aerUncMask.getLsbD b then d else Dev.aerSend d p (if h.aerSev.getLsbD b then 2 else 1)

/-- Bit b of the correctable errors of port p. -/
def Dev.aerCorrected (d : Dev) (p b : Nat) : Dev :=
  let h := Dev.hp d p
  let d := Dev.count (Dev.setHp d p { h with aerCor := h.aerCor ||| BitVec.ofNat 32 (2 ^ b) }) (K.hostAerCorrectable p) 1
  Dev.perf (if h.aerCorMask.getLsbD b then d else Dev.aerSend d p 0) (0x2A + p) 5 1

/-! Requests to host memory (R332). -/

/-- The pieces of a request, split at `max` bytes and at 4 KiB boundaries. -/
def splitReq (max : Nat) : Nat → Nat → Nat → List (Nat × Nat)
  | 0, _, _ => []
  | k + 1, addr, len =>
    if len = 0 then []
    else
      let n := min len (min max (4096 - addr % 4096))
      (addr, n) :: splitReq max k (addr + n) (len - n)

/-- The requests of a read; a port that is not in state 1 sends none (R345). -/
def Dev.hostReads (d : Dev) (p addr len : Nat) : Dev :=
  if Dev.hostUp d p then (splitReq (Dev.hp d p).mrrs len addr len).foldl (fun d x => Dev.emit d (.hostRead p x.1 x.2)) d else d

/-- Tags in use on port p: those of the reads of its queues, and one for each context that an operation reads (R330,
log 153). -/
def Dev.tagsUsed (d : Dev) (p : Nat) : Nat :=
  d.dma.qs.foldl (fun n x =>
    n + (if x.2.rd.isSome && Dev.dqHp d x.1 == p then x.2.tags else 0)
      + (match x.2.cmd with
         | some (_, hp) => b2n (hp == p && !(Dev.hp d p).ctxWait.contains x.1)
         | none => 0)) 0

/-- Issue a read for queue q on its home port, once 768 tags leave room for its requests (R330). -/
def Dev.dqIssue (d : Dev) (q addr len : Nat) (r : DqRead) : Dev :=
  let p := Dev.dqHp d q
  let n := (splitReq (Dev.hp d p).mrrs len addr len).length
  if Dev.tagsUsed d p + n ≤ 768 then
    let d := Dev.hostReads d p addr len
    Dev.setDq d q { Dev.dq d q with rd := some r, tags := n }
  else d

/-- Read the context of queue q on port p, for an operation. -/
def Dev.ctxRequest (d : Dev) (q p : Nat) : Dev := Dev.hostReads d p (Dev.ctxBase d p + q * 64) 64

/-- Contexts that wait for a tag of port p are read as tags allow; those whose operation has ended leave the line. -/
def Dev.ctxTry (d : Dev) (p : Nat) : Dev :=
  (Dev.hp d p).ctxWait.foldl (fun d q =>
    let h := Dev.hp d p
    let drop (d : Dev) : Dev := Dev.setHp d p { h with ctxWait := h.ctxWait.erase q }
    match (Dev.dq d q).cmd with
    | some (_, hp) => if hp ≠ p then drop d else if Dev.tagsUsed d p < 768 then Dev.ctxRequest (drop d) q p else d
    | none => drop d) d

def Dev.hostWrites (d : Dev) (p addr : Nat) (bs : List Byte) (relaxed : Bool) : Dev :=
  (splitReq (Dev.hp d p).mps bs.length addr bs.length).foldl (fun d x =>
    Dev.emit d (.hostWrite p x.1 (slice bs (x.1 - addr) x.2) (relaxed && (Dev.hp d p).relaxed))) d

/-- The translation of an address: one not cached is asked for, and `xl` is the page that the request brings, `none` where it
is refused (R339). The result is the address to use, if there is one. -/
def Dev.translate (d : Dev) (p addr : Nat) (xl : Option Nat) : Dev × Option Nat :=
  let h := Dev.hp d p
  if h.atsOn = false then (d, some addr)
  else
    match SMap.find h.xlat (addr / 4096) with
    | some g => (d, some (g * 4096 + addr % 4096))
    | none =>
      let d := Dev.emit d (.translation p addr)
      match xl with
      | some g =>
        let old := if 4096 ≤ h.xlat.length then h.xlat.drop 1 else h.xlat
        (Dev.perf (Dev.setHp d p { h with xlat := SMap.ins old (addr / 4096) g }) (0x2A + p) 4 1,
          some (g * 4096 + addr % 4096))
      | none => (d, none)

/-- Invalidations complete once no read of the port is outstanding (R339). -/
def Dev.invalTry (d : Dev) (p : Nat) : Dev :=
  let h := Dev.hp d p
  if h.invals ≠ [] ∧ d.dma.qs.all (fun x => x.2.rd.isNone || Dev.dqHp d x.1 != p) = true then
    h.invals.foldl (fun d t => Dev.count (Dev.emit d (.invalDone p t)) (K.hostAtsInvalidations p) 1)
      (Dev.setHp d p { h with invals := [] })
  else d

/-- A read of the engine has ended, on whichever port: what waited for it goes on (R330, R339). -/
def Dev.readsEnd (d : Dev) : Dev := Dev.ctxTry (Dev.ctxTry (Dev.invalTry (Dev.invalTry d 0) 1) 0) 1

/-! Page requests (R340). -/

/-- Page requests that wait are issued as far as the host's allocation goes, while PRI is enabled and not stopped (R340). -/
def Dev.priTry (d : Dev) (p : Nat) : Dev :=
  if (Dev.hp d p).priOn = false ∨ (Dev.hp d p).priStopped = true then d
  else
  (Dev.hp d p).priWait.foldl (fun d x =>
    let h := Dev.hp d p
    let drop (d : Dev) : Dev := Dev.setHp d p { h with priWait := h.priWait.erase x }
    if (Dev.dq d x.1).pri = false ∨ Dev.dqHp d x.1 ≠ p then drop d
    else if h.priOut < h.priMax then
      let d := Dev.setHp d p { h with priWait := h.priWait.erase x, priOut := h.priOut + 1 }
      Dev.perf (Dev.count (Dev.emit d (.pageRequest p x.1 x.2)) (K.hostPriRequests p) 1) 0x29 5 1
    else d) d

/-- A page request of queue q for an address of port p: issued, or waiting for the allocation. -/
def Dev.priAsk (d : Dev) (p q addr : Nat) : Dev :=
  let h := Dev.hp d p
  Dev.priTry (Dev.setDq (Dev.setHp d p { h with priWait := h.priWait ++ [(q, addr)] }) q { Dev.dq d q with pri := true }) p

/-! Punt drops and abandoned work (R367, R375). -/

/-- Packets of the staging buffer that `f` selects are dropped as punt_overflow. -/
def Dev.dropStaged (d : Dev) (f : Punt → Bool) : Dev :=
  let d := (d.dma.staging.filter f).foldl Dev.dropPunt d
  Dev.setStaging d (d.dma.staging.filter (fun y => !f y))

/-- The packets staged for queue q are dropped, but for the one of its item in progress (R367). -/
def Dev.dropUnserved (d : Dev) (q : Nat) : Dev :=
  let keep := if (Dev.dq d q).item.isSome then d.dma.staging.find? (fun y => y.dq == q) else none
  Dev.dropStaged d (fun y => y.dq == q && some y != keep)

/-- After a write of dma.punt.map for CPU-port queue c: its staged packets go to the punt queue that it maps to now, with the
meta that its context asks for (R368), or are dropped where there is none in state 1 or 2 or it holds 64 KiB already; a packet
that is being written stays (R367). -/
def Dev.remapStaged (d : Dev) (c : Nat) : Dev :=
  let new := Dev.el d (K.dmaPuntMap c)
  let st := Dev.dqSt d new
  let busy := d.dma.staging.filter (fun y => (Dev.dq d y.dq).item.isSome && d.dma.staging.find? (fun z => z.dq == y.dq) == some y)
  let moves (y : Punt) : Bool := y.cpuQ == c && y.dq != new && !busy.contains y
  if new ≠ 0xFFFF ∧ (st = 1 ∨ st = 2) then
    let extra : List Punt := ((d.dma.staging.filter moves).foldl (fun (a : List Punt × Nat) y =>
      if 65536 ≤ a.2 then (a.1 ++ [y], a.2) else (a.1, a.2 + Punt.size y)) ([], Dev.puntHeld d new)).1
    let d := Dev.dropStaged d (fun y => extra.contains y)
    let ctx := (Dev.dq d new).ctx
    Dev.setStaging d (d.dma.staging.map (fun y =>
      if moves y then { y with dq := new, header := putBits y.header 192 64 (puntMeta ctx y.sheaf) } else y))
  else Dev.dropStaged d moves

/-- The item in progress of queue q, every prefetched descriptor and every staged packet of it are abandoned; its block,
if one waits in the table engine, is no item's any more. -/
def Dev.dqAbandon (d : Dev) (q : Nat) : Dev :=
  let x := Dev.dq d q
  let snap := match x.item with
    | some _ => ctxKind x.ctx == 4
    | none => false
  let d := Dev.readsEnd (Dev.setDq d q { x with item := none, pre := [], rd := none, pri := false, stalled := false })
  let d := if snap then { d with dma := { d.dma with snap := none } } else d
  let d := { d with tbl := { d.tbl with
    waiting := d.tbl.waiting.map (fun b => if b.queue = q ∧ b.item = true then { b with queue := q + 4096 } else b) } }
  Dev.dropStaged d (fun y => y.dq == q)

/-! Errors (R372, R373, Table 10). -/

/-- Latch an error of queue q and raise its event. -/
def Dev.dqLatch (d : Dev) (q reason idx : Nat) : Dev :=
  let d := Dev.setEl (Dev.setEl d (K.dqErrReason q) reason) (K.dqErrIndex q) (idx % 65536)
  Dev.perf (Dev.event (Dev.setEl d (K.dqErrTime q) (Dev.tb0Elem d)) 2 12) 0x29 7 1

/-- Queue q meets an error: in states 1 to 3 it enters the error state, and its staged packets are dropped; in state 5 its work
is abandoned. -/
def Dev.dqError (d : Dev) (q reason idx : Nat) : Dev :=
  let st := Dev.dqSt d q
  if 1 ≤ st ∧ st ≤ 3 then
    let x := Dev.dq d q
    let d := Dev.readsEnd (Dev.setDq d q { x with rd := none, pri := false, stalled := false })
    Dev.dropStaged (Dev.count (Dev.setDqSt (Dev.dqLatch d q reason idx) q 4) K.dmaErrors 1) (fun y => y.dq == q)
  else if st = 5 then Dev.dqAbandon (Dev.dqLatch d q reason idx) q
  else d

/-- The data transfer of queue q's item fails: the item's entry is due with status 2, and the error follows it (R365); with
no item the error is at once. A punt entry gives the stored bytes written, a table-command entry the tag once the header has
come; the table status of a block that was not run is a free value, and so is the tag of a header that has not come (Table 7,
log 174). -/
def Dev.dqFail (d : Dev) (q reason : Nat) : Dev :=
  let x := Dev.dq d q
  match x.item with
  | some it =>
    if (it.stage = .read ∨ it.stage = .write) ∧ Dev.dqSt d q ≠ 5 then
      let info :=
        if ctxKind x.ctx = 1 then putBits it.info 15 15 (it.done - 32)
        else if ctxKind x.ctx = 2 ∧ it.stage = .read then
          Dev.freeVal d 256 + (if 16 ≤ it.data.length then bits (leNat (it.data.take 16)) 32 32 else Dev.freeVal d (2 ^ 32)) * 2 ^ 32
        else it.info
      let d := Dev.setDq (if ctxKind x.ctx = 2 ∧ it.stage = .read then Dev.useFree d else d) q { x with
        rd := none, pri := false, item := some { it with stage := .entry, status := 2, err := reason, info := info } }
      let d := Dev.readsEnd d
      if Dev.dqSt d q = 2 then Dev.setDqSt d q 1 else d
    else Dev.dqError d q reason it.first
  | none => Dev.dqError d q reason (Dev.el d (K.dqSqCons q))

/-- A drain buffer that holds records is complete: its entry is due (R369). A buffer whose write waits for a page is complete
once the page request has ended well; else the write has failed (R365). -/
def Dev.drainBufEnd (d : Dev) (q : Nat) : Dev :=
  let x := Dev.dq d q
  match x.item with
  | some it =>
    if ctxKind x.ctx = 3 ∧ it.stage = .write ∧ 0 < it.done ∧ x.pri = false then
      Dev.setDq d q { x with item := some { it with stage := .entry } }
    else d
  | none => d

/-- A translation is refused: the queue asks for the page, and in state 1 it is faulted (R340, R371). -/
def Dev.dqRefused (d : Dev) (q addr : Nat) : Dev :=
  let p := Dev.dqHp d q
  let h := Dev.hp d p
  if h.priOn && !h.priStopped then
    let d := Dev.priAsk d p q addr
    if Dev.dqSt d q = 1 then
      Dev.setDqSt (Dev.addEl (Dev.count d K.dmaFaults 1) 32 (K.dqFaults q) 1) q 2
    else d
  else Dev.dqFail d q 11

/-! Completion entries and messages (R356, R364, R366). -/

/-- Signal the entries of queue q, where its vector is bound to it on its home port and the port may send (R345, R366). -/
def Dev.dqSignal (d : Dev) (q : Nat) : Dev :=
  let x := Dev.dq d q
  let p := Dev.dqHp d q
  let v := ctxVector x.ctx
  if x.unsig ≠ 0 ∧ v ≠ 0xFFFF ∧ Dev.hostUp d p = true ∧ Dev.dqSt d q ≠ 3 ∧
      SMap.find (Dev.hp d p).vecQueue v = some q then
    Dev.sendVector (Dev.setDq d q { x with unsig := 0 }) p v
  else d

/-- The 16 bytes of an item's entry at tail t. -/
def DqItem.entry (it : DqItem) (ctx t : Nat) : Nat :=
  ringPhase (ctxCqLog ctx) t + it.status * 2 + (if it.status = 2 then it.seg % 16 * 2 ^ 4 else 0)
    + it.descs.length % 32 * 2 ^ 8 + it.first % 65536 * 2 ^ 16 + it.done % 2 ^ 32 * 2 ^ 32 + it.info % 2 ^ 64 * 2 ^ 64

/-- The stream that names queue q. -/
def Dev.dqStream (d : Dev) (q : Nat) : Option Nat :=
  (List.range 8).find? (fun i => Dev.streamKind d i == 1 && Dev.streamQueue d i == q)

/-- Free places of queue q's completion ring by the last head read. -/
def Dev.cqFree (d : Dev) (q : Nat) : Nat :=
  2 ^ ctxCqLog (Dev.dq d q).ctx - idxSub (Dev.el d (K.dqCqTail q)) (Dev.el d (K.dqCqHead q))

/-- Write the entry of queue q's item at address `addr`: the item is complete (R364, R365, R369). -/
def Dev.dqEntry (d : Dev) (q addr : Nat) : Dev :=
  let x := Dev.dq d q
  match x.item with
  | none => d
  | some it =>
    let t := Dev.el d (K.dqCqTail q)
    let d := Dev.hostWrites d (Dev.dqHp d q) addr (leBytes 16 (DqItem.entry it x.ctx t)) false
    let d := Dev.setEl d (K.dqCqTail q) ((t + 1) % 65536)
    let d := Dev.setEl d (K.dqSqCons q) ((it.first + it.descs.length) % 65536)
    let d := Dev.count d (K.dqItems q) 1
    let d := Dev.setDq d q { x with item := none, unsig := x.unsig + 1 }
    let d :=
      if ctxKind x.ctx = 3 then
        match Dev.dqStream d q with
        | some i => Dev.deliver d i (List.replicate (it.done / 64 - if Dev.streamWants d i 4 then it.marks + Dev.badBetween d i it.upto else 0) 0) it.marks it.upto
        | none => d
      else if ctxKind x.ctx = 4 then
        Dev.count { d with dma := { d.dma with snap := none } } K.gleanSnapshots (if it.status = 2 then 0 else 1)
      else d
    let d := if it.status = 2 ∨ max 1 (ctxCoal x.ctx) ≤ x.unsig + 1 then Dev.dqSignal d q else d
    if it.err ≠ 0 then Dev.dqError d q it.err it.first else d

/-- coal_us has passed since the first entry not signalled (R366). -/
def Dev.coalTimer (d : Dev) (q : Nat) : Dev :=
  if ctxCoalUs (Dev.dq d q).ctx ≠ 0 ∧ Dev.dqSt d q ≠ 0 then Dev.dqSignal d q else d

/-! The operations of dq.ctl (R374). -/

/-- Whether dq.ctl may be written now: not while a context is read for an earlier operation (R396). -/
def Dev.dqCtlBusy (d : Dev) (q op : Nat) : Bool := (Dev.dq d q).cmd.isSome && op != 3 && op != 4

/-- Whether Table 11 allows operation `op` in the present state; `from_` is the class that writes: 0 and 1 for the host ports
(R347). -/
def Dev.dqAllowed (d : Dev) (q op from_ : Nat) : Bool :=
  let st := Dev.dqSt d q
  let p := Dev.dqHp d q
  match op with
  | 1 | 2 => st == 0
  | 3 => decide (1 ≤ st ∧ st ≤ 3)
  | 4 => decide (1 ≤ st ∧ st ≤ 5)
  | 5 => st == 3 && Dev.hostUp d p
  | 6 | 7 => decide (1 ≤ st ∧ st ≤ 4) && !(Dev.hostUp d p && from_ == 1 - p)
  | _ => false

/-- Read the context of queue q on port p for operation `op`. -/
def Dev.dqReadCtx (d : Dev) (q op p : Nat) : Dev :=
  let room := decide (Dev.tagsUsed d p < 768)
  let d := Dev.setEl (Dev.setDq d q { Dev.dq d q with cmd := some (op, p) }) (K.dqCtlStatus q) 1
  if room then Dev.ctxRequest d q p else Dev.setHp d p { Dev.hp d p with ctxWait := (Dev.hp d p).ctxWait ++ [q] }

/-- An accepted write of `op` to dq.ctl of queue q from host port `from_` (R374, Table 11). -/
def Dev.dqOp (d : Dev) (q op from_ : Nat) : Dev :=
  if Dev.dqAllowed d q op from_ = false then Dev.setEl d (K.dqCtlStatus q) 3
  else
    match op with
    | 1 => Dev.dqReadCtx d q 1 0
    | 2 => if Dev.x8 d then Dev.setEl d (K.dqCtlStatus q) 2 else Dev.dqReadCtx d q 2 1
    | 3 =>
      let d := if Dev.dqSt d q = 3 then Dev.dqAbandon d q else Dev.dropUnserved d q
      let d := Dev.setDq d q { Dev.dq d q with cmd := none }
      Dev.setEl (Dev.setDqSt d q 5) (K.dqCtlStatus q) 1
    | 4 =>
      let d := Dev.dqAbandon d q
      let d := Dev.setDq d q { Dev.dq d q with cmd := none }
      Dev.setEl (Dev.setDqSt d q 5) (K.dqCtlStatus q) 1
    | 5 => Dev.dqReadCtx d q 5 (Dev.dqHp d q)
    | 6 => Dev.dqReadCtx d q 6 0
    | 7 => if Dev.x8 d then Dev.setEl d (K.dqCtlStatus q) 2 else Dev.dqReadCtx d q 7 1
    | _ => d

/-- Queue q runs on port p from index 0 with context c. -/
def Dev.dqStart (d : Dev) (q p c : Nat) : Dev :=
  let d := Dev.setDq d q { Dq.init with ctx := c }
  let d := [K.dqSqProd q, K.dqSqCons q, K.dqCqTail q, K.dqCqHead q].foldl (fun d k => Dev.setEl d k 0) d
  Dev.cachePush (Dev.setDqSt (Dev.setEl d (K.dqHome q) (p + 1)) q 1) q

/-- Release the vector bound to queue q on port p (R337). -/
def Dev.vecRelease (d : Dev) (q p : Nat) : Dev :=
  if p < 2 then
    let h := Dev.hp d p
    Dev.setHp d p { h with vecQueue := h.vecQueue.filter (fun x => x.2 != q) }
  else d

/-- The context that an operation reads has come (R374). A resume that finds another context than the queue's errs; the
status with which it ends is a free value, not PENDING (R351, log 34). -/
def Dev.dqCmdEnd (d : Dev) (q op p c : Nat) : Dev :=
  let d := Dev.setDq d q { Dev.dq d q with cmd := none }
  let st := Dev.dqSt d q
  let status (d : Dev) (v : Nat) : Dev := Dev.setEl d (K.dqCtlStatus q) v
  if Dev.ctxBad d q p c then status d 2
  else if (op = 1 ∨ op = 2) ∧ st = 0 then status (Dev.dqStart d q p c) 0
  else if op = 5 ∧ st = 3 ∧ c ≠ (Dev.dq d q).ctx then
    let v := Dev.freeVal d 3
    status (Dev.dqError (Dev.useFree d) q 9 (Dev.el d (K.dqSqCons q))) (if v = 0 then 0 else v + 1)
  else if op = 5 ∧ st = 3 then
    status (Dev.cachePush (Dev.setDqSt (Dev.setDq d q { Dev.dq d q with ctx := c, rd := none, stalled := false }) q 1) q) 0
  else if (op = 6 ∨ op = 7) ∧ 1 ≤ st ∧ st ≤ 4 then
    status (Dev.dqStart (Dev.vecRelease (Dev.dqAbandon d q) q (Dev.dqHp d q)) q p c) 0
  else status d 3

/-- The read of a context fails: the operation ends with INVALID, and a queue in state 1 to 3 errs (R372, log 24). -/
def Dev.dqCmdFail (d : Dev) (q reason : Nat) : Dev :=
  let x := Dev.dq d q
  let d := Dev.setEl (Dev.setDq d q { x with cmd := none }) (K.dqCtlStatus q) 2
  Dev.dqError d q reason (match x.item with
    | some it => it.first
    | none => Dev.el d (K.dqSqCons q))

/-- A stopping queue whose work is finished or abandoned is disabled (R375). -/
def Dev.dqStopDone (d : Dev) (q : Nat) : Dev :=
  if Dev.dqSt d q = 5 ∧ (Dev.dq d q).item = none then
    Dev.setEl (Dev.setDqSt (Dev.dqAbandon d q) q 0) (K.dqCtlStatus q) 0
  else d

/-- The home port of queue q has left host state 1 (R345, Table 9). A re-home that reads its context on the other port goes
on (R347, R374). -/
def Dev.dqFreeze (d : Dev) (q : Nat) : Dev :=
  let st := Dev.dqSt d q
  if st = 1 ∨ st = 2 then
    let d := Dev.drainBufEnd (Dev.setDq d q { Dev.dq d q with rd := none, pri := false, stalled := false }) q
    Dev.setDqSt (Dev.dropUnserved d q) q 3
  else if st = 5 then Dev.setEl (Dev.setDqSt (Dev.dqAbandon d q) q 0) (K.dqCtlStatus q) 0
  else d

/-! Doorbells and bindings (R337, R338, R357). -/

/-- A doorbell of queue q with value v on port p. -/
def Dev.doorbell (d : Dev) (p q v : Nat) : Dev :=
  let st := Dev.dqSt d q
  if Dev.dqHp d q ≠ p ∨ st = 0 ∨ st = 4 ∨ st = 5 then Dev.count d (K.hostBar2Discards p) 1
  else
    let c := Dev.el d (K.dqSqCons q)
    let new := v % 65536
    if v / 65536 ≠ 0 then Dev.dqError d q 3 new
    else if 2 ^ ctxSqLog (Dev.dq d q).ctx < idxSub new c then Dev.dqError d q 1 new
    else if idxSub new c < idxSub (Dev.el d (K.dqSqProd q)) c then Dev.dqError d q 2 new
    else Dev.setEl d (K.dqSqProd q) new

/-- The vector of queue q on port p. -/
def Dev.vecOf (d : Dev) (p q : Nat) : Option Nat := ((Dev.hp d p).vecQueue.find? (fun x => x.2 == q)).map (fun x => x.1)

/-- host.vec.free of port p. -/
def Dev.vecFree (d : Dev) (p : Nat) : Nat := 2016 - (Dev.hp d p).vecQueue.length

/-- Queue q has a vector, on its own port or on one that it was homed on before (R337). -/
def Dev.vecBound (d : Dev) (q : Nat) : Bool := (Dev.vecOf d 0 q).isSome || (Dev.vecOf d 1 q).isSome

/-- The vector command with the parameters in its elements; its status (R337). -/
def Dev.vecRun (d : Dev) : Dev × Nat :=
  let p := Dev.el d K.vecPort
  let q := Dev.el d K.vecQueue
  let v := Dev.el d K.vecVector
  let h := Dev.hp d p
  match Dev.el d K.vecOp with
  | 1 =>
    let pick := if v = 0xFFFF then (List.range 2048).find? (fun k => decide (32 ≤ k) && (SMap.find h.vecQueue k).isNone)
                else some v
    if v < 32 ∨ (2047 < v ∧ v ≠ 0xFFFF) ∨ Dev.dqHp d q ≠ p then (d, 2)
    else if Dev.vecBound d q then (d, 4)
    else
      match pick with
      | none => (Dev.day d 11, 3)
      | some k =>
        if (SMap.find h.vecQueue k).isSome then (d, 4)
        else
          let d := Dev.setEl (Dev.setHp d p { h with vecQueue := SMap.ins h.vecQueue k q }) K.vecVector k
          (if ctxVector (Dev.dq d q).ctx = k then Dev.dqSignal d q else d, 0)
  | 2 =>
    match Dev.vecOf d p q with
    | some k => (Dev.setEl (Dev.vecRelease d q p) K.vecVector k, 0)
    | none => (d, 2)
  | 3 => (Dev.setEl d K.vecVector ((Dev.vecOf d p q).getD 0xFFFF), 0)
  | _ => (d, 2)

end Sys2Proof.Machine
end

