-- ==== Sys2Proof/Machine/Dma.lean ====
section
/-! DEFINITION. The DMA engine at work: descriptors, items, slices, completions of reads (R355, R359 to R372). -/
namespace Sys2Proof.Machine

/-! Descriptors (R355, R360, R362, R363). -/

def descLen (kind x : Nat) : Nat := if kind = 0 then bits x 8 16 else bits x 8 24
def descAddr (x : Nat) : Nat := bits x 32 64

/-- Why the descriptor of index `i` is malformed: 0 where it is not. -/
def descBad (kind k i x : Nat) : Nat :=
  let len := descLen kind x
  let a := descAddr x
  if x % 2 ≠ ringPhase k i then 4
  else
    match kind with
    | 0 =>
      if bits x 3 5 ≠ 0 ∨ bits x 24 8 ≠ 0 ∨ bits x 108 4 ≠ 0 ∨ (bit x 1 = false ∧ bits x 96 160 ≠ 0) then 5
      else if len = 0 ∨ 15996 < len then 6
      else 0
    | _ =>
      if bits x 1 7 ≠ 0 ∨ bits x 96 160 ≠ 0 then 5
      else
        match kind with
        | 1 => if len < 256 ∨ 65536 < len ∨ len % 64 ≠ 0 ∨ a % 64 ≠ 0 then 6 else 0
        | 2 => if len < 64 ∨ 48992 < len ∨ a % 32 ≠ 0 then 6 else 0
        | 3 => if len < 4096 ∨ 16777152 < len ∨ len % 64 ≠ 0 ∨ a % 64 ≠ 0 then 6 else 0
        | _ => if len < 3968 ∨ 65536 < len ∨ a % 64 ≠ 0 then 6 else 0

/-- What the next item of a queue may be made of: n descriptors; more are needed; or one is malformed. -/
inductive Chain where
  | ok (n : Nat)
  | need
  | bad (reason idx : Nat)
  deriving DecidableEq, Repr

/-- The chain of an inject packet, from its descriptor j on (R360, R361). -/
def injectChain (k c : Nat) : Nat → Nat → List Nat → Chain
  | _, _, [] => .need
  | j, sum, x :: t =>
    let i := (c + j) % 65536
    let r := descBad 0 k i x
    let sum := sum + descLen 0 x
    if r ≠ 0 then .bad r i
    else if 15996 < sum then .bad 6 i
    else if bit x 1 ≠ decide (j = 0) then .bad 8 i
    else if bit x 2 = false then .ok (j + 1)
    else if j = 15 then .bad 7 i
    else injectChain k c (j + 1) sum t

/-- The buffers of a punted packet of `len` bytes with its header: enough, or the sixteen that it may use (R368). -/
def puntChain (k c len : Nat) : Nat → Nat → List Nat → Chain
  | _, _, [] => .need
  | j, sum, x :: t =>
    let i := (c + j) % 65536
    let r := descBad 1 k i x
    if r ≠ 0 then .bad r i
    else if len ≤ sum + descLen 1 x ∨ j = 15 then .ok (j + 1)
    else puntChain k c len (j + 1) (sum + descLen 1 x) t

/-! Reading descriptors (R355). -/

/-- Descriptors published and not yet read. -/
def Dev.dqUnread (d : Dev) (q : Nat) : Nat :=
  let x := Dev.dq d q
  let held := x.pre.length + (match x.item with | some it => it.descs.length | none => 0)
  idxSub (Dev.el d (K.dqSqProd q)) (Dev.el d (K.dqSqCons q)) - held

/-- Read descriptors of queue q, as many as may be prefetched and lie together. -/
def Dev.dqFetch (d : Dev) (q : Nat) (xl : Option Nat) : Dev :=
  let x := Dev.dq d q
  let n := 2 ^ ctxSqLog x.ctx
  let slot := (Dev.el d (K.dqSqCons q) + x.pre.length) % n
  let cnt := min (min (32 - x.pre.length) (Dev.dqUnread d q)) (min (n - slot) (128 - slot % 128))
  let addr := ctxSqBase x.ctx + slot * 32
  let r := Dev.translate d (Dev.dqHp d q) addr xl
  match r.2 with
  | none => Dev.dqRefused r.1 q addr
  | some a => Dev.dqIssue r.1 q a (cnt * 32) (.descs cnt)

/-! Making items (R360 to R363, R367 to R369). -/

/-- The item of the first n prefetched descriptors. -/
def Dev.dqMake (d : Dev) (q n : Nat) (stage : DqStage) (data : List Byte) (status info : Nat) : Dev :=
  let x := Dev.dq d q
  let c := Dev.el d (K.dqSqCons q)
  let it : DqItem := { first := c, descs := x.pre.take n, stage := stage, seg := 0, off := 0, done := 0, data := data,
                       status := status, info := info, err := 0, upto := 0, marks := 0 }
  Dev.setDq d q { x with pre := x.pre.drop n, item := some it }

/-- The first staged packet of queue q. -/
def Dev.puntNext (d : Dev) (q : Nat) : Option Punt := d.dma.staging.find? (fun y => y.dq == q)

/-- A stream that drains into queue q has a record for it. -/
def Dev.drainHas (d : Dev) (q : Nat) (marks upto : Nat) : Bool :=
  match Dev.dqStream d q with
  | some i => !(Dev.gather d i 1 marks upto).recs.isEmpty
  | none => false

/-- Whether an idle queue has an item to make. -/
def Dev.dqHasNext (d : Dev) (q : Nat) : Bool :=
  let x := Dev.dq d q
  let open_ := !x.pre.isEmpty || decide (0 < Dev.dqUnread d q)
  match ctxKind x.ctx with
  | 0 =>
    match injectChain (ctxSqLog x.ctx) (Dev.el d (K.dqSqCons q)) 0 0 x.pre with
    | .need => decide (0 < Dev.dqUnread d q)
    | _ => true
  | 1 => (Dev.puntNext d q).isSome
  | 2 => open_
  | 3 => open_ && Dev.drainHas d q 0 0
  | _ => open_ && d.dma.snap.isSome && Dev.el d K.gleanQueue == q

/-- The bytes of a punted packet in its buffers of `room` bytes: whole, or cut with truncated 1 (R368). -/
def puntBytes (y : Punt) (room : Nat) : List Byte × Bool :=
  if Punt.size y ≤ room then (leBytes 32 y.header ++ y.bytes, false)
  else (leBytes 32 (putBits y.header 15 1 1) ++ y.bytes.take (room - 32), true)

/-- Start the next item of queue q, or read the descriptors that it needs. -/
def Dev.dqNext (d : Dev) (q : Nat) (xl : Option Nat) : Dev :=
  let x := Dev.dq d q
  let c := Dev.el d (K.dqSqCons q)
  let k := ctxSqLog x.ctx
  let more := decide (0 < Dev.dqUnread d q)
  let kind := ctxKind x.ctx
  match kind with
  | 0 =>
    match injectChain k c 0 0 x.pre with
    | .ok n => Dev.dqMake d q n .read [] 0 (bits (x.pre.headD 0) 192 64)
    | .bad r i => Dev.dqError d q r i
    | .need => if more then Dev.dqFetch d q xl else d
  | 1 =>
    match Dev.puntNext d q with
    | none => d
    | some y =>
      match puntChain k c (Punt.size y) 0 0 x.pre with
      | .bad r i => Dev.dqError d q r i
      | .need =>
        if more then Dev.dqFetch d q xl
        else
          let d := Dev.dropPunt d y
          Dev.setStaging d (d.dma.staging.erase y)
      | .ok n =>
        let room := (x.pre.take n).foldl (fun a e => a + descLen 1 e) 0
        let b := puntBytes y room
        let info := bits y.header 0 11 + y.cpuQ * 2 ^ 11 + (b.1.length - 32) % 2 ^ 15 * 2 ^ 15
        Dev.dqMake d q n .write b.1 (b2n b.2) info
  | _ =>
    match x.pre with
    | [] => if more then Dev.dqFetch d q xl else d
    | e :: _ =>
      let r := descBad kind k c e
      if r ≠ 0 then Dev.dqError d q r c
      else if kind = 2 then Dev.dqMake d q 1 .read [] 0 0
      else if kind = 3 then Dev.dqMake d q 1 .write [] 0 0
      else
        match d.dma.snap with
        | some s => Dev.dqMake d q 1 .write s.2 0 s.1
        | none => d

/-! Slices (R370). -/

/-- Count a slice of n bytes of queue q. -/
def Dev.countSlice (d : Dev) (q n : Nat) : Dev :=
  Dev.count (Dev.perf (Dev.perf d 0x29 2 1) 0x29 3 ((n + 63) / 64)) (K.dqBytes q) n

/-- Read the next slice of the item: at most 4 KiB, within one page. -/
def Dev.dqReadSlice (d : Dev) (q : Nat) (it : DqItem) (xl : Option Nat) : Dev :=
  let x := Dev.dq d q
  let e := (it.descs[it.seg]?).getD 0
  let addr := descAddr e + it.off
  let n := min (descLen (ctxKind x.ctx) e - it.off) (4096 - addr % 4096)
  let r := Dev.translate d (Dev.dqHp d q) addr xl
  match r.2 with
  | none => Dev.dqRefused r.1 q addr
  | some a => Dev.dqIssue r.1 q a n (.data n)

/-- A block just read is run by the table engine, or found malformed there (R125, R363). -/
def Dev.dqBlock (ep : Nat) (d : Dev) (q : Nat) (it : DqItem) (f : Option TblFault) : Dev :=
  let h := leNat (it.data.take 16)
  let n := blkRecBytes (Blk.table h)
  let cnt := Blk.count h
  let recs := if it.data.length = 32 + cnt * n then (List.range cnt).map (fun i => leNat (slice it.data (32 + i * n) n)) else []
  Dev.block ep d q h recs true f

/-- The bytes of a slice have been read. -/
def Dev.dqDataCome (ep : Nat) (d : Dev) (q n : Nat) (bs : List Byte) (f : Option TblFault) : Dev :=
  let x := Dev.dq d q
  match x.item with
  | none => Dev.setDq d q { x with rd := none }
  | some it =>
    let e := (it.descs[it.seg]?).getD 0
    let endSeg := decide (descLen (ctxKind x.ctx) e ≤ it.off + n)
    let last := endSeg && decide (it.descs.length ≤ it.seg + 1)
    let it := { it with data := it.data ++ bs.take n, done := it.done + n,
                        seg := if endSeg && !last then it.seg + 1 else it.seg,
                        off := if endSeg then 0 else it.off + n, stage := if last then .wait else .read }
    let d := Dev.countSlice (Dev.setDq d q { x with rd := none, item := some it }) q n
    if last ∧ ctxKind x.ctx = 2 then Dev.dqBlock ep d q it f else d

/-- Where the bytes to be written go: the buffer, or a block's header from its PW fields on. -/
def DqItem.target (it : DqItem) (kind : Nat) : Nat :=
  descAddr ((it.descs[it.seg]?).getD 0) + it.off + (if kind = 2 then 16 else 0)

/-- Write the next slice of the item: at most 4 KiB, within one page and one buffer. -/
def Dev.dqWriteSlice (d : Dev) (q : Nat) (it : DqItem) (xl : Option Nat) : Dev :=
  let x := Dev.dq d q
  let kind := ctxKind x.ctx
  let p := Dev.dqHp d q
  let len := descLen kind ((it.descs[it.seg]?).getD 0)
  let addr := DqItem.target it kind
  let room := 4096 - addr % 4096
  let r := Dev.translate d p addr xl
  match r.2 with
  | none => Dev.dqRefused r.1 q addr
  | some a =>
    let d := r.1
    if kind = 3 then
      match Dev.dqStream d q with
      | none => d
      | some i =>
        let g := Dev.gather d i (min (room / 64) ((len - it.off) / 64)) it.marks it.upto
        let bs := (g.recs.map (leBytes 64)).flatten
        let n := bs.length
        let d := Dev.countSlice (Dev.hostWrites d p a bs true) q n
        let info := if it.done = 0 then bits (g.recs.headD 0) 32 64 else it.info
        let full := decide (len < it.off + n + 64)
        let it := { it with off := it.off + n, done := it.done + n, marks := g.marks, upto := g.upto, info := info,
                            stage := if full then .entry else .write }
        Dev.perf (Dev.setDq d q { Dev.dq d q with item := some it }) 0x2C 6 g.recs.length
    else
      let n := min (min room it.data.length) (if kind = 2 then room else len - it.off)
      let d := Dev.hostWrites d p a (it.data.take n) (kind == 1)
      let d := if kind = 2 then d else Dev.countSlice d q n
      let rest := it.data.drop n
      let endBuf := kind != 2 && decide (len ≤ it.off + n) && !rest.isEmpty
      let it := { it with data := rest, seg := if endBuf then it.seg + 1 else it.seg,
                          off := if endBuf then 0 else it.off + n, done := if kind = 2 then it.done else it.done + n,
                          stage := if rest.isEmpty then .entry else .write }
      let d := Dev.setDq d q { Dev.dq d q with item := some it }
      if kind = 1 ∧ rest.isEmpty = true then
        match Dev.puntNext d q with
        | some y => Dev.setStaging d (d.dma.staging.erase y)
        | none => d
      else d

/-- Read the completion head word (R359). -/
def Dev.dqReadHead (d : Dev) (q : Nat) (xl : Option Nat) : Dev :=
  let addr := ctxHeadAddr (Dev.dq d q).ctx
  let r := Dev.translate d (Dev.dqHp d q) addr xl
  match r.2 with
  | none => Dev.dqRefused r.1 q addr
  | some a => Dev.dqIssue r.1 q a 4 .head

/-- Write the completion entry of the item, where the ring has a place by the last head read. -/
def Dev.dqFinish (d : Dev) (q : Nat) (xl : Option Nat) : Dev :=
  if Dev.cqFree d q = 0 then Dev.dqReadHead d q xl
  else
    let x := Dev.dq d q
    let addr := ctxCqBase x.ctx + Dev.el d (K.dqCqTail q) % 2 ^ ctxCqLog x.ctx * 16
    let r := Dev.translate d (Dev.dqHp d q) addr xl
    match r.2 with
    | none => Dev.dqRefused r.1 q addr
    | some a => Dev.dqEntry r.1 q a

/-- Whether queue q has work for the engine (R370). -/
def Dev.dqWork (d : Dev) (q : Nat) : Bool :=
  let x := Dev.dq d q
  let st := Dev.dqSt d q
  (st == 1 || st == 5) && x.rd.isNone && !x.stalled && !x.pri && Dev.hostUp d (Dev.dqHp d q) &&
    (match x.item with
      | some it =>
        match it.stage with
        | .wait => false
        | .write => if ctxKind x.ctx = 3 then Dev.drainHas d q it.marks it.upto else true
        | _ => true
      | none => st == 1 && Dev.dqHasNext d q)

/-- Use the context of queue q for `f`; it is read again first where the cache has lost it (R350). -/
def Dev.withCtx (d : Dev) (q : Nat) (f : Dev → Dev) : Dev :=
  if d.dma.cache.contains q then f (Dev.cachePush d q)
  else
    let d := Dev.perf (Dev.count d K.dmaCtxMisses 1) 0x29 8 1
    Dev.dqIssue d q (Dev.ctxBase d (Dev.dqHp d q) + q * 64) 64 .ctx

/-- One slice of queue q. -/
def Dev.dqServe (d : Dev) (q : Nat) (xl : Option Nat) : Dev :=
  Dev.withCtx d q (fun d =>
    match (Dev.dq d q).item with
    | none => Dev.dqNext d q xl
    | some it =>
      match it.stage with
      | .read => Dev.dqReadSlice d q it xl
      | .write => Dev.dqWriteSlice d q it xl
      | .entry => Dev.dqFinish d q xl
      | .wait => d)

/-- The queue that is served next: the highest priority with work, round robin within it (R370). -/
def Dev.dqPick (d : Dev) : Option Nat :=
  let ready := (d.dma.qs.map (fun x => x.1)).filter (Dev.dqWork d)
  let top := ready.foldl (fun m q => max m (ctxPrio (Dev.dq d q).ctx)) 0
  let mine := ready.filter (fun q => ctxPrio (Dev.dq d q).ctx == top)
  match mine.find? (fun q => decide (SMap.get d.dma.rr top 0 ≤ q)) with
  | some q => some q
  | none => mine.head?

/-- DMA_SLICE (R370). Place 8 of `rr` holds the queue served last, and one more. -/
def Dev.dmaSlice (d : Dev) (xl : Option Nat) : Dev :=
  match Dev.dqPick d with
  | none => d
  | some q =>
    let prev := SMap.get d.dma.rr 8 0
    let d :=
      if prev ≠ 0 ∧ prev ≠ q + 1 ∧ Dev.dqWork d (prev - 1) = true ∧ (Dev.dq d (prev - 1)).item.isSome = true
          ∧ ctxPrio (Dev.dq d (prev - 1)).ctx < ctxPrio (Dev.dq d q).ctx then Dev.perf d 0x29 4 1 else d
    let rr := SMap.set (SMap.set d.dma.rr (ctxPrio (Dev.dq d q).ctx) (q + 1) 0) 8 (q + 1) 0
    Dev.dqServe { d with dma := { d.dma with rr := rr } } q xl

/-- The cached context and the prefetched descriptors of queue q are uncorrectable: both are read again (R503). -/
def Dev.dqEcc (d : Dev) (q : Nat) : Dev :=
  let x := Dev.dq d q
  if d.dma.cache.contains q && x.rd.isNone then
    let d := Dev.setDq d q { x with pre := [] }
    Dev.corrected { d with dma := { d.dma with cache := d.dma.cache.erase q } } (keyObj K.dmaCtxMisses) (keyEl K.dmaCtxMisses) 1
  else d

/-! Completions of reads (R359, R372). -/

/-- The completion head word has come; each read that finds the ring full is a stall (log 36). -/
def Dev.dqHeadCome (d : Dev) (q w : Nat) : Dev :=
  let x := Dev.dq d q
  let t := Dev.el d (K.dqCqTail q)
  let h := Dev.el d (K.dqCqHead q)
  let n := 2 ^ ctxCqLog x.ctx
  let d := Dev.setDq d q { x with rd := none }
  if w / 65536 ≠ 0 ∨ n < idxSub t w ∨ idxSub t h < idxSub t w then Dev.dqError d q 14 t
  else
    let d := Dev.setEl d (K.dqCqHead q) w
    let full := decide (idxSub t w = n)
    let d := Dev.setDq d q { Dev.dq d q with stalled := full }
    if full then Dev.count d (K.dqCqStalls q) 1 else d

/-- The read that queue q waits for brings its bytes. -/
def Dev.dqCome (ep : Nat) (d : Dev) (q : Nat) (bs : List Byte) (f : Option TblFault) : Dev :=
  let x := Dev.dq d q
  match x.rd with
  | none => d
  | some (.descs n) =>
    let ds := (List.range n).map (fun i => leNat (slice bs (i * 32) 32))
    Dev.perf (Dev.setDq d q { x with rd := none, pre := x.pre ++ ds }) 0x29 1 n
  | some (.data n) => Dev.dqDataCome ep d q n bs f
  | some .head => Dev.dqHeadCome d q (leNat (bs.take 4))
  | some .ctx =>
    let d := Dev.setDq d q { x with rd := none }
    if leNat (bs.take 64) = x.ctx then Dev.cachePush d q else Dev.dqError d q 9 (Dev.el d (K.dqSqCons q))

/-- A read of queue q fails with an error reason (R372). -/
def Dev.dqReadFail (d : Dev) (q reason : Nat) : Dev :=
  if (Dev.dq d q).rd.isSome then
    match (Dev.dq d q).rd with
    | some (.data _) => Dev.dqFail d q reason
    | _ => Dev.dqError d q reason ((Dev.dq d q).item.elim (Dev.el d (K.dqSqCons q)) (fun it => it.first))
  else d

/-- DMA_READ_COMPLETION: for the context that an operation reads, or for the queue's work; completions for a queue in
another state are discarded (R372). -/
def Dev.readCompletion (ep : Nat) (d : Dev) (q : Nat) (ctx : Bool) (r : ReadEnd) (f : Option TblFault) : Dev :=
  let d :=
    if ctx then
      match (Dev.dq d q).cmd with
      | none => d
      | some (op, p) =>
        if (Dev.hp d p).ctxWait.contains q then d
        else match r with
        | .ok bs => Dev.dqCmdEnd d q op p (leNat (bs.take 64))
        | .poisoned => Dev.dqCmdFail (Dev.aerError d p 12) q 12
        | .urCa => Dev.dqCmdFail (Dev.aerError d p 20) q 12
    else
      let st := Dev.dqSt d q
      if st = 1 ∨ st = 2 ∨ st = 5 then
        match r with
        | .ok bs => Dev.dqCome ep d q bs f
        | bad =>
          if (Dev.dq d q).rd.isSome then
            Dev.dqReadFail (Dev.aerError d (Dev.dqHp d q) (if bad = .poisoned then 12 else 20)) q 12
          else d
      else d
  Dev.readsEnd d

/-- DMA_CPL_TIMEOUT (R341, R372). -/
def Dev.cplTimeout (d : Dev) (q : Nat) (ctx : Bool) : Dev :=
  let d :=
    if ctx then
      match (Dev.dq d q).cmd with
      | none => d
      | some (_, p) =>
        if (Dev.hp d p).ctxWait.contains q then d else Dev.dqCmdFail (Dev.perf (Dev.aerError d p 14) 0x29 6 1) q 10
    else if (Dev.dq d q).rd.isSome then
      Dev.dqReadFail (Dev.perf (Dev.aerError d (Dev.dqHp d q) 14) 0x29 6 1) q 10
    else d
  Dev.readsEnd d

/-- A stalled queue reads its head word again (R350, R359). -/
def Dev.headPoll (d : Dev) (q : Nat) (xl : Option Nat) : Dev :=
  let x := Dev.dq d q
  let st := Dev.dqSt d q
  if x.stalled && x.rd.isNone && !x.pri && (st == 1 || st == 5) && Dev.hostUp d (Dev.dqHp d q) then
    Dev.withCtx d q (fun d => Dev.dqReadHead d q xl)
  else d

/-- Bytes in the inject buffer of pipeline n (R361). -/
def Dev.injectBytes (d : Dev) (n : Nat) : Nat :=
  (Dev.pipe d n).inject.foldl (fun a i => a + (Pkt.data (Dev.pkt d i)).length) 0

/-- The packet of a chain whose head is e (R279, R361). -/
def Dev.injectPkt (d : Dev) (e : Nat) (bs : List Byte) : Pkt :=
  let w := bs ++ zeros (60 - bs.length)
  { Pkt.init with
    frame := w ++ leBytes 4 (fcs32 w), whole := true, inPort := 1040, rxAt := Dev.now d,
    preset := [(16, bits e 100 1), (19, bits e 101 3), (20, bits e 112 16), (21, bits e 128 64), (22, bits e 105 3),
               (23, bits e 104 1)] }

/-- The packet that queue q has read enters the inject buffer of its pipeline, once there is room; only a queue that is served
delivers (R361, R373). -/
def Dev.injectDeliver (d : Dev) (q : Nat) : Dev :=
  let x := Dev.dq d q
  match x.item with
  | some it =>
    let e := it.descs.headD 0
    let n := bits e 96 4
    let pk := Dev.injectPkt d e it.data
    if (Dev.dqSt d q = 1 ∨ Dev.dqSt d q = 5) ∧ ctxKind x.ctx = 0 ∧ it.stage = .wait ∧ Dev.injectBytes d n + (Pkt.data pk).length ≤ 65536 then
      let i := d.nextPkt
      let d := Dev.setDq { d with nextPkt := i + 1 } q { x with item := some { it with stage := .entry } }
      let pp := Dev.pipe d n
      Dev.setPkt (Dev.setPipe d n { pp with inject := pp.inject ++ [i] }) i pk
    else d
  | none => d

/-! The meanings. -/

def execDqStopDone (q : Fin 2048) : State → Host.Outcome State Fault Refusal := lift (fun d => Dev.dqStopDone d q.val)
def execDmaSlice (xl : Option Nat) (ecc : List (Fin 2048)) : State → Host.Outcome State Fault Refusal :=
  lift (fun d => Dev.dmaSlice (ecc.foldl (fun d q => Dev.dqEcc d q) d) xl)
def execDmaReadCompletion (q : Fin 2048) (ctx : Bool) (r : ReadEnd) (f : Option TblFault) :
    State → Host.Outcome State Fault Refusal := liftE (fun ep d => Dev.readCompletion ep d q.val ctx r f)
def execDmaCplTimeout (q : Fin 2048) (ctx : Bool) : State → Host.Outcome State Fault Refusal :=
  lift (fun d => Dev.cplTimeout d q.val ctx)
def execCqHeadPoll (q : Fin 2048) (xl : Option Nat) : State → Host.Outcome State Fault Refusal :=
  lift (fun d => Dev.headPoll d q.val xl)
def execCoalTimer (q : Fin 2048) : State → Host.Outcome State Fault Refusal := lift (fun d => Dev.coalTimer d q.val)
/-- DRAIN_BUFFER_TIMER: 100 µs have passed since the first record of the buffer (R369). -/
def execDrainBufferTimer (q : Fin 2048) : State → Host.Outcome State Fault Refusal := lift (fun d => Dev.drainBufEnd d q.val)
def execInjectDeliver (q : Fin 2048) : State → Host.Outcome State Fault Refusal := lift (fun d => Dev.injectDeliver d q.val)

end Sys2Proof.Machine
end

