-- ==== Sys2Proof/Machine/Host.lean ====
section
/-! DEFINITION. Host ports: heartbeat, event causes, doorbells, ATS and PRI, link errors, loss, reset and return (Host ports
A and B); the sessions that end with a port (R395, R438). -/
namespace Sys2Proof.Machine

/-! Sessions. -/

/-- The sessions that `f` selects by their source end (R395). -/
def Dev.endSessions (d : Dev) (f : Source → Bool) : Dev :=
  { d with dict := { d.dict with sessions := d.dict.sessions.filter (fun s => !f s.src) } }

/-- The update session ends when `f` selects its owner. -/
def Dev.fwEndIf (d : Dev) (f : Source → Bool) : Dev :=
  match d.fw.owner with
  | some o => if f o then Dev.fwEnd d else d
  | none => d

/-- The source is host port p. -/
def Source.isHost (p : Nat) (s : Source) : Bool :=
  match s with
  | .host hp => hp.val == p
  | _ => false

/-- The source is MCTP binding b. -/
def Source.isMctp (b : Nat) (s : Source) : Bool :=
  match s with
  | .mctp x _ => x.val == b
  | _ => false

/-! Host state (R343 to R346). -/

/-- host.state by the conditions of R343. -/
def HostPort.stateOf (h : HostPort) : Nat :=
  if h.dlActive = false then 0 else if h.bme && h.d0 && !h.flr && !h.hbExpired then 1 else 2

/-- The DMA queues homed on port p. -/
def Dev.homed (d : Dev) (p : Nat) : List Nat := (d.dma.qs.map (fun x => x.1)).filter (fun q => Dev.dqHp d q == p)

/-- Port p leaves state 1 for `reason` (R345). -/
def Dev.hostLeave (d : Dev) (p reason : Nat) : Dev :=
  let d := Dev.setEl (Dev.addEl d 32 (K.hostLosses p) 1) (K.hostLostReason p) reason
  let d := (d.dma.qs.map (fun x => x.1)).foldl (fun d q =>
    match (Dev.dq d q).cmd with
    | some (_, hp) => if hp = p then Dev.setEl (Dev.setDq d q { Dev.dq d q with cmd := none }) (K.dqCtlStatus q) 3 else d
    | none => d) d
  let d := (Dev.homed d p).foldl Dev.dqFreeze d
  let d := Dev.setHp d p { Dev.hp d p with xlat := [], invals := [], priOut := 0, priWait := [], ctxWait := [] }
  Dev.fwEndIf (Dev.endSessions d (Source.isHost p)) (Source.isHost p)

/-- host.state of port p follows its conditions; `reason` is the first that failed. The other port sees the change in
PEER_STATUS (R336, R343, R345). -/
def Dev.hostEval (d : Dev) (p reason : Nat) : Dev :=
  let old := Dev.el d (K.hostState p)
  let new := HostPort.stateOf (Dev.hp d p)
  if old = new then d
  else
    let d := Dev.setEl (Dev.setEl d (K.hostState p) new) (K.hostLastChange p) (Dev.tb0Elem d)
    let d := if old = 1 then Dev.hostLeave d p reason else d
    let d := if new = 1 then Dev.setHp d p { Dev.hp d p with hbAt := d.ticks } else d
    if Dev.x8 d then d
    else
      let d := Dev.raiseOn d (1 - p) 4
      Dev.useFree (Dev.notice d 4 11 (Dev.freeVal d (2 ^ 16)) (Dev.freeVal d (2 ^ 352)))

/-- HL_HEARTBEAT is written (R343). -/
def Dev.heartbeat (d : Dev) (p : Nat) : Dev :=
  if Dev.hostExists d p then
    Dev.hostEval (Dev.setHp d p { Dev.hp d p with hbAt := d.ticks, hbExpired := false }) p 7
  else d

/-- The heartbeat timer expires (R344). -/
def Dev.hbExpire (d : Dev) (p : Nat) : Dev :=
  if Dev.hostExists d p ∧ Dev.el d (K.hostHbTimeoutMs p) ≠ 0 ∧ Dev.el d (K.hostState p) = 1 then
    Dev.hostEval (Dev.setHp d p { Dev.hp d p with hbExpired := true }) p 7
  else d

/-- The MCTP binding of a host port loses its EID at PERST and at a hot reset (R418): the sessions opened through it end
and its announcements start. -/
def Dev.binding (d : Dev) (b : Nat) : Binding := if b = 0 then d.mgmt.b0 else if b = 1 then d.mgmt.b1 else d.mgmt.b2
def Dev.setBinding (d : Dev) (b : Nat) (x : Binding) : Dev :=
  if b = 0 then { d with mgmt := { d.mgmt with b0 := x } }
  else if b = 1 then { d with mgmt := { d.mgmt with b1 := x } }
  else { d with mgmt := { d.mgmt with b2 := x } }

def Dev.loseEid (d : Dev) (b : Nat) : Dev :=
  let d := Dev.addEl (Dev.setEl d (K.mctpEid b) 0) 32 K.mctpOwnerResets 1
  let d := Dev.setBinding d b { Dev.binding d b with announcing := true, sent := 0, discovered := false }
  Dev.fwEndIf (Dev.endSessions d (Source.isMctp b)) (Source.isMctp b)

/-- Configuration space, per-port registers, MSI-X table, translations and page requests of port p are reset (R342,
R346); the vectors bound to queues stay. -/
def Dev.hostClear (d : Dev) (p : Nat) (linkUp flr : Bool) : Dev :=
  let h := Dev.hp d p
  Dev.setHp d p { HostPort.init with vecQueue := h.vecQueue, dlActive := linkUp, flr := flr, hbAt := h.hbAt,
                                     hbExpired := h.hbExpired }

/-- host.link.rate and host.link.width of port p. -/
def Dev.hostLink (d : Dev) (p rate width : Nat) : Dev :=
  Dev.setEl (Dev.setEl d (K.hostLinkRate p) rate) (K.hostLinkWidth p) width

/-- A condition of Table 8 other than the heartbeat is detected on port p; at PERST and at a hot reset its binding loses its
EID (R418). -/
def Dev.hostLoss (d : Dev) (p : Nat) (c : HostLossCause) : Dev :=
  if Dev.hostExists d p = false then d
  else
    let h := Dev.hp d p
    match c with
    | .link => Dev.hostLink (Dev.hostEval (Dev.setHp d p { h with dlActive := false }) p 1) p 0 0
    | .perst => Dev.loseEid (Dev.hostLink (Dev.hostEval (Dev.setHp d p { h with dlActive := false }) p 2) p 0 0) (p + 1)
    | .hotReset => Dev.loseEid (Dev.hostLink (Dev.hostEval (Dev.setHp d p { h with dlActive := false }) p 3) p 0 0) (p + 1)
    | .flr => Dev.hostEval (Dev.setHp d p { h with flr := true }) p 4
    | .bme => Dev.hostEval (Dev.setHp d p { h with bme := false }) p 5
    | .d3hot => Dev.hostEval (Dev.setHp d p { h with d0 := false }) p 6

/-- PERST, a hot reset or a function level reset of port p: the loss that it is, and what it resets. -/
def Dev.hostReset (d : Dev) (p : Nat) (r : HostReset) : Dev :=
  if Dev.hostExists d p = false then d
  else
    match r with
    | .perst => Dev.hostClear (Dev.hostLoss d p .perst) p false false
    | .hotReset => Dev.hostClear (Dev.hostLoss d p .hotReset) p false false
    | .flr => Dev.hostClear (Dev.hostLoss d p .flr) p (Dev.hp d p).dlActive true

/-- Pending vectors that are no longer masked are sent (R336; PCIe). -/
def Dev.msixFlush (d : Dev) (p : Nat) : Dev :=
  let h := Dev.hp d p
  if Dev.el d (K.hostState p) ≠ 1 ∨ h.msixOn = false ∨ h.msixFuncMask = true then d
  else
    h.msixPending.foldl (fun d x =>
      let e := SMap.get h.msix x.1 { addr := 0, data := 0, masked := true }
      if e.masked then d
      else
        let g := Dev.hp d p
        let d := Dev.emit (Dev.setHp d p { g with msixPending := SMap.del g.msixPending x.1 }) (.msix p x.1 e.addr e.data)
        Dev.perf d (if p = 0 then 0x2A else 0x2B) 3 1) d

/-- Port p's link is up and its host has set its configuration (R343, R346); PRI disabled ends a stop of page requests, and a
queue whose page request is then without answer errs as one whose translation is refused does (R340, log 175). No link has eight lanes in ×4 mode (R330). -/
def Dev.hostReturn (d : Dev) (p : Nat) (c : HostCfg) : Dev :=
  if Dev.hostExists d p = false ∨ (c.width.val = 8 ∧ Dev.x8 d = false) then d
  else
    let h := Dev.hp d p
    let h := { h with aerCorMask := c.aerCorMask, aerUncMask := c.aerUncMask, aerCor := h.aerCor &&& ~~~c.aerCorClr,
                      aerUnc := h.aerUnc &&& ~~~c.aerUncClr, dlActive := true, bme := c.bme, d0 := c.d0, flr := false, hbExpired := false, mps := c.mps, mrrs := c.mrrs,
                      relaxed := c.relaxed, msixOn := c.msixOn, msixFuncMask := c.msixMask, atsOn := c.ats, priOn := c.pri,
                      priStopped := h.priStopped && c.pri, priMax := c.priMax,
                      priOut := if c.pri then h.priOut else 0, priWait := if c.pri then h.priWait else [], bar0 := c.bar0 / 2 ^ 28 * 2 ^ 28 % 2 ^ 64,
                      bar2 := c.bar2 / 2 ^ 23 * 2 ^ 23 % 2 ^ 64, ecrcGen := c.ecrcGen, ecrcCheck := c.ecrcCheck, aerSev := c.aerSev }
    let d := Dev.emit (Dev.hostLink (Dev.setHp d p h) p c.rate.val c.width.val) (.ecrc p c.ecrcGen)
    let d := if c.pri then d else ((Dev.homed d p).filter (fun q => (Dev.dq d q).pri)).foldl (fun d q => Dev.dqFail d q 11) d
    Dev.priTry (Dev.msixFlush (Dev.hostEval d p (if c.bme then 6 else 5)) p) p

/-! BAR0 and BAR2 (R334, R336, R338). -/

/-- A W1C write of EVT_CAUSE. -/
def Dev.causeClear (d : Dev) (p m : Nat) : Dev :=
  if Dev.hostExists d p then
    let h := Dev.hp d p
    Dev.setHp d p { h with evtCause := h.evtCause &&& ~~~(BitVec.ofNat 64 m) }
  else d

/-- A BAR0 request that R334 does not accept. -/
def Dev.badAccess (d : Dev) (p : Nat) (read : Bool) : Dev :=
  if Dev.hostExists d p then
    let d := Dev.count d (K.hostBarBad p) 1
    if read then Dev.emit d (.completion p none) else d
  else d

/-- A BAR2 write of `size` bytes at `off` (R338). -/
def Dev.bar2 (d : Dev) (p off size v : Nat) : Dev :=
  if Dev.hostExists d p = false then d
  else if size = 4 ∧ off % 4096 = 0 ∧ off / 4096 < 2048 then Dev.doorbell d p (off / 4096) (v % 2 ^ 32)
  else Dev.count d (K.hostBar2Discards p) 1

/-- A BAR2 read of `size` bytes: every byte is zero (R338). -/
def Dev.bar2Read (d : Dev) (p : Nat) : Dev := if Dev.hostExists d p then Dev.emit d (.completion p (some 0)) else d

/-! Configuration space (R330, R331). -/

/-- The code of a power of two in a PCIe size field: 128 is 0. -/
def sizeCode (n : Nat) : Nat := Nat.log2 (n / 128)

/-- The extended capabilities of a port (R330, Table 1): first word, ID, version and first word of the next one. The list at
byte 0x34 is power management, PCI Express and MSI-X. What Table 1 does not support has none: MSI, SR-IOV, PASID, TPH, LTR, L1 PM
substates, PTM, IDE, resizable BAR and DOE. The order and the places are the model's (log 140). -/
def extCapList : List (Nat × Nat × Nat × Nat) :=
  [(0x40, 0x0001, 2, 0x58), (0x58, 0x000F, 1, 0x5C), (0x5C, 0x0013, 1, 0x60), (0x60, 0x0019, 1, 0x68), (0x68, 0x0025, 1, 0x6C),
   (0x6C, 0x0026, 1, 0x78), (0x78, 0x0027, 1, 0x84), (0x84, 0x002A, 1, 0)]

/-- What the model says of a doubleword of port p's configuration space, with the bits that it says nothing of: the identity
and the BARs (R331); one function, no interrupt pin, and the supported features with their control bits, those of features not
supported zero (R330, Table 1); AER and ECRC (R341); ATS and PRI (R339, R340). -/
def Dev.cfgFields (d : Dev) (p i : Nat) : Nat × Nat :=
  let h := Dev.hp d p
  let w := if Dev.x8 d then 8 else 4
  match i with
  | 0x00 => (0x1F7E + 0x0204 * 2 ^ 16, 0)
  | 0x01 => (b2n h.bme * 4 + 2 ^ 20, 0xF900_0542)
  | 0x02 => (0xA1 + 0x028000 * 2 ^ 8, 0)
  | 0x03 => (0, 0xFF)
  | 0x04 => (4 + h.bar0 % 2 ^ 32, 0)
  | 0x05 => (h.bar0 / 2 ^ 32, 0)
  | 0x06 => (4 + h.bar2 % 2 ^ 32, 0)
  | 0x07 => (h.bar2 / 2 ^ 32, 0)
  | 0x0B => (Dev.elIn d (K.hostSubsys p), 0)
  | 0x0D => (0x40, 0)
  | 0x0F => (0, 0xFF)
  | 0x10 => (0x01 + 0x50 * 2 ^ 8 + 3 * 2 ^ 16, 0)
  | 0x11 => (if h.d0 then 0 else 3, 8)
  | 0x14 => (0x10 + 0x90 * 2 ^ 8 + 2 * 2 ^ 16, 0x3E00_0000)
  | 0x15 => (2 + 2 ^ 5 + 2 ^ 15 + 2 ^ 28, 0x0FFC_0FC0)
  | 0x16 => (b2n h.relaxed * 2 ^ 4 + sizeCode h.mps * 2 ^ 5 + sizeCode h.mrrs * 2 ^ 12, 0x002F_010F)
  | 0x17 => (5 + w * 2 ^ 4 + 2 ^ 19 + 2 ^ 20, 0xFF03_F000)
  | 0x18 => (Dev.el d (K.hostLinkRate p) * 2 ^ 16 + Dev.el d (K.hostLinkWidth p) * 2 ^ 20 + b2n h.dlActive * 2 ^ 29, 0x1000_00C8)
  | 0x1D => (2 ^ 16 + 2 ^ 17, 0x0000_001F)
  | 0x1E => (0, 0x0000_101F)
  | 0x1F => (0x3E, 0)
  | 0x20 => (0, 0xFFFF_FFFF)
  | 0x24 => (0x11 + 2047 * 2 ^ 16 + b2n h.msixFuncMask * 2 ^ 30 + b2n h.msixOn * 2 ^ 31, 0)
  | 0x25 => (0x0030_0000, 0)
  | 0x26 => (0x0030_8000, 0)
  | 0x41 => (h.aerUnc.toNat, 0)
  | 0x42 => (h.aerUncMask.toNat, 0)
  | 0x43 => (h.aerSev.toNat, 0)
  | 0x44 => (h.aerCor.toNat, 0)
  | 0x45 => (h.aerCorMask.toNat, 0)
  | 0x46 => (2 ^ 5 + b2n h.ecrcGen * 2 ^ 6 + 2 ^ 7 + b2n h.ecrcCheck * 2 ^ 8, 0x1F)
  | 0x59 => (2 ^ 5 + b2n h.atsOn * 2 ^ 31, 0x001F_0000)
  | 0x5D => (b2n h.priOn + b2n h.priStopped * 2 ^ 16, 0x0100_0000)
  | 0x5E => (0, 0xFFFF_FFFF)
  | 0x5F => (h.priMax % 2 ^ 32, 0)
  | _ =>
    match extCapList.find? (fun c => c.1 == i) with
    | some (_, id, v, next) => (id + v * 2 ^ 16 + next * 4 * 2 ^ 20, 0)
    | none => (0, if (0x47 ≤ i ∧ i < 0x4B) ∨ (0x61 ≤ i ∧ i < 0x8E) then 0xFFFF_FFFF else 0)

/-- A doubleword of port p's configuration space: what the spec says of it, free bits where it says nothing (log 140). -/
def Dev.cfgWord (d : Dev) (p i : Nat) : Nat :=
  let f := Dev.cfgFields d p i
  f.1 ||| (Config.freeAt 12 (p * 1024 + i) &&& f.2)

/-- A read of a doubleword of configuration space. -/
def Dev.cfgRead (d : Dev) (p i : Nat) : Dev :=
  if Dev.hostExists d p then Dev.emit d (.completion p (some (Dev.cfgWord d p i))) else d

/-! ATS, PRI and link errors (R339 to R341). -/

/-- An invalidation of `n` pages from `page` on; a port that may send nothing answers none (R345). -/
def Dev.invalidate (d : Dev) (p tag page n : Nat) : Dev :=
  let h := Dev.hp d p
  if Dev.hostExists d p = false ∨ Dev.hostUp d p = false ∨ 32 ≤ h.invals.length then d
  else
    Dev.invalTry (Dev.setHp d p { h with xlat := h.xlat.filter (fun x => decide (x.1 < page ∨ page + n ≤ x.1)),
                                         invals := h.invals ++ [tag] }) p

/-- The response to a page request of queue q, which a faulted or a stopping queue waits for; a Response Failure concerns the
whole port (R340, R371, R373). -/
def Dev.priResponse (d : Dev) (p q : Nat) (c : PriCode) : Dev :=
  let h := Dev.hp d p
  if Dev.hostExists d p = false ∨ h.priOn = false ∨ h.priOut = 0 then d
  else
    let d := Dev.setHp d p { h with priOut := h.priOut - 1 }
    let mine := Dev.dqHp d q == p && (Dev.dq d q).pri && !h.priWait.any (fun x => x.1 == q)
    match c with
    | .success =>
      let d :=
        if mine then
          let d := Dev.drainBufEnd (Dev.setDq d q { Dev.dq d q with pri := false }) q
          if Dev.dqSt d q = 2 then Dev.setDqSt d q 1 else d
        else d
      Dev.priTry d p
    | .invalid => Dev.priTry (if mine then Dev.dqFail d q 11 else d) p
    | .failure =>
      let d := Dev.setHp d p { Dev.hp d p with priStopped := true, priWait := [] }
      ((Dev.homed d p).filter (fun x => (Dev.dq d x).pri)).foldl (fun d x => Dev.dqFail d x 13) d

/-- A link or TLP error on port p (R341, Table 7); the bits are those of the AER status registers (log 140). -/
def Dev.pcieError (d : Dev) (p : Nat) (e : PcieErr) : Dev :=
  if Dev.hostExists d p = false then d
  else
    let fails (d : Dev) (q : Option (Fin 2048)) (r : Nat) : Dev :=
      match q with
      | some q => if Dev.dqHp d q.val = p then Dev.readsEnd (Dev.dqReadFail d q.val r) else d
      | none => d
    match e with
    | .correctable k => Dev.aerCorrected d p ((([0, 6, 7, 8, 12] : List Nat)[k.val]?).getD 0)
    | .poisonedWrite => Dev.aerError d p 12
    | .poisonedCompletion q => fails (Dev.aerError d p 12) (some q) 12
    | .timeout q => fails (Dev.aerError d p 14) (some q) 10
    | .urCa k q => fails (Dev.aerError d p ((([15, 16, 20] : List Nat)[k.val]?).getD 15)) q 12
    | .ecrc q => if (Dev.hp d p).ecrcCheck then fails (Dev.aerError d p 19) q 12 else d
    | .fatal k retrained =>
      let d := Dev.aerError d p ((([4, 13, 17, 18] : List Nat)[k.val]?).getD 4)
      if retrained then Dev.perf d (0x2A + p) 7 1 else Dev.hostLoss d p .link
    | .surpriseDown => Dev.hostLoss (Dev.aerError d p 5) p .link

/-! The meanings. -/

def execHlHeartbeat (p : Fin 2) : State → Host.Outcome State Fault Refusal := lift (fun d => Dev.heartbeat d p.val)
def execHeartbeatTimeout (p : Fin 2) : State → Host.Outcome State Fault Refusal := lift (fun d => Dev.hbExpire d p.val)
def execEvtCauseClear (p : Fin 2) (m : Nat) : State → Host.Outcome State Fault Refusal := lift (fun d => Dev.causeClear d p.val m)
def execBar0BadAccess (p : Fin 2) (rd : Bool) : State → Host.Outcome State Fault Refusal := lift (fun d => Dev.badAccess d p.val rd)
def execDoorbell (p : Fin 2) (off size v : Nat) : State → Host.Outcome State Fault Refusal :=
  lift (fun d => Dev.bar2 d p.val off size v)
def execAtsInvalidate (p : Fin 2) (tag page n : Nat) : State → Host.Outcome State Fault Refusal :=
  lift (fun d => Dev.invalidate d p.val tag page n)
def execPriResponse (p : Fin 2) (q : Fin 2048) (c : PriCode) : State → Host.Outcome State Fault Refusal :=
  lift (fun d => Dev.priResponse d p.val q.val c)
def execPcieError (p : Fin 2) (e : PcieErr) : State → Host.Outcome State Fault Refusal := lift (fun d => Dev.pcieError d p.val e)
def execHostLoss (p : Fin 2) (c : HostLossCause) : State → Host.Outcome State Fault Refusal := lift (fun d => Dev.hostLoss d p.val c)
def execHostPortReset (p : Fin 2) (r : HostReset) : State → Host.Outcome State Fault Refusal :=
  lift (fun d => Dev.hostReset d p.val r)
def execHostReturn (p : Fin 2) (c : HostCfg) : State → Host.Outcome State Fault Refusal := lift (fun d => Dev.hostReturn d p.val c)

end Sys2Proof.Machine
end

