-- ==== Sys2Proof/Machine/Lines.lean ====
section
/-! DEFINITION. What a management port and an MCTP bus put on their lines: the code-groups of a frame (R404, R406; Clause 36 of
IEEE 802.3), the packet error code of SMBus and the packets of an MCTP message (R415, R417). The tables are the standards'
(log 30). -/
namespace Sys2Proof.Machine

/-! 8b/10b (R404). -/

/-- The 6-bit and 4-bit sub-blocks of the data code-groups at negative running disparity, first bit sent highest. -/
def sixTable : List (BitVec 6) :=
  [0b100111, 0b011101, 0b101101, 0b110001, 0b110101, 0b101001, 0b011001, 0b111000, 0b111001, 0b100101, 0b010101,
   0b110100, 0b001101, 0b101100, 0b011100, 0b010111, 0b011011, 0b100011, 0b010011, 0b110010, 0b001011, 0b101010,
   0b011010, 0b111010, 0b110011, 0b100110, 0b010110, 0b110110, 0b001110, 0b101110, 0b011110, 0b101011]
def fourTable : List (BitVec 4) := [0b1011, 0b1001, 0b0101, 0b1100, 0b1101, 0b1010, 0b0110, 0b1110]

/-- How many bits of x, of the w lowest, are 1. -/
def ones (w x : Nat) : Nat := ((List.range w).filter (fun i => bit x i)).length

/-- The code-group of an octet, a special one with `k`, at running disparity `rd` (true: positive), and the running disparity
after it. The special code-groups are K28.5, K23.7, K27.7 and K29.7. -/
def codeGroup (rd k : Bool) (b : Nat) : BitVec 10 × Bool :=
  let x := b % 32
  let y := b / 32 % 8
  let c := if k && x == 28 then (0b001111 : BitVec 6) else sixTable.getD x 0
  let six := if rd && (ones 6 c.toNat != 3 || x == 7) then ~~~c else c
  let rd := if ones 6 six.toNat = 3 then rd else !rd
  let a7 := y == 7 && (k || (if rd then [11, 13, 14] else [17, 18, 20]).contains x)
  let c := if a7 then (0b0111 : BitVec 4) else fourTable.getD y 0
  let flip := if k && x == 28 then !rd else rd && (ones 4 c.toNat != 2 || y == 3)
  let four := if flip then ~~~c else c
  (six ++ four, if ones 4 four.toNat = 2 then rd else !rd)

/-- The code-groups of octets, from running disparity `rd`, and the disparity after them. -/
def codeRun : Bool → List (Bool × Nat) → List (BitVec 10) × Bool
  | rd, [] => ([], rd)
  | rd, (k, b) :: t =>
    let g := codeGroup rd k b
    let r := codeRun g.2 t
    (g.1 :: r.1, r.2)

/-- A frame with its preamble as /S/, octets and /T/R/, the last code-group even, each `times` over, and the idle that makes
the running disparity negative again: every frame begins with it so. -/
def pcsFrame (times : Nat) (f : List Byte) : List (BitVec 10) :=
  let body := (true, 0xFB) :: ((List.replicate 6 (0x55 : Byte) ++ [(0xD5 : Byte)] ++ f).map (fun (b : Byte) => (false, b.toNat)))
    ++ [(true, 0xFD), (true, 0xF7)] ++ (if f.length % 2 = 1 then [(true, 0xF7)] else [])
  let x := codeRun false (body.flatMap (fun g => List.replicate times g))
  x.1 ++ (codeRun x.2 [(true, 0xBC), (false, if x.2 then 0xC5 else 0x50)]).1

/-! SMBus (R415). -/

/-- One octet into the packet error code, and the code of a transaction's octets: polynomial x⁸ + x² + x + 1. -/
def pecStep : Nat → Nat → Nat
  | 0, c => c
  | n + 1, c => pecStep n (if 128 ≤ c then (c * 2 % 256) ^^^ 7 else c * 2)
def pec8 (bs : List Byte) : Byte := BitVec.ofNat 8 (bs.foldl (fun c b => pecStep 8 (c ^^^ b.toNat)) 0)

/-- An SMBus block write of an MCTP packet from one 7-bit address to another, with its PEC. -/
def smbusPacket (dst src : Nat) (p : List Byte) : List Byte :=
  let t := beBytes 1 (dst * 2) ++ [0x0F] ++ beBytes 1 (p.length + 1) ++ beBytes 1 (src * 2 + 1) ++ p
  t ++ [pec8 t]

/-- The MCTP packet in an SMBus block write to address `own`, and its sender's address; `none` where its PEC is wrong. -/
def smbusTaken (own : Nat) (t : List Byte) : Option (List Byte × Nat) :=
  let n := t.length
  if n < 9 ∨ byteAt t 0 ≠ own * 2 ∨ byteAt t 1 ≠ 0x0F ∨ byteAt t 2 + 4 ≠ n ∨ t.getD (n - 1) 0 ≠ pec8 (t.take (n - 1)) then none
  else some (slice t 4 (n - 5), byteAt t 3 / 2)

/-! MCTP packets (R417). -/

/-- The payloads of an MCTP message's packets: 64 bytes each, the last one shorter. -/
def mctpPackets (bs : List Byte) : List (List Byte) :=
  (List.range ((bs.length + 63) / 64)).map (fun i => (bs.drop (64 * i)).take 64)

/-- The packets of a message to EID `dst` from EID `src`; `tag` has the tag-owner bit in bit 3. -/
def mctpSplit (dst src tag : Nat) (bs : List Byte) : List (List Byte) :=
  let ps := mctpPackets bs
  ps.zipIdx.map (fun x =>
    [1] ++ beBytes 1 dst ++ beBytes 1 src
      ++ beBytes 1 (b2n (x.2 == 0) * 128 + b2n (x.2 + 1 == ps.length) * 64 + x.2 % 4 * 16 + tag % 16) ++ x.1)

/-- A message under reassembly: its sender, tag and the sender's SMBus address, the last sequence number, its bytes, and whether
a packet was out of sequence. -/
structure MctpMsg where
  src : Nat
  tag : Nat
  addr : Nat
  seq : Nat
  body : List Byte
  bad : Bool
  deriving DecidableEq, Repr

/-- The first message that packets to EID `own` make up, or its sequence error; `none` while it is unfinished. -/
def mctpJoin (own : Nat) : Option MctpMsg → List (List Byte × Nat) → Option MctpMsg
  | _, [] => none
  | cur, (p, addr) :: t =>
    let f := byteAt p 3
    let m : MctpMsg := { src := byteAt p 2, tag := bits f 0 3, addr := addr, seq := bits f 4 2, body := p.drop 4, bad := false }
    if p.length < 5 ∨ byteAt p 0 % 16 ≠ 1 ∨ (byteAt p 1 ≠ own ∧ byteAt p 1 ≠ 0) then mctpJoin own cur t
    else
      let next : MctpMsg :=
        if bit f 7 then m
        else
          match cur with
          | some c =>
            if c.src = m.src ∧ c.tag = m.tag ∧ m.seq = (c.seq + 1) % 4 then { m with body := c.body ++ m.body } else { c with bad := true }
          | none => { m with bad := true }
      if next.bad || bit f 6 then some next else mctpJoin own (some next) t

end Sys2Proof.Machine
end

