-- ==== Sys2Proof/Machine/Mgmt.lean ====
section
/-! DEFINITION. Management ports M0 and M1: their links, their addresses, ARP, neighbour discovery, ICMP, DHCP and
LLDP (R404 to R409, R413). The frame formats are those of the RFCs and of IEEE 802.1AB, which the spec names and does
not print (log 30). -/
namespace Sys2Proof.Machine

def Dev.mport (d : Dev) (m : Nat) : MPort := if m = 0 then d.mgmt.m0 else d.mgmt.m1
def Dev.setMport (d : Dev) (m : Nat) (x : MPort) : Dev :=
  if m = 0 then { d with mgmt := { d.mgmt with m0 := x } } else { d with mgmt := { d.mgmt with m1 := x } }

def Dev.mportUp (d : Dev) (m : Nat) : Bool := Dev.el d (K.mportState m) == 3
def Dev.mac (d : Dev) (m : Nat) : Nat := Dev.el d (K.mportMac m) % 2 ^ 48

/-- A notice of this chapter: the spec gives it no class, code or detail (log 12). -/
def Dev.mgmtNotice (d : Dev) : Dev :=
  Dev.useFree (Dev.notice d (Config.free d.free % 12) 14 (Dev.freeVal d (2 ^ 16)) (Dev.freeVal d (2 ^ 352)))

/-- Big-endian field of a string. -/
def beAt (bs : List Byte) (o n : Nat) : Nat := beNat (slice bs o n)

/-! Frames that a port sends (log 30). -/

def ethFrame (dst src typ : Nat) (body : List Byte) : List Byte :=
  let f := beBytes 6 dst ++ beBytes 6 src ++ beBytes 2 typ ++ body
  let f := f ++ zeros (60 - f.length)
  f ++ leBytes 4 (fcs32 f)

/-- A frame as port m sends it: at 100 and 10 Mb/s each code-group goes 10 and 100 times (R404, R406). -/
def Dev.mgmtTx (d : Dev) (m : Nat) (f : List Byte) : MgmtTx := .raw f (pcsFrame (10 ^ (3 - Dev.el d (K.mportSpeed m))) f)

def Dev.mgmtSend (d : Dev) (m dst typ : Nat) (body : List Byte) : Dev :=
  Dev.emit d (.mgmtFrame m (Dev.mgmtTx d m (ethFrame dst (Dev.mac d m) typ body)))

/-- The bytes of an IPv6 packet. -/
def ip6 (src dst next hops : Nat) (body : List Byte) : List Byte :=
  beBytes 4 (6 * 2 ^ 28) ++ beBytes 2 body.length ++ beBytes 1 next ++ beBytes 1 hops ++ beBytes 16 src ++ beBytes 16 dst ++ body

/-- An ICMPv6 message with its checksum in bytes 2 and 3. -/
def icmp6 (src dst typ code : Nat) (rest : List Byte) : List Byte :=
  let m (c : Nat) : List Byte := beBytes 1 typ ++ beBytes 1 code ++ beBytes 2 c ++ rest
  m (inetSum (beBytes 16 src ++ beBytes 16 dst ++ beBytes 4 (4 + rest.length) ++ beBytes 4 58 ++ m 0 ++ zeros (rest.length % 2)))

/-- The bytes of an IPv4 packet. -/
def ip4 (src dst proto : Nat) (body : List Byte) : List Byte :=
  let h (c : Nat) : List Byte :=
    beBytes 2 0x4500 ++ beBytes 2 (20 + body.length) ++ zeros 4 ++ beBytes 1 64 ++ beBytes 1 proto ++ beBytes 2 c
      ++ beBytes 4 src ++ beBytes 4 dst
  h (inetSum (h 0)) ++ body

/-- A UDP datagram over IPv4. -/
def udp4 (src dst sp dp : Nat) (body : List Byte) : List Byte :=
  let u (c : Nat) : List Byte := beBytes 2 sp ++ beBytes 2 dp ++ beBytes 2 (8 + body.length) ++ beBytes 2 c ++ body
  let c := inetSum (beBytes 4 src ++ beBytes 4 dst ++ beBytes 2 17 ++ beBytes 2 (8 + body.length) ++ u 0 ++ zeros (body.length % 2))
  ip4 src dst 17 (u (if c = 0 then 0xFFFF else c))

/-! Addresses (R408, R409). -/

/-- The link-local address: a modified EUI-64 identifier (RFC 4291). -/
def linkLocal (mac : Nat) : Nat :=
  0xFE80 * 2 ^ 112 + (mac / 2 ^ 24 ^^^ 0x020000) * 2 ^ 40 + 0xFFFE * 2 ^ 24 + mac % 2 ^ 24

/-- The configured IPv6 address. -/
def Dev.v6Cfg (d : Dev) (m : Nat) : Option Nat :=
  let b := Dev.blob d (K.mportIpv6Addr m)
  if b.length = 16 then some (beNat b) else none

/-- The IPv6 addresses in use. -/
def Dev.v6Own (d : Dev) (m : Nat) : List Nat :=
  (if (Dev.mport d m).dadLl = 2 then [linkLocal (Dev.mac d m)] else [])
    ++ (match Dev.v6Cfg d m with
        | some a => if Dev.el d (K.mportIpv6Dad m) = 2 then [a] else []
        | none => [])

/-- Address, prefix length and gateway of IPv4, where it has an address (R409). -/
def Dev.v4Own (d : Dev) (m : Nat) : Option (Nat × Nat × Nat) :=
  match Dev.el d (K.mportIpv4Mode m) with
  | 1 => (Dev.mport d m).lease
  | 2 =>
    if Dev.el d (K.mportIpv4Addr m) = 0 then none
    else some (Dev.el d (K.mportIpv4Addr m), Dev.el d (K.mportIpv4Plen m), Dev.el d (K.mportIpv4Gw m))
  | _ => none

/-- An IPv4 address in IPv4-mapped form. -/
def mapped (a : Nat) : Nat := 0xFFFF * 2 ^ 32 + a

/-- Learn a neighbour. -/
def Dev.learn (d : Dev) (m addr mac : Nat) : Dev :=
  let x := Dev.mport d m
  Dev.setMport d m { x with neigh := (addr, mac) :: (x.neigh.filter (fun y => y.1 != addr)).take 63 }

/-- Where a reply to a frame from `mac` and address `addr` goes: the neighbour, else the frame's source. -/
def Dev.l2Of (d : Dev) (m addr mac : Nat) : Nat :=
  match (Dev.mport d m).neigh.find? (fun y => y.1 == addr) with
  | some y => y.2
  | none => mac

/-- The next hop of IPv4 from port m, `none` where there is none: on its link the address itself, off it the gateway (R409). -/
def Dev.hop4 (d : Dev) (m dst : Nat) : Option Nat :=
  match Dev.v4Own d m with
  | some (a, l, g) => if dst / 2 ^ (32 - l) = a / 2 ^ (32 - l) then some dst else if g = 0 then none else some g
  | none => some dst

/-- An IPv4 packet leaves port m for `dst`, whose request came from `mac`; while the gateway's MAC address is not known, ARP asks
for it and the newest packet waits (R409; RFC 826, RFC 1122). -/
def Dev.send4 (d : Dev) (m dst mac : Nat) (body : List Byte) : Dev :=
  match Dev.hop4 d m dst with
  | none => d
  | some h =>
    match (Dev.mport d m).neigh.find? (fun y => y.1 == mapped h) with
    | some y => Dev.mgmtSend d m y.2 0x0800 body
    | none =>
      if h = dst then Dev.mgmtSend d m mac 0x0800 body
      else
        let a := match Dev.v4Own d m with
          | some (a, _, _) => a
          | none => 0
        Dev.mgmtSend (Dev.setMport d m { Dev.mport d m with held := some (h, body) }) m 0xFFFFFFFFFFFF 0x0806
          (beBytes 6 0x000108000604 ++ beBytes 2 1 ++ beBytes 6 (Dev.mac d m) ++ beBytes 4 a ++ zeros 6 ++ beBytes 4 h)

/-- A neighbour of IPv4 is learned; what waits for it leaves. -/
def Dev.learn4 (d : Dev) (m addr mac : Nat) : Dev :=
  let d := Dev.learn d m (mapped addr) mac
  match (Dev.mport d m).held with
  | some (h, body) =>
    if h = addr then Dev.mgmtSend (Dev.setMport d m { Dev.mport d m with held := none }) m mac 0x0800 body else d
  | none => d

/-- Whether an IPv6 address is on the port's link. -/
def Dev.onLink6 (d : Dev) (m addr : Nat) : Bool :=
  addr / 2 ^ 118 == 0xFE80 / 2 ^ 6
    || (match Dev.v6Cfg d m with
        | some a => addr / 2 ^ (128 - Dev.el d (K.mportIpv6Plen m)) == a / 2 ^ (128 - Dev.el d (K.mportIpv6Plen m))
        | none => false)

/-- The MAC address of an IPv6 reply: on link the neighbour, off link the default router (R409). -/
def Dev.l2Reply6 (d : Dev) (m addr mac : Nat) : Option Nat :=
  if Dev.onLink6 d m addr then some (Dev.l2Of d m addr mac) else (Dev.mport d m).router.map (fun r => r.2)

/-! Duplicate address detection (R409; RFC 4862). -/

/-- The neighbour solicitation that detection sends. -/
def Dev.dadProbe (d : Dev) (m addr : Nat) : Dev :=
  let low := addr % 2 ^ 24
  let dst := 0xFF02 * 2 ^ 112 + 0x1FF * 2 ^ 24 + low
  Dev.mgmtSend d m (0x3333FF * 2 ^ 24 + low) 0x86DD (ip6 0 dst 58 255 (icmp6 0 dst 135 0 (zeros 4 ++ beBytes 16 addr)))

/-- Detection of the link-local (0) or the configured (1) address begins. -/
def Dev.dadStart (d : Dev) (m which : Nat) : Dev :=
  if which = 0 then
    Dev.dadProbe (Dev.setMport d m { Dev.mport d m with dadLl := 1 }) m (linkLocal (Dev.mac d m))
  else
    match Dev.v6Cfg d m with
    | some a => Dev.dadProbe (Dev.setEl d (K.mportIpv6Dad m) 1) m a
    | none => Dev.setEl d (K.mportIpv6Dad m) 0

/-- Detection ends: in use, or a duplicate. -/
def Dev.dadEnd (d : Dev) (m which : Nat) (dup : Bool) : Dev :=
  let v := if dup then 3 else 2
  if which = 0 then
    if (Dev.mport d m).dadLl = 1 then Dev.setMport d m { Dev.mport d m with dadLl := v } else d
  else if Dev.el d (K.mportIpv6Dad m) = 1 then Dev.setEl d (K.mportIpv6Dad m) v
  else d

/-- Another node shows that it has or wants address `a`. -/
def Dev.dadClash (d : Dev) (m a : Nat) : Dev :=
  let d := if a = linkLocal (Dev.mac d m) then Dev.dadEnd d m 0 true else d
  if Dev.v6Cfg d m = some a then Dev.dadEnd d m 1 true else d

/-! DHCP (R409; RFC 2131). -/

/-- A client's message: its type, ciaddr and further options. -/
def Dev.dhcpSend (d : Dev) (m typ ci : Nat) (opts : List Byte) (src dst l2 : Nat) : Dev :=
  let mac := beBytes 6 (Dev.mac d m)
  let body := beBytes 4 0x01010600 ++ beBytes 4 (Dev.mport d m).xid ++ zeros 4 ++ beBytes 4 ci ++ zeros 12 ++ mac ++ zeros 10
    ++ zeros 192 ++ beBytes 4 0x63825363 ++ beBytes 3 (0x350100 + typ) ++ beBytes 3 0x3D0701 ++ mac ++ opts
    ++ beBytes 5 0x3703010336 ++ beBytes 1 255
  Dev.mgmtSend d m l2 0x0800 (udp4 src dst 68 67 body)

def bcast4 : Nat := 0xFFFFFFFF
def bcastMac : Nat := 0xFFFFFFFFFFFF

/-- Discovery starts, with a new transaction number. -/
def Dev.dhcpDiscover (d : Dev) (m : Nat) : Dev :=
  let x := Dev.mport d m
  let d := Dev.useFree (Dev.setMport d m { x with dhcp := 1, xid := Dev.freeVal d (2 ^ 32), lease := none })
  Dev.dhcpSend d m 1 0 [] 0 bcast4 bcastMac

/-- The option `c` of a DHCP message's options. -/
def dhcpOpt (c : Nat) : Nat → List Byte → Option (List Byte)
  | 0, _ => none
  | _, [] => none
  | n + 1, t :: r =>
    if t = 0 then dhcpOpt c n r
    else if t = 255 then none
    else
      match r with
      | [] => none
      | l :: v => if t.toNat = c then some (v.take l.toNat) else dhcpOpt c n (v.drop l.toNat)

/-- Length of the prefix that a mask names. -/
def maskLen (mask : Nat) : Nat := ((List.range 32).filter (fun i => bit mask i)).length

/-- A server's message. -/
def Dev.dhcpIn (d : Dev) (m : Nat) (b : List Byte) : Dev :=
  let x := Dev.mport d m
  let o := b.drop 240
  let opt (c : Nat) : Option Nat := (dhcpOpt c o.length o).map beNat
  let yi := beAt b 16 4
  if byteAt b 0 ≠ 2 ∨ beAt b 4 4 ≠ x.xid ∨ beAt b 28 6 ≠ Dev.mac d m ∨ beAt b 236 4 ≠ 0x63825363 then d
  else
    match opt 53 with
    | some 2 =>
      if x.dhcp = 1 then
        let sv := (opt 54).getD 0
        Dev.dhcpSend (Dev.setMport d m { x with dhcp := 2, server := sv }) m 3 0
          (beBytes 2 0x3204 ++ beBytes 4 yi ++ beBytes 2 0x3604 ++ beBytes 4 sv) 0 bcast4 bcastMac
      else d
    | some 5 =>
      if x.dhcp = 2 ∨ x.dhcp = 4 then
        let plen := match opt 1 with
          | some k => maskLen k
          | none => Dev.el d (K.mportIpv4Plen m)
        let gw := match dhcpOpt 3 o.length o with
          | some r => beAt r 0 4
          | none => 0
        Dev.setMport d m { x with dhcp := 3, lease := some (yi, plen, gw) }
      else d
    | some 6 => if x.dhcp = 2 ∨ x.dhcp = 4 then Dev.dhcpDiscover d m else d
    | _ => d

/-- The renewal time of a lease arrives. -/
def Dev.dhcpRenew (d : Dev) (m : Nat) : Dev :=
  let x := Dev.mport d m
  match x.lease with
  | some (a, _, _) =>
    if x.dhcp = 3 then
      Dev.dhcpSend (Dev.setMport d m { x with dhcp := 4 }) m 3 a [] a x.server (Dev.l2Of d m (mapped ((Dev.hop4 d m x.server).getD x.server)) bcastMac)
    else d
  | none => d

/-- A lease expires: the address goes, and the client starts again, at once or when the port and the firmware are both up
(R409). -/
def Dev.dhcpExpire (d : Dev) (m : Nat) : Dev :=
  if (Dev.mport d m).lease = none then d
  else if d.fw.running && Dev.mportUp d m then Dev.dhcpDiscover d m
  else Dev.setMport d m { Dev.mport d m with lease := none, dhcp := 0 }

/-- The 10 s of the client's retry. -/
def Dev.dhcpRetry (d : Dev) (m : Nat) : Dev :=
  if (Dev.mport d m).dhcp = 1 ∨ (Dev.mport d m).dhcp = 2 then Dev.dhcpDiscover d m else d

/-! LLDP (R413; IEEE 802.1AB). -/

def tlv (t : Nat) (v : List Byte) : List Byte := beBytes 2 (t * 512 + v.length) ++ v

/-- The TLVs that port m sends. -/
def Dev.lldpBody (d : Dev) (m : Nat) : List Byte :=
  let addr (sub : Nat) (a : List Byte) : List Byte :=
    tlv 8 (beBytes 1 (a.length + 1) ++ beBytes 1 sub ++ a ++ beBytes 1 1 ++ zeros 5)
  let cfg := match Dev.v6Cfg d m with
    | some a => if Dev.el d (K.mportIpv6Dad m) = 2 then addr 2 (beBytes 16 a) else []
    | none => []
  let v4 := match Dev.v4Own d m with
    | some (a, _, _) => addr 1 (beBytes 4 a)
    | none => []
  let ll := if (Dev.mport d m).dadLl = 2 then addr 2 (beBytes 16 (linkLocal (Dev.mac d m))) else []
  tlv 1 (beBytes 1 4 ++ beBytes 6 (Dev.mac d 0)) ++ tlv 2 (beBytes 1 5 ++ ascii (if m = 0 then "M0" else "M1"))
    ++ tlv 3 (beBytes 2 (min 65535 (Dev.el d K.netLldpInterval * Dev.el d K.netLldpTtlMult)))
    ++ tlv 5 (Dev.blob d K.idAsset) ++ cfg ++ v4 ++ ll ++ tlv 0 []

def lldpMac : Nat := 0x0180C200000E

def Dev.lldpSend (d : Dev) (m : Nat) : Dev :=
  if Dev.el d K.netLldpInterval = 0 ∨ Dev.mportUp d m = false ∨ d.fw.running = false then d
  else Dev.mgmtSend d m lldpMac 0x88CC (Dev.lldpBody d m)

/-- The TLVs of a received LLDPDU, to its end TLV; `none` where they run past its end. -/
def tlvs : Nat → List Byte → Option (List (Nat × List Byte))
  | 0, _ => none
  | n + 1, bs =>
    let h := beAt bs 0 2
    let l := h % 512
    if bs.length < 2 + l then none
    else if h / 512 = 0 then some [(0, [])]
    else (tlvs n (bs.drop (2 + l))).map (fun r => (h / 512, slice bs 2 l) :: r)

def Dev.setNeighbor (d : Dev) (m : Nat) (bs : List Byte) : Dev :=
  if Dev.blob d (K.mportLldpNeighbor m) = bs then d
  else Dev.mgmtNotice (Dev.setBlob d (K.mportLldpNeighbor m) bs)

/-- A received LLDPDU (R413); `none` where it is discarded. -/
def Dev.lldpIn (d : Dev) (m : Nat) (bs : List Byte) : Option Dev :=
  match tlvs bs.length bs with
  | some ((1, c) :: (2, p) :: (3, ttl) :: r) =>
    if beAt ttl 0 2 = 0 then some (Dev.setNeighbor d m [])
    else some (Dev.setNeighbor d m (bs.take (r.foldl (fun n x => n + 2 + x.2.length) (6 + c.length + p.length + ttl.length))))
  | _ => none

/-! Links (R404 to R407). -/

/-- Everything that begins when a port's link and the firmware are both up. -/
def Dev.mportStart (d : Dev) (m : Nat) : Dev :=
  if Dev.mportUp d m = false ∨ d.fw.running = false then d
  else
    let d := Dev.dadStart (Dev.dadStart d m 0) m 1
    let d := if Dev.el d (K.mportIpv4Mode m) = 1 ∧ (Dev.mport d m).lease = none then Dev.dhcpDiscover d m else d
    Dev.lldpSend d m

/-- A port leaves state 3, or what it was in, for state v. -/
def Dev.mportDown (d : Dev) (m v : Nat) : Dev :=
  let up := Dev.mportUp d m
  let d := Dev.setEl (Dev.setEl d (K.mportState m) v) (K.mportSpeed m) 0
  let d := Dev.setMport d m { Dev.mport d m with dadLl := 0, held := none }
  if up then Dev.setNeighbor (Dev.mgmtNotice (Dev.addEl d 32 (K.mportLinkLosses m) 1)) m [] else d

/-- The words that auto-negotiation sends: 1000BASE-X full duplex without pause, then with acknowledgement, by a link timer of
10 ms; the MAC side of SGMII acknowledges the PHY's word, by one of 1.6 ms (R406; Clause 37). -/
def Dev.mportAn (d : Dev) (m : Nat) : Dev :=
  if Dev.el d (K.mportAnEnable m) = 0 then d
  else if Dev.el d (K.mportMode m) = 1 then Dev.emit d (.mgmtFrame m (.config 0x4001 1600))
  else Dev.emit (Dev.emit d (.mgmtFrame m (.config 0x0020 10000))) (.mgmtFrame m (.config 0x4020 10000))

/-- A port has synchronisation and, where enabled, has completed auto-negotiation; `speed` and `half` are those of an SGMII
control word, `ctle` the code that acquisition found (R405 to R407). -/
def Dev.mportLinkUp (d : Dev) (m speed ctle : Nat) (half : Bool) : Dev :=
  if Dev.el d (K.mportAdmin m) = 0 ∨ Dev.mportUp d m = true then d
  else
    let sgmii := Dev.el d (K.mportMode m) == 1 && Dev.el d (K.mportAnEnable m) == 1
    let d := if Dev.el d (K.mportCtleMode m) = 0 then Dev.setMport d m { Dev.mport d m with ctle := some ctle } else d
    let d := Dev.mportAn d m
    if sgmii && half then Dev.setEl d (K.mportState m) 4
    else
      let d := Dev.setEl (Dev.setEl d (K.mportState m) 3) (K.mportSpeed m) (if sgmii then speed else 3)
      Dev.mportStart d m

/-- A port loses synchronisation, or its auto-negotiation restarts or its control word reports link down (R407). -/
def Dev.mportLinkDown (d : Dev) (m : Nat) (sync : Bool) : Dev :=
  if Dev.el d (K.mportAdmin m) = 0 then d else Dev.mportDown d m (if sync then 2 else 1)

/-- The effect of a write of element e of mport (R407, R409); `old` is the value before. -/
def Dev.mportWritten (d : Dev) (m e old : Nat) : Dev :=
  let v := Dev.el d (key (0x1811 + m) e)
  match e with
  | 0x01 => if v = old then d else Dev.mportDown d m v
  | 0x02 => if Dev.el d (K.mportAdmin m) = 1 then Dev.mportDown d m 1 else d
  | 0x03 => if Dev.el d (K.mportAdmin m) = 1 then Dev.mportDown d m 1 else d
  | 0x09 =>
    if v = old then d
    else
      let d := Dev.setMport d m { Dev.mport d m with dhcp := 0, lease := none }
      if v = 1 ∧ Dev.mportUp d m = true then Dev.dhcpDiscover d m else d
  | 0x0D => if Dev.mportUp d m then Dev.dadStart d m 1 else Dev.setEl d (K.mportIpv6Dad m) 0
  | _ => d

/-! Received frames (R407, R409). -/

def Dev.rxDiscard (d : Dev) (m : Nat) : Dev := Dev.count d (K.mportRxDiscards m) 1

/-- ARP: a request for the port's address is answered. -/
def Dev.arpIn (d : Dev) (m : Nat) (b : List Byte) : Dev :=
  match Dev.v4Own d m with
  | some (a, _, _) =>
    if beAt b 0 6 = 0x000108000604 ∧ beAt b 24 4 = a then
      let d := Dev.learn4 d m (beAt b 14 4) (beAt b 8 6)
      if beAt b 6 2 = 1 then
        Dev.mgmtSend d m (beAt b 8 6) 0x0806
          (beBytes 6 0x000108000604 ++ beBytes 2 2 ++ beBytes 6 (Dev.mac d m) ++ beBytes 4 a ++ slice b 8 10)
      else d
    else d
  | none => d

/-- ICMP: an echo request is answered. -/
def Dev.icmpIn (d : Dev) (m mac src dst : Nat) (b : List Byte) : Dev :=
  if byteAt b 0 = 8 ∧ byteAt b 1 = 0 ∧ inetSum (b ++ zeros (b.length % 2)) = 0 then
    let r (c : Nat) : List Byte := zeros 2 ++ beBytes 2 c ++ b.drop 4
    Dev.send4 d m src mac (ip4 dst src 1 (r (inetSum (r 0 ++ zeros (b.length % 2)))))
  else Dev.rxDiscard d m

/-- The link-layer address option of a neighbour-discovery message, of type t. -/
def ndMac (t : Nat) : Nat → List Byte → Option Nat
  | 0, _ => none
  | n + 1, bs =>
    if bs.length < 8 ∨ byteAt bs 1 = 0 then none
    else if byteAt bs 0 = t then some (beAt bs 2 6)
    else ndMac t n (bs.drop (8 * byteAt bs 1))

/-- ICMPv6: echo, neighbour discovery and router advertisements (R409; RFC 4443, RFC 4861). -/
def Dev.icmp6In (d : Dev) (m mac src dst hops : Nat) (b : List Byte) : Dev :=
  let ok := inetSum (beBytes 16 src ++ beBytes 16 dst ++ beBytes 4 b.length ++ beBytes 4 58 ++ b ++ zeros (b.length % 2)) = 0
  let tgt := beAt b 8 16
  if ¬ ok then Dev.rxDiscard d m
  else
    match byteAt b 0 with
    | 128 =>
      if (Dev.v6Own d m).contains dst then
        match Dev.l2Reply6 d m src mac with
        | some l2 => Dev.mgmtSend d m l2 0x86DD (ip6 dst src 58 64 (icmp6 dst src 129 0 (b.drop 4)))
        | none => d
      else Dev.rxDiscard d m
    | 135 =>
      if hops ≠ 255 then Dev.rxDiscard d m
      else if src = 0 then
        let d := Dev.dadClash d m tgt
        if (Dev.v6Own d m).contains tgt then
          let all := 0xFF02 * 2 ^ 112 + 1
          Dev.mgmtSend d m 0x333300000001 0x86DD
            (ip6 tgt all 58 255 (icmp6 tgt all 136 0 (beBytes 4 0x20000000 ++ beBytes 16 tgt ++ beBytes 2 0x0201 ++ beBytes 6 (Dev.mac d m))))
        else d
      else if (Dev.v6Own d m).contains tgt then
        let d := match ndMac 1 4 (b.drop 24) with
          | some x => Dev.learn d m src x
          | none => d
        Dev.mgmtSend d m (Dev.l2Of d m src mac) 0x86DD
          (ip6 tgt src 58 255 (icmp6 tgt src 136 0 (beBytes 4 0x60000000 ++ beBytes 16 tgt ++ beBytes 2 0x0201 ++ beBytes 6 (Dev.mac d m))))
      else d
    | 136 =>
      if hops ≠ 255 then Dev.rxDiscard d m
      else
        let d := Dev.dadClash d m tgt
        match ndMac 2 4 (b.drop 24) with
        | some x => Dev.learn d m tgt x
        | none => d
    | 134 =>
      if hops ≠ 255 ∨ src / 2 ^ 118 ≠ 0xFE80 / 2 ^ 6 then Dev.rxDiscard d m
      else
        let x := Dev.mport d m
        if beAt b 6 2 = 0 then
          (if x.router.map (fun r => r.1) = some src then Dev.setMport d m { x with router := none } else d)
        else Dev.setMport d m { x with router := some (src, (ndMac 1 8 (b.drop 16)).getD mac) }
    | _ => Dev.rxDiscard d m

end Sys2Proof.Machine
end

