-- ==== Sys2Proof/Machine/Ports.lean ====
section
/-! DEFINITION. Lanes, tiles and ports: bring-up, loss and return of links, equalisers and seeds, the Rouri links, the
tile microcontrollers (Lanes, tiles and ports). -/
namespace Sys2Proof.Machine

/-! Domains, lanes and their power (R38 to R40, R452). -/

/-- Lane rate of a mode: 0 for 212.5, 1 for 106.25, 2 for 53.125, 3 for 25.78125 Gb/s (R38, R49). -/
def modeRate (m : Nat) : Nat :=
  if m = 1 ∨ m = 2 ∨ m = 4 ∨ m = 6 then 0
  else if m = 3 ∨ m = 5 ∨ m = 7 ∨ m = 9 then 1
  else if m = 8 ∨ m = 10 ∨ m = 12 then 2
  else 3

/-- Power of a lane in mW by reach mode and rate (R40, Table 2). -/
def lanePower (reach rate : Nat) : Nat :=
  match reach, rate with
  | 0, 0 => 400 | 0, 1 => 270 | 0, 2 => 180 | 0, _ => 120
  | _, 0 => 680 | _, 1 => 450 | _, 2 => 300 | _, _ => 200

def Dev.portWidth (d : Dev) (p : Nat) : Nat := modeWidth (Dev.el d (K.portSpeed p))
def Dev.portRate (d : Dev) (p : Nat) : Nat := modeRate (Dev.el d (K.portSpeed p))
def Dev.adminUp (d : Dev) (p : Nat) : Bool := Dev.el d (K.portAdmin p) == 1

/-- The lanes of port p. -/
def Dev.portLanes (d : Dev) (p : Nat) : List Nat := (List.range (Dev.portWidth d p)).map (p + ·)

/-- The ports of tile t, those of tile t that are admin up, and those that are up. -/
def tilePorts (t : Nat) : List Nat := (List.range 64).map (t * 64 + ·)
def Dev.tileAdmin (d : Dev) (t : Nat) : List Nat := (tilePorts t).filter (Dev.adminUp d)
def Dev.tileUp (d : Dev) (t : Nat) : List Nat := (tilePorts t).filter (fun p => Dev.el d (K.portState p) == 5)

/-- The admin-up port that owns lane n. -/
def Dev.laneOwner (d : Dev) (n : Nat) : Option Nat :=
  (Dev.tileAdmin d (n / 64)).find? (fun p => decide (p ≤ n) && decide (n < p + Dev.portWidth d p))

/-- An idle lane: 5 mW; also the lanes of a port that waits at shedding level 9 or deeper (R40, R467). -/
def Dev.portPower (d : Dev) (p : Nat) : Nat :=
  let st := Dev.el d (K.portState p)
  let w := Dev.portWidth d p
  if 9 ≤ Dev.el d K.pwrShedLevel ∧ (st = 1 ∨ st = 6) then w * 5
  else w * lanePower (Dev.el d (K.tileReach (p / 64))) (Dev.portRate d p)

/-- Bring tile.pll.nrz and tile.lane_power to the present lanes (R39, R65). -/
def Dev.tileLanes (d : Dev) (t : Nat) : Dev :=
  let ps := Dev.tileAdmin d t
  let used := ps.foldl (fun n p => n + Dev.portWidth d p) 0
  let mw := ps.foldl (fun n p => n + Dev.portPower d p) ((64 - used) * 5)
  let nrz := ps.any (fun p => Dev.portRate d p == 3)
  Dev.setEl (Dev.setEl d (K.tilePllNrz t) (b2n nrz)) (K.tileLanePower t) mw

/-! Equalisers (R43 to R47). -/

/-- The seed entry of a lane: lane, reach mode, rate, CTLE code and 50 bytes of coefficients (log 19). -/
def seedEntry (n reach rate ctle : Nat) (coefs : List Byte) : List Byte :=
  leBytes 2 n ++ [BitVec.ofNat 8 (reach * 16 + rate), BitVec.ofNat 8 ctle] ++ (coefs ++ zeros 50).take 50

/-- The entries of a seed image. -/
def seedEntries (bs : List Byte) : List (List Byte) := (List.range (bs.length / 54)).map (fun i => slice bs (54 * i) 54)

/-- The entry of lane n for a reach mode and a rate. -/
def seedFor (bs : List Byte) (n reach rate : Nat) : Option (List Byte) :=
  (seedEntries bs).find? (fun e => leNat (e.take 2) == n && byteAt e 2 == reach * 16 + rate)

/-- The part's own seeds of a reach mode and rate, which the spec does not give: free (log 19). -/
def defaultCtle (reach rate : Nat) : Nat := Config.freeAt 2 (reach * 16 + rate) % 37
def defaultCoefs (reach rate : Nat) : List Byte := leBytes 50 (Config.freeAt 3 (reach * 16 + rate))

/-- The present CTLE code of lane n (R45, R66). -/
def Dev.laneCtle (d : Dev) (n : Nat) : Nat :=
  if Dev.el d (K.laneCtleMode n) = 1 then Dev.el d (K.laneCtlePeak n)
  else SMap.get d.lanes.ctle n (Dev.el d (K.laneCtlePeak n))

def Dev.setCtle (d : Dev) (n ctle : Nat) : Dev := { d with lanes := { d.lanes with ctle := SMap.ins d.lanes.ctle n ctle } }

/-- A lane whose coefficients nothing changes: it is frozen, or its tile's microcontroller is being reloaded (R45, R46). -/
def Dev.laneHeld (d : Dev) (n : Nat) : Bool :=
  Dev.el d (K.laneAdaptFreeze n) == 1 || Dev.el d (K.tileMcuState (n / 64)) == 1

/-- Set a lane's CTLE code, unless it is fixed, and its 24 FFE and one decision-feedback coefficients; a held lane keeps its own
(R43, R45, R46). -/
def Dev.setLaneEq (d : Dev) (n ctle : Nat) (coefs : List Byte) : Dev :=
  if Dev.laneHeld d n then d
  else
    let code := if Dev.el d (K.laneCtleMode n) = 1 then Dev.el d (K.laneCtlePeak n) else ctle
    Dev.setBlob (Dev.setCtle d n code) (K.laneFfe n) ((coefs ++ zeros 50).take 50)

/-- Bytes of a transmit FIR: five taps for PAM4, three for NRZ, two bytes each (R43, log 19). -/
def firBytes (rate : Nat) : Nat := if rate = 3 then 6 else 10

/-- The PMD of port p has these taps within its steps and limits, which IEEE 802.3 defines (R43, Table 3; log 162). -/
def Dev.firOk (d : Dev) (p : Nat) (taps : List Byte) : Bool :=
  Config.firAllowed (Dev.el d (K.portSpeed p)) (Dev.el d (K.portInterface p)) taps

/-- The taps that the partner asked for, on a lane whose port trains; taps beyond the limits of its PMD leave the present ones
(R43, R44, R66). -/
def Dev.setFir (d : Dev) (n : Nat) (fir : List Byte) : Dev :=
  match Dev.laneOwner d n with
  | some p =>
    let taps := (fir ++ zeros 10).take (firBytes (Dev.portRate d p))
    if Dev.el d (K.portInterface p) = 2 ∨ Dev.laneHeld d n = true ∨ Dev.firOk d p taps = false then d
    else Dev.setBlob d (K.laneTxFir n) taps
  | none => d

/-- The coefficients of an up lane as its background adaptation has left them now: free values, since the channel is not the
part's (R44, log 141). They are looked at where the lane is read, held, saved or goes down. -/
def Dev.background (d : Dev) (n : Nat) : Dev :=
  match Dev.laneOwner d n with
  | some p =>
    if Dev.el d (K.portState p) = 5 ∧ Dev.laneHeld d n = false then
      Dev.useFree (Dev.setBlob d (K.laneFfe n) (leBytes 50 (Config.freeAt 13 d.free)))
    else d
  | none => d

def Dev.backgrounds (d : Dev) (ns : List Nat) : Dev := ns.foldl Dev.background d

/-- After a write of lane.ctle.mode or lane.ctle.peak: a fixed CTLE takes the peak, and an adaptive one goes on from where it
stands (R45). -/
def Dev.ctleWritten (d : Dev) (n : Nat) : Dev :=
  if Dev.el d (K.laneCtleMode n) = 1 then Dev.setCtle d n (Dev.el d (K.laneCtlePeak n)) else d

/-- Load the seeds of a lane: its entry in the seed image, else the part's defaults. After a change of tile.reach an entry stored
for the new mode is used as any other (R42, R44; log 160). -/
def Dev.seedLane (d : Dev) (p n : Nat) : Dev :=
  let reach := Dev.el d (K.tileReach (p / 64))
  let rate := Dev.portRate d p
  match seedFor (Dev.blobIn d (K.tileSeedStore (p / 64))) n reach rate with
  | some e => Dev.setLaneEq d n (byteAt e 3 % 37) (e.drop 4)
  | none => Dev.setLaneEq d n (defaultCtle reach rate) (defaultCoefs reach rate)

/-- What an adaptation run brings to the receiver of a lane (R44). -/
def Dev.adaptRx (d : Dev) (n : Nat) (e : LaneEq) : Dev := Dev.setEl (Dev.setLaneEq d n e.ctle e.coefs) (K.laneSnr n) e.snr

/-- What training brings to a port's lanes, from its first lane on: the receivers, and the taps that the partner asked for (R44). -/
def Dev.adaptLanes (d : Dev) : Nat → List LaneEq → Dev
  | _, [] => d
  | n, e :: t => Dev.adaptLanes (Dev.setFir (Dev.adaptRx d n e) n e.fir) (n + 1) t

def Dev.setAdapt (d : Dev) (ns : List Nat) (v : Nat) : Dev :=
  ns.foldl (fun d n => Dev.setEl d (K.laneAdaptState n) v) d

/-- The lanes adapt no longer: a re-adaptation run on one of them has ended with its port (R44, R66). -/
def Dev.adaptOff (d : Dev) (ns : List Nat) : Dev :=
  Dev.setAdapt { d with lanes := { d.lanes with adapting := ns.foldl (fun m n => SMap.del m n) d.lanes.adapting } } ns 0

/-- lane.adapt.state: frozen while the microcontroller is reloaded or the freeze holds (R45, R46). -/
def Dev.adaptState (d : Dev) (n : Nat) : Nat :=
  let v := Dev.el d (K.laneAdaptState n)
  if Dev.el d (K.tileMcuState (n / 64)) = 1 then 3
  else if v ≠ 0 ∧ Dev.el d (K.laneAdaptFreeze n) = 1 then 3
  else v

/-- tile.seed.save: the entries of the lanes of up ports replace the earlier ones (R47). -/
def Dev.seedSave (d : Dev) (t : Nat) : Dev :=
  let reach := Dev.el d (K.tileReach t)
  let d := Dev.backgrounds d ((Dev.tileUp d t).flatMap (Dev.portLanes d))
  let new := (Dev.tileUp d t).flatMap (fun p => (Dev.portLanes d p).map (fun n =>
    seedEntry n reach (Dev.portRate d p) (Dev.laneCtle d n) (Dev.blob d (K.laneFfe n))))
  let names := new.map (fun e => e.take 2)
  let old := (seedEntries (Dev.blob d (K.tileSeedStore t))).filter (fun e => !names.contains (e.take 2))
  let img := (old ++ new).flatten
  let d := Dev.setBlob d (K.tileSeedStore t) img
  let d := { d with dict := { d.dict with forceB := SMap.set d.dict.forceB (K.tileSeedStore t) img [] } }
  Dev.persist d (K.tileSeedStore t)

/-! Bring-up (R52, R55, R56). -/

def Dev.setPortState (d : Dev) (p v : Nat) : Dev := Dev.tileLanes (Dev.setEl d (K.portState p) v) (p / 64)

/-- Step 4: lock, alignment and deskew. -/
def Dev.toAlign (d : Dev) (p : Nat) : Dev :=
  Dev.setPortState (Dev.setAdapt d (Dev.portLanes d p) 4) p 4

/-- Step 3: link training or the adaptation of a C2M port, where it is not disabled. -/
def Dev.toTrain (d : Dev) (p : Nat) : Dev :=
  if Dev.el d (K.portLtEnable p) = 1 ∨ Dev.el d (K.portInterface p) = 2 then
    Dev.setPortState (Dev.setAdapt d (Dev.portLanes d p) 1) p 3
  else Dev.toAlign d p

/-- Step 2: auto-negotiation, where it is enabled; it waits while the tile's microcontroller is reloaded (R46). A port of a tile
that is off or without its supply goes no step on: it brings up again with the tile (R453, R455). -/
def Dev.toNegotiate (d : Dev) (p : Nat) : Dev :=
  if Dev.domain d (6 + p / 64) ≠ 1 then d
  else if Dev.el d (K.portAnEnable p) = 1 then
    if Dev.el d (K.tileMcuState (p / 64)) = 1 then Dev.setLink d p { Dev.linkS d p with waitMcu := true, retry := false }
    else Dev.setPortState (Dev.setLink d p { Dev.linkS d p with waitMcu := false, retry := false }) p 2
  else Dev.toTrain (Dev.setLink d p { Dev.linkS d p with retry := false }) p

/-- A step of the bring-up fails (R56). -/
def Dev.failStep (d : Dev) (p reason : Nat) : Dev :=
  let d := Dev.setEl d (K.portDownReason p) reason
  let d := if reason = 8 ∨ reason = 9 then Dev.addEl d 32 (K.portTrainFailures p) 1 else d
  let d := Dev.setLink d p { Dev.linkS d p with retry := true, debounce := false }
  Dev.setPortState (Dev.adaptOff d (Dev.portLanes d p)) p 6

/-- Every lane of the port detects signal: step 1 ends. -/
def Dev.signalDetect (d : Dev) (p : Nat) : Dev :=
  if Dev.adminUp d p ∧ Dev.el d (K.portState p) = 1 then Dev.toNegotiate d p else d

/-- The technology abilities that port p advertises: bit c for mode c, bit 14 for the -S ability of mode 13; an empty set is that
of its own mode (R52, R67). -/
def Dev.abilities (d : Dev) (p : Nat) : Nat :=
  let a := Dev.el d (K.portAnAbilities p)
  if a = 0 then 2 ^ Dev.el d (K.portSpeed p) else a

/-- The highest ability that two sets have in common: the one of the lowest code, since Table 4 stands in the order of priority
of Clause 73 (log 144). -/
def highestCommon (a b : Nat) : Option Nat := (List.range 15).find? (fun c => decide (1 ≤ c) && bit a c && bit b c)

/-- Auto-negotiation completes: the partner advertises `theirs`, and the highest common ability decides (R52). -/
def Dev.anComplete (d : Dev) (p theirs : Nat) : Dev :=
  if Dev.el d (K.portState p) ≠ 2 then d
  else
    match highestCommon (Dev.abilities d p) theirs with
    | some m =>
      if (if m = 14 then 13 else m) = Dev.el d (K.portSpeed p) then Dev.toTrain d p else Dev.failStep d p 4
    | none => Dev.failStep d p 4

/-- The working wires of a Rouri direction, and whether a tile's link works in both (R57, R63). -/
def RouriS.working (r : RouriS) : Nat := 256 - r.lost.length - r.repairing.length
def Dev.rouriOk (d : Dev) (t : Nat) : Bool :=
  decide (16 ≤ RouriS.working (Dev.rouri d t 0)) && decide (16 ≤ RouriS.working (Dev.rouri d t 1))

/-- Alignment has held for the whole debounce: the port comes up (R55, R59, R188). -/
def Dev.portUpNow (d : Dev) (p : Nat) : Dev :=
  let d := Dev.setLink d p { Dev.linkS d p with conds := [], debounce := false, hold := false }
  let d := Dev.setPortState (Dev.setAdapt d (Dev.portLanes d p) 2) p 5
  let d := Dev.addEl (Dev.setEl d (K.portLastChange p) (Dev.tb0Elem d)) 32 (K.portLinkUps p) 1
  Dev.releasePort (Dev.milestone (Dev.event d 0 2) 3) p

def Dev.debounceUp (d : Dev) (p : Nat) : Dev :=
  if Dev.el d (K.portState p) = 4 ∧ (Dev.linkS d p).debounce = true ∧ Dev.rouriOk d (p / 64) = true
    then Dev.portUpNow d p
  else d

/-! Loss (R56 to R58, R187). -/

/-- Begin or end sending remote fault (R58). -/
def Dev.sendRemoteFault (d : Dev) (p : Nat) (on : Bool) : Dev :=
  if (Dev.linkS d p).sendsRf = on then d
  else Dev.emit (Dev.setLink d p { Dev.linkS d p with sendsRf := on }) (.remoteFault p on)

/-- The conditions of an up port under which its receive side is down: all but a received remote fault and a Rouri link (Table 7). -/
def rxConds (cs : List Nat) : Bool := cs.any (fun r => r == 1 || r == 2 || r == 3 || r == 5)

def LinkCond.reason : LinkCond → Nat
  | .los _ => 1 | .lock => 2 | .ser => 3 | .localFault => 5 | .remoteFault => 6

/-- The frame on its way in is cut short. -/
def Dev.endRx (d : Dev) (p : Nat) : Dev := Dev.rxTail d p [] .truncated false .ok

/-- Queues of port p after it goes down: held, and flushed at once with a down_hold of 0 or when admin down (R187). -/
def Dev.downQueues (d : Dev) (p : Nat) (admin : Bool) : Dev :=
  let d := Dev.holdPort d p
  if admin || Dev.downHold d p == 0 then
    Dev.flushPort (Dev.setLink d p { Dev.linkS d p with hold := false }) p
  else Dev.setLink d p { Dev.linkS d p with hold := true }

/-- An up port goes down with `reason`, and restarts at once from step 2, or from step 3 (R58, R59). -/
def Dev.portDown (d : Dev) (p reason : Nat) : Dev :=
  if Dev.el d (K.portState p) ≠ 5 then d
  else
    let d := Dev.backgrounds (Dev.endRx d p) (Dev.portLanes d p)
    let d := Dev.setLink d p { Dev.linkS d p with conds := [], debounce := false, retry := false }
    let d := Dev.setEl (Dev.setPortState (Dev.adaptOff d (Dev.portLanes d p)) p 6) (K.portDownReason p) reason
    let d := Dev.addEl (Dev.setEl d (K.portLastChange p) (Dev.tb0Elem d)) 32 (K.portFlaps p) 1
    Dev.toNegotiate (Dev.downQueues (Dev.event d 0 2) p false) p

/-- Port p is admin down: it stops at once in whatever step it is (R56). -/
def Dev.adminDown (d : Dev) (p : Nat) : Dev :=
  let wasUp := decide (Dev.el d (K.portState p) = 5)
  let lanes := Dev.portLanes d p
  let d := Dev.sendRemoteFault (Dev.backgrounds (Dev.endRx d p) lanes) p false
  let d := Dev.setLink d p LinkS.init
  let d := Dev.adaptOff d lanes
  let d := Dev.setEl (Dev.setPortState d p 0) (K.portDownReason p) 10
  let d := if wasUp then Dev.event (Dev.setEl d (K.portLastChange p) (Dev.tb0Elem d)) 0 2 else d
  Dev.downQueues d p true

/-- A condition of Table 7 on port p: an up port goes down at once with a down debounce of 0; alignment in its up
debounce is lost (R57, R58; the remote fault it sends, log 148). -/
def Dev.linkFault (d : Dev) (p reason : Nat) : Dev :=
  let l := Dev.linkS d p
  if Dev.el d (K.portState p) = 5 then
    let d := Dev.setLink d p { l with conds := if l.conds.contains reason then l.conds else l.conds ++ [reason] }
    let d := if rxConds [reason] then Dev.sendRemoteFault d p true else d
    if Dev.el d (K.portDebounceDown p) = 0 then Dev.portDown d p reason else d
  else Dev.setLink d p { l with debounce := false }

/-- A condition of port p has cleared; remote fault ends with the last one of the receive side (R58). -/
def Dev.linkClear (d : Dev) (p reason : Nat) : Dev :=
  let l := Dev.linkS d p
  let conds := l.conds.filter (fun r => r != reason)
  let d := Dev.setLink d p { l with conds := conds }
  if Dev.el d (K.portState p) = 5 ∧ rxConds conds = false then Dev.sendRemoteFault d p false else d

/-- The first condition has persisted for the down debounce. -/
def Dev.debounceDown (d : Dev) (p : Nat) : Dev :=
  match (Dev.linkS d p).conds with
  | r :: _ => Dev.portDown d p r
  | [] => d

/-! The Rouri links (R60 to R64). -/

def kSpares (t dir : Nat) : Nat := if dir = 0 then K.tileRouriT2cSpares t else K.tileRouriC2tSpares t
def kLost (t dir : Nat) : Nat := if dir = 0 then K.tileRouriT2cLost t else K.tileRouriC2tLost t
def kCapacity (t dir : Nat) : Nat := if dir = 0 then K.tileRouriT2cCapacity t else K.tileRouriC2tCapacity t

/-- A direction with fewer than 16 working wires takes every port of its tile down (R57, R63, R509); `was` says that both worked
before. -/
def Dev.rouriCheck (d : Dev) (t : Nat) (was : Bool) : Dev :=
  if Dev.rouriOk d t || !was then d
  else
    let d := Dev.fatal d 5 2 (0x0180 + t) 0x06 t
    (tilePorts t).foldl (fun d p => if Dev.el d (K.portState p) = 5 then Dev.linkFault d p 7 else d) d

/-- The frame of port p whose bytes are still on their way to the MAC loses flits on the core-to-tile link (R62). -/
def Dev.loseOnLine (d : Dev) (p : Nat) : Dev :=
  let o := Dev.port d p
  match o.tx with
  | some f => if (Dev.pkt d f.d.pkt).whole then d else Dev.setPort d p { o with tx := some { f with lost := true } }
  | none => d

/-- A wire is declared failing: erased, and its repair begins (R61). -/
def Dev.wireFail (d : Dev) (t dir w : Nat) : Dev :=
  let r := Dev.rouri d t dir
  if r.repairing.contains w || r.lost.contains w then d
  else
    let was := Dev.rouriOk d t
    let d := Dev.setRouri d t dir { r with repairing := r.repairing ++ [w] }
    Dev.rouriCheck (if dir = 1 ∧ Dev.rouriBroken d t 1 = true then (tilePorts t).foldl Dev.loseOnLine d else d) t was

/-- A tile whose link works again in both directions: the condition of its ports clears (R57, R58). -/
def Dev.rouriClear (d : Dev) (t : Nat) : Dev :=
  if Dev.rouriOk d t then (tilePorts t).foldl (fun d p => if (Dev.linkS d p).conds.contains 7 then Dev.linkClear d p 7 else d) d
  else d

/-- The oldest repair of a direction completes: on the lowest free spare, or by re-striping; the alarm of a lost wire carries the
new capacity (R20, R61, R64). -/
def Dev.repairDone (d : Dev) (t dir : Nat) : Dev :=
  let r := Dev.rouri d t dir
  match r.repairing with
  | [] => d
  | w :: rest =>
    let d := Dev.perf (Dev.addEl d 32 (K.tileRouriRepairs t) 1) (0x30 + t) 5 1
    let d := Dev.corrected d (0x0180 + t) 0x0A 1
    let used := Dev.el d (kSpares t dir)
    if used < 8 then
      let d := Dev.setRouri d t dir { r with repairing := rest, onSpare := r.onSpare ++ [w] }
      let d := Dev.event (Dev.setEl d (kSpares t dir) (used + 1)) 2 2
      Dev.rouriClear (if used = 7 then Dev.event d 2 2 else d) t
    else
      let d := Dev.setRouri d t dir { r with repairing := rest, lost := r.lost ++ [w] }
      let d := Dev.addEl (Dev.setEl d (kCapacity t dir) (Dev.el d (kCapacity t dir) - 50)) 16 (kLost t dir) 1
      Dev.day (Dev.eventD d 2 2 (Dev.el d (kCapacity t dir))) 10

/-! Tile microcontrollers (R46, R424). -/

/-- Tile t's microcontroller is reloaded; its lanes hold their coefficients. -/
def Dev.mcuReload (d : Dev) (t : Nat) : Dev :=
  Dev.setEl (Dev.backgrounds d ((Dev.tileUp d t).flatMap (Dev.portLanes d))) (K.tileMcuState t) 1

/-- The lanes of port p get their seeds, at once or when the microcontroller has been reloaded (R44). -/
def Dev.seedPort (d : Dev) (p : Nat) : Dev :=
  if Dev.el d (K.tileMcuState (p / 64)) = 1 then Dev.setLink d p { Dev.linkS d p with unseeded := true }
  else
    (Dev.portLanes d p).foldl (fun d n => Dev.seedLane d p n) (Dev.setLink d p { Dev.linkS d p with unseeded := false })

/-- The reload of a microcontroller begins (R446). -/
def Dev.reloadStart (d : Dev) : Reload → Dev
  | .gmcu => Dev.setEl d K.fwGmcuState 1
  | .tile t => Dev.mcuReload d t
  | .pctl => Dev.setEl d K.fwPctlState 1

/-- The first of a list of reloads begins, a tile that is off being passed over; the others wait for it (R446, steps 4 to 6). -/
def Dev.reloadNext : List Reload → Dev → Dev
  | [], d => { d with fw := { d.fw with reloads := [] } }
  | u :: rest, d =>
    let off : Bool := match u with
      | .tile t => Dev.domain d (6 + t) != 1
      | _ => false
    if off then Dev.reloadNext rest d else Dev.reloadStart { d with fw := { d.fw with reloads := u :: rest } } u

/-- The reload of one microcontroller has ended: a restart goes on with its next. -/
def Dev.reloadEnd (d : Dev) (u : Reload) : Dev :=
  match d.fw.reloads with
  | v :: rest => if v = u then Dev.reloadNext rest d else d
  | [] => d

/-- The reload has completed, or failed; after three failures in a row the microcontroller has failed. -/
def Dev.mcuReloadDone (d : Dev) (t : Nat) (ok : Bool) : Dev :=
  let set (d : Dev) (n : Nat) : Dev :=
    { d with lanes := { d.lanes with mcuFails := SMap.set d.lanes.mcuFails t n 0 } }
  if Dev.el d (K.tileMcuState t) ≠ 1 then d
  else if ok then
    let d := Dev.setEl (set d 0) (K.tileMcuState t) 0
    Dev.reloadEnd ((tilePorts t).foldl (fun d p =>
      let d := if (Dev.linkS d p).unseeded && Dev.adminUp d p then Dev.seedPort d p else d
      if (Dev.linkS d p).waitMcu && Dev.adminUp d p then
        Dev.toNegotiate (Dev.setLink d p { Dev.linkS d p with waitMcu := false }) p
      else d) d) (.tile t)
  else
    let n := SMap.get d.lanes.mcuFails t 0 + 1
    if 3 ≤ n then
      Dev.reloadEnd (Dev.containedF (Dev.setEl (set d 0) (K.tileMcuState t) 2) 2 (0x0180 + t) 0x02 t) (.tile t)
    else set d n

/-- Switch a tile on: its microcontroller is loaded, and its Rouri link trains and tests every wire again (R456). While the power
controller is reloaded the tile waits for it (R424). -/
def Dev.tileOn (d : Dev) (t : Nat) : Dev :=
  if Dev.domain d (6 + t) = 0 ∧ Dev.pctlUp d = false then
    (if d.pwr.owed.contains (6 + t) then d else { d with pwr := { d.pwr with owed := d.pwr.owed ++ [6 + t] } })
  else if Dev.domain d (6 + t) = 0 then
    let d := Dev.mcuReload (Dev.setDomain d (6 + t) 1) t
    [0, 1].foldl (fun d dir =>
      Dev.setEl (Dev.setEl (Dev.setEl (Dev.setRouri d t dir RouriS.init) (kSpares t dir) 0) (kLost t dir) 0)
        (kCapacity t dir) 12800) d
  else d

/-- The accepted write of 1 to port.admin: the tile is on, the lanes power up and load their seeds, step 1 begins
(R39, R44, R55, R456). -/
def Dev.bringUp (d : Dev) (p : Nat) : Dev :=
  Dev.setPortState (Dev.seedPort (Dev.setLink (Dev.tileOn d (p / 64)) p LinkS.init) p) p 1

/-! Commands. -/

/-- A meaning of port p's side of its tile, which does nothing while the tile is off or without its supply (R453). -/
def liftTile (p : Nat) (f : Dev → Dev) : State → Host.Outcome State Fault Refusal :=
  lift (fun d => if Dev.domain d (6 + p / 64) = 1 then f d else d)

/-- SIGNAL_DETECT (R55). -/
def execSignalDetect (p : Fin 1024) (s : State) : Host.Outcome State Fault Refusal := liftTile p (fun d => Dev.signalDetect d p) s

/-- AN_COMPLETE (R52). -/
def execAnComplete (p : Fin 1024) (theirs : Nat) (s : State) : Host.Outcome State Fault Refusal :=
  liftTile p (fun d => Dev.anComplete d p theirs) s

/-- AN_TIMEOUT (R52). -/
def execAnTimeout (p : Fin 1024) (s : State) : Host.Outcome State Fault Refusal :=
  liftTile p (fun d => if Dev.el d (K.portState p) = 2 then Dev.failStep d p 11 else d) s

/-- LT_COMPLETE (R44, R52). -/
def execLtComplete (p : Fin 1024) (eqs : List LaneEq) (s : State) : Host.Outcome State Fault Refusal :=
  liftTile p (fun d =>
    if Dev.el d (K.portState p) = 3 ∧ Dev.el d (K.portInterface p) ≠ 2 then
      Dev.toAlign (Dev.adaptLanes d p (eqs.take (Dev.portWidth d p))) p
    else d) s

/-- TRAINING_TIMEOUT (R56). -/
def execTrainingTimeout (p : Fin 1024) (s : State) : Host.Outcome State Fault Refusal :=
  liftTile p (fun d =>
    if Dev.el d (K.portState p) = 3 ∧ Dev.el d (K.portInterface p) ≠ 2 then Dev.failStep d p 8 else d) s

/-- C2M_ADAPT_DONE (R55). -/
def execC2mAdaptDone (p : Fin 1024) (eqs : List LaneEq) (s : State) : Host.Outcome State Fault Refusal :=
  liftTile p (fun d =>
    if Dev.el d (K.portState p) = 3 ∧ Dev.el d (K.portInterface p) = 2 then
      Dev.toAlign (Dev.adaptLanes d p (eqs.take (Dev.portWidth d p))) p
    else d) s

/-- ALIGNMENT_LOCK (R55): the up debounce starts, and the receive side is up again (R58). -/
def execAlignmentLock (p : Fin 1024) (s : State) : Host.Outcome State Fault Refusal :=
  liftTile p (fun d =>
    if Dev.el d (K.portState p) = 4 then Dev.sendRemoteFault (Dev.setLink d p { Dev.linkS d p with debounce := true }) p false
    else d) s

/-- ALIGNMENT_TIMEOUT (R56). -/
def execAlignmentTimeout (p : Fin 1024) (s : State) : Host.Outcome State Fault Refusal :=
  liftTile p (fun d =>
    if Dev.el d (K.portState p) = 4 ∧ (Dev.linkS d p).debounce = false then Dev.failStep d p 9 else d) s

/-- PORT_DEBOUNCE_UP (R55). -/
def execPortDebounceUp (p : Fin 1024) (s : State) : Host.Outcome State Fault Refusal :=
  liftTile p (fun d => Dev.debounceUp d p) s

/-- PORT_RETRY_TIMER (R56, R59, R467): the port restarts from step 2, or from step 3. -/
def execPortRetryTimer (p : Fin 1024) (s : State) : Host.Outcome State Fault Refusal :=
  liftTile p (fun d => if Dev.adminUp d p ∧ Dev.el d (K.portState p) = 6 then Dev.toNegotiate d p else d) s

/-- LINK_FAULT_DETECT (R57). -/
def execLinkFaultDetect (p : Fin 1024) (c : LinkCond) (s : State) : Host.Outcome State Fault Refusal :=
  liftTile p (fun d =>
    let d := match c with
      | .los k => if k.val < Dev.portWidth d p then Dev.addEl d 32 (K.laneLosEvents (p + k)) 1 else d
      | _ => d
    Dev.linkFault d p (LinkCond.reason c)) s

/-- LINK_FAULT_CLEAR (R58). -/
def execLinkFaultClear (p : Fin 1024) (c : LinkCond) (s : State) : Host.Outcome State Fault Refusal :=
  liftTile p (fun d => Dev.linkClear d p (LinkCond.reason c)) s

/-- PORT_DOWN_DEBOUNCE (R58). -/
def execPortDownDebounce (p : Fin 1024) (s : State) : Host.Outcome State Fault Refusal :=
  liftTile p (fun d => Dev.debounceDown d p) s

/-- FEC_DEGRADE_CHECK (R67): what the second brought in corrected and uncorrectable codewords, and in symbol errors of
each lane; beyond the limit an event is raised. -/
def execFecDegradeCheck (p : Fin 1024) (corrected uncorrected : Nat) (symbols : List Nat) (s : State) :
    Host.Outcome State Fault Refusal :=
  liftTile p (fun d =>
    if Dev.adminUp d p then
      let d := Dev.count (Dev.count d (K.portFecCorrected p) corrected) (K.portFecUncorrected p) uncorrected
      let d := (symbols.take (Dev.portWidth d p)).zipIdx.foldl (fun d x => Dev.count d (K.laneSymbolErrors (p + x.2)) x.1) d
      let lim := Dev.el d (K.portFecDegradeLimit p)
      if lim ≠ 0 ∧ lim < corrected then Dev.event d 0 2 else d
    else d) s

/-- LANE_ADAPT_DONE (R44): the re-adaptation of the receiver of a lane of an up port completes. -/
def execLaneAdaptDone (n : Fin 1024) (e : LaneEq) (s : State) : Host.Outcome State Fault Refusal :=
  lift (fun d =>
    if SMap.get d.lanes.adapting n false then
      let d := Dev.adaptRx d n e
      Dev.setAdapt { d with lanes := { d.lanes with adapting := SMap.del d.lanes.adapting n } } [n.val] 2
    else d) s

/-- ROURI_WIRE_FAIL (R61): `dir` 0 is tile to core. -/
def execRouriWireFail (t : Fin 16) (dir : Fin 2) (w : Fin 256) (s : State) : Host.Outcome State Fault Refusal :=
  lift (fun d => Dev.wireFail d t dir w) s

/-- ROURI_REPAIR_DONE (R61, R64). -/
def execRouriRepairDone (t : Fin 16) (dir : Fin 2) (s : State) : Host.Outcome State Fault Refusal :=
  lift (fun d => Dev.repairDone d t dir) s

/-- TILE_MCU_HEARTBEAT_MISS (R424): the firmware reloads the tile's microcontroller. One that an uncorrectable word of its `memory`
has stopped is a contained error (R503). -/
def execTileMcuHeartbeatMiss (t : Fin 16) (memory : Bool) (s : State) : Host.Outcome State Fault Refusal :=
  lift (fun d =>
    if Dev.el d (K.tileMcuState t) = 0 then
      Dev.mcuReload (if memory then Dev.containedF d 2 (0x0180 + t) 0x02 t else d) t
    else d) s

/-- TILE_MCU_RELOAD (R46). -/
def execTileMcuReload (t : Fin 16) (s : State) : Host.Outcome State Fault Refusal := lift (fun d => Dev.mcuReload d t) s

/-- TILE_MCU_RELOAD_DONE (R46, R424). -/
def execTileMcuReloadDone (t : Fin 16) (ok : Bool) (s : State) : Host.Outcome State Fault Refusal :=
  lift (fun d => Dev.mcuReloadDone d t ok) s

end Sys2Proof.Machine
end

