-- ==== Sys2Proof/Machine/Storage.lean ====
section
/-! DEFINITION. The audit and the multicast lists of the shared buffer, and the commands of the granary: bales written and
returned, scrub, segment repair, retirement, training (Shared buffer and the pool manager; The granary). -/
namespace Sys2Proof.Machine

/-! The audit (R167, R210). -/

/-- Whether a packet holds cell c, or the running audit marked it as it was allocated (R167). -/
def Dev.cellMarked (d : Dev) (c : Nat) : Bool :=
  d.pkts.any (fun x => x.2.cells.contains c) || SMap.get d.buf.auditNew c false

/-- Whether a queue refers to bale b, or it holds an entry of the shared-bale table. -/
def Dev.baleMarked (d : Dev) (b : Nat) : Bool :=
  (Dev.bale d b).shared || d.queues.any (fun q => q.2.openBale == some b
    || q.2.items.any (fun it => match it with | .bale b' _ => b' == b | .pkt _ => false))

/-- The end of an audit: quarantine is emptied, leaks and unreachable bales are reclaimed. -/
def Dev.auditDone (d : Dev) : Dev :=
  if d.buf.auditRun = false then d
  else
    let keep := d.buf.quarantine.filter (Dev.cellMarked d)
    let b := keep.foldl (fun b c => if (SMap.find b.alloc c).isNone then BufS.take b c else b) d.buf
    let d := Dev.perf d 0x27 4 (b.alloc.filter (fun x => Dev.cellMarked d x.1)).length
    let leaks := (b.alloc.filter (fun x => !Dev.cellMarked d x.1)).map (fun x => x.1)
    let b := leaks.foldl BufS.give { b with quarantine := [] }
    let d := Dev.count (Dev.setEl (Dev.setBuf d b) K.bufQuarantine 0) K.bufAuditLeaks leaks.length
    let d := Dev.setGran d { d.gran with quarantine := d.gran.quarantine.filter (Dev.baleMarked d) }
    let lost := (d.gran.bales.filter (fun x => !Dev.baleMarked d x.1)).map (fun x => x.1)
    let d := lost.foldl (fun d b => if (SMap.find d.gran.bales b).isSome then Dev.freeBale d b else d) d
    let d := if d.buf.auditSeq = 1 then Dev.setEl d K.bufAuditStatus 0 else d
    Dev.setBuf d { d.buf with auditRun := d.buf.auditAgain, auditAgain := false, auditSeq := d.buf.auditSeq - 1, auditNew := [] }

/-! Multicast lists (R181). -/

/-- The entries of a list blob (Table 6 of the shared buffer): port and queue. -/
def mcEntries (bs : List Byte) : List (Nat × Nat) := (words 2 bs).map (fun w => (bits w 0 11, bits w 11 4))

/-- A list is well formed: whole entries with bit 15 zero, ports to 1039, none repeated, at most 1,040. -/
def mcListOk (bs : List Byte) : Bool :=
  let es := mcEntries bs
  bs.length % 2 == 0 && (words 2 bs).all (fun w => !bit w 15) && es.all (fun e => decide (e.1 ≤ 1039))
    && (es.map (fun e => e.1)).eraseDups.length == es.length && decide (es.length ≤ 1040)

def mcBlob (es : List (Nat × Nat)) : List Byte := es.flatMap (fun e => leBytes 2 (e.1 + e.2 * 2 ^ 11))

/-- Replace a group's list, with its counts (R193). -/
def Dev.mcPut (d : Dev) (g : Nat) (es : List (Nat × Nat)) : Dev :=
  let d := Dev.setBuf d { d.buf with mc := SMap.set d.buf.mc g es [] }
  let used := d.buf.mc.foldl (fun n x => n + x.2.length) 0
  Dev.setEl (Dev.setEl d K.mcEntriesFree (1048576 - used)) K.mcGroupsUsed d.buf.mc.length

/-- The multicast command with the parameters in its elements (R181); its status. -/
def Dev.mcRun (d : Dev) : Dev × Nat :=
  let g := Dev.el d K.mcGroup
  match Dev.el d K.mcOp with
  | 1 =>
    let bs := Dev.blob d K.mcList
    let es := mcEntries bs
    if !mcListOk bs then (d, 2)
    else if Dev.el d K.mcEntriesFree + (Dev.mcList d g).length < es.length then (Dev.day d 3, 3)
    else (Dev.mcPut d g es, 0)
  | 2 => (Dev.setBlob d K.mcList (mcBlob (Dev.mcList d g)), 0)
  | 3 => (Dev.mcPut d g [], 0)
  | _ => (d, 2)

/-! Rates of the granary (R234). -/

def Dev.msNow (d : Dev) : Nat := d.ticks / 781250

/-- A window with n more bytes in the present millisecond. -/
def RateWin.add (w : RateWin) (ms n : Nat) : RateWin :=
  if w.ms = ms then { w with cur := w.cur + n }
  else { ms := ms, cur := n, prev := if w.ms + 1 = ms then w.cur else 0 }

/-- The rate over the last whole millisecond in Gb/s. -/
def RateWin.gbps (w : RateWin) (ms : Nat) : Nat :=
  (if w.ms = ms then w.prev else if w.ms + 1 = ms then w.cur else 0) * 8 / 1000000

/-! Writes and returns of bales (R213 to R217, R222). -/

/-- A written record keeps its packet's contents under a number of its own, without cells; the packet is released. -/
def Dev.storeRec (d : Dev) (x : Desc) : Dev × Desc :=
  let i := d.nextPkt
  let p := { Dev.pkt d x.pkt with cells := [], refs := 1, mcPool := none, mcCells := 0 }
  let d := Dev.setPkt { d with nextPkt := i + 1 } i p
  (Dev.unref d x.pkt, { x with pkt := i })

/-- Whether one more bale may be written in the present millisecond (R466). -/
def Dev.spillRoom (d : Dev) : Bool :=
  decide ((RateWin.add d.gran.wr (Dev.msNow d) 8192).cur * 8 ≤ Dev.el d K.pwrSpillLimitGbps * 1000000)

/-- The write of a closed bale completes, where the spill write limit lets it (R213, R466); the bale takes its place among
the returns of the queues whose windows it stands in (R215). -/
def Dev.baleWritten (d : Dev) (b : Nat) : Dev :=
  match SMap.find d.gran.bales b with
  | none => d
  | some x =>
    if !x.closed || x.written || !Dev.spillRoom d then d
    else
      let r := x.recs.foldl (fun (a : Dev × List Desc) y => let z := Dev.storeRec a.1 y; (z.1, a.2 ++ [z.2])) (d, [])
      let d := Dev.addBacklog (Dev.setBale r.1 b { x with recs := r.2, written := true, bursts := Bale.image x b (Dev.baleMark r.1 b x.seq) }) false
      let d := if x.shared then Dev.count d K.granMcShared 1 else d
      let d := Dev.act (Dev.perf (Dev.perf d 0x28 1 256) 0x28 3 1) (actBale (b % 16 / 8) x.queue) 1
      let d := Dev.setGran d { d.gran with wr := RateWin.add d.gran.wr (Dev.msNow d) 8192 }
      (d.queues.map (fun q => q.1)).foldl Dev.noteReturns d

/-- Copy a live bale to a free bale of another stack and update its references in place (R225, R227). -/
def Dev.moveBale (d : Dev) (b : Nat) : Dev :=
  match Dev.nextBale d (b % 16) with
  | none => d
  | some c =>
    let x := Dev.bale d b
    let ref (it : QItem) : QItem := match it with | .bale b' s => if b' = b then .bale c s else it | .pkt _ => it
    let qs := d.queues.map (fun q => (q.1, { q.2 with
      items := q.2.items.map ref, openBale := if q.2.openBale = some b then some c else q.2.openBale }))
    let returns := d.gran.returns.map (fun r => if r.2.1 = b then (r.1, c, r.2.2) else r)
    let d := Dev.setGran { d with queues := qs } { d.gran with bales := SMap.ins (SMap.del d.gran.bales b) c x, returns := returns }
    Dev.baleCounts (Dev.baleCounts (Dev.retag d c) b false) c true

/-- Take a failing spill segment out of service: its live bales are copied to other bales (R225). -/
def Dev.segmentOut (d : Dev) (st seg : Nat) : Dev :=
  let d := Dev.segmentGone d st seg
  Dev.granTotals ((segBales st seg).foldl (fun d b => if (SMap.find d.gran.bales b).isSome then Dev.moveBale d b else d) d)

/-- The lowest reserve segment of stack st that no remap entry uses and that has not failed. -/
def Dev.freeReserve (d : Dev) (st : Nat) : Option Nat :=
  let used := (d.gran.remap.filter (fun x => x.1 / 2 ^ 20 == st)).map (fun x => x.2)
    ++ (d.gran.badRes.filter (fun x => x.1 / 2 ^ 20 == st)).map (fun x => x.1 % 2 ^ 20)
  (List.range (min 3072 (used.length + 1))).find? (fun r => !used.contains (r + 1))

/-- Segment seg of stack st needs a replacement (R224, step 1): a free reserve segment of its stack; where there is none, a
spill segment leaves the pool and a segment of another region takes a spill segment (R225). -/
def Dev.segmentReplace (d : Dev) (st seg : Nat) : Dev :=
  let k := segKey st seg
  match Dev.freeReserve d st with
  | some r =>
    Dev.granTotals (Dev.setGran d { d.gran with
      remap := SMap.ins d.gran.remap k (r + 1), copying := SMap.set d.gran.copying k true false })
  | none =>
    if Dev.spillSegs d ≤ seg then Dev.segmentBorrow d st seg
    else if (SMap.find d.gran.gone ((seg * 8) * 16 + st)).isSome then d
    else
      let d := if (SMap.find d.gran.remap k).isSome then Dev.persistPart d (2 ^ 32 + k) [] else d
      Dev.segmentOut (Dev.setGran d { d.gran with remap := SMap.del d.gran.remap k }) st seg

/-- The segment of another place for which segment seg of stack st stands as the replacement. -/
def Dev.standsFor (d : Dev) (st seg : Nat) : Option Nat :=
  let v := if resBase ≤ seg then seg - resBase + 1 else 2 ^ 20 + seg
  (d.gran.remap.find? (fun x => x.1 / 2 ^ 20 == st && x.2 == v)).map (fun x => x.1 % 2 ^ 20)

/-- A segment is failing (R224): what stands in it takes a replacement. A reserve segment that fails is used no more. Nothing
is taken on a stack that retires, has retired or failed training (R227). -/
def Dev.segmentFailNow (d : Dev) (st seg : Nat) : Dev :=
  let v := Dev.el d (K.gstackState st)
  let res := segKey st (seg - resBase + 1)
  if v != 0 && v != 4 then d
  else if resBase ≤ seg && (SMap.find d.gran.badRes res).isSome then d
  else
    let d := if resBase ≤ seg then Dev.setGran d { d.gran with badRes := SMap.ins d.gran.badRes res true } else d
    match Dev.standsFor d st seg with
    | some g => Dev.segmentReplace d st g
    | none =>
      if resBase ≤ seg then Dev.granTotals d
      else if (SMap.find d.gran.remap (segKey st seg)).isSome then d
      else Dev.segmentReplace d st seg

/-- Work of Tables 7 and 8 that comes while the microcontroller is being reloaded waits for it (R233). -/
def Dev.gmcuLater (d : Dev) (w : GranWork) : Dev :=
  Dev.setGran d { d.gran with later := d.gran.later.filter (fun x => x != w) ++ [w] }

/-- A segment is declared failing (R224, R233). -/
def Dev.segmentFail (d : Dev) (st seg : Nat) : Dev :=
  if Dev.gmcuAway d then Dev.gmcuLater d (.fail st seg) else Dev.segmentFailNow d st seg

/-! Errors of bursts (R222, R224, R227, R502). -/

/-- An uncorrectable burst of a segment: counted, and the segment is failing. -/
def Dev.noteUe (d : Dev) (st seg : Nat) : Dev :=
  let now := Dev.freeNs d
  let d := Dev.setGran d { d.gran with ue := (d.gran.ue.filter (fun x => decide (now < x.1 + 60000000000))) ++ [(now, st, seg)] }
  let d := Dev.perf (Dev.count (Dev.count d K.granEccUncorrectable 1) (K.gstackUncorrectable st) 1) 0x28 8 1
  Dev.segmentFail d st seg

/-- Bursts that were good on the second read (R222, R500). -/
def Dev.noteRetries (d : Dev) (n : Nat) : Dev :=
  if n = 0 then d else Dev.corrected (Dev.perf (Dev.count d K.granEccRetries n) 0x28 7 n) 0x0A00 0x09 n

/-- A corrected burst of a segment; gran.retire.ce_limit corrections of one burst within 24 hours make it failing. -/
def Dev.noteCe (d : Dev) (st seg burst : Nat) : Dev :=
  let now := Dev.freeNs d
  let k := segKey st seg * 2 ^ 11 + burst
  let ts := (SMap.get d.gran.ce k []).filter (fun t => decide (now < t + 86400000000000)) ++ [now]
  let d := Dev.setGran d { d.gran with ce := SMap.ins d.gran.ce k ts }
  let d := Dev.perf (Dev.count (Dev.count d K.granEccCorrected 1) (K.gstackCorrected st) 1) 0x28 6 1
  let d := Dev.corrected d (0x0A10 + st) 0x03 1
  if Dev.el d K.granRetireCeLimit ≤ ts.length then Dev.segmentFail d st seg else d

/-- The bale to be read next: of those that wait in their windows the one that entered first, over all queues (R215). -/
def Dev.nextReturn (d : Dev) : Option (Nat × Nat × Nat) :=
  let due := d.queues.flatMap (fun q => Dev.returnable d q.1)
  (d.gran.returns ++ due).find? (fun r => due.contains r)

/-- The reference to bale b in queue n: the queue's number of it. -/
def EQueue.refTo (q : EQueue) (b : Nat) : Option Nat :=
  q.items.findSome? (fun it => match it with | .bale b' s => if b' = b then some s else none | .pkt _ => none)

/-- The items of a list before the reference to bale (b, seq), the nearest first. -/
def QItem.before (b seq : Nat) : List QItem → List QItem → List QItem
  | acc, [] => acc
  | acc, it :: t => if it = .bale b seq then acc else QItem.before b seq (it :: acc) t

/-- Whether the record at the end of bale (b, seq) continues in a bale that stands in the queue. -/
def Dev.restWaits (d : Dev) (q : EQueue) (b seq : Nat) : Bool :=
  match (q.items.dropWhile (fun it => it != .bale b seq)).drop 1 with
  | .bale c _ :: _ => decide (0 < (Dev.bale d c).contIn)
  | _ => false

/-- The record that continues into the lost bale (b, seq) drops with it: the last one that starts before it, in a bale
that has returned or in one that has not (R222); on a retired stack alike (log 114). -/
def Dev.dropSplit (d : Dev) (code n b seq : Nat) : Dev :=
  let q := Dev.queue d n
  let starts (it : QItem) : Bool :=
    match it with
    | .pkt _ => true
    | .bale c _ => !(Dev.bale d c).recs.isEmpty
  match (QItem.before b seq [] q.items).find? starts with
  | some (.pkt x) =>
    if x.half then
      let d := Dev.setQueue d n { q with items := q.items.erase (.pkt x) }
      Dev.dropDesc (Dev.subDepth d n x.c (Desc.hrCells x)) code n x
    else d
  | some (.bale c _) =>
    let y := Dev.bale d c
    match (if y.contMore then y.recs.getLast? else none) with
    | some r =>
      let p := Dev.pkt d r.pkt
      let d := Dev.dropOut d code n { r with spilled := true } p false p.sheaf p.fields
      let d := Dev.setBale d c { y with recs := y.recs.dropLast, contMore := false }
      if y.written then Dev.delPkt d r.pkt else Dev.unref d r.pkt
    | none => d
  | none => d

/-- The next written bale that has entered a window: it is read, or dropped unread on a retired stack (R215, R227). -/
def Dev.returnRead (d : Dev) : Dev :=
  match Dev.nextReturn d with
  | none => d
  | some (n, b, s) =>
    let d := Dev.setGran d { d.gran with returns := d.gran.returns.filter (fun r => r != (n, b, s)) }
    let x := Dev.bale d b
    if Dev.el d (K.gstackState (b % 16)) = 2 then
      let d := if 0 < x.contIn then Dev.dropSplit d 0x31 n b s else d
      let d := Dev.dropBaleUnread d 0x31 n b s
      Dev.recontend (Dev.windowMoved (Dev.contained d 7 0x31 0x0A00 0x0C n) n) n
    else Dev.setBale d b { x with reading := x.reading ++ [n] }

/-! Retirement (R226 to R228). -/

/-- Bales of stack s that no queue's window holds, with the queues that refer to them (R227). -/
def Dev.movable (d : Dev) (s : Nat) : List Nat :=
  ((d.gran.bales.filter (fun x => x.1 % 16 == s && x.2.reading.isEmpty)).map (fun x => x.1)).filter (fun b =>
    !d.queues.any (fun q => match EQueue.refTo q.2 b with | some k => Dev.inWindow d q.1 k | none => false))

/-- Bales that copies at 1 Tb/s move within the limit of step 2 (R227). -/
def Dev.drainRoom (d : Dev) : Nat := Dev.el d K.granRetireDrainLimit * 1000000000 / (8192 * 8)

/-- Stack s retires for a reason: nothing is allocated on it, and with `copy` its live bales move away (R227). -/
def Dev.retireNow (d : Dev) (s reason : Nat) (copy : Bool) : Dev :=
  let d := Dev.granTotals (Dev.setEl (Dev.setEl d (K.gstackState s) 1) (K.gstackRetireReason s) reason)
  if copy then Dev.granTotals (((Dev.movable d s).take (Dev.drainRoom d)).foldl Dev.moveBale d) else d

/-- A retirement, which waits for the microcontroller (R233). -/
def Dev.retire (d : Dev) (s reason : Nat) (copy : Bool) : Dev :=
  if Dev.gmcuAway d then Dev.gmcuLater d (.retire s reason copy) else Dev.retireNow d s reason copy

/-- The end of step 2 for what is not a bale: a stack that has lost a channel copies neither the staging nor the crash
contents; the telemetry records are lost to every stream (R227, R312). -/
def Dev.retireContents (d : Dev) (s : Nat) : Dev :=
  let d :=
    if Dev.el d (K.gstackRetireReason s) = 3 then
      let d := Dev.setEl { d with prog := { d.prog with bundle := [] } } K.progStageLength 0
      Dev.fwEnd { d with err := { d.err with crashes := [] } }
    else d
  let head := Dev.el d K.telStoreHead
  (List.range 8).foldl (fun d i => Dev.streamSkip d i head) d

/-- A granary domain whose eight stacks are all retired or failed is switched off (R456), once the power controller runs
(R424). -/
def Dev.granPower (d : Dev) : Dev :=
  if Dev.pctlUp d = false then d
  else
  [0, 1].foldl (fun d h =>
    if (List.range 8).all (fun i => decide (2 ≤ Dev.el d (K.gstackState (h * 8 + i)) ∧ Dev.el d (K.gstackState (h * 8 + i)) ≤ 3))
      ∧ Dev.domain d (22 + h) = 1
    then Dev.setDomain d (22 + h) 0 else d) d

/-- Whether a retirement of stack s must be refused: one runs, or no stack would be left (R227). -/
def Dev.retireBusy (d : Dev) : Bool :=
  (List.range 16).any (fun s => Dev.el d (K.gstackState s) == 1)
    || d.gran.later.any (fun w => match w with | .retire _ _ _ => true | .fail _ _ => false)
def Dev.retireLast (d : Dev) (s : Nat) : Bool := (Dev.inService d).all (fun t => t == s)

/-- An automatic retirement, where it is enabled and would not be refused. -/
def Dev.autoRetire (d : Dev) (s reason : Nat) (copy : Bool) : Dev :=
  if Dev.el d K.granAutoRetire = 1 ∧ Dev.retireBusy d = false ∧ Dev.retireLast d s = false
    ∧ (Dev.inService d).contains s = true then Dev.retire d s reason copy
  else d

/-- 64 or more uncorrectable bursts within 60 s in at least 4 segments (R227). -/
def Dev.ueCheck (d : Dev) (s : Nat) : Dev :=
  let mine := d.gran.ue.filter (fun x => x.2.1 == s)
  if 64 ≤ mine.length ∧ 4 ≤ ((mine.map (fun x => x.2.2)).eraseDups).length then Dev.autoRetire d s 2 true else d

/-- A part record of the store: remap entries, retired stacks (R224, R227, R397). -/
def Dev.setPart (d : Dev) (k v : Nat) : Dev := Dev.persistPart d k (leBytes 8 v)

/-- The drain ends: the stack enters deep power-down (R227, steps 3 and 4). -/
def Dev.retireDone (d : Dev) (s : Nat) : Dev :=
  if Dev.el d (K.gstackState s) ≠ 1 then d
  else
    let d := Dev.retireContents d s
    let d := Dev.setEl (Dev.setPart d (K.gstackState s) 2) (K.gstackState s) 2
    let d := if Dev.granUp d then Dev.setEl d K.granState 2 else d
    Dev.granPower (Dev.event (Dev.granTotals d) 2 7)

/-- A read of bale b for queue n completes (R215, R220, R222): the bursts it corrected, those that were good on the second
read, and those that stayed bad or carry another tag than the part expects (R208). A return that a flush has overtaken
is discarded. -/
def Dev.returnDone (d : Dev) (n b : Nat) (w : BaleWay) : Dev :=
  let x := Dev.bale d b
  match EQueue.refTo (Dev.queue d n) b with
  | none => Dev.endRead d n b
  | some s =>
    if !x.reading.contains n then d
    else
      let d := Dev.perf (Dev.setGran d { d.gran with rd := RateWin.add d.gran.rd (Dev.msNow d) 8192 }) 0x28 2 256
      let seg := Dev.segPhys d (b % 16) (b / 128)
      let bad := ((w.bad.map (fun i => i.val)) ++ Bale.oddTags x (Dev.baleMark d b x.seq)).eraseDups
      let d := w.corrected.foldl (fun d i => Dev.noteCe d (b % 16) seg (b / 16 % 8 * 256 + i.val)) d
      let d := Dev.noteRetries d w.retried
      let d := Dev.endRead d n b
      if bad != [] then
        let d := if 0 < x.contIn then Dev.dropSplit d 0x30 n b s else d
        let d := Dev.contained (Dev.dropBaleRead d 0x30 n b s) 7 0x30 0x0A00 0x0B n
        let d := bad.foldl (fun d _ => Dev.noteUe d (b % 16) seg) d
        Dev.recontend (Dev.ueCheck (Dev.windowMoved d n) (b % 16)) n
      else
        let r := (Bale.recsOf x n).foldl (fun (a : Dev × List Desc) y => let z := Dev.copyRec a.1 y; (z.1, a.2 ++ [z.2])) (d, [])
        let d := Dev.linkBale (Dev.act (Dev.perf r.1 0x28 4 1) (actBale (b % 16 / 8) n) 1) n b s r.2 (x.contMore && Dev.restWaits d (Dev.queue d n) b s)
        Dev.recontend (Dev.dropReleasedAll (Dev.windowMoved (Dev.unrefBale d b) n) n) n

/-- The copy is complete: the remap entry takes effect and is kept in the store (R224, step 3). -/
def Dev.segmentRemap (d : Dev) (st seg : Nat) : Dev :=
  let k := segKey st seg
  if SMap.get d.gran.copying k false then
    let d := Dev.setGran d { d.gran with copying := SMap.set d.gran.copying k false false }
    let d := (segBales st seg).foldl Dev.retag d
    Dev.setPart d (2 ^ 32 + k) (SMap.get d.gran.remap k 0)
  else d

/-- hPPR resources that stack st reports as left: what its repairs have left of those it was made with (R235, log 115). -/
def Dev.pprLeft (d : Dev) (st : Nat) : Nat := Config.freeAt 15 st % 2 ^ 16 - Dev.el d (K.gstackPprDone st)

/-- hPPR and its test end: on a pass the data returns and the remap entry goes (R224). -/
def Dev.hpprDone (d : Dev) (st seg : Nat) (ok : Bool) : Dev :=
  let k := segKey st seg
  match SMap.find d.gran.remap k with
  | some r =>
    if ok && !SMap.get d.gran.copying k false then
      let gone := if r < 2 ^ 20 then d.gran.gone
        else (segBales st (r - 2 ^ 20)).foldl (fun m b => SMap.del m b) d.gran.gone
      let d := Dev.setGran d { d.gran with remap := SMap.del d.gran.remap k, gone := gone }
      let d := (segBales st seg).foldl Dev.retag d
      let d := Dev.persistPart d (2 ^ 32 + k) []
      let d := Dev.addEl d 16 (K.gstackPprDone st) 1
      Dev.granTotals (Dev.setEl d (K.gstackPprLeft st) (Dev.pprLeft d st))
    else d
  | none => d

/-! Training (R230, R231, R313). -/

/-- Copy the on-die telemetry records into the region and go on there (R313). -/
def Dev.telMigrate (d : Dev) : Dev :=
  if Dev.granUp d then
    let c := Dev.el d K.telStoreCapacity
    let recs := d.tel.recs.foldl (fun m x => SMap.ins m (bits x.2 32 64 % c) x.2) []
    { d with tel := { d.tel with recs := recs, inRegion := true } }
  else d

/-- Step 5 of the start-up, once the stacks are trained and the main firmware runs: the stored remaps and retirements are
applied, the regions laid out, gran.state set (R228, R230, R231, R495 step 6). -/
def Dev.granLayout (d : Dev) : Dev :=
  if !d.gran.trained || Dev.el d K.granState != 0 || !d.fw.running then d
  else
  let d := (List.range 16).foldl (fun d s =>
    if Dev.el d (K.gstackState s) = 0 ∧ Dev.stored d (K.gstackState s) = 2 then Dev.setEl d (K.gstackState s) 2 else d) d
  let rem := d.dict.store.filter (fun x => decide (2 ^ 32 ≤ x.1 ∧ x.1 < 2 ^ 32 + 2 ^ 24))
  let d := rem.foldl (fun d x =>
    let k := x.1 - 2 ^ 32
    let r := leNat x.2
    let gone := if r < 2 ^ 20 then d.gran.gone
      else (segBales (k / 2 ^ 20) (r - 2 ^ 20)).foldl (fun m b => SMap.ins m b true) d.gran.gone
    Dev.setGran d { d.gran with remap := SMap.ins d.gran.remap k r, gone := gone }) d
  let d := (List.range 16).foldl (fun d s => Dev.setEl d (K.gstackPprLeft s) (Dev.pprLeft d s)) d
  let n := (Dev.inService d).length
  let d := Dev.granPower (Dev.milestone d 2)
  if n = 0 then Dev.fatal (Dev.granTotals (Dev.setEl d K.granState 3)) 0 7 0x0A00 0x01 0
  else Dev.granTotals (Dev.setEl d K.granState (if n = 16 then 1 else 2))

/-- Steps 1 to 4 of the start-up end; the stacks of `failed`, and those whose domain is not on, are marked failed for the rest of
this power-on (R230). -/
def Dev.granTrained (d : Dev) (failed : Nat) : Dev :=
  if d.gran.trained then d
  else
    let bad (s : Nat) : Bool := bit failed s || bit d.gran.failed s || Dev.domain d (22 + s / 8) != 1
    let d := (List.range 16).foldl (fun d s => Dev.setEl d (K.gstackState s) (if bad s then 3 else 0)) d
    let mask := ((List.range 16).filter bad).foldl (fun n s => n + 2 ^ s) 0
    Dev.granLayout (Dev.setGran d { d.gran with trained := true, failed := mask })

/-- The microcontroller runs again: what has waited for it goes on (R233). -/
def Dev.granResume (d : Dev) : Dev :=
  let l := d.gran.later
  let d := l.foldl (fun d w =>
    match w with
    | .fail st seg => Dev.segmentFail d st seg
    | .retire s reason copy => if (Dev.inService d).contains s then Dev.retire d s reason copy else d)
    (Dev.setGran d { d.gran with later := [] })
  (List.range 16).foldl Dev.payOwed d

/-! Commands. -/

/-- AUDIT_PERIOD (R167). -/
def execAuditPeriod (s : State) : Host.Outcome State Fault Refusal := lift Dev.audit s

/-- AUDIT_DONE (R167). -/
def execAuditDone (s : State) : Host.Outcome State Fault Refusal := lift Dev.auditDone s

/-- BUFFER_SCRUB (R168, R169): what background scrubbing corrected, the cells it found uncorrectable, and the places of lists at
which a descriptor or a cell link is. -/
def execBufferScrub (corrected uncorrectable : Nat) (breaks : List (Fin 16656 × Nat)) (s : State) :
    Host.Outcome State Fault Refusal :=
  lift (fun d =>
    let d := breaks.foldl (fun d x => Dev.listBreak d x.1 x.2) d
    let d := if corrected = 0 then d else Dev.corrected (Dev.bufCorrected d corrected) 0x0900 0x0D corrected
    if uncorrectable = 0 then d
    else Dev.containedF (Dev.bufUncorrectable d uncorrectable) 6 0x0900 0x0E 0) s

/-- BALE_CLOSE_TIMER (R214). -/
def execBaleCloseTimer (n : Fin 16384) (s : State) : Host.Outcome State Fault Refusal :=
  lift (fun d => if (Dev.queue d n).openBale.isSome then Dev.windowMoved (Dev.closeBale d n) n else d) s

/-- BALE_WRITE_DONE (R213). -/
def execBaleWriteDone (b : Nat) (s : State) : Host.Outcome State Fault Refusal := lift (fun d => Dev.baleWritten d b) s

/-- BALE_RETURN_READ (R215). -/
def execBaleReturnRead (s : State) : Host.Outcome State Fault Refusal := lift Dev.returnRead s

/-- BALE_RETURN_DONE (R215, R222). -/
def execBaleReturnDone (n : Fin 16384) (b : Nat) (w : BaleWay) (s : State) : Host.Outcome State Fault Refusal :=
  lift (fun d => Dev.returnDone d n b w) s

/-- What pauses while the granary microcontroller is reloaded (R233). -/
def Dev.unlessReload (f : Dev → Dev) (d : Dev) : Dev := if Dev.gmcuAway d then d else f d

/-- An uncorrectable burst of another region than the spill region goes to its owner (R222, R503): a telemetry record is
skipped by its streams, the staged bundle and the staged images fail, the crash record is lost (log 116). -/
def Dev.badRegion (d : Dev) (r : RegionHit) : Dev :=
  match r with
  | .telemetry n => Dev.badRecord d n
  | .bundle => Dev.setEl { d with prog := { d.prog with bundle := [] } } K.progStageLength 0
  | .images => Dev.fwEnd d
  | .crash n => { d with err := { d.err with crashes := SMap.del d.err.crashes n } }

/-- The bale that stands in segment seg of a stack at the place of a burst (R204, R224). -/
def Dev.baleAt (d : Dev) (x : BurstAt) : Option Nat :=
  let seg := if resBase ≤ x.seg.val then (Dev.standsFor d x.st x.seg).getD resBase else x.seg.val
  let b := (seg * 8 + x.burst / 256) * 16 + x.st
  if seg < Dev.spillSegs d ∧ Dev.segPhys d x.st seg = x.seg.val ∧ (SMap.find d.gran.bales b).isSome then some b else none

/-- The tag that the part expects of a burst; `none` where nothing is known to stand there (R208). -/
def Dev.tagAt (d : Dev) (x : BurstAt) : Option Nat :=
  match Dev.baleAt d x with
  | some b => some (burstTag (Dev.baleMark d b (Dev.bale d b).seq) x.burst)
  | none => if x.seg.val < Dev.spillSegs d then none else some (burstTag (Dev.segMark d x.seg) x.burst)

/-- A bale keeps the tag that a scrub has read for one of its bursts: its return fails by it (R208, R222). -/
def Dev.spoilTag (d : Dev) (x : BurstAt) (tag : Nat) : Dev :=
  match Dev.baleAt d x with
  | some b =>
    let y := Dev.bale d b
    Dev.setBale d b { y with bursts := y.bursts.zipIdx.map (fun z => if z.2 = x.burst.val % 256 then { z.1 with tag := tag } else z.1) }
  | none => d

/-- An uncorrectable burst that the patrol scrub has found (R222 to R224, R227, R503). -/
def Dev.scrubBad (d : Dev) (x : BurstAt) : Dev :=
  Dev.ueCheck (Dev.containedF (Dev.noteUe d x.st x.seg) 7 0x0A00 0x0A (segKey x.st x.seg)) x.st

/-- GRANARY_SCRUB_PASS (R223): what the pass meets, and its minutes. A burst whose tag is another than the one expected is
uncorrectable (R208). -/
def execGranaryScrubPass (w : ScrubWay) (minutes : Nat) (s : State) : Host.Outcome State Fault Refusal :=
  lift (Dev.unlessReload (fun d =>
    let odd := w.tags.filter (fun x => match Dev.tagAt d x.1 with | some t => t != x.2.toNat | none => false)
    let bad := (w.bad ++ odd.map (fun x => x.1)).eraseDups
    let d := odd.foldl (fun d x => Dev.spoilTag d x.1 x.2.toNat) d
    let d := w.corrected.foldl (fun d x => Dev.noteCe d x.st x.seg x.burst) d
    let d := Dev.noteRetries d w.retried
    let d := bad.foldl Dev.scrubBad d
    Dev.setEl (w.hits.foldl Dev.badRegion d) K.granScrubLastPass (minutes % 2 ^ 32))) s

/-- SEGMENT_FAIL_DECLARE (R224). -/
def execSegmentFailDeclare (st : Fin 16) (seg : Fin 131072) (s : State) : Host.Outcome State Fault Refusal :=
  lift (fun d => Dev.segmentFail d st seg) s

/-- SEGMENT_REMAP (R224). -/
def execSegmentRemap (st : Fin 16) (seg : Fin 131072) (s : State) : Host.Outcome State Fault Refusal :=
  lift (Dev.unlessReload (fun d => Dev.segmentRemap d st seg)) s

/-- HPPR_DONE (R224). -/
def execHpprDone (st : Fin 16) (seg : Fin 131072) (ok : Bool) (s : State) : Host.Outcome State Fault Refusal :=
  lift (Dev.unlessReload (fun d => Dev.hpprDone d st seg ok)) s

/-- STACK_TEMP_ALARM (R226): allocation on the stack stops with an alarm, or resumes. -/
def execStackTempAlarm (st : Fin 16) (hot : Bool) (s : State) : Host.Outcome State Fault Refusal :=
  lift (fun d =>
    let v := Dev.el d (K.gstackState st)
    let mark (d : Dev) (x : Nat) : Dev := Dev.setEl d K.thmStackHot (putBits (Dev.el d K.thmStackHot) st 1 x)
    let was := bit (Dev.el d K.thmStackHot) st
    let d := mark d (b2n hot)
    if hot = true ∧ was = false then
      Dev.event (if v = 0 then Dev.granTotals (Dev.setEl d (K.gstackState st) 4) else d) 2 7
    else if hot = false ∧ v = 4 then Dev.granTotals (Dev.setEl d (K.gstackState st) 0)
    else d) s

/-- RETIRE_DRAIN_END (R227). -/
def execRetireDrainEnd (st : Fin 16) (s : State) : Host.Outcome State Fault Refusal :=
  lift (Dev.unlessReload (fun d => Dev.retireDone d st)) s

/-- DRIFT_CHECK (R227, R232): a channel checks its oscillator; a retraining that fails twice in a row loses the channel. -/
def execDriftCheck (st : Fin 16) (ch : Fin 4) (way : DriftWay) (s : State) : Host.Outcome State Fault Refusal :=
  lift (Dev.unlessReload (fun d =>
    let k := st.val * 4 + ch
    let n := if way = .failed then SMap.get d.gran.drift k 0 + 1 else 0
    let d := if way = .steady then d else Dev.perf d 0x28 11 1
    let d := Dev.setGran d { d.gran with drift := SMap.set d.gran.drift k n 0 }
    if n = 2 then Dev.autoRetire d st 3 false else d)) s

/-- GRANARY_TRAINING_DONE (R230). -/
def execGranaryTrainingDone (failed : Fin 65536) (s : State) : Host.Outcome State Fault Refusal :=
  lift (fun d => Dev.granTrained d failed) s

/-- TEL_STORE_MIGRATE (R313). -/
def execTelStoreMigrate (s : State) : Host.Outcome State Fault Refusal := lift Dev.telMigrate s

/-- GMCU_RELOAD (R233, R451): the granary microcontroller is loaded, runs again or has failed to load. -/
def execGmcuReload (way : ReloadWay) (s : State) : Host.Outcome State Fault Refusal :=
  lift (fun d =>
    let d := if way = .memory then Dev.containedF d 7 (keyObj K.fwGmcuState) (keyEl K.fwGmcuState) 0 else d
    let d := Dev.setEl d K.fwGmcuState (ReloadWay.code way)
    let d := if way = .runs then Dev.granResume d else d
    if ReloadWay.code way = 1 then d else Dev.reloadEnd d .gmcu) s

end Sys2Proof.Machine
end

