-- ==== Sys2Proof/Machine/Timing.lean ====
section
/-! DEFINITION. The timing wheel, the policer command, time bases and servos, capture inputs and pulse outputs
(Scheduling, shaping and policing; Time bases and time-stamping). -/
namespace Sys2Proof.Machine

/-! The wheel (R251). -/

/-- Insert an entry behind those of its slot and of earlier slots. -/
def wheelIns (x : Nat × Nat) : List (Nat × Nat) → List (Nat × Nat)
  | [] => [x]
  | y :: t => if x.1 < y.1 then x :: y :: t else y :: wheelIns x t

/-- Start of a slot as scheduler time. -/
def slotTime (s : Nat) : Nat := s * 8 * 65536

/-- Release one entry: its lateness is counted, its owner contends again (R240, R251). -/
def Dev.wheelRelease1 (d : Dev) (n : Nat) (x : Nat × Nat) : Dev :=
  let delay := (schedDiff (Dev.now d) (slotTime x.1)).toNat
  let d := Dev.setWheel d n ((Dev.wheel d n).erase x) (Dev.overflow d n)
  let d :=
    if 8 * 65536 ≤ delay then
      let d := Dev.count d K.schedWheelLate 1
      Dev.setEl d K.schedWheelMaxLate (max (Dev.el d K.schedWheelMaxLate) (min (delay / 65536) 0xFFFFFFFF))
    else d
  let d := Dev.perf (Dev.perf d (0x10 + n) 3 1) (0x10 + n) 4 (b2n (decide (8 * 65536 ≤ delay)))
  if 2 ^ 20 ≤ x.2 then Dev.recontendPort d (x.2 - 2 ^ 20) else Dev.recontend d x.2

/-- One clock of releases: up to 4 entries whose slot is reached, in the order of their slots. -/
def Dev.wheelRelease (d : Dev) (n : Nat) : Dev :=
  let due := (Dev.wheel d n).filter (fun x => decide (0 ≤ schedDiff (Dev.now d) (slotTime x.1)))
  ((due.foldl (fun l x => wheelIns x l) []).take 4).foldl (fun d x => Dev.wheelRelease1 d n x) d

/-- The wheel passes slot 0: overflow entries of the coming revolution move into their slots. -/
def Dev.overflowMove (d : Dev) (n : Nat) : Dev :=
  let near (x : Nat × Nat) : Bool := decide (schedDiff (slotTime x.1) (Dev.now d) ≤ 524288 * 65536)
  Dev.setWheel d n (Dev.wheel d n ++ (Dev.overflow d n).filter near) ((Dev.overflow d n).filter (fun x => !near x))

/-! The policer command (R257, R260). -/

/-- Whether a rate code is valid (R247). -/
def rateOk (k : Nat) : Bool := k == 0 || decide (157 ≤ k ∧ k ≤ 25000000)

/-- The policer command with the parameters in its elements; its status. -/
def Dev.polRun (d : Dev) : Dev × Nat :=
  let i := Dev.el d K.polIndex
  let p := Dev.policer d i
  match Dev.el d K.polOp with
  | 1 =>
    let c := Dev.el d K.polCfg
    if bits c 49 15 ≠ 0 ∨ rateOk (polRate c) = false then (d, 2)
    else (Dev.setPolicer d i { p with cfg := c, e := Dev.now d }, 0)
  | 2 =>
    let d := Dev.setEl (Dev.setEl (Dev.setEl d K.polCfg p.cfg) K.polConformPkts p.okPkts) K.polConformBytes p.okBytes
    (Dev.setEl (Dev.setEl d K.polDropPkts p.dropPkts) K.polDropBytes p.dropBytes, 0)
  | 3 => (Dev.setPolicer d i { p with okPkts := 0, okBytes := 0, dropPkts := 0, dropBytes := 0 }, 0)
  | _ => (d, 2)

/-! Bases (R268, R275). -/

def Dev.capCfg (d : Dev) (c : Nat) : Nat := if c = 0 then Dev.el d K.cap0Cfg else Dev.el d K.cap1Cfg
def Dev.outCfg (d : Dev) (c : Nat) : Nat := if c = 0 then Dev.el d K.out0Cfg else Dev.el d K.out1Cfg

/-- Pulse output c. -/
def Dev.pulse (d : Dev) (c : Nat) : Pulse := (d.time.pulses[c]?).getD Pulse.init
def Dev.setPulse (d : Dev) (c : Nat) (x : Pulse) : Dev :=
  { d with time := { d.time with pulses := d.time.pulses.set c x } }

/-- A base's time in 2^-16 ns, and a time element in that unit (R267). -/
def TimeBase.time16 (t : TimeBase) : Nat := (t.sec * 1000000000 + t.ns) * 65536 + t.frac / 65536
def elem16 (v : Nat) : Nat := (bits v 48 48 * 1000000000 + bits v 16 30) * 65536 + bits v 0 16

/-- The next leading edge of output c is the first one scheduled after the present time of its base (R292). -/
def Dev.pulseRearm (d : Dev) (c : Nat) : Dev :=
  Dev.setPulse d c { Dev.pulse d c with since := some (TimeBase.time16 (Dev.base d (bits (Dev.outCfg d c) 0 3))) }

/-- A base takes a new time: it is counted, and the outputs bound to it go on from there (R275, R292). -/
def Dev.stepped (d : Dev) (b : Nat) (t : TimeBase) : Dev :=
  let d := Dev.addEl (Dev.setBase d b t) 32 (K.tbSteps b) 1
  (List.range 2).foldl (fun d c => if bits (Dev.outCfg d c) 0 3 = b then Dev.pulseRearm d c else d) d

/-- Step base b by x in 2^-16 ns (R268, R275). -/
def Dev.stepBase (d : Dev) (b : Nat) (x : Int) : Dev := Dev.stepped d b (TimeBase.add (Dev.base d b) x)

/-- Set base b to a time element (R267, R275). Nanoseconds of a second or more carry into the seconds, since a base holds at most
999,999,999 (R264; DESIGN CHOICE, log 173). -/
def Dev.setTime (d : Dev) (b v : Nat) : Dev :=
  Dev.stepped d b { Dev.base d b with
    frac := bits v 0 16 * 2 ^ 16, ns := bits v 16 30 % 1000000000, sec := (bits v 48 48 + bits v 16 30 / 1000000000) % 2 ^ 48,
    resid := 0 }

/-! The servo (R269 to R273). -/

/-- tb.rate.limit in units of 2^-48; the rate word holds 40 signed bits (R264, R270). -/
def Dev.rateLim (d : Dev) (b : Nat) : Int := ((Dev.el d (K.tbRateLimit b) * 2 ^ 48 / 1000000000 : Nat) : Int)

/-- gain × θ × 2^48 ÷ dt with θ in 2^-16 ns and a gain with 16 fraction bits, rounded toward zero. -/
def servoTerm (gain : Nat) (theta : Int) (dt : Nat) : Int := Int.tdiv ((gain : Int) * theta * 2 ^ 16) dt

/-- A change of the servo state of base b, which was `old`, is an event (R336). -/
def Dev.servoEvent (old b : Nat) (d : Dev) : Dev := if (Dev.base d b).state = old then d else Dev.event d 9 9

/-- A servo takes offset θ in 2^-16 ns (R270, R271). -/
def Dev.servoTake (d : Dev) (b : Nat) (theta : Int) : Dev :=
  let t := Dev.base d b
  let now := Dev.freeNs d
  let dt := if t.first then 1000000000 else max 1000000 (min (now - t.last) 16000000000)
  let t := { t with last := now, first := false, holdFrom := now, state := if t.state = 2 then 0 else t.state }
  let big := decide ((Dev.el d (K.tbServoStepNs b) : Int) * 65536 < (theta.natAbs : Int))
  if big then
    if t.state = 1 ∧ t.outliers + 1 < 4 then
      Dev.addEl (Dev.setBase d b { t with outliers := t.outliers + 1 }) 32 (K.tbOutliers b) 1
    else Dev.stepBase (Dev.setBase d b { t with state := 0, lockcount := 0, outliers := 0, overRun := 0 }) b (-theta)
  else
    let lim := Dev.rateLim d b
    let i := clampI (t.integ - servoTerm (Dev.el d (K.tbServoKi b)) theta dt) (-lim) lim
    let rho := clampI (clampI (i - servoTerm (Dev.el d (K.tbServoKp b)) theta dt) (-lim) lim) (-(2 ^ 39)) (2 ^ 39 - 1)
    let t := { t with outliers := 0, integ := i, rho := rho, rf := t.rf + Int.tdiv (rho - t.rf) 16 }
    let t :=
      if (theta.natAbs : Int) ≤ (Dev.el d (K.tbServoLockNs b) : Int) * 65536 then
        { t with overRun := 0, lockcount := t.lockcount + 1, state := if 8 ≤ t.lockcount + 1 then 1 else t.state }
      else if t.state = 1 then
        { t with lockcount := 0, overRun := if 8 ≤ t.overRun + 1 then 0 else t.overRun + 1,
                 state := if 8 ≤ t.overRun + 1 then 0 else 1 }
      else { t with lockcount := 0 }
    Dev.setBase d b t

/-- The same, with the event of a change of state (R336). -/
def Dev.onOffset (d : Dev) (b : Nat) (theta : Int) : Dev := Dev.servoEvent (Dev.base d b).state b (Dev.servoTake d b theta)

/-- An offset of base b: recorded, and taken by a servo in hardware mode (R269). -/
def Dev.offset (d : Dev) (b : Nat) (theta : Int) : Dev :=
  let d := Dev.setEl d (K.tbOffsetLast b) (unsgn 64 theta)
  if Dev.el d (K.tbServoMode b) = 0 then Dev.onOffset d b theta else d

/-- A new master is declared: the servo moves to ACQUIRING in either mode, as R273 has no exception (log 55). -/
def Dev.masterNew (d : Dev) (b : Nat) : Dev :=
  let t := Dev.base d b
  Dev.servoEvent t.state b (Dev.setBase d b { t with state := 0, lockcount := 0, outliers := 0 })

/-- tb.servo.mode is written, which was `old`: hardware enters ACQUIRING, manual enters MANUAL (R271, log 55). -/
def Dev.servoMode (d : Dev) (b m old : Nat) : Dev :=
  let t := Dev.base d b
  let t' := if m = 1 then { t with state := 3 } else if old = 1 ∨ t.state = 3 then { t with state := 0 } else t
  Dev.servoEvent t.state b (Dev.setBase d b t')

/-- No offset for tb.holdover.ms; an offset of the same tick was taken first (R272). -/
def Dev.holdover (d : Dev) (b : Nat) : Dev :=
  let t := Dev.base d b
  if (t.state = 0 ∨ t.state = 1) ∧ (t.first = true ∨ t.last ≠ Dev.freeNs d) then
    Dev.servoEvent t.state b (Dev.addEl (Dev.setBase d b { t with state := 2, rho := t.rf, integ := t.rf }) 32 (K.tbHoldovers b) 1)
  else d

/-! Captures and pulses (R290 to R293). -/

def Dev.capture (d : Dev) (c : Nat) : Capture := (d.time.caps[c]?).getD { queue := [], last := none }
def Dev.setCapture (d : Dev) (c : Nat) (x : Capture) : Dev :=
  { d with time := { d.time with caps := d.time.caps.set c x } }

/-- An edge on capture input c at phase `ph` (R291, R293). -/
def Dev.captureEdge (d : Dev) (c ph : Nat) (rising : Bool) : Dev :=
  let cfg := Dev.capCfg d c
  let x := Dev.capture d c
  let now := 2097152 * d.ticks / 25 + ph * 16384
  let near := match x.last with
    | some t => decide (now < t + 100 * 65536)
    | none => false
  if bit cfg 4 = false ∨ bit cfg 3 = rising ∨ near = true then d
  else
    let b := bits cfg 0 3
    let ts := Dev.stampOn d b ph (-(sgn 32 (bits cfg 5 32)))
    let d :=
      if x.queue.length < 16 then Dev.setCapture d c { queue := x.queue ++ [ts], last := some now }
      else Dev.addEl (Dev.setCapture d c { x with last := some now }) 32 (if c = 0 then K.cap0Overflow else K.cap1Overflow) 1
    let n := bits ts 2 30 * 65536 + bits ts 0 2 * 16384
    let theta : Int := if n < 500000000 * 65536 then (n : Int) else (n : Int) - 1000000000 * 65536
    (List.range 8).foldl (fun d k =>
      if k = b ∧ Dev.el d (K.tbServoSource k) = c + 1 then Dev.offset d k theta else d) d

/-- A read of cap0.pop or cap1.pop (R291). -/
def Dev.capPop (d : Dev) (c : Nat) : Dev × List Byte :=
  let x := Dev.capture d c
  match x.queue with
  | [] => (d, zeros 16)
  | t :: q => (Dev.setCapture d c { x with queue := q }, leBytes 10 t ++ [BitVec.ofNat 8 q.length, 1] ++ zeros 4)

def outPin (c : Nat) : Pin := if c = 0 then .tsout0 else .tsout1

/-- Whether output c drives pulses. -/
def Dev.pulseOn (d : Dev) (c : Nat) : Bool := bits (Dev.outCfg d c) 3 2 != 0

/-- Drive output c: its level follows `active` and the inversion; an output that is off is low (R290, Table 9). -/
def Dev.drivePulse (d : Dev) (c : Nat) (active : Bool) : Dev :=
  let level := Dev.pulseOn d c && active != bit (Dev.outCfg d c) 5
  let x := Dev.pulse d c
  let d := Dev.setPulse d c { x with level := level, active := active }
  if level = x.level then d else Dev.emit d (.pin (outPin c) level)

/-- The period and the first leading edge of output c, in 2^-16 ns: a second from 0 in PPS mode, else out.period from out.start
(R292). -/
def Dev.pulsePlan (d : Dev) (c : Nat) : Nat × Nat :=
  if bits (Dev.outCfg d c) 3 2 = 1 then (1000000000 * 65536, 0)
  else if c = 0 then (Dev.el d K.out0Period * 65536, elem16 (Dev.el d K.out0Start))
  else (Dev.el d K.out1Period * 65536, elem16 (Dev.el d K.out1Start))

/-- A base's seconds wrap at 2^48: the span of its time in 2^-16 ns (R265). -/
def timeSpan : Nat := 2 ^ 48 * 1000000000 * 65536

/-- The leading edge of output c that is due now: its scheduled base time lies within 2 ns of the base's time, and after the last
edge, step and change of settings, on the circle of the seconds (R265, R292, log 138). -/
def Dev.pulseDue (d : Dev) (c : Nat) : Option Nat :=
  let t := TimeBase.time16 (Dev.base d (bits (Dev.outCfg d c) 0 3))
  let per := (Dev.pulsePlan d c).1
  let start := (Dev.pulsePlan d c).2
  let e := start + (t + 2 * 65536 - start) / per * per
  let fresh := match (Dev.pulse d c).since with
    | some s => let ahead := (e + timeSpan - s) % timeSpan; decide (0 < ahead ∧ ahead < timeSpan / 2)
    | none => true
  if Dev.pulseOn d c ∧ start ≤ t + 2 * 65536 ∧ t ≤ e + 2 * 65536 ∧ fresh = true then some e else none

/-- A leading edge that is due is driven. One that falls into a pulse in progress emits none: that pulse completes (R292). -/
def Dev.pulseEdge (d : Dev) (c : Nat) : Dev :=
  match Dev.pulseDue d c with
  | none => d
  | some e =>
    let x := Dev.pulse d c
    let t := TimeBase.time16 (Dev.base d (bits (Dev.outCfg d c) 0 3))
    let left : Int := ((e + bits (Dev.outCfg d c) 6 32 * 65536 : Nat) : Int) - t
    if x.active then Dev.setPulse d c { x with since := some (e % timeSpan) }
    else Dev.drivePulse (Dev.setPulse d c { x with since := some (e % timeSpan), left := left }) c true

/-- Whether the trailing edge of the pulse in progress on output c may come: it is due within 2 ns of base time (R292). -/
def Dev.pulseOver (d : Dev) (c : Nat) : Bool := (Dev.pulse d c).active && decide ((Dev.pulse d c).left ≤ 2 * 65536)

/-- A tick that was at `d` takes the pulses in progress on by what their bases have advanced, whatever steps they took before; one
whose trailing edge is now due and has not come ends (R292). -/
def Dev.pulseRun (d e : Dev) (c : Nat) : Dev :=
  let x := Dev.pulse e c
  if x.active then
    let b := bits (Dev.outCfg e c) 0 3
    let went := (TimeBase.time16 (Dev.base e b) + timeSpan - TimeBase.time16 (Dev.base d b)) % timeSpan
    let e := Dev.setPulse e c { x with left := x.left - went }
    if x.left ≤ went then Dev.drivePulse e c false else e
  else e

/-! Transmit timestamps popped by a host (R285). -/

/-- A read of TXTS_POP of pipeline n by host port p. -/
def Dev.txtsPop (d : Dev) (p n : Nat) : Dev :=
  let q := Dev.txts d n
  match q.entries with
  | [] => Dev.emit d (.completion p (some 0))
  | (w, ts) :: t =>
    let d := Dev.setTxts d n { q with entries := t }
    let d := Dev.setHp d p { Dev.hp d p with txtsHold := BitVec.ofNat 64 ts }
    Dev.emit d (.completion p (some (w + 1)))

/-- The oldest entry is uncorrectable: it is discarded as an overflow is (R286, R503). -/
def Dev.txtsBad (d : Dev) (n : Nat) : Dev :=
  let q := Dev.txts d n
  match q.entries with
  | [] => d
  | _ :: t => Dev.containedF (Dev.txtsDiscard (Dev.setTxts d n { q with entries := t }) n) 9 (keyObj (K.txtsOverflow n)) 0 n

/-! Commands. -/

/-- WHEEL_RELEASE (R251). -/
def execWheelRelease (n : Fin 16) (s : State) : Host.Outcome State Fault Refusal := lift (fun d => Dev.wheelRelease d n) s

/-- WHEEL_OVERFLOW_MOVE (R251). -/
def execWheelOverflowMove (n : Fin 16) (s : State) : Host.Outcome State Fault Refusal := lift (fun d => Dev.overflowMove d n) s

/-- TB_HOLDOVER_TIMEOUT (R272). -/
def execTbHoldoverTimeout (b : Fin 8) (s : State) : Host.Outcome State Fault Refusal := lift (fun d => Dev.holdover d b) s

/-- TB_RATE_SAVE (R274): the hourly write of ρ while LOCKED. -/
def execTbRateSave (b : Fin 8) (s : State) : Host.Outcome State Fault Refusal :=
  lift (fun d =>
    let t := Dev.base d b
    if t.state = 1 then
      let k := K.tbRateSaved b
      let d := Dev.setEl d k (unsgn 64 t.rho)
      Dev.persist d k
    else d) s

/-- CAPTURE_EDGE (R291). -/
def execCaptureEdge (c : Fin 2) (ph : Fin 6) (rising : Bool) (s : State) : Host.Outcome State Fault Refusal :=
  lift (fun d => Dev.captureEdge d c ph rising) s

/-- PULSE_EDGE (R292). -/
def execPulseEdge (c : Fin 2) (s : State) : Host.Outcome State Fault Refusal :=
  lift (fun d => Dev.pulseEdge d c) s

/-- PULSE_TRAILING_EDGE (R292): a pulse in progress completes even when its base has been stepped; one whose trailing edge does
not come by its due time ends with the tick that passes it. -/
def execPulseTrailingEdge (c : Fin 2) (s : State) : Host.Outcome State Fault Refusal :=
  lift (fun d => if Dev.pulseOver d c then Dev.drivePulse d c false else d) s

/-- TXTS_POP (R285); `ecc` says that the oldest entry is uncorrectable (R503). -/
def execTxtsPop (p : Fin 2) (n : Fin 16) (ecc : Bool) (s : State) : Host.Outcome State Fault Refusal :=
  lift (fun d => if Dev.hostExists d p then Dev.txtsPop (if ecc then Dev.txtsBad d n else d) p n else d) s

/-! The passage of time. -/

/-- Cycles of a clock of 781.25 MHz × num / den that end in the tick now past (R22). -/
def Dev.cyclesOf (d : Dev) (num den : Nat) : Nat := d.ticks * num / den - (d.ticks - 1) * num / den

/-- Cycles of the clock of block b in this tick: pipeline clock at its sixteenths, granary clock, or management clock (R22,
R322, R468). -/
def Dev.blockCycles (d : Dev) (b : Nat) : Nat :=
  if b = 0x28 then Dev.cyclesOf d 1 1
  else if 0x29 ≤ b ∧ b ≤ 0x2C then Dev.cyclesOf d 1 2
  else Dev.cyclesOf d (Dev.el d K.pwrClockSixteenths) 8

/-- The events of block b that no command stands for, with the most that a tick of n cycles brings: waits and clocks of the
egress stages, refresh, TLPs and replays, flits and clocks without credit (R322, log 61). Flits are rebuilt while a wire is
failing (R61). -/
def Dev.wireEvents (d : Dev) (b n : Nat) : List (Nat × Nat) :=
  if 0x10 ≤ b ∧ b < 0x20 then [(6, n), (7, n)]
  else if b = 0x28 then [(9, n)]
  else if b = 0x2A ∨ b = 0x2B then [(1, 2 ^ 16), (2, 2 ^ 16), (6, 2 ^ 16)]
  else if 0x30 ≤ b then
    let failing := !(Dev.rouri d (b - 0x30) 0).repairing.isEmpty
    [(1, 2 ^ 16), (2, 2 ^ 16), (4, if failing then 2 ^ 16 else 0), (6, n)]
  else []

/-- What block b counts in each cycle: the cycle, a full arrival buffer, a backlog of 512 bales or more, and a free number of
what the wire and the clock bring (R322, log 61). -/
def Dev.perfCycle (d : Dev) (b : Nat) : Dev :=
  let n := Dev.blockCycles d b
  let d := Dev.perfBank d b 0 n
  let d := (Dev.wireEvents d b n).foldl (fun d x =>
    Dev.perfBank d b x.1 (Config.freeAt 16 (d.ticks * 2 ^ 12 + b * 2 ^ 4 + x.1) % (x.2 + 1))) d
  if b < 16 ∧ (2048 ≤ (Dev.pipe d b).arrival.length ∨ 524288 ≤ Dev.arrivalBytes d b) then Dev.perfBank d b 6 n
  else if b = 0x28 ∧ 512 ≤ Dev.backlog d then Dev.perfBank d b 10 n
  else d

/-- Time passes: one tick of the counter clock, in which pulses in progress run on, and every block with a performance counter
enabled counts its cycles (R265, R292, R322, log 61). -/
def Dev.elapse (d : Dev) : Dev :=
  let on := d.dict.vals.filter (fun x => decide (0x0C40 ≤ keyObj x.1 ∧ keyObj x.1 < 0x0C80) && keyEl x.1 == 2)
  on.foldl (fun d x => Dev.perfCycle d (keyObj x.1 - 0x0C40)) ([0, 1].foldl (Dev.pulseRun d) (Dev.tick d))

end Sys2Proof.Machine
end

