-- ==== Sys2Proof/Machine/Live.lean ====
section
/-! DEFINITION. Elements whose value is not kept but follows from the rest of the state whenever it is read: counts of
what a table, queue or buffer holds, present rates, remaining times. -/
namespace Sys2Proof.Machine

/-- Bytes of a value of each type (R381, Table 2); 0 for those of varying length. -/
def tyLen : ETy → Nat
  | .bool | .u8 => 1
  | .u16 => 2
  | .u32 | .s32 | .enum => 4
  | .u64 | .s64 | .bitset => 8
  | .time => 12
  | .str | .blob => 0

def ETy.raw : ETy → Bool
  | .str | .blob => true
  | _ => false

/-- Objects present (R402 dict.objects). -/
def Dict.objects : Nat :=
  Dict.pieces.foldl (fun n p => p.2.2.foldl (fun n r => if r.el = 0 then n + r.reps else n) n) 0

/-! The configuration store's size (R397, R398). -/

/-- Bytes of an entry that holds `bs`: 8, and the value padded to a multiple of 8 (Table 9). -/
def entryBytes (bs : List Byte) : Nat := 8 + (bs.length + 7) / 8 * 8

/-- Whether a record of the store is the value of a persistent element. -/
def rwpRow (k : Nat) : Option DictRow :=
  if 2 ^ 24 ≤ k then none
  else
    match Dict.find (keyObj k) (keyEl k) with
    | some r => if r.acc == .rwp then some r else none
    | none => none

/-- What an entry holds after its header: the value of an element, or a part record behind its index (Table 9, log 145). -/
def entryValue (id : Nat) (bs : List Byte) : List Byte :=
  if (rwpRow id).isSome then bs else leBytes 8 (id / 2 ^ 24) ++ bs

/-- An entry of a generation record: object, element, kind, length, value (Table 9). -/
def entryOf (id : Nat) (bs : List Byte) : List Byte :=
  let v := entryValue id bs
  let kind := if (rwpRow id).isNone then 2 else if bs.isEmpty then 1 else 0
  leBytes 2 (keyObj (id % 2 ^ 24)) ++ leBytes 1 (keyEl id) ++ leBytes 1 kind ++ leBytes 2 v.length ++ zeros 2 ++ padTo 8 v

/-- The elements that the profiles govern (R34, Table 6). -/
def governed (k : Nat) : Bool :=
  let o := keyObj k
  let e := keyEl k
  (o == 0x0940 && decide (1 ≤ e)) || (decide (0x09C0 ≤ o ∧ o < 0x09D1) && decide (1 ≤ e ∧ e ≤ 16))
    || (decide (0x4000 ≤ o) && (e == 0x02 || e == 0x14 || e == 0x15))

/-- What a generation records of element k: its bytes, none for a removal. -/
def Dev.storeBytes (d : Dev) (k : Nat) : List Byte :=
  match Dict.find (keyObj k) (keyEl k) with
  | some r =>
    if governed k && !d.dict.overrides.contains k then []
    else if r.ty.raw then (if Dev.blob d k = Dict.dfltB k then [] else Dev.blob d k)
    else if Dev.el d k = Dict.dflt k then [] else leBytes (tyLen r.ty) (Dev.el d k)
  | none => []

/-- The bytes of an item that waits for a generation. -/
def Dev.itemBytes (d : Dev) (x : StoreItem) : List Byte :=
  match x.part with
  | some bs => bs
  | none => Dev.storeBytes d x.id

def Dev.pendingBytes (d : Dev) : Nat := d.dict.cfgPend.foldl (fun n x => n + (Dev.itemBytes d x).length) 0
def Dev.liveBytes (d : Dev) : Nat := d.dict.store.foldl (fun n x => n + entryBytes (entryValue x.1 x.2)) 0

/-- The bucket of R398: one token a second, 600 at most. -/
def Dev.cfgTokens (d : Dev) : Nat := (Dev.fill d d.dict.tokens 1 600).level / ticksPerSec

/-! Boot records (R430). -/

def BootSec.valid : BootSec → Option BootRec
  | .good r => some r
  | _ => none

/-- The newest valid record is the one with the higher seq (R430); whether it stands in sector 0. -/
def BootSecs.newest (x : BootSecs) : Option (Bool × BootRec) :=
  match BootSec.valid x.s0, BootSec.valid x.s1 with
  | some a, some b => if a.seq < b.seq then some (false, b) else some (true, a)
  | some a, none => some (true, a)
  | none, some b => some (false, b)
  | none, none => none

/-! Firmware's times (R440, R441, R448). -/

def Dev.secondsSince (d : Dev) (t : Nat) : Nat := (d.ticks - t) / ticksPerSec

def Dev.confirmLeft (d : Dev) : Nat :=
  if Dev.el d K.fwTrial = 1 then
    match BootSecs.newest d.fw.secs with
    | some (_, r) => r.confirmMin * 60 - Dev.secondsSince d d.fw.windowAt
    | none => 0
  else 0

def Dev.sessionIdle (d : Dev) : Nat :=
  if d.fw.owner.isSome then min 255 (Dev.secondsSince d d.fw.idleAt) else 0

/-- err.life.left_pct (R517). -/
def Dev.lifeLeft (d : Dev) : Nat :=
  100 - min 100 (ceilDiv (100 * max (Dev.el d K.errLifeEquivH) (Dev.el d K.lifePowerOnH)) 105192)

/-- err.exhaust.state: 12 rows of 4 bytes (R517). -/
def Dev.exhaustBlob (d : Dev) : List Byte :=
  (List.range 12).flatMap (fun i =>
    leBytes 2 (SMap.get d.err.exUtil i 0) ++ [BitVec.ofNat 8 (SMap.get d.err.exState i 0), 0])

/-- The present value of a counted or derived element of table objects 0x0800 and 0x0802 (R128, R129). -/
def Dev.liveTables (d : Dev) (k : Nat) : Option Nat :=
  let t := d.tbl
  if k = K.tblEmUsed then some (t.em.foldl (fun n x => n + x.width) 0)
  else if k = K.tblEmStashUsed then some ((t.em.filter (fun x => decide (2 ^ 22 ≤ x.loc))).foldl (fun n x => n + x.width) 0)
  else if k = K.tblLpmShortUsed then some (lpmShort t.lpm)
  else if k = K.tblLpmLongUsed then some (lpmLong t.lpm)
  else if k = K.tblNhUsed then some (t.nh.filter (fun x => nhValid x.2)).length
  else if k = K.tblGrpUsed then some t.groups.length
  else if k = K.tblMbrUsed then some t.members.length
  else if k = K.tblSlotUsed then some (t.groups.foldl (fun n x => n + 2 ^ x.2.log2) 0)
  else if k = K.tblSlotLargestFree then some (largestFree t 21)
  else if k = K.tcamUsed then some (t.tcam.map (·.entry)).eraseDups.length
  else if k = K.tcamPrivCount then
    some ((List.range 64).filter (fun j => Dev.el d (K.privPort j) != 0xFFFF)).length
  else none

/-- The present value of a derived element of an egress queue (R196, R236). -/
def Dev.liveQueue (d : Dev) (n el : Nat) : Option Nat :=
  let q := Dev.queue d n
  match el with
  | 0x06 => some q.depth
  | 0x07 => some (Dev.qPkts d n)
  | 0x11 => some (EQueue.stateCode q (Dev.qPaused d n))
  | 0x13 => some q.hr
  | 0x18 => some (EQueue.bales q)
  | _ => none

/-- The present value of a derived element of a time base (R294). -/
def Dev.liveBase (d : Dev) (b el : Nat) : Option Nat :=
  let t := Dev.base d b
  match el with
  | 0x01 => some (TimeBase.elem t)
  | 0x04 => some (unsgn 64 t.rho)
  | 0x0E => some t.state
  | 0x11 => some (unsgn 64 t.rf)
  | _ => none

/-- The present value of an element of a management port: the lease under DHCP, the CTLE code in force (R405, R409). -/
def Dev.liveMport (d : Dev) (m e : Nat) : Option Nat :=
  let x := Dev.mport d m
  match e with
  | 0x05 => if Dev.el d (K.mportCtleMode m) = 0 then x.ctle else none
  | 0x0A => if Dev.el d (K.mportIpv4Mode m) = 1 then some ((x.lease.map (fun l => l.1)).getD 0) else none
  | 0x0B => if Dev.el d (K.mportIpv4Mode m) = 1 then x.lease.map (fun l => l.2.1) else none
  | 0x0C => if Dev.el d (K.mportIpv4Mode m) = 1 then some ((x.lease.map (fun l => l.2.2)).getD 0) else none
  | _ => none

/-- The present value of the other derived elements. The reserved bits of pol.cfg read zero (R12); what was written there only
makes its command end with INVALID (R257). -/
def Dev.liveOther (ep : Nat) (d : Dev) (k : Nat) : Option Nat :=
  if k = K.dictObjects then some Dict.objects
  else if k = K.polCfg then some (Dev.el d k % 2 ^ 49)
  else if k = K.dictSessionOpen then some d.dict.sessions.length
  else if k = K.devProfileOverrides then some d.dict.overrides.length
  else if k = K.cfgsTokens then some (Dev.cfgTokens d)
  else if k = K.cfgsPending then some (Dev.pendingBytes d)
  else if k = K.cfgsLiveBytes then some (Dev.liveBytes d)
  else if k = K.lifeUptimeS then some (d.ticks / ticksPerSec)
  else if k = K.fwConfirmLeftS then some (Dev.confirmLeft d)
  else if k = K.fwSessionIdleS then some (Dev.sessionIdle d)
  else if k = K.epochCount then some ep
  else if k = K.epochBit then some (ep % 2)
  else if k = K.bufCellsFree then some (BufS.free d.buf)
  else if k = K.bufDescFree then some (2097152 - d.buf.descs)
  else if k = K.granSpillWriteGbps then some (RateWin.gbps d.gran.wr (Dev.msNow d))
  else if k = K.granSpillReadGbps then some (RateWin.gbps d.gran.rd (Dev.msNow d))
  else if k = K.telStoreCapacity then some (Dev.telCap d)
  else if k = K.telWrapBit then some (b2n (Dev.wrapBit d))
  else if k = K.errLifeLeftPct then some (Dev.lifeLeft d)
  else if k = K.hostVecFree 0 then some (Dev.vecFree d 0)
  else if k = K.hostVecFree 1 then some (Dev.vecFree d 1)
  else none

/-- The value of an element of 64 bits or less, or of a time: kept, or derived (R384). -/
def Dev.val (ep : Nat) (d : Dev) (k : Nat) : Nat :=
  let o := keyObj k
  let e := keyEl k
  let v : Option Nat :=
    if 0x4000 ≤ o ∧ o < 0x8000 then Dev.liveQueue d (o - 0x4000) e
    else if 0x0600 ≤ o ∧ o < 0x0608 then Dev.liveBase d (o - 0x0600) e
    else if o = 0x0800 ∨ o = 0x0802 then Dev.liveTables d k
    else if 0x0820 ≤ o ∧ o < 0x0830 then
      (if e = 1 then some ((d.tbl.win.filter (fun w => w.pipe == o - 0x0820)).map (fun w => w.rule)).dedup.length else none)
    else if 0x0710 ≤ o ∧ o < 0x0720 then
      (if e = 0x0C then some (Image.depth (Dev.activeImg ep d (o - 0x0710))) else none)
    else if 0x0730 ≤ o ∧ o < 0x0740 then (if e = 5 then some (Dev.heldPackets ep d (o - 0x0730)) else none)
    else if 0x09C0 ≤ o ∧ o < 0x09D1 then
      (if 0x21 ≤ e ∧ e < 0x31 then some (Dev.queue d ((1024 + (o - 0x09C0)) * 16 + (e - 0x21))).depth else none)
    else if 0x0C08 ≤ o ∧ o < 0x0C10 then (if e = 5 then some (Dev.streamStateLive d (o - 0x0C08)) else none)
    else if 0x1000 ≤ o ∧ o < 0x1400 then
      (if e = 6 then some (Dev.laneCtle d (o - 0x1000))
       else if e = 0x0A then some (Dev.adaptState d (o - 0x1000)) else none)
    else if o = 0x1811 ∨ o = 0x1812 then Dev.liveMport d (o - 0x1811) e
    else if 0x2000 ≤ o ∧ o < 0x2800 then
      (if e = 0x11 then
        let x := Dev.dq d (o - 0x2000)
        some (x.pre.length + (match x.item with | some it => it.descs.length | none => 0))
       else none)
    else Dev.liveOther ep d k
  v.getD (Dev.el d k)

/-- The value of a str or blob: kept, or derived (R301, R321, R486, R501, R517). -/
def Dev.valB (d : Dev) (k : Nat) : List Byte :=
  let o := keyObj k
  let e := keyEl k
  if k = K.errLog then d.err.log.flatMap (leBytes 32)
  else if k = K.errExhaustState then Dev.exhaustBlob d
  else if 0x0280 ≤ o ∧ o < 0x02C0 ∧ 1 ≤ e then
    (List.range 16).flatMap (fun q => leBytes 8 (SMap.get d.pwr.queueUj (((o - 0x0280) * 16 + (e - 1)) * 16 + q) 0))
  else if 0x0C80 ≤ o ∧ o < 0x0CC0 ∧ 1 ≤ e then Dev.statBlob d ((o - 0x0C80) * 16 + (e - 1))
  else if o = 0x0C1C ∧ 1 ≤ e then Dev.statBlob d (1024 + (e - 1))
  else if 0x0CC0 ≤ o ∧ o < 0x0D00 ∧ 1 ≤ e then Dev.histBlob d (binPort ((o - 0x0CC0) * 16 + (e - 1)) 0)
  else if 0x4000 ≤ o ∧ o < 0x8000 ∧ e = 0x27 then Dev.histBlob d (binLat (o - 0x4000) 0)
  else if 0x4000 ≤ o ∧ o < 0x8000 ∧ e = 0x28 then Dev.histBlob d (binDepth (o - 0x4000) 0)
  else Dev.blob d k

end Sys2Proof.Machine
end

