-- ==== Sys2Proof/Machine/Crypto.lean ====
section
/-! DEFINITION. SHA-384 (FIPS 180-4) and the verification of ECDSA P-384 signatures (FIPS 186-5), as R428 and R429 use
them. -/
namespace Sys2Proof.Machine

/-- floor of the k-th root of x, for roots below 2^bits. -/
def nthRoot (k x : Nat) : Nat → Nat → Nat
  | 0, r => r
  | b + 1, r => nthRoot k x b (if (r + 2 ^ b) ^ k ≤ x then r + 2 ^ b else r)

def isPrime (n : Nat) : Bool := decide (2 ≤ n) && (List.range n).all (fun d => decide (d < 2) || n % d != 0)

/-- The first 80 primes. -/
def primes80 : List Nat := (List.range 410).filter isPrime

def two64 : Nat := 18446744073709551616

/-- Round constants and initial value: the first 64 bits of the fractions of cube and square roots of primes. -/
def shaK : List Nat := primes80.map (fun q => nthRoot 3 (q * 2 ^ 192) 68 0 % two64)
def sha384Init : List Nat := ((primes80.drop 8).take 8).map (fun q => nthRoot 2 (q * 2 ^ 128) 70 0 % two64)

def rotr64 (x n : Nat) : Nat := (x / 2 ^ n + x * 2 ^ (64 - n)) % two64

/-- The message schedule: `w` holds the last 16 words, newest first. -/
def shaWords : Nat → List Nat → List Nat → List Nat
  | 0, _, out => out
  | n + 1, w, out =>
    let g (i : Nat) : Nat := w[i - 1]?.getD 0
    let s0 := rotr64 (g 15) 1 ^^^ rotr64 (g 15) 8 ^^^ g 15 / 2 ^ 7
    let s1 := rotr64 (g 2) 19 ^^^ rotr64 (g 2) 61 ^^^ g 2 / 2 ^ 6
    let x := (g 16 + s0 + g 7 + s1) % two64
    shaWords n (x :: w.take 15) (out ++ [x])

/-- One round on (a, ..., h) with a round constant and a word. -/
def shaRound (s : List Nat) (kw : Nat × Nat) : List Nat :=
  match s with
  | [a, b, c, d, e, f, g, h] =>
    let s1 := rotr64 e 14 ^^^ rotr64 e 18 ^^^ rotr64 e 41
    let ch := (e &&& f) ^^^ ((two64 - 1 - e) &&& g)
    let t1 := h + s1 + ch + kw.1 + kw.2
    let s0 := rotr64 a 28 ^^^ rotr64 a 34 ^^^ rotr64 a 39
    let mj := (a &&& b) ^^^ (a &&& c) ^^^ (b &&& c)
    [(t1 + s0 + mj) % two64, a, b, c, (d + t1) % two64, e, f, g]
  | _ => s

/-- Consecutive groups of n bytes, k of them. -/
def groupsOf (n : Nat) : Nat → List Byte → List (List Byte)
  | 0, _ => []
  | k + 1, bs => bs.take n :: groupsOf n k (bs.drop n)

def shaBlock (h : List Nat) (blk : List Byte) : List Nat :=
  let w := (groupsOf 8 16 blk).map beNat
  let ws := shaWords 64 w.reverse w
  let r := (List.zip shaK ws).foldl shaRound h
  (List.zip h r).map (fun x => (x.1 + x.2) % two64)

/-- SHA-384 of a byte string, as a number. -/
def sha384 (m : List Byte) : Nat :=
  let pad := m ++ (0x80 : Byte) :: zeros ((112 + 128 - (m.length + 1) % 128) % 128) ++ beBytes 16 (m.length * 8)
  let h := (groupsOf 128 (pad.length / 128) pad).foldl shaBlock sha384Init
  (h.take 6).foldl (fun a x => a * two64 + x) 0

/-! The curve P-384. -/

def p384 : Nat := 2 ^ 384 - 2 ^ 128 - 2 ^ 96 + 2 ^ 32 - 1
def n384 : Nat := 0xFFFFFFFFFFFFFFFFFFFFFFFFFFFFFFFFFFFFFFFFFFFFFFFFC7634D81F4372DDF581A0DB248B0A77AECEC196ACCC52973
def b384 : Nat := 0xB3312FA7E23EE7E4988E056BE3F82D19181D9C6EFE8141120314088F5013875AC656398D8A2ED19D2A85C8EDD3EC2AEF
def g384 : Nat × Nat :=
  (0xAA87CA22BE8B05378EB1C71EF320AD746E1D3B628BA79B9859F741E082542A385502F25DBF55296C3A545E3872760AB7,
   0x3617DE4A96262C6F5D9E98BF9292DC29F8F41DBD289A147CE9DA3113B5F0B8C00A60B1CE1D7E819D7A431D7C90EA0E5F)

/-- b^e mod m over the low bits of e. -/
def powMod (m : Nat) : Nat → Nat → Nat → Nat → Nat
  | 0, _, _, r => r
  | k + 1, b, e, r => powMod m k (b * b % m) (e / 2) (if e % 2 = 1 then r * b % m else r)

/-- The inverse modulo a prime below 2^384. -/
def invMod (x m : Nat) : Nat := powMod m 384 (x % m) (m - 2) 1

/-- Sum of two points; `none` is the point at infinity. -/
def ecAdd : Option (Nat × Nat) → Option (Nat × Nat) → Option (Nat × Nat)
  | none, q => q
  | p, none => p
  | some (x1, y1), some (x2, y2) =>
    let slope :=
      if x1 = x2 then
        if (y1 + y2) % p384 = 0 then none
        else some ((3 * x1 * x1 + p384 - 3) * invMod (2 * y1) p384 % p384)
      else some ((y2 + p384 - y1) * invMod (x2 + p384 - x1) p384 % p384)
    match slope with
    | none => none
    | some l =>
      let x := (l * l + 2 * p384 - x1 - x2) % p384
      some (x, (l * (x1 + p384 - x) + p384 - y1) % p384)

/-- k times a point, over the low bits of k. -/
def ecMul : Nat → Nat → Option (Nat × Nat) → Option (Nat × Nat) → Option (Nat × Nat)
  | 0, _, _, acc => acc
  | n + 1, k, p, acc => ecMul n (k / 2) (ecAdd p p) (if k % 2 = 1 then ecAdd acc p else acc)

/-- Whether (r, s) signs the digest z under the public key (x, y). -/
def ecdsaOk (x y z r s : Nat) : Bool :=
  let onCurve := decide (x < p384) && decide (y < p384) && (y * y) % p384 == (x * x * x + (p384 - 3) * x + b384) % p384
  if onCurve && decide (0 < r) && decide (r < n384) && decide (0 < s) && decide (s < n384) then
    let w := invMod s n384
    let q := ecAdd (ecMul 384 (z * w % n384) (some g384) none) (ecMul 384 (r * w % n384) (some (x, y)) none)
    match q with
    | some (qx, _) => qx % n384 == r
    | none => false
  else false

end Sys2Proof.Machine
end

