-- ==== Sys2Proof/Machine/Errors.lean ====
section
/-! DEFINITION. Errors: the scrubs of banks and shadow copies, fatal conditions, crash records, service life, exhaustion,
the reference clock (Errors, service life and exhaustion). -/
namespace Sys2Proof.Machine

/-! Bank words (R503, R504). -/

def Dev.bankScrub (d : Dev) (ws : List BankWord) : Dev := 
  ws.foldl (fun d w => Dev.bankWord d w.pipe w.bank w.sect w.index w.both) d

/-! Shadow copies (R505). -/

/-- After a write of queue n's shaper, whose rate code was `old` (R249). -/
def Dev.qShaperWritten (d : Dev) (n old : Nat) : Dev :=
  let k := Dev.qRate d n
  let d := if old = 0 ∧ k ≠ 0 then Dev.setQueue d n { Dev.queue d n with shE := Dev.now d } else d
  let d := if k = 0 then Dev.wheelDel d (portPipe (qPort n)) (ownQueue n) else Dev.qShaperMoved d n
  Dev.recontend d n

/-- After a write of port p's shaper (R249, R250). -/
def Dev.pShaperWritten (d : Dev) (p old : Nat) : Dev :=
  let k := Dev.pRate d p
  let d := if old = 0 ∧ k ≠ 0 then Dev.setPort d p { Dev.port d p with shE := Dev.now d } else d
  let d := if k = 0 then Dev.wheelDel d (portPipe p) (ownPort p)
    else Dev.wheelMove d (portPipe p) (ownPort p) k (Dev.port d p).shE (shCost (Dev.pBurst d p) k)
  Dev.recontendPort d p

/-- The rate code of a queue's or a port's shaper goes to 0. -/
def Dev.qRateZero (d : Dev) (n : Nat) : Dev :=
  let old := Dev.qRate d n
  let d := if qFront n then Dev.setEl d (K.eqShaperRate n) 0
           else Dev.setEl d (K.iqSched (qInt n) (qIdx n)) (putBits (Dev.iqSched d n) 14 25 0)
  Dev.qShaperWritten d n old

def Dev.pRateZero (d : Dev) (p : Nat) : Dev :=
  let old := Dev.pRate d p
  let k := if p < 1024 then K.schedPortCfg (p / 16) (p % 16) else K.iqPortSched (p - 1024)
  Dev.pShaperWritten (Dev.setEl d k (putBits (Dev.el d k) 0 25 0)) p old

/-- An entry whose shadow is uncorrectable too is invalidated in all its copies (R505). -/
def Dev.invalidateUnit (d : Dev) : ShadowUnit → Dev
  | .winnow p r => Dev.setTbl d { d.tbl with win := d.tbl.win.filter (fun x => !(x.pipe == p.val && x.rule == r.val)) }
  | .tcam e => Dev.setTbl d { d.tbl with tcam := d.tbl.tcam.filter (fun x => x.entry != e.val) }
  | .mcList g => Dev.mcPut d g.val []
  | .policer i => Dev.setPolicer d i.val { Dev.policer d i.val with cfg := putBits (Dev.policer d i.val).cfg 0 25 0 }
  | .qShaper n => Dev.qRateZero d n.val
  | .pShaper p => Dev.pRateZero d p.val

/-- The index that the log names for a unit. -/
def ShadowUnit.index : ShadowUnit → Nat
  | .winnow p r => p.val * 2 ^ 16 + r.val
  | .tcam e => e.val
  | .mcList g => g.val
  | .policer i => i.val
  | .qShaper n => n.val
  | .pShaper p => p.val

/-- The chapter of a unit's structure (R501). -/
def ShadowUnit.chapter : ShadowUnit → Nat
  | .winnow _ _ | .tcam _ => 4
  | .mcList _ => 6
  | .policer _ | .qShaper _ | .pShaper _ => 8

/-- A bad live word: repaired from its shadow, or invalidated and logged (R505). -/
def Dev.shadowWord (d : Dev) (u : ShadowUnit × Bool) : Dev :=
  let d := Dev.count d K.errShadowRepairs 1
  if u.2 then Dev.containedF (Dev.invalidateUnit d u.1) (ShadowUnit.chapter u.1) 0x0D00 0x09 (ShadowUnit.index u.1)
  else Dev.corrected d 0x0D00 0x09 1

def Dev.shadowScrub (d : Dev) (us : List (ShadowUnit × Bool)) : Dev := us.foldl Dev.shadowWord d

/-! Fatal conditions (R509). -/

/-- Whether the condition of bit b holds now. Bits 7 and 8 name an event at start and no condition that goes on (DEDUCED,
log 25). -/
def Dev.fatalHolds (d : Dev) (b : Nat) : Bool :=
  match b with
  | 0 => Dev.el d K.granState == 3
  | 1 => (d.fw.hold && d.fw.restarting) || d.fw.booted == some 2
  | 4 => d.rst.refBad
  | 5 => (List.range 16).any (fun t => !Dev.rouriOk d t)
  | _ => bit d.err.sticky b

/-- Chapter, object, element and unit that the log entry of bit b names. -/
def Dev.fatalSource (d : Dev) (b : Nat) : Nat × Nat × Nat × Nat :=
  match b with
  | 0 => (7, 0x0A00, 0x01, 0)
  | 1 => (15, 0x0300, 0x01, 0)
  | 2 => (6, 0x0900, 0x08, 0)
  | 3 => (15, 0x0300, 0x04, 0)
  | 4 => (18, 0x0102, 0x02, 0)
  | 5 =>
    let t := ((List.range 16).find? (fun t => !Dev.rouriOk d t)).getD 0
    (2, 0x0180 + t, 0x06, t)
  | 6 => (13, 0x0003, 0x01, 0)
  | 7 => (16, 0x0203, 0x07, 0)
  | _ => (16, 0x0201, 0x04, 1)

/-- Set bit b with its event, log entry, notice and crash record. -/
def Dev.setFatal (d : Dev) (b : Nat) : Dev :=
  let x := Dev.fatalSource d b
  Dev.fatal d b x.1 x.2.1 x.2.2.1 x.2.2.2

/-- Each second a bit whose condition holds is set again (R509). -/
def Dev.fatalCheck (d : Dev) : Dev :=
  (List.range 9).foldl (fun d b => if Dev.fatalHolds d b && !bit (Dev.el d K.errFatal) b then Dev.setFatal d b else d) d

/-- Writing 1 to a bit clears it (R509). -/
def Dev.fatalClear (d : Dev) (m : Nat) : Dev :=
  let v := Dev.el d K.errFatal
  Dev.setEl d K.errFatal (v - (v &&& m))

/-! Crash records (R510). -/

/-- Records that the crash region holds: 16,384 for each GiB of the layout, less the part on stacks out of service. -/
def Dev.crashRoom (d : Dev) : Nat := bits (Dev.elIn d K.granRegionLayout) 24 8 * 16384 * (Dev.inService d).length / 16

/-- The 65,536 bytes of a record (Table 5): the register state of the cores and the firmware's trace are free (log 26). -/
def crashBytes (c : CrashRec) : List Byte :=
  let seq := leNat (slice c.hdr 8 8)
  c.hdr ++ leBytes 8192 (Config.freeAt 4 seq)
    ++ (c.log.flatMap (leBytes 32) ++ zeros 8192).take 8192
    ++ (c.notices.flatMap (leBytes 64) ++ zeros 32768).take 32768
    ++ leBytes 16128 (Config.freeAt 5 seq)

/-- Read the record that err.crash.index names; the status. -/
def Dev.crashRead (d : Dev) : Dev × Nat :=
  let i := Dev.el d K.errCrashIndex
  match SMap.find d.err.crashes i with
  | some c =>
    if Dev.granUp d && decide (Dev.el d K.errCrashCount ≤ i + Dev.crashRoom d) then
      (Dev.setBlob d K.errCrashRecord (crashBytes c), 0)
    else (d, 2)
  | none => (d, 2)

/-! Service life (R502, R514). -/

/-- A power, and the 1000 of the exponent's scale. -/
def powNat (b n : Nat) : Nat := b ^ n
def milli : Nat := 1000

/-- floor(2^(32 + x / 1000)) for x from -32,000 on, by bisection of its 1000th power (log 27). -/
def pow2Milli (x : Int) : Nat :=
  let target := 2 ^ (32000 + x).toNat
  (List.range 80).foldl (fun m i =>
    let t := m + 2 ^ (79 - i)
    if powNat t milli ≤ target then t else m) 0

/-- Equivalent hours of an hour at a mean of t in 0.01 °C, in 2^-32 h: at least a quarter (R514). -/
def equivHour (t : Int) : Nat :=
  let x := t - 8500
  if x ≤ -2000 then 2 ^ 30 else pow2Milli (min x 30000)

/-- A powered hour ends. -/
def Dev.lifeHour (d : Dev) : Dev :=
  let mean := if d.err.hourN = 0 then Dev.elS d 32 K.thmMax else Int.fdiv d.err.hourSum d.err.hourN
  let acc := d.err.lifeAcc + equivHour mean
  let d := { d with err := { d.err with lifeAcc := acc, hourSum := 0, hourN := 0, corrHour := [], corrNoted := [] } }
  let d := Dev.setEl (Dev.addEl d 32 K.lifePowerOnH 1) K.errLifeEquivH (acc / 2 ^ 32 % 2 ^ 32)
  let d := Dev.persistPart d K.lifePowerOnH (leBytes 4 (Dev.el d K.lifePowerOnH))
  Dev.persistPart d K.errLifeEquivH (leBytes 12 acc)

/-! Exhaustion (R515). -/

/-- Parts of a whole in 0.01%. -/
def pct (n m : Nat) : Nat := if m = 0 then 0 else n * 10000 / m

/-- What row r of Table 9 has in use, each with the whole that it is a part of: the utilisation is the greatest of these parts.
Rows 4 and 6 have none. -/
def Dev.inUse (d : Dev) (r : Nat) : List (Nat × Nat) :=
  match r with
  | 0 => [((Dev.liveTables d K.tblEmUsed).getD 0, 4194304)]
  | 1 => [(d.tbl.members.length, 1048576), ((Dev.liveTables d K.tblSlotUsed).getD 0, 2097152)]
  | 2 => (List.range 4).map (fun b => (Dev.el d (K.tallyUsed b), 1048576))
  | 3 => [(1048576 - Dev.el d K.mcEntriesFree, 1048576), ((d.sched.policers.filter (fun x => polRate x.2.cfg != 0)).length, 65536)]
  | 5 => (d.tel.stats.filter (fun x => x.1 % 32 == 1 || x.1 % 32 == 14)).map (fun x => (x.2, 2 ^ 64))
  | 7 => [(Dev.el d K.fwArbFused + Dev.el d K.fwArbSpoiled, 128)]
  | 8 => [(Dev.el d K.cfgsEraseMax, 20000)]
  | 9 =>
    let whole := 3072 * (Dev.inService d).length
    [(whole - Dev.el d K.granReserveFree, whole)]
  | 10 => (List.range 16).flatMap (fun t => [(Dev.el d (kSpares t 0), 8), (Dev.el d (kSpares t 1), 8)])
  | 11 => [(2016 - Dev.vecFree d 0, 2016), (2016 - Dev.vecFree d 1, 2016)]
  | _ => []

/-- Utilisation of row r in 0.01%. -/
def Dev.util (d : Dev) (r : Nat) : Nat := (Dev.inUse d r).foldl (fun m x => max m (pct x.1 x.2)) 0

/-- The utilisation of row r is at least w percent. -/
def Dev.utilAt (d : Dev) (r w : Nat) : Bool := (Dev.inUse d r).any (fun x => decide (0 < x.2 ∧ w * x.2 ≤ 100 * x.1))

/-- Whether the day of row r has come: noted since the last check, or seen in its counts. -/
def Dev.dayCome (d : Dev) (r : Nat) : Bool :=
  d.err.days.contains r || (r == 7 && decide (128 ≤ Dev.el d K.fwArbFused + Dev.el d K.fwArbSpoiled))
    || (r == 8 && decide (20000 ≤ Dev.el d K.cfgsEraseMax))

/-- Check one row. -/
def Dev.exhaustRow (d : Dev) (r : Nat) : Dev :=
  if r = 4 ∨ r = 6 then d
  else
    let u := Dev.util d r
    let w := Dev.el d K.errExhaustWarnPct
    let st := SMap.get d.err.exState r 0
    let note (d : Dev) (code : Nat) : Dev :=
      Dev.notice (Dev.addEl d 32 K.errExhaustEvents 1) 2 18 code (r + u % 2 ^ 16 * 2 ^ 8)
    let set (d : Dev) (v : Nat) : Dev := { d with err := { d.err with exState := SMap.set d.err.exState r v 0 } }
    let d := { d with err := { d.err with exUtil := SMap.set d.err.exUtil r (min u 0xFFFF) 0 } }
    if st ≠ 2 ∧ Dev.dayCome d r then note (set d 2) 5
    else if st = 0 ∧ Dev.utilAt d r w then note (set d 1) 4
    else if st ≠ 0 ∧ Dev.utilAt d r (w - 5) = false ∧ Dev.dayCome d r = false then set d 0
    else d

def Dev.exhaustCheck (d : Dev) : Dev :=
  let d := (List.range 12).foldl Dev.exhaustRow d
  { d with err := { d.err with days := [] } }

/-! The reference clock (R508). -/

/-- The root PLL enters holdover: every clock runs on. -/
def Dev.refFault (d : Dev) : Dev :=
  if d.rst.refBad then d
  else
    let d := { d with rst := { d.rst with refBad := true } }
    Dev.setFatal (Dev.setEl (Dev.addEl d 32 K.clkRefFaults 1) K.clkRootLocked 0) 4

/-- The reference has returned and the PLL has relocked. -/
def Dev.refReturn (d : Dev) : Dev :=
  if d.rst.refBad then Dev.setEl { d with rst := { d.rst with refBad := false } } K.clkRootLocked 1 else d

/-! Meanings. -/

def execBankScrub (words : List BankWord) : State → Host.Outcome State Fault Refusal :=
  lift (fun d => Dev.bankScrub d words)
def execShadowScrub (units : List (ShadowUnit × Bool)) : State → Host.Outcome State Fault Refusal :=
  lift (fun d => Dev.shadowScrub d units)
def execFatalCheck : State → Host.Outcome State Fault Refusal := lift Dev.fatalCheck
def execExhaustCheck : State → Host.Outcome State Fault Refusal := lift Dev.exhaustCheck
def execLifeHour : State → Host.Outcome State Fault Refusal := lift Dev.lifeHour

/-- REF_CLOCK_FAULT: the reference has no edge for 100 ns, or departs by more than 200 ppm from its frequency (R508, R530). -/
def execRefClockFault (idleNs : Nat) (ppm : Int) : State → Host.Outcome State Fault Refusal :=
  liftB (fun d => if 100 ≤ idleNs ∨ 200 < ppm.natAbs then Dev.refFault d else d)
def execRefClockReturn : State → Host.Outcome State Fault Refusal := liftB Dev.refReturn

end Sys2Proof.Machine
end

