-- ==== Sys2Proof/Machine/Energy.lean ====
section
/-! DEFINITION. The rails of pwr.rail and the activity model: what each owner of energy did since the last reading, and its
modelled share (R458, R471, R472; log 178). -/
namespace Sys2Proof.Machine

/-! The entries of pwr.rail in force, and their fields (R458, Table 4). -/

def Dev.rails (d : Dev) : List Nat :=
  (List.range ((Dev.blobIn d K.pwrRail).length / 8)).map (fun i => leNat (slice (Dev.blobIn d K.pwrRail) (8 * i) 8))
def railAddr (e : Nat) : Nat := bits e 0 7
def railPage (e : Nat) : Nat := bits e 8 8
def railDomains (e : Nat) : Nat := bits e 16 24
def railMethod (e : Nat) : Nat := bits e 40 2
def railAvs (e : Nat) : Bool := bit e 42

/-- The entry that feeds domain dm; 16 while pwr.rail holds none. -/
def Dev.railOf (d : Dev) (dm : Nat) : Nat :=
  (((List.zip (List.range 16) (Dev.rails d)).find? (fun x => railAddr x.2 != 0 && bit (railDomains x.2) dm)).map (fun x => x.1)).getD 16

/-! The activity model (R471, Table 6). -/

/-- A share that the model gives an owner for the last millisecond: its rail, its domain and its energy in nJ. -/
structure ModelShare where
  rail : Nat
  domain : Nat
  owner : EnergyOwner
  nJ : Nat
  deriving DecidableEq, Repr

/-- The model's fused coefficients (R472): pJ for one unit of an activity, nJ a millisecond for what a domain draws while it is
on. -/
def energyCoef (k : Nat) : Nat := Config.fuse (2 ^ 27 + k)
def Dev.staticNj (d : Dev) (dm : Nat) : Nat := if Dev.domain d dm = 1 then Config.fuse (2 ^ 28 + dm) else 0

/-- The coefficient of an event of a block: one for all blocks of a kind. -/
def eventCoef (k : Nat) : Nat :=
  let b := k / 2 ^ 8
  energyCoef ((if b < 0x20 then b / 16 * 16 else if 0x30 ≤ b then 0x30 else b) * 2 ^ 8 + k % 2 ^ 8)

def Dev.share (d : Dev) (o : EnergyOwner) (dm nJ : Nat) : ModelShare := { rail := Dev.railOf d dm, domain := dm, owner := o, nJ := nJ }

def pipeOwner (n : Nat) : EnergyOwner := .pipe (Fin.ofNat 16 n)

/-- The owner of what queue n causes: the queue, or the pipeline of an internal port. -/
def queueOwner (n : Nat) : EnergyOwner :=
  if h : n < 16384 then .queue ⟨n, h⟩ else pipeOwner (portPipe (qPort n))

/-- The share of one count of activity, by its key (`Dev.act`): events of a block, bytes of a port, which cross its
tile's Rouri link, cells of a queue, bales of a queue in a half of the granary; `none` for what is counted under another key.
A port's own share of its bytes goes with its lanes. -/
def Dev.actShare (d : Dev) (k n : Nat) : Option ModelShare :=
  if k < 2 ^ 14 then
    let b := k / 2 ^ 8
    let nJ := eventCoef k * n / 1000
    if b < 0x20 ∨ 0x30 ≤ b then some (Dev.share d (pipeOwner (b % 16)) (2 + b % 16 / 4) nJ)
    else if 0x24 ≤ b ∧ b ≠ 0x25 ∧ b ≠ 0x26 ∧ b ≠ 0x27 then some (Dev.share d .device 1 nJ)
    else none
  else if k < 2 ^ 20 then
    let p := k - 2 ^ 16
    if p < 1024 then some (Dev.share d (pipeOwner (p / 64)) (2 + p / 256) (energyCoef (2 ^ 17) * n / 1000)) else none
  else if k < 2 ^ 21 then some (Dev.share d (queueOwner (k % 2 ^ 16)) 1 (energyCoef (2 ^ 20) * n / 1000))
  else some (Dev.share d (queueOwner (k % 2 ^ 16)) (22 + k / 2 ^ 16 % 2) (energyCoef (2 ^ 21) * n / 1000))

/-- The shares of tile t: each port's lane power (Table 2 of the lanes), its MAC, FEC and PCS bytes, and its lanes' part of the
tile's static power; unused lanes and what is left are the device's. -/
def Dev.tileShares (d : Dev) (t : Nat) : List ModelShare :=
  let dm := 6 + t
  if Dev.domain d dm ≠ 1 then []
  else
    let ps := Dev.tileAdmin d t
    let st := Dev.staticNj d dm
    let used := ps.foldl (fun n p => n + Dev.portWidth d p) 0
    let shares := ps.map (fun p => st * Dev.portWidth d p / 64)
    (List.zip ps shares).map (fun x => Dev.share d (.port (Fin.ofNat 1024 x.1)) dm
        (Dev.portPower d x.1 * 1000 + energyCoef (2 ^ 16) * SMap.get d.tel.acts (actPort x.1) 0 / 1000 + x.2))
      ++ [Dev.share d .device dm ((64 - used) * 5 * 1000 + (st - shares.foldl (· + ·) 0))]

/-- Every share of the last millisecond: tiles, activity, a quarter of its quad's static power for each pipeline, and what is left
for the device. -/
def Dev.modelShares (d : Dev) : List ModelShare :=
  (List.range 16).flatMap (Dev.tileShares d)
    ++ d.tel.acts.filterMap (fun x => Dev.actShare d x.1 x.2)
    ++ (List.range 16).map (fun n => Dev.share d (pipeOwner n) (2 + n / 4) (Dev.staticNj d (2 + n / 4) / 4))
    ++ (List.range 4).map (fun k => Dev.share d .device (2 + k) (Dev.staticNj d (2 + k) % 4))
    ++ [0, 1, 22, 23].map (fun dm => Dev.share d .device dm (Dev.staticNj d dm))

end Sys2Proof.Machine
end

