-- ==== Sys2Proof/Machine/Power.lean ====
section
/-! DEFINITION. Power, temperature and ageing: the cap loop and the shedding ladder, rails and energy, sensors and the trip,
ageing trim, supplies (Power, thermal and ageing). -/
namespace Sys2Proof.Machine

/-! The shedding ladder (R464 to R470). -/

/-- The stage of a level (R464, Table 5). -/
def shedStage (l : Nat) : Nat := if l = 0 then 0 else if l ≤ 4 then 1 else if l ≤ 8 then 2 else if l = 9 then 3 else 4

/-- The limits of level L: postcards, spill writes, pipeline clock. -/
def Dev.pcLimitAt (d : Dev) (l : Nat) : Nat :=
  let x := Dev.el d K.telPcLimit
  min x (max (Dev.el d K.pwrShedPcFloor) (x * (4 - min l 4) / 4))
def Dev.spillLimitAt (d : Dev) (l : Nat) : Nat :=
  if l ≤ 4 then 6400 else max (Dev.el d K.pwrShedSpillFloor) (6400 - 1600 * min (l - 4) 4)
def clockAt (l : Nat) : Nat := if 10 ≤ l then 25 - l else 16

/-- Bring the limits to the level in force. -/
def Dev.shedApply (d : Dev) : Dev :=
  let l := Dev.el d K.pwrShedLevel
  let d := Dev.settleTcam (Dev.settleCards d)
  Dev.setEl (Dev.setEl (Dev.setEl d K.telPcLimitEff (Dev.pcLimitAt d l)) K.pwrSpillLimitGbps (Dev.spillLimitAt d l))
    K.pwrClockSixteenths (clockAt l)

/-- The detail of notices 0x0001 to 0x0003 (R487, Table 9). -/
def Dev.levelDetail (d : Dev) (code old : Nat) : Nat :=
  old + Dev.el d K.pwrShedLevel * 2 ^ 8 + Dev.el d K.pwrShedCause * 2 ^ 16 + Dev.el d K.pwrClockSixteenths * 2 ^ 24
    + Dev.el d K.pwrNowMw % 2 ^ 32 * 2 ^ 32
    + (if code = 2 then Dev.el d K.thmMax % 2 ^ 16 * 2 ^ 64 + Dev.el d K.thmMaxSensor * 2 ^ 80 else Dev.el d K.pwrCapW * 2 ^ 64)

/-- The level in force follows the cap and thermal levels; a change between stages is announced (R461, R470, R481). -/
def Dev.relevel (d : Dev) (code : Nat) : Dev :=
  let old := Dev.el d K.pwrShedLevel
  let th := Dev.el d K.thmLevel
  let new := max d.pwr.capLevel th
  let cause := b2n (decide (d.pwr.capLevel ≠ 0)) + 2 * b2n (decide (th ≠ 0))
  let d := Dev.setEl d K.pwrShedCause cause
  if new = old then d
  else
    let d := Dev.shedApply (Dev.setEl (Dev.addEl d 32 K.pwrShedEvents 1) K.pwrShedLevel new)
    let d := if (9 ≤ old) ≠ (9 ≤ new) then (List.range 16).foldl Dev.tileLanes d else d
    if shedStage old = shedStage new then d
    else Dev.notice (Dev.raise d 8) 8 16 code (Dev.levelDetail d code old)

/-! The cap loop (R461). `preds` is what the activity model predicts at each level, in mW. -/

def Dev.capStep (d : Dev) (preds : List Nat) : Dev :=
  let p := Dev.el d K.pwrNowMw * 100
  let cap := Dev.el d K.pwrCapW * 1000
  let m := Dev.el d K.pwrMarginPct
  let pred (l : Nat) : Nat := (preds[l]?.getD (Dev.el d K.pwrNowMw)) * 100
  let cl := d.pwr.capLevel
  let top := Dev.el d K.pwrShedMaxLevel
  let set (d : Dev) (l q : Nat) (u : Bool) : Dev :=
    Dev.setEl { d with pwr := { d.pwr with capLevel := l, quiet := q } } K.pwrCapUnmet (b2n u)
  let unmet := Dev.el d K.pwrCapUnmet == 1
  let d := if 1 ≤ Dev.el d K.pwrShedLevel then Dev.count d K.pwrShedTimeMs 1 else d
  if cap * (100 - m) < p then
    match (List.range 18).find? (fun l => decide (cl < l ∧ l ≤ top ∧ pred l ≤ cap * (100 - m))) with
    | some l => Dev.relevel (set d l 0 false) 1
    | none =>
      let old := Dev.el d K.pwrShedLevel
      let d := Dev.relevel (set d top 0 true) 1
      if unmet then d else Dev.notice (Dev.raise d 8) 8 16 3 (Dev.levelDetail d 3 old)
  else if 0 < cl ∧ pred (cl - 1) ≤ cap * (100 - 2 * m) then
    if 10 ≤ d.pwr.quiet + 1 then Dev.relevel (set d (cl - 1) 0 unmet) 1 else set d cl (d.pwr.quiet + 1) unmet
  else Dev.relevel (set d cl 0 false) 1

/-! The thermal loop (R481). -/

def Dev.thermalStep (d : Dev) : Dev :=
  let t := Dev.elS d 32 K.thmMax
  let hot : Int := Dev.el d K.thmThrottleC * 100
  let l := Dev.el d K.thmLevel
  let set (d : Dev) (l c : Nat) : Dev := Dev.setEl { d with pwr := { d.pwr with cool := c } } K.thmLevel l
  if hot ≤ t then Dev.relevel (set d (min 17 (l + 1)) 0) 2
  else if t ≤ hot - Dev.el d K.thmHystC * 100 then
    if 10 ≤ d.pwr.cool + 1 then Dev.relevel (set d (l - 1) 0) 2 else set d l (d.pwr.cool + 1)
  else set d l 0

/-! Rails and energy (R458 to R460, R471). -/

def Dev.railState (d : Dev) (i : Nat) : Nat := byteAt (Dev.blob d K.pwrRailState) i
def Dev.setRailState (d : Dev) (i v : Nat) : Dev :=
  Dev.setBlob d K.pwrRailState (splice (Dev.blob d K.pwrRailState) i [BitVec.ofNat 8 v])

def Dev.setRuns (d : Dev) (i f o : Nat) : Dev :=
  { d with pwr := { d.pwr with fails := SMap.set d.pwr.fails i f 0, oks := SMap.set d.pwr.oks i o 0 } }

/-- An answer of rail i, which leaves it in state `st`: a failed rail needs ten in a row, and is announced then (R459). -/
def Dev.railAnswers (d : Dev) (i st : Nat) (e : Option Nat) : Dev × Option Nat :=
  if Dev.railState d i = 2 then
    let o := SMap.get d.pwr.oks i 0 + 1
    if o < 10 then (Dev.setRuns d i 0 o, none)
    else (Dev.notice (Dev.raise (Dev.setRailState (Dev.setRuns d i 0 0) i st) 8) 8 16 7 i, e)
  else (Dev.setRuns (Dev.setRailState d i st) i 0 0, e)

/-- The energy in nJ that an answer brings: for method 0 what was accumulated since the previous read, which a first read does not
have yet, all of it where the regulator has begun anew (log 178); for method 1 voltage × current over 1 ms (R459). -/
def Dev.railEnergy (d : Dev) (i e eout mV mA : Nat) : Option Nat :=
  if railMethod e = 0 then
    (SMap.find d.pwr.eout i).map (fun old => if old ≤ eout then eout - old else eout)
  else some (mV * mA)

/-- One read of entry i: the measured energy, where it counts (R459). -/
def Dev.readRail (d : Dev) (i e : Nat) (r : RailRead) : Dev × Option Nat :=
  if railAddr e = 0 ∨ railMethod e = 2 then (d, none)
  else
    match r with
    | .answer eout mV mA =>
      let n := Dev.railEnergy d i e eout mV mA
      Dev.railAnswers { d with pwr := { d.pwr with eout := SMap.ins d.pwr.eout i eout } } i 1 n
    | .noAnswer =>
      let f := SMap.get d.pwr.fails i 0 + 1
      let d := Dev.count (Dev.setRuns d i f 0) K.pwrRailErrors 1
      if f = 10 ∧ Dev.railState d i ≠ 2 then
        (Dev.notice (Dev.raise (Dev.setRailState d i 2) 8) 8 16 7 (i + 2 ^ 4), none)
      else (d, none)
    | .unsupported => Dev.railAnswers d i 3 none

/-- The reads of a millisecond, from entry i on. -/
def Dev.readRails (d : Dev) (i : Nat) : List Nat → List RailRead → Dev × List (Option Nat)
  | [], _ => (d, [])
  | e :: t, rs =>
    let x := Dev.readRail d i e (rs.head?.getD .noAnswer)
    let y := Dev.readRails x.1 (i + 1) t rs.tail
    (y.1, x.2 :: y.2)

/-- The counter of an owner: its element, or a queue of its blob. -/
def Dev.addEnergy (d : Dev) (o : EnergyOwner) (nJ : Nat) : Dev :=
  let id : Nat :=
    match o with
    | .port p => K.pwrEnergyPort (p.val / 16) (p.val % 16)
    | .queue n => 2 ^ 32 + n.val
    | .pipe n => K.pwrEnergyPipe n.val
    | .device => K.pwrEnergyDevice
  let x := SMap.get d.pwr.carry id 0 + nJ
  let d := { d with pwr := { d.pwr with carry := SMap.set d.pwr.carry id (x % 1000) 0 } }
  let d :=
    match o with
    | .queue n => { d with pwr := { d.pwr with
        queueUj := SMap.set d.pwr.queueUj n.val ((SMap.get d.pwr.queueUj n.val 0 + x / 1000) % 2 ^ 64) 0 } }
    | _ => Dev.count d id (x / 1000)
  Dev.count d K.pwrEnergyTotal (x / 1000)

/-- The shares of one rail, scaled to its measured energy; what rounding leaves goes to the device (R471, log 28). -/
def scaleShares (shares : List ModelShare) : Option Nat → List (ModelShare × Nat)
  | none => shares.map (fun s => (s, s.nJ))
  | some e =>
    let sum := shares.foldl (fun n s => n + s.nJ) 0
    let dm := (shares.head?.map (fun s => s.domain)).getD 0
    let xs := if sum = 0 then [] else shares.map (fun s => (s, s.nJ * e / sum))
    xs ++ [({ rail := 16, domain := dm, owner := .device, nJ := 0 }, e - xs.foldl (fun n x => n + x.2) 0)]

/-- RAIL_READ: the flash supply in mV (R444), measured power, the energy of every owner, the margin (R459, R461, R471, R472). -/
def Dev.railRead (d : Dev) (flashMv : Nat) (reads : List RailRead) : Dev :=
  let shares := Dev.modelShares d
  let d := { d with tel := { d.tel with acts := [] } }
  let d := Dev.setEl { d with fw := { d.fw with flashLow := d.fw.flashLow || decide (flashMv < 1710) } } K.fwFlashMv flashMv
  let es := Dev.rails d
  let x := Dev.readRails d 0 es reads
  let d := x.1
  let ok := es.any (fun e => railAddr e != 0) && (List.zip es x.2).all (fun y =>
    railAddr y.1 == 0 || railMethod y.1 == 2 || y.2.isSome)
  let groups := (List.range 17).map (fun i => scaleShares (shares.filter (fun s => s.rail == i)) ((x.2[i]?).join))
  let all := groups.flatten
  let d := all.foldl (fun d y => Dev.addEnergy d y.1.owner y.2) d
  let now := all.foldl (fun n y => n + y.2) 0 / 1000
  let mws := (List.range 24).flatMap (fun k =>
    leBytes 4 (all.foldl (fun n y => if y.1.domain = k then n + y.2 else n) 0 / 1000))
  let w := (now :: d.pwr.window).take 10
  let good := d.pwr.goodMs + b2n ok
  let d := { d with pwr := { d.pwr with window := w, goodMs := good } }
  let d := Dev.setBlob (Dev.setEl (Dev.setEl d K.pwrNowMw (now % 2 ^ 32)) K.pwrWindowMw (w.foldl (· + ·) 0 / w.length % 2 ^ 32))
    K.pwrDomainMw mws
  if 1000 ≤ good then Dev.setEl (Dev.setEl d K.pwrMarginPct 2) K.pwrModelReady 1 else d

/-! Sensors and the trip (R479, R482). -/

/-- The hottest reading and its sensor, the lowest on a tie. -/
def hottest : Nat → List (BitVec 16) → Int × Nat
  | i, [] => (-32768, i)
  | i, [t] => (t.toInt, i)
  | i, t :: u :: r =>
    let x := hottest (i + 1) (u :: r)
    if x.1 ≤ t.toInt then (t.toInt, i) else x

/-- The trip: the latch, the pin, D1 to D23 isolated (R482). -/
def Dev.trip (d : Dev) (s : Nat) (t : Int) : Dev :=
  if d.pwr.tripped then d
  else
    let d := { d with pwr := { d.pwr with tripped := true, latch := some (s, t, Dev.el d K.lifePowerOnH) } }
    let d := (List.range 23).foldl (fun d i => if Dev.domain d (i + 1) = 2 then d else Dev.setDomain d (i + 1) 0) d
    Dev.emit d (.pin .thermtripN false)

/-- Sensor i's run of samples at or above 115 °C. -/
def Dev.hotRun (d : Dev) (i : Nat) (t : Int) : Dev :=
  let n := if 11500 ≤ t then SMap.get d.pwr.hot i 0 + 1 else 0
  let d := { d with pwr := { d.pwr with hot := SMap.set d.pwr.hot i (min n 3) 0 } }
  if 3 ≤ n then Dev.trip d i t else d

/-- SENSOR_SAMPLE: 64 readings in 0.01 °C. -/
def Dev.sensorSample (d : Dev) (temps : List (BitVec 16)) : Dev :=
  let ts := (temps ++ List.replicate 64 0).take 64
  let h := hottest 0 ts
  let d := Dev.setBlob d K.thmTemps (ts.flatMap (fun t => leBytes 2 t.toNat))
  let d := Dev.setEl (Dev.setEl d K.thmMax (unsgn 32 h.1)) K.thmMaxSensor h.2
  let d := if d.pwr.peaked = false ∨ Dev.elS d 32 K.thmPeak < h.1 then Dev.setEl d K.thmPeak (unsgn 32 h.1) else d
  let d := { d with pwr := { d.pwr with sampled := true, peaked := true } }
  let d := { d with err := { d.err with hourSum := d.err.hourSum + h.1, hourN := d.err.hourN + 1 } }
  (List.zip (List.range 64) ts).foldl (fun d x => Dev.hotRun d x.1 x.2.toInt) d

/-- Every sensor reads below 95 °C, in a sample since the cold reset (R483). -/
def Dev.coolEnough (d : Dev) : Bool :=
  d.pwr.sampled && (List.range 64).all (fun i => decide (sgn 16 (leNat (slice (Dev.blob d K.thmTemps) (2 * i) 2)) < 9500))

/-! Ageing trim (R475 to R477). -/

/-- Whether a rail feeds the core die: D0 to D5, D22 or D23. -/
def railCore (e : Nat) : Bool := railDomains e &&& 0xC0003F != 0

/-- The monitors of a rail: 0 to 95 on the core die, 96 + 8n to 103 + 8n on tile n. -/
def railMonitors (e : Nat) : List Nat :=
  (if railCore e then List.range 96 else [])
    ++ (List.range 16).flatMap (fun n => if bit (railDomains e) (6 + n) then (List.range 8).map (96 + 8 * n + ·) else [])

/-- Floor, ceiling in half millivolts (log 29 for a rail of both kinds), and a monitor's raise threshold in ps. -/
def Dev.pointLimits (d : Dev) (e : Nat) : Nat × Nat :=
  let x := Dev.el d K.ageLimits
  if railCore e then (bits x 0 16 * 2, bits x 16 16 * 2) else (bits x 32 16 * 2, bits x 48 16 * 2)
def Dev.raisePs (d : Dev) (m : Nat) : Int :=
  (if m < 96 then bits (Dev.el d K.ageRaisePs) 0 16 else bits (Dev.el d K.ageRaisePs) 16 16 : Nat)

/-- The point of rail entry i: its last stored one, else the fused baseline point. -/
def Dev.point (d : Dev) (i : Nat) : Nat := SMap.get d.pwr.points i (Config.fuse (2 ^ 24 + i) % 2 ^ 17)

/-- Move the point of entry i: the regulator, the part records and age.history. -/
def Dev.movePoint (d : Dev) (i e new : Nat) : Dev :=
  let d := { d with pwr := { d.pwr with points := SMap.ins d.pwr.points i new } }
  let d := Dev.setBlob d K.agePointMv (splice (Dev.blob d K.agePointMv) (2 * i) (leBytes 2 (new / 2)))
  let rec_ := leBytes 8 (Dev.el d K.lifePowerOnH % 2 ^ 32 + i * 2 ^ 32 + new / 2 % 2 ^ 16 * 2 ^ 36)
  let h := Dev.blob d K.ageHistory ++ rec_
  let d := Dev.addEl (Dev.setBlob d K.ageHistory (h.drop (h.length - 512))) 32 K.ageSteps 1
  let d := Dev.persistPart d K.ageHistory (Dev.blob d K.ageHistory)
  let d := Dev.persistPart (Dev.persistPart d K.ageSteps (leBytes 4 (Dev.el d K.ageSteps))) (K.agePointMv + 2 ^ 24 + i) (leBytes 4 new)
  Dev.emit d (.vout (railAddr e) (railPage e) (new + 2 * Dev.el d K.ageGuardMv))

/-- Trim one rail on a report (R476, R477). -/
def Dev.trimRail (d : Dev) (i e : Nat) (slack : Nat → Int) : Dev :=
  let ms := railMonitors e
  if railAddr e = 0 ∨ railAvs e = false ∨ ms.isEmpty then d
  else
    let least := ms.foldl (fun x m => min x (slack m)) 32767
    let low := ms.any (fun m => decide (slack m < Dev.raisePs d m))
    let calm := ms.all (fun m => decide (Dev.raisePs d m + 20 ≤ slack m))
    let n := if calm then min 8640 (SMap.get d.pwr.calm i 0 + 1) else 0
    let d := { d with pwr := { d.pwr with calm := SMap.set d.pwr.calm i n 0 } }
    let lim := Dev.pointLimits d e
    let p := Dev.point d i
    if low then
      if p < lim.2 then Dev.movePoint d i e (min lim.2 (p + 5))
      else if d.pwr.ceiling.contains i then d
      else
        let d := { d with pwr := { d.pwr with ceiling := i :: d.pwr.ceiling } }
        let d := Dev.setEl d K.ageAtCeiling (Dev.el d K.ageAtCeiling ||| 2 ^ i)
        Dev.notice (Dev.contained d 16 4 0x0204 0x08 i) 2 16 4 (i + p / 2 % 2 ^ 16 * 2 ^ 4 + unsgn 16 least * 2 ^ 20)
    else if 8640 ≤ n ∧ lim.1 < p then Dev.movePoint d i e (max lim.1 (p - 5))
    else d

/-- AGEING_REPORT: the slack of the 224 monitors in ps. -/
def Dev.ageingReport (d : Dev) (slacks : List (BitVec 16)) : Dev :=
  let ss := (slacks ++ List.replicate 224 0).take 224
  let d := Dev.setBlob d K.ageSlack (ss.flatMap (fun s => leBytes 2 s.toNat))
  (List.zip (List.range 16) (Dev.rails d)).foldl (fun d x =>
    Dev.trimRail d x.1 x.2 (fun m => ((ss[m]?).getD 0).toInt)) d

/-! Supplies (R452 to R456). -/

/-- The notice and event of a supply lost or restored. -/
def Dev.supplyNote (d : Dev) (dm : Nat) (lost : Bool) : Dev :=
  Dev.notice (Dev.raise d 8) 8 16 6 (dm + b2n lost * 2 ^ 5)

/-- The loss of a supply while the part runs (Table 2). -/
def Dev.supplyLoss (d : Dev) (dm : Nat) : Dev :=
  if Dev.domain d dm = 2 then d
  else if dm = 0 then
    { Dev.setDomain d 0 2 with rst := { d.rst with porst := true, onLost := true }, pwr := { d.pwr with latch := none } }
  else if dm ≤ 5 then
    let lit := !Dev.dark d
    let d := (List.range 5).foldl (fun d i => Dev.setDomain d (i + 1) 2) d
    let d := if lit then Dev.supplyNote d dm true else d
    { d with rst := { d.rst with coreLost := true } }
  else if Dev.dark d then Dev.setDomain d dm 2
  else
    let d := { d with pwr := { d.pwr with owed := d.pwr.owed.erase dm } }
    if dm ≤ 21 then
    let t := dm - 6
    let d := Dev.setDomain d dm 2
    let d := (Dev.tileAdmin d t).foldl (fun d p =>
      if Dev.el d (K.portState p) = 5 then Dev.portDown d p 7
      else Dev.setEl (Dev.setPortState (Dev.setLink d p LinkS.init) p 6) (K.portDownReason p) 7) d
    Dev.supplyNote (Dev.reloadEnd d (.tile t)) dm true
    else
    let ss := (List.range 8).map ((dm - 22) * 8 + ·)
    let d := ss.foldl (fun d s => if (Dev.inService d).contains s then Dev.retire d s 3 false else d) d
    Dev.supplyNote (Dev.setDomain d dm 2) dm true

/-- Domain dm of a tile or of the granary is switched on: a tile's ports bring up again, and granary stacks out of service
stay off (R454 to R456). -/
def Dev.domainOn (d : Dev) (dm : Nat) : Dev :=
  if Dev.domain d dm ≠ 0 then d
  else if dm ≤ 21 then (Dev.tileAdmin d (dm - 6)).foldl Dev.bringUp (Dev.tileOn d (dm - 6))
  else Dev.granPower (Dev.setDomain d dm 1)

/-- A supply becomes good: the power controller turns the domain on, or does so when it has been reloaded (R424); after a loss of
the core supply a cold reset follows. Before D1 is on the domain waits for the start (R454). -/
def Dev.supplyGood (d : Dev) (dm : Nat) : Dev :=
  if Dev.domain d dm ≠ 2 then d
  else if dm = 0 then Dev.setDomain d 0 1
  else if dm ≤ 5 then (List.range 5).foldl (fun d i => Dev.setDomain d (i + 1) 0) d
  else if Dev.dark d then Dev.setDomain d dm 0
  else if Dev.pctlUp d then Dev.supplyNote (Dev.domainOn (Dev.setDomain d dm 0) dm) dm false
  else
    let d := Dev.setDomain d dm 0
    Dev.supplyNote { d with pwr := { d.pwr with owed := d.pwr.owed ++ [dm] } } dm false

/-- A tile without a lane in an admin-up port is switched off (R456). -/
def Dev.tileIdleOff (d : Dev) (t : Nat) : Dev :=
  if Dev.el d K.pwrTileIdleOff ≠ 0 ∧ (Dev.tileAdmin d t).isEmpty ∧ Dev.domain d (6 + t) = 1 ∧ Dev.pctlUp d = true then
    Dev.setDomain d (6 + t) 0
  else d

/-- The power controller turns the domains on whose supplies are good, once every sensor is below 95 °C (R454, R483). -/
def Dev.pctlStart (d : Dev) : Dev :=
  let d := Dev.setDomain d 0 1
  if Dev.coolEnough d then
    (List.range 23).foldl (fun d i => if Dev.domain d (i + 1) = 0 then Dev.setDomain d (i + 1) 1 else d) d
  else d

/-- Samples go on while the power controller keeps D1 to D23 isolated for a hot sensor; a cool one lets it switch them on. -/
def Dev.sampleAll (d : Dev) (temps : List (BitVec 16)) : Dev :=
  let d := Dev.sensorSample d temps
  if d.fw.booted.isSome && Dev.domain d 1 == 0 && !d.pwr.tripped && Dev.pctlUp d then Dev.pctlStart d else d

/-- The power controller has been reloaded: what its actuators had to do meanwhile is done (R424). -/
def Dev.pctlResume (d : Dev) : Dev :=
  let l := d.pwr.owed
  Dev.granPower (l.foldl Dev.domainOn { d with pwr := { d.pwr with owed := [] } })

/-! Meanings. -/

def execCapStep (preds : List Nat) : State → Host.Outcome State Fault Refusal := lift (fun d => if Dev.pctlUp d then Dev.capStep d preds else d)
def execRailRead (flashMv : Fin 65536) (reads : List RailRead) : State → Host.Outcome State Fault Refusal :=
  lift (fun d => if Dev.pctlUp d then Dev.railRead d flashMv reads else d)
def execThermalStep : State → Host.Outcome State Fault Refusal :=
  lift (fun d => if Dev.pctlUp d then Dev.thermalStep d else d)
def execSensorSample (temps : List (BitVec 16)) (s : State) : Host.Outcome State Fault Refusal :=
  lift0 (fun d => if d.rst.porst then d else Dev.sampleAll d temps) s
def execAgeingReport (slacks : List (BitVec 16)) : State → Host.Outcome State Fault Refusal :=
  lift (fun d => if Dev.pctlUp d then Dev.ageingReport d slacks else d)
def execSupplyLoss (dm : Fin 24) : State → Host.Outcome State Fault Refusal := lift0 (fun d => Dev.supplyLoss d dm.val)
def execSupplyGood (dm : Fin 24) : State → Host.Outcome State Fault Refusal := lift0 (fun d => Dev.supplyGood d dm.val)
def execTileIdleOff (t : Fin 16) : State → Host.Outcome State Fault Refusal := lift (fun d => Dev.tileIdleOff d t.val)

end Sys2Proof.Machine
end

