-- ==== Sys2Proof/Machine/Firmware.lean ====
section
/-! DEFINITION. Firmware, boot and update: images and their checks, boot records, the boot ROM, staging, the update
operations, trial, confirmation and revert, the start of a management restart, the flash supply (Firmware, boot and
update). -/
namespace Sys2Proof.Machine

/-! Images (R427 to R429). -/

/-- The header of an image (Table 3), and its entries (Table 4). -/
def imgHdr (bs : List Byte) : Nat := leNat (bs.take 512)
def imgKind (bs : List Byte) : Nat := bits (imgHdr bs) 72 8
def imgKey (bs : List Byte) : Nat := bits (imgHdr bs) 80 2
def imgSize (bs : List Byte) : Nat := bits (imgHdr bs) 96 32
def imgVersion (bs : List Byte) : Nat := bits (imgHdr bs) 128 64
def imgArb (bs : List Byte) : Nat := bits (imgHdr bs) 192 8
def imgCount (bs : List Byte) : Nat := bits (imgHdr bs) 200 8
def imgEntry (bs : List Byte) (i : Nat) : Nat := leNat (slice bs (512 + 64 * i) 64)
def entType (e : Nat) : Nat := bits e 0 8
def entOff (e : Nat) : Nat := bits e 32 32
def entLen (e : Nat) : Nat := bits e 64 32
def imgEntries (bs : List Byte) : List Nat := (List.range (imgCount bs)).map (imgEntry bs)

def imgMax (kind : Nat) : Nat := if kind = 1 then 16777216 else 7864320

/-- The directory meets R428. -/
def dirOk (bs : List Byte) : Bool :=
  let n := imgCount bs
  let es := imgEntries bs
  decide (4 ≤ n ∧ n ≤ 32)
    && es.all (fun e =>
      decide (1 ≤ entType e ∧ entType e ≤ 5) && bits e 8 24 == 0 && bits e 96 32 == 0 && entOff e % 4096 == 0
        && decide (4096 ≤ entOff e) && decide (1 ≤ entLen e) && decide (entOff e + entLen e ≤ imgSize bs))
    && (List.range 32).all (fun i => decide (i < n) || imgEntry bs i == 0)
    && [1, 2, 3, 4].all (fun t => (es.filter (fun e => entType e == t)).length == 1)
    && (List.range n).all (fun i => (List.range i).all (fun j =>
      let a := imgEntry bs i
      let b := imgEntry bs j
      decide (entOff a + entLen a ≤ entOff b ∨ entOff b + entLen b ≤ entOff a)))

def crcOk (bs : List Byte) : Bool := leNat (slice bs 4092 4) == fcs32 (bs.take 4092)

/-- The key meets R429. -/
def Dev.keyOk (d : Dev) (bs : List Byte) : Bool :=
  sha384 (slice bs 32 96) == Config.fuse (2 ^ 25 + imgKey bs) % 2 ^ 384 && !bit (Dev.el d K.fwKeyRevoke) (imgKey bs)

def sigOk (bs : List Byte) : Bool :=
  ecdsaOk (beNat (slice bs 32 48)) (beNat (slice bs 80 48)) (sha384 (bs.take 2560)) (beNat (slice bs 2560 48))
    (beNat (slice bs 2608 48))

def digestsOk (bs : List Byte) : Bool :=
  (imgEntries bs).all (fun e => sha384 (slice bs (entOff e) (entLen e)) == beNat (leBytes 48 (bits e 128 384)))

def magicOk (bs : List Byte) : Bool := bits (imgHdr bs) 0 48 == 0x149574656
def targetOk (bs : List Byte) : Bool := bits (imgHdr bs) 48 24 == 0xA10204
def sizeOk (bs : List Byte) : Bool := decide (4096 ≤ imgSize bs ∧ imgSize bs ≤ imgMax (imgKind bs))

/-- The checks of Table 6 at the first 4,096 bytes, in the order of their codes; 0 when all pass. -/
def Dev.headerReason (d : Dev) (bs : List Byte) : Nat :=
  let k := imgKind bs
  let v := imgVersion bs
  if magicOk bs = false then 1
  else if targetOk bs = false then 2
  else if k ≠ 1 ∧ k ≠ 2 then 3
  else if sizeOk bs = false then 4
  else if v = 0 ∨ (Dev.el d K.fwUpdateDowngrade = 0 ∧ v < Dev.el d K.fwRunningVersion) then 5
  else if imgArb bs < Dev.el d K.fwArbFused then 6
  else if crcOk bs = false then 7
  else if Dev.keyOk d bs = false then 8
  else if dirOk bs = false then 9
  else if Dev.el d K.fwTrial = 1 then 13
  else 0

/-- check(s) of the boot ROM (R433). -/
def Dev.imageOk (d : Dev) (s : Nat) (bs : List Byte) : Bool :=
  crcOk bs && magicOk bs && targetOk bs && imgKind bs == (if s = 2 then 2 else 1) && Dev.keyOk d bs
    && decide (Dev.el d K.fwArbFused ≤ imgArb bs) && dirOk bs && sigOk bs && digestsOk bs

def Dev.image (d : Dev) (s : Nat) : List Byte := SMap.get d.fw.images s []
def Dev.setImage (d : Dev) (s : Nat) (bs : List Byte) : Dev :=
  { d with fw := { d.fw with images := SMap.set d.fw.images s bs [] } }

/-! Boot records (R430, R431). -/

/-- The 256 bytes of a boot record (Table 5). -/
def BootRec.bytes (r : BootRec) : List Byte :=
  let low := r.active + 2 * b2n r.trial + 2 ^ 2 * r.attempts + 2 ^ 4 * r.stA + 2 ^ 7 * r.stB + 2 ^ 10 * r.stR + 2 ^ 16 * r.confirmMin
  let body := leBytes 4 0x52424656 ++ leBytes 4 r.seq ++ leBytes 4 low ++ leBytes 8 r.verA ++ leBytes 8 r.verB ++ leBytes 1 r.arbA
    ++ leBytes 1 r.arbB ++ zeros 222
  body ++ leBytes 4 (fcs32 body)

/-- The record that 256 bytes spell (Table 5). -/
def BootRec.parse (bs : List Byte) : BootRec :=
  let w := leNat bs
  { seq := bits w 32 32, active := bits w 64 1, trial := bit w 65, attempts := bits w 66 2, stA := bits w 68 3, stB := bits w 71 3,
    stR := bits w 74 3, confirmMin := bits w 80 8, verA := bits w 96 64, verB := bits w 160 64, arbA := bits w 224 8,
    arbB := bits w 232 8 }

/-- A record is valid when its magic and CRC are correct (R430). -/
def recordValid (bs : List Byte) : Bool :=
  bs.length == 256 && leNat (bs.take 4) == 0x52424656 && leNat (bs.drop 252) == fcs32 (bs.take 252)

/-- What a sector holds once these bytes stand at its start; no bytes: it is erased. -/
def BootSec.ofBytes (bs : List Byte) : BootSec :=
  if bs.isEmpty then .blank else if recordValid bs then .good (BootRec.parse bs) else .bad bs

/-- The bytes at the start of a sector. -/
def BootSec.bytes : BootSec → List Byte
  | .blank => []
  | .good r => BootRec.bytes r
  | .bad bs => bs

/-- What the boot ROM acts on while neither record is valid. -/
def BootRec.none_ : BootRec :=
  { seq := 0, active := 0, trial := false, attempts := 0, stA := 2, stB := 2, stR := 2, confirmMin := 15, verA := 0,
    verB := 0, arbA := 0, arbB := 0 }

def Dev.bootRec (d : Dev) : BootRec := ((BootSecs.newest d.fw.secs).map (fun x => x.2)).getD BootRec.none_

def BootRec.st (r : BootRec) (s : Nat) : Nat := if s = 0 then r.stA else if s = 1 then r.stB else r.stR
def BootRec.setSt (r : BootRec) (s v : Nat) : BootRec :=
  if s = 0 then { r with stA := v } else if s = 1 then { r with stB := v } else { r with stR := v }
def BootRec.arb (r : BootRec) (s : Nat) : Nat := if s = 0 then r.arbA else r.arbB

/-- The elements of a slot follow the record and the image (R449). -/
def Dev.slotEls (d : Dev) (s : Nat) : Dev :=
  let bs := Dev.image d s
  let held := decide (4096 ≤ bs.length)
  let v (n : Nat) : Nat := if held then n else 0
  let d := Dev.setEl d (K.fwslotState s) ((Dev.bootRec d).st s)
  let d := Dev.setEl (Dev.setEl d (K.fwslotVersion s) (v (imgVersion bs))) (K.fwslotArb s) (v (imgArb bs))
  Dev.setEl (Dev.setEl d (K.fwslotKey s) (v (imgKey bs))) (K.fwslotSize s) (v (imgSize bs))

/-- The sectors with a new record: it goes to the one that does not hold the newest valid record, sector 0 where neither does
(R431, log 159). -/
def BootSecs.put (x : BootSecs) (r : BootRec) : BootSecs :=
  match BootSecs.newest x with
  | some (true, _) => { x with s1 := .good r }
  | _ => { x with s0 := .good r }

/-- A new record takes the place of the older one (R431). A seq past 32 bits, which no flash outlives, is not cut in State
(log 177). -/
def Dev.writeRecord (d : Dev) (r : BootRec) : Dev :=
  let n := (Dev.bootRec d).seq + 1
  let d := { d with fw := { d.fw with secs := BootSecs.put d.fw.secs { r with seq := n } } }
  let d := Dev.setEl (Dev.setEl d K.fwBootRecordSeq (n % 2 ^ 32)) K.fwTrialAttempts r.attempts
  [0, 1, 2].foldl Dev.slotEls d

/-- A revert: the other slot active, the abandoned one failed (R441). -/
def Dev.revert (d : Dev) (cause : Nat) : Dev :=
  let r := Dev.bootRec d
  let r := BootRec.setSt { r with active := 1 - r.active, trial := false, attempts := 0 } r.active 4
  let d := Dev.writeRecord d r
  Dev.setEl { d with fw := { d.fw with crashes := [] } } K.fwLastRevert cause

/-! The boot ROM (R432 to R434). -/

/-- Five management restarts with cause 5 or 8 within 60 minutes on a confirmed slot (R441). -/
def Dev.crashLoop (d : Dev) : Bool :=
  !(Dev.bootRec d).trial
    && decide (5 ≤ (d.fw.crashes.filter (fun t => decide (Dev.freeNs d ≤ t + 3600000000000))).length)

/-- The digest of the component of type t in an image. -/
def imgDigest (bs : List Byte) (t : Nat) : Nat :=
  match (imgEntries bs).find? (fun e => entType e == t) with
  | some e => bits e 128 384
  | none => 0

/-- load_and_start(s). At a management restart the granary microcontroller and one tile after the other are reloaded; the power
controller keeps running, and is reloaded behind them when its component differs from the one it runs (R423; Table 9, steps 4
to 6). -/
def Dev.loadStart_ (d : Dev) (s : Nat) : Dev :=
  let bs := Dev.image d s
  let p := imgDigest bs 4
  let d :=
    if d.fw.restarting then
      Dev.reloadNext (.gmcu :: (List.range 16).map Reload.tile ++ (if p ≠ d.fw.pctlRuns then [Reload.pctl] else [])) d
    else d
  let d := { d with fw := { d.fw with pctlRuns := p } }
  let r := Dev.bootRec d
  let d := { d with fw := { d.fw with booted := some s, hold := false, fatalSince := false, runKey := imgKey bs } }
  let d := Dev.setEl (Dev.setEl (Dev.setEl d K.fwRunningSlot s) K.fwRunningVersion (imgVersion bs)) K.fwRunningArb (imgArb bs)
  let d := Dev.setEl d K.fwTrial (b2n (r.trial && s == r.active))
  let d := if d.fw.restarting then d else Dev.pctlStart d
  if s = 2 then Dev.setFatal d 1 else d

/-- The loop of boot() over the slots. -/
def Dev.bootTry (d : Dev) : List Nat → Dev
  | [] =>
    let d := { d with fw := { d.fw with hold := true } }
    if d.fw.restarting then Dev.setFatal d 1 else d
  | s :: rest =>
    let r := Dev.bootRec d
    if BootRec.st r s = 2 ∨ BootRec.st r s = 3 then
      if Dev.imageOk d s (Dev.image d s) then Dev.loadStart_ d s
      else
        let d := Dev.writeRecord (Dev.addEl d 32 (K.fwslotFailures s) 1) (BootRec.setSt r s 4)
        let d := if s = r.active ∧ r.trial = true then Dev.revert d 3 else d
        Dev.bootTry d rest
    else Dev.bootTry d rest

/-- boot(). -/
def Dev.boot (d : Dev) : Dev :=
  let r := Dev.bootRec d
  let d :=
    if r.trial then if r.attempts = 3 then Dev.revert d 2 else Dev.writeRecord d { r with attempts := r.attempts + 1 }
    else d
  let d := if Dev.crashLoop d then Dev.revert d 4 else d
  let r := Dev.bootRec d
  Dev.bootTry d [r.active, 1 - r.active, 2]

/-- Whether the flash takes a program or erase (R444). -/
def Dev.flashOk (d : Dev) : Bool := !d.fw.flashLow && !d.fw.pfail

/-- A flash operation must wait. -/
def Dev.flashWait (d : Dev) (x : FlashOp) : Dev :=
  if d.fw.waits.contains x then d
  else Dev.addEl { d with fw := { d.fw with waits := d.fw.waits ++ [x] } } 32 K.fwFlashInhibits 1

/-- The boot ROM starts the xSPI interface: FL_RESET_N goes low for 100 µs, and from 1S-1S-1S the interface reads the SFDP tables
and enters 8D-8D-8D (R534, log 143). -/
def Dev.startFlash (d : Dev) : Dev :=
  let d := Dev.emit { d with fw := { d.fw with xspiOctal := false } } (.pin .flResetN false)
  let d := Dev.emit d (.pin .flResetN true)
  { d with fw := { d.fw with xspiOctal := true, romFlash := true } }

/-- BOOT_ROM: boot(), held off where it would write a record and the flash takes none (R432, R444). A repeat within one start
of the boot ROM does not reset the flash again (R534). -/
def Dev.bootRom (d : Dev) : Dev :=
  if d.fw.running || d.fw.booted.isSome || Dev.domain d 1 == 2 then d
  else
    let d := Dev.milestone d 0
    let d := if d.fw.romFlash then d else Dev.startFlash d
    let x := Dev.boot { d with fw := { d.fw with hold := false } }
    if Dev.flashOk d || x.fw.secs == d.fw.secs then x else Dev.flashWait d .boot

/-! A management restart begins (R446, step 1). -/

/-- The on-die staging store is lost, and a load from it that has not finished ends as ABANDONED; each idle bank that it was
writing is invalid and is recopied (R158, R497). -/
def Dev.storeLost (d : Dev) : Dev :=
  let d := Dev.setEl { d with prog := { d.prog with bundle := [] } } K.progStageLength 0
  match d.prog.load with
  | none => d
  | some l =>
    let d := if l.writing then l.images.foldl (fun d x => Dev.setEl d (K.bankIdleState x.1) 5) d else d
    Dev.loadEnd { d with prog := { d.prog with load := none } } 5

/-- The main processor stops: sessions, the update session and the mailbox requests end; an on-die staging store is lost. -/
def Dev.restartStart (d : Dev) (cause : Nat) : Dev :=
  let d := Dev.raise (Dev.setEl d K.fwRestartCause cause) 6
  let d := Dev.fwEnd (Dev.endSessions d (fun _ => true))
  let d := if Dev.el d K.granState = 3 then Dev.storeLost d else d
  let d := { d with fw := { d.fw with
    running := false, restarting := true, hold := false, booted := none, romFlash := false, storeRead := false, staged := [], reloads := [] } }
  let d := { d with mgmt := { d.mgmt with kept := [] } }
  if (cause = 5 ∨ cause = 8) ∧ Dev.el d K.fwTrial = 0 ∧ Dev.el d K.fwRunningSlot ≠ 2 then
    { d with fw := { d.fw with crashes := d.fw.crashes ++ [Dev.freeNs d] } }
  else d

/-! Trial and confirmation (R440 to R442). -/

/-- The mailbox of host port hp answers: it holds no submission that waits for firmware (R394). -/
def Dev.mbxAnswers (d : Dev) (hp : Nat) : Bool := !d.fw.heldMbx.contains hp

/-- Whether the running image is healthy. -/
def Dev.healthy (d : Dev) : Bool :=
  d.fw.running && (List.range 16).all (fun t => Dev.el d (K.tileMcuState t) == 0 || (bit d.fw.tilesBad t && Dev.el d (K.tileMcuState t) == 2))
    && (Dev.el d K.granState == 3 || Dev.el d K.fwGmcuState == 0) && Dev.el d K.fwPctlState == 0 && d.fw.storeRead
    && (List.range 2).all (fun hp => Dev.el d (K.hostState hp) != 1 || Dev.mbxAnswers d hp) && !d.fw.fatalSince

/-- Blow fuses until as many of the 128 are blown as the running slot's arb; `spoil` of them fail and are skipped (R441, R442). -/
def Dev.blowFuses (d : Dev) (arb spoil : Nat) : Dev :=
  let f := Dev.el d K.fwArbFused
  let sp := Dev.el d K.fwArbSpoiled
  if arb ≤ f then d
  else
    let sp := min (128 - f) (sp + spoil)
    Dev.setEl (Dev.setEl d K.fwArbSpoiled sp) K.fwArbFused (max f (min arb (128 - sp)))

/-- arb of the image that a slot holds, 0 for none (R449). -/
def Dev.slotArb (d : Dev) (s : Nat) : Nat := if 4096 ≤ (Dev.image d s).length then imgArb (Dev.image d s) else 0

/-- Confirmation of the running trial slot; every slot that was written and lies below the new count reads 5 (R441, log 155).
Restarts of the slot before it count no longer. -/
def Dev.confirmNow (d : Dev) (spoil : Nat) : Dev :=
  let s := Dev.el d K.fwRunningSlot
  let r := Dev.bootRec d
  let d := Dev.setEl (Dev.writeRecord d (BootRec.setSt { r with trial := false, attempts := 0 } s 3)) K.fwTrial 0
  let d := { d with fw := { d.fw with crashes := [] } }
  let d := Dev.blowFuses d (Dev.el d K.fwRunningArb) spoil
  let n := Dev.el d K.fwArbFused
  let r := Dev.bootRec d
  let low (x : Nat) : Bool := decide (2 ≤ BootRec.st r x ∧ BootRec.st r x ≤ 4) && decide (Dev.slotArb d x < n)
  if low 0 || low 1 then
    let r := if low 0 then BootRec.setSt r 0 5 else r
    Dev.writeRecord d (if low 1 then BootRec.setSt r 1 5 else r)
  else d

/-- Confirmation, once the flash takes its record (R444). -/
def Dev.confirm (d : Dev) (spoil : Nat) : Dev :=
  if Dev.flashOk d then Dev.confirmNow d spoil else Dev.flashWait d (.confirm spoil)

/-- A write of 1 to fw.confirm: its status (R440). -/
def Dev.confirmWrite (d : Dev) (spoil : Nat) : Dev × Nat :=
  if Dev.el d K.fwTrial ≠ 1 ∨ Dev.healthy d = false then (d, 2)
  else if Dev.el d K.fwConfirmPolicy = 1 then (Dev.confirm d spoil, 0)
  else (d, 0)

def Dev.selfConfirm (d : Dev) (spoil : Nat) : Dev :=
  if Dev.el d K.fwTrial = 1 ∧ Dev.el d K.fwConfirmPolicy = 0 ∧ Dev.healthy d = true then Dev.confirm d spoil else d

/-- The window expires unconfirmed: revert, and a management restart (R441). -/
def Dev.windowExpire (d : Dev) : Dev :=
  if ¬ (Dev.el d K.fwTrial = 1 ∧ d.fw.running = true) then d
  else if Dev.flashOk d = false then Dev.flashWait d .expire
  else Dev.restartStart (Dev.setEl (Dev.revert d 1) K.fwTrial 0) 7

/-! Staging (R435 to R438). -/

/-- The class of a source, as dict.rights numbers it (R385). -/
def Source.cls : Source → Nat
  | .host hp => hp.val
  | .mctp _ _ => 2
  | .udp _ _ _ => 3

/-- fw.session.owner (R450). -/
def ownerBlob : Source → List Byte
  | .host hp => [BitVec.ofNat 8 hp.val, BitVec.ofNat 8 hp.val] ++ zeros 22
  | .mctp b e => [2, BitVec.ofNat 8 b.val, BitVec.ofNat 8 e] ++ zeros 21
  | .udp m a p => [3, BitVec.ofNat 8 m.val, 0, 0] ++ leBytes 2 p ++ zeros 2 ++ beBytes 16 a

def Dev.stagedOf (d : Dev) (s : Source) : List Byte :=
  match d.fw.staged.find? (fun x => x.1 == s) with
  | some x => x.2
  | none => []
def Dev.setStaged (d : Dev) (s : Source) (bs : List Byte) : Dev :=
  let l := d.fw.staged.filter (fun x => x.1 != s)
  { d with fw := { d.fw with staged := if bs.isEmpty then l else l ++ [(s, bs)] } }

def Dev.owns (d : Dev) (s : Source) : Bool := d.fw.owner == some s

/-- The slot that a write or an activation targets (R439, Table 7). -/
def Dev.targetSlot (d : Dev) : Nat :=
  match Dev.el d K.fwRunningSlot with
  | 0 => 1
  | 1 => 0
  | _ => if (Dev.bootRec d).stA = 3 ∧ (Dev.bootRec d).stB ≠ 3 then 1 else 0
def Dev.writeTarget (d : Dev) (bs : List Byte) : Nat := if imgKind bs = 2 then 2 else Dev.targetSlot d

def Dev.refuse (d : Dev) (reason status : Nat) : Dev × Nat :=
  (Dev.addEl (Dev.setEl d K.fwUpdateReason reason) 32 K.fwUpdateRefusals (b2n (reason == 11)), status)

/-- While gran.state reads 3, bytes beyond the header block go straight into the target slot (R436), once the flash takes
them (R444). -/
def Dev.stageThrough (d : Dev) (s : Source) (bs : List Byte) : Dev :=
  if Dev.el d K.granState = 3 ∧ 4096 < bs.length then
    if Dev.flashOk d = false then Dev.flashWait d (.through s)
    else
    let t := Dev.writeTarget d bs
    let d := if BootRec.st (Dev.bootRec d) t = 1 then d else Dev.writeRecord d (BootRec.setSt (Dev.bootRec d) t 1)
    Dev.slotEls (Dev.setImage d t bs) t
  else d

/-- The owner's elements follow its staged bytes. -/
def Dev.sessionEls (d : Dev) (bs : List Byte) : Dev :=
  let d := Dev.setEl d K.fwStageLength (bs.length % 2 ^ 32)
  Dev.setEl d K.fwSessionState (if 4096 ≤ bs.length ∧ bs.length = imgSize bs then 2 else 1)

/-- A write of fw.stage.chunk: its status. -/
def Dev.fwChunk (d : Dev) (s : Source) (v : List Byte) : Dev × Nat :=
  let off := leNat (v.take 4)
  let data := v.drop 4
  if bit (Dev.el d K.fwUpdateSources) (Source.cls s) = false then Dev.refuse d 10 6
  else if Dev.el d K.granState = 0 then (d, 2)
  else if d.fw.owner.isSome ∧ Dev.owns d s = false then Dev.refuse d 11 2
  else
    let d := if Dev.owns d s then { d with fw := { d.fw with idleAt := d.ticks } } else d
    let d := if off = 0 then Dev.setStaged d s [] else d
    let old := Dev.stagedOf d s
    let bs := old ++ data
    if off ≠ old.length then Dev.refuse d 12 1
    else if 4096 ≤ old.length ∧ imgSize old < bs.length then Dev.refuse d 4 1
    else if old.length < 4096 ∧ 4096 ≤ bs.length then
      let r := Dev.headerReason d (bs.take 4096)
      if r ≠ 0 then
        let d := Dev.setStaged d s []
        Dev.refuse (if Dev.owns d s then Dev.sessionEls d [] else d) r 1
      else if imgSize bs < bs.length then Dev.refuse d 4 1
      else
        let d := { d with fw := { d.fw with owner := some s, staged := [(s, bs)], idleAt := d.ticks } }
        (Dev.stageThrough (Dev.sessionEls (Dev.setBlob d K.fwSessionOwner (ownerBlob s)) bs) s bs, 0)
    else
      let d := Dev.setStaged d s bs
      if Dev.owns d s then (Dev.stageThrough (Dev.sessionEls d bs) s bs, 0) else (d, 0)

/-! The update operations (R439, Table 7). -/

/-- The target is marked incomplete, and its erase and program begin. -/
def Dev.slotBegin (d : Dev) (t : Nat) (bs : List Byte) : Dev :=
  Dev.slotEls (Dev.setImage (Dev.writeRecord d (BootRec.setSt (Dev.bootRec d) t 1)) t bs) t

/-- Op 1; a flash that takes nothing yet makes it wait (R444). -/
def Dev.slotWrite (d : Dev) (s : Source) : Dev × Nat :=
  let bs := Dev.stagedOf d s
  if Dev.owns d s = false ∨ bs.length < 4096 ∨ bs.length ≠ imgSize bs then (d, 5)
  else
    let t := Dev.writeTarget d bs
    let d := { d with fw := { d.fw with writing := some t, idleAt := d.ticks } }
    let d := Dev.setEl (Dev.setEl d K.fwUpdateTarget t) K.fwSessionState 3
    (if Dev.flashOk d then Dev.slotBegin d t bs else Dev.flashWait d (.slot t bs), 1)

/-- A slot write that waits for the flash. -/
def FlashOp.ofSlot : FlashOp → Bool
  | .slot _ _ => true
  | .slotEnd => true
  | _ => false

/-- The write ends: read back well, which its record then says, or not. -/
def Dev.slotWriteDone (d : Dev) (ok : Bool) : Dev :=
  match d.fw.writing with
  | none => d
  | some t =>
    if d.fw.waits.any FlashOp.ofSlot then d
    else if ok = true ∧ Dev.flashOk d = false then Dev.flashWait d .slotEnd
    else
      let d := { d with fw := { d.fw with writing := none } }
      let live := d.fw.owner.isSome
      if ok then
        let bs := Dev.image d t
        let r := Dev.bootRec d
        let r := if t = 0 then { r with verA := imgVersion bs, arbA := imgArb bs }
                 else if t = 1 then { r with verB := imgVersion bs, arbB := imgArb bs } else r
        let st := if t = 2 then (if Dev.imageOk d 2 bs then 3 else 4) else 2
        let d := Dev.addEl d 32 (K.fwslotFailures t) (b2n (st == 4))
        let d := Dev.setEl (Dev.writeRecord d (BootRec.setSt r t st)) K.fwUpdateStatus 0
        if live then Dev.setEl d K.fwSessionState 4 else d
      else
        let d := Dev.setEl d K.fwUpdateStatus 4
        if live then Dev.setEl d K.fwSessionState 2 else d

/-- Ops 2 and 3. -/
def Dev.activate (d : Dev) (s : Source) (now : Bool) : Dev × Nat :=
  let t := Dev.targetSlot d
  if d.fw.owner.isSome ∧ Dev.owns d s = false then (d, 3)
  else if Dev.owns d s ∧ imgKind (Dev.stagedOf d s) = 2 then (d, 2)
  else if d.fw.owner.isNone ∧ Dev.el d K.fwUpdateTarget = 2 then (d, 2)
  else if BootRec.st (Dev.bootRec d) t ≠ 2 ∨ Dev.el d K.fwTrial = 1 then (d, 3)
  else if Dev.flashOk d = false then (Dev.flashWait d (.activate s now), 1)
  else
    let r := Dev.bootRec d
    let d := Dev.writeRecord d { r with active := t, trial := true, attempts := 0, confirmMin := Dev.el d K.fwConfirmWindowMin }
    let bad := (List.range 16).foldl (fun m i => if Dev.el d (K.tileMcuState i) = 2 then m ||| 2 ^ i else m) 0
    let d := Dev.fwEnd { d with fw := { d.fw with tilesBad := bad } }
    (if now then Dev.restartStart d 6 else d, 0)

/-- Op 4. -/
def Dev.fwAbort (d : Dev) (s : Source) : Dev × Nat := if Dev.owns d s then (Dev.fwEnd d, 0) else (d, 3)

/-- fw.update.op run for a source: its status. -/
def Dev.fwRun (d : Dev) (s : Source) : Dev × Nat :=
  let d := if Dev.owns d s then { d with fw := { d.fw with idleAt := d.ticks } } else d
  match Dev.el d K.fwUpdateOp with
  | 1 => Dev.slotWrite d s
  | 2 => Dev.activate d s true
  | 3 => Dev.activate d s false
  | 4 => Dev.fwAbort d s
  | _ => (d, 2)

/-! Meanings. -/

def execFwSlotWriteDone (ok : Bool) : State → Host.Outcome State Fault Refusal := lift (fun d => Dev.slotWriteDone d ok)
def execFwSessionTimeout : State → Host.Outcome State Fault Refusal := lift Dev.fwEnd
def execFwSelfConfirm (spoil : Fin 129) : State → Host.Outcome State Fault Refusal :=
  lift (fun d => Dev.selfConfirm d spoil.val)
def execFwWindowExpire : State → Host.Outcome State Fault Refusal := lift Dev.windowExpire
def execBootRom : State → Host.Outcome State Fault Refusal := liftB Dev.bootRom

/-- BOOT_HOLD_RETRY (R434). -/
def execBootHoldRetry : State → Host.Outcome State Fault Refusal := liftB (fun d => if d.fw.hold then Dev.bootRom d else d)

/-- A core of the main processor stops on a fatal error: a contained error, which life.mgmt_restarts counts (R503). -/
def Dev.coreLost (d : Dev) : Dev := Dev.containedF d 15 (keyObj K.lifeMgmtRestarts) (keyEl K.lifeMgmtRestarts) 0

/-- WATCHDOG_EXPIRE and PROCESSOR_FATAL: a crash record, and a restart with cause 5 or 8 (R425, R510). -/
def execWatchdogExpire : State → Host.Outcome State Fault Refusal :=
  lift (fun d => if d.fw.running then Dev.restartStart (Dev.crash d 1) 5 else d)
def execProcessorFatal : State → Host.Outcome State Fault Refusal :=
  lift (fun d => if d.fw.running then Dev.restartStart (Dev.crash (Dev.coreLost d) 2) 8 else d)

/-- PCTL_RELOAD: the power controller is loaded, runs again or has failed to load (R424, R451). -/
def execPctlReload (way : ReloadWay) : State → Host.Outcome State Fault Refusal :=
  lift (fun d =>
    let d := if way = .memory then Dev.containedF d 16 (keyObj K.fwPctlState) (keyEl K.fwPctlState) 0 else d
    let d := Dev.setEl d K.fwPctlState (ReloadWay.code way)
    let d := if way = .runs then Dev.pctlResume d else d
    if ReloadWay.code way = 1 then d else Dev.reloadEnd d .pctl)

/-- PFAIL_ASSERT (R444, R533). -/
def execPfailAssert : State → Host.Outcome State Fault Refusal := liftB (fun d => { d with fw := { d.fw with pfail := true } })

end Sys2Proof.Machine
end

