-- ==== Sys2Proof/Machine/Reset.lean ====
section
/-! DEFINITION. The reset kinds: what a cold and a full warm reset keep and lose, the per-pipeline reset (Start-up and
reset). -/
namespace Sys2Proof.Machine

/-! Cold and full warm reset (R488 to R491, R494, R498). -/

/-- Elements whose value a cold reset keeps: the fuses already written, what the store itself says of its log, and the repairs
that a stack has had since its manufacture (R235). -/
def keptCold (k : Nat) : Bool :=
  [K.idCustomer, K.fwKeyRevoke, K.fwArbFused, K.fwArbSpoiled, K.cfgsGeneration, K.cfgsEraseMax].contains k
    || (decide (0x0A10 ≤ keyObj k ∧ keyObj k < 0x0A20) && keyEl k == 5)

/-- Persistent elements that D0's power and thermal loops run by: they go on with them until the firmware has read the
store (R490). -/
def loopSetting (k : Nat) : Bool :=
  decide (0x0200 ≤ keyObj k ∧ keyObj k ≤ 0x0204) &&
    (match Dict.find (keyObj k) (keyEl k) with
    | some r => r.acc == .rwp
    | none => false)

/-- The statistics counters of D0 (R319): a full warm reset loses them (Table 3). -/
def counterD0 (k : Nat) : Bool :=
  let o := keyObj k
  let e := keyEl k
  k == K.pwrShedTimeMs || k == K.pwrEnergyTotal || k == K.pwrEnergyDevice || k == K.pwrRailErrors
    || (decide (1 ≤ e) && (o == 0x0208 || decide (0x0240 ≤ o ∧ o < 0x0280)))
    || (o == 0x0500 && (e == 4 || e == 5)) || (o == 0x0501 && e == 8)
    || (decide (0x1811 ≤ o ∧ o ≤ 0x1812) && (e == 0x11 || e == 0x13))

/-- Elements that a full warm reset keeps besides: the status and settings of D0's power, thermal and ageing loops, the
status of the management network, the addresses of M0 and M1, and the counts of Table 3; no statistics counter. -/
def keptWarm (k : Nat) : Bool :=
  let o := keyObj k
  let ro := match Dict.find o (keyEl k) with
    | some r => r.acc == .ro
    | none => false
  let mport := decide (0x1811 ≤ o ∧ o ≤ 0x1812)
  keptCold k || loopSetting k || k == K.lifePowerOnH || k == K.lifeColdResets
    || (ro && !counterD0 k && (decide (0x0200 ≤ o ∧ o ≤ 0x02FF) || decide (0x0500 ≤ o ∧ o ≤ 0x0501) || mport))
    || (mport && decide (0x0A ≤ keyEl k ∧ keyEl k ≤ 0x0E))

/-- The elements of the straps at levels s: bit 0 HOSTCFG, bits 1 to 3 SMBADDR0 to SMBADDR2 (R328, R532, Table 4). -/
def Dev.setStraps (d : Dev) (s : Nat) : Dev :=
  Dev.setEl (Dev.setEl (Dev.setEl d (K.hostMode 0) (s % 2)) (K.hostMode 1) (s % 2)) K.mctpSmbusAddr (0x60 + s / 2 % 8)

/-- A reset of every domain (warm: all but what D0 keeps). `kind` is reset.last_kind (R499). The straps are sampled again (R532, log 142). -/
def Dev.coldReset (d : Dev) (kind : Nat) : Dev :=
  let warm := kind == 2
  let keep (k : Nat) : Bool := if warm then keptWarm k else keptCold k
  let domains := (List.range 24).map (fun i =>
    if i = 0 then (1 : Byte) else if Dev.domain d i = 2 then 2 else 0)
  let n := Dev.reset
  let dict := { n.dict with
    vals := d.dict.vals.filter (fun x => keep x.1), blobs := d.dict.blobs.filter (fun x => warm && keptWarm x.1),
    force := d.dict.force.filter (fun x => warm && keptWarm x.1), forceB := d.dict.forceB.filter (fun x => warm && keptWarm x.1),
    store := d.dict.store, storeAt := d.dict.storeAt, copies := d.dict.copies, cfgSector := d.dict.cfgSector, cfgFill := d.dict.cfgFill,
    cfgErases := d.dict.cfgErases, fused := d.dict.fused }
  let pwr := if warm then { d.pwr with queueUj := [], carry := [], peaked := false } else { n.pwr with latch := d.pwr.latch }
  let d1 := { n with
    free := d.free, out := d.out, dict := dict, pwr := pwr,
    gran := { n.gran with failed := if warm then d.gran.failed else 0 },
    mgmt := if warm then { d.mgmt with kept := [], udpTok := n.mgmt.udpTok } else n.mgmt,
    fw := { n.fw with
      secs := d.fw.secs, tilesBad := d.fw.tilesBad, images := d.fw.images,
      flashLow := d.fw.flashLow, pfail := d.fw.pfail },
    rst := { n.rst with coreLost := Dev.domain d 1 == 2, strapLvl := d.rst.strapLvl, refBad := d.rst.refBad } }
  let d1 := Dev.setBlob d1 K.pwrDomainState domains
  let d1 := Dev.setEl (Dev.setEl d1 K.resetLastKind kind) K.clkRootLocked (b2n (warm && Dev.el d K.clkRootLocked == 1))
  let d1 := Dev.setEl (Dev.setEl d1 K.fwBootRecordSeq ((Dev.bootRec d1).seq % 2 ^ 32)) K.fwTrialAttempts (Dev.bootRec d1).attempts
  let d1 := Dev.setStraps ([0, 1, 2].foldl Dev.slotEls d1) d.rst.strapLvl
  if d.pwr.tripped then Dev.emit d1 (.pin .thermtripN true) else d1

/-- Which cold reset power-good is: the core supply returned, the always-on supply rose, or PORST_N was released. -/
def Dev.coldKind (d : Dev) : Nat :=
  if d.rst.onLost then 0 else if d.rst.coreLost then 3 else if d.rst.porst then 1 else 0

/-- The board reprograms the flash while PORST_N is asserted: the images and the boot record sectors given, an empty store
(R430, R434). -/
def Dev.reflash (d : Dev) (f : Reflash) : Dev :=
  let images := f.images.foldl (fun m x => SMap.set m x.1.val x.2 []) ([] : SMap (List Byte))
  Dev.setEl (Dev.setEl { d with
    fw := { d.fw with secs := { s0 := BootSec.ofBytes f.sec0, s1 := BootSec.ofBytes f.sec1 }, images := images },
    dict := { d.dict with store := [], storeAt := [], copies := [[], []], cfgSector := 0, cfgFill := 0, cfgErases := [] } } K.cfgsGeneration 0) K.cfgsEraseMax 0

/-- COLD_RESET: power-good, with the straps at their levels. A fuse word that fails its check sets its condition until the next cold reset (R509). -/
def Dev.powerGood (d : Dev) (flash : Option Reflash) (fuseBad : Bool) (straps : Nat) : Dev :=
  let d := match flash with
    | some f => if d.rst.porst then Dev.reflash d f else d
    | none => d
  let d := Dev.coldReset { d with rst := { d.rst with strapLvl := straps } } (Dev.coldKind d)
  if fuseBad then Dev.setFatal { d with err := { d.err with sticky := 2 ^ 3 } } 3 else d

/-- Once a full warm reset has been accepted it runs: the whole state but the queue. -/
def State.settle (s : State) : State :=
  if s.dev.rst.warmDue then { s with epoch := 0, dev := Dev.coldReset s.dev 2 } else s

/-- No full warm reset is accepted yet by the command in hand. -/
def Dev.fresh (d : Dev) : Dev := { d with rst := { d.rst with warmDue := false } }

/-- The strap pins' levels as a full warm reset that is due samples them (R532, log 142). -/
def Dev.strapsIn (d : Dev) (l : Nat) : Dev := if d.rst.warmDue then { d with rst := { d.rst with strapLvl := l } } else d

/-- A meaning that may start a full warm reset. -/
def liftW (f : Nat → Dev → Dev) (s : State) : Host.Outcome State Fault Refusal :=
  .next (if Dev.dark s.dev then s else State.settle { s with dev := f s.epoch (Dev.fresh s.dev) })

/-! The per-pipeline reset (R492, R493). -/

/-- The named pipelines of the reset that runs. -/
def Dev.resetPipes (d : Dev) : List Nat := (List.range 16).filter (bit d.rst.pipeMask)

/-- A new reset.pipe.seq: its status. -/
def Dev.pipeReset (d : Dev) : Dev × Nat :=
  let m := Dev.el d K.resetPipeMask
  let busy := d.prog.flip != 0 || (match d.prog.load with
    | some l => l.images.any (fun x => bit m x.1)
    | none => false)
  if m = 0 then (d, 3)
  else if busy then (d, 2)
  else
    let d := { d with rst := { d.rst with pipeMask := m, pipeAt := d.ticks } }
    let d := (Dev.resetPipes d).foldl (fun d n => Dev.setPipe d n { Dev.pipe d n with stopped := true }) d
    (Dev.event d 2 17, 1)

/-- The scheduler selection state of pipeline n's ports starts again: every V, F and H zero. -/
def Dev.schedInit (d : Dev) (n : Nat) : Dev :=
  let ports := tilePorts n ++ [1024 + n]
  ports.foldl (fun d p =>
    let d := Dev.setPort d p { Dev.port d p with v := [] }
    let d := (List.range 16).foldl (fun d q =>
      let i := p * 16 + q
      Dev.setQueue d i { Dev.queue d i with tagF := 0, tagH := none }) d
    Dev.recontendPort d p) d

/-- t0 + 40 µs: the logic has been initialised again, and the arbiters and schedulers resume. -/
def Dev.pipeResetDone (d : Dev) : Dev :=
  if d.rst.pipeMask = 0 then d
  else
    let d := (Dev.resetPipes d).foldl (fun d n =>
      let p := Dev.pipe d n
      Dev.schedInit (Dev.setPipe d n { p with
        stopped := false, rrPort := 63, slotCount := 0, injNext := false }) n) d
    let ns := (d.ticks - d.rst.pipeAt) * 32 / 25
    let d := Dev.setEl (Dev.addEl (Dev.setEl d K.resetPipeStatus 0) 32 K.resetPipeCount 1) K.resetPipeLastNs (ns % 2 ^ 32)
    { d with rst := { d.rst with pipeMask := 0 } }

/-! Meanings. -/

/-- PORST_ASSERT: every domain is in reset; every reset in progress ends (R489). A low level shorter than 200 ns has no effect
(R532). -/
def execPorstAssert (lowNs : Nat) (s : State) : Host.Outcome State Fault Refusal :=
  lift0 (fun d =>
    if lowNs < 200 then d
    else
    let d := (List.range 23).foldl (fun d i => if Dev.domain d (i + 1) = 2 then d else Dev.setDomain d (i + 1) 0) d
    { d with rst := { d.rst with porst := true, pipeMask := 0, armed := none }, fw := { d.fw with restarting := false } }) s

/-- COLD_RESET (R489, R495, R498). -/
def execColdReset (flash : Option Reflash) (fuseBad : Bool) (straps : Fin 16) (s : State) :
    Host.Outcome State Fault Refusal :=
  if Dev.domain s.dev 0 = 2 then .next s
  else .next { s with epoch := 0, dev := Dev.powerGood s.dev flash fuseBad straps.val }

/-- ROOT_PLL_LOCK (R495). -/
def execRootPllLock : State → Host.Outcome State Fault Refusal :=
  liftB (fun d => if d.rst.refBad then d else Dev.setEl d K.clkRootLocked 1)

/-- WARM_ARM_EXPIRE (R490). -/
def execWarmArmExpire : State → Host.Outcome State Fault Refusal :=
  lift (fun d => { d with rst := { d.rst with armed := none } })

def execPipeResetDone : State → Host.Outcome State Fault Refusal := lift Dev.pipeResetDone

end Sys2Proof.Machine
end

