-- ==== Sys2Proof/Machine/Checks.lean ====
section
/-! DEFINITION. When a write of an element is refused: rights, existence, access, type, range, state and the conditions
between elements (R379 to R388, and the chapters' own rules). -/
namespace Sys2Proof.Machine

/-- The value of a write: a number, or the bytes of a str or blob. -/
inductive EVal where
  | num (n : Nat)
  | raw (bs : List Byte)
  deriving DecidableEq, Repr

def EVal.nat : EVal → Nat
  | .num n => n
  | .raw _ => 0

def EVal.bytes : EVal → List Byte
  | .num _ => []
  | .raw bs => bs

/-- One write of a batch, or a write alone: the element and its value. -/
structure WItem where
  k : Nat
  v : EVal
  deriving DecidableEq, Repr

/-! Access status codes (R388, Table 3). -/

def AS.ok : Nat := 0
def AS.invalid : Nat := 1
def AS.busy : Nat := 2
def AS.conflict : Nat := 3
def AS.noRoom : Nat := 4
def AS.noObject : Nat := 5
def AS.denied : Nat := 6
def AS.readOnly : Nat := 7
def AS.writeOnly : Nat := 8
def AS.notApplied : Nat := 9
def AS.restarting : Nat := 10
def AS.noSession : Nat := 11
def AS.malformed : Nat := 12
def AS.fuseFail : Nat := 13

/-- The area of an object number (R379, Table 1). -/
def areaOf (o : Nat) : Option Nat :=
  if o < 0x0E00 then some (o / 256)
  else if 0x1000 ≤ o ∧ o < 0x1400 then some 14
  else if 0x1400 ≤ o ∧ o < 0x1800 then some 15
  else if 0x1800 ≤ o ∧ o < 0x1820 then some 16
  else if 0x2000 ≤ o ∧ o < 0x2800 then some 17
  else if 0x4000 ≤ o ∧ o < 0x8000 then some 18
  else if 0xF000 ≤ o ∧ o < 0x10000 then some 19
  else none

/-- Whether class c may write area a (R386). -/
def Dev.mayWrite (d : Dev) (c a : Nat) : Bool :=
  bit (Dev.el d (K.dictRights c)) a && !(decide (2 ≤ c) && (a == 4 || a == 17))

def clsOf : OrigClass → Nat
  | .hostA => 0
  | .hostB => 1
  | .bmc => 2
  | .net => 3

def clsFrom (c : Nat) : OrigClass := if c = 0 then .hostA else if c = 1 then .hostB else if c = 2 then .bmc else .net

/-! Values (R381). -/

/-- UTF-8 without a zero byte: `need` continuation bytes are due, the next of them from lo to hi. -/
def utf8Ok : Nat → Nat → Nat → List Byte → Bool
  | need, _, _, [] => need == 0
  | 0, _, _, b :: t =>
    let x := b.toNat
    if x = 0 then false
    else if x < 0x80 then utf8Ok 0 0x80 0xBF t
    else if 0xC2 ≤ x ∧ x ≤ 0xDF then utf8Ok 1 0x80 0xBF t
    else if x = 0xE0 then utf8Ok 2 0xA0 0xBF t
    else if x = 0xED then utf8Ok 2 0x80 0x9F t
    else if 0xE1 ≤ x ∧ x ≤ 0xEF then utf8Ok 2 0x80 0xBF t
    else if x = 0xF0 then utf8Ok 3 0x90 0xBF t
    else if 0xF1 ≤ x ∧ x ≤ 0xF3 then utf8Ok 3 0x80 0xBF t
    else if x = 0xF4 then utf8Ok 3 0x80 0x8F t
    else false
  | n + 1, lo, hi, b :: t => decide (lo ≤ b.toNat ∧ b.toNat ≤ hi) && utf8Ok n 0x80 0xBF t

/-- The value that the bytes of a write spell, in the byte order of Tuiley messages; `none` for a wrong length. -/
def DictRow.parse (r : DictRow) (bs : List Byte) : Option EVal :=
  if r.ty.raw then some (.raw bs) else if bs.length = tyLen r.ty then some (.num (beNat bs)) else none

/-- The bytes of a value, in the same order. -/
def DictRow.bytes (r : DictRow) : EVal → List Byte
  | .num n => beBytes (tyLen r.ty) n
  | .raw bs => bs

/-- Whether a value is in the range that the element's row states. -/
def DictRow.inRange (r : DictRow) : EVal → Bool
  | .raw bs =>
    (decide (r.lo ≤ (bs.length : Int) ∧ (bs.length : Int) ≤ r.hi) || r.also.contains (bs.length : Int))
      && (r.ty != .str || utf8Ok 0 0x80 0xBF bs)
  | .num n =>
    match r.ty with
    | .bitset | .time => true
    | .s32 => decide (r.lo ≤ sgn 32 n ∧ sgn 32 n ≤ r.hi) || r.also.contains (sgn 32 n)
    | .s64 => decide (r.lo ≤ sgn 64 n ∧ sgn 64 n ≤ r.hi) || r.also.contains (sgn 64 n)
    | _ => decide (r.lo ≤ (n : Int) ∧ (n : Int) ≤ r.hi) || r.also.contains (n : Int)

/-- The bits of an element that are not reserved (R12, and the bit-field tables). -/
def keptBits (k : Nat) : Option Nat :=
  let o := keyObj k
  let e := keyEl k
  if 0x0980 ≤ o ∧ o < 0x09C0 then some (2 ^ 38 - 1)
  else if 0x09C0 ≤ o ∧ o < 0x09D1 ∧ 0x11 ≤ e ∧ e ≤ 0x20 then some (2 ^ 40 - 1 - 0xC0)
  else if o = 0x0608 ∧ (e = 1 ∨ e = 2) then some (2 ^ 37 - 1)
  else if o = 0x0608 ∧ (e = 7 ∨ e = 8) then some (2 ^ 38 - 1)
  else if 0x0640 ≤ o ∧ o < 0x0680 ∧ e ≤ 16 then some (2 ^ 36 - 1 - 8)
  else if o = 0x0C02 ∧ 2 ≤ e ∧ e ≤ 5 then some (2 ^ 17 - 1)
  else if 0x0B40 ≤ o ∧ o < 0x0B51 ∧ e = 0x11 then some (2 ^ 54 - 1)
  else none

/-- Bytes of a blob with their reserved bits zero: `masks` repeats. -/
def maskBytes (masks : List Nat) (bs : List Byte) : List Byte :=
  (List.range bs.length).map (fun i =>
    BitVec.ofNat 8 (byteAt bs i &&& (masks[i % masks.length]?).getD 255))

/-- The value that an element takes: undefined bits of a bit set, and reserved fields, are ignored (R12, R381). -/
def EVal.norm (r : DictRow) (k : Nat) : EVal → EVal
  | .num n =>
    let n := match r.ty with
      | .bitset => n &&& r.hi.toNat
      | .time => n - bits n 46 2 * 2 ^ 46
      | _ => n
    .num (match keptBits k with
      | some m => n &&& m
      | none => n)
  | .raw bs =>
    if k = K.pwrRail then .raw (maskBytes [127, 255, 255, 255, 255, 7, 0, 0] bs)
    else if keyObj k = 0x0502 then
      .raw (maskBytes ([31, 0, 255, 255, 255, 0, 0, 0, 255, 15, 0, 0, 0, 0, 0, 0] ++ List.replicate 16 255) bs)
    else .raw bs

/-! Commands (R396). -/

/-- The status element of a start element. -/
def cmdStatus (k : Nat) : Option Nat :=
  if k = K.cfgsSyncSeq then some K.cfgsSyncStatus
  else if k = K.resetPipeSeq then some K.resetPipeStatus
  else if k = K.fwUpdateSeq then some K.fwUpdateStatus
  else if k = K.vecSeq then some K.vecStatus
  else if k = K.epochFlipSeq then some K.epochFlipStatus
  else if k = K.progLoadSeq then some K.progLoadStatus
  else if k = K.bufAuditSeq then some K.bufAuditStatus
  else if k = K.mcSeq then some K.mcStatus
  else if k = K.polSeq then some K.polStatus
  else if k = K.tallySnapshot then some K.tallySnapshotStatus
  else if k = K.errCrashSeq then some K.errCrashStatus
  else if 0x2000 ≤ keyObj k ∧ keyObj k < 0x2800 ∧ keyEl k = 1 then some (K.dqCtlStatus (keyObj k - 0x2000))
  else none

/-- The start element of a status element. -/
def cmdOf (k : Nat) : Option Nat :=
  ([K.cfgsSyncSeq, K.resetPipeSeq, K.fwUpdateSeq, K.vecSeq, K.epochFlipSeq, K.progLoadSeq, K.bufAuditSeq, K.mcSeq, K.polSeq,
    K.tallySnapshot, K.errCrashSeq].find? (fun s => cmdStatus s == some k)).or
    (if 0x2000 ≤ keyObj k ∧ keyObj k < 0x2800 ∧ keyEl k = 2 then some (K.dqCtl (keyObj k - 0x2000)) else none)

/-- Start elements for which every accepted write starts a command. -/
def isOpStart (k : Nat) : Bool := k == K.tallySnapshot || decide (0x2000 ≤ keyObj k ∧ keyObj k < 0x2800)

/-- Whether a write of v to element k starts something: a command, or a reset or restart. -/
def Dev.starts (d : Dev) (k v : Nat) : Bool := isOpStart k || Dev.el d k != v

/-- Whether a start is refused because the command is PENDING or claimed (R396). An audit takes further requests
(R167), and dq.ctl takes disable and reset at any time (R374). -/
def Dev.cmdBusy (d : Dev) (c k v : Nat) : Bool :=
  match cmdStatus k with
  | none => false
  | some st =>
    let claimed := match SMap.find d.dict.claims k with
      | some x => clsOf x != c
      | none => false
    let pending :=
      if k = K.bufAuditSeq then false
      else if keyObj k < 0x2000 then Dev.el d st == 1
      else Dev.dqCtlBusy d (keyObj k - 0x2000) v
    Dev.starts d k v && (claimed || pending)

/-! Ports and lanes (R42, R48 to R53, R66, R67). -/

/-- The FEC codes of a mode (R49, Table 4). -/
def fecAllowed (m f : Nat) : Bool := if m = 11 then f == 1 else if m = 13 then f == 0 || f == 1 else f == 2

/-- Two numbers of a list are alike. -/
def hasTwice : List Nat → Bool
  | [] => false
  | x :: t => t.contains x || hasTwice t

/-- The configuration checks of a write of 1 to port.admin; `d` holds that 1. Where conditions of both kinds hold, INVALID comes
before CONFLICT (R48, R50, R53; log 161). -/
def Dev.portBad (d : Dev) (p : Nat) : Nat :=
  let m := Dev.el d (K.portSpeed p)
  let w := modeWidth m
  let fec := Dev.el d (K.portFec p)
  let itf := Dev.el d (K.portInterface p)
  let an := Dev.el d (K.portAnEnable p) == 1
  let others := (Dev.tileAdmin d (p / 64)).filter (fun q => q != p)
  let lanes := (Dev.tileAdmin d (p / 64)).flatMap (Dev.portLanes d)
  if m = 0 ∨ p % w ≠ 0 ∨ fecAllowed m fec = false then AS.invalid
  else if m = 13 ∧ fec = 0 ∧ itf < 2 ∧ an = true ∧ bit (Dev.el d (K.portAnAbilities p)) 14 = false then AS.invalid
  else if itf = 2 ∧ (an = true ∨ Dev.el d (K.portLtEnable p) = 1) then AS.invalid
  else if others.any (fun q => decide (q < p + w) && decide (p < q + Dev.portWidth d q)) then AS.conflict
  else if hasTwice (lanes.map (fun n => Dev.el d (K.laneTxPhys n))) || hasTwice (lanes.map (fun n => Dev.el d (K.laneRxPhys n)))
  then AS.conflict
  else AS.ok

/-- Objects of lanes and ports (R50, R53, R66, R67). A FIR is written on a C2M port, of its owner or, while no port owns the lane,
of any that would; its length and limits are those of Table 3 (R43). `d` is the part before, `a` the part as the write would leave
it. -/
def Dev.badPort (d a : Dev) (o e v : Nat) : Nat :=
  if o < 0x1400 then
    let n := o - 0x1000
    if 1 ≤ e ∧ e ≤ 4 ∧ (Dev.laneOwner d n).isSome then AS.busy
    else if e = 7 then
      (let taps := Dev.blob a (K.laneTxFir n)
       let ports := match Dev.laneOwner d n with
         | some p => [p]
         | none => (tilePorts (n / 64)).filter (fun p => decide (p ≤ n) && decide (n < p + max 1 (Dev.portWidth d p)))
       if ports.any (fun p => Dev.el d (K.portInterface p) == 2 && (taps.length == firBytes (Dev.portRate d p)
            || (Dev.el d (K.portSpeed p) == 0 && (taps.length == 6 || taps.length == 10))) && Dev.firOk d p taps)
       then AS.ok else AS.invalid)
    else AS.ok
  else
    let p := o - 0x1400
    let other := match Dev.laneOwner d p with
      | some q => q != p
      | none => false
    if e = 1 ∧ other = true then AS.conflict
    else if e = 1 ∧ v = 1 then Dev.portBad a p
    else if 2 ≤ e ∧ e ≤ 7 ∧ Dev.adminUp d p then AS.busy
    else AS.ok

/-! Queues and pools (R163, R174, R175, R178, R246, R252). -/

def Dev.poolSum (d : Dev) : Nat :=
  (List.range 8).foldl (fun n k => n + Dev.el d (K.poolSize k)) (Dev.el d K.hrSize)

def Dev.badPool (a : Dev) (k e : Nat) : Nat :=
  let xoff := Dev.el a (K.poolXoff k)
  if e = 2 ∧ 1490944 < Dev.poolSum a then AS.invalid
  else if (e = 2 ∨ e = 6 ∨ e = 7) ∧ xoff ≠ 0 ∧ (xoff ≤ Dev.el a (K.poolXon k) ∨ Dev.el a (K.poolSize k) < xoff) then AS.invalid
  else if (e = 9 ∨ e = 10) ∧ Dev.el a (K.poolEcnKmax k) ≤ Dev.el a (K.poolEcnKmin k) then AS.invalid
  else AS.ok

/-- A queue's tier (R252). -/
def Dev.badTier (d a : Dev) (n : Nat) : Nat :=
  let p := qPort n
  let old := Dev.el d (K.eqSchedTier n)
  let new := Dev.el a (K.eqSchedTier n)
  let launch := ((portQueues p).filter (fun q => Dev.el a (K.eqSchedTier q) == 4)).length
  if (new = 4 ∨ old = 4 ∧ new ≠ 4) ∧ Dev.qPkts d n ≠ 0 then AS.busy
  else if new = 4 ∧ 2 < launch then AS.conflict
  else AS.ok

/-! Time (R269, R292, R293). -/

/-- A base takes offsets from a capture that is bound to another base. -/
def Dev.sourceClash (a : Dev) (b : Nat) : Bool :=
  let s := Dev.el a (K.tbServoSource b)
  (s == 1 || s == 2) && bits (Dev.capCfg a (s - 1)) 0 3 != b

def Dev.badBase (d a : Dev) (b e : Nat) : Nat :=
  if e = 5 ∧ Dev.el d (K.tbServoMode b) = 0 then AS.busy
  else if e = 7 ∧ Dev.sourceClash a b then AS.conflict
  else AS.ok

/-- Pins: a pulse's width against its period (R292), a capture's base against the servos (R293). -/
def Dev.badPin (a : Dev) (e : Nat) : Nat :=
  let c := if e = 8 ∨ e = 0x0B ∨ e = 0x0C then 1 else 0
  let cfg := Dev.outCfg a c
  let width := bits cfg 6 32
  let per := if c = 0 then Dev.el a K.out0Period else Dev.el a K.out1Period
  if e = 1 ∨ e = 2 then
    (if (List.range 8).any (fun b => Dev.el a (K.tbServoSource b) == e && Dev.sourceClash a b) then AS.conflict else AS.ok)
  else if bits cfg 3 2 = 3 ∨ width < 8 ∨ (bits cfg 3 2 = 1 ∧ 1000000000 ≤ width) ∨ (bits cfg 3 2 = 2 ∧ per ≤ width) then
    AS.invalid
  else AS.ok

/-! Blobs with entries (R421, R458). -/

/-- pwr.rail (R458): each domain in exactly one entry. -/
def railBad (bs : List Byte) : Nat :=
  let es := (words 8 bs).filter (fun x => railAddr x != 0)
  let fed (dm : Nat) : Nat := (es.filter (fun x => bit (railDomains x) dm)).length
  if bs.length % 8 ≠ 0 ∨ (words 8 bs).any (fun x => railMethod x == 3) then AS.invalid
  else if (List.range 24).all (fun dm => fed dm == 1) then AS.ok
  else AS.conflict

/-- net.udp.allow (R421). -/
def allowBad (bs : List Byte) : Nat :=
  if bs.length % 20 ≠ 0 then AS.invalid
  else if (List.range (bs.length / 20)).all (fun i =>
    decide (byteAt bs (20 * i + 16) ≤ 128) && leNat (slice bs (20 * i + 17) 3) == 0) then AS.ok
  else AS.invalid

/-- notice.dest (R414, Table 1). -/
def destBad (bs : List Byte) : Nat := if bits (leNat bs) 0 2 = 3 ∨ bits (leNat bs) 3 2 = 3 then AS.invalid else AS.ok

/-- The sizes of gran.region.layout (R202, R203). -/
def layoutOk (v : Nat) : Bool :=
  decide (8 ≤ bits v 0 8) && decide (1 ≤ bits v 8 8) && decide (1 ≤ bits v 16 8) && decide (1 ≤ bits v 24 8)
    && bits v 0 8 + bits v 8 8 + bits v 16 8 + bits v 24 8 == 125 && decide (v < 2 ^ 32)

/-- stream.cfg (R325, Table 9). -/
def streamOk (v : Nat) : Bool :=
  bits v 0 2 != 3 && decide (v < 2 ^ 25)
    && (bits v 0 2 != 2 || decide (1 ≤ bits v 20 5 ∧ bits v 20 5 ≤ 22)) && decide (bits v 20 5 ≤ 22)

/-- sched.port.cfg (R261). Of iq.port.sched the reserved bits are ignored (R12, R262). -/
def portSchedOk (v : Nat) : Bool := rateOk (bits v 0 25) && decide (v < 2 ^ 54)

/-- A write to fw.key.revoke that takes the running image's key (R429). -/
def Dev.revokesOwn (d : Dev) (v : Nat) : Bool :=
  bit v d.fw.runKey

/-- Programming of a fuse element fails its read-back: what the fuses do is a free value (R382, log 32). -/
def Dev.fuseFails (d : Dev) (k : Nat) : Bool := Config.freeAt 11 (k + 2 ^ 24 * d.free) % 2 == 1

/-- The state and cross-element conditions of a write of v to element k by `src`. `d` is the part before, `a` the part with
the values that the write, or its batch, would leave (R388 step 4, R395). -/
def Dev.badWrite (d a : Dev) (src : Source) (k : Nat) (v : EVal) : Nat :=
  let o := keyObj k
  let e := keyEl k
  let n := v.nat
  let c := Source.cls src
  if Dev.cmdBusy d c k n then AS.busy
  else if o = 0x0002 then
    (if bit (Dev.el d (K.dictRights c)) 0 = false then AS.denied
     else if bit (Dev.el a (K.dictRights 0)) 0 || bit (Dev.el a (K.dictRights 1)) 0 then AS.ok else AS.conflict)
  else if k = K.resetWarmSeq then
    (if d.rst.armed != some (clsFrom c) then AS.busy else AS.ok)
  else if 0x0180 ≤ o ∧ o < 0x0190 then
    (if e = 1 ∧ Dev.tileAdmin d (o - 0x0180) ≠ [] then AS.busy
     else if e = 0x0E ∧ v.bytes.length % 54 ≠ 0 then AS.invalid else AS.ok)
  else if k = K.pwrRail then railBad v.bytes
  else if k = K.fwConfirm then (if n = 1 then (Dev.confirmWrite d 0).2 else AS.ok)
  else if k = K.fwKeyRevoke then (if Dev.revokesOwn d n then AS.conflict else if Dev.fuseFails d k then AS.fuseFail else AS.ok)
  else if k = K.idCustomer then (if Dev.fuseFails d k then AS.fuseFail else AS.ok)
  else if k = K.fwStageChunk then (Dev.fwChunk a src v.bytes).2
  else if k = K.fwUpdateSeq then
    (if Dev.starts d k n && (Dev.el a K.fwUpdateOp == 2 || Dev.el a K.fwUpdateOp == 3) && d.fw.owner.isNone
        && !bit (Dev.el d K.fwUpdateSources) c then AS.denied else AS.ok)
  else if k = K.dmaCtxBaseA ∨ k = K.dmaCtxBaseB then
    (if n % 4096 ≠ 0 then AS.invalid
     else if (Dev.homed d (k - K.dmaCtxBaseA)).any (fun q => decide (1 ≤ Dev.dqSt d q ∧ Dev.dqSt d q ≤ 3)) then AS.busy else AS.ok)
  else if o = 0x0401 then
    (if hasTwice (((List.range 16).map (fun j => Dev.el a (K.dmaPuntMap j))).filter (fun x => x != 0xFFFF)) then AS.conflict else AS.ok)
  else if k = K.netUdpAllow then allowBad v.bytes
  else if o = 0x0502 then destBad v.bytes
  else if 0x0600 ≤ o ∧ o < 0x0608 then Dev.badBase d a (o - 0x0600) e
  else if o = 0x0608 then Dev.badPin a e
  else if k = K.progStageChunk then
    (if 8388608 < Dev.el a K.progStageOffset + v.bytes.length then AS.invalid
     else if Dev.el d K.progLoadStatus = 1 ∨ Dev.el d K.granState = 0 then AS.busy else AS.ok)
  else if o = 0x0803 then
    (if hasTwice (((List.range 64).map (fun j => Dev.el a (K.privPort j))).filter (fun x => x != 0xFFFF)) then AS.conflict else AS.ok)
  else if 0x0910 ≤ o ∧ o < 0x0918 then Dev.badPool a (o - 0x0910) e
  else if k = K.hrSize then (if 1490944 < Dev.poolSum a then AS.invalid else AS.ok)
  else if 0x0980 ≤ o ∧ o < 0x09C0 then (if 1000 < bits n 0 10 then AS.invalid else AS.ok)
  else if 0x09C0 ≤ o ∧ o < 0x09D1 ∧ 0x11 ≤ e then (if bits n 24 16 = 0 ∨ 60000 < bits n 24 16 then AS.invalid else AS.ok)
  else if k = K.granRegionLayout then (if layoutOk n then AS.ok else AS.invalid)
  else if k = K.granStackRetire then
    (if Dev.retireBusy d then AS.busy else if Dev.retireLast d n then AS.conflict else AS.ok)
  else if k = K.granSpillXoffFree ∨ k = K.granSpillXonFree then
    (if Dev.el a K.granSpillXoffFree ≠ 0 ∧ Dev.el a K.granSpillXonFree ≤ Dev.el a K.granSpillXoffFree then AS.invalid else AS.ok)
  else if 0x0B40 ≤ o ∧ o < 0x0B51 then
    (if rateOk (bits n (if e = 0x11 then 0 else 14) 25) then AS.ok else AS.invalid)
  else if 0x0B80 ≤ o ∧ o < 0x0BC0 then (if portSchedOk n then AS.ok else AS.invalid)
  else if 0x0C08 ≤ o ∧ o < 0x0C10 then (if streamOk n then AS.ok else AS.invalid)
  else if 0x0C10 ≤ o ∧ o < 0x0C18 ∧ e = 6 then
    (if [0, 4, 16].contains v.bytes.length then AS.ok else AS.invalid)
  else if 0x0C10 ≤ o ∧ o < 0x0C18 ∧ e = 7 then
    (if v.bytes.length = (Dev.blob a (K.colDst (o - 0x0C10))).length then AS.ok else AS.invalid)
  else if 0x0C40 ≤ o ∧ o < 0x0C80 ∧ e = 1 then (if perfSelOk (o - 0x0C40) n then AS.ok else AS.invalid)
  else if 0x1000 ≤ o ∧ o < 0x1800 then Dev.badPort d a o e n
  else if 0x1811 ≤ o ∧ o ≤ 0x1812 ∧ e = 0x0D then (if v.bytes.length = 0 ∨ v.bytes.length = 16 then AS.ok else AS.invalid)
  else if 0x4000 ≤ o ∧ e = 0x1C then Dev.badTier d a (o - 0x4000)
  else AS.ok

/-- The checks of R388 up to the type: the element's row and the value, or the status. -/
def Dev.checkTarget (d : Dev) (c o e : Nat) : DictRow ⊕ Nat :=
  match areaOf o with
  | none => .inr AS.noObject
  | some a =>
    if Dev.mayWrite d c a = false then .inr AS.denied
    else
      match Dict.find o e with
      | none => .inr AS.noObject
      | some r =>
        match r.acc with
        | .ro => .inr AS.readOnly
        | .fuse => if d.dict.fused.contains (key o e) then .inr AS.readOnly else .inl r
        | _ => .inl r

/-- Whether the store has no room for the values that `ks` would keep: 65,536 bytes are the part's own (R397). -/
def Dev.storeFull (a : Dev) (ks : List Nat) : Bool :=
  let rwp (k : Nat) : Bool := match Dict.find (keyObj k) (keyEl k) with
    | some r => r.acc == .rwp
    | none => false
  let ks := ks.filter rwp
  let after := ks.foldl (fun (m : SMap (List Byte)) k => SMap.set m k (Dev.storeBytes a k) []) a.dict.store
  let after := a.dict.cfgPend.foldl (fun (m : SMap (List Byte)) x => SMap.set m x.id (Dev.itemBytes a x) []) after
  let size := (after.filter (fun x => rwp x.1)).foldl (fun n x => n + entryBytes x.2) 0
  !ks.isEmpty && decide (2031616 < size)

end Sys2Proof.Machine
end

