-- ==== Sys2Proof/Machine/Effects.lean ====
section
/-! DEFINITION. What an accepted write of an element does: its value, its waiting for a commit point, its record in the
store, and the effect that its chapter gives it (R382 to R384, R396, R397). -/
namespace Sys2Proof.Machine

/-- Elements whose write does not simply replace the value: write-only ones, those that writing 1 clears, and the
selection of a performance bank, which is compared with the old one. -/
def heldWrite (r : DictRow) (k : Nat) : Bool :=
  r.acc == .wo || k == K.errFatal
    || (decide (0x0C40 ≤ keyObj k ∧ keyObj k < 0x0C80) && (keyEl k == 1 || keyEl k == 2 || keyEl k == 0x0B))

/-- Set the value of one write. -/
def Dev.putItem (d : Dev) (x : WItem) : Dev :=
  match Dict.find (keyObj x.k) (keyEl x.k) with
  | some r =>
    if heldWrite r x.k then d
    else
      match x.v with
      | .num n => Dev.setEl d x.k n
      | .raw bs => Dev.setBlob d x.k bs
  | none => d

/-- What must happen under the old value: a queue leaves its tier (R246), a bucket fills at its old rate, XON goes out for a
flow-control priority that changes (R175); a lane has its present coefficients as it is frozen (R45). -/
def Dev.beforeWrite (d : Dev) (x : WItem) : Dev :=
  let o := keyObj x.k
  let e := keyEl x.k
  if 0x4000 ≤ o ∧ (e = 0x1C ∨ e = 0x1D) then Dev.leave d (o - 0x4000)
  else if 0x0B40 ≤ o ∧ o < 0x0B51 ∧ e ≤ 16 then Dev.leave d ((1024 + (o - 0x0B40)) * 16 + (e - 1))
  else if x.k = K.tcamAdmissionRate ∨ x.k = K.tcamAdmissionBurst then Dev.settleTcam d
  else if x.k = K.telPcLimit ∨ x.k = K.telPcDropLimit then Dev.settleCards d
  else if x.k = K.netUdpRate then
    { d with mgmt := { d.mgmt with udpTok := Dev.fill d d.mgmt.udpTok (Dev.el d K.netUdpRate) (Dev.el d K.netUdpRate) } }
  else if 0x1000 ≤ o ∧ o < 0x1400 ∧ e = 8 then Dev.background d (o - 0x1000)
  else if 0x0910 ≤ o ∧ o < 0x0918 ∧ e = 8 then
    (Dev.xoffPorts d 0 (o - 0x0910)).foldl (fun d p => Dev.sendXon d 0 p (o - 0x0910)) d
  else d

/-- The end of a command: its status. -/
def endWith (k : Nat) (r : Dev × Nat) : Dev := Dev.setEl r.1 k r.2

/-- The commands and resets that a new value of a sequence element, or a write of an operation element, starts. -/
def Dev.runStart (ep : Nat) (d : Dev) (src : Source) (k n : Nat) : Dev :=
  if k = K.cfgsSyncSeq then
    Dev.setEl { d with dict := { d.dict with cfgSync := d.dict.cfgGroup } } K.cfgsSyncStatus (if d.dict.cfgPend.isEmpty then 0 else 1)
  else if k = K.resetWarmSeq then { d with rst := { d.rst with warmDue := true, armed := none } }
  else if k = K.resetPipeSeq then endWith K.resetPipeStatus (Dev.pipeReset d)
  else if k = K.fwUpdateSeq then
    let r := Dev.fwRun (Dev.setEl d K.fwUpdateStatus 1) src
    if r.2 = 1 then r.1 else Dev.setEl r.1 K.fwUpdateStatus r.2
  else if k = K.fwRestartSeq then Dev.restartStart d (1 + Source.cls src)
  else if k = K.vecSeq then endWith K.vecStatus (Dev.vecRun d)
  else if k = K.epochFlipSeq then Dev.flipStart d
  else if k = K.progLoadSeq then Dev.loadStart ep d
  else if k = K.bufAuditSeq then Dev.setEl (Dev.auditAsked d) K.bufAuditStatus 1
  else if k = K.mcSeq then endWith K.mcStatus (Dev.mcRun d)
  else if k = K.polSeq then endWith K.polStatus (Dev.polRun d)
  else if k = K.errCrashSeq then endWith K.errCrashStatus (Dev.crashRead d)
  else if k = K.tallySnapshot then Dev.tallySnapshot d n
  else if 0x2000 ≤ keyObj k ∧ keyObj k < 0x2800 then
    Dev.dqOp d (keyObj k - 0x2000) n (Source.cls src)
  else d

/-- Sequence and operation elements. -/
def isStart (k : Nat) : Bool := (cmdStatus k).isSome || k == K.resetWarmSeq || k == K.fwRestartSeq

/-- A write of v to a boolean that acts when it is 1. -/
def whenOne (n : Nat) (d a : Dev) : Dev := if n = 1 then a else d

/-- Areas 0 to 5: dictionary, device, power, firmware, hosts, management. -/
def Dev.effectLow (d : Dev) (src : Source) (k n old : Nat) (bs : List Byte) : Dev :=
  let o := keyObj k
  let e := keyEl k
  if k = K.cfgsClear then Dev.persistPart d K.cfgsClear (leBytes 1 n)
  else if k = K.resetWarmArm then whenOne n d { d with rst := { d.rst with armed := some (clsFrom (Source.cls src)) } }
  else if k = K.thmPeak then { d with pwr := { d.pwr with peaked := false } }
  else if k = K.devProfileClearOverrides then whenOne n d (Dev.setEl d k 1)
  else if 0x0180 ≤ o ∧ o < 0x0190 ∧ e = 0x0D then whenOne n d (Dev.seedSave d (o - 0x0180))
  else if k = K.pwrShedPcFloor ∨ k = K.pwrShedSpillFloor then Dev.shedApply d
  else if k = K.fwConfirm then whenOne n d (Dev.useFree (Dev.confirmWrite d (Dev.freeVal d 129)).1)
  else if k = K.fwStageChunk then (Dev.fwChunk d src bs).1
  else if k = K.fwKeyRevoke ∨ k = K.idCustomer then Dev.useFree { d with dict := { d.dict with fused := k :: d.dict.fused } }
  else if o = 0x0401 ∧ 1 ≤ e ∧ e ≤ 16 then Dev.remapStaged d (e - 1)
  else if o = 0x1811 ∨ o = 0x1812 then Dev.mportWritten d (o - 0x1811) e old
  else d

/-- Area 6: time bases and pins. -/
def Dev.effectTime (d : Dev) (k n old : Nat) : Dev :=
  let o := keyObj k
  let b := o - 0x0600
  if o < 0x0608 then
    match keyEl k with
    | 0x02 => Dev.setTime d b n
    | 0x03 => Dev.stepBase d b (sgn 64 n)
    | 0x05 => Dev.setBase d b { Dev.base d b with rho := sgn 64 n }
    | 0x06 => Dev.servoMode d b n old
    | 0x08 =>
      if Dev.el d (K.tbServoSource b) = 0 then Dev.offset d b (sgn 64 n) else Dev.setEl d (K.tbOffsetLast b) n
    | 0x0F => whenOne n d (Dev.masterNew d b)
    | _ => d
  else if k = K.out0Cfg ∨ k = K.out1Cfg then
    let c := if k = K.out0Cfg then 0 else 1
    Dev.pulseRearm (Dev.drivePulse d c ((Dev.pulse d c).active && Dev.pulseOn d c)) c
  else if k = K.out0Start ∨ k = K.out0Period then Dev.pulseRearm d 0
  else if k = K.out1Start ∨ k = K.out1Period then Dev.pulseRearm d 1
  else d

/-- Every queue of pool k is evaluated again: its pause may have started or ended (R177, R240). -/
def Dev.recontendPool (d : Dev) (k : Nat) : Dev :=
  (d.queues.filter (fun q => Dev.qPool d q.1 == k)).foldl (fun d q => Dev.recontend d q.1) d

/-- Areas 7 to 10: programs, tables, buffer, granary. -/
def Dev.effectMid (ep : Nat) (d : Dev) (k n : Nat) (bs : List Byte) : Dev :=
  let o := keyObj k
  let e := keyEl k
  if k = K.epochStageAbort then whenOne n d (Dev.hostAbort ep d)
  else if k = K.epochStageReset then
    (if n = 1 ∧ Dev.el d K.epochStageState = 2 then Dev.setEl (Dev.setEl d K.epochStageState 0) K.epochStageEntries 0 else d)
  else if k = K.progStageChunk then Dev.stageChunk d bs
  else if k = K.progLoadDiscard then whenOne n d (Dev.loadDiscard d)
  else if 0x0910 ≤ o ∧ o < 0x0918 then
    let d := if e = 1 ∨ e = 8 then Dev.recontendPool d (o - 0x0910) else d
    (if e = 1 ∨ e = 6 ∨ e = 7 then Dev.xoffTest d (o - 0x0910)
     else if e = 8 ∧ Dev.inXoff d (o - 0x0910) then
       (Dev.holders d (o - 0x0910)).foldl (fun d p => Dev.sendXoff d 0 p (o - 0x0910)) d
     else d)
  else if 0x09C0 ≤ o ∧ o < 0x09D1 ∧ 0x11 ≤ e ∧ e ≤ 0x20 then Dev.recontend d ((1024 + (o - 0x09C0)) * 16 + (e - 0x11))
  else if k = K.granStackRetire then (if (Dev.inService d).contains n then Dev.retire d n 1 true else d)
  else if k = K.granSpillXoffFree ∨ k = K.granSpillXonFree then Dev.spillXoff d
  else if 0x0A10 ≤ o ∧ o < 0x0A20 ∧ e = 9 then whenOne n d (Dev.persistPart d (K.gstackState (o - 0x0A10)) [])
  else d

/-- A queue's scheduling settings (R246, R249); `old` is the rate before. -/
def Dev.schedWritten (d : Dev) (n old : Nat) : Dev := Dev.qShaperWritten d n old

/-- Areas 11 to 13: scheduling, telemetry, errors. -/
def Dev.effectHigh (d : Dev) (k n old : Nat) : Dev :=
  let o := keyObj k
  let e := keyEl k
  if 0x0B40 ≤ o ∧ o < 0x0B51 then
    (if e = 0x11 then Dev.pShaperWritten d (1024 + (o - 0x0B40)) (bits old 0 25)
     else Dev.schedWritten d ((1024 + (o - 0x0B40)) * 16 + (e - 1)) (bits old 14 25))
  else if 0x0B80 ≤ o ∧ o < 0x0BC0 then Dev.pShaperWritten d ((o - 0x0B80) * 16 + (e - 1)) (bits old 0 25)
  else if k = K.telPcLimit then Dev.shedApply d
  else if k = K.telWrapClear then whenOne n d (Dev.wrapClear d)
  else if k = K.telHistClearPort then Dev.histClearPort d n
  else if k = K.tallyClear then Dev.tallyClear d n
  else if 0x0C08 ≤ o ∧ o < 0x0C10 then Dev.streamLap d (o - 0x0C08)
  else if 0x0C40 ≤ o ∧ o < 0x0C80 then
    let b := o - 0x0C40
    (match e with
     | 0x01 => Dev.perfConfig d b n (Dev.el d (K.perfEnable b))
     | 0x02 => Dev.perfConfig d b (Dev.el d (K.perfSel b)) n
     | 0x0B => Dev.setEl d k (old - (old &&& n))
     | _ => d)
  else if k = K.errFatal then Dev.fatalClear d n
  else if k = K.errCrashCapture then whenOne n d (Dev.crash d 8)
  else d

/-- Areas 14, 15 and 18: lanes, ports, egress queues. -/
def Dev.effectPort (d : Dev) (k n old : Nat) : Dev :=
  let o := keyObj k
  let e := keyEl k
  if o < 0x1400 then
    let ln := o - 0x1000
    if e = 9 ∧ n = 1 then
      (match Dev.laneOwner d ln with
       | some p =>
         if Dev.el d (K.portState p) = 5 ∧ Dev.el d (K.laneAdaptFreeze ln) = 0 ∧ Dev.el d (K.tileMcuState (ln / 64)) = 0 then
           Dev.setEl { d with lanes := { d.lanes with adapting := SMap.set d.lanes.adapting ln true false } } (K.laneAdaptState ln) 1
         else d
       | none => d)
    else if e = 5 ∨ e = 6 then Dev.ctleWritten d ln
    else d
  else if o < 0x1800 then
    (if e = 1 ∧ n = 1 ∧ old = 0 then Dev.bringUp d (o - 0x1400)
     else if e = 1 ∧ n = 0 ∧ old = 1 then Dev.adminDown d (o - 0x1400) else d)
  else
    let q := o - 0x4000
    match e with
    | 0x01 => Dev.recontend d q
    | 0x14 => if n = 0 ∧ Dev.qSpillState d q = 1 then Dev.enterDraining d q else d
    | 0x1C => Dev.recontend d q
    | 0x1D => Dev.recontend d q
    | 0x1E => Dev.schedWritten d q old
    | 0x1F => Dev.schedWritten d q (Dev.qRate d q)
    | 0x29 => whenOne n d (Dev.histClear d q)
    | _ => d

/-- The effect of an accepted write; `old` is the value before it. -/
def Dev.effect (ep : Nat) (d : Dev) (src : Source) (x : WItem) (old : Nat) : Dev :=
  let o := keyObj x.k
  let n := x.v.nat
  let d := if governed x.k && !d.dict.overrides.contains x.k then
      { d with dict := { d.dict with overrides := x.k :: d.dict.overrides } }
    else d
  let d := if governed x.k then { d with prog := { d.prog with oldVals := SMap.del d.prog.oldVals x.k } } else d
  if isStart x.k then
    (if isOpStart x.k || old != n then
      let d := match cmdStatus x.k with
        | some _ => { d with dict := { d.dict with claims := SMap.ins d.dict.claims x.k (clsFrom (Source.cls src)) } }
        | none => d
      Dev.runStart ep d src x.k n
     else d)
  else if o < 0x0600 ∨ (0x1811 ≤ o ∧ o ≤ 0x1812) then Dev.effectLow d src x.k n old x.v.bytes
  else if o < 0x0700 then Dev.effectTime d x.k n old
  else if o < 0x0B00 then Dev.effectMid ep d x.k n x.v.bytes
  else if o < 0x1000 then Dev.effectHigh d x.k n old
  else if o < 0x1800 ∨ 0x4000 ≤ o then Dev.effectPort d x.k n old
  else d

/-- A value that is to come into force later waits, in the order of the writes (R383); one kept in the store waits for a
generation, the values of a batch together (R397, R398). -/
def Dev.keepItem (g : Nat) (d : Dev) (x : WItem) : Dev :=
  match Dict.find (keyObj x.k) (keyEl x.k) with
  | some r =>
    let d := if r.com != .now && r.acc != .wo then
        { d with dict := { d.dict with waiting := d.dict.waiting.filter (fun y => y != x.k) ++ [x.k] } }
      else d
    if r.acc == .rwp then Dev.pend d { id := x.k, group := g, part := none } else d
  | none => d

/-- Every accepted write of a batch, or one alone: the values, then the effects in the order of the writes. -/
def Dev.applyItems (ep : Nat) (d : Dev) (src : Source) (xs : List WItem) : Dev :=
  let olds := xs.map (fun x => Dev.el d x.k)
  let d := xs.foldl Dev.beforeWrite d
  let d := xs.foldl Dev.putItem d
  let g := d.dict.cfgGroup
  let d := xs.foldl (Dev.keepItem g) { d with dict := { d.dict with cfgGroup := g + 1 } }
  (xs.zip olds).foldl (fun d x => Dev.effect ep d src x.1 x.2) d

/-- Status of one write of the batch `xs`, step 4 of R388. -/
def Dev.itemStatus (d a : Dev) (src : Source) (x : WItem) : Nat :=
  match Dict.find (keyObj x.k) (keyEl x.k) with
  | some r => if DictRow.inRange r x.v then Dev.badWrite d a src x.k x.v else AS.invalid
  | none => AS.noObject

/-- A refused write that its chapter still gives an effect: a refused chunk records its reason (R436, R438), and so does an
activation by a class that may not update (R435, R439); a fuse that fails
its read-back is written once all the same (R382). -/
def Dev.refusedItem (d : Dev) (src : Source) (x : WItem) (st : Nat) : Dev :=
  if x.k = K.fwStageChunk then (Dev.fwChunk d src x.v.bytes).1
  else if x.k = K.fwUpdateSeq ∧ st = AS.denied then Dev.setEl d K.fwUpdateReason 10
  else if st = AS.fuseFail then Dev.useFree { d with dict := { d.dict with fused := x.k :: d.dict.fused } }
  else d

/-- A write of an element by itself (R383, R388): the part after it and the access status. -/
def Dev.writeOne (ep : Nat) (d : Dev) (src : Source) (o e : Nat) (parse : DictRow → Option EVal) : Dev × Nat :=
  match Dev.checkTarget d (Source.cls src) o e with
  | .inr st => (d, st)
  | .inl r =>
    match parse r with
    | none => (d, AS.invalid)
    | some v =>
      if DictRow.inRange r v = false then (d, AS.invalid)
      else
        let x : WItem := { k := key o e, v := EVal.norm r (key o e) v }
        let a := Dev.putItem d x
        let st := Dev.badWrite d a src x.k x.v
        if st ≠ 0 then (Dev.refusedItem d src x st, st)
        else if Dev.storeFull a [x.k] then (d, AS.noRoom)
        else (Dev.applyItems ep d src [x], AS.ok)

end Sys2Proof.Machine
end

