-- ==== Sys2Proof/Machine/Access.lean ====
section
/-! DEFINITION. How the dictionary is reached: reads, the operations of Tuiley messages, sessions and batches, whole messages
with their responses, BAR0 with its direct window and mailbox (R333 to R335, R384, R388 to R396). -/
namespace Sys2Proof.Machine

/-! Reads (R384). -/

/-- A read of the status element of a command ends the reader's claim once there is a result (R396). -/
def Dev.unclaim (ep : Nat) (d : Dev) (c k : Nat) : Dev :=
  match cmdOf k with
  | some s =>
    if SMap.find d.dict.claims s = some (clsFrom c) ∧ Dev.val ep d k ≠ 1 then
      { d with dict := { d.dict with claims := SMap.del d.dict.claims s } }
    else d
  | none => d

/-- The value of an element, in force or last accepted. -/
def Dev.valueOf (ep : Nat) (d : Dev) (r : DictRow) (k : Nat) (force : Bool) : EVal :=
  if force && r.com != .now then
    (if r.ty.raw then .raw (Dev.blobIn d k) else .num (Dev.elIn d k))
  else if r.ty.raw then .raw (Dev.valB d k) else .num (Dev.val ep d k)

/-- A read of an element by class c: the part after it, the status and the value (R384, R388). A read of cap0.pop or cap1.pop
removes the oldest capture (R291); one of lane.ffe finds the present coefficients (R44). -/
def Dev.readEl (ep : Nat) (d : Dev) (c o e : Nat) (force : Bool) : Dev × Nat × Option (DictRow × EVal) :=
  match Dict.find o e with
  | none => (d, AS.noObject, none)
  | some r =>
    let k := key o e
    if r.acc == .wo then (d, AS.writeOnly, none)
    else if k = K.cap0Pop ∨ k = K.cap1Pop then
      let x := Dev.capPop d (if k = K.cap0Pop then 0 else 1)
      (x.1, AS.ok, some (r, .raw x.2))
    else
      let d := if 0x1000 ≤ o ∧ o < 0x1400 ∧ e = 0x0C then Dev.background d (o - 0x1000) else d
      (Dev.unclaim ep d c k, AS.ok, some (r, Dev.valueOf ep d r k force))

/-! DESCRIBE and NEXT_OBJECT (R392, Table 6). -/

def tyCode : ETy → Nat
  | .bool => 0 | .u8 => 1 | .u16 => 2 | .u32 => 3 | .u64 => 4 | .s32 => 5 | .s64 => 6 | .time => 7 | .enum => 8 | .bitset => 9
  | .str => 10 | .blob => 11

def accCode : EAcc → Nat
  | .ro => 0 | .rw => 1 | .wo => 2 | .rwp => 3 | .fuse => 4

def comCode : ECom → Nat
  | .now => 0 | .epoch => 1 | .restart => 2 | .boot => 3

/-- The least and the greatest of a row's values, as 64-bit numbers. -/
def DictRow.least (r : DictRow) : Nat :=
  if r.ty.raw then 0 else if r.ty == .bitset then 0 else unsgn 64 (r.also.foldl (fun a b => if b < a then b else a) r.lo)
def DictRow.most (r : DictRow) : Nat :=
  unsgn 64 (if r.ty.raw || r.ty == .bitset then r.hi else r.also.foldl (fun a b => if a < b then b else a) r.hi)

/-- DESCRIBE's value. -/
def Dev.describe (d : Dev) (r : DictRow) (o e : Nat) : List Byte :=
  let rights := (List.range 4).foldl (fun n c =>
    let w := r.acc != .ro && (match areaOf o with
      | some a => Dev.mayWrite d c a
      | none => false)
    n + (b2n (r.acc != .wo) + 2 * b2n w) * 4 ^ c) 0
  beBytes 1 (tyCode r.ty) ++ beBytes 1 (accCode r.acc) ++ beBytes 1 (comCode r.com) ++ beBytes 1 rights
    ++ beBytes 8 (DictRow.least r) ++ beBytes 8 (DictRow.most r)
    ++ beBytes 8 (if r.ty.raw || r.ty == .time then 0 else Dict.dflt (key o e)) ++ ascii r.name

/-- The lowest object at or above o. -/
def Dict.next (o : Nat) : Option Nat :=
  Dict.pieces.foldl (fun best p =>
    p.2.2.foldl (fun best r =>
      if r.el = 0 ∧ o < r.obj + r.reps then
        (match best with
         | some b => some (min b (max o r.obj))
         | none => some (max o r.obj))
      else best) best) none

/-! Sessions (R395). -/

/-- One owner of a session: a UDP owner is its address and port, whichever management port it uses (R395). -/
def Source.same : Source → Source → Bool
  | .udp _ a p, .udp _ b q => a == b && p == q
  | s, t => s == t

def Dev.session (d : Dev) (src : Source) (sid : Nat) : Option Session :=
  d.dict.sessions.find? (fun s => s.id == sid && Source.same s.src src)

def Dev.setSession (d : Dev) (s : Session) : Dev :=
  { d with dict := { d.dict with sessions := d.dict.sessions.map (fun x => if x.id = s.id then s else x) } }

def Dev.endSession (d : Dev) (sid : Nat) : Dev :=
  { d with dict := { d.dict with sessions := d.dict.sessions.filter (fun s => s.id != sid) } }

/-- The next free ID: 1 to 65,535, in a circle. -/
def freeId (used : List Nat) : Nat → Nat → Nat
  | 0, i => i
  | n + 1, i =>
    let i := if i = 0 ∨ 65535 < i then 1 else i
    if used.contains i then freeId used n (i + 1) else i

/-- SESSION_OPEN: four sessions a class, sixteen in all. -/
def Dev.openSession (d : Dev) (src : Source) : Dev × Nat × List Byte :=
  if 4 ≤ (d.dict.sessions.filter (fun s => Source.cls s.src == Source.cls src)).length ∨ 16 ≤ d.dict.sessions.length then
    (d, AS.noRoom, [])
  else
    let i := freeId (d.dict.sessions.map (fun s => s.id)) 20 d.dict.nextSession
    ({ d with dict := { d.dict with sessions := d.dict.sessions ++ [{ id := i, src := src, items := [] }], nextSession := i + 1 } },
     AS.ok, beBytes 2 i)

def Session.size (s : Session) : Nat := s.items.foldl (fun n x => n + x.bytes.length) 0

/-- A WRITE adds to the batch of session s; the length of a str or blob, and its UTF-8, are checked at once (R395). -/
def Dev.collect (d : Dev) (s : Session) (o e : Nat) (bs : List Byte) : Dev × Nat :=
  match Dev.checkTarget d (Source.cls s.src) o e with
  | .inr st => (d, st)
  | .inl r =>
    if (DictRow.parse r bs).isNone ∨ (r.ty.raw = true ∧ DictRow.inRange r (.raw bs) = false) then (d, AS.invalid)
    else if 240 ≤ s.items.length ∨ 65536 < Session.size s + bs.length then (d, AS.noRoom)
    else (Dev.setSession d { s with items := s.items ++ [{ op := 2, obj := o, el := e, bytes := bs }] }, AS.ok)

/-- A WRITE_PART adds a segment at its offset; what it has gathered is never longer than its element takes. -/
def Dev.collectPart (d : Dev) (s : Session) (o e off : Nat) (bs : List Byte) : Dev × Nat :=
  match Dev.checkTarget d (Source.cls s.src) o e with
  | .inr st => (d, st)
  | .inl r =>
    let is (x : BatchItem) : Bool := x.op == 5 && x.obj == o && x.el == e
    let have_ := (s.items.find? is).isSome
    let len := match s.items.find? is with
      | some x => x.bytes.length
      | none => 0
    if r.ty.raw = false ∨ off ≠ len ∨ r.also.foldl max r.hi < ((len + bs.length : Nat) : Int) then (d, AS.invalid)
    else if (have_ = false ∧ 240 ≤ s.items.length) ∨ 65536 < Session.size s + bs.length then (d, AS.noRoom)
    else if have_ then
      (Dev.setSession d { s with items := s.items.map (fun x => if is x then { x with bytes := x.bytes ++ bs } else x) }, AS.ok)
    else (Dev.setSession d { s with items := s.items ++ [{ op := 5, obj := o, el := e, bytes := bs }] }, AS.ok)

/-- A queued write's element and value. -/
def BatchItem.parse (x : BatchItem) : Option WItem :=
  match Dict.find x.obj x.el with
  | some r => (DictRow.parse r x.bytes).map (fun v => { k := key x.obj x.el, v := EVal.norm r (key x.obj x.el) v })
  | none => none

/-- What the chunks of a batch would leave for the chunks behind them: each lands where the one before it ended (R144,
R436). -/
def Dev.chunked (src : Source) (a : Dev) (w : WItem) : Dev :=
  if w.k = K.progStageChunk then Dev.setEl a K.progStageOffset (Dev.el a K.progStageOffset + w.v.bytes.length)
  else if w.k = K.fwStageChunk then (Dev.fwChunk a src w.v.bytes).1
  else a

/-- The statuses of a batch's writes: rights, range, state and the conditions on the values that the batch would leave. -/
def Dev.batchStatus (d : Dev) (src : Source) (items : List BatchItem) (ws : List WItem) : List Nat :=
  let a := ws.foldl Dev.putItem d
  (items.zip (List.range items.length)).map (fun y =>
    let x := y.1
    match Dev.checkTarget d (Source.cls src) x.obj x.el, BatchItem.parse x with
    | .inr st, _ => st
    | .inl _, none => AS.invalid
    | .inl _, some w =>
      let st := Dev.itemStatus d ((ws.take y.2).foldl (Dev.chunked src) a) src w
      if st ≠ AS.ok then st
      else if Dev.storeFull a ((ws.take (y.2 + 1)).map (fun z => z.k)) && !Dev.storeFull a ((ws.take y.2).map (fun z => z.k)) then AS.noRoom
      else AS.ok)

/-- SESSION_COMMIT: the batch applies wholly or not at all; the status, and each write's own where it failed (R395). -/
def Dev.commitSession (ep : Nat) (d : Dev) (s : Session) (tag : Nat) : Dev × Nat × List (BatchItem × Nat) :=
  let ws := s.items.filterMap BatchItem.parse
  let sts := Dev.batchStatus d s.src s.items ws
  let st := (sts.find? (fun x => x != AS.ok)).getD AS.ok
  let last := s.id + tag * 2 ^ 16 + st * 2 ^ 32 + s.items.length * 2 ^ 40
  let d := Dev.setEl (Dev.endSession d s.id) (K.dictSessionLast (Source.cls s.src)) last
  if st = AS.ok then (Dev.applyItems ep d s.src ws, AS.ok, [])
  else
    let fused := (s.items.zip sts).foldl (fun d x =>
      match BatchItem.parse x.1 with
      | some w => if x.2 = AS.fuseFail then Dev.refusedItem d s.src w x.2 else d
      | none => d) d
    (fused, st, s.items.zip (sts.map (fun x => if x = AS.ok then AS.notApplied else x)))

/-! Messages (R392). -/

/-- A record of a request. -/
structure Req where
  op : Nat
  flags : Nat
  obj : Nat
  el : Nat
  res : Nat
  val : List Byte
  deriving DecidableEq, Repr

/-- A record of a response. -/
structure Resp where
  st : Nat
  op : Nat
  obj : Nat
  el : Nat
  val : List Byte
  deriving DecidableEq, Repr

def pad4 (n : Nat) : Nat := (n + 3) / 4 * 4

/-- The n records at the front of a string; `none` where they overrun it. -/
def requests : Nat → List Byte → Option (List Req)
  | 0, _ => some []
  | n + 1, bs =>
    let l := beAt bs 6 2
    if bs.length < 8 + pad4 l then none
    else
      (requests n (bs.drop (8 + pad4 l))).map (fun t =>
        { op := byteAt bs 0, flags := byteAt bs 1, obj := beAt bs 2 2, el := byteAt bs 4, res := byteAt bs 5, val := slice bs 8 l } :: t)

/-- A request's tag, session and records; `none` for a malformed header or records that overrun its length. -/
def request (bs : List Byte) : Option (Nat × Nat × List Req) :=
  let n := beAt bs 6 2
  if bs.length < 16 ∨ bs.length % 4 ≠ 0 ∨ byteAt bs 0 ≠ 1 ∨ byteAt bs 1 ≠ 1 ∨ n = 0 ∨ 64 < n ∨ beAt bs 8 4 ≠ bs.length
      ∨ beAt bs 12 4 ≠ 0 then none
  else (requests n (bs.drop 16)).map (fun rs => (beAt bs 2 2, beAt bs 4 2, rs))

def Resp.bytes (r : Resp) : List Byte :=
  beBytes 1 r.st ++ beBytes 1 r.op ++ beBytes 2 r.obj ++ beBytes 1 r.el ++ zeros 1 ++ beBytes 2 r.val.length ++ padTo 4 r.val

def response (tag sid : Nat) (rs : List Resp) : List Byte :=
  let body := rs.flatMap Resp.bytes
  beBytes 2 0x0102 ++ beBytes 2 tag ++ beBytes 2 sid ++ beBytes 2 rs.length ++ beBytes 4 (16 + body.length) ++ zeros 4 ++ body

/-- The largest response of a transport (R393, R410, R417). -/
def Source.maxResp : Source → Nat
  | .udp _ _ _ => 1452
  | _ => 2048

/-- READ_PART's value in a response with `room` bytes left for it (R392). -/
def readPart (bs : List Byte) (off room : Nat) : Nat × List Byte :=
  let room := room / 4 * 4 - 4
  if bs.length < off then (AS.invalid, [])
  else if room = 0 then (AS.noRoom, [])
  else (AS.ok, beBytes 4 bs.length ++ slice bs off room)

/-- READ_PART of an element. -/
def Dev.readPartEl (ep : Nat) (d : Dev) (c o e off room : Nat) : Dev × Nat × List Byte :=
  let x := Dev.readEl ep d c o e false
  match x.2.2 with
  | some (_, .raw bs) => (x.1, readPart bs off room)
  | some (_, .num _) => (d, AS.invalid, [])
  | none => (d, x.2.1, [])

/-- One record of a request in a message with session `sid`: the response records. `room` is what is left for its value. -/
def Dev.runReq (ep : Nat) (d : Dev) (src : Source) (tag sid room : Nat) (r : Req) : Dev × List Resp :=
  let c := Source.cls src
  let one (d : Dev) (st : Nat) (v : List Byte) : Dev × List Resp := (d, [{ st := st, op := r.op, obj := r.obj, el := r.el, val := v }])
  let ses := Dev.session d src sid
  let known := [1, 2, 3, 4, 5, 6, 7, 0x10, 0x11, 0x12].contains r.op
  if r.flags ≠ 0 ∨ r.res ≠ 0 ∨ known = false then one d AS.malformed []
  else if sid ≠ 0 ∧ ses.isNone then one d AS.noSession []
  else
    match r.op with
    | 1 | 3 =>
      let x := Dev.readEl ep d c r.obj r.el (r.op == 3)
      (match x.2.2 with
       | some (row, v) => one x.1 x.2.1 (DictRow.bytes row v)
       | none => one x.1 x.2.1 [])
    | 2 =>
      (match ses with
       | none =>
         let x := Dev.writeOne ep d src r.obj r.el (fun row => DictRow.parse row r.val)
         one x.1 x.2 []
       | some s =>
         let x := Dev.collect d s r.obj r.el r.val
         one x.1 x.2 [])
    | 4 =>
      if r.val.length ≠ 4 then one d AS.malformed []
      else
        let x := Dev.readPartEl ep d c r.obj r.el (beNat r.val) room
        one x.1 x.2.1 x.2.2
    | 5 =>
      (match ses with
       | none => one d AS.noSession []
       | some s =>
         if r.val.length < 4 then one d AS.invalid []
         else
           let x := Dev.collectPart d s r.obj r.el (beAt r.val 0 4) (r.val.drop 4)
           one x.1 x.2 [])
    | 6 =>
      (match Dict.find r.obj r.el with
       | some row => one d AS.ok (Dev.describe d row r.obj r.el)
       | none => one d AS.noObject [])
    | 7 =>
      (match Dict.next r.obj with
       | some o => one d AS.ok (beBytes 2 o)
       | none => one d AS.noObject [])
    | 0x10 =>
      let x := Dev.openSession d src
      one x.1 x.2.1 x.2.2
    | 0x11 =>
      (match ses with
       | none => one d AS.noSession []
       | some s =>
         let x := Dev.commitSession ep d s tag
         let own := x.2.2.map (fun y => ({ st := y.2, op := y.1.op, obj := y.1.obj, el := y.1.el, val := [] } : Resp))
         let own := if 8 * own.length ≤ room then own
                    else (own.filter (fun y => y.st != AS.notApplied)).take (room / 8)
         (x.1, own ++ [{ st := x.2.1, op := r.op, obj := r.obj, el := r.el, val := [] }]))
    | _ =>
      (match ses with
       | none => one d AS.noSession []
       | some s => one (Dev.endSession d s.id) AS.ok [])

/-- The response records that fit: a record whose value does not fit ends with NO_ROOM. -/
def fitRecords (max : Nat) : Nat → List Resp → List Resp
  | _, [] => []
  | used, r :: t =>
    if max < used + 8 then []
    else if max < used + 8 + pad4 r.val.length then
      { r with st := AS.noRoom, val := [] } :: fitRecords max (used + 8) t
    else r :: fitRecords max (used + 8 + pad4 r.val.length) t

/-- The records of a request, in order, to one that stops the firmware (R394, R446). -/
def Dev.runReqs (ep : Nat) (d : Dev) (src : Source) (tag sid used : Nat) : List Req → Dev × List Resp
  | [] => (d, [])
  | r :: t =>
    let x := Dev.runReq ep d src tag sid (Source.maxResp src - used - 8) r
    let fit := fitRecords (Source.maxResp src) used x.2
    if x.1.fw.running = false then (x.1, fit)
    else
    let used := fit.foldl (fun n y => n + 8 + pad4 y.val.length) used
    let y := Dev.runReqs ep x.1 src tag sid used t
    (y.1, fit ++ y.2)

/-- A whole message: the part after it and the response, none where the message is malformed (R392) or stops the firmware
(R394, R419). -/
def Dev.runMessage (ep : Nat) (d : Dev) (src : Source) (bs : List Byte) : Dev × Option (List Byte) :=
  match request bs with
  | none => (d, none)
  | some (tag, sid, rs) =>
    let x := Dev.runReqs ep d src tag sid 16 rs
    (x.1, if x.1.fw.running then some (response tag sid x.2) else none)

/-! The mailbox (R393, R394). -/

/-- The request in MBX_DATA runs and its response takes its place. One that stops the firmware stays busy until it runs again
(R394). A length out of range fails (Table 8). -/
def Dev.serveMbx (ep : Nat) (d : Dev) (p : Nat) : Dev :=
  let h := Dev.hp d p
  if h.mbxReq < 16 ∨ 2048 < h.mbxReq then Dev.setHp d p { h with mbxState := 3, mbxError := 1 }
  else
  let bs := (List.range (h.mbxReq % 4096)).map (fun i => SMap.get h.mbxData i 0)
  let x := Dev.runMessage ep d (.host (if p = 0 then 0 else 1)) bs
  let h := Dev.hp x.1 p
  match x.2 with
  | some r =>
    Dev.setHp x.1 p { h with mbxState := 2, mbxError := 0, mbxLen := r.length,
                             mbxData := r.zipIdx.foldl (fun m y => SMap.set m y.2 y.1 0) h.mbxData }
  | none =>
    if x.1.fw.running then Dev.setHp x.1 p { h with mbxState := 3, mbxError := 2, mbxLen := 0 }
    else { x.1 with fw := { x.1.fw with lostMbx := x.1.fw.lostMbx ++ [p] } }

/-- A write of MBX_CMD with go 1 and length `len`. -/
def Dev.mbxSubmit (ep : Nat) (d : Dev) (p len : Nat) : Dev :=
  let h := Dev.hp d p
  if h.mbxState = 1 then Dev.count d K.dictMbxDiscards 1
  else
    let h := { h with mbxCmd := len, mbxReq := len, mbxState := 1, mbxError := 0, mbxLen := 0 }
    if d.fw.running then Dev.serveMbx ep (Dev.setHp d p h) p
    else
      let d := Dev.setHp d p h
      { d with fw := { d.fw with heldMbx := d.fw.heldMbx ++ [p] } }

/-- The firmware runs again: the requests that its stop cut off have failed, and submissions that waited are served (R394). -/
def Dev.serveHeld (ep : Nat) (d : Dev) : Dev :=
  let d := d.fw.lostMbx.foldl (fun d p =>
    let h := Dev.hp d p
    if h.mbxState = 1 then Dev.setHp d p { h with mbxState := 3, mbxError := 3, mbxLen := 0 } else d)
    { d with fw := { d.fw with lostMbx := [] } }
  let ps := d.fw.heldMbx
  ps.foldl (fun d p => if (Dev.hp d p).mbxState = 1 then Dev.serveMbx ep d p else d) { d with fw := { d.fw with heldMbx := [] } }

/-! The direct window (R389 to R391). -/

/-- A failed access of port p's window. -/
def Dev.directFail (d : Dev) (p st o e : Nat) : Dev :=
  let k := if p = 0 then K.dictDirectStatusA else K.dictDirectStatusB
  Dev.setEl d k (st + o * 2 ^ 8 + e * 2 ^ 24 + (bits (Dev.el d k) 32 32 + 1) % 2 ^ 32 * 2 ^ 32)

/-- A read of 8 bytes of the slot of an element: its value extended to 64 bits, zero where it fails. -/
def Dev.directRead (ep : Nat) (d : Dev) (p o e : Nat) : Dev × Nat :=
  let fail (d : Dev) (st : Nat) : Dev × Nat := (Dev.directFail d p st o e, 0)
  if d.fw.running = false then fail d AS.restarting
  else
    match Dict.find o e with
    | some r =>
      if r.acc != .wo && (r.ty.raw || r.ty == .time) then fail d AS.invalid
      else
        let x := Dev.readEl ep d p o e false
        (match x.2.2 with
         | some (row, v) => (x.1, if row.ty == .s32 then unsgn 64 (sgn 32 v.nat) else v.nat)
         | none => fail d x.2.1)
    | none => fail d AS.noObject

/-- The value that a window write of `size` bytes at the lower (`hi` false) or upper half spells. -/
def directParse (size v : Nat) (hi : Bool) (r : DictRow) : Option EVal :=
  let w := 8 * tyLen r.ty
  if r.ty.raw || r.ty == .time then none
  else if size = 8 then
    (if r.ty == .s32 then (if v < 2 ^ 31 ∨ 2 ^ 64 - 2 ^ 31 ≤ v then some (.num (v % 2 ^ 32)) else none)
     else if v < 2 ^ w then some (.num v) else none)
  else if hi || decide (32 < w) then none
  else if v < 2 ^ w then some (.num v) else none

/-- A write of the slot of an element; none is taken while the firmware does not run, an offset for a servo neither (R390,
log 137). -/
def Dev.directWrite (ep : Nat) (d : Dev) (p o e size v : Nat) (hi : Bool) : Dev :=
  if d.fw.running = false then Dev.directFail d p AS.restarting o e
  else
    let x := Dev.writeOne ep d (.host (if p = 0 then 0 else 1)) o e (directParse size v hi)
    if x.2 = AS.ok then x.1 else Dev.directFail x.1 p x.2 o e

/-! BAR0 (R333, R334). -/

/-- Whether BAR0 accepts a request of `size` bytes at `off`. -/
def bar0Ok (off size : Nat) : Bool :=
  ((size == 4 || size == 8) && off % size == 0 && decide (off < 0x10000000))
    || (decide (0x1800 ≤ off ∧ off + size ≤ 0x2000) && decide (4 ≤ size ∧ size ≤ 256) && size % 4 == 0 && off % 4 == 0)

/-- The 64-bit register at an offset, but for TXTS_POP and the window (R285, R333). -/
def Dev.bar0Reg (d : Dev) (p off : Nat) : Nat :=
  let h := Dev.hp d p
  let n := (off - 0x200000) / 0x40
  if off = 0 then Dev.el d K.idDevice + Dev.el d K.idRevision * 2 ^ 16 + Dev.el d K.idSerial % 2 ^ 32 * 2 ^ 32
  else if off = 0x08 then
    Dev.el d (K.hostMode 0) + 2 * p + 4 * b2n d.fw.running + 8 * b2n d.fw.restarting + 16 * Dev.el d (K.hostState p)
  else if off = 0x10 then
    (if Dev.x8 d then 0
     else Dev.el d (K.hostState (1 - p)) + 4 * Dev.el d (K.hostLostReason (1 - p)) + Dev.el d (K.hostLosses (1 - p)) % 2 ^ 32 * 2 ^ 32)
  else if off = 0x20 then h.evtCause.toNat
  else if off = 0x28 then h.evtMask.toNat
  else if off = 0x1000 then h.mbxCmd
  else if off = 0x1008 then h.mbxState + 4 * h.mbxError + 256 * h.mbxLen
  else if 0x1800 ≤ off ∧ off < 0x2000 then leNat ((List.range 8).map (fun i => SMap.get h.mbxData (off - 0x1800 + i) 0))
  else if 0x200000 ≤ off ∧ off < 0x200400 then
    (let q := Dev.txts d n
     if off % 0x40 = 0x08 then h.txtsHold.toNat
     else if off % 0x40 = 0x10 then q.entries.length + 128 * b2n q.overflow + q.discards % 2 ^ 32 * 2 ^ 32
     else 0)
  else if 0x300000 ≤ off ∧ off < 0x308000 then
    (let x := SMap.get h.msix ((off - 0x300000) / 16) { addr := 0, data := 0, masked := true }
     if off % 16 = 0 then x.addr else x.data + b2n x.masked * 2 ^ 32)
  else if 0x308000 ≤ off ∧ off < 0x308100 then
    (List.range 64).foldl (fun n i => n + b2n (SMap.get h.msixPending ((off - 0x308000) * 8 + i) false) * 2 ^ i) 0
  else 0

/-- A BAR0 read (R333, R334, R390). -/
def Dev.bar0Read (ep : Nat) (d : Dev) (p off size : Nat) : Dev :=
  if Dev.hostExists d p = false then d
  else if bar0Ok off size = false then Dev.badAccess d p true
  else if 0x1800 ≤ off ∧ off < 0x2000 then
    Dev.emit d (.completion p (some (leNat ((List.range size).map (fun i => SMap.get (Dev.hp d p).mbxData (off - 0x1800 + i) 0)))))
  else if 0x200000 ≤ off ∧ off < 0x200400 ∧ off % 0x40 = 0 ∧ size = 8 then Dev.txtsPop d p ((off - 0x200000) / 0x40)
  else if 0x200000 ≤ off ∧ off < 0x200400 ∧ off % 0x40 < 8 then Dev.emit d (.completion p (some 0))
  else
    let x := if 0x8000000 ≤ off then
        Dev.directRead ep d p ((off - 0x8000000) / 0x800) ((off - 0x8000000) / 8 % 256)
      else (d, Dev.bar0Reg d p (off / 8 * 8))
    Dev.emit x.1 (.completion p (some (if size = 8 then x.2 else bits x.2 (off % 8 * 8) 32)))

/-- A 64-bit register after a write of `size` bytes at `off`. -/
def mergeReg (old off size v : Nat) : Nat := if size = 8 then v else putBits old (off % 8 * 8) 32 v

/-- A BAR0 write (R285, R333, R334, R336, R390, R393, R394). -/
def Dev.bar0Write (ep : Nat) (d : Dev) (p off size v : Nat) : Dev :=
  let h := Dev.hp d p
  let v := v % 2 ^ (8 * size)
  if Dev.hostExists d p = false then d
  else if bar0Ok off size = false then Dev.badAccess d p false
  else if off / 8 = 3 then Dev.heartbeat d p
  else if off / 8 = 4 then Dev.causeClear d p (mergeReg 0 off size v)
  else if off / 8 = 5 then Dev.setHp d p { h with evtMask := BitVec.ofNat 64 (mergeReg h.evtMask.toNat off size v) }
  else if off / 8 = 0x200 then
    (let w := mergeReg h.mbxCmd off size v
     if bit w 12 && off % 8 == 0 then Dev.mbxSubmit ep d p (w % 4096)
     else Dev.setHp d p { h with mbxCmd := w % 4096 })
  else if 0x1800 ≤ off ∧ off < 0x2000 then
    (if h.mbxState = 1 then Dev.count d K.dictMbxDiscards 1
     else Dev.setHp d p { h with
       mbxData := (leBytes size v).zipIdx.foldl (fun m y => SMap.set m (off - 0x1800 + y.2) y.1 0) h.mbxData })
  else if 0x200000 ≤ off ∧ off < 0x200400 ∧ off % 0x40 / 8 = 2 then
    (let n := (off - 0x200000) / 0x40
     if bit (mergeReg 0 off size v) 7 then Dev.setTxts d n { Dev.txts d n with overflow := false } else d)
  else if 0x300000 ≤ off ∧ off < 0x308000 then
    (let i := (off - 0x300000) / 16
     let none_ : MsixEntry := { addr := 0, data := 0, masked := true }
     let x := SMap.get h.msix i none_
     let w := mergeReg (Dev.bar0Reg d p (off / 8 * 8)) off size v
     let x := if off % 16 < 8 then { x with addr := w } else { x with data := w % 2 ^ 32, masked := bit w 32 }
     Dev.msixFlush (Dev.setHp d p { h with msix := SMap.set h.msix i x none_ }) p)
  else if 0x8000000 ≤ off then
    Dev.directWrite ep d p ((off - 0x8000000) / 0x800) ((off - 0x8000000) / 8 % 256) size v (off % 8 != 0)
  else d

/-! A single access by message, and the writes that a command's own row carries. -/

/-- The status and value that an access ends with. -/
def Dev.reply (d : Dev) (src : Source) (st : Nat) (v : List Byte) : Dev := Dev.emit d (.reply src st v)

/-- An access while the main firmware does not run: a host is told RESTARTING during a restart; a datagram is discarded
(R390, R419). -/
def Dev.unserved (d : Dev) (src : Source) : Dev :=
  match src with
  | .host _ => if d.fw.restarting then Dev.reply d src AS.restarting [] else d
  | .udp _ _ _ => Dev.count d K.netUdpDiscards 1
  | .mctp _ _ => d

/-- Run an access when the firmware serves it; a source that is not there sends none (R329). -/
def Dev.serve (d : Dev) (src : Source) (f : Dev → Dev) : Dev :=
  if Dev.present d src = false then d else if d.fw.running then f d else Dev.unserved d src

/-- One write of an element whose value is given as a number or bytes. -/
def Dev.write (ep : Nat) (d : Dev) (src : Source) (k : Nat) (v : EVal) : Dev :=
  if Dev.present d src = false then d
  else if d.fw.running then
    let x := Dev.writeOne ep d src (keyObj k) (keyEl k) (fun _ => some v)
    Dev.reply x.1 src x.2 []
  else Dev.unserved d src

/-- Writes in order, to the first that is refused; its status, or OK. -/
def Dev.writeAll (ep : Nat) (d : Dev) (src : Source) : List WItem → Dev × Nat
  | [] => (d, AS.ok)
  | x :: t =>
    let y := Dev.writeOne ep d src (keyObj x.k) (keyEl x.k) (fun _ => some x.v)
    if y.2 = AS.ok then Dev.writeAll ep y.1 src t else y

/-- The writes of a command: its parameters, then its start element (R396). -/
def Dev.command (ep : Nat) (d : Dev) (src : Source) (xs : List WItem) : Dev :=
  Dev.serve d src (fun d =>
    let x := Dev.writeAll ep d src xs
    Dev.reply x.1 src x.2 [])

end Sys2Proof.Machine
end

