-- ==== Sys2Proof/Machine/Boot.lean ====
section
/-! DEFINITION. The configuration store's generations, the start of the main firmware, the end of a management restart
(R397 to R401, R446, R483, R495). -/
namespace Sys2Proof.Machine

/-! Generations (R397 to R399). -/

def sectorBytes : Nat := 262144
def genMax : Nat := 153600

/-- Bytes of the generation record that holds these items. -/
def Dev.genBytes (d : Dev) (xs : List StoreItem) : Nat :=
  20 + xs.foldl (fun n x => n + entryBytes (entryValue x.id (Dev.itemBytes d x))) 0

/-- Generation record n of these entries (Table 9). -/
def genRecord (n : Nat) (xs : List (Nat × List Byte)) : List Byte :=
  let body := xs.flatMap (fun x => entryOf x.1 x.2)
  let r := leBytes 4 0x53474643 ++ leBytes 4 (20 + body.length) ++ leBytes 8 n ++ body
  r ++ leBytes 4 (fcs32 r)

/-- Whether the CRC of a record is good, and its generation. -/
def genGood (r : List Byte) : Bool :=
  decide (20 ≤ r.length) && leNat (r.take 4) == 0x53474643 && leNat (slice r 4 4) == r.length
    && leNat (r.drop (r.length - 4)) == fcs32 (r.take (r.length - 4))
def genNum (r : List Byte) : Nat := leNat (slice r 8 8)

/-- The entries of a record: what each names, and its bytes, none for a removal. -/
def genEntries : Nat → List Byte → List (Nat × List Byte)
  | 0, _ => []
  | f + 1, bs =>
    if bs.length < 8 then []
    else
      let n := leNat (slice bs 4 2)
      let k := leNat (slice bs 0 2) * 2 ^ 8 + byteAt bs 2
      let v := slice bs 8 n
      let x := if byteAt bs 3 = 2 then (k + leNat (v.take 8) * 2 ^ 24, v.drop 8) else (k, v)
      x :: genEntries f (bs.drop (8 + (n + 7) / 8 * 8))

/-- The good records of a copy with their sectors, in the order of their generations. -/
def CfgCopy.good (c : CfgCopy) : List (Nat × List Byte) :=
  let put (l : List (Nat × List Byte)) (x : Nat × List Byte) : List (Nat × List Byte) :=
    l.filter (fun y => decide (genNum y.2 ≤ genNum x.2)) ++ [x] ++ l.filter (fun y => decide (genNum x.2 < genNum y.2))
  ((c.flatMap (fun s => s.2.map (fun r => (s.1, r)))).filter (fun x => genGood x.2)).foldl put []

/-- The generation that a copy ends with, 0 for none; whether it can be read: it is blank, or a record of it is good. -/
def CfgCopy.last (c : CfgCopy) : Nat := (CfgCopy.good c).foldl (fun n x => max n (genNum x.2)) 0
def CfgCopy.readable (c : CfgCopy) : Bool := c.all (fun s => s.2.isEmpty) || !(CfgCopy.good c).isEmpty

/-- Record an item in the store, from sector s: its bytes, or its removal. -/
def DictS.recordAt (x : DictS) (s id : Nat) (bs : List Byte) : DictS :=
  if bs.isEmpty then { x with store := SMap.del x.store id, storeAt := SMap.del x.storeAt id }
  else { x with store := SMap.ins x.store id bs, storeAt := SMap.ins x.storeAt id s }

/-- Replay a copy: every record whose CRC is good (R399). -/
def DictS.replay (x : DictS) (c : CfgCopy) : DictS :=
  (CfgCopy.good c).foldl (fun x r =>
    (genEntries r.2.length (slice r.2 16 (r.2.length - 20))).foldl (fun x e => DictS.recordAt x r.1 e.1 e.2) x)
    { x with store := [], storeAt := [] }

/-- The record at place i of sector s of a copy no longer matches its CRC; no place: the sector has no ready marker, and is
erased again (R445). -/
def CfgCopy.hurt (c : CfgCopy) (s : Nat) (i : Option Nat) : CfgCopy :=
  let rs := SMap.get c s []
  match i.bind (fun i => rs[i]?.map (fun r => (i, r))) with
  | some (i, r) => SMap.set c s (rs.set i (splice r (r.length - 1) [byteAt r (r.length - 1) + 1])) []
  | none => if i.isNone then SMap.del c s else c

/-- Copy k of the store. -/
def DictS.copy (x : DictS) (k : Nat) : CfgCopy := (x.copies[k]?).getD []

/-- The batches that wait, in the order of their first record. -/
def pendGroups (xs : List StoreItem) : List Nat := (xs.map (fun x => x.group)).eraseDups

/-- What the next generation carries: whole batches, in order, while the record stays within 150 KiB. -/
def Dev.nextGen (d : Dev) : List StoreItem :=
  let pend := d.dict.cfgPend
  (pendGroups pend).foldl (fun (a : Bool × List StoreItem) g =>
    let xs := a.2 ++ pend.filter (fun x => x.group == g)
    if a.1 && decide (Dev.genBytes d xs ≤ genMax) then (true, xs) else (false, a.2)) (true, []) |>.2

/-- The live entries of the records in sector s. -/
def DictS.liveIn (x : DictS) (s : Nat) : List (Nat × List Byte) :=
  x.store.filter (fun y => SMap.find x.storeAt y.1 == some s)

/-- Append a record to each copy, in the sector in use: wholly into copy 0, then wholly into copy 1. -/
def DictS.append (x : DictS) (r : List Byte) : DictS :=
  { x with cfgFill := x.cfgFill + r.length,
           copies := x.copies.map (fun c => SMap.set c x.cfgSector (SMap.get c x.cfgSector [] ++ [r]) []) }

/-- One more erase of sector s of copy c: sectors 0 to 31 are copy 0, 32 to 63 copy 1 (R397). -/
def eraseOf (m : SMap Nat) (c s : Nat) : SMap Nat := SMap.set m (c * 32 + s) (SMap.get m (c * 32 + s) 0 + 1) 0

/-- Room for n bytes in the log of each copy: a full sector makes the log continue in the next, which is the oldest and is
erased, its live entries copied forward into it under the last generation `g` (log 145). -/
def DictS.logRoom (g : Nat) : Nat → Nat → DictS → DictS
  | 0, _, x => x
  | f + 1, n, x =>
    if x.cfgFill + n ≤ sectorBytes then x
    else
      let s := (x.cfgSector + 1) % 32
      let live := DictS.liveIn x s
      let x := { x with
        cfgSector := s, cfgFill := 0, cfgErases := eraseOf (eraseOf x.cfgErases 0 s) 1 s,
        copies := x.copies.map (fun c => SMap.del c s) }
      DictS.logRoom g f n (if live.isEmpty then x else DictS.append x (genRecord g live))

/-- The most erases of any sector; each further 1,000 beyond 20,000 raise an error (R515, Table 9). -/
def Dev.eraseMax (d : Dev) : Dev :=
  let old := Dev.el d K.cfgsEraseMax
  let new := d.dict.cfgErases.foldl (fun n y => max n y.2) old
  let d := Dev.setEl d K.cfgsEraseMax new
  if 20000 ≤ new ∧ old / 1000 < new / 1000 then Dev.containedF d 13 0x0003 0x08 0 else d

/-- CFG_GENERATION_WRITE: a generation, once the bucket holds its cost (R398, R399). -/
def Dev.writeGeneration (d : Dev) : Dev :=
  let xs := Dev.nextGen d
  let n := Dev.genBytes d xs
  let cost := ceilDiv n 256
  if d.fw.running = false ∨ xs = [] then d
  else if Dev.flashOk d = false then Dev.flashWait d .generation
  else
    match Bucket.take (Dev.fill d d.dict.tokens 1 600) cost with
    | none => d
    | some b =>
      let recs := xs.map (fun x => (x.id, Dev.itemBytes d x))
      let g := Dev.el d K.cfgsGeneration
      let x := DictS.append (DictS.logRoom g 32 n { d.dict with tokens := b }) (genRecord (g + 1) recs)
      let x := recs.foldl (fun (a : DictS) y => DictS.recordAt a a.cfgSector y.1 y.2) x
      let ids := xs.map (fun y => y.id)
      let x := { x with cfgPend := x.cfgPend.filter (fun y => !ids.contains y.id) }
      let d := Dev.addEl (Dev.eraseMax { d with dict := x }) 64 K.cfgsGeneration 1
      if x.cfgPend.any (fun y => decide (y.group < x.cfgSync)) then d else Dev.setEl d K.cfgsSyncStatus 0

/-! The main firmware starts (R495, step 6). -/

/-- The stored values of elements. -/
def Dev.storedItems (d : Dev) : List WItem :=
  d.dict.store.filterMap (fun x => (rwpRow x.1).map (fun r => { k := x.1, v := if r.ty.raw then .raw x.2 else .num (leNat x.2) }))

/-- A store whose last accepted cfgs.clear is 1 loses every operator's value and the record of the clear itself (R383, R401). -/
def DictS.cleared (x : DictS) : DictS :=
  if leNat (SMap.get x.store K.cfgsClear []) ≠ 1 then x
  else
    let own (k : Nat) : Bool := (rwpRow k).isNone || (decide (0x0600 ≤ keyObj k ∧ keyObj k < 0x0608) && keyEl k == 0x12)
    let keep (k : Nat) : Bool := k != K.cfgsClear && own k
    { x with store := x.store.filter (fun y => keep y.1), storeAt := x.storeAt.filter (fun y => keep y.1) }

/-- The stored values come into force, with the effects that their chapters give them; what waits for an epoch flip waits.
`warm`: the management ports keep their links and addresses. -/
def Dev.applyStored (ep : Nat) (d : Dev) (warm : Bool) : Dev :=
  let xs := Dev.storedItems d
  let olds := xs.map (fun x => Dev.el d x.k)
  let d := xs.foldl Dev.putItem d
  let later := xs.filter (fun x => match rwpRow x.k with
    | some r => r.com != .now
    | none => false)
  let d := { d with dict := { d.dict with waiting := later.map (fun x => x.k) } }
  let d := Dev.commitClass (Dev.commitClass d .boot) .restart
  (xs.zip olds).foldl (fun d x =>
    if warm && decide (0x1811 ≤ keyObj x.1.k ∧ keyObj x.1.k ≤ 0x1812) then d
    else Dev.effect ep d (.host 0) x.1 x.2) d

/-- What the loops of D0 ran by since a full warm reset gives way to the store: a setting that it does not hold is the
default again. -/
def Dev.dropSettings (d : Dev) : Dev :=
  { d with dict := { d.dict with
    vals := d.dict.vals.filter (fun x => !loopSetting x.1), blobs := d.dict.blobs.filter (fun x => !loopSetting x.1),
    force := d.dict.force.filter (fun x => !loopSetting x.1), forceB := d.dict.forceB.filter (fun x => !loopSetting x.1) } }

/-- The part's own records: life, trips, ageing, the newest crash record. `warm`: D0 has kept its counts and points. -/
def Dev.applyParts (d : Dev) (warm : Bool) : Dev :=
  let st (k : Nat) : List Byte := SMap.get d.dict.store k []
  let acc := leNat (st K.errLifeEquivH)
  let d :=
    if warm then d
    else
      let d := [K.lifePowerOnH, K.lifeColdResets, K.thmTrips, K.ageSteps].foldl (fun d k => Dev.setEl d k (leNat (st k))) d
      let d := [K.thmLastTrip, K.ageHistory].foldl (fun d k => if (st k).isEmpty then d else Dev.setBlob d k (st k)) d
      (List.range 16).foldl (fun d i =>
        match SMap.find d.dict.store (K.agePointMv + 2 ^ 24 + i) with
        | some bs => { d with pwr := { d.pwr with points := SMap.ins d.pwr.points i (leNat bs) } }
        | none => d) d
  let d := Dev.setEl { d with err := { d.err with lifeAcc := acc } } K.errLifeEquivH (acc / 2 ^ 32 % 2 ^ 32)
  let d := if (st K.errCrashLast).isEmpty || d.err.crashAt.isSome then d else Dev.setBlob d K.errCrashLast (st K.errCrashLast)
  let n := Dev.el d K.lifeColdResets + 1
  Dev.persistPart (Dev.setEl d K.lifeColdResets n) K.lifeColdResets (leBytes 4 n)

/-- The rails that the store names: their states, and the points of those with avs (R459, R476). `warm`: the points stand. -/
def Dev.startRails (d : Dev) (warm : Bool) : Dev :=
  let es := Dev.rails d
  let avs := (List.zip (List.range 16) es).filter (fun x => railAddr x.2 != 0 && railAvs x.2)
  let d := if warm && (Dev.blob d K.pwrRailState).length == es.length then d else Dev.setBlob d K.pwrRailState (zeros es.length)
  let d := avs.foldl (fun d x =>
    Dev.setBlob d K.agePointMv (splice (Dev.blob d K.agePointMv) (2 * x.1) (leBytes 2 (Dev.point d x.1 / 2)))) d
  if warm then d
  else avs.foldl (fun d x =>
    Dev.emit d (.vout (railAddr x.2) (railPage x.2) (Dev.point d x.1 + 2 * Dev.el d K.ageGuardMv))) d

/-- The servos start from the saved rates, held to the 40 bits of the rate word (R264, R274, log 136). -/
def Dev.startServos (d : Dev) : Dev :=
  (List.range 8).foldl (fun d b =>
    let v := clampI (Dev.elS d 64 (K.tbRateSaved b)) (-(2 ^ 39)) (2 ^ 39 - 1)
    Dev.setBase d b { Dev.base d b with rho := v, integ := v, rf := v }) d

/-- A latched trip is recorded and announced (R483, R509). -/
def Dev.takeTrip (d : Dev) : Dev :=
  match d.pwr.latch with
  | none => d
  | some (s, t, h) =>
    let bs := leBytes 2 s ++ leBytes 2 (unsgn 16 t) ++ leBytes 4 h
    let n := (Dev.el d K.thmTrips + 1) % 2 ^ 32
    let d := { d with pwr := { d.pwr with latch := none } }
    let d := Dev.persistPart (Dev.setEl d K.thmTrips n) K.thmTrips (leBytes 4 n)
    let d := Dev.persistPart (Dev.setBlob d K.thmLastTrip bs) K.thmLastTrip bs
    Dev.setFatal (Dev.notice (Dev.raise d 8) 8 16 5 (leNat bs)) 7

/-- A firmware that runs completes the programming of fuses, its window starts, the granary is laid out if it waited for it, and
what else waited is served (R230, R394, R440, R442). -/
def Dev.firmwareUp (ep : Nat) (d : Dev) (spoil : Nat) : Dev :=
  let d := { d with fw := { d.fw with running := true, storeRead := true, windowAt := d.ticks } }
  let d := if Dev.el d K.fwTrial = 1 then d else Dev.blowFuses d (Dev.el d K.fwRunningArb) spoil
  Dev.serveHeld ep (Dev.granLayout d)

/-- The management ports at the start of the firmware: enabled ones begin acquisition, those with a link send LLDP; one whose
link came up while the firmware was away, or whose lease ended then, starts with its addresses now (R409, R419). -/
def Dev.startMports (d : Dev) (warm : Bool) : Dev :=
  [0, 1].foldl (fun d m =>
    if warm && (!Dev.mportUp d m || (Dev.mport d m).dadLl != 0) then
      let d := if Dev.mportUp d m && Dev.el d (K.mportIpv4Mode m) == 1 && (Dev.mport d m).lease.isNone && (Dev.mport d m).dhcp == 0
        then Dev.dhcpDiscover d m else d
      Dev.lldpSend d m
    else if !warm && Dev.el d (K.mportAdmin m) == 1 && Dev.el d (K.mportState m) == 0 then Dev.setEl d (K.mportState m) 1
    else Dev.mportStart d m) d

/-- Every sector of copy c is erased once more. -/
def eraseCopy (m : SMap Nat) (c : Nat) : SMap Nat := (List.range 32).foldl (fun m s => eraseOf m c s) m

/-- The flash part of reading the store: the copy that ends with the lower generation is rewritten to match the other, and
where a clear was accepted both are written anew with the part's own records, under the last generation (R399, R401,
log 176). -/
def Dev.storeFix (d : Dev) : Dev :=
  let a := DictS.copy d.dict 0
  let b := DictS.copy d.dict 1
  let later := decide (CfgCopy.last a < CfgCopy.last b)
  let c := if later then b else a
  let d :=
    if a == b then d
    else
      Dev.addEl { d with dict := { d.dict with
        copies := [c, c], cfgErases := eraseCopy d.dict.cfgErases (if later then 0 else 1) } } 32 K.cfgsCopyRepairs 1
        |> fun d => Dev.corrected d (keyObj K.cfgsCopyRepairs) (keyEl K.cfgsCopyRepairs) 1
  let x := DictS.replay d.dict c
  let d :=
    if DictS.cleared x == x then d
    else
      let y := DictS.cleared x
      let z := DictS.append { y with copies := [[], []], cfgSector := 0, cfgFill := 0,
                                     cfgErases := eraseCopy (eraseCopy y.cfgErases 0) 1 } (genRecord (CfgCopy.last c) y.store)
      { d with dict := y.store.foldl (fun z e => DictS.recordAt z 0 e.1 e.2) z }
  Dev.eraseMax d

/-- A sector without a ready marker is erased again (R445). -/
def Dev.sectorErase (d : Dev) (c s : Nat) : Dev :=
  Dev.eraseMax { d with dict := { d.dict with cfgErases := eraseOf d.dict.cfgErases c s } }

/-- The configuration store is read (R399, R509): the copy that ends with the higher complete generation is replayed, without
what a clear removes. What it writes to the flash waits while the flash takes nothing (R444). -/
def Dev.readStore (d : Dev) : Dev :=
  let a := DictS.copy d.dict 0
  let b := DictS.copy d.dict 1
  if !CfgCopy.readable a && !CfgCopy.readable b then
    Dev.setFatal { d with
      dict := { d.dict with store := [], storeAt := [] }, err := { d.err with sticky := d.err.sticky ||| 2 ^ 6 } } 6
  else
    let c := if CfgCopy.last a < CfgCopy.last b then b else a
    let x := DictS.replay d.dict c
    let fixes := a != b || DictS.cleared x != x
    let d := Dev.setEl { d with dict := DictS.cleared x } K.cfgsGeneration (CfgCopy.last c)
    if fixes = false then d else if Dev.flashOk d then Dev.storeFix d else Dev.flashWait d .store

/-- Records of the store that no longer match their CRC: copy, sector, place; a sector without a ready marker is erased again,
once the flash takes it (R444, R445). The erases counted so far are shown. -/
def Dev.hurtStore (d : Dev) (hurt : List (Fin 2 × Fin 32 × Option Nat)) : Dev :=
  let d := Dev.setEl d K.cfgsEraseMax (d.dict.cfgErases.foldl (fun n y => max n y.2) 0)
  let d := { d with dict := { d.dict with
    copies := hurt.foldl (fun (cs : List CfgCopy) h =>
      cs.set h.1.val (CfgCopy.hurt ((cs[h.1.val]?).getD []) h.2.1.val h.2.2)) d.dict.copies } }
  (hurt.filter (fun h => h.2.2.isNone)).foldl (fun d h =>
    if Dev.flashOk d then Dev.sectorErase d h.1.val h.2.1.val else Dev.flashWait d (.sector h.1.val h.2.1.val)) d

/-- MAIN_FIRMWARE_RUNS after a cold or full warm reset. The records `hurt` of the store no longer match their CRC; `spoil` fuses
fail in R442. -/
def Dev.mainFirmware (ep : Nat) (d : Dev) (hurt : List (Fin 2 × Fin 32 × Option Nat)) (spoil : Nat) : Dev :=
  if d.fw.running || d.fw.restarting || d.fw.booted.isNone || Dev.domain d 1 != 1 then d
  else
    let warm := Dev.el d K.resetLastKind == 2
    let d := Dev.readStore (Dev.hurtStore d hurt)
    let d := if warm then Dev.dropSettings d else d
    let d := Dev.shedApply (Dev.applyParts (Dev.applyStored ep d warm) warm)
    let d := Dev.startServos (Dev.startRails d warm)
    let d := if Dev.el d K.granState = 0 then d else Dev.granTotals d
    let d := (List.range 16).foldl (fun d t => if Dev.domain d (6 + t) = 1 then Dev.mcuReload d t else d) d
    let d := Dev.takeTrip (Dev.milestone d 1)
    let d := if Dev.el d K.resetLastKind = 3 then Dev.setFatal d 8 else d
    Dev.startMports (Dev.firmwareUp ep d spoil) warm

/-! The end of a management restart, after its reloads (R446, step 7). -/

def Dev.restartDone (ep : Nat) (d : Dev) (spoil : Nat) : Dev :=
  if d.fw.restarting = false ∨ d.fw.booted.isNone ∨ d.fw.reloads ≠ [] then d
  else
    let d := Dev.commitClass { d with fw := { d.fw with restarting := false } } .restart
    let d := Dev.event (Dev.addEl d 32 K.lifeMgmtRestarts 1) 6 15
    Dev.startMports (Dev.firmwareUp ep d spoil) true

/-! What waits for the flash (R444). -/

/-- An operation that waited begins; what it waited for may have gone by then. A generation is written by its own command. -/
def Dev.flashRun (d : Dev) : FlashOp → Dev
  | .slot t bs => if d.fw.writing = some t then Dev.slotBegin d t bs else d
  | .slotEnd => Dev.slotWriteDone d true
  | .through s => if Dev.owns d s then Dev.stageThrough d s (Dev.stagedOf d s) else d
  | .activate s now =>
    let r := Dev.activate d s now
    Dev.setEl r.1 K.fwUpdateStatus r.2
  | .confirm n => if Dev.el d K.fwTrial = 1 then Dev.confirmNow d n else d
  | .expire => Dev.windowExpire d
  | .generation => d
  | .boot => Dev.bootRom d
  | .store => Dev.storeFix d
  | .sector c s => Dev.sectorErase d c s

/-! Meanings. -/

/-- FLASH_INHIBIT_CLEAR: what waits begins, in its order (R444). -/
def execFlashInhibitClear : State → Host.Outcome State Fault Refusal :=
  liftB (fun d => d.fw.waits.foldl Dev.flashRun { d with fw := { d.fw with pfail := false, flashLow := false, waits := [] } })


def execCfgGenerationWrite : State → Host.Outcome State Fault Refusal := lift Dev.writeGeneration
def execMainFirmwareRuns (hurt : List (Fin 2 × Fin 32 × Option Nat)) (spoil : Fin 129) : State → Host.Outcome State Fault Refusal :=
  liftW (fun ep d => Dev.mainFirmware ep d hurt spoil.val)
def execMgmtRestartDone (spoil : Fin 129) : State → Host.Outcome State Fault Refusal :=
  liftW (fun ep d => Dev.restartDone ep d spoil.val)

end Sys2Proof.Machine
end

