-- ==== Sys2Proof/Machine/DictRows.lean ====
section
/-! DEFINITION. Meanings of the operations of the dictionary: reads, writes, sessions, the direct window and the mailbox
(R383 to R396, R401). -/
namespace Sys2Proof.Machine

/-- Run an access that replies with a status and a value. -/
def Dev.answer (d : Dev) (src : Source) (f : Dev → Dev × Nat × List Byte) : Dev :=
  Dev.serve d src (fun d =>
    let x := f d
    Dev.reply x.1 src x.2.1 x.2.2)

/-- A read as an operation: the status and the value's bytes. -/
def Dev.readOp (ep : Nat) (d : Dev) (src : Source) (o e : Nat) (force : Bool) : Dev × Nat × List Byte :=
  let x := Dev.readEl ep d (Source.cls src) o e force
  (x.1, x.2.1, match x.2.2 with
    | some (r, v) => DictRow.bytes r v
    | none => [])

/-- READ (R384), and a read of BAR0, of BAR2 or of configuration space (R331, R333, R338). -/
def execRead (a : ReadAt) : State → Host.Outcome State Fault Refusal :=
  liftW (fun ep d =>
    match a with
    | .el src o e => Dev.answer d src (fun d => Dev.readOp ep d src o.val e.val false)
    | .bar0 p off size => Dev.bar0Read ep d p.val off size
    | .bar2 p _ _ => Dev.bar2Read d p.val
    | .cfg p i => Dev.cfgRead d p.val i.val)

/-- READ_IN_FORCE (R384). -/
def execReadInForce (src : Source) (o : Fin 65536) (e : Fin 256) : State → Host.Outcome State Fault Refusal :=
  liftW (fun ep d => Dev.answer d src (fun d => Dev.readOp ep d src o.val e.val true))

/-- READ_PART (R392): the room is that of a message with this one record. -/
def execReadPart (src : Source) (o : Fin 65536) (e : Fin 256) (off : Fin 4294967296) : State → Host.Outcome State Fault Refusal :=
  liftW (fun ep d => Dev.answer d src (fun d =>
    Dev.readPartEl ep d (Source.cls src) o.val e.val off.val (Source.maxResp src - 24)))

/-- A write outside a session, or one that joins the session's batch (R383, R395). -/
def Dev.writeOp (ep : Nat) (d : Dev) (src : Source) (sid o e : Nat) (bs : List Byte) : Dev × Nat × List Byte :=
  if sid = 0 then
    let x := Dev.writeOne ep d src o e (fun r => DictRow.parse r bs)
    (x.1, x.2, [])
  else
    match Dev.session d src sid with
    | none => (d, AS.noSession, [])
    | some s =>
      let x := Dev.collect d s o e bs
      (x.1, x.2, [])

def execWrite (src : Source) (sid o : Fin 65536) (e : Fin 256) (bytes : List Byte) : State → Host.Outcome State Fault Refusal :=
  liftW (fun ep d => Dev.answer d src (fun d => Dev.writeOp ep d src sid.val o.val e.val bytes))

/-- ELEMENT_WRITE: a write of an element that has no row of its own (R383). -/
def execElementWrite (src : Source) (o : Fin 65536) (e : Fin 256) (bytes : List Byte) : State → Host.Outcome State Fault Refusal :=
  liftW (fun ep d => Dev.answer d src (fun d => Dev.writeOp ep d src 0 o.val e.val bytes))

/-- WRITE_PART (R395). -/
def execWritePart (src : Source) (sid o : Fin 65536) (e : Fin 256) (off : Fin 4294967296) (bytes : List Byte) :
    State → Host.Outcome State Fault Refusal :=
  liftW (fun _ d => Dev.answer d src (fun d =>
    match Dev.session d src sid.val with
    | none => (d, AS.noSession, [])
    | some s =>
      let x := Dev.collectPart d s o.val e.val off.val bytes
      (x.1, x.2, [])))

/-- DESCRIBE (R392). -/
def execDescribe (src : Source) (o : Fin 65536) (e : Fin 256) : State → Host.Outcome State Fault Refusal :=
  liftW (fun _ d => Dev.answer d src (fun d =>
    match Dict.find o.val e.val with
    | some r => (d, AS.ok, Dev.describe d r o.val e.val)
    | none => (d, AS.noObject, [])))

/-- NEXT_OBJECT (R392). -/
def execNextObject (src : Source) (o : Fin 65536) : State → Host.Outcome State Fault Refusal :=
  liftW (fun _ d => Dev.answer d src (fun d =>
    match Dict.next o.val with
    | some n => (d, AS.ok, beBytes 2 n)
    | none => (d, AS.noObject, [])))

/-- SESSION_OPEN (R395). -/
def execSessionOpen (src : Source) : State → Host.Outcome State Fault Refusal :=
  liftW (fun _ d => Dev.answer d src (fun d => Dev.openSession d src))

/-- SESSION_COMMIT (R395). The value lists the writes of a refused batch, as response records hold them. -/
def execSessionCommit (src : Source) (sid tag : Fin 65536) : State → Host.Outcome State Fault Refusal :=
  liftW (fun ep d => Dev.answer d src (fun d =>
    match Dev.session d src sid.val with
    | none => (d, AS.noSession, [])
    | some s =>
      let x := Dev.commitSession ep d s tag.val
      (x.1, x.2.1, x.2.2.flatMap (fun y => Resp.bytes { st := y.2, op := y.1.op, obj := y.1.obj, el := y.1.el, val := [] }))))

/-- SESSION_DISCARD (R395). -/
def execSessionDiscard (src : Source) (sid : Fin 65536) : State → Host.Outcome State Fault Refusal :=
  liftW (fun _ d => Dev.answer d src (fun d =>
    match Dev.session d src sid.val with
    | none => (d, AS.noSession, [])
    | some s => (Dev.endSession d s.id, AS.ok, [])))

/-- SESSION_TIMEOUT (R395): no message has named the session for dict.session.timeout_s. -/
def execSessionTimeout (sid : Fin 65536) : State → Host.Outcome State Fault Refusal :=
  liftW (fun _ d => Dev.endSession d sid.val)

/-- COMMAND_CLAIM_EXPIRE (R396): 10 s after a result is ready, the claim on its start element ends. -/
def execCommandClaimExpire (o : Fin 65536) (e : Fin 256) : State → Host.Outcome State Fault Refusal :=
  liftW (fun ep d =>
    let k := key o.val e.val
    match cmdStatus k with
    | some s => if Dev.val ep d s = 1 then d else { d with dict := { d.dict with claims := SMap.del d.dict.claims k } }
    | none => d)

/-- MAILBOX_SUBMIT (R393): a write of MBX_CMD with go 1 on host port p. -/
def execMailboxSubmit (p : Fin 2) (len : Fin 4096) : State → Host.Outcome State Fault Refusal :=
  liftW (fun ep d => if Dev.hostExists d p.val then Dev.mbxSubmit ep d p.val len.val else d)

/-- DIRECT_WINDOW_WRITE (R390), and the other BAR0 writes that have no row (R333). -/
def execDirectWindowWrite (p : Fin 2) (off size v : Nat) : State → Host.Outcome State Fault Refusal :=
  liftW (fun ep d => Dev.bar0Write ep d p.val off size v)

/-- CFG_SYNC: a new cfgs.sync.seq (R401). -/
def execCfgSync (src : Source) (seq : Fin 4294967296) : State → Host.Outcome State Fault Refusal :=
  liftW (fun ep d => Dev.write ep d src K.cfgsSyncSeq (.num seq.val))

/-- CFG_CLEAR: 1 written to cfgs.clear (R401). -/
def execCfgClear (src : Source) : State → Host.Outcome State Fault Refusal :=
  liftW (fun ep d => Dev.write ep d src K.cfgsClear (.num 1))

end Sys2Proof.Machine
end

