-- ==== Sys2Proof/Machine/ElementRows.lean ====
section
/-! DEFINITION. Meanings of the rows that are writes of named elements, alone or as a command with its parameters (R383,
R396). -/
namespace Sys2Proof.Machine

/-- AUDIT_REQUEST: a new buf.audit.seq (R167). -/
def execAuditRequest (src : Source) (seq : Fin 4294967296) :
    State → Host.Outcome State Fault Refusal :=
  liftW (fun ep d => Dev.write ep d src K.bufAuditSeq (.num seq.val))

/-- MC_SET: the multicast command with operation 1 (R181). -/
def execMcSet (src : Source) (group : Fin 65536) (list : List Byte) (seq : Fin 4294967296) :
    State → Host.Outcome State Fault Refusal :=
  liftW (fun ep d => Dev.command ep d src [{ k := K.mcOp, v := .num 1 },
    { k := K.mcGroup, v := .num group.val },
    { k := K.mcList, v := .raw list },
    { k := K.mcSeq, v := .num seq.val }])

/-- MC_READ: the multicast command with operation 2 (R181). -/
def execMcRead (src : Source) (group : Fin 65536) (seq : Fin 4294967296) :
    State → Host.Outcome State Fault Refusal :=
  liftW (fun ep d => Dev.command ep d src [{ k := K.mcOp, v := .num 2 },
    { k := K.mcGroup, v := .num group.val },
    { k := K.mcSeq, v := .num seq.val }])

/-- MC_CLEAR: the multicast command with operation 3 (R181). -/
def execMcClear (src : Source) (group : Fin 65536) (seq : Fin 4294967296) :
    State → Host.Outcome State Fault Refusal :=
  liftW (fun ep d => Dev.command ep d src [{ k := K.mcOp, v := .num 3 },
    { k := K.mcGroup, v := .num group.val },
    { k := K.mcSeq, v := .num seq.val }])

/-- PORT_ADMIN_UP: 1 written to port.admin (R50). -/
def execPortAdminUp (src : Source) (p : Fin 1024) :
    State → Host.Outcome State Fault Refusal :=
  liftW (fun ep d => Dev.write ep d src (K.portAdmin p.val) (.num 1))

/-- PORT_ADMIN_DOWN: 0 written to port.admin (R56). -/
def execPortAdminDown (src : Source) (p : Fin 1024) :
    State → Host.Outcome State Fault Refusal :=
  liftW (fun ep d => Dev.write ep d src (K.portAdmin p.val) (.num 0))

/-- TILE_REACH_WRITE: tile.reach (R42). -/
def execTileReachWrite (src : Source) (t : Fin 16) (reach : Fin 256) :
    State → Host.Outcome State Fault Refusal :=
  liftW (fun ep d => Dev.write ep d src (K.tileReach t.val) (.num reach.val))

/-- LANE_ADAPT_RESTART: 1 written to lane.adapt.restart (R44). -/
def execLaneAdaptRestart (src : Source) (lane : Fin 1024) :
    State → Host.Outcome State Fault Refusal :=
  liftW (fun ep d => Dev.write ep d src (K.laneAdaptRestart lane.val) (.num 1))

/-- TILE_SEED_SAVE: 1 written to tile.seed.save (R47). -/
def execTileSeedSave (src : Source) (t : Fin 16) :
    State → Host.Outcome State Fault Refusal :=
  liftW (fun ep d => Dev.write ep d src (K.tileSeedSave t.val) (.num 1))

/-- PROG_STAGE_CHUNK: prog.stage.chunk (R144). -/
def execProgStageChunk (src : Source) (bytes : List Byte) :
    State → Host.Outcome State Fault Refusal :=
  liftW (fun ep d => Dev.write ep d src K.progStageChunk (.raw bytes))

/-- PROG_LOAD: a new prog.load.seq (R144). -/
def execProgLoad (src : Source) (seq : Fin 4294967296) :
    State → Host.Outcome State Fault Refusal :=
  liftW (fun ep d => Dev.write ep d src K.progLoadSeq (.num seq.val))

/-- PROG_LOAD_DISCARD: 1 written to prog.load.discard (R146). -/
def execProgLoadDiscard (src : Source) :
    State → Host.Outcome State Fault Refusal :=
  liftW (fun ep d => Dev.write ep d src K.progLoadDiscard (.num 1))

/-- EPOCH_FLIP: a new epoch.flip.seq (R151). -/
def execEpochFlip (src : Source) (seq : Fin 4294967296) :
    State → Host.Outcome State Fault Refusal :=
  liftW (fun ep d => Dev.write ep d src K.epochFlipSeq (.num seq.val))

/-- STAGE_ABORT: 1 written to epoch.stage.abort (R155). -/
def execStageAbort (src : Source) :
    State → Host.Outcome State Fault Refusal :=
  liftW (fun ep d => Dev.write ep d src K.epochStageAbort (.num 1))

/-- STAGE_RESET: 1 written to epoch.stage.reset (R155). -/
def execStageReset (src : Source) :
    State → Host.Outcome State Fault Refusal :=
  liftW (fun ep d => Dev.write ep d src K.epochStageReset (.num 1))

/-- STACK_RETIRE: gran.stack.retire (R227). -/
def execStackRetire (src : Source) (stack : Fin 256) :
    State → Host.Outcome State Fault Refusal :=
  liftW (fun ep d => Dev.write ep d src K.granStackRetire (.num stack.val))

/-- STACK_UNRETIRE: 1 written to gstack.unretire (R228). -/
def execStackUnretire (src : Source) (stack : Fin 16) :
    State → Host.Outcome State Fault Refusal :=
  liftW (fun ep d => Dev.write ep d src (K.gstackUnretire stack.val) (.num 1))

/-- POL_SET: the policer command with operation 1 (R257). -/
def execPolSet (src : Source) (index : Fin 65536) (cfg : BitVec 64) (seq : Fin 4294967296) :
    State → Host.Outcome State Fault Refusal :=
  liftW (fun ep d => Dev.command ep d src [{ k := K.polOp, v := .num 1 },
    { k := K.polIndex, v := .num index.val },
    { k := K.polCfg, v := .num cfg.toNat },
    { k := K.polSeq, v := .num seq.val }])

/-- POL_READ: the policer command with operation 2 (R257). -/
def execPolRead (src : Source) (index : Fin 65536) (seq : Fin 4294967296) :
    State → Host.Outcome State Fault Refusal :=
  liftW (fun ep d => Dev.command ep d src [{ k := K.polOp, v := .num 2 },
    { k := K.polIndex, v := .num index.val },
    { k := K.polSeq, v := .num seq.val }])

/-- POL_CLEAR_COUNTERS: the policer command with operation 3 (R257). -/
def execPolClearCounters (src : Source) (index : Fin 65536) (seq : Fin 4294967296) :
    State → Host.Outcome State Fault Refusal :=
  liftW (fun ep d => Dev.command ep d src [{ k := K.polOp, v := .num 3 },
    { k := K.polIndex, v := .num index.val },
    { k := K.polSeq, v := .num seq.val }])

/-- TB_STEP: tb.step (R275). -/
def execTbStep (src : Source) (b : Fin 8) (step : BitVec 64) :
    State → Host.Outcome State Fault Refusal :=
  liftW (fun ep d => Dev.write ep d src (K.tbStep b.val) (.num step.toNat))

/-- TB_TIME_SET: tb.time.set (R275). -/
def execTbTimeSet (src : Source) (b : Fin 8) (time : BitVec 96) :
    State → Host.Outcome State Fault Refusal :=
  liftW (fun ep d => Dev.write ep d src (K.tbTimeSet b.val) (.num time.toNat))

/-- TB_RATE_SET: tb.rate.set (R269). -/
def execTbRateSet (src : Source) (b : Fin 8) (rate : BitVec 64) :
    State → Host.Outcome State Fault Refusal :=
  liftW (fun ep d => Dev.write ep d src (K.tbRateSet b.val) (.num rate.toNat))

/-- TB_OFFSET: tb.offset (R270). -/
def execTbOffset (src : Source) (b : Fin 8) (offset : BitVec 64) :
    State → Host.Outcome State Fault Refusal :=
  liftW (fun ep d => Dev.write ep d src (K.tbOffset b.val) (.num offset.toNat))

/-- TB_MASTER_NEW: 1 written to tb.master.new (R273). -/
def execTbMasterNew (src : Source) (b : Fin 8) :
    State → Host.Outcome State Fault Refusal :=
  liftW (fun ep d => Dev.write ep d src (K.tbMasterNew b.val) (.num 1))

/-- TB_SERVO_MODE: tb.servo.mode (R271). -/
def execTbServoMode (src : Source) (b : Fin 8) (mode : Fin 256) :
    State → Host.Outcome State Fault Refusal :=
  liftW (fun ep d => Dev.write ep d src (K.tbServoMode b.val) (.num mode.val))

/-- TALLY_SNAPSHOT: tally.snapshot (R304). -/
def execTallySnapshot (src : Source) (barn : Fin 256) :
    State → Host.Outcome State Fault Refusal :=
  liftW (fun ep d => Dev.write ep d src K.tallySnapshot (.num barn.val))

/-- TALLY_CLEAR: tally.clear (R305). -/
def execTallyClear (src : Source) (barn : Fin 256) :
    State → Host.Outcome State Fault Refusal :=
  liftW (fun ep d => Dev.write ep d src K.tallyClear (.num barn.val))

/-- HIST_CLEAR: 1 written to eq.hist.clear (R301). -/
def execHistClear (src : Source) (q : Fin 16384) :
    State → Host.Outcome State Fault Refusal :=
  liftW (fun ep d => Dev.write ep d src (K.eqHistClear q.val) (.num 1))

/-- HIST_CLEAR_PORT: tel.hist.clear_port (R301). -/
def execHistClearPort (src : Source) (p : Fin 65536) :
    State → Host.Outcome State Fault Refusal :=
  liftW (fun ep d => Dev.write ep d src K.telHistClearPort (.num p.val))

/-- WRAP_CLEAR: 1 written to tel.wrap.clear (R320). -/
def execWrapClear (src : Source) :
    State → Host.Outcome State Fault Refusal :=
  liftW (fun ep d => Dev.write ep d src K.telWrapClear (.num 1))

/-- VEC_BIND: the vector command with operation 1 (R337). -/
def execVecBind (src : Source) (port : Fin 256) (q vector : Fin 65536) (seq : Fin 4294967296) :
    State → Host.Outcome State Fault Refusal :=
  liftW (fun ep d => Dev.command ep d src [{ k := K.vecOp, v := .num 1 },
    { k := K.vecPort, v := .num port.val },
    { k := K.vecQueue, v := .num q.val },
    { k := K.vecVector, v := .num vector.val },
    { k := K.vecSeq, v := .num seq.val }])

/-- VEC_UNBIND: the vector command with operation 2 (R337). -/
def execVecUnbind (src : Source) (port : Fin 256) (q : Fin 65536) (seq : Fin 4294967296) :
    State → Host.Outcome State Fault Refusal :=
  liftW (fun ep d => Dev.command ep d src [{ k := K.vecOp, v := .num 2 },
    { k := K.vecPort, v := .num port.val },
    { k := K.vecQueue, v := .num q.val },
    { k := K.vecSeq, v := .num seq.val }])

/-- VEC_READ: the vector command with operation 3 (R337). -/
def execVecRead (src : Source) (port : Fin 256) (q : Fin 65536) (seq : Fin 4294967296) :
    State → Host.Outcome State Fault Refusal :=
  liftW (fun ep d => Dev.command ep d src [{ k := K.vecOp, v := .num 3 },
    { k := K.vecPort, v := .num port.val },
    { k := K.vecQueue, v := .num q.val },
    { k := K.vecSeq, v := .num seq.val }])

/-- DQ_ENABLE_A: operation 1 written to dq.ctl (R374). -/
def execDqEnableA (src : Source) (q : Fin 2048) :
    State → Host.Outcome State Fault Refusal :=
  liftW (fun ep d => Dev.write ep d src (K.dqCtl q.val) (.num 1))

/-- DQ_ENABLE_B: operation 2 written to dq.ctl (R374). -/
def execDqEnableB (src : Source) (q : Fin 2048) :
    State → Host.Outcome State Fault Refusal :=
  liftW (fun ep d => Dev.write ep d src (K.dqCtl q.val) (.num 2))

/-- DQ_DISABLE: operation 3 written to dq.ctl (R374). -/
def execDqDisable (src : Source) (q : Fin 2048) :
    State → Host.Outcome State Fault Refusal :=
  liftW (fun ep d => Dev.write ep d src (K.dqCtl q.val) (.num 3))

/-- DQ_RESET: operation 4 written to dq.ctl (R374). -/
def execDqReset (src : Source) (q : Fin 2048) :
    State → Host.Outcome State Fault Refusal :=
  liftW (fun ep d => Dev.write ep d src (K.dqCtl q.val) (.num 4))

/-- DQ_RESUME: operation 5 written to dq.ctl (R374). -/
def execDqResume (src : Source) (q : Fin 2048) :
    State → Host.Outcome State Fault Refusal :=
  liftW (fun ep d => Dev.write ep d src (K.dqCtl q.val) (.num 5))

/-- DQ_REHOME_A: operation 6 written to dq.ctl (R374). -/
def execDqRehomeA (src : Source) (q : Fin 2048) :
    State → Host.Outcome State Fault Refusal :=
  liftW (fun ep d => Dev.write ep d src (K.dqCtl q.val) (.num 6))

/-- DQ_REHOME_B: operation 7 written to dq.ctl (R374). -/
def execDqRehomeB (src : Source) (q : Fin 2048) :
    State → Host.Outcome State Fault Refusal :=
  liftW (fun ep d => Dev.write ep d src (K.dqCtl q.val) (.num 7))

/-- FW_STAGE_CHUNK: fw.stage.chunk (R436). -/
def execFwStageChunk (src : Source) (bytes : List Byte) :
    State → Host.Outcome State Fault Refusal :=
  liftW (fun ep d => Dev.write ep d src K.fwStageChunk (.raw bytes))

/-- FW_WRITE_SLOT: update operation 1 with a new fw.update.seq (R439). -/
def execFwWriteSlot (src : Source) (seq : Fin 4294967296) :
    State → Host.Outcome State Fault Refusal :=
  liftW (fun ep d => Dev.command ep d src [{ k := K.fwUpdateOp, v := .num 1 },
    { k := K.fwUpdateSeq, v := .num seq.val }])

/-- FW_ACTIVATE_NOW: update operation 2 with a new fw.update.seq (R439). -/
def execFwActivateNow (src : Source) (seq : Fin 4294967296) :
    State → Host.Outcome State Fault Refusal :=
  liftW (fun ep d => Dev.command ep d src [{ k := K.fwUpdateOp, v := .num 2 },
    { k := K.fwUpdateSeq, v := .num seq.val }])

/-- FW_ACTIVATE_NEXT: update operation 3 with a new fw.update.seq (R439). -/
def execFwActivateNext (src : Source) (seq : Fin 4294967296) :
    State → Host.Outcome State Fault Refusal :=
  liftW (fun ep d => Dev.command ep d src [{ k := K.fwUpdateOp, v := .num 3 },
    { k := K.fwUpdateSeq, v := .num seq.val }])

/-- FW_ABORT: update operation 4 with a new fw.update.seq (R438). -/
def execFwAbort (src : Source) (seq : Fin 4294967296) :
    State → Host.Outcome State Fault Refusal :=
  liftW (fun ep d => Dev.command ep d src [{ k := K.fwUpdateOp, v := .num 4 },
    { k := K.fwUpdateSeq, v := .num seq.val }])

/-- FW_CONFIRM: 1 written to fw.confirm (R441). -/
def execFwConfirm (src : Source) :
    State → Host.Outcome State Fault Refusal :=
  liftW (fun ep d => Dev.write ep d src K.fwConfirm (.num 1))

/-- MGMT_RESTART: a new fw.restart.seq (R446). -/
def execMgmtRestart (src : Source) (seq : Fin 4294967296) :
    State → Host.Outcome State Fault Refusal :=
  liftW (fun ep d => Dev.write ep d src K.fwRestartSeq (.num seq.val))

/-- WARM_ARM: 1 written to reset.warm.arm (R490). -/
def execWarmArm (src : Source) :
    State → Host.Outcome State Fault Refusal :=
  liftW (fun ep d => Dev.write ep d src K.resetWarmArm (.num 1))

/-- WARM_RESET: a new reset.warm.seq, with the straps at their levels (R490, R532). -/
def execWarmReset (src : Source) (seq : Fin 4294967296) (straps : Fin 16) :
    State → Host.Outcome State Fault Refusal :=
  liftW (fun ep d => Dev.strapsIn (Dev.write ep d src K.resetWarmSeq (.num seq.val)) straps.val)

/-- PIPE_RESET: reset.pipe.mask and a new reset.pipe.seq (R492). -/
def execPipeReset (src : Source) (mask : BitVec 16) (seq : Fin 4294967296) :
    State → Host.Outcome State Fault Refusal :=
  liftW (fun ep d => Dev.command ep d src [{ k := K.resetPipeMask, v := .num mask.toNat },
    { k := K.resetPipeSeq, v := .num seq.val }])

/-- FATAL_CLEAR: the bits to clear written to err.fatal (R509). -/
def execFatalClear (src : Source) (mask : BitVec 64) :
    State → Host.Outcome State Fault Refusal :=
  liftW (fun ep d => Dev.write ep d src K.errFatal (.num mask.toNat))

/-- CRASH_CAPTURE: 1 written to err.crash.capture (R510). -/
def execCrashCapture (src : Source) :
    State → Host.Outcome State Fault Refusal :=
  liftW (fun ep d => Dev.write ep d src K.errCrashCapture (.num 1))

/-- CRASH_READ: err.crash.index and a new err.crash.seq (R510). -/
def execCrashRead (src : Source) (index : BitVec 64) (seq : Fin 4294967296) :
    State → Host.Outcome State Fault Refusal :=
  liftW (fun ep d => Dev.command ep d src [{ k := K.errCrashIndex, v := .num index.toNat },
    { k := K.errCrashSeq, v := .num seq.val }])

/-- CAP_POP: a read of cap0.pop or cap1.pop (R291). -/
def execCapPop (src : Source) (c : Fin 2) : State → Host.Outcome State Fault Refusal :=
  liftW (fun ep d => Dev.serve d src (fun d =>
    let x := Dev.readEl ep d (Source.cls src) 0x0608 (keyEl (if c.val = 0 then K.cap0Pop else K.cap1Pop)) false
    Dev.reply x.1 src x.2.1 (match x.2.2 with
      | some (r, v) => DictRow.bytes r v
      | none => [])))

/-- PERF_CONFIG_WRITE: perf.sel or perf.enable of a block (R322). -/
def execPerfConfigWrite (src : Source) (b : Fin 64) (enable : Bool) (v : BitVec 64) :
    State → Host.Outcome State Fault Refusal :=
  liftW (fun ep d => Dev.write ep d src (if enable then K.perfEnable b.val else K.perfSel b.val) (.num v.toNat))

end Sys2Proof.Machine
end

