-- ==== Sys2Proof/Machine/Words.lean ====
section
/-! DEFINITION. Uncorrectable words of scheduler, shaper, policer and flow-control state, and of counters: what each is reset
to (R503, R506, R507). -/
namespace Sys2Proof.Machine

/-! State words (R506). -/

/-- The state behind a word at its initial value. The cell count of a port and a pool is rebuilt from the queue lists, from
which it is always taken here: it comes out the same (log 102). -/
def Dev.stateReset (d : Dev) : StateWord → Dev
  | .tier p t =>
    (Dev.tierQueues d p t).foldl (fun d n =>
      let q := Dev.queue d n
      Dev.setQueue d n { q with tagF := 0, tagH := q.tagH.map (fun _ => 0) }) (Dev.setTierV d p t 0)
  | .qShaper n =>
    let d := Dev.setQueue d n { Dev.queue d n with shE := Dev.now d }
    Dev.recontend (Dev.wheelDel d (portPipe (qPort n)) (ownQueue n)) n
  | .pShaper p =>
    let d := Dev.setPort d p { Dev.port d p with shE := Dev.now d }
    Dev.recontendPort (Dev.wheelDel d (portPipe p) (ownPort p)) p
  | .policer i => Dev.setPolicer d i { Dev.policer d i with e := Dev.now d }
  | .pause p k =>
    let o := Dev.port d p
    Dev.recontendPort (Dev.setPort d p { o with pause := SMap.del o.pause k }) p
  | .held _ _ => d

/-- The unit that the log names. -/
def StateWord.unit : StateWord → Nat
  | .tier p t => p.val * 4 + t.val
  | .qShaper n => n.val
  | .pShaper p => p.val
  | .policer i => i.val
  | .pause p k => p.val * 8 + k.val
  | .held p l => p.val * 8 + l.val

/-- An uncorrectable word of state: reset, counted and logged; no packet is lost (R506). -/
def Dev.stateWord (d : Dev) (w : StateWord) : Dev :=
  Dev.containedF (Dev.count (Dev.stateReset d w) K.errStateResets 1) 8 (keyObj K.errStateResets) (keyEl K.errStateResets)
    (StateWord.unit w)

/-! Counter words (R319, R507). -/

/-- The u64 elements of access ro that hold no count of their own: values, addresses, identifiers, positions, words that
pol.select shows (R319). -/
def notCounters : List Nat :=
  [K.dictDirectStatusA, K.dictDirectStatusB, K.cfgsGeneration, K.idSerial, K.lifeUptimeS, K.ageLimits, K.fwRunningVersion,
   K.epochCount, K.telStoreCapacity, K.telStoreHead, K.polConformPkts, K.polConformBytes, K.polDropPkts, K.polDropBytes]

/-- Whether an element is a statistics counter or a performance counter (R319, R322). -/
def isCounter (k : Nat) : Bool :=
  let o := keyObj k
  let e := keyEl k
  match Dict.find o e with
  | none => false
  | some r =>
    if 0x0C40 ≤ o ∧ o < 0x0C80 then decide (3 ≤ e ∧ e ≤ 0x0A)
    else r.ty == .u64 && r.acc == .ro && !notCounters.contains k
      && !(o == 1 && decide (3 ≤ e ∧ e ≤ 6)) && !(decide (0x0301 ≤ o ∧ o ≤ 0x0303) && e == 2)
      && !(decide (0x0730 ≤ o ∧ o < 0x0740) && decide (e = 2 ∨ e = 3)) && !(decide (0x0C08 ≤ o ∧ o < 0x0C10) && e == 2)
      && !(decide (o = 0x1811 ∨ o = 0x1812) && e == 8) && !(decide (0x2000 ≤ o ∧ o < 0x2800) && e == 0x10)

/-- A counter restarts from zero, is counted, and is logged under its object, element and unit; no wrap bit is set. -/
def Dev.counterLog (d : Dev) (obj el unit : Nat) : Dev :=
  Dev.containedF (Dev.count d K.errCounterResets 1) 10 obj el unit

/-- An uncorrectable counter word: the counter restarts from zero; a tally entry is freed without a record (R507). -/
def Dev.counterWord (d : Dev) : CounterWord → Dev
  | .element o e =>
    if isCounter (key o e) then Dev.counterLog (Dev.setEl d (key o e) 0) o e 0 else d
  | .stat p w =>
    let d := { d with tel := { d.tel with stats := SMap.set d.tel.stats (p * 32 + w) 0 0 } }
    if p.val < 1024 then Dev.counterLog d (0x0C80 + p / 16) (1 + p % 16) w else Dev.counterLog d 0x0C1C (1 + (p - 1024)) w
  | .policer i w =>
    let p := Dev.policer d i
    match w with
    | 0 => Dev.counterLog (Dev.setPolicer d i { p with okPkts := 0 }) (keyObj K.polConformPkts) (keyEl K.polConformPkts) i
    | 1 => Dev.counterLog (Dev.setPolicer d i { p with okBytes := 0 }) (keyObj K.polConformBytes) (keyEl K.polConformBytes) i
    | 2 => Dev.counterLog (Dev.setPolicer d i { p with dropPkts := 0 }) (keyObj K.polDropPkts) (keyEl K.polDropPkts) i
    | 3 => Dev.counterLog (Dev.setPolicer d i { p with dropBytes := 0 }) (keyObj K.polDropBytes) (keyEl K.polDropBytes) i
  | .energy n =>
    let d := { d with pwr := { d.pwr with queueUj := SMap.set d.pwr.queueUj n 0 0 } }
    Dev.counterLog d (0x0280 + n / 256) (1 + n / 16 % 16) (n % 16)
  | .bin i =>
    let d := { d with tel := { d.tel with hist := SMap.set d.tel.hist i 0 0 } }
    if i.val < 2 ^ 20 then Dev.counterLog d (0x4000 + i / 64) (if i.val % 64 < 32 then 0x27 else 0x28) (i % 32)
    else Dev.counterLog d (0x0CC0 + (i - 2 ^ 20) / 512) (1 + (i - 2 ^ 20) / 32 % 16) (i % 32)
  | .tally x =>
    match SMap.find d.tel.tally x with
    | some _ =>
      let b := x.val / 2 ^ 20
      let d := Dev.setEl (Dev.setTally d x none) (K.tallyUsed b) (Dev.el d (K.tallyUsed b) - 1)
      Dev.containedF d 10 (keyObj (K.tallyUsed b)) (keyEl (K.tallyUsed b)) x
    | none => d

end Sys2Proof.Machine
end

