-- ==== Sys2Proof/Machine/Forward.lean ====
section
/-! DEFINITION. The commands of the forwarding path: reception, arbiter, parse, stages, admission, flow control,
selection, transmission, ageing and flush. -/
namespace Sys2Proof.Machine

/-! Ingress (R24, R30, R31, R69, R93). -/

/-- FRAME_RECEIVE (R24, R54): a port that is not up receives nothing. -/
def execFrameReceive (p : Fin 1024) (ph : Fin 6) (bytes : List Byte) (e : RxEnd) (fecBad : Bool) (w : RouriWay) (s : State) :
    Host.Outcome State Fault Refusal :=
  lift (fun d => if Dev.el d (K.portState p) = 5 then Dev.receive d p ph bytes e fecBad w else d) s

/-- FRAME_TAIL_ARRIVE (R69): the frame goes on, or ends. While two wires of a group are failing its packet is marked as a
Rouri error (R62); a packet whose bytes no longer fit the arrival buffer is dropped (R30, log 122). -/
def Dev.tailArrive (d : Dev) (p : Nat) (bytes : List Byte) (e : RxEnd) (fecBad : Bool) (w : RouriWay) : Dev :=
  let l := Dev.linkS d p
  match l.rx with
  | none => d
  | some x =>
    if e = .more then
      let bs := x.2 ++ bytes
      let d := Dev.setLink d p { l with rx := some (x.1, bs) }
      match SMap.find d.pkts x.1 with
      | some k =>
        if Dev.rouriBroken d (portPipe p) 0 then
          Dev.setPkt (Dev.badFlits d (portPipe p) (RouriWay.flits w)) x.1
            { k with frame := bs, mark := if k.mark = 0 then 0x04 else k.mark }
        else (Dev.overArrival d (portPipe p) x.1 bytes.length).getD (Dev.setPkt d x.1 { k with frame := bs })
      | none => d
    else Dev.rxTail d p bytes e fecBad w

def execFrameTailArrive (p : Fin 1024) (bytes : List Byte) (e : RxEnd) (fecBad : Bool) (w : RouriWay) (s : State) :
    Host.Outcome State Fault Refusal :=
  lift (fun d => Dev.tailArrive d p bytes e fecBad w) s

/-- ARBITER_ACCEPT (R30, R31); `ecc` says that the buffer's word is uncorrectable (R503). -/
def execArbiterAccept (n : Fin 16) (ecc : Bool) (s : State) : Host.Outcome State Fault Refusal :=
  lift (fun d => if ecc then Dev.acceptBad d (Dev.accept d n) n else Dev.accept d n) s

/-- The first accepted packet of pipeline n is stamped with the epoch bit, parsed and put before the cost gate (R69,
R70). -/
def Dev.thresherStart (ep : Nat) (d : Dev) (n : Nat) : Dev :=
  let x := Dev.pipe d n
  match x.accepted with
  | [] => d
  | i :: t =>
    if parseReady (Pipe.bank x (ep % 2)) (Dev.pkt d i) && decide (x.gate.length < 256) then
      Dev.parsePkt (Dev.setPipe d n { x with accepted := t, gate := x.gate ++ [i] }) n i (ep % 2)
    else d

/-- THRESHER_START (R69); the cost gate's buffer takes 256 packets (R93). -/
def execThresherStart (n : Fin 16) (s : State) : Host.Outcome State Fault Refusal :=
  liftE (fun ep d => Dev.thresherStart ep d n) s

/-- The lookups of the k-th packet that passes the gate. -/
def looksOf (ws : List LookAt) (k : Nat) : List LookAt := ws.filter (fun w => w.pkt.val == k)

/-- The whole ingress passes of the packets that pass the gate, the first of them the k-th. -/
def Dev.ingressPasses (n : Nat) (ws : List LookAt) (k : Nat) : List Nat → Dev → Dev
  | [], d => d
  | i :: t, d => Dev.ingressPasses n ws (k + 1) t (Dev.ingressPass d n i (looksOf ws k))

/-- The cost gate lets pass what fits in a cost sum of 4. With `fetch` each packet runs its bank's program through the
ingress deparser; without, the first one stands at stage 0 and its instructions come as commands (R93, log 15). `parity` is
the stage that finds a parity error in the first packet, stage 0 in the step form (R503); `ws` names the lookups of the passes
that meet bad words (R127). -/
def Dev.costGate (d : Dev) (n : Nat) (fetch : Bool) (parity : Option (Fin 12)) (ws : List LookAt) : Dev :=
  let x := Dev.pipe d n
  if x.ctx.live then d
  else if fetch then
    let go := gateTake (Dev.costOf d n) 4 x.gate
    let d := if go.length < x.gate.length ∧ go.length < 4 then Dev.perf d n 5 1 else d
    let d := Dev.setPipe d n { Dev.pipe d n with gate := x.gate.drop go.length }
    match parity, go with
    | some k, i :: t => Dev.ingressPasses n ws 1 t (Dev.ingressParity d n k i (looksOf ws 0))
    | _, _ => Dev.ingressPasses n ws 0 go d
  else
    match x.gate with
    | i :: t =>
      if parity.isSome then Dev.ingressParity (Dev.setPipe d n { x with gate := t }) n 0 i []
      else Dev.setPipe d n { x with gate := t, ctx := Dev.ingressCtx d n i }
    | [] => d

/-- COST_GATE_PASS (R93). -/
def execCostGatePass (n : Fin 16) (fetch : Bool) (parity : Option (Fin 12)) (looks : List LookAt) (s : State) :
    Host.Outcome State Fault Refusal := lift (fun d => Dev.costGate d n fetch parity looks) s

/-! Stage instructions (R134 to R139). -/

/-- Run an instruction on the packet in the stages of pipeline n; past the last stage its deparser follows (R134). -/
def Dev.instr (d : Dev) (n : Nat) (f : Dev → StageCtx → Ran) : Dev :=
  let x := Dev.pipe d n
  if x.ctx.live then
    let r := f d x.ctx
    let y := Dev.pipe r.1 n
    if r.2.egress && decide (egressStages ≤ r.2.stage) then
      Dev.endEgress (Dev.setPipe r.1 n { y with ctx := StageCtx.init }) r.2
    else if !r.2.egress && decide (ingressStages ≤ r.2.stage) then
      Dev.endIngress (Dev.setPipe r.1 n { y with ctx := StageCtx.init }) r.2
    else Dev.setPipe r.1 n { y with ctx := r.2 }
  else d

/-- An instruction that works on the packet alone. -/
def Dev.instrOn (d : Dev) (n : Nat) (f : StageCtx → StageCtx) : Dev :=
  Dev.instr d n (fun d c => StageCtx.step d c (fun c => (d, f c)))

/-- A lookup of an ingress-only structure: an egress stage holds none, and the packet stays where it is (R133, R139, log 147). -/
def Dev.instrIn (d : Dev) (n : Nat) (f : Dev → StageCtx → Ran) : Dev :=
  Dev.instr d n (fun d c => if c.egress then (d, c) else StageCtx.step d c (f d))

/-- An operation with a destination (R135, Table 3). `w` is the width less one. -/
def Dev.alu (d : Dev) (n : Nat) (op : AluOp) (dst w a : Nat) (b : Operand) : Dev :=
  Dev.instrOn d n (fun c => StageCtx.alu c op dst (w + 1) a b)

/-- A skip (R135, Table 3). -/
def Dev.skip (d : Dev) (n : Nat) (op : SkipOp) (k w a : Nat) (b : Operand) : Dev :=
  Dev.instrOn d n (fun c => StageCtx.skipIf c op k (w + 1) a b)

/-- NOP. -/
def execOpNop (n : Fin 16) (s : State) : Host.Outcome State Fault Refusal := lift (fun d => Dev.instrOn d n (fun c => c)) s

/-- END: it ends the stage's program for the packet. -/
def execOpEnd (n : Fin 16) (s : State) : Host.Outcome State Fault Refusal :=
  lift (fun d => Dev.instr d n (fun d c => (d, StageCtx.execEnd c))) s

/-- MOV: dst ← B. -/
def execOpMov (n : Fin 16) (dst : Fin 4096) (w : Fin 64) (b : Operand) (s : State) : Host.Outcome State Fault Refusal :=
  lift (fun d => Dev.alu d n .mov dst w 0 b) s
/-- ADD: (A + B) mod 2^w. -/
def execOpAdd (n : Fin 16) (dst : Fin 4096) (w : Fin 64) (a : Fin 4096) (b : Operand) (s : State) :
    Host.Outcome State Fault Refusal := lift (fun d => Dev.alu d n .add dst w a b) s
/-- SUB: (A - B) mod 2^w. -/
def execOpSub (n : Fin 16) (dst : Fin 4096) (w : Fin 64) (a : Fin 4096) (b : Operand) (s : State) :
    Host.Outcome State Fault Refusal := lift (fun d => Dev.alu d n .sub dst w a b) s
/-- SUBS: A - B when A ≥ B, else 0. -/
def execOpSubs (n : Fin 16) (dst : Fin 4096) (w : Fin 64) (a : Fin 4096) (b : Operand) (s : State) :
    Host.Outcome State Fault Refusal := lift (fun d => Dev.alu d n .subs dst w a b) s
/-- AND. -/
def execOpAnd (n : Fin 16) (dst : Fin 4096) (w : Fin 64) (a : Fin 4096) (b : Operand) (s : State) :
    Host.Outcome State Fault Refusal := lift (fun d => Dev.alu d n .and dst w a b) s
/-- OR. -/
def execOpOr (n : Fin 16) (dst : Fin 4096) (w : Fin 64) (a : Fin 4096) (b : Operand) (s : State) :
    Host.Outcome State Fault Refusal := lift (fun d => Dev.alu d n .or dst w a b) s
/-- XOR. -/
def execOpXor (n : Fin 16) (dst : Fin 4096) (w : Fin 64) (a : Fin 4096) (b : Operand) (s : State) :
    Host.Outcome State Fault Refusal := lift (fun d => Dev.alu d n .xor dst w a b) s
/-- SHL: A shifted left by B mod 64. -/
def execOpShl (n : Fin 16) (dst : Fin 4096) (w : Fin 64) (a : Fin 4096) (b : Operand) (s : State) :
    Host.Outcome State Fault Refusal := lift (fun d => Dev.alu d n .shl dst w a b) s
/-- SHR: A shifted right by B mod 64. -/
def execOpShr (n : Fin 16) (dst : Fin 4096) (w : Fin 64) (a : Fin 4096) (b : Operand) (s : State) :
    Host.Outcome State Fault Refusal := lift (fun d => Dev.alu d n .shr dst w a b) s
/-- MIN, unsigned. -/
def execOpMin (n : Fin 16) (dst : Fin 4096) (w : Fin 64) (a : Fin 4096) (b : Operand) (s : State) :
    Host.Outcome State Fault Refusal := lift (fun d => Dev.alu d n .min dst w a b) s
/-- MAX, unsigned. -/
def execOpMax (n : Fin 16) (dst : Fin 4096) (w : Fin 64) (a : Fin 4096) (b : Operand) (s : State) :
    Host.Outcome State Fault Refusal := lift (fun d => Dev.alu d n .max dst w a b) s

/-- SKEQ. -/
def execOpSkeq (n : Fin 16) (k : Fin 64) (w : Fin 64) (a : Fin 4096) (b : Operand) (s : State) :
    Host.Outcome State Fault Refusal := lift (fun d => Dev.skip d n .eq k w a b) s
/-- SKNE. -/
def execOpSkne (n : Fin 16) (k : Fin 64) (w : Fin 64) (a : Fin 4096) (b : Operand) (s : State) :
    Host.Outcome State Fault Refusal := lift (fun d => Dev.skip d n .ne k w a b) s
/-- SKLT. -/
def execOpSklt (n : Fin 16) (k : Fin 64) (w : Fin 64) (a : Fin 4096) (b : Operand) (s : State) :
    Host.Outcome State Fault Refusal := lift (fun d => Dev.skip d n .lt k w a b) s
/-- SKGE. -/
def execOpSkge (n : Fin 16) (k : Fin 64) (w : Fin 64) (a : Fin 4096) (b : Operand) (s : State) :
    Host.Outcome State Fault Refusal := lift (fun d => Dev.skip d n .ge k w a b) s

/-- Whether a stage may name decision field k (R138, R139, R299). -/
def fieldNamed (c : StageCtx) (k : Nat) : Bool := fieldWidth k != 0 && (!c.egress || fieldEgress k)

/-- MSET: decision field k ← B, truncated to its width (R138). -/
def execOpMset (n : Fin 16) (k : Fin 64) (w : Fin 64) (b : Operand) (s : State) : Host.Outcome State Fault Refusal :=
  lift (fun d => Dev.instrOn d n (fun c => if fieldNamed c k then StageCtx.mset c k (w + 1) b else c)) s
/-- MGET: dst ← decision field k (R138). -/
def execOpMget (n : Fin 16) (dst : Fin 4096) (w : Fin 64) (k : Fin 64) (s : State) : Host.Outcome State Fault Refusal :=
  lift (fun d => Dev.instrOn d n (fun c => if fieldNamed c k then StageCtx.mget c dst (w + 1) k else c)) s

/-- LKEM: `w` is the width less one, in units (R101, R136). -/
def execOpLkem (n : Fin 16) (dst : Fin 4096) (prof : Fin 256) (tab : Fin 64) (w : Fin 4) (way : LookWay) (s : State) :
    Host.Outcome State Fault Refusal :=
  lift (fun d => Dev.instrIn d n (fun d c => Dev.lkem d n dst prof tab (w + 1) way c)) s
/-- LKLPM4 (R107). -/
def execOpLklpm4 (n : Fin 16) (dst : Fin 4096) (prof : Fin 256) (way : LookWay) (s : State) : Host.Outcome State Fault Refusal :=
  lift (fun d => Dev.instrIn d n (fun d c => Dev.lklpm d n false dst prof way c)) s
/-- LKLPM6 (R107). -/
def execOpLklpm6 (n : Fin 16) (dst : Fin 4096) (prof : Fin 256) (way : LookWay) (s : State) : Host.Outcome State Fault Refusal :=
  lift (fun d => Dev.instrIn d n (fun d c => Dev.lklpm d n true dst prof way c)) s
/-- LKNH (R109). -/
def execOpLknh (n : Fin 16) (dst : Fin 4096) (a : Fin 4096) (way : LookWay) (s : State) : Host.Outcome State Fault Refusal :=
  lift (fun d => Dev.instrIn d n (fun d c => Dev.lknh d n dst a way c)) s
/-- LKGRP (R111). -/
def execOpLkgrp (n : Fin 16) (dst : Fin 4096) (a : Fin 4096) (hp : Fin 16) (way : LookWay) (s : State) :
    Host.Outcome State Fault Refusal :=
  lift (fun d => Dev.instrIn d n (fun d c => Dev.lkgrp d n dst a hp way c)) s
/-- HASH (R97). -/
def execOpHash (n : Fin 16) (dst : Fin 4096) (hp : Fin 16) (s : State) : Host.Outcome State Fault Refusal :=
  lift (fun d => Dev.instr d n (fun d c => StageCtx.step d c (Dev.hash d n dst hp))) s
/-- WIN (R116). -/
def execOpWin (n : Fin 16) (dst : Fin 4096) (prof : Fin 256) (way : LookWay) (s : State) : Host.Outcome State Fault Refusal :=
  lift (fun d => Dev.instrIn d n (fun d c => Dev.win d n dst prof way c)) s
/-- TCAM (R119, R120). -/
def execOpTcam (n : Fin 16) (dst : Fin 4096) (prof : Fin 256) (flag : Bool) (way : LookWay) (s : State) :
    Host.Outcome State Fault Refusal :=
  lift (fun d => Dev.instrIn d n (fun d c => Dev.tcam d n dst prof flag way c)) s
/-- LKIX (R137). -/
def execOpLkix (n : Fin 16) (dst : Fin 4096) (w : Fin 64) (a : Fin 4096) (encap : Bool) (way : LookWay) (s : State) :
    Host.Outcome State Fault Refusal :=
  lift (fun d => Dev.instr d n (fun d c => StageCtx.step d c (Dev.lkix d n dst (w + 1) a encap way))) s

/-! Admission (R173). -/

/-- The first wholly received packet of a list and the others. -/
def Dev.firstWhole (d : Dev) : List Nat → Option (Nat × List Nat)
  | [] => none
  | i :: t =>
    if (Dev.pkt d i).whole then some (i, t)
    else
      match Dev.firstWhole d t with
      | some x => some (x.1, i :: x.2)
      | none => none

/-- The last cell of the first wholly received packet of pipeline n is written: the packet is dropped for its tile's
mark, replicated, or admitted (R54, R173, R182). -/
def Dev.packetAdmit (d : Dev) (n : Nat) : Dev :=
  let x := Dev.pipe d n
  match Dev.firstWhole d x.tm with
  | none => d
  | some (i, t) =>
    let d := Dev.setPipe d n { x with tm := t }
    let p := Dev.pkt d i
    if p.mark ≠ 0 then Dev.freePkt (Dev.dropIn d p.mark p true) i
    else
      let d := Dev.writeCells d i (cellsOf (Pkt.stored p).length)
      if Pkt.field p 0 = 1 then Dev.replicate d i
      else
        let d := Dev.setPkt d i { Dev.pkt d i with refs := 1 }
        let r := Dev.admitTo d i (Pkt.queueNo p) false true true
        if r.2 then r.1 else Dev.freePkt r.1 i

/-- PACKET_ADMIT (R173). -/
def execPacketAdmit (n : Fin 16) (s : State) : Host.Outcome State Fault Refusal := lift (fun d => Dev.packetAdmit d n) s

/-! Flow control (R176, R177). -/

/-- PFC_FRAME_SEND (R176). -/
def execPfcFrameSend (p : Fin 1024) (s : State) : Host.Outcome State Fault Refusal := lift (fun d => Dev.pfcSend d p) s

/-- PFC_REFRESH_TIMER (R176): while XOFF holds it is sent again. -/
def execPfcRefreshTimer (p : Fin 1024) (prio : Fin 8) (s : State) : Host.Outcome State Fault Refusal :=
  lift (fun d =>
    if Dev.pfcTx d p && Dev.xoffOn d p prio then Dev.queuePfc d p prio (Dev.pfcQuanta d p) else d) s

/-- PFC_FRAME_RECEIVE (R177): a sound flow-control frame on a port that is up is counted and consumed; with pfc_rx 1 it
is honoured. -/
def execPfcFrameReceive (p : Fin 1024) (bytes : List Byte) (s : State) : Host.Outcome State Fault Refusal :=
  lift (fun d =>
    if Dev.el d (K.portState p) = 5 ∧ isPfc bytes = true
        ∧ frameMark (Dev.maxFrame d p) bytes .ended false = 0 then
      Dev.macControl (Dev.countRx d p bytes 0) p bytes
    else d) s

/-- PAUSE_TIMER_EXPIRE (R177). -/
def execPauseTimerExpire (p : Fin 1024) (prio : Fin 8) (s : State) : Host.Outcome State Fault Refusal :=
  lift (fun d =>
    let o := Dev.port d p
    Dev.recontendPort (Dev.setPort d p { o with pause := SMap.del o.pause prio }) p) s

/-! Selection and transmission. -/

/-- SCHED_SELECT (R241, R242): the next asking port of pipeline n; the words of `bad` are found uncorrectable before it (R506). -/
def execSchedSelect (n : Fin 16) (fetch : Bool) (w : ReadWay) (bad : List StateWord) (s : State) :
    Host.Outcome State Fault Refusal :=
  lift (fun d => Dev.schedSelect (bad.foldl Dev.stateWord d) n fetch w) s

/-- FRAME_TRANSMIT (R24). -/
def execFrameTransmit (p : Fin 1024) (ph : Fin 6) (w : TxWay) (s : State) : Host.Outcome State Fault Refusal :=
  lift (fun d => Dev.frameTransmit d p ph w) s

/-- LAUNCH_RELEASE (R287): the held launch frame starts once its base has reached its launch time. -/
def execLaunchRelease (p : Fin 1024) (ph : Fin 6) (s : State) : Host.Outcome State Fault Refusal :=
  lift (fun d =>
    match (Dev.port d p).sel with
    | f :: _ => if f.charge.launch then Dev.frameTransmit d p ph .ok else d
    | [] => d) s

/-- FRAME_TX_END (R284); the counters of `bad` are found uncorrectable before it (R507). -/
def execFrameTxEnd (p : Fin 1024) (bad : List CounterWord) (s : State) : Host.Outcome State Fault Refusal :=
  lift (fun d => Dev.frameTxEnd (bad.foldl Dev.counterWord d) p) s

/-- AGE_CHECK_TIMER (R189). -/
def execAgeCheckTimer (s : State) : Host.Outcome State Fault Refusal := lift Dev.ageCheck s

/-- DOWN_HOLD_EXPIRE (R188): the flush of a port that is still down begins. -/
def execDownHoldExpire (p : Fin 1024) (s : State) : Host.Outcome State Fault Refusal :=
  lift (fun d =>
    let l := Dev.linkS d p
    if l.hold then Dev.flushPort (Dev.setLink d p { l with hold := false }) p else d) s

/-- FLUSH_DONE (R188). -/
def execFlushDone (p : Fin 1024) (s : State) : Host.Outcome State Fault Refusal :=
  lift (fun d => if (Dev.queue d (p * 16)).flushing then Dev.flushDone d p else d) s

end Sys2Proof.Machine
end

