-- ==== Sys2Proof/Machine/MgmtRows.lean ====
section
/-! DEFINITION. Tuiley over UDP and MCTP, received management frames, the MCTP bindings and their control messages, and the
meanings of the management network's rows (R404 to R419). What DSP0236 and DSP0238 lay down is PRESUMED (log 30). -/
namespace Sys2Proof.Machine

/-! Tuiley over UDP (R410, R411). -/

/-- Whether an address may send requests. -/
def Dev.udpAllowed (d : Dev) (addr : Nat) : Bool :=
  let bs := Dev.blob d K.netUdpAllow
  bs.isEmpty || (List.range (bs.length / 20)).any (fun i =>
    let e := slice bs (20 * i) 20
    let n := byteAt e 16
    beAt e 0 16 / 2 ^ (128 - n) == addr / 2 ^ (128 - n))

/-- Whether a reply can leave for an address: on link, by the gateway of IPv4 or by the default router (R409). -/
def Dev.canReply (d : Dev) (m addr : Nat) : Bool :=
  if addr / 2 ^ 32 = 0xFFFF then (Dev.hop4 d m (addr % 2 ^ 32)).isSome
  else Dev.onLink6 d m addr || (Dev.mport d m).router.isSome

def Dev.udpReply (d : Dev) (m addr : Nat) (src : Source) (bs : List Byte) : Dev :=
  if Dev.canReply d m addr then Dev.emit d (.message src bs) else d

/-- A datagram to net.udp.port. -/
def Dev.udpIn (ep : Nat) (d : Dev) (m addr port : Nat) (bs : List Byte) (frag sumBad : Bool) : Dev :=
  let discard (d : Dev) : Dev := Dev.count d K.netUdpDiscards 1
  let src : Source := .udp (if m = 0 then 0 else 1) addr port
  let rate := Dev.el d K.netUdpRate
  if d.fw.running = false ∨ frag = true ∨ sumBad = true ∨ bs.length < 12 ∨ beAt bs 8 4 ≠ bs.length ∨ 1452 < bs.length
      ∨ Dev.udpAllowed d addr = false then discard d
  else
    match Bucket.take (Dev.fill d d.mgmt.udpTok rate rate) 1 with
    | none => discard d
    | some b =>
      let live := d.mgmt.kept.filter (fun x => decide (d.ticks ≤ x.at_ + 2 * ticksPerSec))
      let d := { d with mgmt := { d.mgmt with udpTok := b, kept := live } }
      match live.find? (fun x => Source.same x.src src && x.tag == beAt bs 2 2) with
      | some x => Dev.udpReply (Dev.count d K.netUdpRequests 1) m addr src x.bytes
      | none =>
        let r := Dev.runMessage ep d src bs
        match r.2 with
        | none => r.1
        | some out =>
          let d := Dev.count r.1 K.netUdpRequests 1
          let kept := d.mgmt.kept.filter (fun x => !Source.same x.src src) ++ [{ src := src, tag := beAt bs 2 2, at_ := d.ticks, bytes := out }]
          Dev.udpReply { d with mgmt := { d.mgmt with kept := kept } } m addr src out

/-! Received frames (R407, R409). -/

/-- A UDP checksum over the pseudo header of `ph`. -/
def udpSumOk (ph bs : List Byte) : Bool := inetSum (ph ++ bs ++ zeros (bs.length % 2)) == 0

/-- An IPv4 packet in a frame from `mac`. -/
def Dev.ip4In (ep : Nat) (d : Dev) (m mac : Nat) (b : List Byte) : Dev :=
  let hl := byteAt b 0 % 16 * 4
  let len := beAt b 2 2
  let src := beAt b 12 4
  let dst := beAt b 16 4
  let frag := beAt b 6 2 % 0x4000 != 0
  let pl := slice b hl (len - hl)
  let mine := match Dev.v4Own d m with
    | some (a, _, _) => a == dst
    | none => false
  if byteAt b 0 / 16 ≠ 4 ∨ hl < 20 ∨ len < hl ∨ b.length < len ∨ inetSum (b.take hl) ≠ 0 then Dev.rxDiscard d m
  else if byteAt b 9 = 1 ∧ mine = true ∧ frag = false then Dev.icmpIn d m mac src dst pl
  else if byteAt b 9 = 17 ∧ frag = false ∧ beAt pl 0 4 = 67 * 2 ^ 16 + 68 ∧ Dev.el d (K.mportIpv4Mode m) = 1 then
    Dev.dhcpIn d m (pl.drop 8)
  else if byteAt b 9 = 17 ∧ mine = true ∧ (frag = true ∨ beAt pl 2 2 = Dev.el d K.netUdpPort) then
    let ok := beAt pl 6 2 = 0 ∨ udpSumOk (slice b 12 8 ++ beBytes 2 17 ++ slice pl 4 2) pl = true
    Dev.udpIn ep d m (mapped src) (beAt pl 0 2) (slice pl 8 (beAt pl 4 2 - 8)) frag (!ok)
  else Dev.rxDiscard d m

/-- Whether a port takes an IPv6 destination: its own, all nodes, or a solicited-node group of its addresses, tentative ones
among them. -/
def Dev.v6Mine (d : Dev) (m dst : Nat) : Bool :=
  let as := linkLocal (Dev.mac d m) :: (match Dev.v6Cfg d m with
    | some a => [a]
    | none => [])
  as.contains dst || dst == 0xFF02 * 2 ^ 112 + 1 || as.any (fun a => dst == 0xFF02 * 2 ^ 112 + 0x1FF * 2 ^ 24 + a % 2 ^ 24)

/-- An IPv6 packet in a frame from `mac`. -/
def Dev.ip6In (ep : Nat) (d : Dev) (m mac : Nat) (b : List Byte) : Dev :=
  let len := beAt b 4 2
  let src := beAt b 8 16
  let dst := beAt b 24 16
  let pl := slice b 40 len
  if byteAt b 0 / 16 ≠ 6 ∨ b.length < 40 + len ∨ Dev.v6Mine d m dst = false then Dev.rxDiscard d m
  else if byteAt b 6 = 58 then Dev.icmp6In d m mac src dst (byteAt b 7) pl
  else if byteAt b 6 = 44 ∧ byteAt pl 0 = 17 ∧ (Dev.v6Own d m).contains dst = true then Dev.udpIn ep d m src 0 [] true false
  else if byteAt b 6 = 17 ∧ (Dev.v6Own d m).contains dst = true ∧ beAt pl 2 2 = Dev.el d K.netUdpPort then
    let ok := beAt pl 6 2 ≠ 0 ∧ udpSumOk (slice b 8 32 ++ beBytes 4 len ++ beBytes 4 17) pl = true
    Dev.udpIn ep d m src (beAt pl 0 2) (slice pl 8 (beAt pl 4 2 - 8)) false (!ok)
  else Dev.rxDiscard d m

/-- What the firmware makes of a good frame. -/
def Dev.mgmtTake (ep : Nat) (d : Dev) (m : Nat) (f : List Byte) : Dev :=
  let dst := beAt f 0 6
  let mac := beAt f 6 6
  let typ := beAt f 12 2
  let b := slice f 14 (f.length - 18)
  let group := bit dst 40
  let mine := dst == Dev.mac d m || dst == bcastMac
  if typ = 0x88CC then
    (if dst = lldpMac then (Dev.lldpIn d m b).getD (Dev.rxDiscard d m) else Dev.rxDiscard d m)
  else if typ = 0x0806 ∧ mine = true then Dev.arpIn d m b
  else if typ = 0x0800 ∧ mine = true then Dev.ip4In ep d m mac b
  else if typ = 0x86DD ∧ (mine = true ∨ (group = true ∧ dst / 2 ^ 32 = 0x3333)) then Dev.ip6In ep d m mac b
  else Dev.rxDiscard d m

/-- A frame that reaches port m, its FCS included. While the firmware does not run, LLDP is received, a request is counted
(R419), and a frame that the firmware would not claim is discarded as ever (R407). -/
def Dev.mgmtFrame (ep : Nat) (d : Dev) (m : Nat) (f : List Byte) : Dev :=
  let n := f.length
  let typ := beAt f 12 2
  let b := slice f 14 (n - 18)
  if Dev.mportUp d m = false then d
  else if n < 64 ∨ 1518 < n ∨ leNat (f.drop (n - 4)) ≠ fcs32 (f.take (n - 4)) then Dev.rxDiscard d m
  else if d.fw.running ∨ typ = 0x88CC then Dev.mgmtTake ep d m f
  else
    let x := Dev.mgmtTake ep { d with fw := { d.fw with running := true } } m f
    let to4 := typ == 0x0800 && byteAt b 9 == 17 && beAt b (byteAt b 0 % 16 * 4 + 2) 2 == Dev.el d K.netUdpPort
    let to6 := typ == 0x86DD && byteAt b 6 == 17 && beAt b 42 2 == Dev.el d K.netUdpPort
    if Dev.el x (K.mportRxDiscards m) ≠ Dev.el d (K.mportRxDiscards m) then Dev.rxDiscard d m
    else if to4 || to6 then Dev.count d K.netUdpDiscards 1 else d

/-! MCTP (R415 to R418). -/

/-- Binding 0 is an I3C target. -/
def Dev.isI3c (d : Dev) : Bool := Dev.elIn d K.mctpMode == 2 || (Dev.elIn d K.mctpMode == 0 && d.mgmt.i3c)

/-- Binding b may send: a host port that is not in state 1 sends nothing (R345). -/
def Dev.mctpMay (d : Dev) (b : Nat) : Bool := b == 0 || Dev.hostUp d (b - 1)

/-- The packets of a message on binding b to an endpoint, on SMBus with their PEC (R415, R417); `tag` with the tag-owner bit. -/
def Dev.mctpOut (d : Dev) (b eid addr tag : Nat) (bs : List Byte) : List (List Byte) :=
  (mctpSplit eid (Dev.el d (K.mctpEid b)) tag bs).map (fun p =>
    if b = 0 ∧ Dev.isI3c d = false then smbusPacket addr (Dev.elIn d K.mctpSmbusAddr) p else p)

/-- The packets that binding b takes of those on its line: on SMBus those with a good PEC. -/
def Dev.mctpTaken (d : Dev) (b : Nat) (ps : List (List Byte)) : List (List Byte × Nat) :=
  if b = 0 ∧ Dev.isI3c d = false then ps.filterMap (smbusTaken (Dev.elIn d K.mctpSmbusAddr)) else ps.map (fun p => (p, 0))

/-- A Tuiley message by MCTP, in its packets: it is reassembled, and runs or is discarded (R417). -/
def Dev.mctpIn (ep : Nat) (d : Dev) (b : Nat) (ps : List (List Byte)) : Dev :=
  if d.fw.running = false ∨ Dev.el d (K.mctpEid b) = 0 ∨ (b = 2 ∧ Dev.hostExists d 1 = false) then d
  else
    match mctpJoin (Dev.el d (K.mctpEid b)) none (Dev.mctpTaken d b ps) with
    | none => d
    | some m =>
      let bs := m.body
      if m.bad = true ∨ byteAt bs 0 ≠ 0x7E ∨ beAt bs 1 2 ≠ 0x1F7E ∨ 2048 + 3 < bs.length then Dev.count d K.mctpRxDiscards 1
      else
        let r := Dev.runMessage ep d (.mctp (if b = 0 then 0 else if b = 1 then 1 else 2) m.src) (bs.drop 3)
        match r.2 with
        | some out =>
          if Dev.mctpMay r.1 b = false then r.1
          else Dev.emit r.1 (.mctpMessage b m.src m.tag (Dev.mctpOut r.1 b m.src m.addr m.tag ([0x7E, 0x1F, 0x7E] ++ out)))
        | none => r.1

/-- A response to a control message: instance, command, completion code and data. -/
def Dev.ctlReply (d : Dev) (b : Nat) (fr : MctpFrom) (inst cmd code : Nat) (data : List Byte) : Dev :=
  if Dev.mctpMay d b = false then d
  else Dev.emit d (.mctp b fr.eid.val
    ((Dev.mctpOut d b fr.eid.val fr.addr.val fr.tag.val ([0] ++ beBytes 1 inst ++ beBytes 1 cmd ++ beBytes 1 code ++ data)).headD []))

/-- A control message on binding b, while the firmware serves it; port B's binding is absent in ×8 mode (R329), and a packet
whose PEC is wrong is discarded (R415). -/
def Dev.control (d : Dev) (b : Nat) (fr : MctpFrom) (f : Dev → Dev) : Dev :=
  if d.fw.running && (b != 2 || Dev.hostExists d 1) && !(fr.pecBad && b == 0 && !Dev.isI3c d) then f d else d

/-- Set Endpoint ID: operation 0 sets, 1 forces, 2 resets, 3 sets the discovered flag. -/
def Dev.setEndpointId (d : Dev) (b : Nat) (fr : MctpFrom) (inst op eid : Nat) : Dev :=
  if op = 2 then Dev.ctlReply (Dev.loseEid d b) b fr inst 1 0 [0, 0, 0]
  else if op = 3 then
    (if b = 0 then Dev.ctlReply d b fr inst 1 2 []
     else
       let d := Dev.setBinding d b { Dev.binding d b with discovered := true }
       Dev.ctlReply d b fr inst 1 0 ([0] ++ beBytes 1 (Dev.el d (K.mctpEid b)) ++ [0]))
  else if eid = 0 ∨ eid = 255 then Dev.ctlReply d b fr inst 1 2 []
  else
    let d := Dev.setEl d (K.mctpEid b) eid
    let d := Dev.setBinding d b { owner := some fr.eid.val, announcing := false, sent := 0, discovered := decide (b ≠ 0) }
    Dev.ctlReply d b fr inst 1 0 ([0] ++ beBytes 1 eid ++ [0])

/-- The command codes that the part answers. -/
def ctlKnown : List Nat := [1, 2, 3, 4, 5, 6, 0x0B, 0x0C]

/-- One announcement to the bus owner (R418): Discovery Notify, on SMBus written to mctp.owner_addr, on I3C behind an in-band
interrupt (log 92). A host port that is not in state 1 sends none (R345). -/
def Dev.announce (d : Dev) (b : Nat) : Dev :=
  let x := Dev.binding d b
  if d.fw.running = false ∨ x.announcing = false ∨ Dev.mctpMay d b = false then d
  else
    let sent (d : Dev) : Dev := Dev.setBinding d b { x with sent := x.sent + 1 }
    let owner := Dev.el d K.mctpOwnerAddr
    let p := (Dev.mctpOut d b 0 owner 8 [0, 0x80, 0x0D]).headD []
    if b = 0 ∧ Dev.isI3c d = true then
      (if Dev.el d K.mctpI3cDynAddr = 0 then d else Dev.emit (sent d) (.ibi 0xAE p))
    else if b = 0 then Dev.emit (sent d) (.smbus owner p)
    else Dev.emit (sent d) (.mctp b 0 p)

/-- The provisional ID of the I3C target (R415). -/
def Dev.i3cPid (d : Dev) : Nat := 0x04A7 * 2 ^ 33 + Dev.el d K.idSerial % 2 ^ 32

/-- ENTDAA (`daa`), which reads the provisional ID of a target without an address, or SETDASA (R415). -/
def Dev.i3cAssign (d : Dev) (addr : Nat) (daa : Bool) : Dev :=
  if d.rst.porst || Dev.elIn d K.mctpMode == 1 then d
  else
    let d := { d with mgmt := { d.mgmt with i3c := true } }
    let d := if daa = true ∧ Dev.el d K.mctpI3cDynAddr = 0 then Dev.emit d (.i3cId (Dev.i3cPid d)) else d
    if addr = 0 ∨ Dev.el d K.mctpI3cDynAddr ≠ 0 then d else Dev.announce (Dev.setEl d K.mctpI3cDynAddr addr) 0

/-- RSTDAA (R418). -/
def Dev.i3cReset (d : Dev) : Dev :=
  if d.rst.porst || !Dev.isI3c d then d else Dev.loseEid (Dev.setEl d K.mctpI3cDynAddr 0) 0

/-! Meanings. -/

/-- Bad code-groups at port m, which the port counts in D0 whatever the other domains do (R404). -/
def Dev.cgErrors (d : Dev) (m n : Nat) : Dev := if n = 0 ∨ d.rst.porst = true then d else Dev.count d (K.mportCgErrors m) n

/-- MGMT_FRAME_RECEIVE; `cg` code-groups were bad since the last frame (R404). -/
def execMgmtFrameReceive (m : Fin 2) (bytes : List Byte) (cg : Nat) (s : State) : Host.Outcome State Fault Refusal :=
  liftW (fun ep d => Dev.mgmtFrame ep d m.val bytes) { s with dev := Dev.cgErrors s.dev m.val cg }

/-- MPORT_LINK_UP (R405 to R407). -/
def execMportLinkUp (m : Fin 2) (speed : Fin 4) (ctle : Fin 16) (half : Bool) : State → Host.Outcome State Fault Refusal :=
  lift0 (fun d =>
    if d.rst.porst || Dev.el d (K.mportState m.val) == 0 then d else Dev.mportLinkUp d m.val speed.val ctle.val half)

/-- MPORT_LINK_DOWN; `sync`: synchronisation is held (R407). -/
def execMportLinkDown (m : Fin 2) (sync : Bool) : State → Host.Outcome State Fault Refusal :=
  lift0 (fun d => if d.rst.porst || Dev.el d (K.mportState m.val) == 0 then d else Dev.mportLinkDown d m.val sync)

/-- A timer or a message that the firmware of an up port handles. -/
def Dev.onPort (d : Dev) (m : Nat) (f : Dev → Dev) : Dev := if d.fw.running && Dev.mportUp d m then f d else d

def execDhcpLeaseExpire (m : Fin 2) : State → Host.Outcome State Fault Refusal :=
  lift (fun d => Dev.dhcpExpire d m.val)
def execDhcpDiscoverRetry (m : Fin 2) : State → Host.Outcome State Fault Refusal :=
  lift (fun d => Dev.onPort d m.val (fun d => Dev.dhcpRetry d m.val))
def execDhcpRenewal (m : Fin 2) : State → Host.Outcome State Fault Refusal :=
  lift (fun d => Dev.onPort d m.val (fun d => Dev.dhcpRenew d m.val))

/-- DAD_COMPLETE of the link-local (0) or the configured (1) address. -/
def execDadComplete (m : Fin 2) (which : Fin 2) (dup : Bool) : State → Host.Outcome State Fault Refusal :=
  lift (fun d => Dev.onPort d m.val (fun d => Dev.dadEnd d m.val which.val dup))

/-- UDP_REQUEST: the payload of a datagram to net.udp.port from an address, IPv4 as IPv4-mapped; none arrives by a port that
is not up. -/
def execUdpRequest (m : Fin 2) (addr : BitVec 128) (port : Fin 65536) (bytes : List Byte) (frag sumBad : Bool) :
    State → Host.Outcome State Fault Refusal :=
  liftW (fun ep d => if Dev.mportUp d m.val then Dev.udpIn ep d m.val addr.toNat port.val bytes frag sumBad else d)

def execLldpTxTimer (m : Fin 2) : State → Host.Outcome State Fault Refusal := lift (fun d => Dev.lldpSend d m.val)

/-- LLDP_RECEIVE: the LLDPDU of a frame to the nearest-bridge address. -/
def execLldpReceive (m : Fin 2) (bytes : List Byte) : State → Host.Outcome State Fault Refusal :=
  lift (fun d => if Dev.mportUp d m.val then (Dev.lldpIn d m.val bytes).getD (Dev.rxDiscard d m.val) else d)
def execLldpTtlExpire (m : Fin 2) : State → Host.Outcome State Fault Refusal :=
  lift (fun d => if Dev.mportUp d m.val then Dev.setNeighbor d m.val [] else d)

def execI3cAddressAssign (addr : Fin 128) (daa : Bool) : State → Host.Outcome State Fault Refusal :=
  lift0 (fun d => Dev.i3cAssign d addr.val daa)
def execI3cRstdaa : State → Host.Outcome State Fault Refusal := lift0 Dev.i3cReset

def execMctpTuileyMessage (b : Fin 3) (packets : List (List Byte)) : State → Host.Outcome State Fault Refusal :=
  liftW (fun ep d => Dev.mctpIn ep d b.val packets)

def execSetEndpointId (b : Fin 3) (sender : MctpFrom) (inst : Fin 32) (op : Fin 4) (eid : Fin 256) :
    State → Host.Outcome State Fault Refusal :=
  lift (fun d => Dev.control d b.val sender (fun d => Dev.setEndpointId d b.val sender inst.val op.val eid.val))

/-- GET_ENDPOINT_ID: the EID, a simple endpoint with a dynamic EID. -/
def execGetEndpointId (b : Fin 3) (sender : MctpFrom) (inst : Fin 32) : State → Host.Outcome State Fault Refusal :=
  lift (fun d => Dev.control d b.val sender (fun d =>
    Dev.ctlReply d b.val sender inst.val 2 0 (beBytes 1 (Dev.el d (K.mctpEid b.val)) ++ [0, 0])))

/-- GET_ENDPOINT_UUID: fixed in the part, and not given (log 30). -/
def execGetEndpointUuid (b : Fin 3) (sender : MctpFrom) (inst : Fin 32) : State → Host.Outcome State Fault Refusal :=
  lift (fun d => Dev.control d b.val sender (fun d =>
    Dev.ctlReply d b.val sender inst.val 3 0 (beBytes 16 (Config.fuse (2 ^ 26)))))

/-- GET_MCTP_VERSION_SUPPORT of a message type: the version is not given (log 30). -/
def execGetMctpVersionSupport (b : Fin 3) (sender : MctpFrom) (inst : Fin 32) (typ : Fin 256) :
    State → Host.Outcome State Fault Refusal :=
  lift (fun d => Dev.control d b.val sender (fun d =>
    if [0, 0x7E, 0xFF].contains typ.val then
      Dev.ctlReply d b.val sender inst.val 4 0 ([1] ++ beBytes 4 (Config.freeAt 6 typ.val))
    else Dev.ctlReply d b.val sender inst.val 4 0x80 []))

/-- GET_MESSAGE_TYPE_SUPPORT: Vendor Defined – PCI. -/
def execGetMessageTypeSupport (b : Fin 3) (sender : MctpFrom) (inst : Fin 32) : State → Host.Outcome State Fault Refusal :=
  lift (fun d => Dev.control d b.val sender (fun d => Dev.ctlReply d b.val sender inst.val 5 0 [1, 0x7E]))

/-- GET_VENDOR_MESSAGE_SUPPORT: one set, of PCI vendor 0x1F7E; its version is not given (log 30). -/
def execGetVendorMessageSupport (b : Fin 3) (sender : MctpFrom) (inst : Fin 32) (selector : Fin 256) :
    State → Host.Outcome State Fault Refusal :=
  lift (fun d => Dev.control d b.val sender (fun d =>
    if selector.val = 0 then
      Dev.ctlReply d b.val sender inst.val 6 0 ([0xFF, 0, 0x1F, 0x7E] ++ beBytes 2 (Config.freeAt 7 0))
    else Dev.ctlReply d b.val sender inst.val 6 2 []))

/-- PREPARE_FOR_ENDPOINT_DISCOVERY: answered on every binding; on a PCIe binding its EID is lost (R416, R418). -/
def execPrepareForEndpointDiscovery (b : Fin 3) (sender : MctpFrom) (inst : Fin 32) : State → Host.Outcome State Fault Refusal :=
  lift (fun d => Dev.control d b.val sender (fun d =>
    Dev.ctlReply (if b.val = 0 then d else Dev.loseEid d b.val) b.val sender inst.val 0x0B 0 []))

/-- ENDPOINT_DISCOVERY: answered until the endpoint of a PCIe binding has been discovered (R416; DSP0238). -/
def execEndpointDiscovery (b : Fin 3) (sender : MctpFrom) (inst : Fin 32) : State → Host.Outcome State Fault Refusal :=
  lift (fun d => Dev.control d b.val sender (fun d =>
    if (Dev.binding d b.val).discovered then d
    else Dev.ctlReply d b.val sender inst.val 0x0C 0 []))

/-- UNSUPPORTED_CONTROL_CMD (R416). -/
def execUnsupportedControlCmd (b : Fin 3) (sender : MctpFrom) (inst : Fin 32) (cmd : Fin 256) :
    State → Host.Outcome State Fault Refusal :=
  lift (fun d => Dev.control d b.val sender (fun d => Dev.ctlReply d b.val sender inst.val cmd.val 5 []))

/-- EID_ANNOUNCE_TIMER (R418). -/
def execEidAnnounceTimer (b : Fin 3) : State → Host.Outcome State Fault Refusal := lift (fun d => Dev.announce d b.val)

end Sys2Proof.Machine
end

