-- ==== Sys2Proof/Machine/Dispatch.lean ====
section
/-! DEFINITION. The commands and their meanings: one arm per constructor. -/
namespace Sys2Proof.Machine

/-- The effect of a command on everything but the queue. -/
def exec (i : Instr) (s : State) : Host.Outcome State Fault Refusal :=
  match i with
  | .frameReceive p ph bytes e fecBad w => Sys2Proof.Machine.execFrameReceive p ph bytes e fecBad w s
  | .frameTailArrive p bytes e fecBad w => Sys2Proof.Machine.execFrameTailArrive p bytes e fecBad w s
  | .arbiterAccept n ecc => Sys2Proof.Machine.execArbiterAccept n ecc s
  | .thresherStart n => Sys2Proof.Machine.execThresherStart n s
  | .costGatePass n fetch parity looks => Sys2Proof.Machine.execCostGatePass n fetch parity looks s
  | .opNop n => Sys2Proof.Machine.execOpNop n s
  | .opEnd n => Sys2Proof.Machine.execOpEnd n s
  | .opMov n dst w b => Sys2Proof.Machine.execOpMov n dst w b s
  | .opAdd n dst w a b => Sys2Proof.Machine.execOpAdd n dst w a b s
  | .opSub n dst w a b => Sys2Proof.Machine.execOpSub n dst w a b s
  | .opSubs n dst w a b => Sys2Proof.Machine.execOpSubs n dst w a b s
  | .opAnd n dst w a b => Sys2Proof.Machine.execOpAnd n dst w a b s
  | .opOr n dst w a b => Sys2Proof.Machine.execOpOr n dst w a b s
  | .opXor n dst w a b => Sys2Proof.Machine.execOpXor n dst w a b s
  | .opShl n dst w a b => Sys2Proof.Machine.execOpShl n dst w a b s
  | .opShr n dst w a b => Sys2Proof.Machine.execOpShr n dst w a b s
  | .opMin n dst w a b => Sys2Proof.Machine.execOpMin n dst w a b s
  | .opMax n dst w a b => Sys2Proof.Machine.execOpMax n dst w a b s
  | .opSkeq n k w a b => Sys2Proof.Machine.execOpSkeq n k w a b s
  | .opSkne n k w a b => Sys2Proof.Machine.execOpSkne n k w a b s
  | .opSklt n k w a b => Sys2Proof.Machine.execOpSklt n k w a b s
  | .opSkge n k w a b => Sys2Proof.Machine.execOpSkge n k w a b s
  | .opMset n k w b => Sys2Proof.Machine.execOpMset n k w b s
  | .opMget n dst w k => Sys2Proof.Machine.execOpMget n dst w k s
  | .opLkem n dst prof tab w way => Sys2Proof.Machine.execOpLkem n dst prof tab w way s
  | .opLklpm4 n dst prof way => Sys2Proof.Machine.execOpLklpm4 n dst prof way s
  | .opLklpm6 n dst prof way => Sys2Proof.Machine.execOpLklpm6 n dst prof way s
  | .opLknh n dst a way => Sys2Proof.Machine.execOpLknh n dst a way s
  | .opLkgrp n dst a hp way => Sys2Proof.Machine.execOpLkgrp n dst a hp way s
  | .opHash n dst hp => Sys2Proof.Machine.execOpHash n dst hp s
  | .opWin n dst prof way => Sys2Proof.Machine.execOpWin n dst prof way s
  | .opTcam n dst prof flag way => Sys2Proof.Machine.execOpTcam n dst prof flag way s
  | .opLkix n dst w a encap way => Sys2Proof.Machine.execOpLkix n dst w a encap way s
  | .packetAdmit n => Sys2Proof.Machine.execPacketAdmit n s
  | .pfcFrameSend p => Sys2Proof.Machine.execPfcFrameSend p s
  | .pfcRefreshTimer p prio => Sys2Proof.Machine.execPfcRefreshTimer p prio s
  | .pfcFrameReceive p bytes => Sys2Proof.Machine.execPfcFrameReceive p bytes s
  | .pauseTimerExpire p prio => Sys2Proof.Machine.execPauseTimerExpire p prio s
  | .schedSelect n fetch w bad => Sys2Proof.Machine.execSchedSelect n fetch w bad s
  | .frameTransmit p ph w => Sys2Proof.Machine.execFrameTransmit p ph w s
  | .launchRelease p ph => Sys2Proof.Machine.execLaunchRelease p ph s
  | .frameTxEnd p bad => Sys2Proof.Machine.execFrameTxEnd p bad s
  | .ageCheckTimer => Sys2Proof.Machine.execAgeCheckTimer s
  | .downHoldExpire p => Sys2Proof.Machine.execDownHoldExpire p s
  | .flushDone p => Sys2Proof.Machine.execFlushDone p s
  | .auditPeriod => Sys2Proof.Machine.execAuditPeriod s
  | .auditRequest src seq => Sys2Proof.Machine.execAuditRequest src seq s
  | .auditDone => Sys2Proof.Machine.execAuditDone s
  | .mcSet src group list seq => Sys2Proof.Machine.execMcSet src group list seq s
  | .mcRead src group seq => Sys2Proof.Machine.execMcRead src group seq s
  | .mcClear src group seq => Sys2Proof.Machine.execMcClear src group seq s
  | .portAdminUp src p => Sys2Proof.Machine.execPortAdminUp src p s
  | .portAdminDown src p => Sys2Proof.Machine.execPortAdminDown src p s
  | .signalDetect p => Sys2Proof.Machine.execSignalDetect p s
  | .anComplete p theirs => Sys2Proof.Machine.execAnComplete p theirs s
  | .anTimeout p => Sys2Proof.Machine.execAnTimeout p s
  | .ltComplete p eqs => Sys2Proof.Machine.execLtComplete p eqs s
  | .trainingTimeout p => Sys2Proof.Machine.execTrainingTimeout p s
  | .c2mAdaptDone p eqs => Sys2Proof.Machine.execC2mAdaptDone p eqs s
  | .alignmentLock p => Sys2Proof.Machine.execAlignmentLock p s
  | .alignmentTimeout p => Sys2Proof.Machine.execAlignmentTimeout p s
  | .portDebounceUp p => Sys2Proof.Machine.execPortDebounceUp p s
  | .portRetryTimer p => Sys2Proof.Machine.execPortRetryTimer p s
  | .linkFaultDetect p c => Sys2Proof.Machine.execLinkFaultDetect p c s
  | .linkFaultClear p c => Sys2Proof.Machine.execLinkFaultClear p c s
  | .portDownDebounce p => Sys2Proof.Machine.execPortDownDebounce p s
  | .fecDegradeCheck p corrected uncorrected symbols => Sys2Proof.Machine.execFecDegradeCheck p corrected uncorrected symbols s
  | .tileReachWrite src t reach => Sys2Proof.Machine.execTileReachWrite src t reach s
  | .laneAdaptRestart src lane => Sys2Proof.Machine.execLaneAdaptRestart src lane s
  | .laneAdaptDone n e => Sys2Proof.Machine.execLaneAdaptDone n e s
  | .tileSeedSave src t => Sys2Proof.Machine.execTileSeedSave src t s
  | .rouriWireFail t dir w => Sys2Proof.Machine.execRouriWireFail t dir w s
  | .rouriRepairDone t dir => Sys2Proof.Machine.execRouriRepairDone t dir s
  | .tileMcuHeartbeatMiss t memory => Sys2Proof.Machine.execTileMcuHeartbeatMiss t memory s
  | .tileMcuReload t => Sys2Proof.Machine.execTileMcuReload t s
  | .tileMcuReloadDone t ok => Sys2Proof.Machine.execTileMcuReloadDone t ok s
  | .tblInsert q h recs f => Sys2Proof.Machine.execTblInsert q h recs f s
  | .tblModify q h recs f => Sys2Proof.Machine.execTblModify q h recs f s
  | .tblDelete q h recs f => Sys2Proof.Machine.execTblDelete q h recs f s
  | .tblRead q h recs => Sys2Proof.Machine.execTblRead q h recs s
  | .groupCreate q h recs f => Sys2Proof.Machine.execGroupCreate q h recs f s
  | .groupDelete q h recs f => Sys2Proof.Machine.execGroupDelete q h recs f s
  | .memberAdd q h recs f => Sys2Proof.Machine.execMemberAdd q h recs f s
  | .memberRemove q h recs f => Sys2Proof.Machine.execMemberRemove q h recs f s
  | .slotWrite q h recs f => Sys2Proof.Machine.execSlotWrite q h recs f s
  | .visibilitySettlement => Sys2Proof.Machine.execVisibilitySettlement s
  | .settlementDone => Sys2Proof.Machine.execSettlementDone s
  | .barnPeerRepair k => Sys2Proof.Machine.execBarnPeerRepair k s
  | .barnScrubPass k corrected repaired ms => Sys2Proof.Machine.execBarnScrubPass k corrected repaired ms s
  | .progStageChunk src bytes => Sys2Proof.Machine.execProgStageChunk src bytes s
  | .progLoad src seq => Sys2Proof.Machine.execProgLoad src seq s
  | .progLoadWrite => Sys2Proof.Machine.execProgLoadWrite s
  | .progLoadDone failed => Sys2Proof.Machine.execProgLoadDone failed s
  | .progLoadDiscard src => Sys2Proof.Machine.execProgLoadDiscard src s
  | .epochFlip src seq => Sys2Proof.Machine.execEpochFlip src seq s
  | .flipAckWait => Sys2Proof.Machine.execFlipAckWait s
  | .flipAckTimeout k => Sys2Proof.Machine.execFlipAckTimeout k s
  | .flipCommit => Sys2Proof.Machine.execFlipCommit s
  | .ingressDrainEnd ns => Sys2Proof.Machine.execIngressDrainEnd ns s
  | .bankRelease n => Sys2Proof.Machine.execBankRelease n s
  | .epochReleaseLimit => Sys2Proof.Machine.execEpochReleaseLimit s
  | .bankCopy n => Sys2Proof.Machine.execBankCopy n s
  | .bankCopyDone n => Sys2Proof.Machine.execBankCopyDone n s
  | .stageAbort src => Sys2Proof.Machine.execStageAbort src s
  | .stageAbortDone => Sys2Proof.Machine.execStageAbortDone s
  | .stageReset src => Sys2Proof.Machine.execStageReset src s
  | .baleCloseTimer n => Sys2Proof.Machine.execBaleCloseTimer n s
  | .baleWriteDone b => Sys2Proof.Machine.execBaleWriteDone b s
  | .baleReturnRead => Sys2Proof.Machine.execBaleReturnRead s
  | .baleReturnDone n b w => Sys2Proof.Machine.execBaleReturnDone n b w s
  | .granaryScrubPass w minutes => Sys2Proof.Machine.execGranaryScrubPass w minutes s
  | .segmentFailDeclare st seg => Sys2Proof.Machine.execSegmentFailDeclare st seg s
  | .segmentRemap st seg => Sys2Proof.Machine.execSegmentRemap st seg s
  | .hpprDone st seg ok => Sys2Proof.Machine.execHpprDone st seg ok s
  | .stackTempAlarm st hot => Sys2Proof.Machine.execStackTempAlarm st hot s
  | .stackRetire src stack => Sys2Proof.Machine.execStackRetire src stack s
  | .retireDrainEnd st => Sys2Proof.Machine.execRetireDrainEnd st s
  | .stackUnretire src stack => Sys2Proof.Machine.execStackUnretire src stack s
  | .driftCheck st ch way => Sys2Proof.Machine.execDriftCheck st ch way s
  | .granaryTrainingDone failed => Sys2Proof.Machine.execGranaryTrainingDone failed s
  | .telStoreMigrate => Sys2Proof.Machine.execTelStoreMigrate s
  | .wheelRelease n => Sys2Proof.Machine.execWheelRelease n s
  | .wheelOverflowMove n => Sys2Proof.Machine.execWheelOverflowMove n s
  | .polSet src index cfg seq => Sys2Proof.Machine.execPolSet src index cfg seq s
  | .polRead src index seq => Sys2Proof.Machine.execPolRead src index seq s
  | .polClearCounters src index seq => Sys2Proof.Machine.execPolClearCounters src index seq s
  | .tbStep src b step => Sys2Proof.Machine.execTbStep src b step s
  | .tbTimeSet src b time => Sys2Proof.Machine.execTbTimeSet src b time s
  | .tbRateSet src b rate => Sys2Proof.Machine.execTbRateSet src b rate s
  | .tbOffset src b offset => Sys2Proof.Machine.execTbOffset src b offset s
  | .tbMasterNew src b => Sys2Proof.Machine.execTbMasterNew src b s
  | .tbServoMode src b mode => Sys2Proof.Machine.execTbServoMode src b mode s
  | .tbHoldoverTimeout b => Sys2Proof.Machine.execTbHoldoverTimeout b s
  | .tbRateSave b => Sys2Proof.Machine.execTbRateSave b s
  | .captureEdge c ph rising => Sys2Proof.Machine.execCaptureEdge c ph rising s
  | .capPop src c => Sys2Proof.Machine.execCapPop src c s
  | .pulseEdge c => Sys2Proof.Machine.execPulseEdge c s
  | .txtsPop p n ecc => Sys2Proof.Machine.execTxtsPop p n ecc s
  | .tallyIdleSweep => Sys2Proof.Machine.execTallyIdleSweep s
  | .tallySnapshot src barn => Sys2Proof.Machine.execTallySnapshot src barn s
  | .tallySnapshotDone => Sys2Proof.Machine.execTallySnapshotDone s
  | .tallyClear src barn => Sys2Proof.Machine.execTallyClear src barn s
  | .histClear src q => Sys2Proof.Machine.execHistClear src q s
  | .histClearPort src p => Sys2Proof.Machine.execHistClearPort src p s
  | .wrapClear src => Sys2Proof.Machine.execWrapClear src s
  | .perfConfigWrite src b enable v => Sys2Proof.Machine.execPerfConfigWrite src b enable v s
  | .gleanerSweep => Sys2Proof.Machine.execGleanerSweep s
  | .streamExport n => Sys2Proof.Machine.execStreamExport n s
  | .hlHeartbeat p => Sys2Proof.Machine.execHlHeartbeat p s
  | .heartbeatTimeout p => Sys2Proof.Machine.execHeartbeatTimeout p s
  | .evtCauseClear p m => Sys2Proof.Machine.execEvtCauseClear p m s
  | .vecBind src port q vector seq => Sys2Proof.Machine.execVecBind src port q vector seq s
  | .vecUnbind src port q seq => Sys2Proof.Machine.execVecUnbind src port q seq s
  | .vecRead src port q seq => Sys2Proof.Machine.execVecRead src port q seq s
  | .bar0BadAccess p rd => Sys2Proof.Machine.execBar0BadAccess p rd s
  | .doorbell p off size v => Sys2Proof.Machine.execDoorbell p off size v s
  | .atsInvalidate p tag page n => Sys2Proof.Machine.execAtsInvalidate p tag page n s
  | .priResponse p q c => Sys2Proof.Machine.execPriResponse p q c s
  | .pcieError p e => Sys2Proof.Machine.execPcieError p e s
  | .hostLoss p c => Sys2Proof.Machine.execHostLoss p c s
  | .hostPortReset p r => Sys2Proof.Machine.execHostPortReset p r s
  | .hostReturn p c => Sys2Proof.Machine.execHostReturn p c s
  | .dqEnableA src q => Sys2Proof.Machine.execDqEnableA src q s
  | .dqEnableB src q => Sys2Proof.Machine.execDqEnableB src q s
  | .dqDisable src q => Sys2Proof.Machine.execDqDisable src q s
  | .dqReset src q => Sys2Proof.Machine.execDqReset src q s
  | .dqResume src q => Sys2Proof.Machine.execDqResume src q s
  | .dqRehomeA src q => Sys2Proof.Machine.execDqRehomeA src q s
  | .dqRehomeB src q => Sys2Proof.Machine.execDqRehomeB src q s
  | .dqStopDone q => Sys2Proof.Machine.execDqStopDone q s
  | .dmaSlice xl ecc => Sys2Proof.Machine.execDmaSlice xl ecc s
  | .dmaReadCompletion q ctx r f => Sys2Proof.Machine.execDmaReadCompletion q ctx r f s
  | .dmaCplTimeout q ctx => Sys2Proof.Machine.execDmaCplTimeout q ctx s
  | .cqHeadPoll q xl => Sys2Proof.Machine.execCqHeadPoll q xl s
  | .coalTimer q => Sys2Proof.Machine.execCoalTimer q s
  | .drainBufferTimer q => Sys2Proof.Machine.execDrainBufferTimer q s
  | .injectDeliver q => Sys2Proof.Machine.execInjectDeliver q s
  | .mailboxSubmit p len => Sys2Proof.Machine.execMailboxSubmit p len s
  | .directWindowWrite p off size v => Sys2Proof.Machine.execDirectWindowWrite p off size v s
  | .read a => Sys2Proof.Machine.execRead a s
  | .write src sid o e bytes => Sys2Proof.Machine.execWrite src sid o e bytes s
  | .readInForce src o e => Sys2Proof.Machine.execReadInForce src o e s
  | .readPart src o e off => Sys2Proof.Machine.execReadPart src o e off s
  | .writePart src sid o e off bytes => Sys2Proof.Machine.execWritePart src sid o e off bytes s
  | .describe src o e => Sys2Proof.Machine.execDescribe src o e s
  | .nextObject src o => Sys2Proof.Machine.execNextObject src o s
  | .sessionOpen src => Sys2Proof.Machine.execSessionOpen src s
  | .sessionCommit src sid tag => Sys2Proof.Machine.execSessionCommit src sid tag s
  | .sessionDiscard src sid => Sys2Proof.Machine.execSessionDiscard src sid s
  | .sessionTimeout sid => Sys2Proof.Machine.execSessionTimeout sid s
  | .commandClaimExpire o e => Sys2Proof.Machine.execCommandClaimExpire o e s
  | .cfgGenerationWrite => Sys2Proof.Machine.execCfgGenerationWrite s
  | .cfgSync src seq => Sys2Proof.Machine.execCfgSync src seq s
  | .cfgClear src => Sys2Proof.Machine.execCfgClear src s
  | .mgmtFrameReceive m bytes cg => Sys2Proof.Machine.execMgmtFrameReceive m bytes cg s
  | .mportLinkUp m speed ctle half => Sys2Proof.Machine.execMportLinkUp m speed ctle half s
  | .mportLinkDown m sync => Sys2Proof.Machine.execMportLinkDown m sync s
  | .dhcpLeaseExpire m => Sys2Proof.Machine.execDhcpLeaseExpire m s
  | .dhcpDiscoverRetry m => Sys2Proof.Machine.execDhcpDiscoverRetry m s
  | .dadComplete m which dup => Sys2Proof.Machine.execDadComplete m which dup s
  | .udpRequest m addr port bytes frag sumBad => Sys2Proof.Machine.execUdpRequest m addr port bytes frag sumBad s
  | .lldpTxTimer m => Sys2Proof.Machine.execLldpTxTimer m s
  | .lldpReceive m bytes => Sys2Proof.Machine.execLldpReceive m bytes s
  | .lldpTtlExpire m => Sys2Proof.Machine.execLldpTtlExpire m s
  | .i3cAddressAssign addr daa => Sys2Proof.Machine.execI3cAddressAssign addr daa s
  | .i3cRstdaa => Sys2Proof.Machine.execI3cRstdaa s
  | .mctpTuileyMessage b packets => Sys2Proof.Machine.execMctpTuileyMessage b packets s
  | .setEndpointId b sender inst op eid => Sys2Proof.Machine.execSetEndpointId b sender inst op eid s
  | .getEndpointId b sender inst => Sys2Proof.Machine.execGetEndpointId b sender inst s
  | .getEndpointUuid b sender inst => Sys2Proof.Machine.execGetEndpointUuid b sender inst s
  | .getMctpVersionSupport b sender inst typ => Sys2Proof.Machine.execGetMctpVersionSupport b sender inst typ s
  | .getMessageTypeSupport b sender inst => Sys2Proof.Machine.execGetMessageTypeSupport b sender inst s
  | .getVendorMessageSupport b sender inst selector => Sys2Proof.Machine.execGetVendorMessageSupport b sender inst selector s
  | .prepareForEndpointDiscovery b sender inst => Sys2Proof.Machine.execPrepareForEndpointDiscovery b sender inst s
  | .endpointDiscovery b sender inst => Sys2Proof.Machine.execEndpointDiscovery b sender inst s
  | .unsupportedControlCmd b sender inst cmd => Sys2Proof.Machine.execUnsupportedControlCmd b sender inst cmd s
  | .eidAnnounceTimer b => Sys2Proof.Machine.execEidAnnounceTimer b s
  | .fwStageChunk src bytes => Sys2Proof.Machine.execFwStageChunk src bytes s
  | .fwWriteSlot src seq => Sys2Proof.Machine.execFwWriteSlot src seq s
  | .fwSlotWriteDone ok => Sys2Proof.Machine.execFwSlotWriteDone ok s
  | .fwActivateNow src seq => Sys2Proof.Machine.execFwActivateNow src seq s
  | .fwActivateNext src seq => Sys2Proof.Machine.execFwActivateNext src seq s
  | .fwAbort src seq => Sys2Proof.Machine.execFwAbort src seq s
  | .fwSessionTimeout => Sys2Proof.Machine.execFwSessionTimeout s
  | .fwConfirm src => Sys2Proof.Machine.execFwConfirm src s
  | .fwSelfConfirm spoil => Sys2Proof.Machine.execFwSelfConfirm spoil s
  | .fwWindowExpire => Sys2Proof.Machine.execFwWindowExpire s
  | .bootRom => Sys2Proof.Machine.execBootRom s
  | .bootHoldRetry => Sys2Proof.Machine.execBootHoldRetry s
  | .watchdogExpire => Sys2Proof.Machine.execWatchdogExpire s
  | .processorFatal => Sys2Proof.Machine.execProcessorFatal s
  | .mgmtRestart src seq => Sys2Proof.Machine.execMgmtRestart src seq s
  | .mgmtRestartDone spoil => Sys2Proof.Machine.execMgmtRestartDone spoil s
  | .pctlReload way => Sys2Proof.Machine.execPctlReload way s
  | .gmcuReload way => Sys2Proof.Machine.execGmcuReload way s
  | .flashInhibitClear => Sys2Proof.Machine.execFlashInhibitClear s
  | .pfailAssert => Sys2Proof.Machine.execPfailAssert s
  | .capStep preds => Sys2Proof.Machine.execCapStep preds s
  | .railRead flashMv reads => Sys2Proof.Machine.execRailRead flashMv reads s
  | .thermalStep => Sys2Proof.Machine.execThermalStep s
  | .sensorSample temps => Sys2Proof.Machine.execSensorSample temps s
  | .ageingReport slacks => Sys2Proof.Machine.execAgeingReport slacks s
  | .supplyLoss dm => Sys2Proof.Machine.execSupplyLoss dm s
  | .supplyGood dm => Sys2Proof.Machine.execSupplyGood dm s
  | .tileIdleOff t => Sys2Proof.Machine.execTileIdleOff t s
  | .porstAssert lowNs => Sys2Proof.Machine.execPorstAssert lowNs s
  | .coldReset flash fuseBad straps => Sys2Proof.Machine.execColdReset flash fuseBad straps s
  | .rootPllLock => Sys2Proof.Machine.execRootPllLock s
  | .warmArm src => Sys2Proof.Machine.execWarmArm src s
  | .warmReset src seq straps => Sys2Proof.Machine.execWarmReset src seq straps s
  | .pipeReset src mask seq => Sys2Proof.Machine.execPipeReset src mask seq s
  | .pipeResetDone => Sys2Proof.Machine.execPipeResetDone s
  | .refClockFault idleNs ppm => Sys2Proof.Machine.execRefClockFault idleNs ppm s
  | .refClockReturn => Sys2Proof.Machine.execRefClockReturn s
  | .bankScrub words => Sys2Proof.Machine.execBankScrub words s
  | .shadowScrub units => Sys2Proof.Machine.execShadowScrub units s
  | .fatalCheck => Sys2Proof.Machine.execFatalCheck s
  | .fatalClear src mask => Sys2Proof.Machine.execFatalClear src mask s
  | .crashCapture src => Sys2Proof.Machine.execCrashCapture src s
  | .crashRead src index seq => Sys2Proof.Machine.execCrashRead src index seq s
  | .exhaustCheck => Sys2Proof.Machine.execExhaustCheck s
  | .lifeHour => Sys2Proof.Machine.execLifeHour s
  | .elementWrite src o e bytes => Sys2Proof.Machine.execElementWrite src o e bytes s
  | .mainFirmwareRuns hurt spoil => Sys2Proof.Machine.execMainFirmwareRuns hurt spoil s
  | .pulseTrailingEdge c => Sys2Proof.Machine.execPulseTrailingEdge c s
  | .dhcpRenewal m => Sys2Proof.Machine.execDhcpRenewal m s
  | .bufferScrub corrected uncorrectable breaks => Sys2Proof.Machine.execBufferScrub corrected uncorrectable breaks s
  | .warmArmExpire => Sys2Proof.Machine.execWarmArmExpire s

end Sys2Proof.Machine
end

