-- ==== Sys2Proof/Machine/Step.lean ====
section
/-! DEFINITION. One step: the command at the front of the queue, or one tick of the counter clock. -/
namespace Sys2Proof.Machine

/-- Time passes with no command: one tick of the 781.25 MHz counter clock, on which the eight bases advance and the
performance counters count the cycles of their blocks (R265, R322, log 1). -/
def idle (s : State) : State := { s with dev := Dev.elapse s.dev }

/-- Take the command at the front of the queue and run it on the rest; on an empty queue time passes (log 1). -/
def step (s : State) : Host.Outcome State Fault Refusal :=
  match s.pending with
  | [] => .next (idle s)
  | c :: rest => exec c { s with pending := rest }

/-- The state with the command that a word spells at the front of its queue; unchanged where it spells none. -/
def State.withFetchWord (s : State) (nbits w : Nat) : State :=
  match decodeTableWord nbits w with
  | some c => { s with pending := c :: s.pending }
  | none => s

end Sys2Proof.Machine
end

