-- ==== Sys2Proof/Safety.lean ====
section
/-! DEFINITION. The terms that statements about the part use: when the part is running, which elements an event may
touch on the side, what an accepted access is. -/
namespace Sys2Proof.Machine

/-- D1 to D23 work: D1 is on, and neither PORST_N, nor a lost core supply, nor the trip state stops them (R454, R455, R482,
R489). -/
def State.lit (s : State) : Prop := Dev.dark s.dev = false

/-- The command runs to a next state that has the same queue and the same epoch counter, and whose part meets P. -/
def Does (c : Instr) (s : State) (P : Dev → Prop) : Prop := ∃ d, exec c s = .next { s with dev := d } ∧ P d

/-- The commands of D0 (the always-on domain: power controller, boot ROM, management ports, I3C), which runs whatever D1 to D23
do (R452, R455, R489, R495). -/
def Instr.ofD0 (i : Instr) : Bool :=
  match i with
  | .mportLinkUp _ _ _ _ | .mportLinkDown _ _ | .i3cAddressAssign _ _ | .i3cRstdaa | .sensorSample _ | .supplyLoss _
  | .supplyGood _ | .porstAssert _ | .coldReset _ _ _ | .mgmtFrameReceive _ _ _ => true
  | .rootPllLock | .refClockFault _ _ | .refClockReturn | .bootRom | .bootHoldRetry | .pfailAssert | .flashInhibitClear => true
  | _ => false

/-- The commands that start the part, which D0 runs once nothing holds D1 to D23 (R434, R444, R495, R508). -/
def Instr.ofStart (i : Instr) : Bool :=
  match i with
  | .rootPllLock | .refClockFault _ _ | .refClockReturn | .bootRom | .bootHoldRetry | .pfailAssert | .flashInhibitClear => true
  | _ => false

/-- Nothing on the packets' way differs: pipelines, packets, queues, ports, buffer, granary, wheels and policers. -/
def SameTraffic (d e : Dev) : Prop :=
  e.pipes = d.pipes ∧ e.pkts = d.pkts ∧ e.queues = d.queues ∧ e.ports = d.ports ∧ e.buf = d.buf ∧ e.gran = d.gran
    ∧ e.sched = d.sched

/-- Nothing that steers packets differs: the tables and the loader. -/
def SameTables (d e : Dev) : Prop := e.tbl = d.tbl ∧ e.prog = d.prog

/-- The elements that counting, an event, a notice or an error may change on the side: the heads and losses of the
telemetry store and its streams, the wrap counter, the performance banks, the notice counters and the error counters
(R309 to R312, R319, R322, R414, R500 to R510). -/
def asideEl (k : Nat) : Bool :=
  let o := keyObj k
  let e := keyEl k
  (o == 0x0C00 && (e == 8 || e == 0x0D))
    || (decide (0x0C08 ≤ o ∧ o < 0x0C10) && (e == 2 || e == 3))
    || (decide (0x0C40 ≤ o ∧ o < 0x0C80) && decide (3 ≤ e ∧ e ≤ 0x0B))
    || (o == 0x0502 && (e == 5 || e == 6))
    || (o == 0x0D00 && (e == 1 || e == 2 || e == 3 || e == 5))
    || (o == 0x0D01 && e == 2)

/-- No element differs but those of `ks` and the counters that any event moves. -/
def OnlyEls (ks : List Nat) (d e : Dev) : Prop :=
  ∀ k, asideEl k = false → k ∉ ks → Dev.el e k = Dev.el d k

/-- No string or blob differs but those of `ks`. -/
def OnlyBlobs (ks : List Nat) (d e : Dev) : Prop := ∀ k, k ∉ ks → Dev.blob e k = Dev.blob d k

/-! The stages of a pipeline. -/

/-- A packet stands before an instruction that runs now: no skip is pending (R134, R135). -/
def InStage (d : Dev) (n : Nat) : Prop :=
  let c := (Dev.pipe d n).ctx
  c.live = true ∧ c.skip = 0

/-- The context of a packet whose stage's program has ended: the results are in the sheaf, in the order they were made, but for
words 0 to 11, which only the Thresher writes, and the packet stands before the next stage (R82, R134). -/
def StageCtx.ended (c : StageCtx) : StageCtx :=
  { c with
    sheaf := c.results.foldl (fun sh r =>
      let m := (BitVec.ofNat 4096 (2 ^ r.2.1 - 1) <<< r.1) &&& ~~~BitVec.ofNat 4096 (2 ^ 768 - 1)
      (sh &&& ~~~m) ||| ((BitVec.ofNat 4096 r.2.2 <<< r.1) &&& m)) c.sheaf,
    results := [], stage := c.stage + 1, slot := 0, skip := 0 }

/-- The context past one instruction: before the next slot, and after slot 63 before the next stage (R134). -/
def StageCtx.past (c : StageCtx) : StageCtx := if c.slot = 63 then c.ended else { c with slot := c.slot + 1 }

/-- The state in which the packet in the stages of pipeline n stands as `c` says; past the last stage it is deparsed. Nothing
else differs (R134, R139 to R141). -/
def State.inStages (s : State) (n : Nat) (c : StageCtx) : State :=
  let alone (c : StageCtx) : Dev := Dev.setPipe s.dev n { Dev.pipe s.dev n with ctx := c }
  { s with dev :=
      if c.egress = true ∧ 8 ≤ c.stage then Dev.endEgress (alone StageCtx.init) c
      else if c.egress = false ∧ 12 ≤ c.stage then Dev.endIngress (alone StageCtx.init) c
      else alone c }

/-- The instructions of a stage's program on pipeline n (R135, R136). -/
def Instr.ofStage (n : Fin 16) (i : Instr) : Prop :=
  match i with
  | .opNop m | .opEnd m | .opMov m _ _ _ | .opAdd m _ _ _ _ | .opSub m _ _ _ _ | .opSubs m _ _ _ _ | .opAnd m _ _ _ _
  | .opOr m _ _ _ _ | .opXor m _ _ _ _ | .opShl m _ _ _ _ | .opShr m _ _ _ _ | .opMin m _ _ _ _ | .opMax m _ _ _ _
  | .opSkeq m _ _ _ _ | .opSkne m _ _ _ _ | .opSklt m _ _ _ _ | .opSkge m _ _ _ _ | .opMset m _ _ _ | .opMget m _ _ _
  | .opLkem m _ _ _ _ _ | .opLklpm4 m _ _ _ | .opLklpm6 m _ _ _ | .opLknh m _ _ _ | .opLkgrp m _ _ _ _ | .opHash m _ _
  | .opWin m _ _ _ | .opTcam m _ _ _ _ | .opLkix m _ _ _ _ _ => m = n
  | _ => False

/-- The lookups of structures that only ingress stages reach (R133). -/
def Instr.ingressOnly (i : Instr) : Prop :=
  match i with
  | .opLkem _ _ _ _ _ _ | .opLklpm4 _ _ _ _ | .opLklpm6 _ _ _ _ | .opLknh _ _ _ _ | .opLkgrp _ _ _ _ _ | .opWin _ _ _ _
  | .opTcam _ _ _ _ _ => True
  | _ => False

/-- The command of an operation with a destination; MOV has no operand A. -/
def aluInstr (op : AluOp) (n : Fin 16) (dst : Fin 4096) (w : Fin 64) (a : Fin 4096) (b : Operand) : Instr :=
  match op with
  | .mov => .opMov n dst w b | .add => .opAdd n dst w a b | .sub => .opSub n dst w a b | .subs => .opSubs n dst w a b
  | .and => .opAnd n dst w a b | .or => .opOr n dst w a b | .xor => .opXor n dst w a b | .shl => .opShl n dst w a b
  | .shr => .opShr n dst w a b | .min => .opMin n dst w a b | .max => .opMax n dst w a b

/-- The command of a skip. -/
def skipInstr (op : SkipOp) (n : Fin 16) (k w : Fin 64) (a : Fin 4096) (b : Operand) : Instr :=
  match op with
  | .eq => .opSkeq n k w a b | .ne => .opSkne n k w a b | .lt => .opSklt n k w a b | .ge => .opSkge n k w a b

/-- The packet's context with one more result, of `w` bits, for the end of the stage (R134). -/
def StageCtx.withResult (c : StageCtx) (dst w v : Nat) : StageCtx :=
  { c with results := c.results ++ [(dst, w, v)] }

/-- What a lookup leaves alone before its packet goes on: packets, queues, ports, buffer, granary, wheels, loader, time bases,
lanes, and of the pipelines all but the admission bucket and the bad words of its own. -/
def LookupFrame (n : Nat) (d e : Dev) : Prop :=
  e.pkts = d.pkts ∧ e.queues = d.queues ∧ e.ports = d.ports ∧ e.buf = d.buf ∧ e.gran = d.gran ∧ e.sched = d.sched
    ∧ e.prog = d.prog ∧ e.time = d.time ∧ e.lanes = d.lanes ∧ (∀ m, m ≠ n → Dev.pipe e m = Dev.pipe d m)
    ∧ Dev.pipe e n = { Dev.pipe d n with tcam := (Dev.pipe e n).tcam, badWords := (Dev.pipe e n).badWords }

/-! Table-command blocks. -/

/-- A command's block header: the opcode is the row's own, the rest of the header is the operand's (R123, Table 7). -/
def blkHdr (op h : Nat) : Nat := putBits h 0 8 op

/-- A block of queue q runs at once: it is well formed, nothing makes it wait, and a NEXT block finds no abort (R122 to
R126, R151). -/
def State.blockRuns (s : State) (q op h : Nat) (recs : List Nat) : Prop :=
  s.lit ∧ Blk.bad (blkHdr op h) recs = false ∧ Dev.blockWaits s.dev s.dev.tbl.waiting q (blkHdr op h) = false
    ∧ (Blk.next (blkHdr op h) = true → Dev.el s.dev K.epochStageState = 0)

/-- What a packet of epoch bit b finds for an exact-match key: the result alone (R101). -/
def emResult (t : TableS) (tab width key b : Nat) : Option Nat := (emFind t.em tab width key b).map (fun y => y.result)

/-- A command of a table block, by its opcode (Table 8). -/
def tableInstr (op : Nat) (q : Fin 2048) (h : Nat) (recs : List Nat) (f : Option TblFault) : Option Instr :=
  match op with
  | 1 => some (.tblInsert q h recs f) | 2 => some (.tblModify q h recs f) | 3 => some (.tblDelete q h recs f)
  | 4 => if f.isNone then some (.tblRead q h recs) else none
  | 5 => some (.groupCreate q h recs f) | 6 => some (.groupDelete q h recs f) | 7 => some (.memberAdd q h recs f)
  | 8 => some (.memberRemove q h recs f) | 9 => some (.slotWrite q h recs f) | _ => none

/-- The command that writes operation `op` to dq.ctl of queue q (Table 11 of DMA queues and rings). -/
def dqInstr (op : Nat) (src : Source) (q : Fin 2048) : Option Instr :=
  match op with
  | 1 => some (.dqEnableA src q) | 2 => some (.dqEnableB src q) | 3 => some (.dqDisable src q) | 4 => some (.dqReset src q)
  | 5 => some (.dqResume src q) | 6 => some (.dqRehomeA src q) | 7 => some (.dqRehomeB src q) | _ => none

/-! A time base as one number. -/

/-- A base's time in units of 2^-48 / 25 ns (R265). -/
def TimeBase.units (b : TimeBase) : Nat :=
  ((b.sec * 1000000000 + b.ns) * 2 ^ 32 + b.frac) * (25 * 2 ^ 16) + b.resid

/-- 2^48 seconds in those units. -/
def TimeBase.wrap : Nat := 2 ^ 48 * 1000000000 * 2 ^ 32 * (25 * 2 ^ 16)

/-- The fields of a base are in their ranges. -/
def TimeBase.inRange (b : TimeBase) : Prop :=
  b.sec < 2 ^ 48 ∧ b.ns < 1000000000 ∧ b.frac < 2 ^ 32 ∧ b.resid < 25 * 2 ^ 16

end Sys2Proof.Machine
end

