-- ==== Sys2Proof/Safety/Grants.lean ====
section
/-! DEFINITION. The rows that are writes of named elements: which elements each writes, with which values, and when a
write is granted (R383, R388, R396). -/
namespace Sys2Proof.Machine

/-- The value as the element takes it (R12, R381). -/
def WItem.norm (x : WItem) : WItem :=
  match Dict.find (keyObj x.k) (keyEl x.k) with
  | some r => { x with v := EVal.norm r x.k x.v }
  | none => x

/-- A write by `src` passes every check of R388: the element exists, the class may write it, the value is in its range, and no
rule of its chapter refuses it. -/
def Dev.grants (d : Dev) (src : Source) (x : WItem) : Prop :=
  ∃ r, Dev.checkTarget d (Source.cls src) (keyObj x.k) (keyEl x.k) = .inl r ∧ DictRow.inRange r x.v = true
    ∧ Dev.badWrite d (Dev.putItem d (WItem.norm x)) src x.k (WItem.norm x).v = 0
    ∧ Dev.storeFull (Dev.putItem d (WItem.norm x)) [x.k] = false

/-- The part after granted writes, in order. -/
def Dev.applied (ep : Nat) (d : Dev) (src : Source) : List WItem → Dev
  | [] => d
  | x :: t => Dev.applied ep (Dev.applyItems ep d src [WItem.norm x]) src t

/-- Each write of a command is granted where the ones before it have been applied. -/
def Dev.grantsAll (ep : Nat) (d : Dev) (src : Source) : List WItem → Prop
  | [] => True
  | x :: t => Dev.grants d src x ∧ Dev.grantsAll ep (Dev.applyItems ep d src [WItem.norm x]) src t

/-- The elements that a command's row writes, in order, and who writes them (R396 and the chapters' command objects). -/
def Instr.writes (i : Instr) : Option (Source × List WItem) :=
  match i with
  | .auditRequest src seq => some (src, [{ k := K.bufAuditSeq, v := .num seq.val }])
  | .mcSet src group list seq => some (src, [{ k := K.mcOp, v := .num 1 }, { k := K.mcGroup, v := .num group.val },
      { k := K.mcList, v := .raw list }, { k := K.mcSeq, v := .num seq.val }])
  | .mcRead src group seq => some (src, [{ k := K.mcOp, v := .num 2 }, { k := K.mcGroup, v := .num group.val },
      { k := K.mcSeq, v := .num seq.val }])
  | .mcClear src group seq => some (src, [{ k := K.mcOp, v := .num 3 }, { k := K.mcGroup, v := .num group.val },
      { k := K.mcSeq, v := .num seq.val }])
  | .portAdminUp src p => some (src, [{ k := K.portAdmin p.val, v := .num 1 }])
  | .portAdminDown src p => some (src, [{ k := K.portAdmin p.val, v := .num 0 }])
  | .tileReachWrite src t reach => some (src, [{ k := K.tileReach t.val, v := .num reach.val }])
  | .laneAdaptRestart src lane => some (src, [{ k := K.laneAdaptRestart lane.val, v := .num 1 }])
  | .tileSeedSave src t => some (src, [{ k := K.tileSeedSave t.val, v := .num 1 }])
  | .progStageChunk src bytes => some (src, [{ k := K.progStageChunk, v := .raw bytes }])
  | .progLoad src seq => some (src, [{ k := K.progLoadSeq, v := .num seq.val }])
  | .progLoadDiscard src => some (src, [{ k := K.progLoadDiscard, v := .num 1 }])
  | .epochFlip src seq => some (src, [{ k := K.epochFlipSeq, v := .num seq.val }])
  | .stageAbort src => some (src, [{ k := K.epochStageAbort, v := .num 1 }])
  | .stageReset src => some (src, [{ k := K.epochStageReset, v := .num 1 }])
  | .stackRetire src stack => some (src, [{ k := K.granStackRetire, v := .num stack.val }])
  | .stackUnretire src stack => some (src, [{ k := K.gstackUnretire stack.val, v := .num 1 }])
  | .polSet src index cfg seq => some (src, [{ k := K.polOp, v := .num 1 }, { k := K.polIndex, v := .num index.val },
      { k := K.polCfg, v := .num cfg.toNat }, { k := K.polSeq, v := .num seq.val }])
  | .polRead src index seq => some (src, [{ k := K.polOp, v := .num 2 }, { k := K.polIndex, v := .num index.val },
      { k := K.polSeq, v := .num seq.val }])
  | .polClearCounters src index seq => some (src, [{ k := K.polOp, v := .num 3 },
      { k := K.polIndex, v := .num index.val }, { k := K.polSeq, v := .num seq.val }])
  | .tbStep src b step => some (src, [{ k := K.tbStep b.val, v := .num step.toNat }])
  | .tbTimeSet src b time => some (src, [{ k := K.tbTimeSet b.val, v := .num time.toNat }])
  | .tbRateSet src b rate => some (src, [{ k := K.tbRateSet b.val, v := .num rate.toNat }])
  | .tbOffset src b offset => some (src, [{ k := K.tbOffset b.val, v := .num offset.toNat }])
  | .tbMasterNew src b => some (src, [{ k := K.tbMasterNew b.val, v := .num 1 }])
  | .tbServoMode src b mode => some (src, [{ k := K.tbServoMode b.val, v := .num mode.val }])
  | .tallySnapshot src barn => some (src, [{ k := K.tallySnapshot, v := .num barn.val }])
  | .tallyClear src barn => some (src, [{ k := K.tallyClear, v := .num barn.val }])
  | .histClear src q => some (src, [{ k := K.eqHistClear q.val, v := .num 1 }])
  | .histClearPort src p => some (src, [{ k := K.telHistClearPort, v := .num p.val }])
  | .wrapClear src => some (src, [{ k := K.telWrapClear, v := .num 1 }])
  | .vecBind src port q vector seq => some (src, [{ k := K.vecOp, v := .num 1 },
      { k := K.vecPort, v := .num port.val }, { k := K.vecQueue, v := .num q.val },
      { k := K.vecVector, v := .num vector.val }, { k := K.vecSeq, v := .num seq.val }])
  | .vecUnbind src port q seq => some (src, [{ k := K.vecOp, v := .num 2 }, { k := K.vecPort, v := .num port.val },
      { k := K.vecQueue, v := .num q.val }, { k := K.vecSeq, v := .num seq.val }])
  | .vecRead src port q seq => some (src, [{ k := K.vecOp, v := .num 3 }, { k := K.vecPort, v := .num port.val },
      { k := K.vecQueue, v := .num q.val }, { k := K.vecSeq, v := .num seq.val }])
  | .dqEnableA src q => some (src, [{ k := K.dqCtl q.val, v := .num 1 }])
  | .dqEnableB src q => some (src, [{ k := K.dqCtl q.val, v := .num 2 }])
  | .dqDisable src q => some (src, [{ k := K.dqCtl q.val, v := .num 3 }])
  | .dqReset src q => some (src, [{ k := K.dqCtl q.val, v := .num 4 }])
  | .dqResume src q => some (src, [{ k := K.dqCtl q.val, v := .num 5 }])
  | .dqRehomeA src q => some (src, [{ k := K.dqCtl q.val, v := .num 6 }])
  | .dqRehomeB src q => some (src, [{ k := K.dqCtl q.val, v := .num 7 }])
  | .fwStageChunk src bytes => some (src, [{ k := K.fwStageChunk, v := .raw bytes }])
  | .fwWriteSlot src seq => some (src, [{ k := K.fwUpdateOp, v := .num 1 }, { k := K.fwUpdateSeq, v := .num seq.val }])
  | .fwActivateNow src seq => some (src, [{ k := K.fwUpdateOp, v := .num 2 }, { k := K.fwUpdateSeq, v := .num seq.val }])
  | .fwActivateNext src seq => some (src, [{ k := K.fwUpdateOp, v := .num 3 }, { k := K.fwUpdateSeq, v := .num seq.val }])
  | .fwAbort src seq => some (src, [{ k := K.fwUpdateOp, v := .num 4 }, { k := K.fwUpdateSeq, v := .num seq.val }])
  | .fwConfirm src => some (src, [{ k := K.fwConfirm, v := .num 1 }])
  | .mgmtRestart src seq => some (src, [{ k := K.fwRestartSeq, v := .num seq.val }])
  | .warmArm src => some (src, [{ k := K.resetWarmArm, v := .num 1 }])
  | .warmReset src seq _ => some (src, [{ k := K.resetWarmSeq, v := .num seq.val }])
  | .pipeReset src mask seq => some (src, [{ k := K.resetPipeMask, v := .num mask.toNat },
      { k := K.resetPipeSeq, v := .num seq.val }])
  | .fatalClear src mask => some (src, [{ k := K.errFatal, v := .num mask.toNat }])
  | .crashCapture src => some (src, [{ k := K.errCrashCapture, v := .num 1 }])
  | .crashRead src index seq => some (src, [{ k := K.errCrashIndex, v := .num index.toNat },
      { k := K.errCrashSeq, v := .num seq.val }])
  | .perfConfigWrite src b enable v => some (src, [{ k := if enable then K.perfEnable b.val else K.perfSel b.val, v := .num v.toNat }])
  | .cfgSync src seq => some (src, [{ k := K.cfgsSyncSeq, v := .num seq.val }])
  | .cfgClear src => some (src, [{ k := K.cfgsClear, v := .num 1 }])
  | _ => none

/-- What a command brings beside its writes: the straps' levels at a full warm reset that is due (R532). -/
def Instr.levels (i : Instr) (d : Dev) : Dev :=
  match i with
  | .warmReset _ _ straps => Dev.strapsIn d straps.val
  | _ => d

/-- The firmware serves commands, the sender is present, and every write of this command is granted. -/
def State.grants (s : State) (i : Instr) : Prop :=
  s.lit ∧ s.dev.fw.running = true
    ∧ match Instr.writes i with
      | some x => Dev.present s.dev x.1 = true ∧ Dev.grantsAll s.epoch (Dev.fresh s.dev) x.1 x.2
      | none => False

end Sys2Proof.Machine
end

