-- ==== Sys2Proof/WellFormed.lean ====
section
/-! DEFINITION. What an operand of a command may be: a command that fails a check is one that no sender forms. -/
namespace Sys2Proof

/-- The sheaf field that operand B names, with the width of the instruction (R135). -/
def Operand.fields (b : Operand) (w : Nat) : List (Nat × Nat) :=
  match b with
  | .imm _ => []
  | .field off => [(off.val, w + 1)]

/-- A table block: the first 16 bytes of its header and at most 255 records of at most 192 bytes (R123, R124). -/
def blockOk (h : Nat) (recs : List Nat) : Bool :=
  decide (h < 2 ^ 128) && decide (recs.length ≤ 255) && recs.all (fun r => decide (r < 2 ^ 1536))

/-- The fields of the sheaf that a command reads or writes: offset and width. No field reaches past the sheaf's end
(R135, R136). -/
def Instr.sheafFields (i : Instr) : List (Nat × Nat) :=
  match i with
  | .frameReceive _ _ _ _ _ _ => []
  | .frameTailArrive _ _ _ _ _ => []
  | .arbiterAccept _ _ => []
  | .thresherStart _ => []
  | .costGatePass _ _ _ _ => []
  | .opNop _ => []
  | .opEnd _ => []
  | .opMov _n dst w b => [(dst.val, w.val + 1)] ++ Operand.fields b w.val
  | .opAdd _n dst w a b => [(dst.val, w.val + 1), (a.val, w.val + 1)] ++ Operand.fields b w.val
  | .opSub _n dst w a b => [(dst.val, w.val + 1), (a.val, w.val + 1)] ++ Operand.fields b w.val
  | .opSubs _n dst w a b => [(dst.val, w.val + 1), (a.val, w.val + 1)] ++ Operand.fields b w.val
  | .opAnd _n dst w a b => [(dst.val, w.val + 1), (a.val, w.val + 1)] ++ Operand.fields b w.val
  | .opOr _n dst w a b => [(dst.val, w.val + 1), (a.val, w.val + 1)] ++ Operand.fields b w.val
  | .opXor _n dst w a b => [(dst.val, w.val + 1), (a.val, w.val + 1)] ++ Operand.fields b w.val
  | .opShl _n dst w a b => [(dst.val, w.val + 1), (a.val, w.val + 1)] ++ Operand.fields b w.val
  | .opShr _n dst w a b => [(dst.val, w.val + 1), (a.val, w.val + 1)] ++ Operand.fields b w.val
  | .opMin _n dst w a b => [(dst.val, w.val + 1), (a.val, w.val + 1)] ++ Operand.fields b w.val
  | .opMax _n dst w a b => [(dst.val, w.val + 1), (a.val, w.val + 1)] ++ Operand.fields b w.val
  | .opSkeq _n _k w a b => [(a.val, w.val + 1)] ++ Operand.fields b w.val
  | .opSkne _n _k w a b => [(a.val, w.val + 1)] ++ Operand.fields b w.val
  | .opSklt _n _k w a b => [(a.val, w.val + 1)] ++ Operand.fields b w.val
  | .opSkge _n _k w a b => [(a.val, w.val + 1)] ++ Operand.fields b w.val
  | .opMset _n _k w b => Operand.fields b w.val
  | .opMget _n dst w _k => [(dst.val, w.val + 1)]
  | .opLkem _n dst _p _t _w _e => [(dst.val, 66)]
  | .opLklpm4 _n dst _p _e => [(dst.val, 34)]
  | .opLklpm6 _n dst _p _e => [(dst.val, 34)]
  | .opLknh _n dst a _e => [(dst.val, 130), (a.val, 19)]
  | .opLkgrp _n dst a _h _e => [(dst.val, 130), (a.val, 14)]
  | .opHash _n dst _h => [(dst.val, 32)]
  | .opWin _n dst _p _e => [(dst.val, 34)]
  | .opTcam _n dst _p _f _e => [(dst.val, 66)]
  | .opLkix _n dst w a encap _e => [(dst.val, if encap then 258 else 50), (a.val, w.val + 1)]
  | .packetAdmit _ => []
  | .pfcFrameSend _ => []
  | .pfcRefreshTimer _ _ => []
  | .pfcFrameReceive _ _ => []
  | .pauseTimerExpire _ _ => []
  | .schedSelect _ _ _ _ => []
  | .frameTransmit _ _ _ => []
  | .launchRelease _ _ => []
  | .frameTxEnd _ _ => []
  | .ageCheckTimer => []
  | .downHoldExpire _ => []
  | .flushDone _ => []
  | .auditPeriod => []
  | .auditRequest _ _ => []
  | .auditDone => []
  | .mcSet _ _ _ _ => []
  | .mcRead _ _ _ => []
  | .mcClear _ _ _ => []
  | .portAdminUp _ _ => []
  | .portAdminDown _ _ => []
  | .signalDetect _ => []
  | .anComplete _ _ => []
  | .anTimeout _ => []
  | .ltComplete _ _ => []
  | .trainingTimeout _ => []
  | .c2mAdaptDone _ _ => []
  | .alignmentLock _ => []
  | .alignmentTimeout _ => []
  | .portDebounceUp _ => []
  | .portRetryTimer _ => []
  | .linkFaultDetect _ _ => []
  | .linkFaultClear _ _ => []
  | .portDownDebounce _ => []
  | .fecDegradeCheck _ _ _ _ => []
  | .tileReachWrite _ _ _ => []
  | .laneAdaptRestart _ _ => []
  | .laneAdaptDone _ _ => []
  | .tileSeedSave _ _ => []
  | .rouriWireFail _ _ _ => []
  | .rouriRepairDone _ _ => []
  | .tileMcuHeartbeatMiss _ _ => []
  | .tileMcuReload _ => []
  | .tileMcuReloadDone _ _ => []
  | .tblInsert _ _ _ _ => []
  | .tblModify _ _ _ _ => []
  | .tblDelete _ _ _ _ => []
  | .tblRead _ _ _ => []
  | .groupCreate _ _ _ _ => []
  | .groupDelete _ _ _ _ => []
  | .memberAdd _ _ _ _ => []
  | .memberRemove _ _ _ _ => []
  | .slotWrite _ _ _ _ => []
  | .visibilitySettlement => []
  | .settlementDone => []
  | .barnPeerRepair _ => []
  | .barnScrubPass _ _ _ _ => []
  | .progStageChunk _ _ => []
  | .progLoad _ _ => []
  | .progLoadWrite => []
  | .progLoadDone _ => []
  | .progLoadDiscard _ => []
  | .epochFlip _ _ => []
  | .flipAckWait => []
  | .flipAckTimeout _ => []
  | .flipCommit => []
  | .ingressDrainEnd _ => []
  | .bankRelease _ => []
  | .epochReleaseLimit => []
  | .bankCopy _ => []
  | .bankCopyDone _ => []
  | .stageAbort _ => []
  | .stageAbortDone => []
  | .stageReset _ => []
  | .baleCloseTimer _ => []
  | .baleWriteDone _ => []
  | .baleReturnRead => []
  | .baleReturnDone _ _ _ => []
  | .granaryScrubPass _ _ => []
  | .segmentFailDeclare _ _ => []
  | .segmentRemap _ _ => []
  | .hpprDone _ _ _ => []
  | .stackTempAlarm _ _ => []
  | .stackRetire _ _ => []
  | .retireDrainEnd _ => []
  | .stackUnretire _ _ => []
  | .driftCheck _ _ _ => []
  | .granaryTrainingDone _ => []
  | .telStoreMigrate => []
  | .wheelRelease _ => []
  | .wheelOverflowMove _ => []
  | .polSet _ _ _ _ => []
  | .polRead _ _ _ => []
  | .polClearCounters _ _ _ => []
  | .tbStep _ _ _ => []
  | .tbTimeSet _ _ _ => []
  | .tbRateSet _ _ _ => []
  | .tbOffset _ _ _ => []
  | .tbMasterNew _ _ => []
  | .tbServoMode _ _ _ => []
  | .tbHoldoverTimeout _ => []
  | .tbRateSave _ => []
  | .captureEdge _ _ _ => []
  | .capPop _ _ => []
  | .pulseEdge _ => []
  | .txtsPop _ _ _ => []
  | .tallyIdleSweep => []
  | .tallySnapshot _ _ => []
  | .tallySnapshotDone => []
  | .tallyClear _ _ => []
  | .histClear _ _ => []
  | .histClearPort _ _ => []
  | .wrapClear _ => []
  | .perfConfigWrite _ _ _ _ => []
  | .gleanerSweep => []
  | .streamExport _ => []
  | .hlHeartbeat _ => []
  | .heartbeatTimeout _ => []
  | .evtCauseClear _ _ => []
  | .vecBind _ _ _ _ _ => []
  | .vecUnbind _ _ _ _ => []
  | .vecRead _ _ _ _ => []
  | .bar0BadAccess _ _ => []
  | .doorbell _ _ _ _ => []
  | .atsInvalidate _ _ _ _ => []
  | .priResponse _ _ _ => []
  | .pcieError _ _ => []
  | .hostLoss _ _ => []
  | .hostPortReset _ _ => []
  | .hostReturn _ _ => []
  | .dqEnableA _ _ => []
  | .dqEnableB _ _ => []
  | .dqDisable _ _ => []
  | .dqReset _ _ => []
  | .dqResume _ _ => []
  | .dqRehomeA _ _ => []
  | .dqRehomeB _ _ => []
  | .dqStopDone _ => []
  | .dmaSlice _ _ => []
  | .dmaReadCompletion _ _ _ _ => []
  | .dmaCplTimeout _ _ => []
  | .cqHeadPoll _ _ => []
  | .coalTimer _ => []
  | .drainBufferTimer _ => []
  | .injectDeliver _ => []
  | .mailboxSubmit _ _ => []
  | .directWindowWrite _ _ _ _ => []
  | .read _ => []
  | .write _ _ _ _ _ => []
  | .readInForce _ _ _ => []
  | .readPart _ _ _ _ => []
  | .writePart _ _ _ _ _ _ => []
  | .describe _ _ _ => []
  | .nextObject _ _ => []
  | .sessionOpen _ => []
  | .sessionCommit _ _ _ => []
  | .sessionDiscard _ _ => []
  | .sessionTimeout _ => []
  | .commandClaimExpire _ _ => []
  | .cfgGenerationWrite => []
  | .cfgSync _ _ => []
  | .cfgClear _ => []
  | .mgmtFrameReceive _ _ _ => []
  | .mportLinkUp _ _ _ _ => []
  | .mportLinkDown _ _ => []
  | .dhcpLeaseExpire _ => []
  | .dhcpDiscoverRetry _ => []
  | .dadComplete _ _ _ => []
  | .udpRequest _ _ _ _ _ _ => []
  | .lldpTxTimer _ => []
  | .lldpReceive _ _ => []
  | .lldpTtlExpire _ => []
  | .i3cAddressAssign _ _ => []
  | .i3cRstdaa => []
  | .mctpTuileyMessage _ _ => []
  | .setEndpointId _ _ _ _ _ => []
  | .getEndpointId _ _ _ => []
  | .getEndpointUuid _ _ _ => []
  | .getMctpVersionSupport _ _ _ _ => []
  | .getMessageTypeSupport _ _ _ => []
  | .getVendorMessageSupport _ _ _ _ => []
  | .prepareForEndpointDiscovery _ _ _ => []
  | .endpointDiscovery _ _ _ => []
  | .unsupportedControlCmd _ _ _ _ => []
  | .eidAnnounceTimer _ => []
  | .fwStageChunk _ _ => []
  | .fwWriteSlot _ _ => []
  | .fwSlotWriteDone _ => []
  | .fwActivateNow _ _ => []
  | .fwActivateNext _ _ => []
  | .fwAbort _ _ => []
  | .fwSessionTimeout => []
  | .fwConfirm _ => []
  | .fwSelfConfirm _ => []
  | .fwWindowExpire => []
  | .bootRom => []
  | .bootHoldRetry => []
  | .watchdogExpire => []
  | .processorFatal => []
  | .mgmtRestart _ _ => []
  | .mgmtRestartDone _ => []
  | .pctlReload _ => []
  | .gmcuReload _ => []
  | .flashInhibitClear => []
  | .pfailAssert => []
  | .capStep _ => []
  | .railRead _ _ => []
  | .thermalStep => []
  | .sensorSample _ => []
  | .ageingReport _ => []
  | .supplyLoss _ => []
  | .supplyGood _ => []
  | .tileIdleOff _ => []
  | .porstAssert _ => []
  | .coldReset _ _ _ => []
  | .rootPllLock => []
  | .warmArm _ => []
  | .warmReset _ _ _ => []
  | .pipeReset _ _ _ => []
  | .pipeResetDone => []
  | .refClockFault _ _ => []
  | .refClockReturn => []
  | .bankScrub _ => []
  | .shadowScrub _ => []
  | .fatalCheck => []
  | .fatalClear _ _ => []
  | .crashCapture _ => []
  | .crashRead _ _ _ => []
  | .exhaustCheck => []
  | .lifeHour => []
  | .elementWrite _ _ _ _ => []
  | .mainFirmwareRuns _ _ => []
  | .pulseTrailingEdge _ => []
  | .dhcpRenewal _ => []
  | .bufferScrub _ _ _ => []
  | .warmArmExpire => []

/-- The coefficients of a lane: 24 of the FFE and one of the DFE, two bytes each; a transmit FIR has at most five taps (R43,
log 19). -/
def LaneEq.ok (e : LaneEq) : Bool := e.coefs.length == 50 && decide (e.fir.length ≤ 10)

/-- What a host can set in configuration space: PCIe's payload and request sizes up to those of Table 1, a link of 1, 2, 4 or 8
lanes at 2.5 to 32 GT/s (R330). -/
def HostCfg.ok (c : HostCfg) : Bool :=
  [128, 256, 512].contains c.mps && [128, 256, 512, 1024, 2048, 4096].contains c.mrrs
    && [1, 2, 4, 8].contains c.width && decide (1 ≤ c.rate ∧ c.rate ≤ 5)

/-- What a command's other operands may be: a frame has bytes, a flow-control frame has 64 at least, a block is a block,
a value fits its register, a list is no longer than what it samples. -/
def Instr.operandsOk (i : Instr) : Bool :=
  match i with
  | .frameReceive _p _h bytes _e _f _w => !bytes.isEmpty
  | .frameTailArrive _ _ _ _ _ => true
  | .arbiterAccept _ _ => true
  | .thresherStart _ => true
  | .costGatePass _ _ _ _ => true
  | .opNop _ => true
  | .opEnd _ => true
  | .opMov _ _ _ _ => true
  | .opAdd _ _ _ _ _ => true
  | .opSub _ _ _ _ _ => true
  | .opSubs _ _ _ _ _ => true
  | .opAnd _ _ _ _ _ => true
  | .opOr _ _ _ _ _ => true
  | .opXor _ _ _ _ _ => true
  | .opShl _ _ _ _ _ => true
  | .opShr _ _ _ _ _ => true
  | .opMin _ _ _ _ _ => true
  | .opMax _ _ _ _ _ => true
  | .opSkeq _ _ _ _ _ => true
  | .opSkne _ _ _ _ _ => true
  | .opSklt _ _ _ _ _ => true
  | .opSkge _ _ _ _ _ => true
  | .opMset _ _ _ _ => true
  | .opMget _ _ _ _ => true
  | .opLkem _ _ _ _ _ _ => true
  | .opLklpm4 _ _ _ _ => true
  | .opLklpm6 _ _ _ _ => true
  | .opLknh _ _ _ _ => true
  | .opLkgrp _ _ _ _ _ => true
  | .opHash _ _ _ => true
  | .opWin _ _ _ _ => true
  | .opTcam _ _ _ _ _ => true
  | .opLkix _ _ _ _ _ _ => true
  | .packetAdmit _ => true
  | .pfcFrameSend _ => true
  | .pfcRefreshTimer _ _ => true
  | .pfcFrameReceive _p bytes => decide (64 ≤ bytes.length)
  | .pauseTimerExpire _ _ => true
  | .schedSelect _ _ _ _ => true
  | .frameTransmit _ _ _ => true
  | .launchRelease _ _ => true
  | .frameTxEnd _ _ => true
  | .ageCheckTimer => true
  | .downHoldExpire _ => true
  | .flushDone _ => true
  | .auditPeriod => true
  | .auditRequest _ _ => true
  | .auditDone => true
  | .mcSet _ _ _ _ => true
  | .mcRead _ _ _ => true
  | .mcClear _ _ _ => true
  | .portAdminUp _ _ => true
  | .portAdminDown _ _ => true
  | .signalDetect _ => true
  | .anComplete _ _ => true
  | .anTimeout _ => true
  | .ltComplete _p eqs => eqs.all LaneEq.ok
  | .trainingTimeout _ => true
  | .c2mAdaptDone _p eqs => eqs.all LaneEq.ok
  | .alignmentLock _ => true
  | .alignmentTimeout _ => true
  | .portDebounceUp _ => true
  | .portRetryTimer _ => true
  | .linkFaultDetect _ _ => true
  | .linkFaultClear _ _ => true
  | .portDownDebounce _ => true
  | .fecDegradeCheck _ _ _ _ => true
  | .tileReachWrite _ _ _ => true
  | .laneAdaptRestart _ _ => true
  | .laneAdaptDone _n e => LaneEq.ok e
  | .tileSeedSave _ _ => true
  | .rouriWireFail _ _ _ => true
  | .rouriRepairDone _ _ => true
  | .tileMcuHeartbeatMiss _ _ => true
  | .tileMcuReload _ => true
  | .tileMcuReloadDone _ _ => true
  | .tblInsert _q h recs _f => blockOk h recs
  | .tblModify _q h recs _f => blockOk h recs
  | .tblDelete _q h recs _f => blockOk h recs
  | .tblRead _q h recs => blockOk h recs
  | .groupCreate _q h recs _f => blockOk h recs
  | .groupDelete _q h recs _f => blockOk h recs
  | .memberAdd _q h recs _f => blockOk h recs
  | .memberRemove _q h recs _f => blockOk h recs
  | .slotWrite _q h recs _f => blockOk h recs
  | .visibilitySettlement => true
  | .settlementDone => true
  | .barnPeerRepair _ => true
  | .barnScrubPass _ _ _ _ => true
  | .progStageChunk _ _ => true
  | .progLoad _ _ => true
  | .progLoadWrite => true
  | .progLoadDone _ => true
  | .progLoadDiscard _ => true
  | .epochFlip _ _ => true
  | .flipAckWait => true
  | .flipAckTimeout _ => true
  | .flipCommit => true
  | .ingressDrainEnd _ => true
  | .bankRelease _ => true
  | .epochReleaseLimit => true
  | .bankCopy _ => true
  | .bankCopyDone _ => true
  | .stageAbort _ => true
  | .stageAbortDone => true
  | .stageReset _ => true
  | .baleCloseTimer _ => true
  | .baleWriteDone b => decide (b < 2097152)
  | .baleReturnRead => true
  | .baleReturnDone _n b _w => decide (b < 2097152)
  | .granaryScrubPass _ _ => true
  | .segmentFailDeclare _ _ => true
  | .segmentRemap _ _ => true
  | .hpprDone _ _ _ => true
  | .stackTempAlarm _ _ => true
  | .stackRetire _ _ => true
  | .retireDrainEnd _ => true
  | .stackUnretire _ _ => true
  | .driftCheck _ _ _ => true
  | .granaryTrainingDone _ => true
  | .telStoreMigrate => true
  | .wheelRelease _ => true
  | .wheelOverflowMove _ => true
  | .polSet _ _ _ _ => true
  | .polRead _ _ _ => true
  | .polClearCounters _ _ _ => true
  | .tbStep _ _ _ => true
  | .tbTimeSet _ _ _ => true
  | .tbRateSet _ _ _ => true
  | .tbOffset _ _ _ => true
  | .tbMasterNew _ _ => true
  | .tbServoMode _ _ _ => true
  | .tbHoldoverTimeout _ => true
  | .tbRateSave _ => true
  | .captureEdge _ _ _ => true
  | .capPop _ _ => true
  | .pulseEdge _ => true
  | .txtsPop _ _ _ => true
  | .tallyIdleSweep => true
  | .tallySnapshot _ _ => true
  | .tallySnapshotDone => true
  | .tallyClear _ _ => true
  | .histClear _ _ => true
  | .histClearPort _ _ => true
  | .wrapClear _ => true
  | .perfConfigWrite _ _ _ _ => true
  | .gleanerSweep => true
  | .streamExport _ => true
  | .hlHeartbeat _ => true
  | .heartbeatTimeout _ => true
  | .evtCauseClear _p m => decide (m < 2 ^ 64)
  | .vecBind _ _ _ _ _ => true
  | .vecUnbind _ _ _ _ => true
  | .vecRead _ _ _ _ => true
  | .bar0BadAccess _ _ => true
  | .doorbell _p _o size v => decide (v < 2 ^ (8 * size))
  | .atsInvalidate _p tag _g _n => decide (tag < 32)
  | .priResponse _ _ _ => true
  | .pcieError _ _ => true
  | .hostLoss _ _ => true
  | .hostPortReset _ _ => true
  | .hostReturn _p c => HostCfg.ok c
  | .dqEnableA _ _ => true
  | .dqEnableB _ _ => true
  | .dqDisable _ _ => true
  | .dqReset _ _ => true
  | .dqResume _ _ => true
  | .dqRehomeA _ _ => true
  | .dqRehomeB _ _ => true
  | .dqStopDone _ => true
  | .dmaSlice _ _ => true
  | .dmaReadCompletion _ _ _ _ => true
  | .dmaCplTimeout _ _ => true
  | .cqHeadPoll _ _ => true
  | .coalTimer _ => true
  | .drainBufferTimer _ => true
  | .injectDeliver _ => true
  | .mailboxSubmit _ _ => true
  | .directWindowWrite _p _o size v => decide (v < 2 ^ (8 * size))
  | .read _ => true
  | .write _ _ _ _ _ => true
  | .readInForce _ _ _ => true
  | .readPart _ _ _ _ => true
  | .writePart _ _ _ _ _ _ => true
  | .describe _ _ _ => true
  | .nextObject _ _ => true
  | .sessionOpen _ => true
  | .sessionCommit _ _ _ => true
  | .sessionDiscard _ _ => true
  | .sessionTimeout _ => true
  | .commandClaimExpire _ _ => true
  | .cfgGenerationWrite => true
  | .cfgSync _ _ => true
  | .cfgClear _ => true
  | .mgmtFrameReceive _ _ _ => true
  | .mportLinkUp _ _ _ _ => true
  | .mportLinkDown _ _ => true
  | .dhcpLeaseExpire _ => true
  | .dhcpDiscoverRetry _ => true
  | .dadComplete _ _ _ => true
  | .udpRequest _ _ _ _ _ _ => true
  | .lldpTxTimer _ => true
  | .lldpReceive _ _ => true
  | .lldpTtlExpire _ => true
  | .i3cAddressAssign _ _ => true
  | .i3cRstdaa => true
  | .mctpTuileyMessage _ _ => true
  | .setEndpointId _ _ _ _ _ => true
  | .getEndpointId _ _ _ => true
  | .getEndpointUuid _ _ _ => true
  | .getMctpVersionSupport _ _ _ _ => true
  | .getMessageTypeSupport _ _ _ => true
  | .getVendorMessageSupport _ _ _ _ => true
  | .prepareForEndpointDiscovery _ _ _ => true
  | .endpointDiscovery _ _ _ => true
  | .unsupportedControlCmd _ _ _ _ => true
  | .eidAnnounceTimer _ => true
  | .fwStageChunk _ _ => true
  | .fwWriteSlot _ _ => true
  | .fwSlotWriteDone _ => true
  | .fwActivateNow _ _ => true
  | .fwActivateNext _ _ => true
  | .fwAbort _ _ => true
  | .fwSessionTimeout => true
  | .fwConfirm _ => true
  | .fwSelfConfirm _ => true
  | .fwWindowExpire => true
  | .bootRom => true
  | .bootHoldRetry => true
  | .watchdogExpire => true
  | .processorFatal => true
  | .mgmtRestart _ _ => true
  | .mgmtRestartDone _ => true
  | .pctlReload _ => true
  | .gmcuReload _ => true
  | .flashInhibitClear => true
  | .pfailAssert => true
  | .capStep preds => decide (preds.length ≤ 18)
  | .railRead _f reads => decide (reads.length ≤ 16)
  | .thermalStep => true
  | .sensorSample temps => decide (temps.length ≤ 64)
  | .ageingReport _ => true
  | .supplyLoss _ => true
  | .supplyGood _ => true
  | .tileIdleOff _ => true
  | .porstAssert _ => true
  | .coldReset _ _ _ => true
  | .rootPllLock => true
  | .warmArm _ => true
  | .warmReset _ _ _ => true
  | .pipeReset _ _ _ => true
  | .pipeResetDone => true
  | .refClockFault _ _ => true
  | .refClockReturn => true
  | .bankScrub _ => true
  | .shadowScrub _ => true
  | .fatalCheck => true
  | .fatalClear _ _ => true
  | .crashCapture _ => true
  | .crashRead _ _ _ => true
  | .exhaustCheck => true
  | .lifeHour => true
  | .elementWrite _ _ _ _ => true
  | .mainFirmwareRuns _ _ => true
  | .pulseTrailingEdge _ => true
  | .dhcpRenewal _ => true
  | .bufferScrub _ _ _ => true
  | .warmArmExpire => true

/-- Well-formed commands. -/
def Instr.wf (i : Instr) : Bool :=
  (Instr.sheafFields i).all (fun x => decide (x.1 + x.2 ≤ 4096)) && Instr.operandsOk i

end Sys2Proof
end

