-- ==== Sys2Proof/Certificates/Slice0/Obligations.lean ====
section
/-! DEFINITION. The statements. Each says which rules of the spec it rests on. -/

section
open Sys2Proof Sys2Proof.Machine

/-! The queue, time, and what no command may do. -/

/-- A step runs the command at the front (the model's queue, log 1). -/
def Obligations.StepRunsTheFrontCommand : Prop :=
  ∀ (c : Instr) (rest : List Instr) (s : State), s.pending = c :: rest → step s = exec c { s with pending := rest }

/-- A tick (R265), the pulses in progress (R292) and the cycles that the performance counters count in it (R322); that an idle
step is one is the model's choice (log 1). -/
def Obligations.IdleStepIsOneTickOfEveryBase : Prop :=
  ∀ s : State, s.pending = [] →
    ∃ bs ps os vs, step s = .next { s with dev := { s.dev with
          ticks := s.dev.ticks + 1, time := { s.dev.time with bases := bs, pulses := ps }, out := os,
          dict := { s.dev.dict with vals := vs } } }
      ∧ ((∀ c, c < 2 → (Dev.pulse s.dev c).active = false) → ps = s.dev.time.pulses ∧ os = s.dev.out)
      ∧ OnlyEls [] s.dev { s.dev with dict := { s.dev.dict with vals := vs } }
      ∧ ((∀ b, b < 64 → SMap.find s.dev.dict.vals (K.perfEnable b) = none) → vs = s.dev.dict.vals)
      ∧ bs.length = s.dev.time.bases.length
      ∧ ∀ (i : Nat) (b : TimeBase), s.dev.time.bases[i]? = some b → b.inRange → -(2 ^ 48 : Int) ≤ b.rho →
          ∃ c : TimeBase, bs[i]? = some c ∧ c.inRange ∧ c.rho = b.rho
            ∧ (c.units : Int) % (TimeBase.wrap : Int) = ((b.units : Int) + 32 * (2 ^ 48 + b.rho)) % (TimeBase.wrap : Int)

/-- No command stops the part, and none touches the queue. -/
def Obligations.EveryCommandCompletesAndKeepsTheQueue : Prop :=
  ∀ (c : Instr) (s : State), ∃ t, exec c s = .next t ∧ t.pending = s.pending

/-- R147: the counter's start, width, advance, and the banks that its bit 0 names. -/
def Obligations.EpochAdvancesOnlyByFlip : Prop :=
  State.reset.epoch = 0
  ∧ (∀ (rest : List Instr) (s : State), s.lit → s.dev.prog.flip = 2 → s.pending = .flipCommit :: rest →
      ∃ t, step s = .next t ∧ t.epoch = (s.epoch + 1) % 2 ^ 48)
  ∧ (∀ s t : State, step s = .next t →
    (s.epoch < 2 ^ 48 → t.epoch < 2 ^ 48)
    ∧ (t.epoch = s.epoch
      ∨ (s.pending.head? = some .flipCommit ∧ s.dev.prog.flip = 2 ∧ t.epoch = (s.epoch + 1) % 2 ^ 48)
      ∨ (t.epoch = 0 ∧ t.dev.ticks = 0 ∧ t.dev.pkts = [] ∧ t.dev.queues = [] ∧ t.dev.pipes = [] ∧ t.dev.tbl = TableS.init)))
  ∧ (∀ (s : State) (n : Fin 16),
      Dev.activeImg s.epoch s.dev n = (if s.epoch.testBit 0 then (Dev.pipe s.dev n).bankB else (Dev.pipe s.dev n).bankA)
      ∧ Dev.idleImg s.epoch s.dev n = (if s.epoch.testBit 0 then (Dev.pipe s.dev n).bankA else (Dev.pipe s.dev n).bankB))

/-- The counter is 48 bits wide (R147). -/
def Obligations.EpochStaysInItsWidth : Prop :=
  ∀ s t : State, s.epoch < 2 ^ 48 → step s = .next t → t.epoch < 2 ^ 48

/-- D1 to D23 do nothing while they are held in reset, without supply or still isolated, and the start of the part waits while
they are held (R454, R455, R482, R489, R495). -/
def Obligations.DarkPartIgnoresEveryCommandButD0 : Prop :=
  (∀ (c : Instr) (s : State), Dev.dark s.dev = true → Instr.ofD0 c = false → exec c s = .next s)
  ∧ (∀ (c : Instr) (s : State), Dev.held s.dev = true → Instr.ofStart c = true → exec c s = .next s)
  ∧ (∀ d : Dev, Dev.dark d = true ↔
      d.rst.porst = true ∨ d.rst.coreLost = true ∨ d.pwr.tripped = true ∨ Dev.domain d 1 ≠ 1)

/-- What reset leaves. -/
def Obligations.ResetLeavesTheSpecsValues : Prop :=
  State.reset.pending = [] ∧ State.reset.epoch = 0 ∧ State.reset.dev.pkts = [] ∧ State.reset.dev.queues = []
    ∧ (∀ p : Fin 2, (Dev.hp State.reset.dev p.val).evtCause = 0 ∧ (Dev.hp State.reset.dev p.val).evtMask = BitVec.allOnes 64
        ∧ (Dev.hp State.reset.dev p.val).dlActive = false)
    ∧ (∀ b : Fin 8, Dev.base State.reset.dev b.val = TimeBase.init)
    ∧ (∀ n : Fin 16, ∀ e : Fin 2, Pipe.bank (Dev.pipe State.reset.dev n.val) e.val = Image.empty)
    ∧ (∀ k, Dev.el State.reset.dev k = Dict.dflt k ∧ Dev.blob State.reset.dev k = Dict.dfltB k)
    ∧ Dev.domain State.reset.dev 1 = 0

/-! The stage instructions. -/

/-- Values and frame of the operations with a destination (R82, R134, R135, Table 3). -/
def Obligations.AluInstructionsWriteTheirValues : Prop :=
  ∀ (op : AluOp) (n : Fin 16) (dst : Fin 4096) (w : Fin 64) (a : Fin 4096) (b : Operand) (s : State),
    s.lit → InStage s.dev n.val →
    let c := (Dev.pipe s.dev n.val).ctx
    let m := 2 ^ (w.val + 1)
    let x := Sheaf.fld c.sheaf a.val (w.val + 1)
    let y : Nat := match b with
      | .imm v => v.val
      | .field off => Sheaf.fld c.sheaf off.val (w.val + 1)
    let v : Int := (match op with
      | .mov => (y : Int) | .add => (x : Int) + y | .sub => (x : Int) - y
      | .subs => if x < y then 0 else (x : Int) - y
      | .and => ((x &&& y : Nat) : Int) | .or => ((x ||| y : Nat) : Int) | .xor => ((x ^^^ y : Nat) : Int)
      | .shl => ((x <<< (y % 64) : Nat) : Int) | .shr => ((x >>> (y % 64) : Nat) : Int)
      | .min => ((min x y : Nat) : Int) | .max => ((max x y : Nat) : Int)) % (m : Int)
    ∃ sh : Sheaf,
      exec (aluInstr op n dst w a b) s = .next (s.inStages n.val (StageCtx.past { c with sheaf := sh }))
      ∧ (768 ≤ dst.val → dst.val + (w.val + 1) ≤ 4096 → (Sheaf.fld sh dst.val (w.val + 1) : Int) = v)
      ∧ ∀ i, i < 4096 → sh.getLsbD i = if 768 ≤ i ∧ dst.val ≤ i ∧ i < dst.val + (w.val + 1) then v.toNat.testBit (i - dst.val)
          else c.sheaf.getLsbD i

/-- Skips and skipped slots (R135, Table 3). -/
def Obligations.SkipInstructionsSkipOnTheirCondition : Prop :=
  (∀ (op : SkipOp) (n : Fin 16) (k w : Fin 64) (a : Fin 4096) (b : Operand) (s : State),
    s.lit → InStage s.dev n.val →
    let c := (Dev.pipe s.dev n.val).ctx
    let x := Sheaf.fld c.sheaf a.val (w.val + 1)
    let y : Nat := match b with
      | .imm v => v.val
      | .field off => Sheaf.fld c.sheaf off.val (w.val + 1)
    let on : Bool := match op with
      | .eq => x == y
      | .ne => x != y
      | .lt => decide (x < y)
      | .ge => decide (y ≤ x)
    exec (skipInstr op n k w a b) s = .next (s.inStages n.val (StageCtx.past { c with skip := if on then k.val else 0 })))
  ∧ (∀ (n : Fin 16) (i : Instr) (s : State), s.lit → Instr.ofStage n i →
    let c := (Dev.pipe s.dev n.val).ctx
    (c.live = true → 0 < c.skip → (c.egress = false ∨ ¬ Instr.ingressOnly i) →
      exec i s = .next (s.inStages n.val (StageCtx.past { c with skip := c.skip - 1 })))
    ∧ (c.live = true → c.egress = true → Instr.ingressOnly i → exec i s = .next (s.inStages n.val c))
    ∧ (c.live = false → exec i s = .next s))

/-- NOP, END and the end of a stage (R134). -/
def Obligations.NopAndEndMoveThePacketOn : Prop :=
  (∀ (n : Fin 16) (s : State), s.lit → InStage s.dev n.val →
    let c := (Dev.pipe s.dev n.val).ctx
    exec (.opNop n) s = .next (s.inStages n.val c.past) ∧ exec (.opEnd n) s = .next (s.inStages n.val c.ended))
  ∧ (∀ (n : Fin 16) (i : Instr) (s : State), s.lit → InStage s.dev n.val →
    let c := (Dev.pipe s.dev n.val).ctx
    (i = .opEnd n ∨ (i = .opNop n ∧ c.slot = 63)) → c.egress = false → c.stage = 11 →
      Does i s (fun d => (Dev.pipe d n.val).ctx.live = false))

/-- MSET and MGET at any stage (R138, R139, Table 5). -/
def Obligations.DecisionFieldsAreWrittenAndRead : Prop :=
  (∀ (n : Fin 16) (k w : Fin 64) (b : Operand) (s : State), s.lit → InStage s.dev n.val →
    let c := (Dev.pipe s.dev n.val).ctx
    let v := (match b with
      | .imm v => v.val
      | .field off => Sheaf.fld c.sheaf off.val (w.val + 1)) % 2 ^ fieldWidth k.val
    ∃ fs : SMap Nat,
      exec (.opMset n k w b) s = .next (s.inStages n.val (StageCtx.past { c with
        fields := fs, egDrop := c.egDrop || (c.egress && k.val == 0 && v == 2) }))
      ∧ fieldOf c.sheaf fs k.val = (if c.egress = true ∧ k.val = 0 ∧ v ≠ 2 then fieldOf c.sheaf c.fields 0 else v)
      ∧ ∀ j, j ≠ k.val → fieldOf c.sheaf fs j = fieldOf c.sheaf c.fields j)
  ∧ (∀ (n : Fin 16) (dst : Fin 4096) (w k : Fin 64) (s : State), s.lit → InStage s.dev n.val →
    let c := (Dev.pipe s.dev n.val).ctx
    ∃ sh : Sheaf,
      exec (.opMget n dst w k) s = .next (s.inStages n.val (StageCtx.past { c with sheaf := sh }))
      ∧ ∀ i, i < 4096 → sh.getLsbD i = if 768 ≤ i ∧ dst.val ≤ i ∧ i < dst.val + (w.val + 1) then
            (fieldOf c.sheaf c.fields k.val).testBit (i - dst.val)
          else c.sheaf.getLsbD i)

/-- The lookups with a status (R136). `em`, `lpm` and so on are the match rules of R101, R107, R116 and R118. -/
def Obligations.LookupsLeaveTheirResultForTheStagesEnd : Prop :=
  ∀ (n : Fin 16) (s : State), s.lit → InStage s.dev n.val →
    let d := s.dev
    let c := (Dev.pipe d n.val).ctx
    let img := Pipe.bank (Dev.pipe d n.val) c.epoch
    let goes (i : Instr) (c' : StageCtx) (P : Dev → Prop) : Prop :=
      ∃ e, exec i s = .next (({ s with dev := e } : State).inStages n.val c'.past) ∧ LookupFrame n.val d e ∧ P e
    let ends (i : Instr) (dst w : Nat) (r : Option Nat) (P : Dev → Prop) : Prop :=
      goes i (c.withResult dst (w + 2) (match r with
        | some v => v % 2 ^ w + 2 ^ w
        | none => 0)) P
    let hits (w : LookWay) (e : Dev) : Prop :=
      Dev.el e (K.barnCorrected (n / 4)) = (Dev.el d (K.barnCorrected (n / 4)) + if w = .corrected then 1 else 0) % 2 ^ 64
    Dev.el d (K.barnCorrected (n / 4)) < 2 ^ 64 →
    (∀ (dst a : Fin 4096) (prof : Fin 256) (tab : Fin 64) (u : Fin 4) (way : LookWay), LookWay.isBad way = false → c.egress = false →
      let key := (keyOf img c.sheaf prof.val).1
      let em := emFind d.tbl.em tab.val (u.val + 1) key c.epoch
      ends (.opLkem n dst prof tab u way) dst.val 64 (em.map (·.result)) (fun e => hits way e
        ∧ e.tbl = { d.tbl with em := d.tbl.em.map (fun y => match em with
            | some z => if y.loc = z.loc then { y with hit := y.hit ||| 2 ^ (n.val / 4) } else y
            | none => y) })
      ∧ ends (.opLklpm4 n dst prof way) dst.val 32
        ((lpmFind d.tbl.lpm false (key / 2 ^ 32 % 65536) (key % 2 ^ 32) c.epoch).map (·.result)) (fun e => hits way e ∧ e.tbl = d.tbl)
      ∧ ends (.opLklpm6 n dst prof way) dst.val 32
        ((lpmFind d.tbl.lpm true (key / 2 ^ 128 % 65536) (key % 2 ^ 128) c.epoch).map (·.result)) (fun e => hits way e ∧ e.tbl = d.tbl)
      ∧ (let nh := SMap.get d.tbl.nh (Sheaf.fld c.sheaf a.val 19) 0
         ends (.opLknh n dst a way) dst.val 128 (if nhValid nh = true then some nh else none) (fun e => hits way e ∧ e.tbl = d.tbl))
      ∧ ends (.opWin n dst prof way) dst.val 32 ((winFind d.tbl.win n.val key c.epoch).map (·.result)) (fun e => e.tbl = d.tbl)
      ∧ (∀ flag : Bool,
          (tcamKind c flag ≠ 0 → ticksPerSec ≤ (Dev.tcamBucket d n.val).level →
            ends (.opTcam n dst prof flag way) dst.val 64 ((tcamFind d.tbl.tcam key c.epoch).map (·.result)) (fun e => e.tbl = d.tbl))
          ∧ (tcamKind c flag ≠ 0 → (Dev.tcamBucket d n.val).level < ticksPerSec →
            goes (.opTcam n dst prof flag way) { c with drop := c.drop.or (some 0x11) } (fun e => e.tbl = d.tbl))
          ∧ (tcamKind c flag = 0 →
            goes (.opTcam n dst prof flag way) (c.withResult dst.val 66 (3 * 2 ^ 64)) (fun e => e.tbl = d.tbl))))
    ∧ (∀ (dst a : Fin 4096) (w : Fin 64) (encap : Bool),
      let i := Sheaf.fld c.sheaf a.val (w.val + 1)
      Pipe.wordBad (Dev.pipe d n.val) c.epoch (if encap then 0x41 else 0x40) i = false →
        ends (.opLkix n dst w a encap .ok) dst.val (if encap then 256 else 48)
          (if encap then (if i < 65536 then some (SMap.get img.encap i 0) else none)
           else if i < 256 then some (SMap.get img.smac i 0) else none) (fun e => e.tbl = d.tbl))

/-- LKGRP and HASH. -/
def Obligations.GroupResolveAndHashLeaveTheirResult : Prop :=
  ∀ (n : Fin 16) (s : State), s.lit → InStage s.dev n.val →
    let d := s.dev
    let c := (Dev.pipe d n.val).ctx
    let img := Pipe.bank (Dev.pipe d n.val) c.epoch
    (∀ (dst : Fin 4096) (hp : Fin 16),
      exec (.opHash n dst hp) s
        = .next (s.inStages n.val (StageCtx.past (c.withResult dst.val 32 (hashOf img (Dev.toeplitzKeys d) c.sheaf hp.val)))))
    ∧ (∀ (dst a : Fin 4096) (hp : Fin 16) (way : LookWay), LookWay.isBad way = false → c.egress = false →
      let r := resolve d.tbl (Dev.portUp d) (Sheaf.fld c.sheaf a.val 14) (hashOf img (Dev.toeplitzKeys d) c.sheaf hp.val)
      ∃ e, exec (.opLkgrp n dst a hp way) s = .next (({ s with dev := e } : State).inStages n.val (StageCtx.past (match r with
          | .hit v => c.withResult dst.val 130 (v % 2 ^ 128 + 2 ^ 128)
          | .miss => c.withResult dst.val 130 0
          | .drop code => { c.withResult dst.val 130 0 with drop := c.drop.or (some code) })))
        ∧ LookupFrame n.val d e ∧ e.tbl = d.tbl
        ∧ (Dev.el d K.tblLbDrops < 2 ^ 64 → Dev.el e K.tblLbDrops = (Dev.el d K.tblLbDrops + (match r with
            | .drop _ => if c.drop = none then 1 else 0
            | _ => 0)) % 2 ^ 64))

/-- Status 2 (R127, R136, R504); the result is a free value (log 3). -/
def Obligations.UncorrectableLookupWordsAnswerStatusTwo : Prop :=
  ∀ (n : Fin 16) (s : State), s.lit → InStage s.dev n.val →
    let d := s.dev
    let c := (Dev.pipe d n.val).ctx
    let k := n.val / 4
    let spoilt (i : Instr) (dst w : Nat) (P : Dev → Prop) : Prop :=
      ∃ e v, v < 2 ^ w ∧ exec i s = .next (({ s with dev := e } : State).inStages n.val (StageCtx.past (c.withResult dst (w + 2) (v + 2 * 2 ^ w))))
        ∧ LookupFrame n.val d e ∧ P e
    let barn (table : Nat) (e : Dev) : Prop :=
      (∃ t place, e.tbl = { d.tbl with bad := TableS.note d.tbl.bad (k, t, place) } ∧ (table ≤ 3 → t = table) ∧ (table = 4 → 3 ≤ t ∧ t ≤ 6))
      ∧ (Dev.el d (K.barnUncorrectable k) < 2 ^ 64 → Dev.el e (K.barnUncorrectable k) = (Dev.el d (K.barnUncorrectable k) + 1) % 2 ^ 64)
    ∀ (dst a : Fin 4096) (prof : Fin 256) (tab w : Fin 64) (u : Fin 4) (hp : Fin 16) (encap flag : Bool) (x : Fin 32768),
      (c.egress = false →
        spoilt (.opLkem n dst prof tab u (.bad x)) dst.val 64 (barn 0)
        ∧ spoilt (.opLklpm4 n dst prof (.bad x)) dst.val 32 (barn 1)
        ∧ spoilt (.opLklpm6 n dst prof (.bad x)) dst.val 32 (barn 2)
        ∧ spoilt (.opLknh n dst a (.bad x)) dst.val 128 (barn 3)
        ∧ spoilt (.opLkgrp n dst a hp (.bad x)) dst.val 128 (barn 4)
        ∧ spoilt (.opWin n dst prof (.bad x)) dst.val 32 (fun e => e.tbl = d.tbl)
        ∧ (tcamKind c flag ≠ 0 → ticksPerSec ≤ (Dev.tcamBucket d n.val).level →
            spoilt (.opTcam n dst prof flag (.bad x)) dst.val 64 (fun e => e.tbl = d.tbl)))
      ∧ (let i := Sheaf.fld c.sheaf a.val (w.val + 1)
         let sect := if encap then 0x41 else 0x40
         i < (if encap then 65536 else 256) → ∀ way : LookWay,
          Dev.otherBank d n.val (c.epoch % 2) sect i = false → (Pipe.wordBad (Dev.pipe d n.val) c.epoch sect i = true ∨ way = .bad x) →
            spoilt (.opLkix n dst w a encap way) dst.val (if encap then 256 else 48) (fun e => e.tbl = d.tbl
              ∧ Pipe.wordBad (Dev.pipe e n.val) c.epoch sect i = true))

/-! Frames in, through the arbiter and the parse, into queues, and out. -/

/-- Reception (R24, R30, R54, R62, R69, R276). -/
def Obligations.ReceivedFramesEnterTheArrivalBuffer : Prop :=
  (∀ (p : Fin 1024) (ph : Fin 6) (bytes : List Byte) (fecBad : Bool) (e : RxEnd) (w : RouriWay) (s : State), s.lit →
    let d := s.dev
    let n := p.val / 64
    let whole : Bool := decide (e ≠ .more)
    let mark := if whole then frameMark (Dev.maxFrame d p) bytes e fecBad else 0
    let full : Prop := 2048 ≤ (Dev.pipe d n).arrival.length ∨ 524288 < Dev.arrivalBytes d n + bytes.length
    let plus (x : Dev) (i v : Nat) : Prop := Dev.stat x p i = (Dev.stat d p i + v) % 2 ^ 64
    Dev.el d (K.portState p) = 5 → (Dev.linkS d p).rx = none → (mark ≠ 0 ∨ isMacControl bytes = false) →
    (w ≠ .overrun ∨ 12800 ≤ Dev.el d (K.tileRouriT2cCapacity n)) → Dev.rouriBroken d n 0 = false →
      Does (.frameReceive p ph bytes e fecBad w) s (fun x =>
        (¬ full → plus x 10 0 ∧ plus x 12 0
          ∧ (∃ k : Pkt, x.pkts = SMap.ins d.pkts d.nextPkt k ∧ k.frame = bytes ∧ k.whole = whole ∧ k.mark = mark
            ∧ k.inPort = p.val ∧ k.refs = 0 ∧ k.tsTb0 = Dev.stampOn d 0 ph (-(Dev.rxDelay d p) - Dev.tsAsym d p))
          ∧ Dev.pipe x n = { Dev.pipe d n with arrival := (Dev.pipe d n).arrival ++ [d.nextPkt] })
        ∧ (full → plus x 10 1 ∧ plus x 12 1 ∧ x.pkts = d.pkts ∧ x.pipes = d.pipes)
        ∧ x.nextPkt = d.nextPkt + 1
        ∧ (∀ m, m ≠ n → Dev.pipe x m = Dev.pipe d m)
        ∧ (whole = true → plus x 0 1 ∧ plus x 1 bytes.length ∧ x.lanes = d.lanes)
        ∧ (whole = false → plus x 0 0 ∧ x.lanes = (Dev.setLink d p { Dev.linkS d p with rx := some (d.nextPkt, bytes) }).lanes)
        ∧ x.queues = d.queues ∧ x.ports = d.ports ∧ x.buf = d.buf ∧ x.gran = d.gran ∧ x.sched = d.sched
        ∧ x.time = d.time ∧ SameTables d x))
  ∧ (∀ (max : Nat) (bytes : List Byte) (e : RxEnd) (fecBad : Bool),
      let n := bytes.length
      (n < 64 ∨ e = .truncated ∨ max < n ∨ fecBad = true ∨ leNat (bytes.drop (n - 4)) ≠ fcs32 (bytes.take (n - 4)) →
        frameMark max bytes e fecBad ∈ [0x08, 0x09, 0x0A, 0x0B])
      ∧ (n < 64 → frameMark max bytes e fecBad = 0x09))
  ∧ (∀ (p : Fin 1024) (bytes b : List Byte) (fecBad : Bool) (w : RouriWay) (i : Nat) (k : Pkt) (s : State), s.lit →
    let d := s.dev
    let n := p.val / 64
    let tooMuch : Prop := i ∈ (Dev.pipe d n).arrival ∧ 524288 < Dev.arrivalBytes d n + bytes.length
    (Dev.linkS d p).rx = some (i, b) → SMap.find d.pkts i = some k → Dev.rouriBroken d n 0 = false →
      (¬ tooMuch → exec (.frameTailArrive p bytes .more fecBad w) s
        = .next { s with dev := (Dev.setPkt (Dev.setLink s.dev p { Dev.linkS s.dev p with rx := some (i, b ++ bytes) }) i
            { k with frame := b ++ bytes }) })
      ∧ (tooMuch → Does (.frameTailArrive p bytes .more fecBad w) s (fun x =>
          SMap.find x.pkts i = none ∧ i ∉ (Dev.pipe x n).arrival ∧ (∀ m, m ≠ i → SMap.find x.pkts m = SMap.find d.pkts m)
          ∧ (∀ m, m ≠ n → Dev.pipe x m = Dev.pipe d m) ∧ x.queues = d.queues ∧ x.time = d.time ∧ SameTables d x)))
  ∧ (∀ (p : Fin 1024) (bytes b : List Byte) (fecBad : Bool) (w : RouriWay) (e : RxEnd) (i : Nat) (k : Pkt) (s : State), s.lit →
    let d := s.dev
    let n := p.val / 64
    let mark := frameMark (Dev.maxFrame d p) (b ++ bytes) e fecBad
    e ≠ .more → (Dev.linkS d p).rx = some (i, b) → (Dev.linkS d p).mac = none → (Dev.linkS d p).late = none →
    SMap.find d.pkts i = some k → k.mark = 0 → k.cut = false → k.polWait = false →
    i ∉ (Dev.pipe d (portPipe k.inPort)).tm → Dev.rouriBroken d n 0 = false →
    ¬ (i ∈ (Dev.pipe d n).arrival ∧ 524288 < Dev.arrivalBytes d n + bytes.length) →
      Does (.frameTailArrive p bytes e fecBad w) s (fun x =>
        x.pkts = SMap.ins d.pkts i { k with frame := b ++ bytes, whole := true, mark := mark, tailAt := Dev.now d }
        ∧ (Dev.linkS x p).rx = none ∧ Dev.stat x p 0 = (Dev.stat d p 0 + 1) % 2 ^ 64
        ∧ x.pipes = d.pipes ∧ x.queues = d.queues ∧ x.ports = d.ports ∧ x.buf = d.buf
        ∧ x.gran = d.gran ∧ x.sched = d.sched ∧ x.time = d.time ∧ SameTables d x))
  ∧ (∀ (p : Fin 1024) (ph : Fin 6) (bytes : List Byte) (e : RxEnd) (fecBad : Bool) (w : RouriWay) (s : State),
    (Dev.el s.dev (K.portState p) ≠ 5 → exec (.frameReceive p ph bytes e fecBad w) s = .next s)
    ∧ ((Dev.linkS s.dev p).rx = none → exec (.frameTailArrive p bytes e fecBad w) s = .next s))

/-- Flow control (R176, R177). -/
def Obligations.FlowControlFramesSetAndClearPauses : Prop :=
  (∀ (p : Fin 1024) (bytes : List Byte) (s : State), s.lit →
    let d := s.dev
    Dev.el d (K.portState p) = 5 → Dev.pfcRx d p = true → isPfc bytes = true → frameMark (Dev.maxFrame d p) bytes .ended false = 0 →
      Does (.pfcFrameReceive p bytes) s (fun x =>
        (∀ k, k < 8 → SMap.find (Dev.port x p).pause k =
          if bit (get16 bytes 16) k then
            (if get16 bytes (18 + 2 * k) = 0 then none
             else some ((Dev.now d + ceilDiv (get16 bytes (18 + 2 * k) * 512 * 65536) (max 1 (Dev.portSpeed d p))) % 2 ^ 80))
          else SMap.find (Dev.port d p).pause k)
        ∧ Dev.stat x p 8 = (Dev.stat d p 8 + 1) % 2 ^ 64
        ∧ x.pkts = d.pkts ∧ x.pipes = d.pipes ∧ x.buf = d.buf ∧ x.gran = d.gran ∧ x.time = d.time ∧ SameTables d x))
  ∧ (∀ (p : Fin 1024) (prio : Fin 8) (s : State), s.lit →
      Does (.pauseTimerExpire p prio) s (fun x =>
        SMap.find (Dev.port x p).pause prio = none
        ∧ (∀ k, k ≠ prio.val → SMap.find (Dev.port x p).pause k = SMap.find (Dev.port s.dev p).pause k)
        ∧ x.pkts = s.dev.pkts ∧ x.pipes = s.dev.pipes ∧ x.buf = s.dev.buf ∧ x.gran = s.dev.gran ∧ x.time = s.dev.time
        ∧ SameTables s.dev x))
  ∧ (∀ (p : Fin 1024) (prio : Fin 8) (time : Fin 65536) (t : List (Nat × Nat)) (s : State), s.lit →
    let d := s.dev
    (Dev.port d p).tx = none → (Dev.port d p).pfc = (prio.val, time.val) :: t →
      Does (.pfcFrameSend p) s (fun x =>
        (∃ bs l, x.out = d.out ++ Out.pfc p bs :: l ∧ bs.length = 64 ∧ get16 bs 12 = 0x8808 ∧ get16 bs 14 = 0x0101
          ∧ get16 bs 16 = 2 ^ prio.val ∧ get16 bs (18 + 2 * prio.val) = time.val)
        ∧ Dev.port x p = { Dev.port d p with pfc := t }
        ∧ (∀ m, m ≠ p.val → Dev.port x m = Dev.port d m)
        ∧ x.pkts = d.pkts ∧ x.pipes = d.pipes ∧ x.queues = d.queues ∧ x.buf = d.buf ∧ x.gran = d.gran ∧ x.sched = d.sched
        ∧ x.time = d.time ∧ SameTables d x))
  ∧ (∀ (p : Fin 1024) (prio : Fin 8) (s : State), s.lit →
    let d := s.dev
    (Dev.pfcTx d p = true → Dev.xoffOn d p prio = true → Dev.portUp d p = true →
      Does (.pfcRefreshTimer p prio) s (fun x =>
        Dev.port x p = { Dev.port d p with pfc := (Dev.port d p).pfc ++ [(prio.val, Dev.pfcQuanta d p)] }
        ∧ (∀ m, m ≠ p.val → Dev.port x m = Dev.port d m)
        ∧ x.pkts = d.pkts ∧ x.pipes = d.pipes ∧ x.queues = d.queues ∧ x.buf = d.buf ∧ x.gran = d.gran ∧ x.sched = d.sched))
    ∧ (Dev.xoffOn d p prio = false → exec (.pfcRefreshTimer p prio) s = .next s))

/-- The way to the stages (R30, R31, R69, R93). -/
def Obligations.PacketsPassArbiterParseAndCostGate : Prop :=
  (∀ (n : Fin 16) (k : Fin 64) (i : Nat) (s : State), s.lit →
    let d := s.dev
    let y := Dev.pipe d n
    let waits (j : Nat) : Option Nat := y.arrival.find? (fun i => (Dev.pkt d i).inPort == n * 64 + (y.rrPort + 1 + j) % 64)
    y.stopped = false → y.gate.length < 128 → y.accepted.length < 192 → (y.slotCount ≠ 255 ∨ (y.recirc = [] ∧ y.inject = [])) →
    (∀ j, j < k.val → waits j = none) → waits k = some i →
      Does (.arbiterAccept n false) s (fun x =>
        Dev.pipe x n = { y with slotCount := (y.slotCount + 1) % 256, rrPort := (y.rrPort + 1 + k) % 64,
                                arrival := y.arrival.filter (fun j => j != i), accepted := y.accepted ++ [i] }
        ∧ (∀ m, m ≠ n.val → Dev.pipe x m = Dev.pipe d m)
        ∧ x.pkts = d.pkts ∧ x.queues = d.queues ∧ x.ports = d.ports ∧ x.buf = d.buf ∧ x.gran = d.gran ∧ x.sched = d.sched
        ∧ x.time = d.time ∧ SameTables d x ∧ OnlyEls [] d x))
  ∧ (∀ (n : Fin 16) (i : Nat) (t : List Nat) (s : State), s.lit →
    let d := s.dev
    let y := Dev.pipe d n
    y.stopped = false → y.gate.length < 128 → y.accepted.length < 192 → y.arrival = [] → y.inject = [] → y.recirc = i :: t →
      Does (.arbiterAccept n false) s (fun x =>
        (Dev.pipe x n).accepted = y.accepted ++ [i] ∧ (Dev.pipe x n).recirc = t
        ∧ Dev.pkt x i = { Dev.pkt d i with rxAt := Dev.now d, tsTb0 := Dev.stampOn d 0 0 0, tsPtp := Dev.stampOn d 0 0 0, ptpBase := 0 }
        ∧ (∀ m, m ≠ n.val → Dev.pipe x m = Dev.pipe d m) ∧ (∀ m, m ≠ i → Dev.pkt x m = Dev.pkt d m)
        ∧ x.queues = d.queues ∧ x.ports = d.ports ∧ x.buf = d.buf ∧ SameTables d x))
  ∧ (∀ (n : Fin 16) (i j : Nat) (t u : List Nat) (s : State), s.lit →
    let d := s.dev
    let y := Dev.pipe d n
    let k := if y.injNext then j else i
    y.stopped = false → y.gate.length < 128 → y.accepted.length < 192 → y.slotCount = 255 → y.recirc = i :: t → y.inject = j :: u →
      Does (.arbiterAccept n false) s (fun x =>
        Dev.pipe x n = { y with slotCount := 0, accepted := y.accepted ++ [k], injNext := !y.injNext,
                                inject := if y.injNext then u else y.inject, recirc := if y.injNext then y.recirc else t }
        ∧ (Dev.pkt x k).rxAt = Dev.now d ∧ (∀ m, m ≠ k → Dev.pkt x m = Dev.pkt d m)
        ∧ (∀ m, m ≠ n.val → Dev.pipe x m = Dev.pipe d m) ∧ x.queues = d.queues ∧ x.ports = d.ports ∧ x.buf = d.buf
        ∧ SameTables d x))
  ∧ (∀ (n : Fin 16) (s : State), let y := Dev.pipe s.dev n
      y.stopped = true ∨ 128 ≤ y.gate.length ∨ 192 ≤ y.accepted.length → exec (.arbiterAccept n false) s = .next s)
  ∧ (∀ (n : Fin 16) (i : Nat) (t : List Nat) (s : State), s.lit →
    let d := s.dev
    let y := Dev.pipe d n
    let img := Pipe.bank y (s.epoch % 2)
    let k := { Dev.pkt d i with epoch := s.epoch % 2 }
    y.accepted = i :: t →
      (k.whole = false → k.frame.length ≤ img.depth + 4 → exec (.thresherStart n) s = .next s)
      ∧ ((k.whole = true ∨ img.depth + 4 < k.frame.length) → y.gate.length < 256 → y.badWords = [] →
          Does (.thresherStart n) s (fun x =>
            let short : Bool := k.whole && decide ((Pkt.data k).length ≤ img.depth)
            let start := if k.inPort < 1024 then img.startPort else if k.inPort < 1040 then img.startRecirc else img.startCpu
            (Dev.pipe x n).accepted = t ∧ (Dev.pipe x n).gate = y.gate ++ [i]
            ∧ Dev.pkt x i = { k with
                bankBad := false
                sheaf := (parse img (Pkt.data k) (if short then some (Pkt.data k).length else none) start
                  (startSheaf k (Dev.privileged d k.inPort) (!short) (if short then Pkt.len k else 0) start)).sheaf }
            ∧ Dev.el x (K.thresherPackets n) = (Dev.el d (K.thresherPackets n) + 1) % 2 ^ 64
            ∧ (∀ m, m ≠ i → Dev.pkt x m = Dev.pkt d m) ∧ (∀ m, m ≠ n.val → Dev.pipe x m = Dev.pipe d m)
            ∧ x.queues = d.queues ∧ x.ports = d.ports ∧ x.buf = d.buf ∧ SameTables d x)))
  ∧ (∀ (n : Fin 16) (ws : List LookAt) (s : State), s.lit →
    let d := s.dev
    let y := Dev.pipe d n
    let cost (l : List Nat) : Nat := (l.map (Dev.costOf d n)).foldl (· + ·) 0
    y.ctx.live = false →
      (∃ (k : Nat) (f : Dev), k ≤ y.gate.length ∧ cost (y.gate.take k) ≤ 4
        ∧ (k < y.gate.length → 4 < cost (y.gate.take (k + 1)))
        ∧ (f = d ∨ f = Dev.perf d n 5 1)
        ∧ exec (.costGatePass n true none ws) s
          = .next { s with dev := Dev.ingressPasses n ws 0 (y.gate.take k) (Dev.setPipe f n { y with gate := y.gate.drop k }) })
      ∧ (∀ i t, y.gate = i :: t →
          exec (.costGatePass n false none ws) s = .next { s with dev := Dev.setPipe d n { y with gate := t, ctx := Dev.ingressCtx d n i } }))

/-- Admission on-die, and the drop of a marked packet (R54, R173). -/
def Obligations.AdmissionLinksThePacketAtItsQueuesTail : Prop :=
  (∀ (n : Fin 16) (i : Nat) (t : List Nat) (s : State), s.lit →
    let d := s.dev
    let p := Dev.pkt d i
    let q := Pkt.queueNo p
    let c := cellsOf (Pkt.stored p).length
    (Dev.pipe d n).tm = i :: t → p.whole = true → p.mark = 0 → Pkt.field p 0 = 0 → Dev.portUp d (qPort q) = true →
    (Dev.queue d q).flushing = false → Dev.spillOnFor d (Dev.oldProf d p) q = false → Dev.qSpillState d q ≠ 1 → d.buf.descs < 2097152 → Dev.fits d (Dev.oldProf d p) q c = true →
      Does (.packetAdmit n) s (fun x =>
        (∃ y : Desc, (Dev.queue x q).items = (Dev.queue d q).items ++ [.pkt y] ∧ y.pkt = i ∧ y.c = c ∧ y.pool = Dev.qPool d q
          ∧ y.enq = Dev.age d ∧ y.copy = false ∧ y.cut = false ∧ y.spilled = false)
        ∧ (Dev.queue x q).depth = (Dev.queue d q).depth + c
        ∧ (Dev.pkt x i).refs = 1 ∧ (Dev.pkt x i).frame = p.frame
        ∧ x.buf.descs = d.buf.descs + 1
        ∧ (Dev.pipe x n).tm = t
        ∧ (∀ m, m ≠ i → Dev.pkt x m = Dev.pkt d m) ∧ (∀ m, qPort m ≠ qPort q → Dev.queue x m = Dev.queue d m)
        ∧ (∀ m, (Dev.queue x m).items = if m = q then (Dev.queue x q).items else (Dev.queue d m).items)
        ∧ x.gran = d.gran ∧ x.time = d.time ∧ x.lanes = d.lanes ∧ SameTables d x))
  ∧ (∀ (n : Fin 16) (i : Nat) (t : List Nat) (s : State), s.lit →
    let d := s.dev
    (Dev.pipe d n).tm = i :: t → (Dev.pkt d i).whole = true → (Dev.pkt d i).mark ≠ 0 →
      Does (.packetAdmit n) s (fun x =>
        SMap.find x.pkts i = none ∧ (Dev.pipe x n).tm = t ∧ x.queues = d.queues ∧ x.gran = d.gran ∧ x.time = d.time ∧ SameTables d x))
  ∧ (∀ (n : Fin 16) (s : State), (Dev.pipe s.dev n).tm = [] → exec (.packetAdmit n) s = .next s)

/-- Strict tiers, least tag, lowest queue (R242), the round robin of the ports that ask (R241), and what SCHED_SELECT does with
the answer. -/
def Obligations.SelectionFollowsTiersAndTags : Prop :=
  (∀ (d e : Dev) (p : Fin 1041) (q : Nat) (late : Bool), Dev.select d p = (e, some (q, false, late)) →
      late = false ∧ qPort q = p.val
      ∧ ∃ h, (Dev.queue e q).tagH = some h ∧ Dev.qTier e q < 4
        ∧ ∀ m g, qPort m = p.val → Dev.qTier e m < 4 → (Dev.queue e m).tagH = some g →
          Dev.qTier e q < Dev.qTier e m ∨ (Dev.qTier e q = Dev.qTier e m ∧ (h < g ∨ (h = g ∧ q ≤ m))))
  ∧ (∀ (d : Dev) (n : Fin 16) (p k : Nat), Dev.nextAsk d n = some (p, k) →
      (pipePorts n)[k]? = some p ∧ Dev.asks d p = true
      ∧ ∀ j m : Nat, (pipePorts n)[j]? = some m → Dev.asks d m = true →
          if (Dev.pipe d n).selPort < k then ¬ ((Dev.pipe d n).selPort < j ∧ j < k) else k ≤ j ∧ j ≤ (Dev.pipe d n).selPort)
  ∧ (∀ (n : Fin 16) (p k q : Nat) (launch late : Bool) (e f : Dev) (x : Desc) (l : Charge) (w : ReadWay) (s : State), s.lit →
    let d := Dev.setPipe s.dev n { Dev.pipe s.dev n with selPort := k }
    (Dev.pipe s.dev n).ctx.live = false → Dev.nextAsk s.dev n = some (p, k) →
    Dev.selectHead p (Dev.portItems d p + 1) d = (e, some (q, launch, late)) → Dev.dequeue e q launch = (f, some (x, l)) →
    let g := match w with
      | .listBad j => Dev.listBreak f q (j - 1)
      | _ => f
    let c := Dev.egressCtx g q x l late
    (∃ y, EQueue.head (Dev.queue e q) = some y ∧ x = { y with started := true } ∧ y.released = false ∧ Dev.aged e q y.enq = false)
    ∧ (∀ fetch, exec (.schedSelect n fetch (.listBad 0) []) s = .next { s with dev := Dev.listBreak e q 0 })
    ∧ (∀ fetch, exec (.schedSelect n fetch .cellBad []) s = .next (State.mk s.pending s.epoch
        (Dev.dropSelected (Dev.contained (Dev.bufUncorrectable f 1) 6 0x29 0x0900 0x0E q) 0x29 q x l
          (Dev.pkt f x.pkt).sheaf (Dev.pkt f x.pkt).fields)))
    ∧ (w = .ok ∨ (∃ j, w = .listBad j ∧ j ≠ 0) →
      (Pkt.own (Dev.pkt g x.pkt) = true → ∀ fetch, exec (.schedSelect n fetch w []) s = .next { s with dev := Dev.endEgress g c })
      ∧ (Pkt.own (Dev.pkt g x.pkt) = false →
        exec (.schedSelect n false w []) s = .next { s with dev := Dev.setPipe g n { Dev.pipe g n with ctx := c } }
        ∧ c.stage = 0 ∧ c.slot = 0 ∧ c.skip = 0 ∧ c.live = true ∧ c.egress = true ∧ c.pkt = x.pkt ∧ c.q = q ∧ c.charge = l
        ∧ exec (.schedSelect n true w []) s = .next { s with dev := Dev.egressPass g c })))
  ∧ (∀ (n : Fin 16) (p k : Nat) (fetch : Bool) (w : ReadWay) (e : Dev) (s : State), s.lit →
    let d := Dev.setPipe s.dev n { Dev.pipe s.dev n with selPort := k }
    (Dev.pipe s.dev n).ctx.live = false → Dev.nextAsk s.dev n = some (p, k) →
    Dev.selectHead p (Dev.portItems d p + 1) d = (e, none) → exec (.schedSelect n fetch w []) s = .next { s with dev := e })
  ∧ (∀ (n : Fin 16) (w : ReadWay) (s : State),
    (Dev.nextAsk s.dev n = none → ∀ fetch, exec (.schedSelect n fetch w []) s = .next s)
    ∧ ((Dev.pipe s.dev n).ctx.live = true → exec (.schedSelect n false w []) s = .next s))
  ∧ (∀ (n : Fin 16) (fetch : Bool) (w : ReadWay) (b : StateWord) (s : State), s.lit → (Dev.pipe s.dev n).stopped = true →
    let d := s.dev
    let plus (k : Nat) (x : Dev) : Prop := Dev.el x k = (Dev.el d k + 1) % 2 ^ 64
    Does (.schedSelect n fetch w [b]) s (fun x => plus K.errStateResets x ∧ plus K.errContained x ∧ x.pkts = d.pkts ∧ SameTables d x
      ∧ match b with
        | .tier m t => Dev.tierV x m t = 0 ∧ ∀ r, qPort r = m.val → Dev.qTier d r = t.val →
            (Dev.queue x r).tagF = 0 ∧ (Dev.queue x r).tagH = (Dev.queue d r).tagH.map (fun _ => 0)
        | .qShaper r => (Dev.queue x r).shE = Dev.now d
        | .pShaper m => (Dev.port x m).shE = Dev.now d
        | .policer i => Dev.policer x i = { Dev.policer d i with e := Dev.now d }
        | .pause m k => SMap.find (Dev.port x m).pause k = none
        | .held _ _ => x.queues = d.queues ∧ x.ports = d.ports))

/-- The line (R24, R287, R284, R166). -/
def Obligations.FramesStartAndEndOnTheLine : Prop :=
  (∀ (p : Fin 1024) (ph : Fin 6) (f : TxFrame) (t : List TxFrame) (i : Instr) (s : State), s.lit →
    let d := s.dev
    (i = .frameTransmit p ph .ok ∨ (i = .launchRelease p ph ∧ f.charge.launch = true)) → Dev.portUp d p = true →
    (Dev.port d p).tx = none → (Dev.port d p).pfc = [] → (Dev.port d p).sel = f :: t →
    fieldOf f.sheaf f.fields 9 ≠ 1 → Dev.rouriBroken d (p.val / 64) 1 = false →
      (Dev.launchHeld d p ph f = true → exec i s = .next s)
      ∧ (Dev.launchHeld d p ph f = false →
        Does i s (fun x =>
          (∃ g : TxFrame, Dev.port x p = { Dev.port d p with sel := t, tx := some g }
            ∧ g.d = f.d ∧ g.q = f.q ∧ g.sheaf = f.sheaf ∧ g.fields = f.fields ∧ g.out = f.out ∧ g.stomp = f.stomp
            ∧ g.charge = f.charge ∧ g.lost = f.lost
            ∧ g.txAt = Dev.instant d ph (Dev.txDelay d p)
            ∧ g.stamp = Dev.stampOn d (fieldOf f.sheaf f.fields 19) ph (Dev.txDelay d p - Dev.tsAsym d p))
          ∧ (∀ m, m ≠ p.val → Dev.port x m = Dev.port d m)
          ∧ x.pkts = d.pkts ∧ x.pipes = d.pipes ∧ x.queues = d.queues ∧ x.buf = d.buf ∧ x.gran = d.gran ∧ x.sched = d.sched
          ∧ x.time = d.time ∧ SameTables d x)))
  ∧ (∀ (p : Fin 1024) (f : TxFrame) (s : State), s.lit →
    let d := s.dev
    (Dev.port d p).tx = some f →
      Does (.frameTxEnd p []) s (fun x =>
        (∃ bs st, Out.frame p bs st ∈ x.out) ∧ (Dev.port x p).tx = none ∧ x.buf.descs = d.buf.descs - 1
        ∧ ((Dev.pkt d f.d.pkt).refs = 1 → SMap.find x.pkts f.d.pkt = none)
        ∧ (2 ≤ (Dev.pkt d f.d.pkt).refs → Dev.pkt x f.d.pkt = { Dev.pkt d f.d.pkt with refs := (Dev.pkt d f.d.pkt).refs - 1 })
        ∧ (f.d.bale = 0 → (Dev.port x p).sel = (Dev.port d p).sel ∧ x.gran = d.gran)
        ∧ ((Dev.pkt d f.d.pkt).whole = true → f.lost = false → x.lanes = d.lanes) ∧ SameTables d x))
  ∧ (∀ (p : Fin 1024) (s : State), s.lit → (Dev.port s.dev p).tx = none →
    let d := s.dev
    let plus (k : Nat) (x : Dev) : Prop := Dev.el x k = (Dev.el d k + 1) % 2 ^ 64
    let same (x : Dev) : Prop := plus K.errContained x ∧ x.pkts = d.pkts ∧ x.queues = d.queues ∧ x.ports = d.ports ∧ SameTables d x
    exec (.frameTxEnd p []) s = .next s
    ∧ (∀ (m : Fin 1041) (w : Fin 31),
        Does (.frameTxEnd p [.stat m w]) s (fun x => Dev.stat x m w = 0 ∧ plus K.errCounterResets x ∧ same x))
    ∧ (∀ i : Fin 1081344,
        Does (.frameTxEnd p [.bin i]) s (fun x => SMap.get x.tel.hist i 0 = 0 ∧ plus K.errCounterResets x ∧ same x))
    ∧ (∀ i : Fin 65536, Does (.frameTxEnd p [.policer i 0]) s (fun x =>
        Dev.policer x i = { Dev.policer d i with okPkts := 0 } ∧ plus K.errCounterResets x ∧ same x))
    ∧ (∀ (a : Fin 4194304) (t : Tally), SMap.find d.tel.tally a = some t →
        Does (.frameTxEnd p [.tally a]) s (fun x => SMap.find x.tel.tally a = none ∧ same x)))

/-- Ageing and flush (R188, R189). -/
def Obligations.HeldQueuesAgeAndPortsFlush : Prop :=
  (∀ s : State, (∀ x ∈ s.dev.queues, (Dev.queue s.dev x.1).held = false ∧ Dev.qPaused s.dev x.1 = false ∧ Dev.launchWaits s.dev x.1 = false
        ∧ (Dev.pipe s.dev (portPipe (qPort x.1))).stopped = false) →
      exec .ageCheckTimer s = .next s)
  ∧ (∀ (n : Nat) (q : EQueue) (y : Desc) (s : State), s.lit → s.dev.queues = [(n, q)] → q.held = true → q.items = [.pkt y] →
      y.half = false → (y.released = true ∨ Dev.aged s.dev n y.enq = true) →
      Does .ageCheckTimer s (fun x => (Dev.queue x n).items = [] ∧ (Dev.queue x n).held = true ∧ SameTables s.dev x))
  ∧ (∀ (p : Fin 1024) (s : State), s.lit →
      ((Dev.linkS s.dev p).hold = true →
        Does (.downHoldExpire p) s (fun x =>
          (Dev.linkS x p).hold = false
          ∧ (∀ q : Fin 16, (Dev.queue x (p * 16 + q)).items = [] ∧ (Dev.queue x (p * 16 + q)).depth = 0
              ∧ (Dev.queue x (p * 16 + q)).flushing = true ∧ (Dev.queue x (p * 16 + q)).held = (Dev.queue s.dev (p * 16 + q)).held)
          ∧ SameTables s.dev x))
      ∧ ((Dev.linkS s.dev p).hold = false → exec (.downHoldExpire p) s = .next s))
  ∧ (∀ (p : Fin 1024) (s : State), s.lit →
      ((Dev.queue s.dev (p * 16)).flushing = true →
        Does (.flushDone p) s (fun x =>
          (∀ q : Fin 16, (Dev.queue x (p * 16 + q)).flushing = false
            ∧ (Dev.queue x (p * 16 + q)).items = (Dev.queue s.dev (p * 16 + q)).items
            ∧ (Dev.queue x (p * 16 + q)).held = ((Dev.queue s.dev (p * 16 + q)).held && !Dev.portUp s.dev p))
          ∧ x.pkts = s.dev.pkts ∧ x.pipes = s.dev.pipes ∧ x.buf = s.dev.buf ∧ x.gran = s.dev.gran ∧ SameTables s.dev x))
      ∧ ((Dev.queue s.dev (p * 16)).flushing = false → exec (.flushDone p) s = .next s))

/-! Writes of elements: what is granted, what it leaves, what is refused. -/

/-- Granted commands (R383, R396). -/
def Obligations.RegisterCommandsApplyTheirWrites : Prop :=
  ∀ (i : Instr) (src : Source) (xs : List WItem) (s : State), Instr.writes i = some (src, xs) → s.grants i →
    exec i s = .next (State.settle
      { s with dev := Instr.levels i (Dev.reply (Dev.applied s.epoch (Dev.fresh s.dev) src xs) src 0 []) })

/-- Refusals that no chapter gives an effect (R388). -/
def Obligations.WritesWithoutRightsChangeNothing : Prop :=
  (∀ (i : Instr) (src : Source) (x : WItem) (t : List WItem) (st : Nat) (s : State), s.lit → s.dev.fw.running = true →
    s.dev.rst.warmDue = false → Dev.present s.dev src = true → Instr.writes i = some (src, x :: t) →
    Dev.checkTarget s.dev (Source.cls src) (keyObj x.k) (keyEl x.k) = .inr st →
      exec i s = .next { s with dev := Dev.reply s.dev src st [] } ∧ (st = 5 ∨ st = 6 ∨ st = 7))
  ∧ (∀ (src : Source) (o : Fin 65536) (e : Fin 256) (bytes : List Byte) (st : Nat) (i : Instr) (s : State), s.lit →
    s.dev.fw.running = true → s.dev.rst.warmDue = false → Dev.present s.dev src = true → (i = .elementWrite src o e bytes ∨ i = .write src 0 o e bytes) →
    Dev.checkTarget s.dev (Source.cls src) o e = .inr st → exec i s = .next { s with dev := Dev.reply s.dev src st [] })
  ∧ (∀ (i : Instr) (src : Source) (xs : List WItem) (s : State), s.lit → s.dev.fw.running = false → s.dev.rst.warmDue = false →
    Instr.writes i = some (src, xs) → Dev.present s.dev src = true →
      exec i s = .next { s with dev := match src with
        | .host _ => if s.dev.fw.restarting then Dev.reply s.dev src 10 [] else s.dev
        | .udp _ _ _ => Dev.count s.dev K.netUdpDiscards 1
        | .mctp _ _ => s.dev })
  ∧ (∀ (i : Instr) (src : Source) (xs : List WItem) (s : State), s.lit → s.dev.rst.warmDue = false → Instr.writes i = some (src, xs) →
    Dev.present s.dev src = false → exec i s = .next s)

/-- The value, the commit class, the store (R383, R397). -/
def Obligations.GrantedValuesAreHeldAndWait : Prop :=
  ∀ (src : Source) (o : Fin 65536) (e : Fin 256) (bytes : List Byte) (r : DictRow) (v : Nat) (i : Instr) (s : State), s.lit →
    s.dev.fw.running = true → Dev.present s.dev src = true → (i = .elementWrite src o e bytes ∨ i = .write src 0 o e bytes) →
    o.val < 0x0500 → isStart (key o e) = false → heldWrite r (key o e) = false → (key o e) ∉ [K.pwrShedPcFloor, K.pwrShedSpillFloor, K.idCustomer, K.devProfileClearOverrides, K.resetWarmArm, K.fwConfirm, K.fwKeyRevoke] →
    Dict.find o e = some r → r.ty.raw = false → DictRow.parse r bytes = some (.num v) → EVal.norm r (key o e) (.num v) = .num v →
    Dev.grants (Dev.fresh s.dev) src { k := key o e, v := .num v } →
      Does i s (fun x =>
        Dev.el x (key o e) = v
        ∧ x.out = s.dev.out ++ [.reply src 0 []]
        ∧ (r.com ≠ .now → key o e ∈ x.dict.waiting)
        ∧ (r.acc = .rwp → ∃ y ∈ x.dict.cfgPend, y.id = key o e ∧ y.part = none)
        ∧ SameTraffic s.dev x ∧ x.tbl = s.dev.tbl ∧ x.time = s.dev.time ∧ x.lanes = s.dev.lanes
        ∧ (o.val ≠ 0x0401 ∨ s.dev.dma.staging = [] → x.dma = s.dev.dma))

/-! Ports, lanes, tiles. -/

/-- Bring-up (R52, R55, R56). -/
def Obligations.BringUpGoesStepByStep : Prop :=
  (∀ (p : Fin 1024) (s : State), s.lit → p.val + Dev.portWidth s.dev p ≤ 1024 → Dev.domain s.dev (6 + p / 64) = 1 →
    let d := s.dev
    let st := Dev.el d (K.portState p)
    let itf := Dev.el d (K.portInterface p)
    let train : Nat := if Dev.el d (K.portLtEnable p) = 1 ∨ itf = 2 then 3 else 4
    let start : Nat := if Dev.el d (K.portAnEnable p) = 1 then 2 else train
    let goes (i : Instr) (v : Nat) (why : Option Nat) : Prop :=
      Does i s (fun x => Dev.el x (K.portState p) = v
        ∧ (∀ r, why = some r → Dev.el x (K.portDownReason p) = r
            ∧ Dev.el x (K.portTrainFailures p) = if r = 8 ∨ r = 9 then (Dev.el d (K.portTrainFailures p) + 1) % 2 ^ 32
                                                 else Dev.el d (K.portTrainFailures p))
        ∧ (why = none → Dev.el x (K.portDownReason p) = Dev.el d (K.portDownReason p))
        ∧ (∀ q : Fin 1024, q ≠ p → Dev.el x (K.portState q) = Dev.el d (K.portState q) ∧ Dev.linkS x q = Dev.linkS d q)
        ∧ SameTraffic d x ∧ SameTables d x ∧ x.time = d.time)
    (Dev.el d (K.tileMcuState (p / 64)) ≠ 1 → Dev.adminUp d p = true →
      (st = 1 → goes (.signalDetect p) start none) ∧ (st = 6 → goes (.portRetryTimer p) start none))
    ∧ (st = 2 →
        (∀ theirs : Nat,
          let ours := if Dev.el d (K.portAnAbilities p) = 0 then 2 ^ Dev.el d (K.portSpeed p) else Dev.el d (K.portAnAbilities p)
          let common (m : Nat) : Bool := ours.testBit m && theirs.testBit m
          (∀ m, 1 ≤ m → m < 15 → common m = true → (∀ k, 1 ≤ k → k < m → common k = false) →
            if (if m = 14 then 13 else m) = Dev.el d (K.portSpeed p) then goes (.anComplete p theirs) train none
            else goes (.anComplete p theirs) 6 (some 4))
          ∧ ((∀ m, 1 ≤ m → m < 15 → common m = false) → goes (.anComplete p theirs) 6 (some 4)))
        ∧ goes (.anTimeout p) 6 (some 11))
    ∧ (st = 3 → itf ≠ 2 → (∀ eqs, goes (.ltComplete p eqs) 4 none) ∧ goes (.trainingTimeout p) 6 (some 8))
    ∧ (st = 3 → itf = 2 → ∀ eqs, goes (.c2mAdaptDone p eqs) 4 none)
    ∧ (st = 3 → ∀ (eqs : List LaneEq) (k : Nat) (e : LaneEq), k < Dev.portWidth d p → eqs[k]? = some e →
        Does (if itf = 2 then .c2mAdaptDone p eqs else .ltComplete p eqs) s (fun x => Dev.el x (K.laneSnr (p + k)) = e.snr))
    ∧ (st = 4 →
        Does (.alignmentLock p) s (fun x => Dev.linkS x p = { Dev.linkS d p with debounce := true, sendsRf := false }
          ∧ (∀ q : Fin 1024, q ≠ p → Dev.linkS x q = Dev.linkS d q) ∧ x.dict = d.dict ∧ SameTraffic d x ∧ SameTables d x)
        ∧ ((Dev.linkS d p).debounce = false → goes (.alignmentTimeout p) 6 (some 9)))
    ∧ (st ≠ 1 → exec (.signalDetect p) s = .next s) ∧ (st ≠ 6 → exec (.portRetryTimer p) s = .next s)
    ∧ (st ≠ 2 → exec (.anTimeout p) s = .next s ∧ ∀ r, exec (.anComplete p r) s = .next s)
    ∧ (st = 3 → itf = 2 → exec (.trainingTimeout p) s = .next s)
    ∧ (st ≠ 3 → exec (.trainingTimeout p) s = .next s ∧ ∀ eqs, exec (.ltComplete p eqs) s = .next s ∧ exec (.c2mAdaptDone p eqs) s = .next s)
    ∧ (st ≠ 4 → exec (.alignmentLock p) s = .next s ∧ exec (.alignmentTimeout p) s = .next s ∧ exec (.portDebounceUp p) s = .next s))
  ∧ (∀ (p : Fin 1024) (s : State), Dev.domain s.dev (6 + p / 64) ≠ 1 → ∀ i : Instr,
      (i = .signalDetect p ∨ i = .anTimeout p ∨ i = .portRetryTimer p ∨ i = .trainingTimeout p ∨ i = .alignmentLock p
        ∨ i = .alignmentTimeout p ∨ (∃ r, i = .anComplete p r) ∨ ∃ eqs, i = .ltComplete p eqs ∨ i = .c2mAdaptDone p eqs) →
      exec i s = .next s)

/-- Up and down (R55, R57, R58, R187). -/
def Obligations.PortsComeUpAndGoDown : Prop :=
  (∀ (p : Fin 1024) (s : State), s.lit → p.val + Dev.portWidth s.dev p ≤ 1024 → Dev.domain s.dev (6 + p / 64) = 1 →
    let d := s.dev
    let l := Dev.linkS d p
    let falls (i : Instr) (r : Nat) : Prop :=
      Does i s (fun x => Dev.el x (K.portState p) ≠ 5 ∧ Dev.el x (K.portDownReason p) = r
        ∧ Dev.el x (K.portFlaps p) = (Dev.el d (K.portFlaps p) + 1) % 2 ^ 32
        ∧ (Dev.linkS x p).conds = []
        ∧ (∀ q : Fin 16, (Dev.queue x (p * 16 + q)).held = true)
        ∧ (Dev.port x p).tx = none ∧ (Dev.port x p).sel = [] ∧ (Dev.port x p).pfc = []
        ∧ (Dev.hp x 0).evtCause.getLsbD 0 = true ∧ (Dev.hp x 1).evtCause.getLsbD 0 = true ∧ SameTables d x)
    (Dev.el d (K.portState p) = 4 → l.debounce = true → Dev.rouriOk d (p / 64) = true →
      Does (.portDebounceUp p) s (fun x => Dev.el x (K.portState p) = 5
        ∧ Dev.el x (K.portLinkUps p) = (Dev.el d (K.portLinkUps p) + 1) % 2 ^ 32 ∧ Dev.el x (K.portLastChange p) = Dev.tb0Elem d
        ∧ (∀ q : Fin 16, (Dev.queue x (p * 16 + q)).held = ((Dev.queue d (p * 16 + q)).held && (Dev.queue d (p * 16 + q)).flushing)
            ∧ (Dev.queue x (p * 16 + q)).items = (Dev.queue d (p * 16 + q)).items)
        ∧ (Dev.hp x 0).evtCause.getLsbD 0 = true ∧ (Dev.hp x 1).evtCause.getLsbD 0 = true
        ∧ x.pkts = d.pkts ∧ x.pipes = d.pipes ∧ x.buf = d.buf ∧ x.gran = d.gran ∧ SameTables d x))
    ∧ (Dev.el d (K.portState p) = 5 → Dev.el d (K.portDebounceDown p) ≠ 0 → ∀ c : LinkCond,
        Does (.linkFaultDetect p c) s (fun x => Dev.el x (K.portState p) = 5
          ∧ (Dev.linkS x p).conds = (if l.conds.contains (LinkCond.reason c) then l.conds else l.conds ++ [LinkCond.reason c])
          ∧ (c ≠ .remoteFault → (Dev.linkS x p).sendsRf = true)
          ∧ SameTraffic d x ∧ SameTables d x))
    ∧ (Dev.el d (K.portState p) = 5 → Dev.el d (K.portDebounceDown p) = 0 → ∀ c : LinkCond, falls (.linkFaultDetect p c) (LinkCond.reason c))
    ∧ (Dev.el d (K.portState p) = 5 → ∀ r t, l.conds = r :: t → falls (.portDownDebounce p) r)
    ∧ (l.conds = [] → exec (.portDownDebounce p) s = .next s)
    ∧ (∀ c : LinkCond, Does (.linkFaultClear p c) s (fun x =>
        let left := l.conds.filter (fun r => r != LinkCond.reason c)
        Dev.linkS x p = { l with
          conds := left,
          sendsRf := l.sendsRf && !(Dev.el d (K.portState p) == 5 && !left.any (fun r => [1, 2, 3, 5].contains r)) }
        ∧ (∀ q : Fin 1024, q ≠ p → Dev.linkS x q = Dev.linkS d q) ∧ x.dict = d.dict ∧ SameTraffic d x ∧ SameTables d x)))
  ∧ (∀ (p : Fin 1024) (s : State), Dev.domain s.dev (6 + p / 64) ≠ 1 →
      exec (.portDebounceUp p) s = .next s ∧ exec (.portDownDebounce p) s = .next s
      ∧ ∀ c : LinkCond, exec (.linkFaultDetect p c) s = .next s ∧ exec (.linkFaultClear p c) s = .next s)

/-- Rouri links, tile microcontrollers, FEC (R61, R62, R64, R46, R67, R503). -/
def Obligations.TileLinksAndMicrocontrollersRepair : Prop :=
  (∀ (t : Fin 16) (dir : Fin 2) (w : Fin 256) (s : State), s.lit →
    let d := s.dev
    let r := Dev.rouri d t dir
    let e := Dev.setRouri d t dir { r with repairing := r.repairing ++ [w.val] }
    (w.val ∉ r.repairing → w.val ∉ r.lost → Dev.rouriOk e t = true →
      Does (.rouriWireFail t dir w) s (fun x => x.lanes = e.lanes ∧ x.dict = d.dict ∧ x.pkts = d.pkts ∧ x.pipes = d.pipes
        ∧ x.queues = d.queues ∧ x.buf = d.buf ∧ x.gran = d.gran ∧ x.time = d.time ∧ SameTables d x
        ∧ ∀ p : Fin 1024, Dev.port x p = (match (Dev.port d p).tx with
            | some f =>
              if dir.val = 1 ∧ p.val / 64 = t.val ∧ Dev.rouriBroken e t 1 = true ∧ (Dev.pkt d f.d.pkt).whole = false then
                { Dev.port d p with tx := some { f with lost := true } }
              else Dev.port d p
            | none => Dev.port d p)))
    ∧ ((w.val ∈ r.repairing ∨ w.val ∈ r.lost) → exec (.rouriWireFail t dir w) s = .next s))
  ∧ (∀ (t : Fin 16) (dir : Fin 2) (w : Nat) (rest : List Nat) (s : State), s.lit →
    let d := s.dev
    let r := Dev.rouri d t dir
    r.repairing = w :: rest →
      (Dev.el d (kSpares t dir) < 8 →
        Does (.rouriRepairDone t dir) s (fun x => Dev.rouri x t dir = { r with repairing := rest, onSpare := r.onSpare ++ [w] }
          ∧ Dev.el x (kSpares t dir) = Dev.el d (kSpares t dir) + 1
          ∧ Dev.el x (K.tileRouriRepairs t) = (Dev.el d (K.tileRouriRepairs t) + 1) % 2 ^ 32
          ∧ SameTraffic d x ∧ SameTables d x))
      ∧ (8 ≤ Dev.el d (kSpares t dir) →
        Does (.rouriRepairDone t dir) s (fun x => Dev.rouri x t dir = { r with repairing := rest, lost := r.lost ++ [w] }
          ∧ Dev.el x (kCapacity t dir) = Dev.el d (kCapacity t dir) - 50
          ∧ Dev.el x (K.tileRouriRepairs t) = (Dev.el d (K.tileRouriRepairs t) + 1) % 2 ^ 32
          ∧ SameTraffic d x ∧ SameTables d x)))
  ∧ (∀ (t : Fin 16) (s : State), s.lit →
    let d := s.dev
    let loads (x : Dev) : Prop := Dev.el x (K.tileMcuState t) = 1 ∧ (∀ k, k ≠ K.tileMcuState t → Dev.el x k = Dev.el d k)
      ∧ SameTraffic d x ∧ SameTables d x
    Does (.tileMcuReload t) s loads
    ∧ (Dev.el d (K.tileMcuState t) = 0 → Does (.tileMcuHeartbeatMiss t false) s loads
        ∧ Does (.tileMcuHeartbeatMiss t true) s (fun x => Dev.el x (K.tileMcuState t) = 1
          ∧ Dev.el x K.errContained = (Dev.el d K.errContained + 1) % 2 ^ 64 ∧ SameTraffic d x ∧ SameTables d x))
    ∧ (Dev.el d (K.tileMcuState t) ≠ 0 → ∀ m, exec (.tileMcuHeartbeatMiss t m) s = .next s)
    ∧ (Dev.el d (K.tileMcuState t) = 1 → Reload.tile t.val ∉ d.fw.reloads.tail → Does (.tileMcuReloadDone t true) s (fun x => Dev.el x (K.tileMcuState t) = 0
          ∧ SameTraffic d x ∧ SameTables d x))
    ∧ (Dev.el d (K.tileMcuState t) = 1 → SMap.get d.lanes.mcuFails t 0 = 2 → Reload.tile t.val ∉ d.fw.reloads.tail →
        Does (.tileMcuReloadDone t false) s (fun x => Dev.el x (K.tileMcuState t) = 2 ∧ SameTraffic d x ∧ SameTables d x))
    ∧ (Dev.el d (K.tileMcuState t) ≠ 1 → ∀ ok, exec (.tileMcuReloadDone t ok) s = .next s))
  ∧ (∀ (n : Fin 1024) (e : LaneEq) (s : State), s.lit →
    (SMap.get s.dev.lanes.adapting n false = true →
      Does (.laneAdaptDone n e) s (fun x => Dev.el x (K.laneAdaptState n) = 2 ∧ Dev.el x (K.laneSnr n) = e.snr
        ∧ SMap.get x.lanes.adapting n false = false ∧ SameTraffic s.dev x ∧ SameTables s.dev x))
    ∧ (SMap.get s.dev.lanes.adapting n false = false → exec (.laneAdaptDone n e) s = .next s))
  ∧ (∀ (p : Fin 1024) (c u : Nat) (symbols : List Nat) (s : State), s.lit → Dev.domain s.dev (6 + p / 64) = 1 →
    Dev.adminUp s.dev p = true → p.val + Dev.portWidth s.dev p ≤ 1024 →
      Does (.fecDegradeCheck p c u symbols) s (fun x =>
        Dev.el x (K.portFecCorrected p) = (Dev.el s.dev (K.portFecCorrected p) + c) % 2 ^ 64
        ∧ Dev.el x (K.portFecUncorrected p) = (Dev.el s.dev (K.portFecUncorrected p) + u) % 2 ^ 64
        ∧ (∀ k n, k < Dev.portWidth s.dev p → symbols[k]? = some n →
            Dev.el x (K.laneSymbolErrors (p + k)) = (Dev.el s.dev (K.laneSymbolErrors (p + k)) + n) % 2 ^ 64)
        ∧ (Dev.el s.dev (K.portFecDegradeLimit p) ≠ 0 → Dev.el s.dev (K.portFecDegradeLimit p) < c →
            (Dev.hp x 0).evtCause.getLsbD 0 = true ∧ (Dev.hp x 1).evtCause.getLsbD 0 = true)
        ∧ SameTraffic s.dev x ∧ SameTables s.dev x))

/-! Table commands, settlement, barns. -/

/-- Blocks of one record (R123 to R126). -/
def Obligations.TableCommandsRunTheirRecords : Prop :=
  ∀ (op : Fin 10) (q : Fin 2048) (h : Nat) (i : Instr) (s : State), s.lit →
    let d := s.dev
    let hd := blkHdr op h
    (∀ rec : Nat, tableInstr op q h [rec] none = some i → s.blockRuns q op h [rec] →
      let y := runRecord d.tbl (s.epoch % 2) op (Blk.table hd) (Blk.next hd) (Blk.clearHit hd) rec
      Does i s (fun x => x.tbl = { (if y.status = 0 then y.tbl else d.tbl) with last := q.val }
        ∧ (∃ img, Out.blockDone q img ∈ x.out ∧ byteAt img 16 = y.status % 256 ∧ img.take 16 = leBytes 16 hd)
        ∧ SameTraffic d x ∧ x.time = d.time ∧ x.lanes = d.lanes))
    ∧ (∀ (recs : List Nat) (f : Option TblFault), tableInstr op q h recs f = some i →
      Dev.blockWaits d d.tbl.waiting q hd = false → Blk.bad hd recs = true →
      Does i s (fun x => x.tbl = { d.tbl with last := q.val } ∧ x.prog = d.prog ∧ SameTraffic d x
        ∧ ∃ img, Out.blockDone q img ∈ x.out ∧ byteAt img 16 = 4))
    ∧ (∀ (recs : List Nat) (f : Option TblFault), tableInstr op q h recs f = some i → Dev.blockWaits d d.tbl.waiting q hd = true →
      exec i s = .next { s with dev := { d with tbl := { d.tbl with
        waiting := d.tbl.waiting ++ [{ queue := q, hdr := hd, recs := recs, item := false, fault := f }] } } })

/-- Exact match through lookups (R101, R103, R121). -/
def Obligations.ExactMatchEntriesAreFoundAndGone : Prop :=
  ∀ (q : Fin 2048) (h rec : Nat) (s : State),
    let t := s.dev.tbl
    let e := s.epoch % 2
    let key := bits rec 0 512
    let res := bits rec 512 64
    let tab := bits rec 576 6
    let width := bits rec 582 2 + 1
    let others (x : Dev) : Prop := ∀ (tab' width' key' b : Nat), (tab', width', key') ≠ (tab, width, key) →
      emResult x.tbl tab' width' key' b = emResult t tab' width' key' b
    Blk.table h = 0 → rec < 2 ^ 585 → key < 2 ^ (128 * width) →
      (s.blockRuns q 1 h [rec] →
        let v := visFor (Blk.next h) e
        (∀ y ∈ t.em, EmEntry.is y tab width key = true → y.vis &&& v = 0) →
        (emInsert t.em { loc := 0, tab := tab, width := width, key := key, result := res, vis := v, hit := 0 }).isSome = true →
        Does (.tblInsert q h [rec] none) s (fun x => (∀ b, sees v b = true → emResult x.tbl tab width key b = some res) ∧ others x))
      ∧ (s.blockRuns q 2 h [rec] → Blk.next h = false → (emResult t tab width key e).isSome = true →
        Does (.tblModify q h [rec] none) s (fun x => emResult x.tbl tab width key e = some res))
      ∧ (s.blockRuns q 3 h [rec] → Blk.next h = false → (∃ y ∈ t.em, EmEntry.is y tab width key = true) →
        Does (.tblDelete q h [rec] none) s (fun x => (∀ b, emResult x.tbl tab width key b = none) ∧ others x))
      ∧ (s.blockRuns q 4 h [rec] → (∃ y ∈ t.em, EmEntry.is y tab width key = true) →
        Does (.tblRead q h [rec]) s (fun x => (∀ b, emResult x.tbl tab width key b = emResult t tab width key b) ∧ others x))

/-- Next hops and groups (R109, R110, R114). -/
def Obligations.NextHopsGroupsAndSlotsAreKept : Prop :=
  ∀ (q : Fin 2048) (h rec : Nat) (s : State),
    let t := s.dev.tbl
    let i := bits rec 128 19
    let ent := bits rec 0 128
    let g := bits rec 0 14
    let nhIs (x : Dev) (v : Nat) : Prop := SMap.get x.tbl.nh i 0 = v ∧ ∀ j, j ≠ i → SMap.get x.tbl.nh j 0 = SMap.get t.nh j 0
    (Blk.table h = 3 → rec < 2 ^ 147 → bits ent 100 28 = 0 → nhPort ent ≤ 1040 →
      (s.blockRuns q 1 h [rec] → nhValid (SMap.get t.nh i 0) = false → Does (.tblInsert q h [rec] none) s (fun x => nhIs x ent))
      ∧ (s.blockRuns q 2 h [rec] → nhValid (SMap.get t.nh i 0) = true → Does (.tblModify q h [rec] none) s (fun x => nhIs x ent))
      ∧ (s.blockRuns q 3 h [rec] → nhValid (SMap.get t.nh i 0) = true → Does (.tblDelete q h [rec] none) s (fun x => nhIs x 0)))
    ∧ (Blk.table h = 4 → rec < 2 ^ 26 → bits rec 14 2 ≤ 1 → bits rec 16 4 ≤ 12 →
      (s.blockRuns q 5 h [rec] → SMap.find t.groups g = none →
        (findBlock t (2 ^ bits rec 16 4) (2097152 / 2 ^ bits rec 16 4) 0).isSome = true →
        Does (.groupCreate q h [rec] none) s (fun x => ∃ gr : Group, SMap.find x.tbl.groups g = some gr
          ∧ gr.log2 = bits rec 16 4 ∧ gr.managed = (bits rec 14 2 == 1) ∧ gr.failover = bit rec 20 ∧ gr.rotate = bits rec 21 5
          ∧ gr.base % 2 ^ gr.log2 = 0 ∧ gr.base + 2 ^ gr.log2 ≤ 2097152
          ∧ ∀ o ∈ t.groups, overlaps gr.base (2 ^ gr.log2) o.2.base (2 ^ o.2.log2) = false))
      ∧ (∀ gr : Group, s.blockRuns q 6 h [rec] → SMap.find t.groups g = some gr →
        Does (.groupDelete q h [rec] none) s (fun x => SMap.find x.tbl.groups g = none ∧ (∀ o, o < 4096 → memberOf x.tbl g o = none)
          ∧ ∀ k, k < 2 ^ gr.log2 → SMap.get x.tbl.slots (gr.base + k) 0 = 0)))
    ∧ (∀ gr : Group, SMap.find t.groups g = some gr →
      (∀ o, Blk.table h = 5 → rec < 2 ^ 45 → s.blockRuns q 7 h [rec] → t.members.length < 1048576 → lowestFree (ordinals t g) = some o →
        Does (.memberAdd q h [rec] none) s (fun x => memberOf x.tbl g o = some (bits rec 26 19)
          ∧ (∀ g' m, m < 4096 → (g', m) ≠ (g, o) → memberOf x.tbl g' m = memberOf t g' m)
          ∧ ∀ k, SMap.get x.tbl.slots k 0 = SMap.get t.slots k 0
              ∨ (gr.managed = true ∧ gr.base ≤ k ∧ k < gr.base + 2 ^ gr.log2 ∧ SMap.get x.tbl.slots k 0 = o + 1)))
      ∧ (Blk.table h = 5 → rec < 2 ^ 45 → s.blockRuns q 8 h [rec] → (memberOf t g (bits rec 14 12)).isSome = true →
        Does (.memberRemove q h [rec] none) s (fun x => memberOf x.tbl g (bits rec 14 12) = none
          ∧ (gr.managed = true → slotsOf x.tbl gr (bits rec 14 12 + 1) = [])
          ∧ (gr.managed = false → x.tbl.slots = t.slots)))
      ∧ (Blk.table h = 6 → rec < 2 ^ 39 → s.blockRuns q 9 h [rec] → bits rec 14 12 < 2 ^ gr.log2 → gr.managed = false →
        Does (.slotWrite q h [rec] none) s (fun x =>
          SMap.get x.tbl.slots (gr.base + bits rec 14 12) 0 = (if bit rec 38 then 0 else bits rec 26 12 + 1)
          ∧ ∀ k, k ≠ gr.base + bits rec 14 12 → SMap.get x.tbl.slots k 0 = SMap.get t.slots k 0)))

/-- Settlement (R122), undo (R155), repair of the barns (R127). -/
def Obligations.SettlementKeepsWhatTheEpochInForceSees : Prop :=
  let settled (t u : TableS) (e : Nat) : Prop := ∀ b, b < 2 →
    (∀ tab width key, emResult u tab width key b = emResult t tab width key e)
    ∧ (∀ v6 vrf a, (lpmFind u.lpm v6 vrf a b).map (fun y => y.result) = (lpmFind t.lpm v6 vrf a e).map (fun y => y.result))
    ∧ (∀ pipe key, (winFind u.win pipe key b).map (fun y => y.result) = (winFind t.win pipe key e).map (fun y => y.result))
    ∧ (∀ key, (tcamFind u.tcam key b).map (fun y => y.result) = (tcamFind t.tcam key e).map (fun y => y.result))
  (∀ s : State, s.lit → Dev.el s.dev K.tblSettling = 1 →
    Does .visibilitySettlement s (fun x => settled s.dev.tbl x.tbl (s.epoch % 2) ∧ x.prog.settled = true
      ∧ x.tbl.nh = s.dev.tbl.nh ∧ x.tbl.groups = s.dev.tbl.groups ∧ x.tbl.members = s.dev.tbl.members ∧ x.tbl.slots = s.dev.tbl.slots
      ∧ SameTraffic s.dev x))
  ∧ (∀ s : State, s.lit → Dev.el s.dev K.tblSettling = 1 → s.dev.prog.settled = true → s.dev.tbl.waiting = [] →
    exec .settlementDone s = .next { s with dev := Dev.setEl s.dev K.tblSettling 0 })
  ∧ (∀ (s : State) (c u t r : Nat), s.lit → s.dev.prog.abort = some (c, u, t, r) →
    Does .stageAbortDone s (fun x => settled s.dev.tbl x.tbl (s.epoch % 2) ∧ x.prog.abort = none
      ∧ Dev.el x K.epochStageState = 2 ∧ Dev.el x K.epochStageEntries = 0 ∧ Dev.el x K.epochAbortCause = c ∧ Dev.el x K.epochAbortUnit = u
      ∧ Dev.el x K.epochAbortTag = t ∧ Dev.el x K.epochAbortRecord = r ∧ SameTraffic s.dev x))
  ∧ (∀ (k : Fin 4) (w : Nat × Nat × Nat) (s : State), s.lit → s.dev.tbl.bad.find? (fun y => y.1 == k.val) = some w →
    Does (.barnPeerRepair k) s (fun x => x.tbl = { s.dev.tbl with bad := s.dev.tbl.bad.filter (fun v => v != w) }
      ∧ Dev.el x (K.barnPeerRepairs k) = (Dev.el s.dev (K.barnPeerRepairs k) + 1) % 2 ^ 64 ∧ SameTraffic s.dev x ∧ x.prog = s.dev.prog))
  ∧ (∀ (k : Fin 4) (corrected repaired ms : Nat) (s : State), s.lit →
    Does (.barnScrubPass k corrected repaired ms) s (fun x => x.tbl = { s.dev.tbl with bad := s.dev.tbl.bad.filter (fun w => w.1 != k.val) }
      ∧ Dev.el x (K.barnCorrected k) = (Dev.el s.dev (K.barnCorrected k) + corrected) % 2 ^ 64
      ∧ Dev.el x (K.barnPeerRepairs k) = (Dev.el s.dev (K.barnPeerRepairs k) + repaired) % 2 ^ 64
      ∧ Dev.el x (K.barnScrubPassMs k) = ms % 2 ^ 32 ∧ SameTraffic s.dev x ∧ x.prog = s.dev.prog))

/-! Loads, banks, the flip. -/

/-- Loads and copies (R145, R146, R153). -/
def Obligations.LoadsFillIdleBanksOnly : Prop :=
  ∀ s : State, s.lit →
    let d := s.dev
    let ep := s.epoch
    let keeps (x : Dev) : Prop := (∀ m, Pipe.bank (Dev.pipe x m) ep = Pipe.bank (Dev.pipe d m) ep)
      ∧ x.pkts = d.pkts ∧ x.queues = d.queues ∧ x.ports = d.ports ∧ x.buf = d.buf ∧ x.tbl = d.tbl
    (∀ l : Load, d.prog.load = some l → (∀ y ∈ l.images, y.1 < 16) → (l.images.map (fun y => y.1)).Nodup →
      (l.writing = false → (∀ y ∈ l.images, Dev.heldPackets ep d y.1 = 0) → d.prog.flip ≠ 2 →
        Does .progLoadWrite s (fun x => (∀ y ∈ l.images, Pipe.bank (Dev.pipe x y.1) (ep + 1) = y.2 ∧ Dev.el x (K.bankIdleState y.1) = 3)
          ∧ keeps x ∧ x.prog.load = some { l with writing := true }
          ∧ ∀ m, (∀ y ∈ l.images, y.1 ≠ m) → Dev.pipe x m = Dev.pipe d m))
      ∧ (l.writing = true ∨ (∃ y ∈ l.images, Dev.heldPackets ep d y.1 ≠ 0) ∨ d.prog.flip = 2 → exec .progLoadWrite s = .next s)
      ∧ (l.writing = false → ∀ failed, exec (.progLoadDone failed) s = .next s))
    ∧ (∀ (l : Load) (failed : Fin 65536), d.prog.load = some l → l.writing = true → (∀ y ∈ l.images, y.1 < 16) →
        Does (.progLoadDone failed) s (fun x => x.prog.load = none
          ∧ (∀ y ∈ l.images, Dev.el x (K.bankIdleState y.1) = if bit failed y.1 then 5 else 1)
          ∧ Dev.el x K.progLoadStatus = (if l.images.any (fun y => bit failed y.1) then 4 else 0)
          ∧ Dev.el x K.progLoadDoneSeq = Dev.el d K.progLoadSeq ∧ keeps x ∧ x.pipes = d.pipes))
    ∧ (d.prog.load = none → exec .progLoadWrite s = .next s ∧ ∀ failed, exec (.progLoadDone failed) s = .next s)
    ∧ (∀ n : Fin 16,
        (Dev.el d (K.bankIdleState n) = 2 → Dev.heldPackets ep d n = 0 →
          exec (.bankRelease n) s = .next { s with dev := { d with prog := { d.prog with released := SMap.set d.prog.released n true false } } })
        ∧ (Dev.el d (K.bankIdleState n) ≠ 2 ∨ Dev.heldPackets ep d n ≠ 0 → exec (.bankRelease n) s = .next s)
        ∧ ((Dev.el d (K.bankIdleState n) = 5 ∨ (Dev.el d (K.bankIdleState n) = 2 ∧ SMap.get d.prog.released n false = true)) →
            Dev.loadNames d n = false →
          Does (.bankCopy n) s (fun x => Dev.el x (K.bankIdleState n) = 4 ∧ x.pipes = d.pipes ∧ keeps x))
        ∧ (Dev.loadNames d n = true ∨ (Dev.el d (K.bankIdleState n) ≠ 5
              ∧ (Dev.el d (K.bankIdleState n) ≠ 2 ∨ SMap.get d.prog.released n false = false)) →
          exec (.bankCopy n) s = .next s)
        ∧ (Dev.el d (K.bankIdleState n) ≠ 4 → exec (.bankCopyDone n) s = .next s)
        ∧ (Dev.el d (K.bankIdleState n) = 4 →
          Does (.bankCopyDone n) s (fun x => Pipe.bank (Dev.pipe x n) (ep + 1) = Pipe.bank (Dev.pipe d n) ep
            ∧ Dev.el x (K.bankIdleState n) = 0 ∧ keeps x ∧ ∀ m, m ≠ n.val → Dev.pipe x m = Dev.pipe d m)))

/-- The flip (R147 to R152). -/
def Obligations.FlipsCommitAtomicallyOrTimeOut : Prop :=
  ∀ s : State, s.lit →
    let d := s.dev
    let old := (s.epoch + 1) % 2
    (d.prog.flip = 1 → Dev.flipReady d = true → exec .flipAckWait s = .next { s with dev := { d with prog := { d.prog with flip := 2 } } })
    ∧ ((d.prog.flip ≠ 1 ∨ Dev.flipReady d = false) → exec .flipAckWait s = .next s)
    ∧ (d.prog.flip = 2 →
        ∃ x, exec .flipCommit s = .next { s with epoch := (s.epoch + 1) % 2 ^ 48, dev := x }
          ∧ (∀ n : Fin 16, Dev.el x (K.bankActive n) = (s.epoch + 1) % 2
              ∧ Dev.el x (K.bankIdleState n) = if (Dev.pipe d n).bankA.id = (Dev.pipe d n).bankB.id then 0 else 2)
          ∧ Dev.el x K.epochFlipStatus = 0 ∧ Dev.el x K.epochFlips = (Dev.el d K.epochFlips + 1) % 2 ^ 64
          ∧ Dev.el x K.epochFlipTime = Dev.tb0Elem d ∧ Dev.el x K.epochStageEntries = 0
          ∧ x.prog.flip = 0 ∧ x.prog.drain = true ∧ x.prog.lastFlip = some d.ticks
          ∧ x.pipes = d.pipes ∧ x.tbl = d.tbl)
    ∧ (d.prog.flip ≠ 2 → exec .flipCommit s = .next s ∧ ∀ k, exec (.flipAckTimeout k) s = .next s)
    ∧ (d.prog.flip = 2 → d.tbl.waiting = [] → Dev.el d K.epochStageState = 0 → ∀ k : Fin 4,
        Does (.flipAckTimeout k) s (fun x => x.prog.flip = 0 ∧ Dev.el x K.epochFlipStatus = 3
          ∧ Dev.el x K.epochStageState = 1 ∧ x.prog.abort = some (4, k.val, 0, 0) ∧ SameTraffic d x ∧ x.tbl = d.tbl))
    ∧ (d.prog.drain = true → d.tbl.waiting = [] →
        (∀ n : Fin 16, (∀ i ∈ (Dev.pipe d n).gate, (Dev.pkt d i).epoch ≠ old) ∧ ((Dev.pipe d n).ctx.live = true →
            (Dev.pipe d n).ctx.egress = true ∨ (Dev.pipe d n).ctx.epoch ≠ old)) → ∀ ns : Nat,
        Does (.ingressDrainEnd ns) s (fun x => x.prog.drain = false ∧ Dev.el x K.tblSettling = 1 ∧ Dev.el x K.epochDrainNs = ns % 2 ^ 32
          ∧ SameTraffic d x ∧ x.tbl = d.tbl))
    ∧ (d.prog.drain = false → ∀ ns, exec (.ingressDrainEnd ns) s = .next s)
    ∧ Does .epochReleaseLimit s (fun x =>
        let keeps (y : Desc) : Prop := y.released = false ∧ (Dev.pkt d y.pkt).epoch = old ∧ Pkt.own (Dev.pkt d y.pkt) = false
        (∀ n y, QItem.pkt y ∈ (Dev.queue x n).items → ¬ keeps y) ∧ (∀ b ∈ x.gran.bales, ∀ y ∈ b.2.recs, ¬ keeps y)
        ∧ SameTables d { x with prog := d.prog })

/-- Registers of the loader and of the epoch controller (R144, R146, R151, R155). -/
def Obligations.LoaderAndEpochRegistersAct : Prop :=
  ∀ (src : Source) (s : State),
    let d := s.dev
    let calm (x : Dev) : Prop := x.pkts = d.pkts ∧ x.queues = d.queues ∧ x.pipes = d.pipes ∧ x.ports = d.ports ∧ x.buf = d.buf ∧ x.tbl = d.tbl
    (∀ bytes : List Byte, s.grants (.progStageChunk src bytes) →
      Does (.progStageChunk src bytes) s (fun x => Dev.el x K.progStageOffset = Dev.el d K.progStageOffset + bytes.length
        ∧ (∀ k b, bytes[k]? = some b → SMap.get x.prog.bundle (Dev.el d K.progStageOffset + k) 0 = b) ∧ calm x))
    ∧ (∀ seq : Fin 4294967296, Dev.el d K.progLoadSeq ≠ seq.val → s.grants (.progLoad src seq) →
        let r := checkBundle (Dev.bundle d) (Dev.activeImg s.epoch d)
        (∀ f, r.1 = some f → Does (.progLoad src seq) s (fun x => Dev.el x K.progLoadStatus = 2 ∧ Dev.el x K.progLoadDoneSeq = seq.val
            ∧ Dev.el x K.progLoadFailSection = f.1 ∧ Dev.el x K.progLoadFailOffset = f.2 ∧ x.prog.load = d.prog.load ∧ calm x))
        ∧ (r.1 = none → Does (.progLoad src seq) s (fun x => Dev.el x K.progLoadStatus = 1
            ∧ x.prog.load = some { images := r.2, writing := false } ∧ calm x)))
    ∧ (s.grants (.progLoadDiscard src) →
        Does (.progLoadDiscard src) s (fun x => (∀ n : Fin 16, Dev.el x (K.bankIdleState n) =
          if Dev.el d (K.bankIdleState n) = 1 then 4 else Dev.el d (K.bankIdleState n)) ∧ calm x))
    ∧ (∀ seq : Fin 4294967296, Dev.el d K.epochFlipSeq ≠ seq.val → s.grants (.epochFlip src seq) →
        Does (.epochFlip src seq) s (fun x => calm x ∧
          (if d.prog.recopy ≠ [] ∨ ∃ n : Fin 16, Dev.el d (K.bankIdleState n) = 5 ∨ Dev.el d (K.bankIdleState n) = 3 then
             Dev.el x K.epochFlipStatus = 4 ∧ x.prog.flip = 0 ∧ Dev.el x K.epochFlipDoneSeq = seq.val
           else if Dev.el d K.epochStageState ≠ 0 then
             Dev.el x K.epochFlipStatus = 2 ∧ x.prog.flip = 0 ∧ Dev.el x K.epochFlipDoneSeq = seq.val
           else Dev.el x K.epochFlipStatus = 1 ∧ x.prog.flip = 1)))
    ∧ (s.grants (.stageAbort src) → Dev.el d K.epochStageState = 0 → d.prog.flip = 0 →
        Does (.stageAbort src) s (fun x => Dev.el x K.epochStageState = 1 ∧ x.prog.abort = some (5, 14, 0, 0) ∧ calm x))
    ∧ (s.grants (.stageReset src) → Dev.el d K.epochStageState = 2 →
        Does (.stageReset src) s (fun x => Dev.el x K.epochStageState = 0 ∧ Dev.el x K.epochStageEntries = 0 ∧ calm x))

/-! The audit, multicast lists, the granary. -/

/-- Audit, scrub, multicast (R166 to R168, R181). -/
def Obligations.AuditsReclaimAndListsAreReplaced : Prop :=
  ∀ (s : State), s.lit →
    let d := s.dev
    (d.buf.auditRun = false → exec .auditPeriod s = .next { s with dev := { d with buf := { d.buf with auditRun := true } } })
    ∧ (d.buf.auditRun = true → exec .auditPeriod s = .next { s with dev := { d with buf := { d.buf with auditAgain := true } } })
    ∧ (d.buf.auditRun = false → exec .auditDone s = .next s)
    ∧ (d.buf.auditRun = true → Does .auditDone s (fun x =>
        (∀ c, (SMap.find x.buf.alloc c).isSome = true → Dev.cellMarked d c = true)
        ∧ (∀ b, (SMap.find x.gran.bales b).isSome = true → Dev.baleMarked d b = true)
        ∧ x.buf.quarantine = [] ∧ Dev.el x K.bufQuarantine = 0 ∧ x.buf.auditRun = d.buf.auditAgain ∧ x.buf.auditAgain = false
        ∧ (d.buf.auditSeq = 1 → Dev.el x K.bufAuditStatus = 0) ∧ x.queues = d.queues ∧ SameTables d x))
    ∧ (∀ c u : Nat, Dev.el d K.bufEccCorrected < 2 ^ 64 → Dev.el d K.bufEccUncorrectable < 2 ^ 64 →
        Does (.bufferScrub c u []) s (fun x => Dev.el x K.bufEccCorrected = (Dev.el d K.bufEccCorrected + c) % 2 ^ 64
        ∧ Dev.el x K.bufEccUncorrectable = (Dev.el d K.bufEccUncorrectable + u) % 2 ^ 64 ∧ SameTraffic d x ∧ SameTables d x))
    ∧ (∀ (n : Fin 16656) (k : Nat), Does (.bufferScrub 0 0 [(n, k)]) s (fun x =>
        (Dev.queue x n).items.length ≤ k ∧ x.buf.auditRun = true ∧ SameTables d x))
    ∧ (∀ (src : Source) (seq : Fin 4294967296), s.grants (.auditRequest src seq) → Dev.el d K.bufAuditSeq ≠ seq.val →
        Does (.auditRequest src seq) s (fun x => x.buf.auditRun = true ∧ Dev.el x K.bufAuditStatus = 1
          ∧ (d.buf.auditRun = true → x.buf.auditAgain = true)
          ∧ x.buf.auditSeq = (if d.buf.auditRun then 2 else 1) ∧ x.pkts = d.pkts ∧ x.queues = d.queues ∧ SameTables d x))
    ∧ (∀ (src : Source) (g : Fin 65536) (l : List Byte) (seq : Fin 4294967296), Dev.el d K.mcSeq ≠ seq.val →
        let others (x : Dev) : Prop := (∀ h, h ≠ g.val → Dev.mcList x h = Dev.mcList d h) ∧ x.pkts = d.pkts ∧ x.queues = d.queues ∧ SameTables d x
        (s.grants (.mcSet src g l seq) → mcListOk l = true →
            (mcEntries l).length ≤ Dev.el d K.mcEntriesFree + (Dev.mcList d g).length →
          Does (.mcSet src g l seq) s (fun x => Dev.mcList x g = mcEntries l ∧ Dev.el x K.mcStatus = 0 ∧ others x))
        ∧ (s.grants (.mcSet src g l seq) → mcListOk l = false →
          Does (.mcSet src g l seq) s (fun x => Dev.mcList x g = Dev.mcList d g ∧ Dev.el x K.mcStatus = 2 ∧ others x))
        ∧ (s.grants (.mcRead src g seq) →
          Does (.mcRead src g seq) s (fun x => Dev.blob x K.mcList = mcBlob (Dev.mcList d g) ∧ Dev.el x K.mcStatus = 0
            ∧ Dev.mcList x g = Dev.mcList d g ∧ others x))
        ∧ (s.grants (.mcClear src g seq) →
          Does (.mcClear src g seq) s (fun x => Dev.mcList x g = [] ∧ Dev.el x K.mcStatus = 0 ∧ others x)))

/-- Bales (R213 to R215, R222). -/
def Obligations.BalesAreWrittenReturnedAndFreed : Prop :=
  ∀ (n : Fin 16384) (s : State), s.lit →
    let d := s.dev
    ((Dev.queue d n).openBale = none → exec (.baleCloseTimer n) s = .next s)
    ∧ ((Dev.queue d n).openBale ≠ none → Does (.baleCloseTimer n) s (fun x => (Dev.queue x n).openBale = none ∧ SameTables d x))
    ∧ (∀ (b : Nat) (y : Bale), SMap.find d.gran.bales b = some y →
        (y.closed = true → y.written = false → Dev.spillRoom d = true →
          Does (.baleWriteDone b) s (fun x => ∃ z, SMap.find x.gran.bales b = some z ∧ z.written = true ∧ z.recs.length = y.recs.length
            ∧ z.queue = y.queue ∧ z.refs = y.refs ∧ z.bursts = Bale.image y b (Dev.baleMark d b y.seq)
            ∧ Dev.el x K.granSpillBacklog = Dev.el d K.granSpillBacklog - 1
            ∧ (∀ c, c ≠ b → SMap.find x.gran.bales c = SMap.find d.gran.bales c) ∧ x.queues = d.queues ∧ SameTables d x))
        ∧ ((y.closed = false ∨ y.written = true ∨ Dev.spillRoom d = false) → exec (.baleWriteDone b) s = .next s))
    ∧ (∀ m b k, Dev.nextReturn d = some (m, b, k) →
        (m, b, k) ∈ Dev.returnable d m
        ∧ (Dev.el d (K.gstackState (b % 16)) ≠ 2 →
          exec .baleReturnRead s
            = .next (State.mk s.pending s.epoch
                (Dev.setBale (Dev.setGran d { d.gran with returns := d.gran.returns.filter (fun r => r != (m, b, k)) }) b
                  { Dev.bale d b with reading := (Dev.bale d b).reading ++ [m] })))
        ∧ (Dev.el d (K.gstackState (b % 16)) = 2 → Does .baleReturnRead s (fun x =>
            QItem.bale b k ∉ (Dev.queue x m).items ∧ SameTables d x)))
    ∧ (Dev.nextReturn d = none → exec .baleReturnRead s = .next s)
    ∧ (∀ (l t : List (Nat × Nat × Nat)) (r : Nat × Nat × Nat), d.gran.returns = l ++ r :: t → r ∈ Dev.returnable d r.1 →
        (∀ y ∈ l, y ∉ Dev.returnable d y.1) → Dev.nextReturn d = some r)
    ∧ (∀ (b k : Nat) (y : Bale), SMap.find d.gran.bales b = some y → EQueue.refTo (Dev.queue d n) b = some k → n.val ∈ y.reading →
        y.refs ≤ 1 → (Dev.queue d n).openBale ≠ some b → ∀ w : BaleWay,
        Does (.baleReturnDone n b w) s (fun x => SMap.find x.gran.bales b = none ∧ QItem.bale b k ∉ (Dev.queue x n).items
          ∧ (w.bad ≠ [] ∨ Bale.tagsOk y (Dev.baleMark d b y.seq) = false → y.contIn = 0 → Dev.el d K.granDropsEcc < 2 ^ 64 →
              Dev.el x K.granDropsEcc = (Dev.el d K.granDropsEcc + y.recs.length) % 2 ^ 64) ∧ SameTables d x))
    ∧ (∀ (b : Nat) (w : BaleWay), EQueue.refTo (Dev.queue d n) b = none → Does (.baleReturnDone n b w) s (fun x =>
        SMap.find x.gran.bales b
          = (SMap.find d.gran.bales b).map (fun y => { y with reading := y.reading.filter (fun m => m != n.val) })
        ∧ (∀ c, c ≠ b → SMap.find x.gran.bales c = SMap.find d.gran.bales c) ∧ x.queues = d.queues ∧ x.pkts = d.pkts
        ∧ x.dict = d.dict ∧ SameTables d x))
    ∧ (∀ (b k : Nat) (w : BaleWay), EQueue.refTo (Dev.queue d n) b = some k → n.val ∉ (Dev.bale d b).reading →
        exec (.baleReturnDone n b w) s = .next s)

/-- Stacks and segments (R223 to R232, R313). -/
def Obligations.StacksAreRepairedAndRetired : Prop :=
  ∀ (st : Fin 16) (s : State), s.lit →
    let d := s.dev
    let state (x : Dev) : Nat := Dev.el x (K.gstackState st)
    let runs : Prop := Dev.el d K.fwGmcuState = 0
    (∀ seg : Fin 131072,
      let k := segKey st seg
      let works : Prop := state d = 0 ∨ state d = 4
      let fresh : Prop := runs ∧ works ∧ seg.val < resBase ∧ SMap.find d.gran.remap k = none ∧ Dev.standsFor d st seg = none
      (∀ r, fresh → Dev.freeReserve d st = some r →
        Does (.segmentFailDeclare st seg) s (fun x => r < 3072 ∧ SMap.find x.gran.remap k = some (r + 1)
            ∧ (∀ g : Fin 131072, SMap.find d.gran.remap (segKey st g) ≠ some (r + 1))
            ∧ SMap.find d.gran.badRes (segKey st (r + 1)) = none
          ∧ SMap.get x.gran.copying k false = true ∧ x.gran.bales = d.gran.bales ∧ x.queues = d.queues))
      ∧ (fresh → Dev.freeReserve d st = none → seg.val < Dev.spillSegs d → SMap.find d.gran.gone ((seg * 8) * 16 + st) = none →
        Does (.segmentFailDeclare st seg) s (fun x => ∀ i, i < 8 → SMap.find x.gran.gone ((seg * 8 + i) * 16 + st) = some true))
      ∧ (runs → (¬ works ∨ (seg.val < resBase ∧ (SMap.find d.gran.remap k).isSome = true ∧ Dev.standsFor d st seg = none)) →
          exec (.segmentFailDeclare st seg) s = .next s)
      ∧ (¬ runs → exec (.segmentFailDeclare st seg) s = .next { s with dev := Dev.setGran d { d.gran with
          later := d.gran.later.filter (fun w => w != .fail st seg) ++ [.fail st seg] } })
      ∧ (runs → SMap.get d.gran.copying k false = true →
        Does (.segmentRemap st seg) s (fun x => SMap.get x.gran.copying k false = false ∧ x.gran.remap = d.gran.remap
          ∧ (∃ y ∈ x.dict.cfgPend, y.id = 2 ^ 32 + k ∧ y.part = some (leBytes 8 (SMap.get d.gran.remap k 0)))
          ∧ (∀ b, (Dev.bale x b).recs = (Dev.bale d b).recs) ∧ x.queues = d.queues))
      ∧ (SMap.get d.gran.copying k false = false → exec (.segmentRemap st seg) s = .next s)
      ∧ (runs → (SMap.find d.gran.remap k).isSome = true → SMap.get d.gran.copying k false = false →
        Does (.hpprDone st seg true) s (fun x => SMap.find x.gran.remap k = none ∧ ∀ b, (Dev.bale x b).recs = (Dev.bale d b).recs))
      ∧ exec (.hpprDone st seg false) s = .next s
      ∧ (SMap.find d.gran.remap k = none → exec (.hpprDone st seg true) s = .next s))
    ∧ (state d = 0 → bit (Dev.el d K.thmStackHot) st = false →
        Does (.stackTempAlarm st true) s (fun x => state x = 4 ∧ bit (Dev.el x K.thmStackHot) st = true ∧ SameTables d x))
    ∧ (state d = 4 → Does (.stackTempAlarm st false) s (fun x => state x = 0 ∧ SameTables d x))
    ∧ (state d ≠ 0 → state d ≠ 4 → ∀ hot, Does (.stackTempAlarm st hot) s (fun x => state x = state d ∧ SameTraffic d x ∧ SameTables d x))
    ∧ (∀ src : Source, s.grants (.stackRetire src ⟨st.val, by omega⟩) → (state d = 0 ∨ state d = 4) → runs →
        Does (.stackRetire src ⟨st.val, by omega⟩) s (fun x => state x = 1 ∧ Dev.el x (K.gstackRetireReason st) = 1))
    ∧ (runs → state d = 1 →
        Does (.retireDrainEnd st) s (fun x => state x = 2 ∧ x.pkts = d.pkts ∧ x.queues = d.queues ∧ x.gran.bales = d.gran.bales))
    ∧ (state d ≠ 1 → exec (.retireDrainEnd st) s = .next s)
    ∧ (∀ src : Source, s.grants (.stackUnretire src st) →
        Does (.stackUnretire src st) s (fun x => (∃ y ∈ x.dict.cfgPend, y.id = K.gstackState st ∧ y.part = some []) ∧ state x = state d))
    ∧ (runs → ∀ ch : Fin 4,
        (∀ way, way ≠ DriftWay.failed → Does (.driftCheck st ch way) s (fun x => SMap.get x.gran.drift (st * 4 + ch) 0 = 0 ∧ x.gran.bales = d.gran.bales
          ∧ state x = state d))
        ∧ (SMap.get d.gran.drift (st * 4 + ch) 0 = 0 →
          Does (.driftCheck st ch .failed) s (fun x => SMap.get x.gran.drift (st * 4 + ch) 0 = 1 ∧ x.gran.bales = d.gran.bales ∧ state x = state d)))
    ∧ (∀ failed : Fin 65536,
        let bad (i : Nat) : Bool := bit failed i || bit d.gran.failed i || Dev.domain d (22 + i / 8) != 1
        let to_ (i : Nat) : Nat := if bad i then 3 else if Dev.stored d (K.gstackState i) = 2 then 2 else 0
        (d.gran.trained = true → exec (.granaryTrainingDone failed) s = .next s)
        ∧ (d.gran.trained = false → d.fw.running = false → Does (.granaryTrainingDone failed) s (fun x =>
            x.gran.trained = true ∧ state x = (if bad st then 3 else 0) ∧ Dev.el x K.granState = Dev.el d K.granState))
        ∧ (d.gran.trained = false → d.fw.running = true → Dev.el d K.granState = 0 → Does (.granaryTrainingDone failed) s (fun x =>
            x.gran.trained = true ∧ state x = to_ st
            ∧ Dev.el x K.granState = (if (List.range 16).all (fun i => to_ i != 0) then 3 else if (List.range 16).all (fun i => to_ i == 0) then 1 else 2))))
    ∧ (∀ (w : ScrubWay) (m : Nat), runs → Does (.granaryScrubPass w m) s (fun x => Dev.el x K.granScrubLastPass = m % 2 ^ 32))
    ∧ (¬ runs → ∀ (seg : Fin 131072) (ch : Fin 4) (way : DriftWay) (w : ScrubWay) (m : Nat),
        exec (.segmentRemap st seg) s = .next s ∧ exec (.hpprDone st seg true) s = .next s ∧ exec (.retireDrainEnd st) s = .next s
        ∧ exec (.driftCheck st ch way) s = .next s ∧ exec (.granaryScrubPass w m) s = .next s)
    ∧ (exec (.gmcuReload .begins) s = .next { s with dev := Dev.setEl d K.fwGmcuState 1 }
      ∧ Does (.gmcuReload .memory) s (fun x => Dev.el x K.fwGmcuState = 1 ∧ SameTraffic d x ∧ SameTables d x
          ∧ (Dev.el d K.errContained < 2 ^ 64 → Dev.el x K.errContained = (Dev.el d K.errContained + 1) % 2 ^ 64))
      ∧ (Reload.gmcu ∉ d.fw.reloads.tail →
          Does (.gmcuReload .runs) s (fun x => Dev.el x K.fwGmcuState = 0 ∧ x.gran.later = [])
          ∧ Does (.gmcuReload .fails) s (fun x => Dev.el x K.fwGmcuState = 2 ∧ SameTraffic d x ∧ SameTables d x)))
    ∧ (Dev.granUp d = false → exec .telStoreMigrate s = .next s)
    ∧ (Dev.granUp d = true →
        let slot (r : Nat) : Nat := bits r 32 64 % Dev.el d K.telStoreCapacity
        (∀ a ∈ d.tel.recs, ∀ b ∈ d.tel.recs, slot a.2 = slot b.2 → a.2 = b.2) →
        Does .telStoreMigrate s (fun x => (∀ a ∈ d.tel.recs, SMap.find x.tel.recs (slot a.2) = some a.2) ∧ x.dict = d.dict ∧ SameTraffic d x))

/-! Time bases, pins, transmit timestamps, the wheel, policers. -/

/-- Bases and servos (R265 to R275). -/
def Obligations.TimeBasesStepSetAndFollowOffsets : Prop :=
  ∀ (src : Source) (b : Fin 8) (s : State), s.lit → s.dev.time.bases.length = 8 →
    let d := s.dev
    let t := Dev.base d b
    let calm (x : Dev) : Prop := (∀ c, c ≠ b.val → Dev.base x c = Dev.base d c) ∧ SameTraffic d x ∧ SameTables d x
    (∀ step : BitVec 64, s.grants (.tbStep src b step) → t.inRange →
      Does (.tbStep src b step) s (fun x => (Dev.base x b).inRange
        ∧ ((Dev.base x b).units : Int) % (TimeBase.wrap : Int) = ((t.units : Int) + step.toInt * 2 ^ 16 * (25 * 2 ^ 16)) % (TimeBase.wrap : Int)
        ∧ (Dev.base x b).rho = t.rho ∧ (Dev.base x b).state = t.state
        ∧ Dev.el x (K.tbSteps b) = (Dev.el d (K.tbSteps b) + 1) % 2 ^ 32 ∧ calm x))
    ∧ (∀ v : BitVec 96, s.grants (.tbTimeSet src b v) →
      Does (.tbTimeSet src b v) s (fun x => Dev.base x b = { t with
          sec := (bits v.toNat 48 48 + bits v.toNat 16 30 / 1000000000) % 2 ^ 48, ns := bits v.toNat 16 30 % 1000000000,
          frac := bits v.toNat 0 16 * 2 ^ 16, resid := 0 }
        ∧ Dev.el x (K.tbSteps b) = (Dev.el d (K.tbSteps b) + 1) % 2 ^ 32 ∧ calm x))
    ∧ (∀ r : BitVec 64, s.grants (.tbRateSet src b r) →
      Does (.tbRateSet src b r) s (fun x => Dev.base x b = { t with rho := r.toInt } ∧ calm x))
    ∧ (s.grants (.tbMasterNew src b) →
      Does (.tbMasterNew src b) s (fun x => Dev.base x b = { t with state := 0, lockcount := 0, outliers := 0 } ∧ calm x))
    ∧ (∀ m : Fin 256, s.grants (.tbServoMode src b m) →
      Does (.tbServoMode src b m) s (fun x => Dev.base x b = (if m.val = 1 then { t with state := 3 }
          else if Dev.el d (K.tbServoMode b) = 1 ∨ t.state = 3 then { t with state := 0 } else t)
        ∧ Dev.el x (K.tbServoMode b) = m.val ∧ calm x))
    ∧ (∀ v : BitVec 64, s.grants (.tbOffset src b v) →
      ((Dev.el d (K.tbServoMode b) ≠ 0 ∨ Dev.el d (K.tbServoSource b) ≠ 0) →
        Does (.tbOffset src b v) s (fun x => Dev.base x b = t ∧ Dev.el x (K.tbOffsetLast b) = v.toNat ∧ calm x))
      ∧ (Dev.el d (K.tbServoMode b) = 0 → Dev.el d (K.tbServoSource b) = 0 → (v.toInt.natAbs : Int) ≤ (Dev.el d (K.tbServoStepNs b) : Int) * 65536 →
        let dt : Nat := if t.first then 1000000000 else max 1000000 (min (Dev.freeNs d - t.last) 16000000000)
        let lim : Int := ((Dev.el d (K.tbRateLimit b) * 2 ^ 48 / 1000000000 : Nat) : Int)
        let i := max (-lim) (min lim (t.integ - Int.tdiv ((Dev.el d (K.tbServoKi b) : Int) * v.toInt * 2 ^ 16) dt))
        let r := max (-lim) (min lim (i - Int.tdiv ((Dev.el d (K.tbServoKp b) : Int) * v.toInt * 2 ^ 16) dt))
        Does (.tbOffset src b v) s (fun x => (Dev.base x b).integ = i ∧ (Dev.base x b).rho = max (-(2 ^ 39)) (min (2 ^ 39 - 1) r)
          ∧ (Dev.base x b).sec = t.sec ∧ (Dev.base x b).ns = t.ns ∧ (Dev.base x b).frac = t.frac
          ∧ (Dev.base x b).last = Dev.freeNs d ∧ (Dev.base x b).first = false ∧ (Dev.base x b).outliers = 0
          ∧ Dev.el x (K.tbOffsetLast b) = v.toNat ∧ calm x)))
    ∧ ((t.state = 0 ∨ t.state = 1) → (t.first = true ∨ t.last ≠ Dev.freeNs d) →
      Does (.tbHoldoverTimeout b) s (fun x => Dev.base x b = { t with state := 2, rho := t.rf, integ := t.rf }
        ∧ Dev.el x (K.tbHoldovers b) = (Dev.el d (K.tbHoldovers b) + 1) % 2 ^ 32 ∧ calm x))
    ∧ (t.state ≠ 0 → t.state ≠ 1 → exec (.tbHoldoverTimeout b) s = .next s)
    ∧ (t.state = 1 → Does (.tbRateSave b) s (fun x => Dev.el x (K.tbRateSaved b) = unsgn 64 t.rho
        ∧ (∃ y ∈ x.dict.cfgPend, y.id = K.tbRateSaved b ∧ y.part = none) ∧ x.time = d.time ∧ calm x))
    ∧ (t.state ≠ 1 → exec (.tbRateSave b) s = .next s)

/-- Captures, pulses, transmit timestamps (R285, R291, R292). -/
def Obligations.PinsCaptureAndPulse : Prop :=
  (∀ (c : Fin 2) (ph : Fin 6) (rising : Bool) (s : State), s.lit → s.dev.time.caps.length = 2 →
    let d := s.dev
    let cfg := Dev.capCfg d c
    let y := Dev.capture d c
    let ts := Dev.stampOn d (bits cfg 0 3) ph (-(sgn 32 (bits cfg 5 32)))
    let now := 2097152 * d.ticks / 25 + ph * 16384
    ((bit cfg 4 = false ∨ bit cfg 3 = rising ∨ (∃ t, y.last = some t ∧ now < t + 100 * 65536)) → exec (.captureEdge c ph rising) s = .next s)
    ∧ (bit cfg 4 = true → bit cfg 3 ≠ rising → (∀ t, y.last = some t → t + 100 * 65536 ≤ now) →
        Does (.captureEdge c ph rising) s (fun x =>
          Dev.capture x c = { queue := if y.queue.length < 16 then y.queue ++ [ts] else y.queue, last := some now }
          ∧ Dev.el x (if c.val = 0 then K.cap0Overflow else K.cap1Overflow)
            = (if y.queue.length < 16 then Dev.el d (if c.val = 0 then K.cap0Overflow else K.cap1Overflow)
               else (Dev.el d (if c.val = 0 then K.cap0Overflow else K.cap1Overflow) + 1) % 2 ^ 32)
          ∧ SameTraffic d x ∧ SameTables d x)))
  ∧ (∀ (src : Source) (c : Fin 2) (s : State), s.lit → s.dev.fw.running = true → Dev.present s.dev src = true → s.dev.time.caps.length = 2 →
    let q := (Dev.capture s.dev c).queue
    Does (.capPop src c) s (fun x => (Dev.capture x c).queue = q.tail ∧ (Dev.capture x c).last = (Dev.capture s.dev c).last
      ∧ x.out = s.dev.out ++ [.reply src 0 (match q with
          | [] => zeros 16
          | t :: r => leBytes 10 t ++ [BitVec.ofNat 8 r.length, 1] ++ zeros 4)]
      ∧ x.dict = s.dev.dict ∧ SameTraffic s.dev x ∧ SameTables s.dev x))
  ∧ (∀ (c : Fin 2) (s : State), s.lit → s.dev.time.pulses.length = 2 →
    let d := s.dev
    let cfg := Dev.outCfg d c
    let inv := bit cfg 5
    let on : Bool := bits cfg 3 2 != 0
    let y := Dev.pulse d c
    let t := TimeBase.time16 (Dev.base d (bits cfg 0 3))
    let drives (i : Instr) (z : Pulse) : Prop :=
      Does i s (fun x => x.time.pulses[c.val]? = some z
        ∧ x.out = (if z.level = y.level then d.out else d.out ++ [.pin (outPin c) z.level])
        ∧ x.dict = d.dict ∧ SameTraffic d x ∧ SameTables d x)
    (∀ e, Dev.pulseDue d c = some e →
      (y.active = false → drives (.pulseEdge c) {
        level := !inv, active := true, since := some (e % timeSpan),
        left := ((e + bits cfg 6 32 * 65536 : Nat) : Int) - (t : Int) })
      ∧ (y.active = true → drives (.pulseEdge c) { y with since := some (e % timeSpan) }))
    ∧ (Dev.pulseDue d c = none → exec (.pulseEdge c) s = .next s)
    ∧ (y.active = true → y.left ≤ 2 * 65536 → drives (.pulseTrailingEdge c) { y with level := on && inv, active := false })
    ∧ ((y.active = false ∨ 2 * 65536 < y.left) → exec (.pulseTrailingEdge c) s = .next s))
  ∧ (∀ (c : Fin 2) (d : Dev) (e : Nat), Dev.pulseDue d c = some e →
    let cfg := Dev.outCfg d c
    let b := Dev.base d (bits cfg 0 3)
    let t := (b.sec * 1000000000 + b.ns) * 65536 + b.frac / 65536
    let start := if c.val = 0 then Dev.el d K.out0Start else Dev.el d K.out1Start
    let period := if c.val = 0 then Dev.el d K.out0Period else Dev.el d K.out1Period
    bits cfg 3 2 ≠ 0 ∧ e ≤ t + 2 * 65536 ∧ t ≤ e + 2 * 65536 ∧ (∀ u, (Dev.pulse d c).since = some u →
      0 < (e + timeSpan - u) % timeSpan ∧ (e + timeSpan - u) % timeSpan < timeSpan / 2)
    ∧ (bits cfg 3 2 = 1 → e % (1000000000 * 65536) = 0)
    ∧ (bits cfg 3 2 ≠ 1 → ∃ k, e = (bits start 48 48 * 1000000000 + bits start 16 30) * 65536 + bits start 0 16 + k * (period * 65536)))
  ∧ (∀ (p : Fin 2) (n : Fin 16) (s : State), s.lit →
    let d := s.dev
    let q := Dev.txts d n
    (Dev.hostExists d p = false → ∀ ecc, exec (.txtsPop p n ecc) s = .next s)
    ∧ (Dev.hostExists d p = true → q.entries = [] → exec (.txtsPop p n false) s = .next { s with dev := { d with out := d.out ++ [.completion p (some 0)] } })
    ∧ (Dev.hostExists d p = true → ∀ w ts t, q.entries = (w, ts) :: t → Does (.txtsPop p n false) s (fun x => Dev.txts x n = { q with entries := t }
        ∧ (Dev.hp x p).txtsHold = BitVec.ofNat 64 ts ∧ x.out = d.out ++ [.completion p (some (w + 1))]
        ∧ x.dict = d.dict ∧ SameTraffic d x ∧ SameTables d x)))

/-- The wheel (R251) and the policer command (R257). -/
def Obligations.WheelsReleaseInSlotOrderAndPolicersAreSet : Prop :=
  (∀ (n : Fin 16) (s : State), s.lit →
    let d := s.dev
    let due (x : Nat × Nat) : Prop := 0 ≤ schedDiff (Dev.now d) (slotTime x.1)
    ((∀ x ∈ Dev.wheel d n, ¬ due x) → exec (.wheelRelease n) s = .next s)
    ∧ Does (.wheelRelease n) s (fun x => ∃ r : List (Nat × Nat), (r ++ Dev.wheel x n).Perm (Dev.wheel d n) ∧ r.length ≤ 4
        ∧ (∀ a ∈ r, due a) ∧ ((∃ b ∈ Dev.wheel x n, due b) → r.length = 4)
        ∧ (∀ a ∈ r, ∀ b ∈ Dev.wheel x n, due b → a.1 ≤ b.1)
        ∧ Dev.overflow x n = Dev.overflow d n ∧ x.pkts = d.pkts ∧ x.pipes = d.pipes ∧ x.buf = d.buf ∧ SameTables d x)
    ∧ Does (.wheelOverflowMove n) s (fun x =>
        Dev.wheel x n = Dev.wheel d n ++ (Dev.overflow d n).filter (fun y => decide (schedDiff (slotTime y.1) (Dev.now d) ≤ 524288 * 65536))
        ∧ Dev.overflow x n = (Dev.overflow d n).filter (fun y => decide (524288 * 65536 < schedDiff (slotTime y.1) (Dev.now d)))
        ∧ x.dict = d.dict ∧ x.queues = d.queues ∧ x.pkts = d.pkts ∧ SameTables d x))
  ∧ (∀ (src : Source) (i : Fin 65536) (seq : Fin 4294967296) (s : State), s.lit →
    let d := s.dev
    let p := Dev.policer d i
    let others (x : Dev) : Prop := (∀ j, j ≠ i.val → Dev.policer x j = Dev.policer d j) ∧ x.pkts = d.pkts ∧ x.queues = d.queues ∧ SameTables d x
    Dev.el d K.polSeq ≠ seq.val →
      (∀ cfg : BitVec 64, s.grants (.polSet src i cfg seq) →
        Does (.polSet src i cfg seq) s (fun x => others x ∧
          (if bits cfg.toNat 49 15 = 0 ∧ (bits cfg.toNat 0 25 = 0 ∨ (157 ≤ bits cfg.toNat 0 25 ∧ bits cfg.toNat 0 25 ≤ 25000000)) then
             Dev.policer x i = { p with cfg := cfg.toNat, e := Dev.now d } ∧ Dev.el x K.polStatus = 0
           else Dev.policer x i = p ∧ Dev.el x K.polStatus = 2)))
      ∧ (s.grants (.polRead src i seq) →
        Does (.polRead src i seq) s (fun x => Dev.policer x i = p ∧ Dev.el x K.polStatus = 0 ∧ Dev.el x K.polCfg = p.cfg
          ∧ Dev.el x K.polConformPkts = p.okPkts ∧ Dev.el x K.polConformBytes = p.okBytes ∧ Dev.el x K.polDropPkts = p.dropPkts
          ∧ Dev.el x K.polDropBytes = p.dropBytes ∧ others x))
      ∧ (s.grants (.polClearCounters src i seq) →
        Does (.polClearCounters src i seq) s (fun x => Dev.policer x i = { p with okPkts := 0, okBytes := 0, dropPkts := 0, dropBytes := 0 }
          ∧ Dev.el x K.polStatus = 0 ∧ others x)))

/-! Tallies, histograms, performance banks, the Gleaner, export streams. -/

/-- The flow tally (R304, R305). -/
def Obligations.TalliesSweepSnapshotAndClear : Prop :=
  ∀ (s : State), s.lit →
    let d := s.dev
    let idle := Dev.el d K.tallyIdleS * 1000
    let now := Dev.tb0Ns d / 1000000 % 2 ^ 40
    let old (t : Tally) : Prop := idle ≤ (now + 2 ^ 40 - t.seen) % 2 ^ 40
    let head (x : Dev) : Nat := Dev.el x K.telStoreHead
    -- n records more lap no stream so far that its counter of lost records wraps, which would write a notice (R311, R319)
    let quiet (n : Nat) : Prop := ∀ i, i < 8 → Dev.el d (K.streamLost i) + head d + n < 2 ^ 64
    (idle = 0 → exec .tallyIdleSweep s = .next s)
    ∧ (idle ≠ 0 → Dev.el d K.tallyIdleExports + d.tel.tally.length < 2 ^ 64 → Does .tallyIdleSweep s (fun x =>
        (∀ i t, SMap.find d.tel.tally i = some t → old t → SMap.find x.tel.tally i = none)
        ∧ (∀ i, (∀ y ∈ d.tel.tally, y.1 = i → ¬ old y.2) → SMap.find x.tel.tally i = SMap.find d.tel.tally i)
        ∧ (let n := (d.tel.tally.filter (fun y => decide (idle ≤ (now + 2 ^ 40 - y.2.seen) % 2 ^ 40))).length
           (quiet n → head x = head d + n) ∧ Dev.el x K.tallyIdleExports = (Dev.el d K.tallyIdleExports + n) % 2 ^ 64)
        ∧ SameTraffic d x ∧ SameTables d x))
    ∧ (∀ (src : Source) (k : Fin 256), s.grants (.tallySnapshot src k) →
        Does (.tallySnapshot src k) s (fun x => Dev.el x K.tallySnapshotStatus = 1 ∧ x.tel.tally = d.tel.tally
          ∧ x.tel.snap = (if k.val = 4 then [0, 1, 2, 3] else [k.val]) ∧ x.tel.snapCleared = false ∧ head x = head d
          ∧ SameTraffic d x ∧ SameTables d x))
    ∧ (Dev.el d K.tallySnapshotStatus ≠ 1 → exec .tallySnapshotDone s = .next s)
    ∧ (Dev.el d K.tallySnapshotStatus = 1 → Does .tallySnapshotDone s (fun x =>
        Dev.el x K.tallySnapshotStatus = (if d.tel.snapCleared then 2 else 0) ∧ x.tel.tally = d.tel.tally ∧ x.tel.snap = []
        ∧ (let n := (d.tel.snap.map (fun b => (d.tel.tally.filter (fun y => y.1 / 2 ^ 20 == b)).length)).sum
           quiet n → head x = head d + n)
        ∧ SameTraffic d x ∧ SameTables d x))
    ∧ (∀ (src : Source) (k : Fin 256), s.grants (.tallyClear src k) →
        let named (b : Nat) : Prop := if k.val = 4 then b < 4 else b = k.val
        Does (.tallyClear src k) s (fun x =>
          (∀ i, named (i / 2 ^ 20) → SMap.find x.tel.tally i = none)
          ∧ (∀ i, ¬ named (i / 2 ^ 20) → SMap.find x.tel.tally i = SMap.find d.tel.tally i)
          ∧ (∀ b, named b → b < 4 → Dev.el x (K.tallyUsed b) = 0)
          ∧ (Dev.el d K.tallySnapshotStatus = 1 → x.tel.snapCleared = true ∧ (∀ b, b ∈ x.tel.snap ↔ b ∈ d.tel.snap ∧ ¬ named b))
          ∧ (Dev.el d K.tallySnapshotStatus ≠ 1 → x.tel.snapCleared = d.tel.snapCleared ∧ x.tel.snap = d.tel.snap)
          ∧ head x = head d ∧ SameTraffic d x ∧ SameTables d x))

/-- Histograms, wrap bits, performance banks (R301, R320, R322). -/
def Obligations.CountersAreClearedOneByOne : Prop :=
  ∀ (src : Source) (s : State), s.lit →
    let d := s.dev
    let bin (x : Dev) (j : Nat) : Nat := SMap.get x.tel.hist j 0
    (∀ q : Fin 16384, s.grants (.histClear src q) →
      Does (.histClear src q) s (fun x => (∀ j, bin x j = if q.val * 64 ≤ j ∧ j < q.val * 64 + 64 then 0 else bin d j)
        ∧ Dev.el x (K.eqHistSince q) = Dev.tb0Elem d ∧ OnlyEls [K.eqHistSince q] d x ∧ SameTraffic d x ∧ SameTables d x))
    ∧ (∀ p : Fin 65536, s.grants (.histClearPort src p) →
      Does (.histClearPort src p) s (fun x =>
        (∀ j, bin x j = if 2 ^ 20 + p.val * 32 ≤ j ∧ j < 2 ^ 20 + p.val * 32 + 32 then 0 else bin d j)
        ∧ OnlyEls [] d x ∧ SameTraffic d x ∧ SameTables d x))
    ∧ (s.grants (.wrapClear src) →
      Does (.wrapClear src) s (fun x =>
        (∀ j, SMap.get x.tel.wraps j false = if j = Dev.el d K.telWrapSelect ∧ j < 2 ^ 24 then false else SMap.get d.tel.wraps j false)
        ∧ x.tel.hist = d.tel.hist ∧ OnlyEls [] d x ∧ SameTraffic d x ∧ SameTables d x))
    ∧ (∀ (b : Fin 64) (enable : Bool) (v : BitVec 64), s.grants (.perfConfigWrite src b enable v) →
      let sel (x : Dev) (k : Nat) : Nat := bits (Dev.el x (K.perfSel b)) (8 * k) 8
      let en (x : Dev) (k : Nat) : Bool := bit (Dev.el x (K.perfEnable b)) k
      Does (.perfConfigWrite src b enable v) s (fun x =>
        (enable = false → Dev.el x (K.perfSel b) = v.toNat ∧ Dev.el x (K.perfEnable b) = Dev.el d (K.perfEnable b))
        ∧ (enable = true → Dev.el x (K.perfEnable b) = v.toNat % 256 ∧ Dev.el x (K.perfSel b) = Dev.el d (K.perfSel b))
        ∧ (∀ k, k < 8 →
            if sel x k ≠ sel d k ∨ en x k ≠ en d k then
              Dev.el x (K.perfCtr b k) = 0 ∧ bit (Dev.el x (K.perfWrap b)) k = false
            else Dev.el x (K.perfCtr b k) = Dev.el d (K.perfCtr b k)
              ∧ bit (Dev.el x (K.perfWrap b)) k = bit (Dev.el d (K.perfWrap b)) k)
        ∧ SameTraffic d x ∧ SameTables d x))

/-- Gleaner and export streams (R311 to R314, R323, R324). -/
def Obligations.GleanerSweepsAndStreamsExport : Prop :=
  ∀ (i : Fin 8) (s : State), s.lit →
    let d := s.dev
    let g := Dev.gather d i (Dev.streamN d i) 0 0
    (Dev.el d K.gleanPeriodUs = 0 → exec .gleanerSweep s = .next s)
    ∧ (Dev.el d K.gleanPeriodUs ≠ 0 → Dev.gleanReady d = true → Does .gleanerSweep s (fun x =>
        (∃ bs : List Byte, x.dma.snap = some (d.tel.gleanSeq, bs) ∧ bs.length = 3968 ∧ bs.take 6 = [0x47, 0x4C, 0x4E, 0x53, 1, 61])
        ∧ x.tel.gleanSeq = d.tel.gleanSeq + 1 ∧ x.tel.gleanMissed = 0 ∧ Dev.el x K.gleanLastSpanNs = 38400
        ∧ SameTraffic d x ∧ SameTables d x))
    ∧ (Dev.el d K.gleanPeriodUs ≠ 0 → Dev.gleanReady d = false → Does .gleanerSweep s (fun x =>
        x.dma = d.dma ∧ x.tel.gleanMissed = d.tel.gleanMissed + 1 ∧ x.tel.gleanSeq = d.tel.gleanSeq
        ∧ Dev.el x K.gleanMissed = (Dev.el d K.gleanMissed + 1) % 2 ^ 64 ∧ SameTraffic d x ∧ SameTables d x))
    ∧ (Dev.streamKind d i ≠ 2 → exec (.streamExport i) s = .next s)
    ∧ (Dev.streamKind d i = 2 → 0 < Dev.streamN d i → g.recs = [] → Does (.streamExport i) s (fun x =>
        Dev.el d K.telStoreHead ≤ Dev.el x (K.streamRead i) ∧ (Dev.stream x i).sent = (Dev.stream d i).sent
        ∧ SameTraffic d x ∧ SameTables d x))
    ∧ (Dev.streamKind d i = 2 → g.recs ≠ [] → Dev.streamCan d i = false →
        exec (.streamExport i) s = .next { s with dev := Dev.setEl d (K.streamState i) 2 })
    ∧ (Dev.streamKind d i = 2 → g.recs ≠ [] → Dev.streamCan d i = true → Dev.el d (K.streamRecords i) < 2 ^ 64 →
        let q := Dev.el d (K.colPort (Dev.streamCol d i)) * 16 + Dev.el d (K.colQueue (Dev.streamCol d i))
        (Dev.admitOwn s.epoch (Dev.useFree d) q (Dev.exportFrame d i g.recs)).2 = true →
        Does (.streamExport i) s (fun x => (Dev.stream x i).sent = (Dev.stream d i).sent + 1 ∧ Dev.el x (K.streamState i) = 1
          ∧ Dev.el x (K.streamRecords i) = (Dev.el d (K.streamRecords i) + (g.recs.filter (fun r => r % 16 != 4)).length) % 2 ^ 64
          ∧ g.upto ≤ Dev.el x (K.streamRead i) ∧ SameTables d x))

/-! Host ports. -/

/-- R342's promise; an error event still sets its cause bit in both ports (R336, R345). -/
def Obligations.HostEventsLeaveForwardingAlone : Prop :=
  ∀ (p : Fin 2) (i : Instr) (s : State), s.lit →
    (i = .hlHeartbeat p ∨ i = .heartbeatTimeout p ∨ (∃ c, i = .hostLoss p c) ∨ (∃ r, i = .hostPortReset p r) ∨ (∃ c, i = .hostReturn p c)
      ∨ (∃ o z v, i = .doorbell p o z v) ∨ (∃ m, i = .evtCauseClear p m) ∨ (∃ r, i = .bar0BadAccess p r)
      ∨ (∃ t g n, i = .atsInvalidate p t g n) ∨ (∃ q c, i = .priResponse p q c) ∨ (∃ e, i = .pcieError p e)) →
      Does i s (fun x =>
        let h := Dev.hp s.dev (1 - p.val)
        let k := Dev.hp x (1 - p.val)
        SameTraffic s.dev x ∧ x.prog = s.dev.prog ∧ x.tbl = { s.dev.tbl with waiting := x.tbl.waiting } ∧ x.time = s.dev.time
        ∧ Dev.el x K.epochStageState = Dev.el s.dev K.epochStageState ∧ Dev.el x K.epochStageEntries = Dev.el s.dev K.epochStageEntries
        ∧ (∀ q, q < 1024 → Dev.el x (K.portState q) = Dev.el s.dev (K.portState q))
        ∧ k = { h with evtCause := k.evtCause, msixPending := k.msixPending, invals := k.invals, ctxWait := k.ctxWait }
        ∧ Dev.el x (K.hostState (1 - p.val)) = Dev.el s.dev (K.hostState (1 - p.val)))

/-- host.state (R343 to R346). -/
def Obligations.HostPortsFollowTheirConditions : Prop :=
  ∀ (p : Fin 2) (s : State), s.lit →
    let d := s.dev
    let st (x : Dev) : Nat := Dev.el x (K.hostState p)
    let follows (x : Dev) : Prop := st x = HostPort.stateOf (Dev.hp x p)
    let left (r : Nat) (x : Dev) : Prop := st x ≠ 1 ∧ Dev.el x (K.hostLostReason p) = r
      ∧ Dev.el x (K.hostLosses p) = (Dev.el d (K.hostLosses p) + 1) % 2 ^ 32
      ∧ (∀ q, q < 2048 → (Dev.dq d q).ctx ≠ 0 → Dev.dqHp d q = p.val → (Dev.dqSt d q = 1 ∨ Dev.dqSt d q = 2) → Dev.dqSt x q = 3)
      ∧ (Dev.hp x p).xlat = [] ∧ (Dev.hp x p).invals = [] ∧ (∀ y ∈ x.dict.sessions, y.src ≠ .host p)
      ∧ (Dev.x8 d = false → (Dev.hp x (1 - p.val)).evtCause.getLsbD 4 = true)
    let why (c : HostLossCause) : Nat := match c with | .link => 1 | .perst => 2 | .hotReset => 3 | .flr => 4 | .bme => 5 | .d3hot => 6
    let resets (r : HostReset) : Nat := match r with | .perst => 2 | .hotReset => 3 | .flr => 4
    (Dev.hostExists d p = false → ∀ c r g, exec (.hlHeartbeat p) s = .next s ∧ exec (.heartbeatTimeout p) s = .next s
        ∧ exec (.hostLoss p c) s = .next s ∧ exec (.hostPortReset p r) s = .next s ∧ exec (.hostReturn p g) s = .next s)
    ∧ (Dev.hostExists d p = true →
      Does (.hlHeartbeat p) s (fun x => follows x ∧ (Dev.hp x p).hbExpired = false ∧ (Dev.hp x p).hbAt = d.ticks)
      ∧ ((Dev.el d (K.hostHbTimeoutMs p) = 0 ∨ st d ≠ 1) → exec (.heartbeatTimeout p) s = .next s)
      ∧ (Dev.el d (K.hostHbTimeoutMs p) ≠ 0 → st d = 1 → Does (.heartbeatTimeout p) s (fun x => follows x ∧ left 7 x))
      ∧ (∀ c, Does (.hostLoss p c) s (fun x => follows x ∧ (st d = 1 → left (why c) x)))
      ∧ (∀ r, Does (.hostPortReset p r) s (fun x => follows x ∧ (st d = 1 → left (resets r) x)
          ∧ (Dev.hp x p).evtMask = BitVec.allOnes 64 ∧ (Dev.hp x p).evtCause = 0 ∧ (Dev.hp x p).msix = []
          ∧ (Dev.hp x p).vecQueue = (Dev.hp d p).vecQueue))
      ∧ (∀ g : HostCfg, g.width.val = 8 → Dev.x8 d = false → exec (.hostReturn p g) s = .next s)
      ∧ (∀ g : HostCfg, (g.width.val ≠ 8 ∨ Dev.x8 d = true) → Does (.hostReturn p g) s (fun x => follows x ∧ (Dev.hp x p).dlActive = true ∧ (Dev.hp x p).bme = g.bme
          ∧ (Dev.hp x p).d0 = g.d0 ∧ (Dev.hp x p).mps = g.mps ∧ (Dev.hp x p).mrrs = g.mrrs
          ∧ Dev.el x (K.hostLinkRate p) = g.rate.val ∧ Dev.el x (K.hostLinkWidth p) = g.width.val
          ∧ (g.bme = true → g.d0 = true → st x = 1)
          ∧ (st d ≠ 1 → (g.pri = true ∨ ∀ q, (Dev.dq d q).pri = true → Dev.dqHp d q ≠ p) →
              x.dma = d.dma ∧ ∀ q, q < 2048 → Dev.dqSt x q = Dev.dqSt d q))))

/-- BAR0, BAR2, vectors, ATS, PRI, AER (R334 to R341). -/
def Obligations.HostAccessesRingBindAndInvalidate : Prop :=
  ∀ (p : Fin 2) (s : State), s.lit → Dev.hostExists s.dev p = true →
    let d := s.dev
    let h := Dev.hp d p
    (∀ m : Nat, exec (.evtCauseClear p m) s
        = .next { s with dev := Dev.setHp d p { h with evtCause := h.evtCause &&& ~~~(BitVec.ofNat 64 m) } })
    ∧ (∀ r : Bool, Dev.el d (K.hostBarBad p) + 1 < 2 ^ 64 → Does (.bar0BadAccess p r) s (fun x =>
        Dev.el x (K.hostBarBad p) = Dev.el d (K.hostBarBad p) + 1 ∧ OnlyEls [K.hostBarBad p] d x
        ∧ x.out = if r then d.out ++ [.completion p none] else d.out))
    ∧ (∀ off size v : Nat,
        let q := off / 4096
        let c := Dev.el d (K.dqSqCons q)
        let rings : Prop := size = 4 ∧ off % 4096 = 0 ∧ q < 2048 ∧ Dev.dqHp d q = p.val ∧ Dev.dqSt d q ∉ [0, 4, 5]
        (¬ rings → Does (.doorbell p off size v) s (fun x => Dev.el x (K.hostBar2Discards p) = (Dev.el d (K.hostBar2Discards p) + 1) % 2 ^ 64
            ∧ x.dma = d.dma ∧ OnlyEls [K.hostBar2Discards p] d x))
        ∧ (rings → v < 65536 → idxSub v c ≤ 2 ^ ctxSqLog (Dev.dq d q).ctx → idxSub (Dev.el d (K.dqSqProd q)) c ≤ idxSub v c →
            exec (.doorbell p off size v) s = .next { s with dev := Dev.setEl d (K.dqSqProd q) v })
        ∧ (rings → Dev.dqSt d q ≤ 3 → v < 2 ^ 32 → ∀ r : Nat, r = (if 65536 ≤ v then 3 else if 2 ^ ctxSqLog (Dev.dq d q).ctx < idxSub v c then 1
              else if idxSub v c < idxSub (Dev.el d (K.dqSqProd q)) c then 2 else 0) → r ≠ 0 →
            Does (.doorbell p off size v) s (fun x => Dev.dqSt x q = 4 ∧ Dev.el x (K.dqErrReason q) = r
              ∧ Dev.el x (K.dqErrIndex q) = v % 65536 ∧ Dev.el x (K.dqSqProd q) = Dev.el d (K.dqSqProd q))))
    ∧ (∀ (src : Source) (port : Fin 256) (q v : Fin 65536) (seq : Fin 4294967296), port.val = p.val → Dev.el d K.vecSeq ≠ seq.val →
        let vs (x : Dev) := (Dev.hp x p).vecQueue
        let bound (x : Dev) (k : Nat) : Prop := SMap.find (vs x) k = some q.val ∧ Dev.el x K.vecVector = k ∧ Dev.el x K.vecStatus = 0
          ∧ ∀ j, j ≠ k → SMap.find (vs x) j = SMap.find (vs d) j
        let ends (x : Dev) (st : Nat) : Prop := Dev.el x K.vecStatus = st ∧ vs x = vs d
        let free (k : Nat) : Prop := 32 ≤ k ∧ k ≤ 2047 ∧ SMap.find (vs d) k = none
        (s.grants (.vecBind src port q v seq) →
          let i : Instr := .vecBind src port q v seq
          ((v.val < 32 ∨ (2047 < v.val ∧ v.val ≠ 65535) ∨ Dev.dqHp d q ≠ p.val) → Does i s (fun x => ends x 2))
          ∧ ((v.val = 65535 ∨ (32 ≤ v.val ∧ v.val ≤ 2047)) → Dev.dqHp d q = p.val →
              let one : Prop := Dev.vecOf d 0 q = none ∧ Dev.vecOf d 1 q = none
              (¬ one → Does i s (fun x => ends x 4))
              ∧ (one → v.val ≠ 65535 → ¬ free v → Does i s (fun x => ends x 4))
              ∧ (one → v.val ≠ 65535 → free v → Does i s (fun x => bound x v))
              ∧ (one → v.val = 65535 → (∀ k, ¬ free k) → Does i s (fun x => ends x 3))
              ∧ (∀ k, one → v.val = 65535 → free k → (∀ j, j < k → ¬ free j) → Does i s (fun x => bound x k))))
        ∧ (s.grants (.vecUnbind src port q seq) →
          (∀ k, Dev.vecOf d p q = some k → Does (.vecUnbind src port q seq) s (fun x => Dev.el x K.vecVector = k
              ∧ Dev.el x K.vecStatus = 0 ∧ Dev.vecOf x p q = none ∧ vs x = (vs d).filter (fun y => y.2 != q.val)))
          ∧ (Dev.vecOf d p q = none → Does (.vecUnbind src port q seq) s (fun x => ends x 2)))
        ∧ (s.grants (.vecRead src port q seq) →
          Does (.vecRead src port q seq) s (fun x => ends x 0 ∧ Dev.el x K.vecVector = (Dev.vecOf d p q).getD 65535)))
    ∧ (∀ tag page n : Nat,
        ((32 ≤ h.invals.length ∨ Dev.hostUp d p = false) → exec (.atsInvalidate p tag page n) s = .next s)
        ∧ (h.invals.length < 32 → Dev.hostUp d p = true → Does (.atsInvalidate p tag page n) s (fun x =>
            (Dev.hp x p).xlat = h.xlat.filter (fun y => decide (y.1 < page ∨ page + n ≤ y.1)) ∧ x.dma = d.dma
            ∧ ((Dev.hp x p).invals = h.invals ++ [tag] ∨ ((Dev.hp x p).invals = [] ∧ .invalDone p tag ∈ x.out)))))
    ∧ (∀ q : Fin 2048, h.priOn = true → 0 < h.priOut →
        (Dev.dqHp d q = p.val → (Dev.dq d q).pri = true → Dev.dqSt d q = 2 → (∀ y ∈ h.priWait, y.1 ≠ q.val) →
          Does (.priResponse p q .success) s (fun x => Dev.dqSt x q = 1 ∧ (Dev.dq x q).pri = false)
          ∧ Does (.priResponse p q .invalid) s (fun x => Dev.dqSt x q ≠ 2))
        ∧ Does (.priResponse p q .failure) s (fun x => (Dev.hp x p).priStopped = true ∧ (Dev.hp x p).priWait = []
            ∧ ∀ m, (Dev.dq d m).pri = true → Dev.dqHp d m = p.val → Dev.dqSt d m = 2 → Dev.dqSt x m ≠ 2))
    ∧ (∀ (q : Fin 2048) (c : PriCode), (h.priOn = false ∨ h.priOut = 0) → exec (.priResponse p q c) s = .next s)
    ∧ (∀ k : Fin 5, Does (.pcieError p (.correctable k)) s (fun x =>
        Dev.el x (K.hostAerCorrectable p) = (Dev.el d (K.hostAerCorrectable p) + 1) % 2 ^ 64 ∧ x.dma = d.dma))
    ∧ (∀ e : PcieErr, (∀ k, e ≠ .correctable k) → (h.ecrcCheck = true ∨ ∀ q, e ≠ .ecrc q) → Does (.pcieError p e) s (fun x =>
        Dev.el x (K.hostAerUncorrectable p) = (Dev.el d (K.hostAerUncorrectable p) + 1) % 2 ^ 64
        ∧ (((∃ k, e = .fatal k false) ∨ e = .surpriseDown) → (Dev.hp x p).dlActive = false)))
    ∧ (∀ q, h.ecrcCheck = false → exec (.pcieError p (.ecrc q)) s = .next s)

/-! DMA queues. -/

/-- dq.ctl (R374, R375). -/
def Obligations.QueueOperationsFollowTheirTable : Prop :=
  ∀ (q : Fin 2048) (s : State), s.lit →
    let d := s.dev
    let st (x : Dev) : Nat := Dev.dqSt x q
    let status (x : Dev) : Nat := Dev.el x (K.dqCtlStatus q)
    let idx (x : Dev) : List Nat := [Dev.el x (K.dqSqProd q), Dev.el x (K.dqSqCons q), Dev.el x (K.dqCqTail q), Dev.el x (K.dqCqHead q)]
    let latch (x : Dev) : List Nat := [Dev.el x (K.dqErrReason q), Dev.el x (K.dqErrIndex q), Dev.el x (K.dqErrTime q)]
    let others (x : Dev) : Prop := (∀ r, r ≠ q.val → Dev.dq x r = Dev.dq d r ∧ (r < 2048 → Dev.dqSt x r = Dev.dqSt d r)) ∧ SameTraffic d x
    let home := Dev.dqHp d q
    let allowed (op c : Nat) : Prop :=
      ((op = 1 ∨ op = 2) ∧ st d = 0) ∨ (op = 3 ∧ 1 ≤ st d ∧ st d ≤ 3) ∨ (op = 4 ∧ 1 ≤ st d ∧ st d ≤ 5)
        ∨ (op = 5 ∧ st d = 3 ∧ Dev.hostUp d home = true)
        ∨ ((op = 6 ∨ op = 7) ∧ 1 ≤ st d ∧ st d ≤ 4 ∧ ¬ (Dev.hostUp d home = true ∧ c = 1 - home))
    (∀ (op : Nat) (src : Source) (i : Instr), dqInstr op src q = some i → s.grants i →
      (¬ allowed op (Source.cls src) → Does i s (fun x => status x = 3 ∧ st x = st d ∧ x.dma = d.dma ∧ SameTraffic d x))
      ∧ (allowed op (Source.cls src) →
        (op = 3 → Does i s (fun x => st x = 5 ∧ status x = 1 ∧ (Dev.dq x q).cmd = none ∧ others x
            ∧ (st d = 3 → (Dev.dq x q).item = none) ∧ (st d ≠ 3 → (Dev.dq x q).item = (Dev.dq d q).item)))
        ∧ (op = 4 → Does i s (fun x => st x = 5 ∧ status x = 1 ∧ (Dev.dq x q).item = none ∧ (Dev.dq x q).pre = []
            ∧ (∀ y ∈ x.dma.staging, y.dq ≠ q.val) ∧ others x))
        ∧ ((op = 2 ∨ op = 7) → Dev.x8 d = true → Does i s (fun x => status x = 2 ∧ st x = st d ∧ x.dma = d.dma))
        ∧ (op ≠ 3 → op ≠ 4 → ((op ≠ 2 ∧ op ≠ 7) ∨ Dev.x8 d = false) →
            let p := if op = 5 then home else if op = 1 ∨ op = 6 then 0 else 1
            Does i s (fun x => status x = 1 ∧ st x = st d ∧ Dev.dq x q = { Dev.dq d q with cmd := some (op, p) }
              ∧ (Dev.tagsUsed d p < 768 → x.out = (Dev.hostReads d p (Dev.ctxBase d p + q.val * 64) 64).out ++ [.reply src 0 []])
              ∧ (768 ≤ Dev.tagsUsed d p → x.out = d.out ++ [.reply src 0 []] ∧ q.val ∈ (Dev.hp x p).ctxWait) ∧ others x))))
    ∧ (∀ (op p : Nat) (r : ReadEnd) (f : Option TblFault), (Dev.dq d q).cmd = some (op, p) → q.val ∈ (Dev.hp d p).ctxWait → p < 2 →
        Does (.dmaReadCompletion q true r f) s (fun x => ∀ k, Dev.dq x k = Dev.dq d k)
        ∧ Does (.dmaCplTimeout q true) s (fun x => ∀ k, Dev.dq x k = Dev.dq d k))
    ∧ (∀ (op p : Nat) (bs : List Byte) (f : Option TblFault), (Dev.dq d q).cmd = some (op, p) → q.val ∉ (Dev.hp d p).ctxWait → p < 2 →
      let i : Instr := .dmaReadCompletion q true (.ok bs) f
      let c := leNat (bs.take 64)
      (Dev.ctxBad d q p c = true → Does i s (fun x => status x = 2 ∧ st x = st d ∧ (Dev.dq x q).cmd = none ∧ others x))
      ∧ (Dev.ctxBad d q p c = false →
        ((op = 1 ∨ op = 2) → st d = 0 → Does i s (fun x => status x = 0 ∧ st x = 1 ∧ Dev.dqHp x q = p ∧ idx x = [0, 0, 0, 0]
            ∧ Dev.dq x q = { Dq.init with ctx := c } ∧ others x))
        ∧ (op = 5 → st d = 3 → c = (Dev.dq d q).ctx → Does i s (fun x => status x = 0 ∧ st x = 1 ∧ idx x = idx d
            ∧ (Dev.dq x q).item = (Dev.dq d q).item ∧ (Dev.dq x q).cmd = none ∧ others x))
        ∧ (op = 5 → st d = 3 → c ≠ (Dev.dq d q).ctx → Does i s (fun x => status x ≠ 1 ∧ st x = 4 ∧ Dev.el x (K.dqErrReason q) = 9
            ∧ idx x = idx d ∧ others x))
        ∧ ((op = 6 ∨ op = 7) → 1 ≤ st d → st d ≤ 4 → Does i s (fun x => status x = 0 ∧ st x = 1 ∧ Dev.dqHp x q = p
            ∧ idx x = [0, 0, 0, 0] ∧ latch x = latch d ∧ (Dev.dq x q).item = none
            ∧ (home < 2 → Dev.vecOf x home q = none) ∧ others x))))
    ∧ (∀ (op p : Nat) (r : ReadEnd) (f : Option TblFault), (Dev.dq d q).cmd = some (op, p) → q.val ∉ (Dev.hp d p).ctxWait →
        (r = .poisoned ∨ r = .urCa) →
        let errs (why : Nat) (x : Dev) : Prop := status x = 2 ∧ (Dev.dq x q).cmd = none ∧ others x
          ∧ (1 ≤ st d → st d ≤ 3 → st x = 4 ∧ Dev.el x (K.dqErrReason q) = why ∧ idx x = idx d)
          ∧ ((st d = 0 ∨ st d = 4) → st x = st d ∧ latch x = latch d)
        Does (.dmaReadCompletion q true r f) s (errs 12) ∧ Does (.dmaCplTimeout q true) s (errs 10))
    ∧ (st d = 5 → (Dev.dq d q).item = none → Does (.dqStopDone q) s (fun x => st x = 0 ∧ status x = 0 ∧ (Dev.dq x q).pre = [] ∧ others x))
    ∧ ((st d ≠ 5 ∨ (Dev.dq d q).item ≠ none) → exec (.dqStopDone q) s = .next s)

/-- Items (R359 to R372). -/
def Obligations.TheEngineMovesItemsInSlices : Prop :=
  ∀ (s : State), s.lit →
    let d := s.dev
    let requests (q a n : Nat) : Nat := (splitReq (Dev.hp d (Dev.dqHp d q)).mrrs n a n).length
    (∀ xl, (∀ y ∈ d.dma.qs, Dev.dqWork d y.1 = false) → exec (.dmaSlice xl []) s = .next s)
    ∧ (∀ xl r, Dev.dqWork d r = true → (Dev.dq d r).ctx ≠ 0 → ∃ q, Dev.dqWork d q = true
        ∧ (∀ k, Dev.dqWork d k = true → (Dev.dq d k).ctx ≠ 0 → ctxPrio (Dev.dq d k).ctx ≤ ctxPrio (Dev.dq d q).ctx)
        ∧ Does (.dmaSlice xl []) s (fun x => (∀ k, k ≠ q → Dev.dq x k = Dev.dq d k) ∧ (∀ k, k < 2048 → k ≠ q → Dev.dqSt x k = Dev.dqSt d k)
            ∧ SameTraffic d x))
    ∧ (∀ (q : Nat) (it : DqItem) (xl : Option Nat), q < 2048 → Dev.dqPick d = some q → d.dma.cache.contains q = true → (Dev.dq d q).item = some it →
        Dev.dqHp d q < 2 → (Dev.hp d (Dev.dqHp d q)).atsOn = false →
        let y := Dev.dq d q
        (it.stage = .read →
          let e := (it.descs[it.seg]?).getD 0
          let a := descAddr e + it.off
          let n := min (descLen (ctxKind y.ctx) e - it.off) (4096 - a % 4096)
          let tags := requests q a n
          (Dev.tagsUsed d (Dev.dqHp d q) + tags ≤ 768 →
            Does (.dmaSlice xl []) s (fun x => Dev.dq x q = { y with rd := some (.data n), tags := tags }))
          ∧ (768 < Dev.tagsUsed d (Dev.dqHp d q) + tags → Does (.dmaSlice xl []) s (fun x => Dev.dq x q = y)))
        ∧ (it.stage = .entry → it.err = 0 → Dev.cqFree d q ≠ 0 →
          let t := Dev.el d (K.dqCqTail q)
          Does (.dmaSlice xl []) s (fun x => Dev.el x (K.dqCqTail q) = (t + 1) % 65536
            ∧ Dev.el x (K.dqSqCons q) = (it.first + it.descs.length) % 65536 ∧ (Dev.dq x q).item = none ∧ Dev.dqSt x q = Dev.dqSt d q
            ∧ (16 ≤ (Dev.hp d (Dev.dqHp d q)).mps → ctxCqBase y.ctx % 4096 = 0 →
                .hostWrite (Dev.dqHp d q) (ctxCqBase y.ctx + t % 2 ^ ctxCqLog y.ctx * 16) (leBytes 16 (DqItem.entry it y.ctx t)) false ∈ x.out))))
    ∧ (∀ (q : Fin 2048) (bs : List Byte) (f : Option TblFault),
        let y := Dev.dq d q
        let st := Dev.dqSt d q
        let i : Instr := .dmaReadCompletion q false (.ok bs) f
        let t := Dev.el d (K.dqCqTail q)
        (st = 1 ∨ st = 2 ∨ st = 5 →
          (∀ n, y.rd = some (.descs n) → Does i s (fun x => Dev.dq x q
              = { y with rd := none, pre := y.pre ++ (List.range n).map (fun k => leNat (slice bs (k * 32) 32)) }))
          ∧ (∀ n it, y.rd = some (.data n) → y.item = some it → ctxKind y.ctx ≠ 2 → Does i s (fun x => ∃ z, (Dev.dq x q).item = some z
              ∧ (Dev.dq x q).rd = none ∧ z.data = it.data ++ bs.take n ∧ z.done = it.done + n ∧ z.descs = it.descs ∧ z.first = it.first))
          ∧ (y.rd = some .head → st ≠ 5 → let w := leNat (bs.take 4)
              if w < 65536 ∧ idxSub t w ≤ 2 ^ ctxCqLog y.ctx ∧ idxSub t w ≤ idxSub t (Dev.el d (K.dqCqHead q)) then
                Does i s (fun x => Dev.el x (K.dqCqHead q) = w ∧ Dev.dq x q = { y with rd := none, stalled := decide (idxSub t w = 2 ^ ctxCqLog y.ctx) }
                  ∧ Dev.dqSt x q = st)
              else Does i s (fun x => Dev.dqSt x q = 4 ∧ Dev.el x (K.dqErrReason q) = 14 ∧ Dev.el x (K.dqErrIndex q) = t % 65536))
          ∧ (y.rd = some .ctx → st ≠ 5 →
              (leNat (bs.take 64) = y.ctx → Does i s (fun x => Dev.dq x q = { y with rd := none } ∧ q.val ∈ x.dma.cache ∧ Dev.dqSt x q = st))
              ∧ (leNat (bs.take 64) ≠ y.ctx → Does i s (fun x => Dev.dqSt x q = 4 ∧ Dev.el x (K.dqErrReason q) = 9))))
        ∧ (st = 0 ∨ st = 3 ∨ st = 4 → ∀ r, Does (.dmaReadCompletion q false r f) s (fun x => x.dma = d.dma ∧ Dev.dqSt x q = st))
        ∧ (∀ (j : Instr) (why : Nat),
            ((j = .dmaReadCompletion q false .poisoned f ∨ j = .dmaReadCompletion q false .urCa f) ∧ why = 12
              ∨ j = .dmaCplTimeout q false ∧ why = 10) →
            (∀ n it, (st = 1 ∨ st = 2) → y.rd = some (.data n) → y.item = some it → it.stage = .read → Does j s (fun x =>
              Dev.dqSt x q = 1 ∧ ∃ v, Dev.dq x q = { y with rd := none, pri := false, item := some { it with
                stage := .entry, status := 2, err := why, info := v } }
                ∧ (ctxKind y.ctx = 1 → v = putBits it.info 15 15 (it.done - 32)) ∧ (ctxKind y.ctx ≠ 1 → ctxKind y.ctx ≠ 2 → v = it.info)
                ∧ (ctxKind y.ctx = 2 → 16 ≤ it.data.length → v / 2 ^ 32 = bits (leNat (it.data.take 16)) 32 32)))
            ∧ ((st = 1 ∨ st = 2) → (y.rd = some .head ∨ y.rd = some .ctx ∨ ∃ n, y.rd = some (.descs n)) →
              Does j s (fun x => Dev.dqSt x q = 4 ∧ Dev.el x (K.dqErrReason q) = why))
            ∧ (st = 5 → y.rd ≠ none → Does j s (fun x => Dev.dqSt x q = 5 ∧ (Dev.dq x q).item = none
                ∧ Dev.el x (K.dqErrReason q) = why))))
    ∧ (∀ (q : Fin 2048) (xl : Option Nat),
        let y := Dev.dq d q
        ((y.stalled = false ∨ y.rd ≠ none) → exec (.cqHeadPoll q xl) s = .next s)
        ∧ (y.stalled = true → y.rd = none → y.pri = false → (Dev.dqSt d q = 1 ∨ Dev.dqSt d q = 5) → Dev.hostUp d (Dev.dqHp d q) = true →
            let own := d.dma.cache.contains q.val
            let tags := if own then requests q (ctxHeadAddr y.ctx) 4 else requests q (Dev.ctxBase d (Dev.dqHp d q) + q.val * 64) 64
            ((own = true → (Dev.hp d (Dev.dqHp d q)).atsOn = false) → Dev.tagsUsed d (Dev.dqHp d q) + tags ≤ 768 →
              Does (.cqHeadPoll q xl) s (fun x => Dev.dq x q = { y with rd := some (if own then .head else .ctx), tags := tags }))
            ∧ (own = false → Does (.cqHeadPoll q xl) s (fun x =>
                Dev.el x K.dmaCtxMisses = (Dev.el d K.dmaCtxMisses + 1) % 2 ^ 64)))
        ∧ (ctxCoalUs y.ctx = 0 → exec (.coalTimer q) s = .next s)
        ∧ (let v := ctxVector y.ctx
           ctxCoalUs y.ctx ≠ 0 → (Dev.dqSt d q = 1 ∨ Dev.dqSt d q = 2) → Dev.hostUp d (Dev.dqHp d q) = true → y.unsig ≠ 0 → v ≠ 65535 →
            SMap.find (Dev.hp d (Dev.dqHp d q)).vecQueue v = some q.val →
            Does (.coalTimer q) s (fun x => Dev.dq x q = { y with unsig := 0 }))
        ∧ (∀ it, y.item = some it → ctxKind y.ctx = 3 → it.stage = .write → 0 < it.done → y.pri = true → exec (.drainBufferTimer q) s = .next s)
        ∧ (∀ it, y.item = some it → ctxKind y.ctx = 3 → it.stage = .write → 0 < it.done → y.pri = false →
            exec (.drainBufferTimer q) s = .next { s with dev := Dev.setDq d q { y with item := some { it with stage := .entry } } })
        ∧ ((y.item = none ∨ ctxKind y.ctx ≠ 3) → exec (.drainBufferTimer q) s = .next s)
        ∧ ((y.item = none ∨ ctxKind y.ctx ≠ 0 ∨ (Dev.dqSt d q ≠ 1 ∧ Dev.dqSt d q ≠ 5)) → exec (.injectDeliver q) s = .next s)
        ∧ (∀ it, y.item = some it → ctxKind y.ctx = 0 → it.stage = .wait → (Dev.dqSt d q = 1 ∨ Dev.dqSt d q = 5) →
            let e := it.descs.headD 0
            let n := bits e 96 4
            let w := it.data ++ zeros (60 - it.data.length)
            Dev.injectBytes d n + (Pkt.data (Dev.injectPkt d e it.data)).length ≤ 65536 →
            Does (.injectDeliver q) s (fun x => Dev.dq x q = { y with item := some { it with stage := .entry } }
              ∧ Dev.pipe x n = { Dev.pipe d n with inject := (Dev.pipe d n).inject ++ [d.nextPkt] } ∧ x.nextPkt = d.nextPkt + 1
              ∧ (∃ pk, SMap.find x.pkts d.nextPkt = some pk ∧ pk.frame = w ++ leBytes 4 (fcs32 w) ∧ pk.inPort = 1040 ∧ pk.whole = true)
              ∧ (∀ k, k ≠ d.nextPkt → SMap.find x.pkts k = SMap.find d.pkts k) ∧ x.queues = d.queues ∧ SameTables d x)))

/-! The object dictionary: reads, sessions, mailbox, window, store. -/

/-- Reads (R384, R390, R392). -/
def Obligations.ReadsAnswerValuesAndNothingElse : Prop :=
  ∀ (s : State), s.lit → s.dev.rst.warmDue = false →
    let d := s.dev
    let answers (i : Instr) (src : Source) (st : Nat) (v : List Byte) : Prop := exec i s = .next { s with dev := Dev.reply d src st v }
    (∀ (src : Source) (o : Fin 65536) (e : Fin 256) (off : Fin 4294967296), Dev.present d src = false →
      exec (.read (.el src o e)) s = .next s ∧ exec (.readInForce src o e) s = .next s ∧ exec (.readPart src o e off) s = .next s
        ∧ exec (.describe src o e) s = .next s ∧ exec (.nextObject src o) s = .next s)
    ∧ (d.fw.running = true → ∀ (src : Source) (o : Fin 65536) (e : Fin 256) (off : Fin 4294967296), Dev.present d src = true →
      let k := key o e
      (Dict.find o e = none → answers (.read (.el src o e)) src 5 [] ∧ answers (.readInForce src o e) src 5 []
        ∧ answers (.readPart src o e off) src 5 [] ∧ answers (.describe src o e) src 5 [])
      ∧ (∀ r, Dict.find o e = some r →
        (r.acc = .wo → answers (.read (.el src o e)) src 8 [] ∧ answers (.readInForce src o e) src 8 [] ∧ answers (.readPart src o e off) src 8 [])
        ∧ ((r.acc = .rw ∨ r.acc = .rwp ∨ r.acc = .fuse) → r.ty.raw = false → o.val < 0x0600 →
            answers (.read (.el src o e)) src 0 (beBytes (tyLen r.ty) (Dev.el d k)))
        ∧ (r.acc ≠ .wo → r.com ≠ .now → cmdOf k = none →
            answers (.readInForce src o e) src 0 (if r.ty.raw then Dev.blobIn d k else beBytes (tyLen r.ty) (Dev.elIn d k)))
        ∧ (r.acc ≠ .wo → r.ty.raw = true → cmdOf k = none → k ≠ K.cap0Pop → k ≠ K.cap1Pop →
            let room := (Source.maxResp src - 24) / 4 * 4 - 4
            let st (bs : List Byte) : Nat := if off.val ≤ bs.length then 0 else 1
            let v (bs : List Byte) : List Byte := if off.val ≤ bs.length then beBytes 4 bs.length ++ (bs.drop off).take room else []
            ((∀ n, n < 1024 → k ≠ K.laneFfe n) → answers (.readPart src o e off) src (st (Dev.valB d k)) (v (Dev.valB d k)))
            ∧ (∀ n, n < 1024 → k = K.laneFfe n → Does (.readPart src o e off) s (fun x =>
                x.out = d.out ++ [.reply src (st (Dev.valB x k)) (v (Dev.valB x k))] ∧ SameTraffic d x ∧ SameTables d x
                ∧ OnlyEls [] d x ∧ OnlyBlobs [k] d x ∧ x.time = d.time)))
        ∧ (r.acc ≠ .wo → r.ty.raw = false → answers (.readPart src o e off) src 1 [])
        ∧ (∃ v, answers (.describe src o e) src 0 v ∧ v.take 3 = [BitVec.ofNat 8 (tyCode r.ty), BitVec.ofNat 8 (accCode r.acc), BitVec.ofNat 8 (comCode r.com)]
            ∧ v.drop 28 = ascii r.name))
      ∧ (∀ n, o.val ≤ n → n < 65536 → Dict.find n 0 ≠ none → (∀ m, o.val ≤ m → m < n → Dict.find m 0 = none) →
          answers (.nextObject src o) src 0 (beBytes 2 n))
      ∧ ((∀ m, o.val ≤ m → m < 65536 → Dict.find m 0 = none) → answers (.nextObject src o) src 5 []))
    ∧ (∀ (p : Fin 2) (off size : Nat), Dev.hostExists d p = true →
      let h := Dev.hp d p
      let completes (off size v : Nat) : Prop :=
        exec (.read (.bar0 p off size)) s = .next { s with dev := { d with out := d.out ++ [.completion p (some v)] } }
      (bar0Ok off size = false → Does (.read (.bar0 p off size)) s (fun x =>
          Dev.el x (K.hostBarBad p) = (Dev.el d (K.hostBarBad p) + 1) % 2 ^ 64 ∧ x.out.getLast? = some (.completion p none)))
      ∧ completes 0x20 8 h.evtCause.toNat ∧ completes 0x28 8 h.evtMask.toNat
      ∧ completes 0x1008 8 (h.mbxState + 4 * h.mbxError + 256 * h.mbxLen) ∧ completes 0x100 8 0
      ∧ (∀ (o : Fin 65536) (e : Fin 256) (r : DictRow), Dict.find o e = some r → (r.acc = .rw ∨ r.acc = .rwp ∨ r.acc = .fuse) →
          r.ty.raw = false → r.ty ≠ .time → r.ty ≠ .s32 → o.val < 0x0600 → d.fw.running = true →
          completes (0x8000000 + o.val * 0x800 + e.val * 8) 8 (Dev.el d (key o e)))
      ∧ (∀ (o : Fin 65536) (e : Fin 256), d.fw.running = false →
          Does (.read (.bar0 p (0x8000000 + o.val * 0x800 + e.val * 8) 8)) s (fun x => x.out = d.out ++ [.completion p (some 0)]
            ∧ bits (Dev.el x (if p.val = 0 then K.dictDirectStatusA else K.dictDirectStatusB)) 0 32 = 10 + o.val * 2 ^ 8 + e.val * 2 ^ 24))
      ∧ exec (.read (.bar2 p off size)) s = .next { s with dev := { d with out := d.out ++ [.completion p (some 0)] } }
      ∧ (∀ (i : Fin 1024) (v : Nat), (i.val, v) ∈ [(0, 0x02041F7E), (2, 0x028000A1), (4, 4 + h.bar0 % 2 ^ 32), (5, h.bar0 / 2 ^ 32),
            (6, 4 + h.bar2 % 2 ^ 32), (7, h.bar2 / 2 ^ 32), (8, 0), (9, 0), (0x0B, Dev.elIn d (K.hostSubsys p))] →
          exec (.read (.cfg p i)) s = .next { s with dev := { d with out := d.out ++ [.completion p (some v)] } }))

/-- Sessions (R395). -/
def Obligations.SessionsCommitAllOrNothing : Prop :=
  ∀ (src : Source) (sid : Fin 65536) (s : State), s.lit → s.dev.rst.warmDue = false →
    let d := s.dev
    let answers (i : Instr) (st : Nat) : Prop := exec i s = .next { s with dev := Dev.reply d src st [] }
    exec (.sessionTimeout sid) s = .next { s with dev := Dev.endSession d sid }
    ∧ (Dev.present d src = false → exec (.sessionOpen src) s = .next s ∧ ∀ o e bs off tag, exec (.write src sid o e bs) s = .next s
        ∧ exec (.writePart src sid o e off bs) s = .next s ∧ exec (.sessionCommit src sid tag) s = .next s
        ∧ exec (.sessionDiscard src sid) s = .next s)
    ∧ (d.fw.running = true → Dev.present d src = true →
      (let mine := (d.dict.sessions.filter (fun y => Source.cls y.src == Source.cls src)).length
       ((4 ≤ mine ∨ 16 ≤ d.dict.sessions.length) → answers (.sessionOpen src) 4)
       ∧ (mine < 4 → d.dict.sessions.length < 16 → Does (.sessionOpen src) s (fun x => ∃ i, 1 ≤ i ∧ i ≤ 65535
          ∧ (∀ y ∈ d.dict.sessions, y.id ≠ i) ∧ x.dict.sessions = d.dict.sessions ++ [{ id := i, src := src, items := [] }]
          ∧ x.out = d.out ++ [.reply src 0 (beBytes 2 i)] ∧ x.dict.vals = d.dict.vals ∧ x.dict.blobs = d.dict.blobs)))
      ∧ (Dev.session d src sid = none → ∀ o e bs off tag,
          answers (.writePart src sid o e off bs) 11 ∧ answers (.sessionCommit src sid tag) 11 ∧ answers (.sessionDiscard src sid) 11
          ∧ (sid.val ≠ 0 → answers (.write src sid o e bs) 11))
      ∧ (∀ y : Session, Dev.session d src sid = some y →
        (sid.val ≠ 0 → ∀ (o : Fin 65536) (e : Fin 256) (bs : List Byte) (off : Fin 4294967296),
          let added (x : Dev) (items : List BatchItem) : Prop := Dev.session x src sid = some { y with items := items }
            ∧ x.out = d.out ++ [.reply src 0 []] ∧ x.dict.vals = d.dict.vals ∧ x.dict.blobs = d.dict.blobs ∧ SameTraffic d x ∧ SameTables d x
          (∀ st, Dev.checkTarget d (Source.cls src) o e = .inr st → answers (.write src sid o e bs) st ∧ answers (.writePart src sid o e off bs) st)
          ∧ (∀ r, Dev.checkTarget d (Source.cls src) o e = .inl r →
            let fits : Prop := DictRow.parse r bs ≠ none ∧ (r.ty.raw = true → DictRow.inRange r (.raw bs) = true)
            let cap := r.also.foldl max r.hi
            (¬ fits → answers (.write src sid o e bs) 1)
            ∧ (fits → (240 ≤ y.items.length ∨ 65536 < Session.size y + bs.length) → answers (.write src sid o e bs) 4)
            ∧ (fits → y.items.length < 240 → Session.size y + bs.length ≤ 65536 →
                Does (.write src sid o e bs) s (fun x => added x (y.items ++ [{ op := 2, obj := o, el := e, bytes := bs }])))
            ∧ (r.ty.raw = false → answers (.writePart src sid o e off bs) 1)
            ∧ (r.ty.raw = true → (∀ z ∈ y.items, ¬ (z.op = 5 ∧ z.obj = o.val ∧ z.el = e.val)) →
                ((off.val ≠ 0 ∨ cap < (bs.length : Int)) → answers (.writePart src sid o e off bs) 1)
                ∧ (off.val = 0 → (bs.length : Int) ≤ cap → (240 ≤ y.items.length ∨ 65536 < Session.size y + bs.length) →
                    answers (.writePart src sid o e off bs) 4)
                ∧ (off.val = 0 → (bs.length : Int) ≤ cap → y.items.length < 240 → Session.size y + bs.length ≤ 65536 →
                    Does (.writePart src sid o e off bs) s (fun x => added x (y.items ++ [{ op := 5, obj := o, el := e, bytes := bs }]))))
            ∧ (∀ pre z post, r.ty.raw = true → y.items = pre ++ z :: post → (z.op = 5 ∧ z.obj = o.val ∧ z.el = e.val) →
                (∀ w ∈ pre ++ post, ¬ (w.op = 5 ∧ w.obj = o.val ∧ w.el = e.val)) →
                let whole := z.bytes.length + bs.length
                ((off.val ≠ z.bytes.length ∨ cap < (whole : Int)) → answers (.writePart src sid o e off bs) 1)
                ∧ (off.val = z.bytes.length → (whole : Int) ≤ cap → 65536 < Session.size y + bs.length →
                    answers (.writePart src sid o e off bs) 4)
                ∧ (off.val = z.bytes.length → (whole : Int) ≤ cap → Session.size y + bs.length ≤ 65536 →
                    Does (.writePart src sid o e off bs) s (fun x => added x (pre ++ { z with bytes := z.bytes ++ bs } :: post))))))
        ∧ (∀ tag : Fin 65536,
          let ws := y.items.filterMap BatchItem.parse
          let sts := Dev.batchStatus d y.src y.items ws
          let last := K.dictSessionLast (Source.cls src)
          let noted (st : Nat) : Nat := sid.val + tag.val * 2 ^ 16 + st * 2 ^ 32 + y.items.length * 2 ^ 40
          (∀ st rest, sts.filter (fun z => z != 0) = st :: rest → Does (.sessionCommit src sid tag) s (fun x =>
            Dev.session x src sid = none ∧ Dev.el x last = noted st ∧ (∃ v, x.out = d.out ++ [.reply src st v])
            ∧ (∀ k, k ≠ last → Dev.el x k = Dev.el d k) ∧ x.dict.blobs = d.dict.blobs ∧ x.dict.force = d.dict.force
            ∧ x.dict.cfgPend = d.dict.cfgPend ∧ SameTraffic d x ∧ SameTables d x))
          ∧ ((∀ z ∈ sts, z = 0) → exec (.sessionCommit src sid tag) s = .next (State.settle { s with dev :=
              (Dev.reply (Dev.applyItems s.epoch (Dev.setEl (Dev.endSession d sid) last (noted 0)) y.src ws) src 0 []) })))
        ∧ exec (.sessionDiscard src sid) s = .next { s with dev := Dev.reply (Dev.endSession d sid) src 0 [] }))

/-- Mailbox, window, claims, store (R391 to R401). -/
def Obligations.MailboxWindowClaimsAndStore : Prop :=
  ∀ (s : State), s.lit → s.dev.rst.warmDue = false →
    let d := s.dev
    (∀ (p : Fin 2) (len : Fin 4096), Dev.hostExists d p = true →
      let h := Dev.hp d p
      let i : Instr := .mailboxSubmit p len
      let busy := Dev.setHp d p { h with mbxCmd := len, mbxReq := len, mbxState := 1, mbxError := 0, mbxLen := 0 }
      let bs := (List.range len).map (fun k => SMap.get h.mbxData k 0)
      let r := Dev.runMessage s.epoch busy (.host p) bs
      (h.mbxState = 1 → Does i s (fun x => Dev.el x K.dictMbxDiscards = (Dev.el d K.dictMbxDiscards + 1) % 2 ^ 64
          ∧ (Dev.hp x p).mbxState = 1 ∧ (Dev.hp x p).mbxCmd = h.mbxCmd ∧ (Dev.hp x p).mbxData = h.mbxData))
      ∧ (h.mbxState ≠ 1 → d.fw.running = false →
          exec i s = .next { s with dev := { busy with fw := { busy.fw with heldMbx := busy.fw.heldMbx ++ [p.val] } } })
      ∧ (h.mbxState ≠ 1 → d.fw.running = true → (len.val < 16 ∨ 2048 < len.val) →
          exec i s = .next { s with dev := Dev.setHp d p { h with mbxCmd := len, mbxReq := len, mbxState := 3, mbxError := 1, mbxLen := 0 } })
      ∧ (h.mbxState ≠ 1 → 16 ≤ len.val → len.val ≤ 2048 →
        (d.fw.running = true → request bs = none →
            exec i s = .next { s with dev := Dev.setHp d p { h with mbxCmd := len, mbxReq := len, mbxState := 3, mbxError := 2, mbxLen := 0 } })
        ∧ (d.fw.running = true → r.1.rst.warmDue = false → ∀ resp, r.2 = some resp → Does i s (fun x =>
            (Dev.hp x p).mbxState = 2 ∧ (Dev.hp x p).mbxError = 0 ∧ (Dev.hp x p).mbxLen = resp.length
            ∧ (∀ (k : Nat) (b : Byte), resp[k]? = some b → SMap.get (Dev.hp x p).mbxData k 0 = b) ∧ x.dict = r.1.dict))
        ∧ (d.fw.running = true → r.1.rst.warmDue = false → r.1.fw.running = false → Does i s (fun x => p.val ∈ x.fw.lostMbx
            ∧ x.dict = r.1.dict))))
    ∧ (∀ (p : Fin 2) (o : Fin 65536) (e : Fin 256) (v : Nat), Dev.hostExists d p = true → v < 2 ^ 64 →
      let slot := 0x8000000 + o.val * 0x800 + e.val * 8
      let rec_ := if p.val = 0 then K.dictDirectStatusA else K.dictDirectStatusB
      let failed (st : Nat) (x : Dev) : Prop := Dev.el x rec_ = st + o.val * 2 ^ 8 + e.val * 2 ^ 24 + (bits (Dev.el d rec_) 32 32 + 1) % 2 ^ 32 * 2 ^ 32
        ∧ OnlyEls [rec_] d x ∧ x.dict.blobs = d.dict.blobs
      (d.fw.running = false →
        Does (.directWindowWrite p slot 8 v) s (failed 10) ∧ Does (.directWindowWrite p slot 4 v) s (failed 10))
      ∧ (d.fw.running = true →
        (∀ st, Dev.checkTarget d p o e = .inr st → Does (.directWindowWrite p slot 8 v) s (failed st) ∧ Does (.directWindowWrite p slot 4 v) s (failed st))
        ∧ (∀ r, Dev.checkTarget d p o e = .inl r →
            ((r.ty.raw = true ∨ r.ty = .time) → Does (.directWindowWrite p slot 8 v) s (failed 1))
            ∧ ((r.ty = .u64 ∨ r.ty = .s64 ∨ r.ty = .bitset) → Does (.directWindowWrite p slot 4 v) s (failed 1))
            ∧ Does (.directWindowWrite p (slot + 4) 4 v) s (failed 1)
            ∧ (r.ty.raw = false → r.ty ≠ .time → r.ty ≠ .s32 → v < 2 ^ (8 * tyLen r.ty) → Dev.grants d (.host p) { k := key o e, v := .num v } →
                exec (.directWindowWrite p slot 8 v) s
                  = .next (State.settle { s with dev := Dev.applied s.epoch d (.host p) [{ k := key o e, v := .num v }] }))))
      ∧ exec (.directWindowWrite p 0x28 8 v) s = .next { s with dev := Dev.setHp d p { Dev.hp d p with evtMask := BitVec.ofNat 64 v } })
    ∧ (∀ (o : Fin 65536) (e : Fin 256),
        (cmdStatus (key o e) = none → exec (.commandClaimExpire o e) s = .next s)
        ∧ (∀ st, cmdStatus (key o e) = some st →
          (Dev.val s.epoch d st = 1 → exec (.commandClaimExpire o e) s = .next s)
          ∧ (Dev.val s.epoch d st ≠ 1 → exec (.commandClaimExpire o e) s
              = .next { s with dev := { d with dict := { d.dict with claims := SMap.del d.dict.claims (key o e) } } })))
    ∧ (∀ (src : Source) (seq : Fin 4294967296), s.grants (.cfgSync src seq) → Dev.el d K.cfgsSyncSeq ≠ seq.val →
        Does (.cfgSync src seq) s (fun x => Dev.el x K.cfgsSyncStatus = (if d.dict.cfgPend = [] then 0 else 1)
          ∧ x.dict.cfgPend = d.dict.cfgPend ∧ Dev.el x K.cfgsSyncSeq = seq.val ∧ SameTraffic d x ∧ SameTables d x))
    ∧ (∀ src : Source, s.grants (.cfgClear src) → Does (.cfgClear src) s (fun x =>
        (∃ y ∈ x.dict.cfgPend, y.id = K.cfgsClear ∧ y.part = some [1]) ∧ OnlyEls [] d x ∧ OnlyBlobs [] d x ∧ x.dict.store = d.dict.store
        ∧ SameTraffic d x ∧ SameTables d x))
    ∧ (let xs := Dev.nextGen d
       let cost := ceilDiv (Dev.genBytes d xs) 256
       let level := min (600 * ticksPerSec) (d.dict.tokens.level + (d.ticks - d.dict.tokens.at_))
       ((d.fw.running = false ∨ xs = []) → exec .cfgGenerationWrite s = .next s)
       ∧ (d.fw.running = true → xs ≠ [] → Dev.flashOk d = false → Does .cfgGenerationWrite s (fun x => .generation ∈ x.fw.waits ∧ x.dict.store = d.dict.store))
       ∧ (d.fw.running = true → Dev.flashOk d = true → level < cost * ticksPerSec → exec .cfgGenerationWrite s = .next s)
       ∧ (d.fw.running = true → xs ≠ [] → Dev.flashOk d = true → cost * ticksPerSec ≤ level → Does .cfgGenerationWrite s (fun x =>
           Dev.el x K.cfgsGeneration = (Dev.el d K.cfgsGeneration + 1) % 2 ^ 64
           ∧ (∀ y ∈ xs, (∀ z ∈ xs, z.id = y.id → z = y) → SMap.find x.dict.store y.id = (if Dev.itemBytes d y = [] then none else some (Dev.itemBytes d y)))
           ∧ (∀ k, (∀ y ∈ xs, y.id ≠ k) → SMap.find x.dict.store k = SMap.find d.dict.store k)
           ∧ x.dict.copies.length = d.dict.copies.length
           ∧ (∀ c ∈ x.dict.copies, genRecord (Dev.el d K.cfgsGeneration + 1) (xs.map (fun y => (y.id, Dev.itemBytes d y)))
               ∈ SMap.get c x.dict.cfgSector [])
           ∧ (∀ y ∈ xs, ∀ z ∈ x.dict.cfgPend, z.id ≠ y.id) ∧ SameTraffic d x ∧ SameTables d x)))

/-! The management network. -/

/-- Management ports (R404 to R409, R413). -/
def Obligations.ManagementPortsKeepLinksAddressesAndNeighbours : Prop :=
  ∀ (m : Fin 2) (s : State), s.lit → s.dev.rst.warmDue = false →
    let d := s.dev
    let y := Dev.mport d m
    let st (x : Dev) : Nat := Dev.el x (K.mportState m)
    let nb (x : Dev) : List Byte := Dev.blob x (K.mportLldpNeighbor m)
    let frame (x : Dev) : Prop := SameTraffic d x ∧ SameTables d x ∧ x.time = d.time
    let discards (i : Instr) : Prop := Does i s (fun x => Dev.el x (K.mportRxDiscards m) = (Dev.el d (K.mportRxDiscards m) + 1) % 2 ^ 64
      ∧ x.mgmt = d.mgmt ∧ OnlyEls [K.mportRxDiscards m] d x ∧ frame x)
    let sendsOne (x : Dev) : Prop := ∃ f, x.out = d.out ++ [.mgmtFrame m (Dev.mgmtTx d m f)]
    (∀ (f : List Byte) (cg : Nat), let n := f.length
      let body := slice f 14 (n - 18)
      let good : Prop := 64 ≤ n ∧ n ≤ 1518 ∧ leNat (f.drop (n - 4)) = fcs32 (f.take (n - 4))
      (st d ≠ 3 → Does (.mgmtFrameReceive m f cg) s (fun x => Dev.el x (K.mportCgErrors m) = (Dev.el d (K.mportCgErrors m) + cg) % 2 ^ 64 ∨ cg = 0)
        ∧ exec (.mgmtFrameReceive m f 0) s = .next s)
      ∧ (st d = 3 → ¬ good → discards (.mgmtFrameReceive m f 0))
      ∧ (st d = 3 → good → beAt f 12 2 ∉ [0x0800, 0x0806, 0x86DD, 0x88CC] → discards (.mgmtFrameReceive m f 0))
      ∧ (∀ a l g, st d = 3 → good → d.fw.running = true → Dev.v4Own d m = some (a, l, g) → beAt f 12 2 = 0x0806 →
          (beAt f 0 6 = Dev.mac d m ∨ beAt f 0 6 = bcastMac) → beAt body 0 8 = 0x0001080006040001 → beAt body 24 4 = a →
          let asker := beAt body 8 6
          let waited : List Out := match y.held with
            | some (h, p) => if h = beAt body 14 4 then [.mgmtFrame m (Dev.mgmtTx d m (ethFrame asker (Dev.mac d m) 0x0800 p))] else []
            | none => []
          Does (.mgmtFrameReceive m f 0) s (fun x => x.out = d.out ++ waited ++ [.mgmtFrame m (Dev.mgmtTx d m (ethFrame asker (Dev.mac d m) 0x0806
            (beBytes 8 0x0001080006040002 ++ beBytes 6 (Dev.mac d m) ++ beBytes 4 a ++ slice body 8 10)))] ∧ x.dict = d.dict ∧ frame x)))
    ∧ (∀ (speed : Fin 4) (ctle : Fin 16) (half : Bool), let i : Instr := .mportLinkUp m speed ctle half
        let sgmii := Dev.el d (K.mportMode m) = 1 ∧ Dev.el d (K.mportAnEnable m) = 1
        ((st d = 0 ∨ Dev.el d (K.mportAdmin m) = 0 ∨ st d = 3) → exec i s = .next s)
        ∧ (st d ≠ 0 → Dev.el d (K.mportAdmin m) ≠ 0 → st d ≠ 3 →
          (sgmii → half = true → Does i s (fun x => st x = 4 ∧ frame x))
          ∧ ((¬ sgmii ∨ half = false) → Does i s (fun x => st x = 3
              ∧ Dev.el x (K.mportSpeed m) = (if Dev.el d (K.mportMode m) = 1 ∧ Dev.el d (K.mportAnEnable m) = 1 then speed.val else 3) ∧ frame x))))
    ∧ (∀ sync : Bool, let i : Instr := .mportLinkDown m sync
        ((st d = 0 ∨ Dev.el d (K.mportAdmin m) = 0) → exec i s = .next s)
        ∧ (Dev.el d (K.mportAdmin m) ≠ 0 → st d = 3 → Does i s (fun x => st x = (if sync then 2 else 1) ∧ Dev.el x (K.mportSpeed m) = 0
            ∧ Dev.el x (K.mportLinkLosses m) = (Dev.el d (K.mportLinkLosses m) + 1) % 2 ^ 32 ∧ nb x = []
            ∧ Dev.mport x m = { y with dadLl := 0, held := none } ∧ Dev.mport x (1 - m.val) = Dev.mport d (1 - m.val) ∧ frame x)))
    ∧ ((d.fw.running = false ∨ st d ≠ 3) → ∀ w dup, exec (.dhcpDiscoverRetry m) s = .next s
        ∧ exec (.dhcpRenewal m) s = .next s ∧ exec (.dadComplete m w dup) s = .next s ∧ exec (.lldpTxTimer m) s = .next s
        ∧ (y.lease ≠ none → exec (.dhcpLeaseExpire m) s = .next { s with dev := Dev.setMport d m { y with lease := none, dhcp := 0 } }))
    ∧ (y.lease = none → exec (.dhcpLeaseExpire m) s = .next s)
    ∧ (st d ≠ 3 → ∀ bs, exec (.lldpReceive m bs) s = .next s ∧ exec (.lldpTtlExpire m) s = .next s)
    ∧ (d.fw.running = true → st d = 3 →
      (y.lease ≠ none → Does (.dhcpLeaseExpire m) s (fun x => (Dev.mport x m).lease = none ∧ (Dev.mport x m).dhcp = 1 ∧ sendsOne x ∧ frame x))
      ∧ ((y.dhcp = 1 ∨ y.dhcp = 2) → Does (.dhcpDiscoverRetry m) s (fun x => (Dev.mport x m).dhcp = 1 ∧ sendsOne x ∧ frame x))
      ∧ (y.dhcp ≠ 1 → y.dhcp ≠ 2 → exec (.dhcpDiscoverRetry m) s = .next s)
      ∧ ((y.lease = none ∨ y.dhcp ≠ 3) → exec (.dhcpRenewal m) s = .next s)
      ∧ (y.lease ≠ none → y.dhcp = 3 → Does (.dhcpRenewal m) s (fun x => Dev.mport x m = { y with dhcp := 4 } ∧ sendsOne x ∧ x.dict = d.dict ∧ frame x))
      ∧ (∀ dup : Bool, (y.dadLl = 1 → Does (.dadComplete m 0 dup) s (fun x => Dev.mport x m = { y with dadLl := if dup then 3 else 2 } ∧ x.dict = d.dict ∧ frame x))
          ∧ (y.dadLl ≠ 1 → exec (.dadComplete m 0 dup) s = .next s)
          ∧ (Dev.el d (K.mportIpv6Dad m) = 1 → exec (.dadComplete m 1 dup) s = .next { s with dev := Dev.setEl d (K.mportIpv6Dad m) (if dup then 3 else 2) })
          ∧ (Dev.el d (K.mportIpv6Dad m) ≠ 1 → exec (.dadComplete m 1 dup) s = .next s))
      ∧ (Dev.el d K.netLldpInterval = 0 → exec (.lldpTxTimer m) s = .next s)
      ∧ (Dev.el d K.netLldpInterval ≠ 0 → exec (.lldpTxTimer m) s = .next { s with dev :=
          { d with out := d.out ++ [.mgmtFrame m (Dev.mgmtTx d m (ethFrame 0x0180C200000E (Dev.mac d m) 0x88CC (Dev.lldpBody d m)))] } }))
    ∧ (st d = 3 →
      (∀ (bs c p ttl : List Byte) (r : List (Nat × List Byte)), tlvs bs.length bs = some ((1, c) :: (2, p) :: (3, ttl) :: r) →
          Does (.lldpReceive m bs) s (fun x => frame x ∧ nb x = (if beAt ttl 0 2 = 0 then []
            else bs.take (6 + c.length + p.length + ttl.length + (r.map (fun z => 2 + z.2.length)).sum))))
      ∧ (∀ bs, tlvs bs.length bs = none → discards (.lldpReceive m bs))
      ∧ Does (.lldpTtlExpire m) s (fun x => nb x = [] ∧ frame x))

/-- UDP, MCTP, I3C (R410 to R418). -/
def Obligations.RequestsRunOnceAndBindingsHoldTheirEid : Prop :=
  ∀ (s : State), s.lit → s.dev.rst.warmDue = false →
    let d := s.dev
    let frame (x : Dev) : Prop := SameTraffic d x ∧ SameTables d x ∧ x.time = d.time
    let there (b : Fin 3) : Prop := b.val ≠ 2 ∨ Dev.hostExists d 1 = true
    (∀ (m : Fin 2) (addr : BitVec 128) (port : Fin 65536) (bs : List Byte) (frag bad : Bool),
      let src : Source := .udp m addr.toNat port
      let i : Instr := .udpRequest m addr port bs frag bad
      let rate := Dev.el d K.netUdpRate
      let level := min (rate * ticksPerSec) (d.mgmt.udpTok.level + (d.ticks - d.mgmt.udpTok.at_) * rate)
      let ok : Prop := d.fw.running = true ∧ frag = false ∧ bad = false ∧ 12 ≤ bs.length ∧ beAt bs 8 4 = bs.length ∧ bs.length ≤ 1452
        ∧ Dev.udpAllowed d addr.toNat = true ∧ ticksPerSec ≤ level
      let kept := d.mgmt.kept.find? (fun k => decide (d.ticks ≤ k.at_ + 2 * ticksPerSec) && (Source.same k.src src && k.tag == beAt bs 2 2))
      let answer (x : List Byte) : List Out := if Dev.canReply d m addr.toNat then [.message src x] else []
      (Dev.mportUp d m = false → exec i s = .next s)
      ∧ (Dev.mportUp d m = true → ¬ ok → Does i s (fun x => Dev.el x K.netUdpDiscards = (Dev.el d K.netUdpDiscards + 1) % 2 ^ 64 ∧ OnlyEls [K.netUdpDiscards] d x
          ∧ x.mgmt = d.mgmt ∧ frame x))
      ∧ (∀ k, Dev.mportUp d m = true → ok → kept = some k → Dev.el d K.netUdpRequests + 1 < 2 ^ 64 → Does i s (fun x => x.out = d.out ++ answer k.bytes
          ∧ OnlyEls [K.netUdpRequests] d x ∧ x.dict.blobs = d.dict.blobs ∧ x.dict.sessions = d.dict.sessions ∧ frame x))
      ∧ (let tok : Bucket := { level := level - ticksPerSec, at_ := d.ticks }
         let live := d.mgmt.kept.filter (fun k => decide (d.ticks ≤ k.at_ + 2 * ticksPerSec))
         let r := Dev.runMessage s.epoch { d with mgmt := { d.mgmt with udpTok := tok, kept := live } } src bs
         Dev.mportUp d m = true → ok → kept = none → r.1.rst.warmDue = false → Dev.el r.1 K.netUdpRequests + 1 < 2 ^ 64 → ∀ resp, r.2 = some resp →
          Does i s (fun x => (∃ k ∈ x.mgmt.kept, k.src = src ∧ k.tag = beAt bs 2 2 ∧ k.at_ = r.1.ticks ∧ k.bytes = resp)
            ∧ Dev.el x K.netUdpRequests = Dev.el r.1 K.netUdpRequests + 1 ∧ x.lanes = r.1.lanes ∧ x.pipes = r.1.pipes)))
    ∧ (∀ (b : Fin 3) (ps : List (List Byte)),
      let i : Instr := .mctpTuileyMessage b ps
      let joined := mctpJoin (Dev.el d (K.mctpEid b)) none (Dev.mctpTaken d b ps)
      ((d.fw.running = false ∨ Dev.el d (K.mctpEid b) = 0 ∨ ¬ there b ∨ joined = none) → exec i s = .next s)
      ∧ (∀ z, d.fw.running = true → Dev.el d (K.mctpEid b) ≠ 0 → there b → joined = some z →
        let bs := z.body
        ((z.bad = true ∨ byteAt bs 0 ≠ 0x7E ∨ beAt bs 1 2 ≠ 0x1F7E ∨ 2051 < bs.length) → Does i s (fun x =>
          Dev.el x K.mctpRxDiscards = (Dev.el d K.mctpRxDiscards + 1) % 2 ^ 64 ∧ OnlyEls [K.mctpRxDiscards] d x ∧ x.mgmt = d.mgmt ∧ frame x))
        ∧ (z.bad = false → byteAt bs 0 = 0x7E → beAt bs 1 2 = 0x1F7E → bs.length ≤ 2051 →
            let r := Dev.runMessage s.epoch d (.mctp b z.src) (bs.drop 3)
            exec i s = .next (State.settle { s with dev := { r.1 with out := r.1.out ++ (match r.2 with
              | some resp => if b.val = 0 ∨ Dev.hostUp r.1 (b.val - 1) = true then
                  [.mctpMessage b z.src z.tag (Dev.mctpOut r.1 b z.src z.addr z.tag ([0x7E, 0x1F, 0x7E] ++ resp))] else []
              | none => []) } }))))
    ∧ (∀ (b : Fin 3) (from_ : MctpFrom) (inst : Fin 32),
      let cut : Prop := from_.pecBad = true ∧ b.val = 0 ∧ Dev.isI3c d = false
      let packet (x : Dev) (cmd code : Nat) (data : List Byte) : List Out := if b.val = 0 ∨ Dev.hostUp d (b.val - 1) = true then
        [.mctp b from_.eid ((Dev.mctpOut x b from_.eid from_.addr from_.tag ([0] ++ beBytes 1 inst ++ beBytes 1 cmd ++ beBytes 1 code ++ data)).headD [])]
        else []
      let answers (i : Instr) (cmd code : Nat) (data : List Byte) : Prop :=
        exec i s = .next { s with dev := { d with out := d.out ++ packet d cmd code data } }
      let loses (x : Dev) : Prop := Dev.el x (K.mctpEid b) = 0 ∧ Dev.el x K.mctpOwnerResets = (Dev.el d K.mctpOwnerResets + 1) % 2 ^ 32
        ∧ (Dev.binding x b).announcing = true ∧ (∀ z ∈ x.dict.sessions, ∀ e, z.src ≠ .mctp b e) ∧ frame x
      ((d.fw.running = false ∨ ¬ there b ∨ cut) → ∀ op eid t v c, exec (.setEndpointId b from_ inst op eid) s = .next s ∧ exec (.getEndpointId b from_ inst) s = .next s
        ∧ exec (.getEndpointUuid b from_ inst) s = .next s ∧ exec (.getMctpVersionSupport b from_ inst t) s = .next s
        ∧ exec (.getMessageTypeSupport b from_ inst) s = .next s ∧ exec (.getVendorMessageSupport b from_ inst v) s = .next s
        ∧ exec (.prepareForEndpointDiscovery b from_ inst) s = .next s ∧ exec (.endpointDiscovery b from_ inst) s = .next s
        ∧ exec (.unsupportedControlCmd b from_ inst c) s = .next s)
      ∧ ((d.fw.running = false ∨ (b.val ≠ 0 ∧ Dev.hostUp d (b.val - 1) = false)) → exec (.eidAnnounceTimer b) s = .next s)
      ∧ (d.fw.running = true → there b → ¬ cut →
        (∀ (op : Fin 4) (eid : Fin 256),
          (op.val < 2 → eid.val ≠ 0 → eid.val ≠ 255 → Does (.setEndpointId b from_ inst op eid) s (fun x => Dev.el x (K.mctpEid b) = eid.val
            ∧ (Dev.binding x b).owner = some from_.eid.val ∧ (Dev.binding x b).announcing = false ∧ OnlyEls [K.mctpEid b] d x
            ∧ x.out = d.out ++ packet x 1 0 ([0] ++ beBytes 1 eid ++ [0]) ∧ frame x))
          ∧ (op.val < 2 → (eid.val = 0 ∨ eid.val = 255) → answers (.setEndpointId b from_ inst op eid) 1 2 [])
          ∧ (op.val = 2 → Does (.setEndpointId b from_ inst op eid) s loses))
        ∧ answers (.getEndpointId b from_ inst) 2 0 (beBytes 1 (Dev.el d (K.mctpEid b)) ++ [0, 0])
        ∧ (∃ u, u.length = 16 ∧ answers (.getEndpointUuid b from_ inst) 3 0 u)
        ∧ (∀ t : Fin 256, (t.val ∈ [0, 0x7E, 0xFF] → ∃ v, answers (.getMctpVersionSupport b from_ inst t) 4 0 (1 :: v))
          ∧ (t.val ∉ [0, 0x7E, 0xFF] → answers (.getMctpVersionSupport b from_ inst t) 4 0x80 []))
        ∧ answers (.getMessageTypeSupport b from_ inst) 5 0 [1, 0x7E]
        ∧ (∃ v, answers (.getVendorMessageSupport b from_ inst 0) 6 0 ([0xFF, 0, 0x1F, 0x7E] ++ v))
        ∧ (b.val ≠ 0 → Does (.prepareForEndpointDiscovery b from_ inst) s loses)
        ∧ (b.val = 0 → answers (.prepareForEndpointDiscovery b from_ inst) 0x0B 0 [])
        ∧ ((Dev.binding d b).discovered = false → answers (.endpointDiscovery b from_ inst) 0x0C 0 [])
        ∧ ((Dev.binding d b).discovered = true → exec (.endpointDiscovery b from_ inst) s = .next s)
        ∧ (∀ cmd, answers (.unsupportedControlCmd b from_ inst cmd) cmd.val 5 [])
        ∧ ((Dev.binding d b).announcing = false → exec (.eidAnnounceTimer b) s = .next s)
        ∧ ((Dev.binding d b).announcing = true → (b.val ≠ 0 → Dev.hostUp d (b.val - 1) = true) → (b.val ≠ 0 ∨ Dev.isI3c d = false ∨ Dev.el d K.mctpI3cDynAddr ≠ 0) →
            Does (.eidAnnounceTimer b) s (fun x => Dev.binding x b = { Dev.binding d b with sent := (Dev.binding d b).sent + 1 }
              ∧ x.out.length = d.out.length + 1 ∧ x.dict = d.dict ∧ frame x))))
    ∧ (∀ (addr : Fin 128) (daa : Bool), addr.val ≠ 0 → Dev.elIn d K.mctpMode ≠ 1 → Dev.el d K.mctpI3cDynAddr = 0 →
        Does (.i3cAddressAssign addr daa) s (fun x => (daa = true → .i3cId (0x04A7 * 2 ^ 33 + Dev.el d K.idSerial % 2 ^ 32) ∈ x.out) ∧ x.mgmt.i3c = true ∧ Dev.el x K.mctpI3cDynAddr = addr.val ∧ OnlyEls [K.mctpI3cDynAddr] d x ∧ frame x))
    ∧ (∀ (addr : Fin 128) (daa : Bool), Dev.elIn d K.mctpMode = 1 → exec (.i3cAddressAssign addr daa) s = .next s)
    ∧ (Dev.isI3c d = false → exec .i3cRstdaa s = .next s)
    ∧ (Dev.isI3c d = true → Does .i3cRstdaa s (fun x => Dev.el x K.mctpI3cDynAddr = 0 ∧ Dev.el x (K.mctpEid 0) = 0
        ∧ Dev.el x K.mctpOwnerResets = (Dev.el d K.mctpOwnerResets + 1) % 2 ^ 32 ∧ (∀ z ∈ x.dict.sessions, ∀ e, z.src ≠ .mctp 0 e) ∧ frame x))

/-! Firmware: update, trial, confirmation, boot, restart. -/

/-- Update, trial, confirmation (R435 to R442, R448). -/
def Obligations.UpdateSessionsStageWriteActivateAndConfirm : Prop :=
  ∀ (src : Source) (s : State), s.lit →
    let d := s.dev
    let frame (x : Dev) : Prop := SameTraffic d x ∧ x.tbl = d.tbl ∧ x.time = d.time ∧ x.lanes = d.lanes ∧ x.dma = d.dma
    let replies (x : Dev) : Prop := x.out = d.out ++ [.reply src 0 []]
    let staged := Dev.stagedOf d src
    let r := Dev.bootRec d
    let free (x : Dev) : Prop := x.fw.owner = none ∧ Dev.el x K.fwSessionState = 0 ∧ Dev.el x K.fwStageLength = 0
    let confirmed (x : Dev) : Prop :=
      let run := Dev.el d K.fwRunningSlot
      let f := Dev.el d K.fwArbFused
      let arb := Dev.el d K.fwRunningArb
      let n := Dev.el x K.fwArbFused
      (Dev.bootRec x).trial = false ∧ (Dev.bootRec x).attempts = 0 ∧ Dev.el x K.fwTrial = 0
        ∧ n = (if arb ≤ f then f else max f (min arb (128 - Dev.el x K.fwArbSpoiled)))
        ∧ ∀ z < 2, BootRec.st (Dev.bootRec x) z = (let v := if z = run then 3 else BootRec.st r z
            if 2 ≤ v ∧ v ≤ 4 ∧ Dev.slotArb d z < n then 5 else v)
    (∀ bytes : List Byte, s.grants (.fwStageChunk src bytes) →
      let old := if leNat (bytes.take 4) = 0 then [] else staged
      let bs := old ++ bytes.drop 4
      Does (.fwStageChunk src bytes) s (fun x => Dev.stagedOf x src = bs ∧ leNat (bytes.take 4) = old.length ∧ replies x ∧ frame x
        ∧ (old.length < 4096 → 4096 ≤ bs.length → x.fw.owner = some src ∧ x.fw.staged = [(src, bs)]
          ∧ Dev.headerReason d (bs.take 4096) = 0
          ∧ Dev.el x K.fwSessionState = (if bs.length = imgSize bs then 2 else 1) ∧ Dev.el x K.fwStageLength = bs.length % 2 ^ 32)))
    ∧ (∀ seq : Fin 4294967296, Dev.el d K.fwUpdateSeq ≠ seq.val →
      (s.grants (.fwWriteSlot src seq) →
        let ok : Prop := Dev.owns d src = true ∧ 4096 ≤ staged.length ∧ staged.length = imgSize staged
        let t := Dev.writeTarget d staged
        (ok → Dev.flashOk d = false → Does (.fwWriteSlot src seq) s (fun x => x.fw.images = d.fw.images ∧ x.fw.secs = d.fw.secs
            ∧ .slot t staged ∈ x.fw.waits ∧ x.fw.writing = some t ∧ Dev.el x K.fwUpdateStatus = 1 ∧ replies x ∧ frame x))
        ∧ (ok → Dev.flashOk d = true → Does (.fwWriteSlot src seq) s (fun x => Dev.image x t = staged ∧ x.fw.writing = some t ∧ Dev.el x K.fwUpdateTarget = t
            ∧ Dev.el x K.fwSessionState = 3 ∧ Dev.el x K.fwUpdateStatus = 1 ∧ BootRec.st (Dev.bootRec x) t = 1
            ∧ (∀ z, z ≠ t → Dev.image x z = Dev.image d z) ∧ (∀ z < 3, z ≠ t → BootRec.st (Dev.bootRec x) z = BootRec.st r z)
            ∧ replies x ∧ frame x))
        ∧ (¬ ok → Does (.fwWriteSlot src seq) s (fun x => Dev.el x K.fwUpdateStatus = 5 ∧ x.fw.images = d.fw.images
            ∧ x.fw.secs = d.fw.secs ∧ x.fw.writing = d.fw.writing ∧ replies x ∧ frame x)))
      ∧ (∀ now : Bool, let i : Instr := if now then .fwActivateNow src seq else .fwActivateNext src seq
        s.grants i →
          let t := Dev.targetSlot d
          let st := if d.fw.owner.isSome ∧ Dev.owns d src = false then 3
            else if (Dev.owns d src = true ∧ imgKind staged = 2) ∨ (d.fw.owner = none ∧ Dev.el d K.fwUpdateTarget = 2) then 2
            else if BootRec.st r t ≠ 2 ∨ Dev.el d K.fwTrial = 1 then 3 else if Dev.flashOk d = false then 1 else 0
          Does i s (fun x => Dev.el x K.fwUpdateStatus = st ∧ x.fw.images = d.fw.images ∧ frame x
            ∧ (st ≠ 0 → x.fw.secs = d.fw.secs ∧ x.fw.owner = d.fw.owner ∧ x.fw.running = true ∧ replies x)
            ∧ (st = 0 → Dev.bootRec x =
                  { r with active := t, trial := true, attempts := 0, seq := r.seq + 1, confirmMin := Dev.el d K.fwConfirmWindowMin }
                ∧ x.fw.owner = none ∧ x.fw.running = !now ∧ (now = true → x.fw.restarting = true ∧ Dev.el x K.fwRestartCause = 6))))
      ∧ (s.grants (.fwAbort src seq) →
        (Dev.owns d src = true → Does (.fwAbort src seq) s (fun x => free x ∧ Dev.stagedOf x src = [] ∧ Dev.el x K.fwUpdateStatus = 0
            ∧ x.fw.images = d.fw.images ∧ x.fw.secs = d.fw.secs ∧ replies x ∧ frame x))
        ∧ (Dev.owns d src = false → Does (.fwAbort src seq) s (fun x => Dev.el x K.fwUpdateStatus = 3 ∧ x.fw = d.fw ∧ replies x ∧ frame x))))
    ∧ (∀ o, d.fw.owner = some o → Does .fwSessionTimeout s (fun x => free x ∧ Dev.stagedOf x o = []
        ∧ x.fw.images = d.fw.images ∧ x.fw.secs = d.fw.secs ∧ x.out = d.out ∧ frame x))
    ∧ (d.fw.owner = none → exec .fwSessionTimeout s = .next s)
    ∧ (∀ ok : Bool, ((d.fw.writing = none ∨ d.fw.waits.any FlashOp.ofSlot = true) → exec (.fwSlotWriteDone ok) s = .next s)
      ∧ (∀ t, d.fw.writing = some t → d.fw.waits.any FlashOp.ofSlot = false → t < 3 → (ok = true → Dev.flashOk d = true) → Does (.fwSlotWriteDone ok) s (fun x =>
          x.fw.writing = none ∧ x.fw.images = d.fw.images ∧ Dev.el x K.fwUpdateStatus = (if ok then 0 else 4)
          ∧ (d.fw.owner.isSome → Dev.el x K.fwSessionState = if ok then 4 else 2)
          ∧ (∀ z < 3, BootRec.st (Dev.bootRec x) z = if ok = true ∧ z = t then (if t ≠ 2 then 2 else if Dev.imageOk d 2 (Dev.image d 2) then 3 else 4)
              else BootRec.st r z)
          ∧ (ok = true → t ≠ 2 → BootRec.arb (Dev.bootRec x) t = imgArb (Dev.image d t)) ∧ x.out = d.out ∧ frame x)))
    ∧ (Dev.flashOk d = true → s.grants (.fwConfirm src) → Dev.el d K.fwTrial = 1 ∧ Dev.healthy d = true ∧ Does (.fwConfirm src) s (fun x => replies x ∧ frame x
        ∧ (Dev.el d K.fwConfirmPolicy = 1 → confirmed x) ∧ (Dev.el d K.fwConfirmPolicy ≠ 1 → x.fw = d.fw ∧ Dev.el x K.fwTrial = 1)))
    ∧ (Dev.flashOk d = false → s.grants (.fwConfirm src) → Dev.el d K.fwConfirmPolicy = 1 → Does (.fwConfirm src) s (fun x =>
        (∃ n, .confirm n ∈ x.fw.waits) ∧ x.fw.secs = d.fw.secs ∧ Dev.el x K.fwTrial = 1 ∧ replies x ∧ frame x))
    ∧ (∀ spoil : Fin 129, let self : Prop := Dev.el d K.fwTrial = 1 ∧ Dev.el d K.fwConfirmPolicy = 0 ∧ Dev.healthy d = true
        (self → Dev.flashOk d = true → Does (.fwSelfConfirm spoil) s (fun x => confirmed x ∧ x.out = d.out ∧ frame x))
        ∧ (self → Dev.flashOk d = false → Does (.fwSelfConfirm spoil) s (fun x => .confirm spoil.val ∈ x.fw.waits
            ∧ x.fw.secs = d.fw.secs ∧ x.out = d.out ∧ frame x))
        ∧ (¬ self → exec (.fwSelfConfirm spoil) s = .next s))
    ∧ (let expires : Prop := Dev.el d K.fwTrial = 1 ∧ d.fw.running = true
      (expires → Dev.flashOk d = true → Does .fwWindowExpire s (fun x => (Dev.bootRec x).active = 1 - r.active ∧ (Dev.bootRec x).trial = false
          ∧ (Dev.bootRec x).attempts = 0 ∧ (r.active < 2 → BootRec.st (Dev.bootRec x) r.active = 4) ∧ Dev.el x K.fwLastRevert = 1
          ∧ Dev.el x K.fwTrial = 0 ∧ x.fw.running = false ∧ x.fw.restarting = true ∧ Dev.el x K.fwRestartCause = 7 ∧ frame x))
      ∧ (expires → Dev.flashOk d = false → Does .fwWindowExpire s (fun x => .expire ∈ x.fw.waits ∧ x.fw.secs = d.fw.secs
          ∧ x.fw.running = true ∧ frame x))
      ∧ (¬ expires → exec .fwWindowExpire s = .next s))

/-- Boot and restarts (R424, R425, R432 to R434, R444, R446, R495). -/
def Obligations.BootStartsOnlyImagesThatPassAndRestartsCompleteInOrder : Prop :=
  ∀ (s : State), Dev.held s.dev = false → s.dev.rst.warmDue = false →
    let d := s.dev
    let r := Dev.bootRec d
    let idle : Prop := d.fw.running = true ∨ d.fw.booted ≠ none ∨ Dev.domain d 1 = 2
    let stops (x : Dev) (cause : Nat) : Prop := x.fw.running = false ∧ x.fw.restarting = true ∧ x.fw.booted = none
      ∧ x.dict.sessions = [] ∧ x.mgmt.kept = [] ∧ x.fw.staged = [] ∧ x.fw.owner = none ∧ Dev.el x K.fwRestartCause = cause
      ∧ x.fw.images = d.fw.images ∧ x.fw.secs = d.fw.secs
      ∧ SameTraffic d x ∧ x.tbl = d.tbl ∧ x.time = d.time ∧ x.lanes = d.lanes ∧ x.dma = d.dma
    let crashed (x : Dev) : Prop := x.fw.crashes = (if Dev.el d K.fwTrial = 0 ∧ Dev.el d K.fwRunningSlot ≠ 2 then
      d.fw.crashes ++ [Dev.freeNs d] else d.fw.crashes)
    (idle → exec .bootRom s = .next s)
    ∧ (¬ idle → Does .bootRom s (fun x => x.fw.images = d.fw.images ∧ x.fw.running = false
        ∧ (d.fw.romFlash = false → x.fw.xspiOctal = true ∧ ∃ rest, x.out = d.out ++ [.pin .flResetN false, .pin .flResetN true] ++ rest)
        ∧ (d.fw.romFlash = true → x.fw.xspiOctal = d.fw.xspiOctal ∧ ∃ rest, x.out = d.out ++ rest ∧ .pin .flResetN false ∉ rest)
        ∧ (∀ k, x.fw.booted = some k → Dev.imageOk d k (Dev.image d k) = true ∧ Dev.el x K.fwRunningSlot = k
            ∧ Dev.el x K.fwRunningVersion = imgVersion (Dev.image d k) ∧ x.fw.hold = false)
        ∧ (r.trial = false → Dev.crashLoop d = false → (BootRec.st r r.active = 2 ∨ BootRec.st r r.active = 3) →
            Dev.imageOk d r.active (Dev.image d r.active) = true → x.fw.booted = some r.active ∧ x.fw.secs = d.fw.secs)
        ∧ (Dev.flashOk d = true → x.fw.booted = none → x.fw.hold = true)
        ∧ (r.active < 2 → (∀ k < 3, Dev.imageOk d k (Dev.image d k) = false) → x.fw.booted = none)))
    ∧ (d.fw.hold = false → exec .bootHoldRetry s = .next s)
    ∧ (d.fw.hold = true → exec .bootHoldRetry s = exec .bootRom s)
    ∧ (∀ (hurt : List (Fin 2 × Fin 32 × Option Nat)) (spoil : Fin 129),
        ((d.fw.running = true ∨ d.fw.restarting = true ∨ d.fw.booted = none ∨ Dev.domain d 1 ≠ 1) →
          exec (.mainFirmwareRuns hurt spoil) s = .next s)
        ∧ (d.fw.running = false → d.fw.restarting = false → d.fw.booted ≠ none → Dev.domain d 1 = 1 → d.fw.heldMbx = [] →
          let h := (Dev.hurtStore d hurt).dict
          let a := DictS.copy h 0
          let b := DictS.copy h 1
          let c := if CfgCopy.last a < CfgCopy.last b then b else a
          let readable : Prop := CfgCopy.readable a = true ∨ CfgCopy.readable b = true
          Does (.mainFirmwareRuns hurt spoil) s (fun x => x.fw.running = true ∧ x.fw.booted = d.fw.booted ∧ x.fw.storeRead = true
            ∧ (¬ readable → x.dict.store = [])
            ∧ (readable → Dev.el x K.cfgsGeneration = CfgCopy.last c)
            ∧ (readable → Dev.flashOk d = true → leNat (SMap.get (DictS.replay h c).store K.cfgsClear []) ≠ 1 →
                ∀ k, k < 2 → DictS.copy x.dict k = c)
            ∧ (readable → Dev.flashOk d = false → x.dict.copies = h.copies ∧ (a ≠ b → .store ∈ x.fw.waits))
            ∧ (Dev.el d K.resetLastKind = 2 → Dev.el x K.lifeColdResets = Dev.el d K.lifeColdResets + 1)
            ∧ (Dev.el d K.resetLastKind ≠ 2 → Dev.el x K.lifeColdResets =
                (if readable then leNat (SMap.get (DictS.replay h c).store K.lifeColdResets []) else 0) + 1))))
    ∧ (d.fw.running = false → exec .watchdogExpire s = .next s ∧ exec .processorFatal s = .next s)
    ∧ (s.lit → d.fw.running = true → Does .watchdogExpire s (fun x => stops x 5 ∧ crashed x)
        ∧ Does .processorFatal s (fun x => stops x 8 ∧ crashed x))
    ∧ (∀ (src : Source) (seq : Fin 4294967296), Dev.el d K.fwRestartSeq ≠ seq.val → s.grants (.mgmtRestart src seq) →
        Does (.mgmtRestart src seq) s (fun x => stops x (1 + Source.cls src) ∧ x.fw.crashes = d.fw.crashes))
    ∧ (∀ spoil : Fin 129,
        ((d.fw.restarting = false ∨ d.fw.booted = none ∨ d.fw.reloads ≠ []) → exec (.mgmtRestartDone spoil) s = .next s)
        ∧ (s.lit → d.fw.restarting = true → d.fw.booted ≠ none → d.fw.reloads = [] → d.fw.heldMbx = [] →
          Does (.mgmtRestartDone spoil) s (fun x => x.fw.running = true ∧ x.fw.restarting = false
            ∧ Dev.el x K.lifeMgmtRestarts = (Dev.el d K.lifeMgmtRestarts + 1) % 2 ^ 32
            ∧ (∀ p, p < 2 → p ∈ d.fw.lostMbx → (Dev.hp d p).mbxState = 1 → (Dev.hp x p).mbxState = 3 ∧ (Dev.hp x p).mbxError = 3)
            ∧ (∀ (k : Nat) (row : DictRow), k ∈ d.dict.waiting → Dict.find (keyObj k) (keyEl k) = some row → row.com = .restart →
                k ∉ x.dict.waiting ∧ (row.ty.raw = false → Dev.elIn x k = Dev.el d k))
            ∧ ((d.gran.trained = false ∨ Dev.el d K.granState ≠ 0) → SameTraffic d x)
            ∧ SameTables d x ∧ x.time = d.time ∧ x.lanes = d.lanes ∧ x.dma = d.dma)))
    ∧ (s.lit → exec (.pctlReload .begins) s = .next { s with dev := Dev.setEl d K.fwPctlState 1 }
        ∧ (d.fw.reloads = [] → exec (.pctlReload .fails) s = .next { s with dev := Dev.setEl d K.fwPctlState 2 })
        ∧ (∀ l, d.fw.reloads = .pctl :: l → .pctl ∉ l → (∀ w, w = .runs ∨ w = .fails → Does (.pctlReload w) s (fun x =>
            Dev.el x K.fwPctlState = (if w = .runs then 0 else 2) ∧ ∀ u ∈ x.fw.reloads, u ∈ l)))
        ∧ Does (.pctlReload .memory) s (fun x => Dev.el x K.fwPctlState = 1))
    ∧ exec .pfailAssert s = .next { s with dev := { d with fw := { d.fw with pfail := true } } }
    ∧ (d.fw.waits = [] → exec .flashInhibitClear s = .next { s with dev :=
        { d with fw := { d.fw with pfail := false, flashLow := false, waits := [] } } })
    ∧ Does .flashInhibitClear s (fun x => Dev.flashOk x = true ∧ x.fw.waits = [])

/-! Power, temperature, ageing, supplies. -/

/-- Power, temperature, ageing (R444, R455 to R482). -/
def Obligations.PowerAndThermalLoopsAndSuppliesAct : Prop :=
  ∀ (s : State), s.lit →
    let d := s.dev
    let up := Dev.el d K.fwPctlState = 0
    let frame (x : Dev) : Prop := x.pkts = d.pkts ∧ x.queues = d.queues ∧ x.ports = d.ports ∧ x.buf = d.buf ∧ x.gran = d.gran
      ∧ x.sched = d.sched ∧ SameTables d x ∧ x.time = d.time
    let levels (x : Dev) (cl th : Nat) : Prop := x.pwr.capLevel = cl ∧ Dev.el x K.thmLevel = th ∧ Dev.el x K.pwrShedLevel = max cl th
      ∧ (max cl th ≠ Dev.el d K.pwrShedLevel → Dev.el x K.telPcLimitEff = Dev.pcLimitAt d (max cl th)
          ∧ Dev.el x K.pwrSpillLimitGbps = Dev.spillLimitAt d (max cl th) ∧ Dev.el x K.pwrClockSixteenths = clockAt (max cl th)
          ∧ Dev.el x K.pwrShedEvents = (Dev.el d K.pwrShedEvents + 1) % 2 ^ 32) ∧ frame x
    (¬ up → ∀ preds v reads slacks, exec (.capStep preds) s = .next s ∧ exec .thermalStep s = .next s
      ∧ exec (.railRead v reads) s = .next s ∧ exec (.ageingReport slacks) s = .next s)
    ∧ (up →
      (∀ preds : List Nat,
        let i : Instr := .capStep preds
        let p := Dev.el d K.pwrNowMw * 100
        let cap := Dev.el d K.pwrCapW * 1000
        let m := Dev.el d K.pwrMarginPct
        let pred (l : Nat) : Nat := (preds[l]?.getD (Dev.el d K.pwrNowMw)) * 100
        let cl := d.pwr.capLevel
        let top := Dev.el d K.pwrShedMaxLevel
        let th := Dev.el d K.thmLevel
        let fits (l : Nat) : Prop := cl < l ∧ l ≤ top ∧ l ≤ 17 ∧ pred l ≤ cap * (100 - m)
        let falls : Prop := 0 < cl ∧ pred (cl - 1) ≤ cap * (100 - 2 * m)
        (cap * (100 - m) < p → ∀ l, fits l → (∀ j < l, ¬ fits j) →
          Does i s (fun x => levels x l th ∧ x.pwr.quiet = 0 ∧ Dev.el x K.pwrCapUnmet = 0))
        ∧ (cap * (100 - m) < p → (∀ l, ¬ fits l) → Does i s (fun x => levels x top th ∧ x.pwr.quiet = 0 ∧ Dev.el x K.pwrCapUnmet = 1))
        ∧ (p ≤ cap * (100 - m) → falls → 9 ≤ d.pwr.quiet → Does i s (fun x => levels x (cl - 1) th ∧ x.pwr.quiet = 0))
        ∧ (p ≤ cap * (100 - m) → falls → d.pwr.quiet < 9 → Does i s (fun x => x.pwr = { d.pwr with quiet := d.pwr.quiet + 1 } ∧ frame x))
        ∧ (p ≤ cap * (100 - m) → ¬ falls → Does i s (fun x => levels x cl th ∧ x.pwr.quiet = 0 ∧ Dev.el x K.pwrCapUnmet = 0)))
      ∧ (let t := Dev.elS d 32 K.thmMax
        let hot : Int := Dev.el d K.thmThrottleC * 100
        let cool : Int := hot - Dev.el d K.thmHystC * 100
        let l := Dev.el d K.thmLevel
        let cl := d.pwr.capLevel
        (hot ≤ t → Does .thermalStep s (fun x => levels x cl (min 17 (l + 1)) ∧ x.pwr.cool = 0))
        ∧ (t < hot → t ≤ cool → 9 ≤ d.pwr.cool → Does .thermalStep s (fun x => levels x cl (l - 1) ∧ x.pwr.cool = 0))
        ∧ (t < hot → t ≤ cool → d.pwr.cool < 9 → Does .thermalStep s (fun x => x.pwr = { d.pwr with cool := d.pwr.cool + 1 }
            ∧ Dev.el x K.thmLevel = l ∧ frame x))
        ∧ (t < hot → cool < t → Does .thermalStep s (fun x => x.pwr = { d.pwr with cool := 0 } ∧ Dev.el x K.thmLevel = l ∧ frame x)))
      ∧ (∀ (v : Fin 65536) (reads : List RailRead),
        Does (.railRead v reads) s (fun x => Dev.el x K.fwFlashMv = v.val ∧ x.fw.flashLow = (d.fw.flashLow || decide (v.val < 1710))
          ∧ (∃ now, x.pwr.window = (now :: d.pwr.window).take 10 ∧ Dev.el x K.pwrNowMw = now % 2 ^ 32
              ∧ (Dev.rails d = [] → now = (Dev.modelShares d).foldl (fun n y => n + y.nJ) 0 / 1000))
          ∧ x.tel.acts = []
          ∧ (1000 ≤ x.pwr.goodMs → Dev.el x K.pwrMarginPct = 2 ∧ Dev.el x K.pwrModelReady = 1)
          ∧ (∀ (i e : Nat), (Dev.rails d)[i]? = some e → railAddr e ≠ 0 → railMethod e ≠ 2 →
              (Dev.blob d K.pwrRailState).length = (Dev.rails d).length →
              let f := SMap.get d.pwr.fails i 0
              let o := SMap.get d.pwr.oks i 0
              let st := Dev.railState d i
              let back (v : Nat) : Prop := SMap.get x.pwr.fails i 0 = 0 ∧ SMap.get x.pwr.oks i 0 = (if st = 2 ∧ o + 1 < 10 then o + 1 else 0)
                ∧ Dev.railState x i = if st = 2 ∧ o + 1 < 10 then 2 else v
              (reads[i]? = some .noAnswer → SMap.get x.pwr.fails i 0 = f + 1 ∧ SMap.get x.pwr.oks i 0 = 0
                ∧ Dev.railState x i = if f + 1 = 10 then 2 else st)
              ∧ (reads[i]? = some .unsupported → back 3)
              ∧ (∀ eout mV mA, reads[i]? = some (.answer eout mV mA) → back 1 ∧ SMap.find x.pwr.eout i = some eout))
          ∧ frame x))
      ∧ (∀ slacks : List (BitVec 16), slacks.length = 224 → ∀ (i e : Nat), i < 16 → (Dev.rails d)[i]? = some e → railAddr e ≠ 0 →
        railMonitors e ≠ [] →
        let slack (m : Nat) : Int := ((slacks[m]?).getD 0).toInt
        let low : Prop := ∃ m ∈ railMonitors e, slack m < Dev.raisePs d m
        let calm : Prop := ∀ m ∈ railMonitors e, Dev.raisePs d m + 20 ≤ slack m
        let days := SMap.get d.pwr.calm i 0
        let lim := Dev.pointLimits d e
        let pt := Dev.point d i
        Does (.ageingReport slacks) s (fun x => frame x ∧ Dev.blob x K.ageSlack = slacks.flatMap (fun z => leBytes 2 z.toNat)
          ∧ (railAvs e = false → Dev.point x i = pt)
          ∧ (railAvs e = true → low → pt < lim.2 → Dev.point x i = min lim.2 (pt + 5))
          ∧ (railAvs e = true → low → lim.2 ≤ pt → Dev.point x i = pt ∧ i ∈ x.pwr.ceiling)
          ∧ (railAvs e = true → ¬ low → calm → 8639 ≤ days → lim.1 < pt → Dev.point x i = max lim.1 (pt - 5))
          ∧ (railAvs e = true → ¬ low → (¬ calm ∨ days < 8639 ∨ pt ≤ lim.1) → Dev.point x i = pt))))
    ∧ (∀ temps : List (BitVec 16), temps.length = 64 →
      let run (i : Nat) : Nat := if 11500 ≤ ((temps[i]?).getD 0).toInt then SMap.get d.pwr.hot i 0 + 1 else 0
      Does (.sensorSample temps) s (fun x => Dev.blob x K.thmTemps = temps.flatMap (fun z => leBytes 2 z.toNat)
        ∧ (∃ i < 64, Dev.el x K.thmMaxSensor = i ∧ Dev.elS x 32 K.thmMax = ((temps[i]?).getD 0).toInt
            ∧ ∀ j < 64, ((temps[j]?).getD 0).toInt ≤ ((temps[i]?).getD 0).toInt
              ∧ (j < i → ((temps[j]?).getD 0).toInt < ((temps[i]?).getD 0).toInt))
        ∧ (x.pwr.tripped = true ↔ ∃ i < 64, 3 ≤ run i)
        ∧ (∀ i < 64, 3 ≤ run i → (∀ j < i, run j < 3) →
            x.pwr.latch = some (i, ((temps[i]?).getD 0).toInt, Dev.el d K.lifePowerOnH) ∧ Dev.dark x = true)
        ∧ frame x))
    ∧ (∀ dm : Fin 24,
      (Dev.domain d dm = 2 → exec (.supplyLoss dm) s = .next s) ∧ (Dev.domain d dm ≠ 2 → exec (.supplyGood dm) s = .next s)
      ∧ ((Dev.blob d K.pwrDomainState).length = 24 → Dev.domain d dm ≠ 2 → Does (.supplyLoss dm) s (fun x => Dev.domain x dm = 2
          ∧ (dm.val = 0 → x.rst.porst = true ∧ frame x)
          ∧ (1 ≤ dm.val → dm.val ≤ 5 → x.rst.coreLost = true ∧ (∀ j, 1 ≤ j → j ≤ 5 → Dev.domain x j = 2) ∧ frame x)
          ∧ (6 ≤ dm.val → dm.val ≤ 21 → (∀ p ∈ tilePorts (dm.val - 6), p + Dev.portWidth d p ≤ 1024) →
              (∀ p ∈ Dev.tileAdmin d (dm.val - 6), Dev.el x (K.portDownReason p) = 7)
              ∧ ∀ q, q < 1024 → q / 64 ≠ dm.val - 6 → Dev.el x (K.portState q) = Dev.el d (K.portState q))
          ∧ (22 ≤ dm.val → ∀ k < 8, let g := (dm.val - 22) * 8 + k
              g ∈ Dev.inService d → if Dev.el d K.fwGmcuState = 0 then Dev.el x (K.gstackRetireReason g) = 3 ∧ Dev.el x (K.gstackState g) = 1
                else .retire g 3 false ∈ x.gran.later)))
      ∧ ((Dev.blob d K.pwrDomainState).length = 24 → Dev.domain d dm = 2 →
          (dm.val = 0 → Does (.supplyGood dm) s (fun x => Dev.domain x 0 = 1 ∧ frame x))
          ∧ (6 ≤ dm.val → dm.val ≤ 21 → (∀ p ∈ tilePorts (dm.val - 6), p + Dev.portWidth d p ≤ 1024) → up → Does (.supplyGood dm) s (fun x => Dev.domain x dm = 1
              ∧ ∀ p ∈ Dev.tileAdmin d (dm.val - 6), Dev.el x (K.portState p) = 1))
          ∧ (6 ≤ dm.val → ¬ up → Does (.supplyGood dm) s (fun x => Dev.domain x dm = 0 ∧ dm.val ∈ x.pwr.owed ∧ frame x))))
    ∧ (∀ t : Fin 16, let off : Prop := Dev.el d K.pwrTileIdleOff ≠ 0 ∧ Dev.tileAdmin d t = [] ∧ Dev.domain d (6 + t) = 1 ∧ up
        (off → exec (.tileIdleOff t) s = .next { s with dev := Dev.setDomain d (6 + t) 0 }) ∧ (¬ off → exec (.tileIdleOff t) s = .next s))

/-! Resets and the reference clock. -/

/-- Resets (R488 to R495, R498), the reference clock (R508). -/
def Obligations.ResetsKeepAndLoseWhatTheirKindSays : Prop :=
  ∀ (s : State),
    let d := s.dev
    let empty (x : Dev) : Prop := x.pkts = [] ∧ x.queues = [] ∧ x.pipes = [] ∧ x.ports = [] ∧ x.tbl = TableS.init ∧ x.buf = BufS.init
      ∧ x.gran = { GranS.init with failed := x.gran.failed } ∧ x.ticks = 0 ∧ x.time = TimeS.init ∧ x.prog = ProgS.init ∧ x.dma = DmaS.init
      ∧ x.rst.porst = false ∧ x.rst.armed = none ∧ x.rst.pipeMask = 0 ∧ x.rst.warmDue = false
      ∧ x.fw.running = false ∧ x.fw.booted = none ∧ x.dict.sessions = [] ∧ x.dict.waiting = []
    let setByReset (k : Nat) : Prop := k ∈ [K.resetLastKind, K.clkRootLocked, K.fwBootRecordSeq, K.fwTrialAttempts,
        K.hostMode 0, K.hostMode 1, K.mctpSmbusAddr]
      ∨ ∃ z < 3, k ∈ [K.fwslotState z, K.fwslotVersion z, K.fwslotArb z, K.fwslotKey z, K.fwslotSize z]
    (∀ lowNs < 200, exec (.porstAssert lowNs) s = .next s)
    ∧ (∀ lowNs, 200 ≤ lowNs → Does (.porstAssert lowNs) s (fun x => x.rst.porst = true ∧ x.rst.pipeMask = 0 ∧ x.rst.armed = none ∧ x.fw.restarting = false
        ∧ ((Dev.blob d K.pwrDomainState).length = 24 → Dev.domain x 0 = Dev.domain d 0
            ∧ ∀ j, 1 ≤ j → j < 24 → Dev.domain x j = if Dev.domain d j = 2 then 2 else 0)
        ∧ SameTraffic d x ∧ SameTables d x ∧ x.time = d.time ∧ x.dict.vals = d.dict.vals ∧ x.out = d.out))
    ∧ (∀ (flash : Option Reflash) (bad : Bool) (straps : Fin 16), let i : Instr := .coldReset flash bad straps
      (Dev.domain d 0 = 2 → exec i s = .next s)
      ∧ (Dev.domain d 0 ≠ 2 → ∃ x, exec i s = .next { s with epoch := 0, dev := x } ∧ empty x
          ∧ Dev.el x K.resetLastKind = Dev.coldKind d ∧ Dev.el x K.clkRootLocked = 0
          ∧ Dev.el x (K.hostMode 0) = straps.val % 2 ∧ Dev.el x (K.hostMode 1) = straps.val % 2
          ∧ Dev.el x K.mctpSmbusAddr = 0x60 + straps.val / 2
          ∧ x.gran.failed = 0 ∧ (bad = true → bit (Dev.el x K.errFatal) 3 = true)
          ∧ (bad = false → x.dict.cfgPend = [] ∧ (∀ k, keptCold k = false → ¬ setByReset k → Dev.el x k = Dict.dflt k)
              ∧ ∀ k, k ≠ K.pwrDomainState → Dev.blob x k = Dict.dfltB k)
          ∧ ((flash = none ∨ d.rst.porst = false) → x.fw.images = d.fw.images ∧ x.fw.secs = d.fw.secs ∧ x.dict.store = d.dict.store
              ∧ ∀ k, keptCold k = true → Dev.el x k = Dev.el d k)
          ∧ (∀ f, flash = some f → d.rst.porst = true → x.fw.secs = { s0 := BootSec.ofBytes f.sec0, s1 := BootSec.ofBytes f.sec1 }
              ∧ x.dict.store = [])
          ∧ x.pwr.latch = d.pwr.latch ∧ x.pwr.tripped = false ∧ bit x.err.sticky 3 = bad
          ∧ ∀ j, 1 ≤ j → j < 24 → Dev.domain x j = if Dev.domain d j = 2 then 2 else 0))
    ∧ (s.lit →
      (∀ src : Source,
        (s.grants (.warmArm src) → Does (.warmArm src) s (fun x => x.rst.armed = some (clsFrom (Source.cls src))
            ∧ SameTraffic d x ∧ SameTables d x ∧ x.time = d.time ∧ x.dict.vals = d.dict.vals ∧ x.out = d.out ++ [.reply src 0 []]))
        ∧ (∀ (seq : Fin 4294967296) (straps : Fin 16), let i : Instr := .warmReset src seq straps
          (Dev.el d K.resetWarmSeq ≠ seq.val → s.grants i → d.rst.armed = some (clsFrom (Source.cls src))
            ∧ ∃ x, exec i s = .next { s with epoch := 0, dev := x } ∧ empty x ∧ x.dict.cfgPend = [] ∧ Dev.el x K.resetLastKind = 2
              ∧ Dev.el x (K.hostMode 0) = straps.val % 2 ∧ Dev.el x (K.hostMode 1) = straps.val % 2
              ∧ Dev.el x K.mctpSmbusAddr = 0x60 + straps.val / 2 ∧ x.gran.failed = d.gran.failed
              ∧ x.pwr = { d.pwr with queueUj := [], carry := [], peaked := false } ∧ x.mgmt.m0 = d.mgmt.m0 ∧ x.mgmt.m1 = d.mgmt.m1 ∧ x.mgmt.b0 = d.mgmt.b0 ∧ x.mgmt.kept = [] ∧ x.fw.images = d.fw.images ∧ x.fw.secs = d.fw.secs
              ∧ x.dict.store = d.dict.store ∧ x.out = d.out ++ [.reply src 0 []]
              ∧ (∀ k, ¬ setByReset k → Dev.el x k = if keptWarm k then Dev.el d k else Dict.dflt k))
          ∧ (∀ row, Dev.present d src = true → d.rst.armed ≠ some (clsFrom (Source.cls src)) → d.fw.running = true → d.rst.warmDue = false →
              Dev.checkTarget d (Source.cls src) (keyObj K.resetWarmSeq) (keyEl K.resetWarmSeq) = .inl row →
              exec i s = .next { s with dev := Dev.reply d src 2 [] }))
        ∧ (∀ (mask : BitVec 16) (seq : Fin 4294967296), Dev.el d K.resetPipeSeq ≠ seq.val → s.grants (.pipeReset src mask seq) →
            let m := mask.toNat
            let busy : Prop := d.prog.flip ≠ 0 ∨ ∃ l, d.prog.load = some l ∧ ∃ y ∈ l.images, bit m y.1 = true
            let calm (x : Dev) : Prop := x.pkts = d.pkts ∧ x.queues = d.queues ∧ x.ports = d.ports ∧ x.buf = d.buf ∧ x.gran = d.gran ∧ SameTables d x
            (m = 0 → Does (.pipeReset src mask seq) s (fun x => Dev.el x K.resetPipeStatus = 3 ∧ x.pipes = d.pipes ∧ x.rst = { d.rst with warmDue := false } ∧ calm x))
            ∧ (m ≠ 0 → busy → Does (.pipeReset src mask seq) s (fun x =>
                Dev.el x K.resetPipeStatus = 2 ∧ x.pipes = d.pipes ∧ x.rst = { d.rst with warmDue := false } ∧ calm x))
            ∧ (m ≠ 0 → ¬ busy → Does (.pipeReset src mask seq) s (fun x => Dev.el x K.resetPipeStatus = 1 ∧ x.rst.pipeMask = m
                ∧ (∀ n < 16, Dev.pipe x n = if bit m n then { Dev.pipe d n with stopped := true } else Dev.pipe d n) ∧ calm x))))
      ∧ exec .warmArmExpire s = .next { s with dev := { d with rst := { d.rst with armed := none } } }
      ∧ (d.rst.pipeMask = 0 → exec .pipeResetDone s = .next s)
      ∧ (d.rst.pipeMask ≠ 0 → Does .pipeResetDone s (fun x => x.rst.pipeMask = 0 ∧ Dev.el x K.resetPipeStatus = 0
          ∧ Dev.el x K.resetPipeCount = (Dev.el d K.resetPipeCount + 1) % 2 ^ 32
          ∧ Dev.el x K.resetPipeLastNs = (d.ticks - d.rst.pipeAt) * 32 / 25 % 2 ^ 32
          ∧ (∀ n < 16, Dev.pipe x n = if bit d.rst.pipeMask n then
              { Dev.pipe d n with stopped := false, rrPort := 63, slotCount := 0, injNext := false } else Dev.pipe d n)
          ∧ (∀ q, (Dev.queue x q).items = (Dev.queue d q).items) ∧ x.pkts = d.pkts ∧ x.buf = d.buf ∧ x.gran = d.gran ∧ SameTables d x)))
    ∧ (Dev.held d = false →
      (d.rst.refBad = true → exec .rootPllLock s = .next s ∧ (∀ t f, exec (.refClockFault t f) s = .next s)
          ∧ exec .refClockReturn s = .next { s with dev := Dev.setEl { d with rst := { d.rst with refBad := false } } K.clkRootLocked 1 })
      ∧ (d.rst.refBad = false → exec .rootPllLock s = .next { s with dev := Dev.setEl d K.clkRootLocked 1 }
          ∧ exec .refClockReturn s = .next s
          ∧ (∀ t f, t < 100 → -200 ≤ f → f ≤ 200 → exec (.refClockFault t f) s = .next s)
          ∧ ∀ t f, (100 ≤ t ∨ f < -200 ∨ 200 < f) → Does (.refClockFault t f) s (fun x => x.rst.refBad = true ∧ Dev.el x K.clkRootLocked = 0
              ∧ Dev.el x K.clkRefFaults = (Dev.el d K.clkRefFaults + 1) % 2 ^ 32 ∧ bit (Dev.el x K.errFatal) 4 = true
              ∧ (bit (Dev.el d K.errFatal) 4 = false → (Dev.hp x 0).evtCause.getLsbD 3 = true ∧ (Dev.hp x 1).evtCause.getLsbD 3 = true)
              ∧ SameTraffic d x ∧ SameTables d x ∧ x.time = d.time)))

/-! Errors, crash records, service life, exhaustion. -/

/-- Errors, life, exhaustion (R502 to R516). -/
def Obligations.ScrubsFatalsCrashesAndLifeKeepTheirBooks : Prop :=
  ∀ (s : State), s.lit →
    let d := s.dev
    let frame (x : Dev) : Prop := SameTraffic d x ∧ SameTables d x ∧ x.time = d.time
    let plus (k : Nat) (x : Dev) : Prop := Dev.el x k = (Dev.el d k + 1) % 2 ^ 64
    exec (.bankScrub []) s = .next s ∧ exec (.shadowScrub []) s = .next s
    ∧ (∀ w ws t, exec (.bankScrub [w]) s = .next t → exec (.bankScrub (w :: ws)) s = exec (.bankScrub ws) t)
    ∧ (∀ u us t, exec (.shadowScrub [u]) s = .next t → exec (.shadowScrub (u :: us)) s = exec (.shadowScrub us) t)
    ∧ (∀ w : BankWord,
      let n := w.pipe.val
      let here := (w.bank.val, w.sect.val, w.index.val)
      -- the word is good in one copy, or in the other bank of a pipeline whose idle bank is a copy of the active one
      let mended : Prop := (w.both = false ∧ here ∉ (Dev.pipe d n).badWords)
        ∨ (Dev.el d (K.bankIdleState n) = 0 ∧ (1 - w.bank.val, w.sect.val, w.index.val) ∉ (Dev.pipe d n).badWords)
      (mended → Does (.bankScrub [w]) s (fun x => plus K.errBankRepairs x ∧ plus K.errCorrected x
          ∧ Dev.pipe x n = { Dev.pipe d n with badWords := (Dev.pipe d n).badWords.filter (fun y => y != here) }
          ∧ (∀ m, m ≠ n → Dev.pipe x m = Dev.pipe d m) ∧ x.pkts = d.pkts ∧ x.queues = d.queues ∧ x.ports = d.ports ∧ x.buf = d.buf
          ∧ x.gran = d.gran ∧ x.sched = d.sched ∧ SameTables d x ∧ x.time = d.time))
      ∧ (¬ mended → here ∈ (Dev.pipe d n).badWords → exec (.bankScrub [w]) s = .next s)
      ∧ (¬ mended → here ∉ (Dev.pipe d n).badWords → Does (.bankScrub [w]) s (fun x =>
          Dev.pipe x n = { Dev.pipe d n with badWords := (Dev.pipe d n).badWords ++ [here] } ∧ (∀ m, m ≠ n → Dev.pipe x m = Dev.pipe d m)
          ∧ plus K.errContained x ∧ (Dev.hp x 0).evtCause.getLsbD 2 = true ∧ (Dev.hp x 1).evtCause.getLsbD 2 = true
          ∧ x.pkts = d.pkts ∧ x.queues = d.queues ∧ SameTables d x)))
    ∧ (∀ u : ShadowUnit, Does (.shadowScrub [(u, false)]) s (fun x => plus K.errShadowRepairs x ∧ plus K.errCorrected x ∧ frame x)
      ∧ Does (.shadowScrub [(u, true)]) s (fun x => plus K.errShadowRepairs x ∧ plus K.errContained x ∧ x.pkts = d.pkts ∧ x.pipes = d.pipes
          ∧ match u with
            | .winnow p r => x.tbl = { d.tbl with win := d.tbl.win.filter (fun y => decide (y.pipe ≠ p.val ∨ y.rule ≠ r.val)) } ∧ SameTraffic d x
            | .tcam e => x.tbl = { d.tbl with tcam := d.tbl.tcam.filter (fun y => decide (y.entry ≠ e.val)) } ∧ SameTraffic d x
            | .mcList g => Dev.mcList x g = [] ∧ (∀ h, h ≠ g.val → Dev.mcList x h = Dev.mcList d h) ∧ SameTables d x
            | .policer i => polRate (Dev.policer x i).cfg = 0 ∧ (∀ j, j ≠ i.val → Dev.policer x j = Dev.policer d j) ∧ SameTables d x
            | .qShaper n => Dev.qRate x n = 0 ∧ SameTables d x
            | .pShaper p => Dev.pRate x p = 0 ∧ SameTables d x))
    ∧ Does .fatalCheck s (fun x => (∀ b < 9, bit (Dev.el x K.errFatal) b = (bit (Dev.el d K.errFatal) b || Dev.fatalHolds d b)) ∧ frame x
        ∧ ((∃ b < 9, bit (Dev.el d K.errFatal) b = false ∧ Dev.fatalHolds d b = true) →
            (Dev.hp x 0).evtCause.getLsbD 3 = true ∧ (Dev.hp x 1).evtCause.getLsbD 3 = true))
    ∧ (∀ src : Source,
      (∀ mask : BitVec 64, s.grants (.fatalClear src mask) → Does (.fatalClear src mask) s (fun x =>
          (∀ b < 9, bit (Dev.el x K.errFatal) b = (bit (Dev.el d K.errFatal) b && !mask.getLsbD b)) ∧ frame x))
      ∧ (s.grants (.crashCapture src) → d.err.crashAt ≠ some d.ticks → Does (.crashCapture src) s (fun x => plus K.errCrashCount x
          ∧ (Dev.blob x K.errCrashLast).length = 256 ∧ (Dev.blob x K.errCrashLast).take 6 = leBytes 4 0x43525348 ++ [1, 8]
          ∧ (∃ y ∈ x.dict.cfgPend, y.id = K.errCrashLast)
          ∧ (Dev.granUp d = true → SMap.find x.err.crashes (Dev.el d K.errCrashCount) =
              some { hdr := Dev.blob x K.errCrashLast, log := d.err.log, notices := d.err.notices })
          ∧ (Dev.granUp d = false → x.err.crashes = d.err.crashes) ∧ frame x))
      ∧ (s.grants (.crashCapture src) → d.err.crashAt = some d.ticks → Does (.crashCapture src) s (fun x =>
          Dev.el x K.errCrashCount = Dev.el d K.errCrashCount
          ∧ (let h := Dev.blob d K.errCrashLast
             Dev.blob x K.errCrashLast = splice h 5 [BitVec.ofNat 8 (byteAt h 5 ||| 8)])
          ∧ (∃ y ∈ x.dict.cfgPend, y.id = K.errCrashLast) ∧ frame x))
      ∧ (∀ (index : BitVec 64) (seq : Fin 4294967296), Dev.el d K.errCrashSeq ≠ seq.val → s.grants (.crashRead src index seq) →
          let held : Prop := Dev.granUp d = true ∧ Dev.el d K.errCrashCount ≤ index.toNat + Dev.crashRoom d
          (∀ c, SMap.find d.err.crashes index.toNat = some c → held → Does (.crashRead src index seq) s (fun x =>
              Dev.el x K.errCrashStatus = 0 ∧ Dev.blob x K.errCrashRecord = crashBytes c ∧ x.err = d.err ∧ frame x))
          ∧ ((SMap.find d.err.crashes index.toNat = none ∨ ¬ held) → Does (.crashRead src index seq) s (fun x =>
              Dev.el x K.errCrashStatus = 2 ∧ x.dict.blobs = d.dict.blobs ∧ x.err = d.err ∧ frame x))))
    ∧ Does .lifeHour s (fun x => Dev.el x K.lifePowerOnH = (Dev.el d K.lifePowerOnH + 1) % 2 ^ 32
        ∧ d.err.lifeAcc + 2 ^ 30 ≤ x.err.lifeAcc ∧ Dev.el x K.errLifeEquivH = x.err.lifeAcc / 2 ^ 32 % 2 ^ 32
        ∧ (d.err.hourN = 0 → Dev.elS d 32 K.thmMax ≤ 6500 → x.err.lifeAcc = d.err.lifeAcc + 2 ^ 30)
        ∧ (d.err.hourN = 0 → Dev.elS d 32 K.thmMax = 8500 → x.err.lifeAcc = d.err.lifeAcc + 2 ^ 32)
        ∧ (∃ y ∈ x.dict.cfgPend, y.id = K.lifePowerOnH ∧ y.part = some (leBytes 4 (Dev.el x K.lifePowerOnH)))
        ∧ (∃ y ∈ x.dict.cfgPend, y.id = K.errLifeEquivH) ∧ frame x)
    ∧ Does .exhaustCheck s (fun x => frame x ∧ x.err.days = []
        ∧ ∀ r < 12, r ≠ 4 → r ≠ 6 →
          let warn := Dev.el d K.errExhaustWarnPct
          let reaches (w : Nat) : Prop := ∃ y ∈ Dev.inUse d r, 0 < y.2 ∧ w * y.2 ≤ 100 * y.1
          let st := SMap.get d.err.exState r 0
          SMap.get x.err.exUtil r 0 = min (Dev.util d r) 65535
          ∧ (st ≠ 2 → Dev.dayCome d r = true → SMap.get x.err.exState r 0 = 2)
          ∧ (st = 0 → Dev.dayCome d r = false → (reaches warn → SMap.get x.err.exState r 0 = 1) ∧ (¬ reaches warn → SMap.get x.err.exState r 0 = 0))
          ∧ (st ≠ 0 → Dev.dayCome d r = false → (reaches (warn - 5) → SMap.get x.err.exState r 0 = st)
            ∧ (¬ reaches (warn - 5) → SMap.get x.err.exState r 0 = 0))
          ∧ (st = 2 → Dev.dayCome d r = true → SMap.get x.err.exState r 0 = 2))

/-! Port and tile registers; malformed doorbells. -/

/-- Registers of ports, lanes and tiles (R39 to R56, R187, R456). -/
def Obligations.PortAndTileRegistersAct : Prop :=
  ∀ (src : Source) (s : State),
    let d := s.dev
    let replies (x : Dev) : Prop := x.out = d.out ++ [.reply src 0 []]
    let others (p : Nat) (x : Dev) : Prop := ∀ q, q < 1024 → q ≠ p → Dev.el x (K.portState q) = Dev.el d (K.portState q) ∧ Dev.linkS x q = Dev.linkS d q
    (∀ p : Fin 1024, p.val + Dev.portWidth d p ≤ 1024 →
      (s.grants (.portAdminUp src p) → Dev.el d (K.portAdmin p) = 0 → Does (.portAdminUp src p) s (fun x => Dev.el x (K.portAdmin p) = 1
          ∧ Dev.el x (K.portState p) = 1 ∧ Dev.linkS x p = LinkS.init ∧ others p x ∧ replies x ∧ SameTraffic d x ∧ SameTables d x
          ∧ ((Dev.blob d K.pwrDomainState).length = 24 → Dev.domain d (6 + p.val / 64) = 0 → Dev.el d K.fwPctlState = 0 →
              Dev.domain x (6 + p.val / 64) = 1 ∧ Dev.el x (K.tileMcuState (p.val / 64)) = 1)))
      ∧ (s.grants (.portAdminUp src p) → Dev.el d (K.portAdmin p) = 1 → Does (.portAdminUp src p) s (fun x =>
          Dev.el x (K.portState p) = Dev.el d (K.portState p) ∧ x.lanes = d.lanes ∧ (∀ k, Dev.el x k = Dev.el d k) ∧ replies x
          ∧ SameTraffic d x ∧ SameTables d x))
      ∧ (s.grants (.portAdminDown src p) → Dev.el d (K.portAdmin p) = 1 → Does (.portAdminDown src p) s (fun x =>
          Dev.el x (K.portAdmin p) = 0 ∧ Dev.el x (K.portState p) = 0 ∧ Dev.el x (K.portDownReason p) = 10 ∧ Dev.linkS x p = LinkS.init
          ∧ (Dev.port x p).tx = none ∧ (Dev.port x p).sel = []
          ∧ (∀ q < 16, let y := Dev.queue x (p.val * 16 + q)
              y.items = [] ∧ y.held = true ∧ y.flushing = true)
          ∧ ∀ q, q < 1024 → q ≠ p.val → Dev.el x (K.portState q) = Dev.el d (K.portState q))))
    ∧ (∀ (t : Fin 16) (reach : Fin 256), s.grants (.tileReachWrite src t reach) → Dev.tileAdmin d t = []
        ∧ Does (.tileReachWrite src t reach) s (fun x => Dev.el x (K.tileReach t) = reach.val ∧ OnlyEls [K.tileReach t] d x ∧ x.lanes = d.lanes
            ∧ replies x ∧ SameTraffic d x ∧ SameTables d x))
    ∧ (∀ lane : Fin 1024, s.grants (.laneAdaptRestart src lane) →
        let runs : Prop := ∃ p, Dev.laneOwner d lane = some p ∧ Dev.el d (K.portState p) = 5 ∧ Dev.el d (K.laneAdaptFreeze lane) = 0
          ∧ Dev.el d (K.tileMcuState (lane.val / 64)) = 0
        (runs → Does (.laneAdaptRestart src lane) s (fun x => Dev.el x (K.laneAdaptState lane) = 1 ∧ SMap.find x.lanes.adapting lane = some true
            ∧ OnlyEls [K.laneAdaptState lane] d x ∧ replies x ∧ SameTraffic d x ∧ SameTables d x))
        ∧ (¬ runs → Does (.laneAdaptRestart src lane) s (fun x => x.lanes = d.lanes ∧ x.dict.vals = d.dict.vals ∧ replies x
            ∧ SameTraffic d x ∧ SameTables d x)))
    ∧ (∀ t : Fin 16, s.grants (.tileSeedSave src t) → Does (.tileSeedSave src t) s (fun x =>
        (∃ kept : List (List Byte), (∀ e ∈ kept, e ∈ seedEntries (Dev.blob d (K.tileSeedStore t)))
          ∧ Dev.blob x (K.tileSeedStore t) = kept.flatten ++ (Dev.tileUp d t).flatMap (fun p => (Dev.portLanes d p).flatMap (fun n =>
              seedEntry n (Dev.el d (K.tileReach t)) (Dev.portRate d p) (Dev.laneCtle d n) (Dev.blob x (K.laneFfe n)))))
        ∧ Dev.blobIn x (K.tileSeedStore t) = Dev.blob x (K.tileSeedStore t) ∧ (∃ y ∈ x.dict.cfgPend, y.id = K.tileSeedStore t)
        ∧ x.lanes = d.lanes ∧ x.dict.vals = d.dict.vals ∧ replies x ∧ SameTraffic d x ∧ SameTables d x))

/-- R358. -/
def Obligations.MalformedDoorbellsLatchTheirIndexAndLeaveTheProducer : Prop :=
  ∀ (p : Fin 2) (q : Fin 2048) (v : BitVec 32) (s : State), s.lit → Dev.hostExists s.dev p = true →
    let d := s.dev
    let c := Dev.el d (K.dqSqCons q)
    let new := v.toNat % 65536
    Dev.dqHp d q = p.val → (Dev.dqSt d q = 1 ∨ Dev.dqSt d q = 2 ∨ Dev.dqSt d q = 3) →
    (65536 ≤ v.toNat ∨ 2 ^ ctxSqLog (Dev.dq d q).ctx < idxSub new c ∨ idxSub new c < idxSub (Dev.el d (K.dqSqProd q)) c) →
      Does (.doorbell p (q.val * 4096) 4 v.toNat) s (fun x =>
        Dev.el x (K.dqErrIndex q) = new ∧ Dev.el x (K.dqSqProd q) = Dev.el d (K.dqSqProd q))

end
end

