-- ==== Sys2Proof/Laws/SMap.lean ====
section
/-! SUPPORT. What the operations of a sparse map do to a key, and that each keeps the canonical form. -/
namespace Sys2Proof.Machine

theorem SMap.get_ins_same {α : Type} (m : SMap α) (k : Nat) (v d : α) : SMap.get (SMap.ins m k v) k d = v := by
  induction m with
  | nil => simp [SMap.ins, SMap.get]
  | cons x t ih =>
    obtain ⟨k', v'⟩ := x
    simp only [SMap.ins]
    split
    · simp [SMap.get]
    · split
      · simp [SMap.get]
      · simp [SMap.get, Ne.symm ‹¬k = k'›, ih]

theorem SMap.get_ins_ne {α : Type} (m : SMap α) (k j : Nat) (v d : α) (h : j ≠ k) :
    SMap.get (SMap.ins m k v) j d = SMap.get m j d := by
  induction m with
  | nil => simp [SMap.ins, SMap.get, Ne.symm h]
  | cons x t ih =>
    obtain ⟨k', v'⟩ := x
    simp only [SMap.ins]
    split
    · simp [SMap.get, Ne.symm h]
    · split
      · subst ‹k = k'›
        simp [SMap.get, Ne.symm h]
      · simp [SMap.get, ih]

theorem SMap.find_ins_same {α : Type} (m : SMap α) (k : Nat) (v : α) : SMap.find (SMap.ins m k v) k = some v := by
  induction m with
  | nil => simp [SMap.ins, SMap.find]
  | cons x t ih =>
    obtain ⟨k', v'⟩ := x
    simp only [SMap.ins]
    split
    · simp [SMap.find]
    · split
      · simp [SMap.find]
      · simp [SMap.find, Ne.symm ‹¬k = k'›, ih]

theorem SMap.find_ins_ne {α : Type} (m : SMap α) (k j : Nat) (v : α) (h : j ≠ k) :
    SMap.find (SMap.ins m k v) j = SMap.find m j := by
  induction m with
  | nil => simp [SMap.ins, SMap.find, Ne.symm h]
  | cons x t ih =>
    obtain ⟨k', v'⟩ := x
    simp only [SMap.ins]
    split
    · simp [SMap.find, Ne.symm h]
    · split
      · subst ‹k = k'›
        simp [SMap.find, Ne.symm h]
      · simp [SMap.find, ih]

theorem SMap.find_del_same {α : Type} (m : SMap α) (k : Nat) : SMap.find (SMap.del m k) k = none := by
  induction m with
  | nil => simp [SMap.del, SMap.find]
  | cons x t ih =>
    obtain ⟨k', v'⟩ := x
    simp only [SMap.del]
    split
    · exact ih
    · simp [SMap.find, *]

theorem SMap.find_del_ne {α : Type} (m : SMap α) (k j : Nat) (h : j ≠ k) :
    SMap.find (SMap.del m k) j = SMap.find m j := by
  induction m with
  | nil => simp [SMap.del, SMap.find]
  | cons x t ih =>
    obtain ⟨k', v'⟩ := x
    simp only [SMap.del]
    split
    · subst ‹k' = k›
      simp [SMap.find, Ne.symm h, ih]
    · simp [SMap.find, ih]

theorem SMap.get_del_same {α : Type} (m : SMap α) (k : Nat) (d : α) : SMap.get (SMap.del m k) k d = d := by
  induction m with
  | nil => simp [SMap.del, SMap.get]
  | cons x t ih =>
    obtain ⟨k', v'⟩ := x
    simp only [SMap.del]
    split
    · exact ih
    · simp [SMap.get, *]

theorem SMap.get_del_ne {α : Type} (m : SMap α) (k j : Nat) (d : α) (h : j ≠ k) :
    SMap.get (SMap.del m k) j d = SMap.get m j d := by
  induction m with
  | nil => simp [SMap.del, SMap.get]
  | cons x t ih =>
    obtain ⟨k', v'⟩ := x
    simp only [SMap.del]
    split
    · subst ‹k' = k›
      simp [SMap.get, Ne.symm h, ih]
    · simp [SMap.get, ih]

@[simp] theorem SMap.get_set_same {α : Type} [DecidableEq α] (m : SMap α) (k : Nat) (v d : α) :
    SMap.get (SMap.set m k v d) k d = v := by
  unfold SMap.set
  split
  · rw [SMap.get_del_same]; exact (‹v = d›).symm
  · exact SMap.get_ins_same m k v d

theorem SMap.get_set_ne {α : Type} [DecidableEq α] (m : SMap α) (k j : Nat) (v d d' : α) (h : j ≠ k) :
    SMap.get (SMap.set m k v d) j d' = SMap.get m j d' := by
  unfold SMap.set
  split
  · exact SMap.get_del_ne m k j d' h
  · exact SMap.get_ins_ne m k j v d' h

theorem SMap.find_put_same {α : Type} (m : SMap α) (k : Nat) (v : Option α) : SMap.find (SMap.put m k v) k = v := by
  cases v with
  | none => exact SMap.find_del_same m k
  | some a => exact SMap.find_ins_same m k a

theorem SMap.find_put_ne {α : Type} (m : SMap α) (k j : Nat) (v : Option α) (h : j ≠ k) :
    SMap.find (SMap.put m k v) j = SMap.find m j := by
  cases v with
  | none => exact SMap.find_del_ne m k j h
  | some a => exact SMap.find_ins_ne m k j a h

/-! The canonical form. -/

theorem SMap.wfFrom_mono {α : Type} [DecidableEq α] {d : α} {lo lo' : Nat} {m : SMap α} (h : lo' ≤ lo)
    (w : SMap.wfFrom d lo m = true) : SMap.wfFrom d lo' m = true := by
  cases m with
  | nil => rfl
  | cons x t =>
    obtain ⟨k', v'⟩ := x
    simp only [SMap.wfFrom, Bool.and_eq_true, decide_eq_true_eq] at w ⊢
    exact ⟨⟨by omega, w.1.2⟩, w.2⟩

theorem SMap.wfFrom_del {α : Type} [DecidableEq α] {d : α} {lo : Nat} {m : SMap α} (k : Nat)
    (w : SMap.wfFrom d lo m = true) : SMap.wfFrom d lo (SMap.del m k) = true := by
  induction m generalizing lo with
  | nil => rfl
  | cons x t ih =>
    obtain ⟨k', v'⟩ := x
    simp only [SMap.wfFrom, Bool.and_eq_true, decide_eq_true_eq] at w
    simp only [SMap.del]
    split
    · exact SMap.wfFrom_mono (by omega) (ih w.2)
    · simp only [SMap.wfFrom, Bool.and_eq_true, decide_eq_true_eq]
      exact ⟨w.1, ih w.2⟩

theorem SMap.wfFrom_ins {α : Type} [DecidableEq α] {d : α} {lo : Nat} {m : SMap α} (k : Nat) (v : α) (hk : lo ≤ k)
    (hv : v ≠ d) (w : SMap.wfFrom d lo m = true) : SMap.wfFrom d lo (SMap.ins m k v) = true := by
  induction m generalizing lo with
  | nil => simp [SMap.ins, SMap.wfFrom, hk, hv]
  | cons x t ih =>
    obtain ⟨k', v'⟩ := x
    simp only [SMap.wfFrom, Bool.and_eq_true, decide_eq_true_eq] at w
    simp only [SMap.ins]
    split
    · simp only [SMap.wfFrom, Bool.and_eq_true, decide_eq_true_eq]
      exact ⟨⟨hk, hv⟩, ⟨by omega, w.1.2⟩, w.2⟩
    · split
      · simp only [SMap.wfFrom, Bool.and_eq_true, decide_eq_true_eq]
        subst ‹k = k'›
        exact ⟨⟨hk, hv⟩, w.2⟩
      · simp only [SMap.wfFrom, Bool.and_eq_true, decide_eq_true_eq]
        exact ⟨w.1, ih (by omega) w.2⟩

/-- Removing a key keeps the canonical form. -/
theorem SMap.wf_del {α : Type} [DecidableEq α] {d : α} {m : SMap α} (k : Nat) (w : SMap.wf d m = true) :
    SMap.wf d (SMap.del m k) = true := SMap.wfFrom_del k w

/-- Writing keeps the canonical form. -/
theorem SMap.wf_set {α : Type} [DecidableEq α] {d : α} {m : SMap α} (k : Nat) (v : α) (w : SMap.wf d m = true) :
    SMap.wf d (SMap.set m k v d) = true := by
  unfold SMap.set
  split
  · exact SMap.wfFrom_del k w
  · exact SMap.wfFrom_ins k v (Nat.zero_le k) ‹¬v = d› w

/-- Two maps in canonical form that read alike at every key are the same list. -/
theorem SMap.get_below {α : Type} [DecidableEq α] {d : α} {lo k : Nat} {m : SMap α} (w : SMap.wfFrom d lo m = true)
    (h : k < lo) : SMap.get m k d = d := by
  induction m generalizing lo with
  | nil => rfl
  | cons x t ih =>
    obtain ⟨k', v'⟩ := x
    simp only [SMap.wfFrom, Bool.and_eq_true, decide_eq_true_eq] at w
    simp only [SMap.get, if_neg (show ¬k' = k by omega)]
    exact ih w.2 (by omega)

end Sys2Proof.Machine
end

