-- ==== Sys2Proof/Laws/State.lean ====
section
/-! SUPPORT. One lemma for each field of the part and each update that leaves it alone. -/
namespace Sys2Proof.Machine

@[simp] theorem Dev.emit_ticks (d : Dev) (o : Out) :
    (Dev.emit d o).ticks = d.ticks := rfl
@[simp] theorem Dev.emit_free (d : Dev) (o : Out) :
    (Dev.emit d o).free = d.free := rfl
@[simp] theorem Dev.emit_dict (d : Dev) (o : Out) :
    (Dev.emit d o).dict = d.dict := rfl
@[simp] theorem Dev.emit_time (d : Dev) (o : Out) :
    (Dev.emit d o).time = d.time := rfl
@[simp] theorem Dev.emit_tel (d : Dev) (o : Out) :
    (Dev.emit d o).tel = d.tel := rfl
@[simp] theorem Dev.emit_err (d : Dev) (o : Out) :
    (Dev.emit d o).err = d.err := rfl
@[simp] theorem Dev.emit_hostA (d : Dev) (o : Out) :
    (Dev.emit d o).hostA = d.hostA := rfl
@[simp] theorem Dev.emit_hostB (d : Dev) (o : Out) :
    (Dev.emit d o).hostB = d.hostB := rfl
@[simp] theorem Dev.emit_pipes (d : Dev) (o : Out) :
    (Dev.emit d o).pipes = d.pipes := rfl
@[simp] theorem Dev.emit_tbl (d : Dev) (o : Out) :
    (Dev.emit d o).tbl = d.tbl := rfl
@[simp] theorem Dev.emit_pkts (d : Dev) (o : Out) :
    (Dev.emit d o).pkts = d.pkts := rfl
@[simp] theorem Dev.emit_nextPkt (d : Dev) (o : Out) :
    (Dev.emit d o).nextPkt = d.nextPkt := rfl
@[simp] theorem Dev.emit_queues (d : Dev) (o : Out) :
    (Dev.emit d o).queues = d.queues := rfl
@[simp] theorem Dev.emit_ports (d : Dev) (o : Out) :
    (Dev.emit d o).ports = d.ports := rfl
@[simp] theorem Dev.emit_buf (d : Dev) (o : Out) :
    (Dev.emit d o).buf = d.buf := rfl
@[simp] theorem Dev.emit_gran (d : Dev) (o : Out) :
    (Dev.emit d o).gran = d.gran := rfl
@[simp] theorem Dev.emit_sched (d : Dev) (o : Out) :
    (Dev.emit d o).sched = d.sched := rfl
@[simp] theorem Dev.emit_lanes (d : Dev) (o : Out) :
    (Dev.emit d o).lanes = d.lanes := rfl
@[simp] theorem Dev.emit_dma (d : Dev) (o : Out) :
    (Dev.emit d o).dma = d.dma := rfl
@[simp] theorem Dev.emit_prog (d : Dev) (o : Out) :
    (Dev.emit d o).prog = d.prog := rfl
@[simp] theorem Dev.emit_mgmt (d : Dev) (o : Out) :
    (Dev.emit d o).mgmt = d.mgmt := rfl
@[simp] theorem Dev.emit_fw (d : Dev) (o : Out) :
    (Dev.emit d o).fw = d.fw := rfl
@[simp] theorem Dev.emit_pwr (d : Dev) (o : Out) :
    (Dev.emit d o).pwr = d.pwr := rfl
@[simp] theorem Dev.emit_rst (d : Dev) (o : Out) :
    (Dev.emit d o).rst = d.rst := rfl

@[simp] theorem Dev.useFree_ticks (d : Dev) :
    (Dev.useFree d).ticks = d.ticks := rfl
@[simp] theorem Dev.useFree_out (d : Dev) :
    (Dev.useFree d).out = d.out := rfl
@[simp] theorem Dev.useFree_dict (d : Dev) :
    (Dev.useFree d).dict = d.dict := rfl
@[simp] theorem Dev.useFree_time (d : Dev) :
    (Dev.useFree d).time = d.time := rfl
@[simp] theorem Dev.useFree_tel (d : Dev) :
    (Dev.useFree d).tel = d.tel := rfl
@[simp] theorem Dev.useFree_err (d : Dev) :
    (Dev.useFree d).err = d.err := rfl
@[simp] theorem Dev.useFree_hostA (d : Dev) :
    (Dev.useFree d).hostA = d.hostA := rfl
@[simp] theorem Dev.useFree_hostB (d : Dev) :
    (Dev.useFree d).hostB = d.hostB := rfl
@[simp] theorem Dev.useFree_pipes (d : Dev) :
    (Dev.useFree d).pipes = d.pipes := rfl
@[simp] theorem Dev.useFree_tbl (d : Dev) :
    (Dev.useFree d).tbl = d.tbl := rfl
@[simp] theorem Dev.useFree_pkts (d : Dev) :
    (Dev.useFree d).pkts = d.pkts := rfl
@[simp] theorem Dev.useFree_nextPkt (d : Dev) :
    (Dev.useFree d).nextPkt = d.nextPkt := rfl
@[simp] theorem Dev.useFree_queues (d : Dev) :
    (Dev.useFree d).queues = d.queues := rfl
@[simp] theorem Dev.useFree_ports (d : Dev) :
    (Dev.useFree d).ports = d.ports := rfl
@[simp] theorem Dev.useFree_buf (d : Dev) :
    (Dev.useFree d).buf = d.buf := rfl
@[simp] theorem Dev.useFree_gran (d : Dev) :
    (Dev.useFree d).gran = d.gran := rfl
@[simp] theorem Dev.useFree_sched (d : Dev) :
    (Dev.useFree d).sched = d.sched := rfl
@[simp] theorem Dev.useFree_lanes (d : Dev) :
    (Dev.useFree d).lanes = d.lanes := rfl
@[simp] theorem Dev.useFree_dma (d : Dev) :
    (Dev.useFree d).dma = d.dma := rfl
@[simp] theorem Dev.useFree_prog (d : Dev) :
    (Dev.useFree d).prog = d.prog := rfl
@[simp] theorem Dev.useFree_mgmt (d : Dev) :
    (Dev.useFree d).mgmt = d.mgmt := rfl
@[simp] theorem Dev.useFree_fw (d : Dev) :
    (Dev.useFree d).fw = d.fw := rfl
@[simp] theorem Dev.useFree_pwr (d : Dev) :
    (Dev.useFree d).pwr = d.pwr := rfl
@[simp] theorem Dev.useFree_rst (d : Dev) :
    (Dev.useFree d).rst = d.rst := rfl

@[simp] theorem Dev.setBase_ticks (d : Dev) (b : Nat) (t : TimeBase) :
    (Dev.setBase d b t).ticks = d.ticks := rfl
@[simp] theorem Dev.setBase_free (d : Dev) (b : Nat) (t : TimeBase) :
    (Dev.setBase d b t).free = d.free := rfl
@[simp] theorem Dev.setBase_out (d : Dev) (b : Nat) (t : TimeBase) :
    (Dev.setBase d b t).out = d.out := rfl
@[simp] theorem Dev.setBase_dict (d : Dev) (b : Nat) (t : TimeBase) :
    (Dev.setBase d b t).dict = d.dict := rfl
@[simp] theorem Dev.setBase_tel (d : Dev) (b : Nat) (t : TimeBase) :
    (Dev.setBase d b t).tel = d.tel := rfl
@[simp] theorem Dev.setBase_err (d : Dev) (b : Nat) (t : TimeBase) :
    (Dev.setBase d b t).err = d.err := rfl
@[simp] theorem Dev.setBase_hostA (d : Dev) (b : Nat) (t : TimeBase) :
    (Dev.setBase d b t).hostA = d.hostA := rfl
@[simp] theorem Dev.setBase_hostB (d : Dev) (b : Nat) (t : TimeBase) :
    (Dev.setBase d b t).hostB = d.hostB := rfl
@[simp] theorem Dev.setBase_pipes (d : Dev) (b : Nat) (t : TimeBase) :
    (Dev.setBase d b t).pipes = d.pipes := rfl
@[simp] theorem Dev.setBase_tbl (d : Dev) (b : Nat) (t : TimeBase) :
    (Dev.setBase d b t).tbl = d.tbl := rfl
@[simp] theorem Dev.setBase_pkts (d : Dev) (b : Nat) (t : TimeBase) :
    (Dev.setBase d b t).pkts = d.pkts := rfl
@[simp] theorem Dev.setBase_nextPkt (d : Dev) (b : Nat) (t : TimeBase) :
    (Dev.setBase d b t).nextPkt = d.nextPkt := rfl
@[simp] theorem Dev.setBase_queues (d : Dev) (b : Nat) (t : TimeBase) :
    (Dev.setBase d b t).queues = d.queues := rfl
@[simp] theorem Dev.setBase_ports (d : Dev) (b : Nat) (t : TimeBase) :
    (Dev.setBase d b t).ports = d.ports := rfl
@[simp] theorem Dev.setBase_buf (d : Dev) (b : Nat) (t : TimeBase) :
    (Dev.setBase d b t).buf = d.buf := rfl
@[simp] theorem Dev.setBase_gran (d : Dev) (b : Nat) (t : TimeBase) :
    (Dev.setBase d b t).gran = d.gran := rfl
@[simp] theorem Dev.setBase_sched (d : Dev) (b : Nat) (t : TimeBase) :
    (Dev.setBase d b t).sched = d.sched := rfl
@[simp] theorem Dev.setBase_lanes (d : Dev) (b : Nat) (t : TimeBase) :
    (Dev.setBase d b t).lanes = d.lanes := rfl
@[simp] theorem Dev.setBase_dma (d : Dev) (b : Nat) (t : TimeBase) :
    (Dev.setBase d b t).dma = d.dma := rfl
@[simp] theorem Dev.setBase_prog (d : Dev) (b : Nat) (t : TimeBase) :
    (Dev.setBase d b t).prog = d.prog := rfl
@[simp] theorem Dev.setBase_mgmt (d : Dev) (b : Nat) (t : TimeBase) :
    (Dev.setBase d b t).mgmt = d.mgmt := rfl
@[simp] theorem Dev.setBase_fw (d : Dev) (b : Nat) (t : TimeBase) :
    (Dev.setBase d b t).fw = d.fw := rfl
@[simp] theorem Dev.setBase_pwr (d : Dev) (b : Nat) (t : TimeBase) :
    (Dev.setBase d b t).pwr = d.pwr := rfl
@[simp] theorem Dev.setBase_rst (d : Dev) (b : Nat) (t : TimeBase) :
    (Dev.setBase d b t).rst = d.rst := rfl

@[simp] theorem Dev.tick_free (d : Dev) :
    (Dev.tick d).free = d.free := rfl
@[simp] theorem Dev.tick_out (d : Dev) :
    (Dev.tick d).out = d.out := rfl
@[simp] theorem Dev.tick_dict (d : Dev) :
    (Dev.tick d).dict = d.dict := rfl
@[simp] theorem Dev.tick_tel (d : Dev) :
    (Dev.tick d).tel = d.tel := rfl
@[simp] theorem Dev.tick_err (d : Dev) :
    (Dev.tick d).err = d.err := rfl
@[simp] theorem Dev.tick_hostA (d : Dev) :
    (Dev.tick d).hostA = d.hostA := rfl
@[simp] theorem Dev.tick_hostB (d : Dev) :
    (Dev.tick d).hostB = d.hostB := rfl
@[simp] theorem Dev.tick_pipes (d : Dev) :
    (Dev.tick d).pipes = d.pipes := rfl
@[simp] theorem Dev.tick_tbl (d : Dev) :
    (Dev.tick d).tbl = d.tbl := rfl
@[simp] theorem Dev.tick_pkts (d : Dev) :
    (Dev.tick d).pkts = d.pkts := rfl
@[simp] theorem Dev.tick_nextPkt (d : Dev) :
    (Dev.tick d).nextPkt = d.nextPkt := rfl
@[simp] theorem Dev.tick_queues (d : Dev) :
    (Dev.tick d).queues = d.queues := rfl
@[simp] theorem Dev.tick_ports (d : Dev) :
    (Dev.tick d).ports = d.ports := rfl
@[simp] theorem Dev.tick_buf (d : Dev) :
    (Dev.tick d).buf = d.buf := rfl
@[simp] theorem Dev.tick_gran (d : Dev) :
    (Dev.tick d).gran = d.gran := rfl
@[simp] theorem Dev.tick_sched (d : Dev) :
    (Dev.tick d).sched = d.sched := rfl
@[simp] theorem Dev.tick_lanes (d : Dev) :
    (Dev.tick d).lanes = d.lanes := rfl
@[simp] theorem Dev.tick_dma (d : Dev) :
    (Dev.tick d).dma = d.dma := rfl
@[simp] theorem Dev.tick_prog (d : Dev) :
    (Dev.tick d).prog = d.prog := rfl
@[simp] theorem Dev.tick_mgmt (d : Dev) :
    (Dev.tick d).mgmt = d.mgmt := rfl
@[simp] theorem Dev.tick_fw (d : Dev) :
    (Dev.tick d).fw = d.fw := rfl
@[simp] theorem Dev.tick_pwr (d : Dev) :
    (Dev.tick d).pwr = d.pwr := rfl
@[simp] theorem Dev.tick_rst (d : Dev) :
    (Dev.tick d).rst = d.rst := rfl

@[simp] theorem Dev.setHp_ticks (d : Dev) (p : Nat) (h : HostPort) :
    (Dev.setHp d p h).ticks = d.ticks := by unfold Dev.setHp; split <;> rfl
@[simp] theorem Dev.setHp_free (d : Dev) (p : Nat) (h : HostPort) :
    (Dev.setHp d p h).free = d.free := by unfold Dev.setHp; split <;> rfl
@[simp] theorem Dev.setHp_out (d : Dev) (p : Nat) (h : HostPort) :
    (Dev.setHp d p h).out = d.out := by unfold Dev.setHp; split <;> rfl
@[simp] theorem Dev.setHp_dict (d : Dev) (p : Nat) (h : HostPort) :
    (Dev.setHp d p h).dict = d.dict := by unfold Dev.setHp; split <;> rfl
@[simp] theorem Dev.setHp_time (d : Dev) (p : Nat) (h : HostPort) :
    (Dev.setHp d p h).time = d.time := by unfold Dev.setHp; split <;> rfl
@[simp] theorem Dev.setHp_tel (d : Dev) (p : Nat) (h : HostPort) :
    (Dev.setHp d p h).tel = d.tel := by unfold Dev.setHp; split <;> rfl
@[simp] theorem Dev.setHp_err (d : Dev) (p : Nat) (h : HostPort) :
    (Dev.setHp d p h).err = d.err := by unfold Dev.setHp; split <;> rfl
@[simp] theorem Dev.setHp_pipes (d : Dev) (p : Nat) (h : HostPort) :
    (Dev.setHp d p h).pipes = d.pipes := by unfold Dev.setHp; split <;> rfl
@[simp] theorem Dev.setHp_tbl (d : Dev) (p : Nat) (h : HostPort) :
    (Dev.setHp d p h).tbl = d.tbl := by unfold Dev.setHp; split <;> rfl
@[simp] theorem Dev.setHp_pkts (d : Dev) (p : Nat) (h : HostPort) :
    (Dev.setHp d p h).pkts = d.pkts := by unfold Dev.setHp; split <;> rfl
@[simp] theorem Dev.setHp_nextPkt (d : Dev) (p : Nat) (h : HostPort) :
    (Dev.setHp d p h).nextPkt = d.nextPkt := by unfold Dev.setHp; split <;> rfl
@[simp] theorem Dev.setHp_queues (d : Dev) (p : Nat) (h : HostPort) :
    (Dev.setHp d p h).queues = d.queues := by unfold Dev.setHp; split <;> rfl
@[simp] theorem Dev.setHp_ports (d : Dev) (p : Nat) (h : HostPort) :
    (Dev.setHp d p h).ports = d.ports := by unfold Dev.setHp; split <;> rfl
@[simp] theorem Dev.setHp_buf (d : Dev) (p : Nat) (h : HostPort) :
    (Dev.setHp d p h).buf = d.buf := by unfold Dev.setHp; split <;> rfl
@[simp] theorem Dev.setHp_gran (d : Dev) (p : Nat) (h : HostPort) :
    (Dev.setHp d p h).gran = d.gran := by unfold Dev.setHp; split <;> rfl
@[simp] theorem Dev.setHp_sched (d : Dev) (p : Nat) (h : HostPort) :
    (Dev.setHp d p h).sched = d.sched := by unfold Dev.setHp; split <;> rfl
@[simp] theorem Dev.setHp_lanes (d : Dev) (p : Nat) (h : HostPort) :
    (Dev.setHp d p h).lanes = d.lanes := by unfold Dev.setHp; split <;> rfl
@[simp] theorem Dev.setHp_dma (d : Dev) (p : Nat) (h : HostPort) :
    (Dev.setHp d p h).dma = d.dma := by unfold Dev.setHp; split <;> rfl
@[simp] theorem Dev.setHp_prog (d : Dev) (p : Nat) (h : HostPort) :
    (Dev.setHp d p h).prog = d.prog := by unfold Dev.setHp; split <;> rfl
@[simp] theorem Dev.setHp_mgmt (d : Dev) (p : Nat) (h : HostPort) :
    (Dev.setHp d p h).mgmt = d.mgmt := by unfold Dev.setHp; split <;> rfl
@[simp] theorem Dev.setHp_fw (d : Dev) (p : Nat) (h : HostPort) :
    (Dev.setHp d p h).fw = d.fw := by unfold Dev.setHp; split <;> rfl
@[simp] theorem Dev.setHp_pwr (d : Dev) (p : Nat) (h : HostPort) :
    (Dev.setHp d p h).pwr = d.pwr := by unfold Dev.setHp; split <;> rfl
@[simp] theorem Dev.setHp_rst (d : Dev) (p : Nat) (h : HostPort) :
    (Dev.setHp d p h).rst = d.rst := by unfold Dev.setHp; split <;> rfl

@[simp] theorem Dev.setEl_ticks (d : Dev) (k v : Nat) :
    (Dev.setEl d k v).ticks = d.ticks := rfl
@[simp] theorem Dev.setEl_free (d : Dev) (k v : Nat) :
    (Dev.setEl d k v).free = d.free := rfl
@[simp] theorem Dev.setEl_out (d : Dev) (k v : Nat) :
    (Dev.setEl d k v).out = d.out := rfl
@[simp] theorem Dev.setEl_time (d : Dev) (k v : Nat) :
    (Dev.setEl d k v).time = d.time := rfl
@[simp] theorem Dev.setEl_tel (d : Dev) (k v : Nat) :
    (Dev.setEl d k v).tel = d.tel := rfl
@[simp] theorem Dev.setEl_err (d : Dev) (k v : Nat) :
    (Dev.setEl d k v).err = d.err := rfl
@[simp] theorem Dev.setEl_hostA (d : Dev) (k v : Nat) :
    (Dev.setEl d k v).hostA = d.hostA := rfl
@[simp] theorem Dev.setEl_hostB (d : Dev) (k v : Nat) :
    (Dev.setEl d k v).hostB = d.hostB := rfl
@[simp] theorem Dev.setEl_pipes (d : Dev) (k v : Nat) :
    (Dev.setEl d k v).pipes = d.pipes := rfl
@[simp] theorem Dev.setEl_tbl (d : Dev) (k v : Nat) :
    (Dev.setEl d k v).tbl = d.tbl := rfl
@[simp] theorem Dev.setEl_pkts (d : Dev) (k v : Nat) :
    (Dev.setEl d k v).pkts = d.pkts := rfl
@[simp] theorem Dev.setEl_nextPkt (d : Dev) (k v : Nat) :
    (Dev.setEl d k v).nextPkt = d.nextPkt := rfl
@[simp] theorem Dev.setEl_queues (d : Dev) (k v : Nat) :
    (Dev.setEl d k v).queues = d.queues := rfl
@[simp] theorem Dev.setEl_ports (d : Dev) (k v : Nat) :
    (Dev.setEl d k v).ports = d.ports := rfl
@[simp] theorem Dev.setEl_buf (d : Dev) (k v : Nat) :
    (Dev.setEl d k v).buf = d.buf := rfl
@[simp] theorem Dev.setEl_gran (d : Dev) (k v : Nat) :
    (Dev.setEl d k v).gran = d.gran := rfl
@[simp] theorem Dev.setEl_sched (d : Dev) (k v : Nat) :
    (Dev.setEl d k v).sched = d.sched := rfl
@[simp] theorem Dev.setEl_lanes (d : Dev) (k v : Nat) :
    (Dev.setEl d k v).lanes = d.lanes := rfl
@[simp] theorem Dev.setEl_dma (d : Dev) (k v : Nat) :
    (Dev.setEl d k v).dma = d.dma := rfl
@[simp] theorem Dev.setEl_prog (d : Dev) (k v : Nat) :
    (Dev.setEl d k v).prog = d.prog := rfl
@[simp] theorem Dev.setEl_mgmt (d : Dev) (k v : Nat) :
    (Dev.setEl d k v).mgmt = d.mgmt := rfl
@[simp] theorem Dev.setEl_fw (d : Dev) (k v : Nat) :
    (Dev.setEl d k v).fw = d.fw := rfl
@[simp] theorem Dev.setEl_pwr (d : Dev) (k v : Nat) :
    (Dev.setEl d k v).pwr = d.pwr := rfl
@[simp] theorem Dev.setEl_rst (d : Dev) (k v : Nat) :
    (Dev.setEl d k v).rst = d.rst := rfl

@[simp] theorem Dev.addEl_ticks (d : Dev) (w k n : Nat) :
    (Dev.addEl d w k n).ticks = d.ticks := rfl
@[simp] theorem Dev.addEl_free (d : Dev) (w k n : Nat) :
    (Dev.addEl d w k n).free = d.free := rfl
@[simp] theorem Dev.addEl_out (d : Dev) (w k n : Nat) :
    (Dev.addEl d w k n).out = d.out := rfl
@[simp] theorem Dev.addEl_time (d : Dev) (w k n : Nat) :
    (Dev.addEl d w k n).time = d.time := rfl
@[simp] theorem Dev.addEl_tel (d : Dev) (w k n : Nat) :
    (Dev.addEl d w k n).tel = d.tel := rfl
@[simp] theorem Dev.addEl_err (d : Dev) (w k n : Nat) :
    (Dev.addEl d w k n).err = d.err := rfl
@[simp] theorem Dev.addEl_hostA (d : Dev) (w k n : Nat) :
    (Dev.addEl d w k n).hostA = d.hostA := rfl
@[simp] theorem Dev.addEl_hostB (d : Dev) (w k n : Nat) :
    (Dev.addEl d w k n).hostB = d.hostB := rfl
@[simp] theorem Dev.addEl_pipes (d : Dev) (w k n : Nat) :
    (Dev.addEl d w k n).pipes = d.pipes := rfl
@[simp] theorem Dev.addEl_tbl (d : Dev) (w k n : Nat) :
    (Dev.addEl d w k n).tbl = d.tbl := rfl
@[simp] theorem Dev.addEl_pkts (d : Dev) (w k n : Nat) :
    (Dev.addEl d w k n).pkts = d.pkts := rfl
@[simp] theorem Dev.addEl_nextPkt (d : Dev) (w k n : Nat) :
    (Dev.addEl d w k n).nextPkt = d.nextPkt := rfl
@[simp] theorem Dev.addEl_queues (d : Dev) (w k n : Nat) :
    (Dev.addEl d w k n).queues = d.queues := rfl
@[simp] theorem Dev.addEl_ports (d : Dev) (w k n : Nat) :
    (Dev.addEl d w k n).ports = d.ports := rfl
@[simp] theorem Dev.addEl_buf (d : Dev) (w k n : Nat) :
    (Dev.addEl d w k n).buf = d.buf := rfl
@[simp] theorem Dev.addEl_gran (d : Dev) (w k n : Nat) :
    (Dev.addEl d w k n).gran = d.gran := rfl
@[simp] theorem Dev.addEl_sched (d : Dev) (w k n : Nat) :
    (Dev.addEl d w k n).sched = d.sched := rfl
@[simp] theorem Dev.addEl_lanes (d : Dev) (w k n : Nat) :
    (Dev.addEl d w k n).lanes = d.lanes := rfl
@[simp] theorem Dev.addEl_dma (d : Dev) (w k n : Nat) :
    (Dev.addEl d w k n).dma = d.dma := rfl
@[simp] theorem Dev.addEl_prog (d : Dev) (w k n : Nat) :
    (Dev.addEl d w k n).prog = d.prog := rfl
@[simp] theorem Dev.addEl_mgmt (d : Dev) (w k n : Nat) :
    (Dev.addEl d w k n).mgmt = d.mgmt := rfl
@[simp] theorem Dev.addEl_fw (d : Dev) (w k n : Nat) :
    (Dev.addEl d w k n).fw = d.fw := rfl
@[simp] theorem Dev.addEl_pwr (d : Dev) (w k n : Nat) :
    (Dev.addEl d w k n).pwr = d.pwr := rfl
@[simp] theorem Dev.addEl_rst (d : Dev) (w k n : Nat) :
    (Dev.addEl d w k n).rst = d.rst := rfl

@[simp] theorem Dev.setBlob_ticks (d : Dev) (k : Nat) (v : List Byte) :
    (Dev.setBlob d k v).ticks = d.ticks := rfl
@[simp] theorem Dev.setBlob_free (d : Dev) (k : Nat) (v : List Byte) :
    (Dev.setBlob d k v).free = d.free := rfl
@[simp] theorem Dev.setBlob_out (d : Dev) (k : Nat) (v : List Byte) :
    (Dev.setBlob d k v).out = d.out := rfl
@[simp] theorem Dev.setBlob_time (d : Dev) (k : Nat) (v : List Byte) :
    (Dev.setBlob d k v).time = d.time := rfl
@[simp] theorem Dev.setBlob_tel (d : Dev) (k : Nat) (v : List Byte) :
    (Dev.setBlob d k v).tel = d.tel := rfl
@[simp] theorem Dev.setBlob_err (d : Dev) (k : Nat) (v : List Byte) :
    (Dev.setBlob d k v).err = d.err := rfl
@[simp] theorem Dev.setBlob_hostA (d : Dev) (k : Nat) (v : List Byte) :
    (Dev.setBlob d k v).hostA = d.hostA := rfl
@[simp] theorem Dev.setBlob_hostB (d : Dev) (k : Nat) (v : List Byte) :
    (Dev.setBlob d k v).hostB = d.hostB := rfl
@[simp] theorem Dev.setBlob_pipes (d : Dev) (k : Nat) (v : List Byte) :
    (Dev.setBlob d k v).pipes = d.pipes := rfl
@[simp] theorem Dev.setBlob_tbl (d : Dev) (k : Nat) (v : List Byte) :
    (Dev.setBlob d k v).tbl = d.tbl := rfl
@[simp] theorem Dev.setBlob_pkts (d : Dev) (k : Nat) (v : List Byte) :
    (Dev.setBlob d k v).pkts = d.pkts := rfl
@[simp] theorem Dev.setBlob_nextPkt (d : Dev) (k : Nat) (v : List Byte) :
    (Dev.setBlob d k v).nextPkt = d.nextPkt := rfl
@[simp] theorem Dev.setBlob_queues (d : Dev) (k : Nat) (v : List Byte) :
    (Dev.setBlob d k v).queues = d.queues := rfl
@[simp] theorem Dev.setBlob_ports (d : Dev) (k : Nat) (v : List Byte) :
    (Dev.setBlob d k v).ports = d.ports := rfl
@[simp] theorem Dev.setBlob_buf (d : Dev) (k : Nat) (v : List Byte) :
    (Dev.setBlob d k v).buf = d.buf := rfl
@[simp] theorem Dev.setBlob_gran (d : Dev) (k : Nat) (v : List Byte) :
    (Dev.setBlob d k v).gran = d.gran := rfl
@[simp] theorem Dev.setBlob_sched (d : Dev) (k : Nat) (v : List Byte) :
    (Dev.setBlob d k v).sched = d.sched := rfl
@[simp] theorem Dev.setBlob_lanes (d : Dev) (k : Nat) (v : List Byte) :
    (Dev.setBlob d k v).lanes = d.lanes := rfl
@[simp] theorem Dev.setBlob_dma (d : Dev) (k : Nat) (v : List Byte) :
    (Dev.setBlob d k v).dma = d.dma := rfl
@[simp] theorem Dev.setBlob_prog (d : Dev) (k : Nat) (v : List Byte) :
    (Dev.setBlob d k v).prog = d.prog := rfl
@[simp] theorem Dev.setBlob_mgmt (d : Dev) (k : Nat) (v : List Byte) :
    (Dev.setBlob d k v).mgmt = d.mgmt := rfl
@[simp] theorem Dev.setBlob_fw (d : Dev) (k : Nat) (v : List Byte) :
    (Dev.setBlob d k v).fw = d.fw := rfl
@[simp] theorem Dev.setBlob_pwr (d : Dev) (k : Nat) (v : List Byte) :
    (Dev.setBlob d k v).pwr = d.pwr := rfl
@[simp] theorem Dev.setBlob_rst (d : Dev) (k : Nat) (v : List Byte) :
    (Dev.setBlob d k v).rst = d.rst := rfl

@[simp] theorem Dev.pend_ticks (d : Dev) (x : StoreItem) :
    (Dev.pend d x).ticks = d.ticks := rfl
@[simp] theorem Dev.pend_free (d : Dev) (x : StoreItem) :
    (Dev.pend d x).free = d.free := rfl
@[simp] theorem Dev.pend_out (d : Dev) (x : StoreItem) :
    (Dev.pend d x).out = d.out := rfl
@[simp] theorem Dev.pend_time (d : Dev) (x : StoreItem) :
    (Dev.pend d x).time = d.time := rfl
@[simp] theorem Dev.pend_tel (d : Dev) (x : StoreItem) :
    (Dev.pend d x).tel = d.tel := rfl
@[simp] theorem Dev.pend_err (d : Dev) (x : StoreItem) :
    (Dev.pend d x).err = d.err := rfl
@[simp] theorem Dev.pend_hostA (d : Dev) (x : StoreItem) :
    (Dev.pend d x).hostA = d.hostA := rfl
@[simp] theorem Dev.pend_hostB (d : Dev) (x : StoreItem) :
    (Dev.pend d x).hostB = d.hostB := rfl
@[simp] theorem Dev.pend_pipes (d : Dev) (x : StoreItem) :
    (Dev.pend d x).pipes = d.pipes := rfl
@[simp] theorem Dev.pend_tbl (d : Dev) (x : StoreItem) :
    (Dev.pend d x).tbl = d.tbl := rfl
@[simp] theorem Dev.pend_pkts (d : Dev) (x : StoreItem) :
    (Dev.pend d x).pkts = d.pkts := rfl
@[simp] theorem Dev.pend_nextPkt (d : Dev) (x : StoreItem) :
    (Dev.pend d x).nextPkt = d.nextPkt := rfl
@[simp] theorem Dev.pend_queues (d : Dev) (x : StoreItem) :
    (Dev.pend d x).queues = d.queues := rfl
@[simp] theorem Dev.pend_ports (d : Dev) (x : StoreItem) :
    (Dev.pend d x).ports = d.ports := rfl
@[simp] theorem Dev.pend_buf (d : Dev) (x : StoreItem) :
    (Dev.pend d x).buf = d.buf := rfl
@[simp] theorem Dev.pend_gran (d : Dev) (x : StoreItem) :
    (Dev.pend d x).gran = d.gran := rfl
@[simp] theorem Dev.pend_sched (d : Dev) (x : StoreItem) :
    (Dev.pend d x).sched = d.sched := rfl
@[simp] theorem Dev.pend_lanes (d : Dev) (x : StoreItem) :
    (Dev.pend d x).lanes = d.lanes := rfl
@[simp] theorem Dev.pend_dma (d : Dev) (x : StoreItem) :
    (Dev.pend d x).dma = d.dma := rfl
@[simp] theorem Dev.pend_prog (d : Dev) (x : StoreItem) :
    (Dev.pend d x).prog = d.prog := rfl
@[simp] theorem Dev.pend_mgmt (d : Dev) (x : StoreItem) :
    (Dev.pend d x).mgmt = d.mgmt := rfl
@[simp] theorem Dev.pend_fw (d : Dev) (x : StoreItem) :
    (Dev.pend d x).fw = d.fw := rfl
@[simp] theorem Dev.pend_pwr (d : Dev) (x : StoreItem) :
    (Dev.pend d x).pwr = d.pwr := rfl
@[simp] theorem Dev.pend_rst (d : Dev) (x : StoreItem) :
    (Dev.pend d x).rst = d.rst := rfl

@[simp] theorem Dev.persist_ticks (d : Dev) (k : Nat) :
    (Dev.persist d k).ticks = d.ticks := rfl
@[simp] theorem Dev.persist_free (d : Dev) (k : Nat) :
    (Dev.persist d k).free = d.free := rfl
@[simp] theorem Dev.persist_out (d : Dev) (k : Nat) :
    (Dev.persist d k).out = d.out := rfl
@[simp] theorem Dev.persist_time (d : Dev) (k : Nat) :
    (Dev.persist d k).time = d.time := rfl
@[simp] theorem Dev.persist_tel (d : Dev) (k : Nat) :
    (Dev.persist d k).tel = d.tel := rfl
@[simp] theorem Dev.persist_err (d : Dev) (k : Nat) :
    (Dev.persist d k).err = d.err := rfl
@[simp] theorem Dev.persist_hostA (d : Dev) (k : Nat) :
    (Dev.persist d k).hostA = d.hostA := rfl
@[simp] theorem Dev.persist_hostB (d : Dev) (k : Nat) :
    (Dev.persist d k).hostB = d.hostB := rfl
@[simp] theorem Dev.persist_pipes (d : Dev) (k : Nat) :
    (Dev.persist d k).pipes = d.pipes := rfl
@[simp] theorem Dev.persist_tbl (d : Dev) (k : Nat) :
    (Dev.persist d k).tbl = d.tbl := rfl
@[simp] theorem Dev.persist_pkts (d : Dev) (k : Nat) :
    (Dev.persist d k).pkts = d.pkts := rfl
@[simp] theorem Dev.persist_nextPkt (d : Dev) (k : Nat) :
    (Dev.persist d k).nextPkt = d.nextPkt := rfl
@[simp] theorem Dev.persist_queues (d : Dev) (k : Nat) :
    (Dev.persist d k).queues = d.queues := rfl
@[simp] theorem Dev.persist_ports (d : Dev) (k : Nat) :
    (Dev.persist d k).ports = d.ports := rfl
@[simp] theorem Dev.persist_buf (d : Dev) (k : Nat) :
    (Dev.persist d k).buf = d.buf := rfl
@[simp] theorem Dev.persist_gran (d : Dev) (k : Nat) :
    (Dev.persist d k).gran = d.gran := rfl
@[simp] theorem Dev.persist_sched (d : Dev) (k : Nat) :
    (Dev.persist d k).sched = d.sched := rfl
@[simp] theorem Dev.persist_lanes (d : Dev) (k : Nat) :
    (Dev.persist d k).lanes = d.lanes := rfl
@[simp] theorem Dev.persist_dma (d : Dev) (k : Nat) :
    (Dev.persist d k).dma = d.dma := rfl
@[simp] theorem Dev.persist_prog (d : Dev) (k : Nat) :
    (Dev.persist d k).prog = d.prog := rfl
@[simp] theorem Dev.persist_mgmt (d : Dev) (k : Nat) :
    (Dev.persist d k).mgmt = d.mgmt := rfl
@[simp] theorem Dev.persist_fw (d : Dev) (k : Nat) :
    (Dev.persist d k).fw = d.fw := rfl
@[simp] theorem Dev.persist_pwr (d : Dev) (k : Nat) :
    (Dev.persist d k).pwr = d.pwr := rfl
@[simp] theorem Dev.persist_rst (d : Dev) (k : Nat) :
    (Dev.persist d k).rst = d.rst := rfl

@[simp] theorem Dev.persistPart_ticks (d : Dev) (i : Nat) (bs : List Byte) :
    (Dev.persistPart d i bs).ticks = d.ticks := rfl
@[simp] theorem Dev.persistPart_free (d : Dev) (i : Nat) (bs : List Byte) :
    (Dev.persistPart d i bs).free = d.free := rfl
@[simp] theorem Dev.persistPart_out (d : Dev) (i : Nat) (bs : List Byte) :
    (Dev.persistPart d i bs).out = d.out := rfl
@[simp] theorem Dev.persistPart_time (d : Dev) (i : Nat) (bs : List Byte) :
    (Dev.persistPart d i bs).time = d.time := rfl
@[simp] theorem Dev.persistPart_tel (d : Dev) (i : Nat) (bs : List Byte) :
    (Dev.persistPart d i bs).tel = d.tel := rfl
@[simp] theorem Dev.persistPart_err (d : Dev) (i : Nat) (bs : List Byte) :
    (Dev.persistPart d i bs).err = d.err := rfl
@[simp] theorem Dev.persistPart_hostA (d : Dev) (i : Nat) (bs : List Byte) :
    (Dev.persistPart d i bs).hostA = d.hostA := rfl
@[simp] theorem Dev.persistPart_hostB (d : Dev) (i : Nat) (bs : List Byte) :
    (Dev.persistPart d i bs).hostB = d.hostB := rfl
@[simp] theorem Dev.persistPart_pipes (d : Dev) (i : Nat) (bs : List Byte) :
    (Dev.persistPart d i bs).pipes = d.pipes := rfl
@[simp] theorem Dev.persistPart_tbl (d : Dev) (i : Nat) (bs : List Byte) :
    (Dev.persistPart d i bs).tbl = d.tbl := rfl
@[simp] theorem Dev.persistPart_pkts (d : Dev) (i : Nat) (bs : List Byte) :
    (Dev.persistPart d i bs).pkts = d.pkts := rfl
@[simp] theorem Dev.persistPart_nextPkt (d : Dev) (i : Nat) (bs : List Byte) :
    (Dev.persistPart d i bs).nextPkt = d.nextPkt := rfl
@[simp] theorem Dev.persistPart_queues (d : Dev) (i : Nat) (bs : List Byte) :
    (Dev.persistPart d i bs).queues = d.queues := rfl
@[simp] theorem Dev.persistPart_ports (d : Dev) (i : Nat) (bs : List Byte) :
    (Dev.persistPart d i bs).ports = d.ports := rfl
@[simp] theorem Dev.persistPart_buf (d : Dev) (i : Nat) (bs : List Byte) :
    (Dev.persistPart d i bs).buf = d.buf := rfl
@[simp] theorem Dev.persistPart_gran (d : Dev) (i : Nat) (bs : List Byte) :
    (Dev.persistPart d i bs).gran = d.gran := rfl
@[simp] theorem Dev.persistPart_sched (d : Dev) (i : Nat) (bs : List Byte) :
    (Dev.persistPart d i bs).sched = d.sched := rfl
@[simp] theorem Dev.persistPart_lanes (d : Dev) (i : Nat) (bs : List Byte) :
    (Dev.persistPart d i bs).lanes = d.lanes := rfl
@[simp] theorem Dev.persistPart_dma (d : Dev) (i : Nat) (bs : List Byte) :
    (Dev.persistPart d i bs).dma = d.dma := rfl
@[simp] theorem Dev.persistPart_prog (d : Dev) (i : Nat) (bs : List Byte) :
    (Dev.persistPart d i bs).prog = d.prog := rfl
@[simp] theorem Dev.persistPart_mgmt (d : Dev) (i : Nat) (bs : List Byte) :
    (Dev.persistPart d i bs).mgmt = d.mgmt := rfl
@[simp] theorem Dev.persistPart_fw (d : Dev) (i : Nat) (bs : List Byte) :
    (Dev.persistPart d i bs).fw = d.fw := rfl
@[simp] theorem Dev.persistPart_pwr (d : Dev) (i : Nat) (bs : List Byte) :
    (Dev.persistPart d i bs).pwr = d.pwr := rfl
@[simp] theorem Dev.persistPart_rst (d : Dev) (i : Nat) (bs : List Byte) :
    (Dev.persistPart d i bs).rst = d.rst := rfl

@[simp] theorem Dev.commitClass_ticks (d : Dev) (c : ECom) :
    (Dev.commitClass d c).ticks = d.ticks := rfl
@[simp] theorem Dev.commitClass_free (d : Dev) (c : ECom) :
    (Dev.commitClass d c).free = d.free := rfl
@[simp] theorem Dev.commitClass_out (d : Dev) (c : ECom) :
    (Dev.commitClass d c).out = d.out := rfl
@[simp] theorem Dev.commitClass_time (d : Dev) (c : ECom) :
    (Dev.commitClass d c).time = d.time := rfl
@[simp] theorem Dev.commitClass_tel (d : Dev) (c : ECom) :
    (Dev.commitClass d c).tel = d.tel := rfl
@[simp] theorem Dev.commitClass_err (d : Dev) (c : ECom) :
    (Dev.commitClass d c).err = d.err := rfl
@[simp] theorem Dev.commitClass_hostA (d : Dev) (c : ECom) :
    (Dev.commitClass d c).hostA = d.hostA := rfl
@[simp] theorem Dev.commitClass_hostB (d : Dev) (c : ECom) :
    (Dev.commitClass d c).hostB = d.hostB := rfl
@[simp] theorem Dev.commitClass_pipes (d : Dev) (c : ECom) :
    (Dev.commitClass d c).pipes = d.pipes := rfl
@[simp] theorem Dev.commitClass_tbl (d : Dev) (c : ECom) :
    (Dev.commitClass d c).tbl = d.tbl := rfl
@[simp] theorem Dev.commitClass_pkts (d : Dev) (c : ECom) :
    (Dev.commitClass d c).pkts = d.pkts := rfl
@[simp] theorem Dev.commitClass_nextPkt (d : Dev) (c : ECom) :
    (Dev.commitClass d c).nextPkt = d.nextPkt := rfl
@[simp] theorem Dev.commitClass_queues (d : Dev) (c : ECom) :
    (Dev.commitClass d c).queues = d.queues := rfl
@[simp] theorem Dev.commitClass_ports (d : Dev) (c : ECom) :
    (Dev.commitClass d c).ports = d.ports := rfl
@[simp] theorem Dev.commitClass_buf (d : Dev) (c : ECom) :
    (Dev.commitClass d c).buf = d.buf := rfl
@[simp] theorem Dev.commitClass_gran (d : Dev) (c : ECom) :
    (Dev.commitClass d c).gran = d.gran := rfl
@[simp] theorem Dev.commitClass_sched (d : Dev) (c : ECom) :
    (Dev.commitClass d c).sched = d.sched := rfl
@[simp] theorem Dev.commitClass_lanes (d : Dev) (c : ECom) :
    (Dev.commitClass d c).lanes = d.lanes := rfl
@[simp] theorem Dev.commitClass_dma (d : Dev) (c : ECom) :
    (Dev.commitClass d c).dma = d.dma := rfl
@[simp] theorem Dev.commitClass_prog (d : Dev) (c : ECom) :
    (Dev.commitClass d c).prog = d.prog := rfl
@[simp] theorem Dev.commitClass_mgmt (d : Dev) (c : ECom) :
    (Dev.commitClass d c).mgmt = d.mgmt := rfl
@[simp] theorem Dev.commitClass_fw (d : Dev) (c : ECom) :
    (Dev.commitClass d c).fw = d.fw := rfl
@[simp] theorem Dev.commitClass_pwr (d : Dev) (c : ECom) :
    (Dev.commitClass d c).pwr = d.pwr := rfl
@[simp] theorem Dev.commitClass_rst (d : Dev) (c : ECom) :
    (Dev.commitClass d c).rst = d.rst := rfl

@[simp] theorem Dev.setStream_ticks (d : Dev) (i : Nat) (x : StreamS) :
    (Dev.setStream d i x).ticks = d.ticks := rfl
@[simp] theorem Dev.setStream_free (d : Dev) (i : Nat) (x : StreamS) :
    (Dev.setStream d i x).free = d.free := rfl
@[simp] theorem Dev.setStream_out (d : Dev) (i : Nat) (x : StreamS) :
    (Dev.setStream d i x).out = d.out := rfl
@[simp] theorem Dev.setStream_dict (d : Dev) (i : Nat) (x : StreamS) :
    (Dev.setStream d i x).dict = d.dict := rfl
@[simp] theorem Dev.setStream_time (d : Dev) (i : Nat) (x : StreamS) :
    (Dev.setStream d i x).time = d.time := rfl
@[simp] theorem Dev.setStream_err (d : Dev) (i : Nat) (x : StreamS) :
    (Dev.setStream d i x).err = d.err := rfl
@[simp] theorem Dev.setStream_hostA (d : Dev) (i : Nat) (x : StreamS) :
    (Dev.setStream d i x).hostA = d.hostA := rfl
@[simp] theorem Dev.setStream_hostB (d : Dev) (i : Nat) (x : StreamS) :
    (Dev.setStream d i x).hostB = d.hostB := rfl
@[simp] theorem Dev.setStream_pipes (d : Dev) (i : Nat) (x : StreamS) :
    (Dev.setStream d i x).pipes = d.pipes := rfl
@[simp] theorem Dev.setStream_tbl (d : Dev) (i : Nat) (x : StreamS) :
    (Dev.setStream d i x).tbl = d.tbl := rfl
@[simp] theorem Dev.setStream_pkts (d : Dev) (i : Nat) (x : StreamS) :
    (Dev.setStream d i x).pkts = d.pkts := rfl
@[simp] theorem Dev.setStream_nextPkt (d : Dev) (i : Nat) (x : StreamS) :
    (Dev.setStream d i x).nextPkt = d.nextPkt := rfl
@[simp] theorem Dev.setStream_queues (d : Dev) (i : Nat) (x : StreamS) :
    (Dev.setStream d i x).queues = d.queues := rfl
@[simp] theorem Dev.setStream_ports (d : Dev) (i : Nat) (x : StreamS) :
    (Dev.setStream d i x).ports = d.ports := rfl
@[simp] theorem Dev.setStream_buf (d : Dev) (i : Nat) (x : StreamS) :
    (Dev.setStream d i x).buf = d.buf := rfl
@[simp] theorem Dev.setStream_gran (d : Dev) (i : Nat) (x : StreamS) :
    (Dev.setStream d i x).gran = d.gran := rfl
@[simp] theorem Dev.setStream_sched (d : Dev) (i : Nat) (x : StreamS) :
    (Dev.setStream d i x).sched = d.sched := rfl
@[simp] theorem Dev.setStream_lanes (d : Dev) (i : Nat) (x : StreamS) :
    (Dev.setStream d i x).lanes = d.lanes := rfl
@[simp] theorem Dev.setStream_dma (d : Dev) (i : Nat) (x : StreamS) :
    (Dev.setStream d i x).dma = d.dma := rfl
@[simp] theorem Dev.setStream_prog (d : Dev) (i : Nat) (x : StreamS) :
    (Dev.setStream d i x).prog = d.prog := rfl
@[simp] theorem Dev.setStream_mgmt (d : Dev) (i : Nat) (x : StreamS) :
    (Dev.setStream d i x).mgmt = d.mgmt := rfl
@[simp] theorem Dev.setStream_fw (d : Dev) (i : Nat) (x : StreamS) :
    (Dev.setStream d i x).fw = d.fw := rfl
@[simp] theorem Dev.setStream_pwr (d : Dev) (i : Nat) (x : StreamS) :
    (Dev.setStream d i x).pwr = d.pwr := rfl
@[simp] theorem Dev.setStream_rst (d : Dev) (i : Nat) (x : StreamS) :
    (Dev.setStream d i x).rst = d.rst := rfl

@[simp] theorem Dev.setTot_ticks (d : Dev) (n : Nat) (b : Bucket) :
    (Dev.setTot d n b).ticks = d.ticks := rfl
@[simp] theorem Dev.setTot_free (d : Dev) (n : Nat) (b : Bucket) :
    (Dev.setTot d n b).free = d.free := rfl
@[simp] theorem Dev.setTot_out (d : Dev) (n : Nat) (b : Bucket) :
    (Dev.setTot d n b).out = d.out := rfl
@[simp] theorem Dev.setTot_dict (d : Dev) (n : Nat) (b : Bucket) :
    (Dev.setTot d n b).dict = d.dict := rfl
@[simp] theorem Dev.setTot_time (d : Dev) (n : Nat) (b : Bucket) :
    (Dev.setTot d n b).time = d.time := rfl
@[simp] theorem Dev.setTot_err (d : Dev) (n : Nat) (b : Bucket) :
    (Dev.setTot d n b).err = d.err := rfl
@[simp] theorem Dev.setTot_hostA (d : Dev) (n : Nat) (b : Bucket) :
    (Dev.setTot d n b).hostA = d.hostA := rfl
@[simp] theorem Dev.setTot_hostB (d : Dev) (n : Nat) (b : Bucket) :
    (Dev.setTot d n b).hostB = d.hostB := rfl
@[simp] theorem Dev.setTot_pipes (d : Dev) (n : Nat) (b : Bucket) :
    (Dev.setTot d n b).pipes = d.pipes := rfl
@[simp] theorem Dev.setTot_tbl (d : Dev) (n : Nat) (b : Bucket) :
    (Dev.setTot d n b).tbl = d.tbl := rfl
@[simp] theorem Dev.setTot_pkts (d : Dev) (n : Nat) (b : Bucket) :
    (Dev.setTot d n b).pkts = d.pkts := rfl
@[simp] theorem Dev.setTot_nextPkt (d : Dev) (n : Nat) (b : Bucket) :
    (Dev.setTot d n b).nextPkt = d.nextPkt := rfl
@[simp] theorem Dev.setTot_queues (d : Dev) (n : Nat) (b : Bucket) :
    (Dev.setTot d n b).queues = d.queues := rfl
@[simp] theorem Dev.setTot_ports (d : Dev) (n : Nat) (b : Bucket) :
    (Dev.setTot d n b).ports = d.ports := rfl
@[simp] theorem Dev.setTot_buf (d : Dev) (n : Nat) (b : Bucket) :
    (Dev.setTot d n b).buf = d.buf := rfl
@[simp] theorem Dev.setTot_gran (d : Dev) (n : Nat) (b : Bucket) :
    (Dev.setTot d n b).gran = d.gran := rfl
@[simp] theorem Dev.setTot_sched (d : Dev) (n : Nat) (b : Bucket) :
    (Dev.setTot d n b).sched = d.sched := rfl
@[simp] theorem Dev.setTot_lanes (d : Dev) (n : Nat) (b : Bucket) :
    (Dev.setTot d n b).lanes = d.lanes := rfl
@[simp] theorem Dev.setTot_dma (d : Dev) (n : Nat) (b : Bucket) :
    (Dev.setTot d n b).dma = d.dma := rfl
@[simp] theorem Dev.setTot_prog (d : Dev) (n : Nat) (b : Bucket) :
    (Dev.setTot d n b).prog = d.prog := rfl
@[simp] theorem Dev.setTot_mgmt (d : Dev) (n : Nat) (b : Bucket) :
    (Dev.setTot d n b).mgmt = d.mgmt := rfl
@[simp] theorem Dev.setTot_fw (d : Dev) (n : Nat) (b : Bucket) :
    (Dev.setTot d n b).fw = d.fw := rfl
@[simp] theorem Dev.setTot_pwr (d : Dev) (n : Nat) (b : Bucket) :
    (Dev.setTot d n b).pwr = d.pwr := rfl
@[simp] theorem Dev.setTot_rst (d : Dev) (n : Nat) (b : Bucket) :
    (Dev.setTot d n b).rst = d.rst := rfl

@[simp] theorem Dev.setDrop_ticks (d : Dev) (n : Nat) (b : Bucket) :
    (Dev.setDrop d n b).ticks = d.ticks := rfl
@[simp] theorem Dev.setDrop_free (d : Dev) (n : Nat) (b : Bucket) :
    (Dev.setDrop d n b).free = d.free := rfl
@[simp] theorem Dev.setDrop_out (d : Dev) (n : Nat) (b : Bucket) :
    (Dev.setDrop d n b).out = d.out := rfl
@[simp] theorem Dev.setDrop_dict (d : Dev) (n : Nat) (b : Bucket) :
    (Dev.setDrop d n b).dict = d.dict := rfl
@[simp] theorem Dev.setDrop_time (d : Dev) (n : Nat) (b : Bucket) :
    (Dev.setDrop d n b).time = d.time := rfl
@[simp] theorem Dev.setDrop_err (d : Dev) (n : Nat) (b : Bucket) :
    (Dev.setDrop d n b).err = d.err := rfl
@[simp] theorem Dev.setDrop_hostA (d : Dev) (n : Nat) (b : Bucket) :
    (Dev.setDrop d n b).hostA = d.hostA := rfl
@[simp] theorem Dev.setDrop_hostB (d : Dev) (n : Nat) (b : Bucket) :
    (Dev.setDrop d n b).hostB = d.hostB := rfl
@[simp] theorem Dev.setDrop_pipes (d : Dev) (n : Nat) (b : Bucket) :
    (Dev.setDrop d n b).pipes = d.pipes := rfl
@[simp] theorem Dev.setDrop_tbl (d : Dev) (n : Nat) (b : Bucket) :
    (Dev.setDrop d n b).tbl = d.tbl := rfl
@[simp] theorem Dev.setDrop_pkts (d : Dev) (n : Nat) (b : Bucket) :
    (Dev.setDrop d n b).pkts = d.pkts := rfl
@[simp] theorem Dev.setDrop_nextPkt (d : Dev) (n : Nat) (b : Bucket) :
    (Dev.setDrop d n b).nextPkt = d.nextPkt := rfl
@[simp] theorem Dev.setDrop_queues (d : Dev) (n : Nat) (b : Bucket) :
    (Dev.setDrop d n b).queues = d.queues := rfl
@[simp] theorem Dev.setDrop_ports (d : Dev) (n : Nat) (b : Bucket) :
    (Dev.setDrop d n b).ports = d.ports := rfl
@[simp] theorem Dev.setDrop_buf (d : Dev) (n : Nat) (b : Bucket) :
    (Dev.setDrop d n b).buf = d.buf := rfl
@[simp] theorem Dev.setDrop_gran (d : Dev) (n : Nat) (b : Bucket) :
    (Dev.setDrop d n b).gran = d.gran := rfl
@[simp] theorem Dev.setDrop_sched (d : Dev) (n : Nat) (b : Bucket) :
    (Dev.setDrop d n b).sched = d.sched := rfl
@[simp] theorem Dev.setDrop_lanes (d : Dev) (n : Nat) (b : Bucket) :
    (Dev.setDrop d n b).lanes = d.lanes := rfl
@[simp] theorem Dev.setDrop_dma (d : Dev) (n : Nat) (b : Bucket) :
    (Dev.setDrop d n b).dma = d.dma := rfl
@[simp] theorem Dev.setDrop_prog (d : Dev) (n : Nat) (b : Bucket) :
    (Dev.setDrop d n b).prog = d.prog := rfl
@[simp] theorem Dev.setDrop_mgmt (d : Dev) (n : Nat) (b : Bucket) :
    (Dev.setDrop d n b).mgmt = d.mgmt := rfl
@[simp] theorem Dev.setDrop_fw (d : Dev) (n : Nat) (b : Bucket) :
    (Dev.setDrop d n b).fw = d.fw := rfl
@[simp] theorem Dev.setDrop_pwr (d : Dev) (n : Nat) (b : Bucket) :
    (Dev.setDrop d n b).pwr = d.pwr := rfl
@[simp] theorem Dev.setDrop_rst (d : Dev) (n : Nat) (b : Bucket) :
    (Dev.setDrop d n b).rst = d.rst := rfl

@[simp] theorem Dev.setTally_ticks (d : Dev) (i : Nat) (t : Option Tally) :
    (Dev.setTally d i t).ticks = d.ticks := rfl
@[simp] theorem Dev.setTally_free (d : Dev) (i : Nat) (t : Option Tally) :
    (Dev.setTally d i t).free = d.free := rfl
@[simp] theorem Dev.setTally_out (d : Dev) (i : Nat) (t : Option Tally) :
    (Dev.setTally d i t).out = d.out := rfl
@[simp] theorem Dev.setTally_dict (d : Dev) (i : Nat) (t : Option Tally) :
    (Dev.setTally d i t).dict = d.dict := rfl
@[simp] theorem Dev.setTally_time (d : Dev) (i : Nat) (t : Option Tally) :
    (Dev.setTally d i t).time = d.time := rfl
@[simp] theorem Dev.setTally_err (d : Dev) (i : Nat) (t : Option Tally) :
    (Dev.setTally d i t).err = d.err := rfl
@[simp] theorem Dev.setTally_hostA (d : Dev) (i : Nat) (t : Option Tally) :
    (Dev.setTally d i t).hostA = d.hostA := rfl
@[simp] theorem Dev.setTally_hostB (d : Dev) (i : Nat) (t : Option Tally) :
    (Dev.setTally d i t).hostB = d.hostB := rfl
@[simp] theorem Dev.setTally_pipes (d : Dev) (i : Nat) (t : Option Tally) :
    (Dev.setTally d i t).pipes = d.pipes := rfl
@[simp] theorem Dev.setTally_tbl (d : Dev) (i : Nat) (t : Option Tally) :
    (Dev.setTally d i t).tbl = d.tbl := rfl
@[simp] theorem Dev.setTally_pkts (d : Dev) (i : Nat) (t : Option Tally) :
    (Dev.setTally d i t).pkts = d.pkts := rfl
@[simp] theorem Dev.setTally_nextPkt (d : Dev) (i : Nat) (t : Option Tally) :
    (Dev.setTally d i t).nextPkt = d.nextPkt := rfl
@[simp] theorem Dev.setTally_queues (d : Dev) (i : Nat) (t : Option Tally) :
    (Dev.setTally d i t).queues = d.queues := rfl
@[simp] theorem Dev.setTally_ports (d : Dev) (i : Nat) (t : Option Tally) :
    (Dev.setTally d i t).ports = d.ports := rfl
@[simp] theorem Dev.setTally_buf (d : Dev) (i : Nat) (t : Option Tally) :
    (Dev.setTally d i t).buf = d.buf := rfl
@[simp] theorem Dev.setTally_gran (d : Dev) (i : Nat) (t : Option Tally) :
    (Dev.setTally d i t).gran = d.gran := rfl
@[simp] theorem Dev.setTally_sched (d : Dev) (i : Nat) (t : Option Tally) :
    (Dev.setTally d i t).sched = d.sched := rfl
@[simp] theorem Dev.setTally_lanes (d : Dev) (i : Nat) (t : Option Tally) :
    (Dev.setTally d i t).lanes = d.lanes := rfl
@[simp] theorem Dev.setTally_dma (d : Dev) (i : Nat) (t : Option Tally) :
    (Dev.setTally d i t).dma = d.dma := rfl
@[simp] theorem Dev.setTally_prog (d : Dev) (i : Nat) (t : Option Tally) :
    (Dev.setTally d i t).prog = d.prog := rfl
@[simp] theorem Dev.setTally_mgmt (d : Dev) (i : Nat) (t : Option Tally) :
    (Dev.setTally d i t).mgmt = d.mgmt := rfl
@[simp] theorem Dev.setTally_fw (d : Dev) (i : Nat) (t : Option Tally) :
    (Dev.setTally d i t).fw = d.fw := rfl
@[simp] theorem Dev.setTally_pwr (d : Dev) (i : Nat) (t : Option Tally) :
    (Dev.setTally d i t).pwr = d.pwr := rfl
@[simp] theorem Dev.setTally_rst (d : Dev) (i : Nat) (t : Option Tally) :
    (Dev.setTally d i t).rst = d.rst := rfl

@[simp] theorem Dev.setPipe_ticks (d : Dev) (n : Nat) (x : Pipe) :
    (Dev.setPipe d n x).ticks = d.ticks := rfl
@[simp] theorem Dev.setPipe_free (d : Dev) (n : Nat) (x : Pipe) :
    (Dev.setPipe d n x).free = d.free := rfl
@[simp] theorem Dev.setPipe_out (d : Dev) (n : Nat) (x : Pipe) :
    (Dev.setPipe d n x).out = d.out := rfl
@[simp] theorem Dev.setPipe_dict (d : Dev) (n : Nat) (x : Pipe) :
    (Dev.setPipe d n x).dict = d.dict := rfl
@[simp] theorem Dev.setPipe_time (d : Dev) (n : Nat) (x : Pipe) :
    (Dev.setPipe d n x).time = d.time := rfl
@[simp] theorem Dev.setPipe_tel (d : Dev) (n : Nat) (x : Pipe) :
    (Dev.setPipe d n x).tel = d.tel := rfl
@[simp] theorem Dev.setPipe_err (d : Dev) (n : Nat) (x : Pipe) :
    (Dev.setPipe d n x).err = d.err := rfl
@[simp] theorem Dev.setPipe_hostA (d : Dev) (n : Nat) (x : Pipe) :
    (Dev.setPipe d n x).hostA = d.hostA := rfl
@[simp] theorem Dev.setPipe_hostB (d : Dev) (n : Nat) (x : Pipe) :
    (Dev.setPipe d n x).hostB = d.hostB := rfl
@[simp] theorem Dev.setPipe_tbl (d : Dev) (n : Nat) (x : Pipe) :
    (Dev.setPipe d n x).tbl = d.tbl := rfl
@[simp] theorem Dev.setPipe_pkts (d : Dev) (n : Nat) (x : Pipe) :
    (Dev.setPipe d n x).pkts = d.pkts := rfl
@[simp] theorem Dev.setPipe_nextPkt (d : Dev) (n : Nat) (x : Pipe) :
    (Dev.setPipe d n x).nextPkt = d.nextPkt := rfl
@[simp] theorem Dev.setPipe_queues (d : Dev) (n : Nat) (x : Pipe) :
    (Dev.setPipe d n x).queues = d.queues := rfl
@[simp] theorem Dev.setPipe_ports (d : Dev) (n : Nat) (x : Pipe) :
    (Dev.setPipe d n x).ports = d.ports := rfl
@[simp] theorem Dev.setPipe_buf (d : Dev) (n : Nat) (x : Pipe) :
    (Dev.setPipe d n x).buf = d.buf := rfl
@[simp] theorem Dev.setPipe_gran (d : Dev) (n : Nat) (x : Pipe) :
    (Dev.setPipe d n x).gran = d.gran := rfl
@[simp] theorem Dev.setPipe_sched (d : Dev) (n : Nat) (x : Pipe) :
    (Dev.setPipe d n x).sched = d.sched := rfl
@[simp] theorem Dev.setPipe_lanes (d : Dev) (n : Nat) (x : Pipe) :
    (Dev.setPipe d n x).lanes = d.lanes := rfl
@[simp] theorem Dev.setPipe_dma (d : Dev) (n : Nat) (x : Pipe) :
    (Dev.setPipe d n x).dma = d.dma := rfl
@[simp] theorem Dev.setPipe_prog (d : Dev) (n : Nat) (x : Pipe) :
    (Dev.setPipe d n x).prog = d.prog := rfl
@[simp] theorem Dev.setPipe_mgmt (d : Dev) (n : Nat) (x : Pipe) :
    (Dev.setPipe d n x).mgmt = d.mgmt := rfl
@[simp] theorem Dev.setPipe_fw (d : Dev) (n : Nat) (x : Pipe) :
    (Dev.setPipe d n x).fw = d.fw := rfl
@[simp] theorem Dev.setPipe_pwr (d : Dev) (n : Nat) (x : Pipe) :
    (Dev.setPipe d n x).pwr = d.pwr := rfl
@[simp] theorem Dev.setPipe_rst (d : Dev) (n : Nat) (x : Pipe) :
    (Dev.setPipe d n x).rst = d.rst := rfl

@[simp] theorem Dev.setPkt_ticks (d : Dev) (i : Nat) (x : Pkt) :
    (Dev.setPkt d i x).ticks = d.ticks := rfl
@[simp] theorem Dev.setPkt_free (d : Dev) (i : Nat) (x : Pkt) :
    (Dev.setPkt d i x).free = d.free := rfl
@[simp] theorem Dev.setPkt_out (d : Dev) (i : Nat) (x : Pkt) :
    (Dev.setPkt d i x).out = d.out := rfl
@[simp] theorem Dev.setPkt_dict (d : Dev) (i : Nat) (x : Pkt) :
    (Dev.setPkt d i x).dict = d.dict := rfl
@[simp] theorem Dev.setPkt_time (d : Dev) (i : Nat) (x : Pkt) :
    (Dev.setPkt d i x).time = d.time := rfl
@[simp] theorem Dev.setPkt_tel (d : Dev) (i : Nat) (x : Pkt) :
    (Dev.setPkt d i x).tel = d.tel := rfl
@[simp] theorem Dev.setPkt_err (d : Dev) (i : Nat) (x : Pkt) :
    (Dev.setPkt d i x).err = d.err := rfl
@[simp] theorem Dev.setPkt_hostA (d : Dev) (i : Nat) (x : Pkt) :
    (Dev.setPkt d i x).hostA = d.hostA := rfl
@[simp] theorem Dev.setPkt_hostB (d : Dev) (i : Nat) (x : Pkt) :
    (Dev.setPkt d i x).hostB = d.hostB := rfl
@[simp] theorem Dev.setPkt_pipes (d : Dev) (i : Nat) (x : Pkt) :
    (Dev.setPkt d i x).pipes = d.pipes := rfl
@[simp] theorem Dev.setPkt_tbl (d : Dev) (i : Nat) (x : Pkt) :
    (Dev.setPkt d i x).tbl = d.tbl := rfl
@[simp] theorem Dev.setPkt_nextPkt (d : Dev) (i : Nat) (x : Pkt) :
    (Dev.setPkt d i x).nextPkt = d.nextPkt := rfl
@[simp] theorem Dev.setPkt_queues (d : Dev) (i : Nat) (x : Pkt) :
    (Dev.setPkt d i x).queues = d.queues := rfl
@[simp] theorem Dev.setPkt_ports (d : Dev) (i : Nat) (x : Pkt) :
    (Dev.setPkt d i x).ports = d.ports := rfl
@[simp] theorem Dev.setPkt_buf (d : Dev) (i : Nat) (x : Pkt) :
    (Dev.setPkt d i x).buf = d.buf := rfl
@[simp] theorem Dev.setPkt_gran (d : Dev) (i : Nat) (x : Pkt) :
    (Dev.setPkt d i x).gran = d.gran := rfl
@[simp] theorem Dev.setPkt_sched (d : Dev) (i : Nat) (x : Pkt) :
    (Dev.setPkt d i x).sched = d.sched := rfl
@[simp] theorem Dev.setPkt_lanes (d : Dev) (i : Nat) (x : Pkt) :
    (Dev.setPkt d i x).lanes = d.lanes := rfl
@[simp] theorem Dev.setPkt_dma (d : Dev) (i : Nat) (x : Pkt) :
    (Dev.setPkt d i x).dma = d.dma := rfl
@[simp] theorem Dev.setPkt_prog (d : Dev) (i : Nat) (x : Pkt) :
    (Dev.setPkt d i x).prog = d.prog := rfl
@[simp] theorem Dev.setPkt_mgmt (d : Dev) (i : Nat) (x : Pkt) :
    (Dev.setPkt d i x).mgmt = d.mgmt := rfl
@[simp] theorem Dev.setPkt_fw (d : Dev) (i : Nat) (x : Pkt) :
    (Dev.setPkt d i x).fw = d.fw := rfl
@[simp] theorem Dev.setPkt_pwr (d : Dev) (i : Nat) (x : Pkt) :
    (Dev.setPkt d i x).pwr = d.pwr := rfl
@[simp] theorem Dev.setPkt_rst (d : Dev) (i : Nat) (x : Pkt) :
    (Dev.setPkt d i x).rst = d.rst := rfl

@[simp] theorem Dev.delPkt_ticks (d : Dev) (i : Nat) :
    (Dev.delPkt d i).ticks = d.ticks := rfl
@[simp] theorem Dev.delPkt_free (d : Dev) (i : Nat) :
    (Dev.delPkt d i).free = d.free := rfl
@[simp] theorem Dev.delPkt_out (d : Dev) (i : Nat) :
    (Dev.delPkt d i).out = d.out := rfl
@[simp] theorem Dev.delPkt_dict (d : Dev) (i : Nat) :
    (Dev.delPkt d i).dict = d.dict := rfl
@[simp] theorem Dev.delPkt_time (d : Dev) (i : Nat) :
    (Dev.delPkt d i).time = d.time := rfl
@[simp] theorem Dev.delPkt_tel (d : Dev) (i : Nat) :
    (Dev.delPkt d i).tel = d.tel := rfl
@[simp] theorem Dev.delPkt_err (d : Dev) (i : Nat) :
    (Dev.delPkt d i).err = d.err := rfl
@[simp] theorem Dev.delPkt_hostA (d : Dev) (i : Nat) :
    (Dev.delPkt d i).hostA = d.hostA := rfl
@[simp] theorem Dev.delPkt_hostB (d : Dev) (i : Nat) :
    (Dev.delPkt d i).hostB = d.hostB := rfl
@[simp] theorem Dev.delPkt_pipes (d : Dev) (i : Nat) :
    (Dev.delPkt d i).pipes = d.pipes := rfl
@[simp] theorem Dev.delPkt_tbl (d : Dev) (i : Nat) :
    (Dev.delPkt d i).tbl = d.tbl := rfl
@[simp] theorem Dev.delPkt_nextPkt (d : Dev) (i : Nat) :
    (Dev.delPkt d i).nextPkt = d.nextPkt := rfl
@[simp] theorem Dev.delPkt_queues (d : Dev) (i : Nat) :
    (Dev.delPkt d i).queues = d.queues := rfl
@[simp] theorem Dev.delPkt_ports (d : Dev) (i : Nat) :
    (Dev.delPkt d i).ports = d.ports := rfl
@[simp] theorem Dev.delPkt_buf (d : Dev) (i : Nat) :
    (Dev.delPkt d i).buf = d.buf := rfl
@[simp] theorem Dev.delPkt_gran (d : Dev) (i : Nat) :
    (Dev.delPkt d i).gran = d.gran := rfl
@[simp] theorem Dev.delPkt_sched (d : Dev) (i : Nat) :
    (Dev.delPkt d i).sched = d.sched := rfl
@[simp] theorem Dev.delPkt_lanes (d : Dev) (i : Nat) :
    (Dev.delPkt d i).lanes = d.lanes := rfl
@[simp] theorem Dev.delPkt_dma (d : Dev) (i : Nat) :
    (Dev.delPkt d i).dma = d.dma := rfl
@[simp] theorem Dev.delPkt_prog (d : Dev) (i : Nat) :
    (Dev.delPkt d i).prog = d.prog := rfl
@[simp] theorem Dev.delPkt_mgmt (d : Dev) (i : Nat) :
    (Dev.delPkt d i).mgmt = d.mgmt := rfl
@[simp] theorem Dev.delPkt_fw (d : Dev) (i : Nat) :
    (Dev.delPkt d i).fw = d.fw := rfl
@[simp] theorem Dev.delPkt_pwr (d : Dev) (i : Nat) :
    (Dev.delPkt d i).pwr = d.pwr := rfl
@[simp] theorem Dev.delPkt_rst (d : Dev) (i : Nat) :
    (Dev.delPkt d i).rst = d.rst := rfl

@[simp] theorem Dev.setQueue_ticks (d : Dev) (n : Nat) (x : EQueue) :
    (Dev.setQueue d n x).ticks = d.ticks := rfl
@[simp] theorem Dev.setQueue_free (d : Dev) (n : Nat) (x : EQueue) :
    (Dev.setQueue d n x).free = d.free := rfl
@[simp] theorem Dev.setQueue_out (d : Dev) (n : Nat) (x : EQueue) :
    (Dev.setQueue d n x).out = d.out := rfl
@[simp] theorem Dev.setQueue_dict (d : Dev) (n : Nat) (x : EQueue) :
    (Dev.setQueue d n x).dict = d.dict := rfl
@[simp] theorem Dev.setQueue_time (d : Dev) (n : Nat) (x : EQueue) :
    (Dev.setQueue d n x).time = d.time := rfl
@[simp] theorem Dev.setQueue_tel (d : Dev) (n : Nat) (x : EQueue) :
    (Dev.setQueue d n x).tel = d.tel := rfl
@[simp] theorem Dev.setQueue_err (d : Dev) (n : Nat) (x : EQueue) :
    (Dev.setQueue d n x).err = d.err := rfl
@[simp] theorem Dev.setQueue_hostA (d : Dev) (n : Nat) (x : EQueue) :
    (Dev.setQueue d n x).hostA = d.hostA := rfl
@[simp] theorem Dev.setQueue_hostB (d : Dev) (n : Nat) (x : EQueue) :
    (Dev.setQueue d n x).hostB = d.hostB := rfl
@[simp] theorem Dev.setQueue_pipes (d : Dev) (n : Nat) (x : EQueue) :
    (Dev.setQueue d n x).pipes = d.pipes := rfl
@[simp] theorem Dev.setQueue_tbl (d : Dev) (n : Nat) (x : EQueue) :
    (Dev.setQueue d n x).tbl = d.tbl := rfl
@[simp] theorem Dev.setQueue_pkts (d : Dev) (n : Nat) (x : EQueue) :
    (Dev.setQueue d n x).pkts = d.pkts := rfl
@[simp] theorem Dev.setQueue_nextPkt (d : Dev) (n : Nat) (x : EQueue) :
    (Dev.setQueue d n x).nextPkt = d.nextPkt := rfl
@[simp] theorem Dev.setQueue_ports (d : Dev) (n : Nat) (x : EQueue) :
    (Dev.setQueue d n x).ports = d.ports := rfl
@[simp] theorem Dev.setQueue_buf (d : Dev) (n : Nat) (x : EQueue) :
    (Dev.setQueue d n x).buf = d.buf := rfl
@[simp] theorem Dev.setQueue_gran (d : Dev) (n : Nat) (x : EQueue) :
    (Dev.setQueue d n x).gran = d.gran := rfl
@[simp] theorem Dev.setQueue_sched (d : Dev) (n : Nat) (x : EQueue) :
    (Dev.setQueue d n x).sched = d.sched := rfl
@[simp] theorem Dev.setQueue_lanes (d : Dev) (n : Nat) (x : EQueue) :
    (Dev.setQueue d n x).lanes = d.lanes := rfl
@[simp] theorem Dev.setQueue_dma (d : Dev) (n : Nat) (x : EQueue) :
    (Dev.setQueue d n x).dma = d.dma := rfl
@[simp] theorem Dev.setQueue_prog (d : Dev) (n : Nat) (x : EQueue) :
    (Dev.setQueue d n x).prog = d.prog := rfl
@[simp] theorem Dev.setQueue_mgmt (d : Dev) (n : Nat) (x : EQueue) :
    (Dev.setQueue d n x).mgmt = d.mgmt := rfl
@[simp] theorem Dev.setQueue_fw (d : Dev) (n : Nat) (x : EQueue) :
    (Dev.setQueue d n x).fw = d.fw := rfl
@[simp] theorem Dev.setQueue_pwr (d : Dev) (n : Nat) (x : EQueue) :
    (Dev.setQueue d n x).pwr = d.pwr := rfl
@[simp] theorem Dev.setQueue_rst (d : Dev) (n : Nat) (x : EQueue) :
    (Dev.setQueue d n x).rst = d.rst := rfl

@[simp] theorem Dev.setPort_ticks (d : Dev) (p : Nat) (x : OutPort) :
    (Dev.setPort d p x).ticks = d.ticks := rfl
@[simp] theorem Dev.setPort_free (d : Dev) (p : Nat) (x : OutPort) :
    (Dev.setPort d p x).free = d.free := rfl
@[simp] theorem Dev.setPort_out (d : Dev) (p : Nat) (x : OutPort) :
    (Dev.setPort d p x).out = d.out := rfl
@[simp] theorem Dev.setPort_dict (d : Dev) (p : Nat) (x : OutPort) :
    (Dev.setPort d p x).dict = d.dict := rfl
@[simp] theorem Dev.setPort_time (d : Dev) (p : Nat) (x : OutPort) :
    (Dev.setPort d p x).time = d.time := rfl
@[simp] theorem Dev.setPort_tel (d : Dev) (p : Nat) (x : OutPort) :
    (Dev.setPort d p x).tel = d.tel := rfl
@[simp] theorem Dev.setPort_err (d : Dev) (p : Nat) (x : OutPort) :
    (Dev.setPort d p x).err = d.err := rfl
@[simp] theorem Dev.setPort_hostA (d : Dev) (p : Nat) (x : OutPort) :
    (Dev.setPort d p x).hostA = d.hostA := rfl
@[simp] theorem Dev.setPort_hostB (d : Dev) (p : Nat) (x : OutPort) :
    (Dev.setPort d p x).hostB = d.hostB := rfl
@[simp] theorem Dev.setPort_pipes (d : Dev) (p : Nat) (x : OutPort) :
    (Dev.setPort d p x).pipes = d.pipes := rfl
@[simp] theorem Dev.setPort_tbl (d : Dev) (p : Nat) (x : OutPort) :
    (Dev.setPort d p x).tbl = d.tbl := rfl
@[simp] theorem Dev.setPort_pkts (d : Dev) (p : Nat) (x : OutPort) :
    (Dev.setPort d p x).pkts = d.pkts := rfl
@[simp] theorem Dev.setPort_nextPkt (d : Dev) (p : Nat) (x : OutPort) :
    (Dev.setPort d p x).nextPkt = d.nextPkt := rfl
@[simp] theorem Dev.setPort_queues (d : Dev) (p : Nat) (x : OutPort) :
    (Dev.setPort d p x).queues = d.queues := rfl
@[simp] theorem Dev.setPort_buf (d : Dev) (p : Nat) (x : OutPort) :
    (Dev.setPort d p x).buf = d.buf := rfl
@[simp] theorem Dev.setPort_gran (d : Dev) (p : Nat) (x : OutPort) :
    (Dev.setPort d p x).gran = d.gran := rfl
@[simp] theorem Dev.setPort_sched (d : Dev) (p : Nat) (x : OutPort) :
    (Dev.setPort d p x).sched = d.sched := rfl
@[simp] theorem Dev.setPort_lanes (d : Dev) (p : Nat) (x : OutPort) :
    (Dev.setPort d p x).lanes = d.lanes := rfl
@[simp] theorem Dev.setPort_dma (d : Dev) (p : Nat) (x : OutPort) :
    (Dev.setPort d p x).dma = d.dma := rfl
@[simp] theorem Dev.setPort_prog (d : Dev) (p : Nat) (x : OutPort) :
    (Dev.setPort d p x).prog = d.prog := rfl
@[simp] theorem Dev.setPort_mgmt (d : Dev) (p : Nat) (x : OutPort) :
    (Dev.setPort d p x).mgmt = d.mgmt := rfl
@[simp] theorem Dev.setPort_fw (d : Dev) (p : Nat) (x : OutPort) :
    (Dev.setPort d p x).fw = d.fw := rfl
@[simp] theorem Dev.setPort_pwr (d : Dev) (p : Nat) (x : OutPort) :
    (Dev.setPort d p x).pwr = d.pwr := rfl
@[simp] theorem Dev.setPort_rst (d : Dev) (p : Nat) (x : OutPort) :
    (Dev.setPort d p x).rst = d.rst := rfl

@[simp] theorem Dev.setTierV_ticks (d : Dev) (p t v : Nat) :
    (Dev.setTierV d p t v).ticks = d.ticks := rfl
@[simp] theorem Dev.setTierV_free (d : Dev) (p t v : Nat) :
    (Dev.setTierV d p t v).free = d.free := rfl
@[simp] theorem Dev.setTierV_out (d : Dev) (p t v : Nat) :
    (Dev.setTierV d p t v).out = d.out := rfl
@[simp] theorem Dev.setTierV_dict (d : Dev) (p t v : Nat) :
    (Dev.setTierV d p t v).dict = d.dict := rfl
@[simp] theorem Dev.setTierV_time (d : Dev) (p t v : Nat) :
    (Dev.setTierV d p t v).time = d.time := rfl
@[simp] theorem Dev.setTierV_tel (d : Dev) (p t v : Nat) :
    (Dev.setTierV d p t v).tel = d.tel := rfl
@[simp] theorem Dev.setTierV_err (d : Dev) (p t v : Nat) :
    (Dev.setTierV d p t v).err = d.err := rfl
@[simp] theorem Dev.setTierV_hostA (d : Dev) (p t v : Nat) :
    (Dev.setTierV d p t v).hostA = d.hostA := rfl
@[simp] theorem Dev.setTierV_hostB (d : Dev) (p t v : Nat) :
    (Dev.setTierV d p t v).hostB = d.hostB := rfl
@[simp] theorem Dev.setTierV_pipes (d : Dev) (p t v : Nat) :
    (Dev.setTierV d p t v).pipes = d.pipes := rfl
@[simp] theorem Dev.setTierV_tbl (d : Dev) (p t v : Nat) :
    (Dev.setTierV d p t v).tbl = d.tbl := rfl
@[simp] theorem Dev.setTierV_pkts (d : Dev) (p t v : Nat) :
    (Dev.setTierV d p t v).pkts = d.pkts := rfl
@[simp] theorem Dev.setTierV_nextPkt (d : Dev) (p t v : Nat) :
    (Dev.setTierV d p t v).nextPkt = d.nextPkt := rfl
@[simp] theorem Dev.setTierV_queues (d : Dev) (p t v : Nat) :
    (Dev.setTierV d p t v).queues = d.queues := rfl
@[simp] theorem Dev.setTierV_buf (d : Dev) (p t v : Nat) :
    (Dev.setTierV d p t v).buf = d.buf := rfl
@[simp] theorem Dev.setTierV_gran (d : Dev) (p t v : Nat) :
    (Dev.setTierV d p t v).gran = d.gran := rfl
@[simp] theorem Dev.setTierV_sched (d : Dev) (p t v : Nat) :
    (Dev.setTierV d p t v).sched = d.sched := rfl
@[simp] theorem Dev.setTierV_lanes (d : Dev) (p t v : Nat) :
    (Dev.setTierV d p t v).lanes = d.lanes := rfl
@[simp] theorem Dev.setTierV_dma (d : Dev) (p t v : Nat) :
    (Dev.setTierV d p t v).dma = d.dma := rfl
@[simp] theorem Dev.setTierV_prog (d : Dev) (p t v : Nat) :
    (Dev.setTierV d p t v).prog = d.prog := rfl
@[simp] theorem Dev.setTierV_mgmt (d : Dev) (p t v : Nat) :
    (Dev.setTierV d p t v).mgmt = d.mgmt := rfl
@[simp] theorem Dev.setTierV_fw (d : Dev) (p t v : Nat) :
    (Dev.setTierV d p t v).fw = d.fw := rfl
@[simp] theorem Dev.setTierV_pwr (d : Dev) (p t v : Nat) :
    (Dev.setTierV d p t v).pwr = d.pwr := rfl
@[simp] theorem Dev.setTierV_rst (d : Dev) (p t v : Nat) :
    (Dev.setTierV d p t v).rst = d.rst := rfl

@[simp] theorem Dev.setBuf_ticks (d : Dev) (x : BufS) :
    (Dev.setBuf d x).ticks = d.ticks := rfl
@[simp] theorem Dev.setBuf_free (d : Dev) (x : BufS) :
    (Dev.setBuf d x).free = d.free := rfl
@[simp] theorem Dev.setBuf_out (d : Dev) (x : BufS) :
    (Dev.setBuf d x).out = d.out := rfl
@[simp] theorem Dev.setBuf_dict (d : Dev) (x : BufS) :
    (Dev.setBuf d x).dict = d.dict := rfl
@[simp] theorem Dev.setBuf_time (d : Dev) (x : BufS) :
    (Dev.setBuf d x).time = d.time := rfl
@[simp] theorem Dev.setBuf_tel (d : Dev) (x : BufS) :
    (Dev.setBuf d x).tel = d.tel := rfl
@[simp] theorem Dev.setBuf_err (d : Dev) (x : BufS) :
    (Dev.setBuf d x).err = d.err := rfl
@[simp] theorem Dev.setBuf_hostA (d : Dev) (x : BufS) :
    (Dev.setBuf d x).hostA = d.hostA := rfl
@[simp] theorem Dev.setBuf_hostB (d : Dev) (x : BufS) :
    (Dev.setBuf d x).hostB = d.hostB := rfl
@[simp] theorem Dev.setBuf_pipes (d : Dev) (x : BufS) :
    (Dev.setBuf d x).pipes = d.pipes := rfl
@[simp] theorem Dev.setBuf_tbl (d : Dev) (x : BufS) :
    (Dev.setBuf d x).tbl = d.tbl := rfl
@[simp] theorem Dev.setBuf_pkts (d : Dev) (x : BufS) :
    (Dev.setBuf d x).pkts = d.pkts := rfl
@[simp] theorem Dev.setBuf_nextPkt (d : Dev) (x : BufS) :
    (Dev.setBuf d x).nextPkt = d.nextPkt := rfl
@[simp] theorem Dev.setBuf_queues (d : Dev) (x : BufS) :
    (Dev.setBuf d x).queues = d.queues := rfl
@[simp] theorem Dev.setBuf_ports (d : Dev) (x : BufS) :
    (Dev.setBuf d x).ports = d.ports := rfl
@[simp] theorem Dev.setBuf_gran (d : Dev) (x : BufS) :
    (Dev.setBuf d x).gran = d.gran := rfl
@[simp] theorem Dev.setBuf_sched (d : Dev) (x : BufS) :
    (Dev.setBuf d x).sched = d.sched := rfl
@[simp] theorem Dev.setBuf_lanes (d : Dev) (x : BufS) :
    (Dev.setBuf d x).lanes = d.lanes := rfl
@[simp] theorem Dev.setBuf_dma (d : Dev) (x : BufS) :
    (Dev.setBuf d x).dma = d.dma := rfl
@[simp] theorem Dev.setBuf_prog (d : Dev) (x : BufS) :
    (Dev.setBuf d x).prog = d.prog := rfl
@[simp] theorem Dev.setBuf_mgmt (d : Dev) (x : BufS) :
    (Dev.setBuf d x).mgmt = d.mgmt := rfl
@[simp] theorem Dev.setBuf_fw (d : Dev) (x : BufS) :
    (Dev.setBuf d x).fw = d.fw := rfl
@[simp] theorem Dev.setBuf_pwr (d : Dev) (x : BufS) :
    (Dev.setBuf d x).pwr = d.pwr := rfl
@[simp] theorem Dev.setBuf_rst (d : Dev) (x : BufS) :
    (Dev.setBuf d x).rst = d.rst := rfl

@[simp] theorem Dev.setXoff_ticks (d : Dev) (i : Nat) (v : Bool) :
    (Dev.setXoff d i v).ticks = d.ticks := rfl
@[simp] theorem Dev.setXoff_free (d : Dev) (i : Nat) (v : Bool) :
    (Dev.setXoff d i v).free = d.free := rfl
@[simp] theorem Dev.setXoff_out (d : Dev) (i : Nat) (v : Bool) :
    (Dev.setXoff d i v).out = d.out := rfl
@[simp] theorem Dev.setXoff_dict (d : Dev) (i : Nat) (v : Bool) :
    (Dev.setXoff d i v).dict = d.dict := rfl
@[simp] theorem Dev.setXoff_time (d : Dev) (i : Nat) (v : Bool) :
    (Dev.setXoff d i v).time = d.time := rfl
@[simp] theorem Dev.setXoff_tel (d : Dev) (i : Nat) (v : Bool) :
    (Dev.setXoff d i v).tel = d.tel := rfl
@[simp] theorem Dev.setXoff_err (d : Dev) (i : Nat) (v : Bool) :
    (Dev.setXoff d i v).err = d.err := rfl
@[simp] theorem Dev.setXoff_hostA (d : Dev) (i : Nat) (v : Bool) :
    (Dev.setXoff d i v).hostA = d.hostA := rfl
@[simp] theorem Dev.setXoff_hostB (d : Dev) (i : Nat) (v : Bool) :
    (Dev.setXoff d i v).hostB = d.hostB := rfl
@[simp] theorem Dev.setXoff_pipes (d : Dev) (i : Nat) (v : Bool) :
    (Dev.setXoff d i v).pipes = d.pipes := rfl
@[simp] theorem Dev.setXoff_tbl (d : Dev) (i : Nat) (v : Bool) :
    (Dev.setXoff d i v).tbl = d.tbl := rfl
@[simp] theorem Dev.setXoff_pkts (d : Dev) (i : Nat) (v : Bool) :
    (Dev.setXoff d i v).pkts = d.pkts := rfl
@[simp] theorem Dev.setXoff_nextPkt (d : Dev) (i : Nat) (v : Bool) :
    (Dev.setXoff d i v).nextPkt = d.nextPkt := rfl
@[simp] theorem Dev.setXoff_queues (d : Dev) (i : Nat) (v : Bool) :
    (Dev.setXoff d i v).queues = d.queues := rfl
@[simp] theorem Dev.setXoff_ports (d : Dev) (i : Nat) (v : Bool) :
    (Dev.setXoff d i v).ports = d.ports := rfl
@[simp] theorem Dev.setXoff_gran (d : Dev) (i : Nat) (v : Bool) :
    (Dev.setXoff d i v).gran = d.gran := rfl
@[simp] theorem Dev.setXoff_sched (d : Dev) (i : Nat) (v : Bool) :
    (Dev.setXoff d i v).sched = d.sched := rfl
@[simp] theorem Dev.setXoff_lanes (d : Dev) (i : Nat) (v : Bool) :
    (Dev.setXoff d i v).lanes = d.lanes := rfl
@[simp] theorem Dev.setXoff_dma (d : Dev) (i : Nat) (v : Bool) :
    (Dev.setXoff d i v).dma = d.dma := rfl
@[simp] theorem Dev.setXoff_prog (d : Dev) (i : Nat) (v : Bool) :
    (Dev.setXoff d i v).prog = d.prog := rfl
@[simp] theorem Dev.setXoff_mgmt (d : Dev) (i : Nat) (v : Bool) :
    (Dev.setXoff d i v).mgmt = d.mgmt := rfl
@[simp] theorem Dev.setXoff_fw (d : Dev) (i : Nat) (v : Bool) :
    (Dev.setXoff d i v).fw = d.fw := rfl
@[simp] theorem Dev.setXoff_pwr (d : Dev) (i : Nat) (v : Bool) :
    (Dev.setXoff d i v).pwr = d.pwr := rfl
@[simp] theorem Dev.setXoff_rst (d : Dev) (i : Nat) (v : Bool) :
    (Dev.setXoff d i v).rst = d.rst := rfl

@[simp] theorem Dev.setWheel_ticks (d : Dev) (n : Nat) (w o : List (Nat × Nat)) :
    (Dev.setWheel d n w o).ticks = d.ticks := rfl
@[simp] theorem Dev.setWheel_free (d : Dev) (n : Nat) (w o : List (Nat × Nat)) :
    (Dev.setWheel d n w o).free = d.free := rfl
@[simp] theorem Dev.setWheel_out (d : Dev) (n : Nat) (w o : List (Nat × Nat)) :
    (Dev.setWheel d n w o).out = d.out := rfl
@[simp] theorem Dev.setWheel_dict (d : Dev) (n : Nat) (w o : List (Nat × Nat)) :
    (Dev.setWheel d n w o).dict = d.dict := rfl
@[simp] theorem Dev.setWheel_time (d : Dev) (n : Nat) (w o : List (Nat × Nat)) :
    (Dev.setWheel d n w o).time = d.time := rfl
@[simp] theorem Dev.setWheel_tel (d : Dev) (n : Nat) (w o : List (Nat × Nat)) :
    (Dev.setWheel d n w o).tel = d.tel := rfl
@[simp] theorem Dev.setWheel_err (d : Dev) (n : Nat) (w o : List (Nat × Nat)) :
    (Dev.setWheel d n w o).err = d.err := rfl
@[simp] theorem Dev.setWheel_hostA (d : Dev) (n : Nat) (w o : List (Nat × Nat)) :
    (Dev.setWheel d n w o).hostA = d.hostA := rfl
@[simp] theorem Dev.setWheel_hostB (d : Dev) (n : Nat) (w o : List (Nat × Nat)) :
    (Dev.setWheel d n w o).hostB = d.hostB := rfl
@[simp] theorem Dev.setWheel_pipes (d : Dev) (n : Nat) (w o : List (Nat × Nat)) :
    (Dev.setWheel d n w o).pipes = d.pipes := rfl
@[simp] theorem Dev.setWheel_tbl (d : Dev) (n : Nat) (w o : List (Nat × Nat)) :
    (Dev.setWheel d n w o).tbl = d.tbl := rfl
@[simp] theorem Dev.setWheel_pkts (d : Dev) (n : Nat) (w o : List (Nat × Nat)) :
    (Dev.setWheel d n w o).pkts = d.pkts := rfl
@[simp] theorem Dev.setWheel_nextPkt (d : Dev) (n : Nat) (w o : List (Nat × Nat)) :
    (Dev.setWheel d n w o).nextPkt = d.nextPkt := rfl
@[simp] theorem Dev.setWheel_queues (d : Dev) (n : Nat) (w o : List (Nat × Nat)) :
    (Dev.setWheel d n w o).queues = d.queues := rfl
@[simp] theorem Dev.setWheel_ports (d : Dev) (n : Nat) (w o : List (Nat × Nat)) :
    (Dev.setWheel d n w o).ports = d.ports := rfl
@[simp] theorem Dev.setWheel_buf (d : Dev) (n : Nat) (w o : List (Nat × Nat)) :
    (Dev.setWheel d n w o).buf = d.buf := rfl
@[simp] theorem Dev.setWheel_gran (d : Dev) (n : Nat) (w o : List (Nat × Nat)) :
    (Dev.setWheel d n w o).gran = d.gran := rfl
@[simp] theorem Dev.setWheel_lanes (d : Dev) (n : Nat) (w o : List (Nat × Nat)) :
    (Dev.setWheel d n w o).lanes = d.lanes := rfl
@[simp] theorem Dev.setWheel_dma (d : Dev) (n : Nat) (w o : List (Nat × Nat)) :
    (Dev.setWheel d n w o).dma = d.dma := rfl
@[simp] theorem Dev.setWheel_prog (d : Dev) (n : Nat) (w o : List (Nat × Nat)) :
    (Dev.setWheel d n w o).prog = d.prog := rfl
@[simp] theorem Dev.setWheel_mgmt (d : Dev) (n : Nat) (w o : List (Nat × Nat)) :
    (Dev.setWheel d n w o).mgmt = d.mgmt := rfl
@[simp] theorem Dev.setWheel_fw (d : Dev) (n : Nat) (w o : List (Nat × Nat)) :
    (Dev.setWheel d n w o).fw = d.fw := rfl
@[simp] theorem Dev.setWheel_pwr (d : Dev) (n : Nat) (w o : List (Nat × Nat)) :
    (Dev.setWheel d n w o).pwr = d.pwr := rfl
@[simp] theorem Dev.setWheel_rst (d : Dev) (n : Nat) (w o : List (Nat × Nat)) :
    (Dev.setWheel d n w o).rst = d.rst := rfl

@[simp] theorem Dev.setPolicer_ticks (d : Dev) (i : Nat) (x : Policer) :
    (Dev.setPolicer d i x).ticks = d.ticks := rfl
@[simp] theorem Dev.setPolicer_free (d : Dev) (i : Nat) (x : Policer) :
    (Dev.setPolicer d i x).free = d.free := rfl
@[simp] theorem Dev.setPolicer_out (d : Dev) (i : Nat) (x : Policer) :
    (Dev.setPolicer d i x).out = d.out := rfl
@[simp] theorem Dev.setPolicer_dict (d : Dev) (i : Nat) (x : Policer) :
    (Dev.setPolicer d i x).dict = d.dict := rfl
@[simp] theorem Dev.setPolicer_time (d : Dev) (i : Nat) (x : Policer) :
    (Dev.setPolicer d i x).time = d.time := rfl
@[simp] theorem Dev.setPolicer_tel (d : Dev) (i : Nat) (x : Policer) :
    (Dev.setPolicer d i x).tel = d.tel := rfl
@[simp] theorem Dev.setPolicer_err (d : Dev) (i : Nat) (x : Policer) :
    (Dev.setPolicer d i x).err = d.err := rfl
@[simp] theorem Dev.setPolicer_hostA (d : Dev) (i : Nat) (x : Policer) :
    (Dev.setPolicer d i x).hostA = d.hostA := rfl
@[simp] theorem Dev.setPolicer_hostB (d : Dev) (i : Nat) (x : Policer) :
    (Dev.setPolicer d i x).hostB = d.hostB := rfl
@[simp] theorem Dev.setPolicer_pipes (d : Dev) (i : Nat) (x : Policer) :
    (Dev.setPolicer d i x).pipes = d.pipes := rfl
@[simp] theorem Dev.setPolicer_tbl (d : Dev) (i : Nat) (x : Policer) :
    (Dev.setPolicer d i x).tbl = d.tbl := rfl
@[simp] theorem Dev.setPolicer_pkts (d : Dev) (i : Nat) (x : Policer) :
    (Dev.setPolicer d i x).pkts = d.pkts := rfl
@[simp] theorem Dev.setPolicer_nextPkt (d : Dev) (i : Nat) (x : Policer) :
    (Dev.setPolicer d i x).nextPkt = d.nextPkt := rfl
@[simp] theorem Dev.setPolicer_queues (d : Dev) (i : Nat) (x : Policer) :
    (Dev.setPolicer d i x).queues = d.queues := rfl
@[simp] theorem Dev.setPolicer_ports (d : Dev) (i : Nat) (x : Policer) :
    (Dev.setPolicer d i x).ports = d.ports := rfl
@[simp] theorem Dev.setPolicer_buf (d : Dev) (i : Nat) (x : Policer) :
    (Dev.setPolicer d i x).buf = d.buf := rfl
@[simp] theorem Dev.setPolicer_gran (d : Dev) (i : Nat) (x : Policer) :
    (Dev.setPolicer d i x).gran = d.gran := rfl
@[simp] theorem Dev.setPolicer_lanes (d : Dev) (i : Nat) (x : Policer) :
    (Dev.setPolicer d i x).lanes = d.lanes := rfl
@[simp] theorem Dev.setPolicer_dma (d : Dev) (i : Nat) (x : Policer) :
    (Dev.setPolicer d i x).dma = d.dma := rfl
@[simp] theorem Dev.setPolicer_prog (d : Dev) (i : Nat) (x : Policer) :
    (Dev.setPolicer d i x).prog = d.prog := rfl
@[simp] theorem Dev.setPolicer_mgmt (d : Dev) (i : Nat) (x : Policer) :
    (Dev.setPolicer d i x).mgmt = d.mgmt := rfl
@[simp] theorem Dev.setPolicer_fw (d : Dev) (i : Nat) (x : Policer) :
    (Dev.setPolicer d i x).fw = d.fw := rfl
@[simp] theorem Dev.setPolicer_pwr (d : Dev) (i : Nat) (x : Policer) :
    (Dev.setPolicer d i x).pwr = d.pwr := rfl
@[simp] theorem Dev.setPolicer_rst (d : Dev) (i : Nat) (x : Policer) :
    (Dev.setPolicer d i x).rst = d.rst := rfl

@[simp] theorem Dev.setLink_ticks (d : Dev) (p : Nat) (x : LinkS) :
    (Dev.setLink d p x).ticks = d.ticks := rfl
@[simp] theorem Dev.setLink_free (d : Dev) (p : Nat) (x : LinkS) :
    (Dev.setLink d p x).free = d.free := rfl
@[simp] theorem Dev.setLink_out (d : Dev) (p : Nat) (x : LinkS) :
    (Dev.setLink d p x).out = d.out := rfl
@[simp] theorem Dev.setLink_dict (d : Dev) (p : Nat) (x : LinkS) :
    (Dev.setLink d p x).dict = d.dict := rfl
@[simp] theorem Dev.setLink_time (d : Dev) (p : Nat) (x : LinkS) :
    (Dev.setLink d p x).time = d.time := rfl
@[simp] theorem Dev.setLink_tel (d : Dev) (p : Nat) (x : LinkS) :
    (Dev.setLink d p x).tel = d.tel := rfl
@[simp] theorem Dev.setLink_err (d : Dev) (p : Nat) (x : LinkS) :
    (Dev.setLink d p x).err = d.err := rfl
@[simp] theorem Dev.setLink_hostA (d : Dev) (p : Nat) (x : LinkS) :
    (Dev.setLink d p x).hostA = d.hostA := rfl
@[simp] theorem Dev.setLink_hostB (d : Dev) (p : Nat) (x : LinkS) :
    (Dev.setLink d p x).hostB = d.hostB := rfl
@[simp] theorem Dev.setLink_pipes (d : Dev) (p : Nat) (x : LinkS) :
    (Dev.setLink d p x).pipes = d.pipes := rfl
@[simp] theorem Dev.setLink_tbl (d : Dev) (p : Nat) (x : LinkS) :
    (Dev.setLink d p x).tbl = d.tbl := rfl
@[simp] theorem Dev.setLink_pkts (d : Dev) (p : Nat) (x : LinkS) :
    (Dev.setLink d p x).pkts = d.pkts := rfl
@[simp] theorem Dev.setLink_nextPkt (d : Dev) (p : Nat) (x : LinkS) :
    (Dev.setLink d p x).nextPkt = d.nextPkt := rfl
@[simp] theorem Dev.setLink_queues (d : Dev) (p : Nat) (x : LinkS) :
    (Dev.setLink d p x).queues = d.queues := rfl
@[simp] theorem Dev.setLink_ports (d : Dev) (p : Nat) (x : LinkS) :
    (Dev.setLink d p x).ports = d.ports := rfl
@[simp] theorem Dev.setLink_buf (d : Dev) (p : Nat) (x : LinkS) :
    (Dev.setLink d p x).buf = d.buf := rfl
@[simp] theorem Dev.setLink_gran (d : Dev) (p : Nat) (x : LinkS) :
    (Dev.setLink d p x).gran = d.gran := rfl
@[simp] theorem Dev.setLink_sched (d : Dev) (p : Nat) (x : LinkS) :
    (Dev.setLink d p x).sched = d.sched := rfl
@[simp] theorem Dev.setLink_dma (d : Dev) (p : Nat) (x : LinkS) :
    (Dev.setLink d p x).dma = d.dma := rfl
@[simp] theorem Dev.setLink_prog (d : Dev) (p : Nat) (x : LinkS) :
    (Dev.setLink d p x).prog = d.prog := rfl
@[simp] theorem Dev.setLink_mgmt (d : Dev) (p : Nat) (x : LinkS) :
    (Dev.setLink d p x).mgmt = d.mgmt := rfl
@[simp] theorem Dev.setLink_fw (d : Dev) (p : Nat) (x : LinkS) :
    (Dev.setLink d p x).fw = d.fw := rfl
@[simp] theorem Dev.setLink_pwr (d : Dev) (p : Nat) (x : LinkS) :
    (Dev.setLink d p x).pwr = d.pwr := rfl
@[simp] theorem Dev.setLink_rst (d : Dev) (p : Nat) (x : LinkS) :
    (Dev.setLink d p x).rst = d.rst := rfl

@[simp] theorem Dev.setRouri_ticks (d : Dev) (t r : Nat) (x : RouriS) :
    (Dev.setRouri d t r x).ticks = d.ticks := rfl
@[simp] theorem Dev.setRouri_free (d : Dev) (t r : Nat) (x : RouriS) :
    (Dev.setRouri d t r x).free = d.free := rfl
@[simp] theorem Dev.setRouri_out (d : Dev) (t r : Nat) (x : RouriS) :
    (Dev.setRouri d t r x).out = d.out := rfl
@[simp] theorem Dev.setRouri_dict (d : Dev) (t r : Nat) (x : RouriS) :
    (Dev.setRouri d t r x).dict = d.dict := rfl
@[simp] theorem Dev.setRouri_time (d : Dev) (t r : Nat) (x : RouriS) :
    (Dev.setRouri d t r x).time = d.time := rfl
@[simp] theorem Dev.setRouri_tel (d : Dev) (t r : Nat) (x : RouriS) :
    (Dev.setRouri d t r x).tel = d.tel := rfl
@[simp] theorem Dev.setRouri_err (d : Dev) (t r : Nat) (x : RouriS) :
    (Dev.setRouri d t r x).err = d.err := rfl
@[simp] theorem Dev.setRouri_hostA (d : Dev) (t r : Nat) (x : RouriS) :
    (Dev.setRouri d t r x).hostA = d.hostA := rfl
@[simp] theorem Dev.setRouri_hostB (d : Dev) (t r : Nat) (x : RouriS) :
    (Dev.setRouri d t r x).hostB = d.hostB := rfl
@[simp] theorem Dev.setRouri_pipes (d : Dev) (t r : Nat) (x : RouriS) :
    (Dev.setRouri d t r x).pipes = d.pipes := rfl
@[simp] theorem Dev.setRouri_tbl (d : Dev) (t r : Nat) (x : RouriS) :
    (Dev.setRouri d t r x).tbl = d.tbl := rfl
@[simp] theorem Dev.setRouri_pkts (d : Dev) (t r : Nat) (x : RouriS) :
    (Dev.setRouri d t r x).pkts = d.pkts := rfl
@[simp] theorem Dev.setRouri_nextPkt (d : Dev) (t r : Nat) (x : RouriS) :
    (Dev.setRouri d t r x).nextPkt = d.nextPkt := rfl
@[simp] theorem Dev.setRouri_queues (d : Dev) (t r : Nat) (x : RouriS) :
    (Dev.setRouri d t r x).queues = d.queues := rfl
@[simp] theorem Dev.setRouri_ports (d : Dev) (t r : Nat) (x : RouriS) :
    (Dev.setRouri d t r x).ports = d.ports := rfl
@[simp] theorem Dev.setRouri_buf (d : Dev) (t r : Nat) (x : RouriS) :
    (Dev.setRouri d t r x).buf = d.buf := rfl
@[simp] theorem Dev.setRouri_gran (d : Dev) (t r : Nat) (x : RouriS) :
    (Dev.setRouri d t r x).gran = d.gran := rfl
@[simp] theorem Dev.setRouri_sched (d : Dev) (t r : Nat) (x : RouriS) :
    (Dev.setRouri d t r x).sched = d.sched := rfl
@[simp] theorem Dev.setRouri_dma (d : Dev) (t r : Nat) (x : RouriS) :
    (Dev.setRouri d t r x).dma = d.dma := rfl
@[simp] theorem Dev.setRouri_prog (d : Dev) (t r : Nat) (x : RouriS) :
    (Dev.setRouri d t r x).prog = d.prog := rfl
@[simp] theorem Dev.setRouri_mgmt (d : Dev) (t r : Nat) (x : RouriS) :
    (Dev.setRouri d t r x).mgmt = d.mgmt := rfl
@[simp] theorem Dev.setRouri_fw (d : Dev) (t r : Nat) (x : RouriS) :
    (Dev.setRouri d t r x).fw = d.fw := rfl
@[simp] theorem Dev.setRouri_pwr (d : Dev) (t r : Nat) (x : RouriS) :
    (Dev.setRouri d t r x).pwr = d.pwr := rfl
@[simp] theorem Dev.setRouri_rst (d : Dev) (t r : Nat) (x : RouriS) :
    (Dev.setRouri d t r x).rst = d.rst := rfl

@[simp] theorem Dev.setProg_ticks (d : Dev) (x : ProgS) :
    (Dev.setProg d x).ticks = d.ticks := rfl
@[simp] theorem Dev.setProg_free (d : Dev) (x : ProgS) :
    (Dev.setProg d x).free = d.free := rfl
@[simp] theorem Dev.setProg_out (d : Dev) (x : ProgS) :
    (Dev.setProg d x).out = d.out := rfl
@[simp] theorem Dev.setProg_dict (d : Dev) (x : ProgS) :
    (Dev.setProg d x).dict = d.dict := rfl
@[simp] theorem Dev.setProg_time (d : Dev) (x : ProgS) :
    (Dev.setProg d x).time = d.time := rfl
@[simp] theorem Dev.setProg_tel (d : Dev) (x : ProgS) :
    (Dev.setProg d x).tel = d.tel := rfl
@[simp] theorem Dev.setProg_err (d : Dev) (x : ProgS) :
    (Dev.setProg d x).err = d.err := rfl
@[simp] theorem Dev.setProg_hostA (d : Dev) (x : ProgS) :
    (Dev.setProg d x).hostA = d.hostA := rfl
@[simp] theorem Dev.setProg_hostB (d : Dev) (x : ProgS) :
    (Dev.setProg d x).hostB = d.hostB := rfl
@[simp] theorem Dev.setProg_pipes (d : Dev) (x : ProgS) :
    (Dev.setProg d x).pipes = d.pipes := rfl
@[simp] theorem Dev.setProg_tbl (d : Dev) (x : ProgS) :
    (Dev.setProg d x).tbl = d.tbl := rfl
@[simp] theorem Dev.setProg_pkts (d : Dev) (x : ProgS) :
    (Dev.setProg d x).pkts = d.pkts := rfl
@[simp] theorem Dev.setProg_nextPkt (d : Dev) (x : ProgS) :
    (Dev.setProg d x).nextPkt = d.nextPkt := rfl
@[simp] theorem Dev.setProg_queues (d : Dev) (x : ProgS) :
    (Dev.setProg d x).queues = d.queues := rfl
@[simp] theorem Dev.setProg_ports (d : Dev) (x : ProgS) :
    (Dev.setProg d x).ports = d.ports := rfl
@[simp] theorem Dev.setProg_buf (d : Dev) (x : ProgS) :
    (Dev.setProg d x).buf = d.buf := rfl
@[simp] theorem Dev.setProg_gran (d : Dev) (x : ProgS) :
    (Dev.setProg d x).gran = d.gran := rfl
@[simp] theorem Dev.setProg_sched (d : Dev) (x : ProgS) :
    (Dev.setProg d x).sched = d.sched := rfl
@[simp] theorem Dev.setProg_lanes (d : Dev) (x : ProgS) :
    (Dev.setProg d x).lanes = d.lanes := rfl
@[simp] theorem Dev.setProg_dma (d : Dev) (x : ProgS) :
    (Dev.setProg d x).dma = d.dma := rfl
@[simp] theorem Dev.setProg_mgmt (d : Dev) (x : ProgS) :
    (Dev.setProg d x).mgmt = d.mgmt := rfl
@[simp] theorem Dev.setProg_fw (d : Dev) (x : ProgS) :
    (Dev.setProg d x).fw = d.fw := rfl
@[simp] theorem Dev.setProg_pwr (d : Dev) (x : ProgS) :
    (Dev.setProg d x).pwr = d.pwr := rfl
@[simp] theorem Dev.setProg_rst (d : Dev) (x : ProgS) :
    (Dev.setProg d x).rst = d.rst := rfl

@[simp] theorem Dev.setTbl_ticks (d : Dev) (x : TableS) :
    (Dev.setTbl d x).ticks = d.ticks := rfl
@[simp] theorem Dev.setTbl_free (d : Dev) (x : TableS) :
    (Dev.setTbl d x).free = d.free := rfl
@[simp] theorem Dev.setTbl_out (d : Dev) (x : TableS) :
    (Dev.setTbl d x).out = d.out := rfl
@[simp] theorem Dev.setTbl_dict (d : Dev) (x : TableS) :
    (Dev.setTbl d x).dict = d.dict := rfl
@[simp] theorem Dev.setTbl_time (d : Dev) (x : TableS) :
    (Dev.setTbl d x).time = d.time := rfl
@[simp] theorem Dev.setTbl_tel (d : Dev) (x : TableS) :
    (Dev.setTbl d x).tel = d.tel := rfl
@[simp] theorem Dev.setTbl_err (d : Dev) (x : TableS) :
    (Dev.setTbl d x).err = d.err := rfl
@[simp] theorem Dev.setTbl_hostA (d : Dev) (x : TableS) :
    (Dev.setTbl d x).hostA = d.hostA := rfl
@[simp] theorem Dev.setTbl_hostB (d : Dev) (x : TableS) :
    (Dev.setTbl d x).hostB = d.hostB := rfl
@[simp] theorem Dev.setTbl_pipes (d : Dev) (x : TableS) :
    (Dev.setTbl d x).pipes = d.pipes := rfl
@[simp] theorem Dev.setTbl_pkts (d : Dev) (x : TableS) :
    (Dev.setTbl d x).pkts = d.pkts := rfl
@[simp] theorem Dev.setTbl_nextPkt (d : Dev) (x : TableS) :
    (Dev.setTbl d x).nextPkt = d.nextPkt := rfl
@[simp] theorem Dev.setTbl_queues (d : Dev) (x : TableS) :
    (Dev.setTbl d x).queues = d.queues := rfl
@[simp] theorem Dev.setTbl_ports (d : Dev) (x : TableS) :
    (Dev.setTbl d x).ports = d.ports := rfl
@[simp] theorem Dev.setTbl_buf (d : Dev) (x : TableS) :
    (Dev.setTbl d x).buf = d.buf := rfl
@[simp] theorem Dev.setTbl_gran (d : Dev) (x : TableS) :
    (Dev.setTbl d x).gran = d.gran := rfl
@[simp] theorem Dev.setTbl_sched (d : Dev) (x : TableS) :
    (Dev.setTbl d x).sched = d.sched := rfl
@[simp] theorem Dev.setTbl_lanes (d : Dev) (x : TableS) :
    (Dev.setTbl d x).lanes = d.lanes := rfl
@[simp] theorem Dev.setTbl_dma (d : Dev) (x : TableS) :
    (Dev.setTbl d x).dma = d.dma := rfl
@[simp] theorem Dev.setTbl_prog (d : Dev) (x : TableS) :
    (Dev.setTbl d x).prog = d.prog := rfl
@[simp] theorem Dev.setTbl_mgmt (d : Dev) (x : TableS) :
    (Dev.setTbl d x).mgmt = d.mgmt := rfl
@[simp] theorem Dev.setTbl_fw (d : Dev) (x : TableS) :
    (Dev.setTbl d x).fw = d.fw := rfl
@[simp] theorem Dev.setTbl_pwr (d : Dev) (x : TableS) :
    (Dev.setTbl d x).pwr = d.pwr := rfl
@[simp] theorem Dev.setTbl_rst (d : Dev) (x : TableS) :
    (Dev.setTbl d x).rst = d.rst := rfl

@[simp] theorem Dev.setGran_ticks (d : Dev) (x : GranS) :
    (Dev.setGran d x).ticks = d.ticks := rfl
@[simp] theorem Dev.setGran_free (d : Dev) (x : GranS) :
    (Dev.setGran d x).free = d.free := rfl
@[simp] theorem Dev.setGran_out (d : Dev) (x : GranS) :
    (Dev.setGran d x).out = d.out := rfl
@[simp] theorem Dev.setGran_dict (d : Dev) (x : GranS) :
    (Dev.setGran d x).dict = d.dict := rfl
@[simp] theorem Dev.setGran_time (d : Dev) (x : GranS) :
    (Dev.setGran d x).time = d.time := rfl
@[simp] theorem Dev.setGran_tel (d : Dev) (x : GranS) :
    (Dev.setGran d x).tel = d.tel := rfl
@[simp] theorem Dev.setGran_err (d : Dev) (x : GranS) :
    (Dev.setGran d x).err = d.err := rfl
@[simp] theorem Dev.setGran_hostA (d : Dev) (x : GranS) :
    (Dev.setGran d x).hostA = d.hostA := rfl
@[simp] theorem Dev.setGran_hostB (d : Dev) (x : GranS) :
    (Dev.setGran d x).hostB = d.hostB := rfl
@[simp] theorem Dev.setGran_pipes (d : Dev) (x : GranS) :
    (Dev.setGran d x).pipes = d.pipes := rfl
@[simp] theorem Dev.setGran_tbl (d : Dev) (x : GranS) :
    (Dev.setGran d x).tbl = d.tbl := rfl
@[simp] theorem Dev.setGran_pkts (d : Dev) (x : GranS) :
    (Dev.setGran d x).pkts = d.pkts := rfl
@[simp] theorem Dev.setGran_nextPkt (d : Dev) (x : GranS) :
    (Dev.setGran d x).nextPkt = d.nextPkt := rfl
@[simp] theorem Dev.setGran_queues (d : Dev) (x : GranS) :
    (Dev.setGran d x).queues = d.queues := rfl
@[simp] theorem Dev.setGran_ports (d : Dev) (x : GranS) :
    (Dev.setGran d x).ports = d.ports := rfl
@[simp] theorem Dev.setGran_buf (d : Dev) (x : GranS) :
    (Dev.setGran d x).buf = d.buf := rfl
@[simp] theorem Dev.setGran_sched (d : Dev) (x : GranS) :
    (Dev.setGran d x).sched = d.sched := rfl
@[simp] theorem Dev.setGran_lanes (d : Dev) (x : GranS) :
    (Dev.setGran d x).lanes = d.lanes := rfl
@[simp] theorem Dev.setGran_dma (d : Dev) (x : GranS) :
    (Dev.setGran d x).dma = d.dma := rfl
@[simp] theorem Dev.setGran_prog (d : Dev) (x : GranS) :
    (Dev.setGran d x).prog = d.prog := rfl
@[simp] theorem Dev.setGran_mgmt (d : Dev) (x : GranS) :
    (Dev.setGran d x).mgmt = d.mgmt := rfl
@[simp] theorem Dev.setGran_fw (d : Dev) (x : GranS) :
    (Dev.setGran d x).fw = d.fw := rfl
@[simp] theorem Dev.setGran_pwr (d : Dev) (x : GranS) :
    (Dev.setGran d x).pwr = d.pwr := rfl
@[simp] theorem Dev.setGran_rst (d : Dev) (x : GranS) :
    (Dev.setGran d x).rst = d.rst := rfl

@[simp] theorem Dev.setBale_ticks (d : Dev) (b : Nat) (x : Bale) :
    (Dev.setBale d b x).ticks = d.ticks := rfl
@[simp] theorem Dev.setBale_free (d : Dev) (b : Nat) (x : Bale) :
    (Dev.setBale d b x).free = d.free := rfl
@[simp] theorem Dev.setBale_out (d : Dev) (b : Nat) (x : Bale) :
    (Dev.setBale d b x).out = d.out := rfl
@[simp] theorem Dev.setBale_dict (d : Dev) (b : Nat) (x : Bale) :
    (Dev.setBale d b x).dict = d.dict := rfl
@[simp] theorem Dev.setBale_time (d : Dev) (b : Nat) (x : Bale) :
    (Dev.setBale d b x).time = d.time := rfl
@[simp] theorem Dev.setBale_tel (d : Dev) (b : Nat) (x : Bale) :
    (Dev.setBale d b x).tel = d.tel := rfl
@[simp] theorem Dev.setBale_err (d : Dev) (b : Nat) (x : Bale) :
    (Dev.setBale d b x).err = d.err := rfl
@[simp] theorem Dev.setBale_hostA (d : Dev) (b : Nat) (x : Bale) :
    (Dev.setBale d b x).hostA = d.hostA := rfl
@[simp] theorem Dev.setBale_hostB (d : Dev) (b : Nat) (x : Bale) :
    (Dev.setBale d b x).hostB = d.hostB := rfl
@[simp] theorem Dev.setBale_pipes (d : Dev) (b : Nat) (x : Bale) :
    (Dev.setBale d b x).pipes = d.pipes := rfl
@[simp] theorem Dev.setBale_tbl (d : Dev) (b : Nat) (x : Bale) :
    (Dev.setBale d b x).tbl = d.tbl := rfl
@[simp] theorem Dev.setBale_pkts (d : Dev) (b : Nat) (x : Bale) :
    (Dev.setBale d b x).pkts = d.pkts := rfl
@[simp] theorem Dev.setBale_nextPkt (d : Dev) (b : Nat) (x : Bale) :
    (Dev.setBale d b x).nextPkt = d.nextPkt := rfl
@[simp] theorem Dev.setBale_queues (d : Dev) (b : Nat) (x : Bale) :
    (Dev.setBale d b x).queues = d.queues := rfl
@[simp] theorem Dev.setBale_ports (d : Dev) (b : Nat) (x : Bale) :
    (Dev.setBale d b x).ports = d.ports := rfl
@[simp] theorem Dev.setBale_buf (d : Dev) (b : Nat) (x : Bale) :
    (Dev.setBale d b x).buf = d.buf := rfl
@[simp] theorem Dev.setBale_sched (d : Dev) (b : Nat) (x : Bale) :
    (Dev.setBale d b x).sched = d.sched := rfl
@[simp] theorem Dev.setBale_lanes (d : Dev) (b : Nat) (x : Bale) :
    (Dev.setBale d b x).lanes = d.lanes := rfl
@[simp] theorem Dev.setBale_dma (d : Dev) (b : Nat) (x : Bale) :
    (Dev.setBale d b x).dma = d.dma := rfl
@[simp] theorem Dev.setBale_prog (d : Dev) (b : Nat) (x : Bale) :
    (Dev.setBale d b x).prog = d.prog := rfl
@[simp] theorem Dev.setBale_mgmt (d : Dev) (b : Nat) (x : Bale) :
    (Dev.setBale d b x).mgmt = d.mgmt := rfl
@[simp] theorem Dev.setBale_fw (d : Dev) (b : Nat) (x : Bale) :
    (Dev.setBale d b x).fw = d.fw := rfl
@[simp] theorem Dev.setBale_pwr (d : Dev) (b : Nat) (x : Bale) :
    (Dev.setBale d b x).pwr = d.pwr := rfl
@[simp] theorem Dev.setBale_rst (d : Dev) (b : Nat) (x : Bale) :
    (Dev.setBale d b x).rst = d.rst := rfl

@[simp] theorem Dev.setStaging_ticks (d : Dev) (x : List Punt) :
    (Dev.setStaging d x).ticks = d.ticks := rfl
@[simp] theorem Dev.setStaging_free (d : Dev) (x : List Punt) :
    (Dev.setStaging d x).free = d.free := rfl
@[simp] theorem Dev.setStaging_out (d : Dev) (x : List Punt) :
    (Dev.setStaging d x).out = d.out := rfl
@[simp] theorem Dev.setStaging_time (d : Dev) (x : List Punt) :
    (Dev.setStaging d x).time = d.time := rfl
@[simp] theorem Dev.setStaging_tel (d : Dev) (x : List Punt) :
    (Dev.setStaging d x).tel = d.tel := rfl
@[simp] theorem Dev.setStaging_err (d : Dev) (x : List Punt) :
    (Dev.setStaging d x).err = d.err := rfl
@[simp] theorem Dev.setStaging_hostA (d : Dev) (x : List Punt) :
    (Dev.setStaging d x).hostA = d.hostA := rfl
@[simp] theorem Dev.setStaging_hostB (d : Dev) (x : List Punt) :
    (Dev.setStaging d x).hostB = d.hostB := rfl
@[simp] theorem Dev.setStaging_pipes (d : Dev) (x : List Punt) :
    (Dev.setStaging d x).pipes = d.pipes := rfl
@[simp] theorem Dev.setStaging_tbl (d : Dev) (x : List Punt) :
    (Dev.setStaging d x).tbl = d.tbl := rfl
@[simp] theorem Dev.setStaging_pkts (d : Dev) (x : List Punt) :
    (Dev.setStaging d x).pkts = d.pkts := rfl
@[simp] theorem Dev.setStaging_nextPkt (d : Dev) (x : List Punt) :
    (Dev.setStaging d x).nextPkt = d.nextPkt := rfl
@[simp] theorem Dev.setStaging_queues (d : Dev) (x : List Punt) :
    (Dev.setStaging d x).queues = d.queues := rfl
@[simp] theorem Dev.setStaging_ports (d : Dev) (x : List Punt) :
    (Dev.setStaging d x).ports = d.ports := rfl
@[simp] theorem Dev.setStaging_buf (d : Dev) (x : List Punt) :
    (Dev.setStaging d x).buf = d.buf := rfl
@[simp] theorem Dev.setStaging_gran (d : Dev) (x : List Punt) :
    (Dev.setStaging d x).gran = d.gran := rfl
@[simp] theorem Dev.setStaging_sched (d : Dev) (x : List Punt) :
    (Dev.setStaging d x).sched = d.sched := rfl
@[simp] theorem Dev.setStaging_lanes (d : Dev) (x : List Punt) :
    (Dev.setStaging d x).lanes = d.lanes := rfl
@[simp] theorem Dev.setStaging_prog (d : Dev) (x : List Punt) :
    (Dev.setStaging d x).prog = d.prog := rfl
@[simp] theorem Dev.setStaging_mgmt (d : Dev) (x : List Punt) :
    (Dev.setStaging d x).mgmt = d.mgmt := rfl
@[simp] theorem Dev.setStaging_fw (d : Dev) (x : List Punt) :
    (Dev.setStaging d x).fw = d.fw := rfl
@[simp] theorem Dev.setStaging_pwr (d : Dev) (x : List Punt) :
    (Dev.setStaging d x).pwr = d.pwr := rfl
@[simp] theorem Dev.setStaging_rst (d : Dev) (x : List Punt) :
    (Dev.setStaging d x).rst = d.rst := rfl

@[simp] theorem Dev.setDq_ticks (d : Dev) (q : Nat) (x : Dq) :
    (Dev.setDq d q x).ticks = d.ticks := rfl
@[simp] theorem Dev.setDq_free (d : Dev) (q : Nat) (x : Dq) :
    (Dev.setDq d q x).free = d.free := rfl
@[simp] theorem Dev.setDq_out (d : Dev) (q : Nat) (x : Dq) :
    (Dev.setDq d q x).out = d.out := rfl
@[simp] theorem Dev.setDq_dict (d : Dev) (q : Nat) (x : Dq) :
    (Dev.setDq d q x).dict = d.dict := rfl
@[simp] theorem Dev.setDq_time (d : Dev) (q : Nat) (x : Dq) :
    (Dev.setDq d q x).time = d.time := rfl
@[simp] theorem Dev.setDq_tel (d : Dev) (q : Nat) (x : Dq) :
    (Dev.setDq d q x).tel = d.tel := rfl
@[simp] theorem Dev.setDq_err (d : Dev) (q : Nat) (x : Dq) :
    (Dev.setDq d q x).err = d.err := rfl
@[simp] theorem Dev.setDq_hostA (d : Dev) (q : Nat) (x : Dq) :
    (Dev.setDq d q x).hostA = d.hostA := rfl
@[simp] theorem Dev.setDq_hostB (d : Dev) (q : Nat) (x : Dq) :
    (Dev.setDq d q x).hostB = d.hostB := rfl
@[simp] theorem Dev.setDq_pipes (d : Dev) (q : Nat) (x : Dq) :
    (Dev.setDq d q x).pipes = d.pipes := rfl
@[simp] theorem Dev.setDq_tbl (d : Dev) (q : Nat) (x : Dq) :
    (Dev.setDq d q x).tbl = d.tbl := rfl
@[simp] theorem Dev.setDq_pkts (d : Dev) (q : Nat) (x : Dq) :
    (Dev.setDq d q x).pkts = d.pkts := rfl
@[simp] theorem Dev.setDq_nextPkt (d : Dev) (q : Nat) (x : Dq) :
    (Dev.setDq d q x).nextPkt = d.nextPkt := rfl
@[simp] theorem Dev.setDq_queues (d : Dev) (q : Nat) (x : Dq) :
    (Dev.setDq d q x).queues = d.queues := rfl
@[simp] theorem Dev.setDq_ports (d : Dev) (q : Nat) (x : Dq) :
    (Dev.setDq d q x).ports = d.ports := rfl
@[simp] theorem Dev.setDq_buf (d : Dev) (q : Nat) (x : Dq) :
    (Dev.setDq d q x).buf = d.buf := rfl
@[simp] theorem Dev.setDq_gran (d : Dev) (q : Nat) (x : Dq) :
    (Dev.setDq d q x).gran = d.gran := rfl
@[simp] theorem Dev.setDq_sched (d : Dev) (q : Nat) (x : Dq) :
    (Dev.setDq d q x).sched = d.sched := rfl
@[simp] theorem Dev.setDq_lanes (d : Dev) (q : Nat) (x : Dq) :
    (Dev.setDq d q x).lanes = d.lanes := rfl
@[simp] theorem Dev.setDq_prog (d : Dev) (q : Nat) (x : Dq) :
    (Dev.setDq d q x).prog = d.prog := rfl
@[simp] theorem Dev.setDq_mgmt (d : Dev) (q : Nat) (x : Dq) :
    (Dev.setDq d q x).mgmt = d.mgmt := rfl
@[simp] theorem Dev.setDq_fw (d : Dev) (q : Nat) (x : Dq) :
    (Dev.setDq d q x).fw = d.fw := rfl
@[simp] theorem Dev.setDq_pwr (d : Dev) (q : Nat) (x : Dq) :
    (Dev.setDq d q x).pwr = d.pwr := rfl
@[simp] theorem Dev.setDq_rst (d : Dev) (q : Nat) (x : Dq) :
    (Dev.setDq d q x).rst = d.rst := rfl

@[simp] theorem Dev.setMport_ticks (d : Dev) (m : Nat) (x : MPort) :
    (Dev.setMport d m x).ticks = d.ticks := by unfold Dev.setMport; split <;> rfl
@[simp] theorem Dev.setMport_free (d : Dev) (m : Nat) (x : MPort) :
    (Dev.setMport d m x).free = d.free := by unfold Dev.setMport; split <;> rfl
@[simp] theorem Dev.setMport_out (d : Dev) (m : Nat) (x : MPort) :
    (Dev.setMport d m x).out = d.out := by unfold Dev.setMport; split <;> rfl
@[simp] theorem Dev.setMport_dict (d : Dev) (m : Nat) (x : MPort) :
    (Dev.setMport d m x).dict = d.dict := by unfold Dev.setMport; split <;> rfl
@[simp] theorem Dev.setMport_time (d : Dev) (m : Nat) (x : MPort) :
    (Dev.setMport d m x).time = d.time := by unfold Dev.setMport; split <;> rfl
@[simp] theorem Dev.setMport_tel (d : Dev) (m : Nat) (x : MPort) :
    (Dev.setMport d m x).tel = d.tel := by unfold Dev.setMport; split <;> rfl
@[simp] theorem Dev.setMport_err (d : Dev) (m : Nat) (x : MPort) :
    (Dev.setMport d m x).err = d.err := by unfold Dev.setMport; split <;> rfl
@[simp] theorem Dev.setMport_hostA (d : Dev) (m : Nat) (x : MPort) :
    (Dev.setMport d m x).hostA = d.hostA := by unfold Dev.setMport; split <;> rfl
@[simp] theorem Dev.setMport_hostB (d : Dev) (m : Nat) (x : MPort) :
    (Dev.setMport d m x).hostB = d.hostB := by unfold Dev.setMport; split <;> rfl
@[simp] theorem Dev.setMport_pipes (d : Dev) (m : Nat) (x : MPort) :
    (Dev.setMport d m x).pipes = d.pipes := by unfold Dev.setMport; split <;> rfl
@[simp] theorem Dev.setMport_tbl (d : Dev) (m : Nat) (x : MPort) :
    (Dev.setMport d m x).tbl = d.tbl := by unfold Dev.setMport; split <;> rfl
@[simp] theorem Dev.setMport_pkts (d : Dev) (m : Nat) (x : MPort) :
    (Dev.setMport d m x).pkts = d.pkts := by unfold Dev.setMport; split <;> rfl
@[simp] theorem Dev.setMport_nextPkt (d : Dev) (m : Nat) (x : MPort) :
    (Dev.setMport d m x).nextPkt = d.nextPkt := by unfold Dev.setMport; split <;> rfl
@[simp] theorem Dev.setMport_queues (d : Dev) (m : Nat) (x : MPort) :
    (Dev.setMport d m x).queues = d.queues := by unfold Dev.setMport; split <;> rfl
@[simp] theorem Dev.setMport_ports (d : Dev) (m : Nat) (x : MPort) :
    (Dev.setMport d m x).ports = d.ports := by unfold Dev.setMport; split <;> rfl
@[simp] theorem Dev.setMport_buf (d : Dev) (m : Nat) (x : MPort) :
    (Dev.setMport d m x).buf = d.buf := by unfold Dev.setMport; split <;> rfl
@[simp] theorem Dev.setMport_gran (d : Dev) (m : Nat) (x : MPort) :
    (Dev.setMport d m x).gran = d.gran := by unfold Dev.setMport; split <;> rfl
@[simp] theorem Dev.setMport_sched (d : Dev) (m : Nat) (x : MPort) :
    (Dev.setMport d m x).sched = d.sched := by unfold Dev.setMport; split <;> rfl
@[simp] theorem Dev.setMport_lanes (d : Dev) (m : Nat) (x : MPort) :
    (Dev.setMport d m x).lanes = d.lanes := by unfold Dev.setMport; split <;> rfl
@[simp] theorem Dev.setMport_dma (d : Dev) (m : Nat) (x : MPort) :
    (Dev.setMport d m x).dma = d.dma := by unfold Dev.setMport; split <;> rfl
@[simp] theorem Dev.setMport_prog (d : Dev) (m : Nat) (x : MPort) :
    (Dev.setMport d m x).prog = d.prog := by unfold Dev.setMport; split <;> rfl
@[simp] theorem Dev.setMport_fw (d : Dev) (m : Nat) (x : MPort) :
    (Dev.setMport d m x).fw = d.fw := by unfold Dev.setMport; split <;> rfl
@[simp] theorem Dev.setMport_pwr (d : Dev) (m : Nat) (x : MPort) :
    (Dev.setMport d m x).pwr = d.pwr := by unfold Dev.setMport; split <;> rfl
@[simp] theorem Dev.setMport_rst (d : Dev) (m : Nat) (x : MPort) :
    (Dev.setMport d m x).rst = d.rst := by unfold Dev.setMport; split <;> rfl

@[simp] theorem Dev.setBinding_ticks (d : Dev) (b : Nat) (x : Binding) :
    (Dev.setBinding d b x).ticks = d.ticks := by unfold Dev.setBinding; (repeat' split) <;> rfl
@[simp] theorem Dev.setBinding_free (d : Dev) (b : Nat) (x : Binding) :
    (Dev.setBinding d b x).free = d.free := by unfold Dev.setBinding; (repeat' split) <;> rfl
@[simp] theorem Dev.setBinding_out (d : Dev) (b : Nat) (x : Binding) :
    (Dev.setBinding d b x).out = d.out := by unfold Dev.setBinding; (repeat' split) <;> rfl
@[simp] theorem Dev.setBinding_dict (d : Dev) (b : Nat) (x : Binding) :
    (Dev.setBinding d b x).dict = d.dict := by unfold Dev.setBinding; (repeat' split) <;> rfl
@[simp] theorem Dev.setBinding_time (d : Dev) (b : Nat) (x : Binding) :
    (Dev.setBinding d b x).time = d.time := by unfold Dev.setBinding; (repeat' split) <;> rfl
@[simp] theorem Dev.setBinding_tel (d : Dev) (b : Nat) (x : Binding) :
    (Dev.setBinding d b x).tel = d.tel := by unfold Dev.setBinding; (repeat' split) <;> rfl
@[simp] theorem Dev.setBinding_err (d : Dev) (b : Nat) (x : Binding) :
    (Dev.setBinding d b x).err = d.err := by unfold Dev.setBinding; (repeat' split) <;> rfl
@[simp] theorem Dev.setBinding_hostA (d : Dev) (b : Nat) (x : Binding) :
    (Dev.setBinding d b x).hostA = d.hostA := by unfold Dev.setBinding; (repeat' split) <;> rfl
@[simp] theorem Dev.setBinding_hostB (d : Dev) (b : Nat) (x : Binding) :
    (Dev.setBinding d b x).hostB = d.hostB := by unfold Dev.setBinding; (repeat' split) <;> rfl
@[simp] theorem Dev.setBinding_pipes (d : Dev) (b : Nat) (x : Binding) :
    (Dev.setBinding d b x).pipes = d.pipes := by unfold Dev.setBinding; (repeat' split) <;> rfl
@[simp] theorem Dev.setBinding_tbl (d : Dev) (b : Nat) (x : Binding) :
    (Dev.setBinding d b x).tbl = d.tbl := by unfold Dev.setBinding; (repeat' split) <;> rfl
@[simp] theorem Dev.setBinding_pkts (d : Dev) (b : Nat) (x : Binding) :
    (Dev.setBinding d b x).pkts = d.pkts := by unfold Dev.setBinding; (repeat' split) <;> rfl
@[simp] theorem Dev.setBinding_nextPkt (d : Dev) (b : Nat) (x : Binding) :
    (Dev.setBinding d b x).nextPkt = d.nextPkt := by unfold Dev.setBinding; (repeat' split) <;> rfl
@[simp] theorem Dev.setBinding_queues (d : Dev) (b : Nat) (x : Binding) :
    (Dev.setBinding d b x).queues = d.queues := by unfold Dev.setBinding; (repeat' split) <;> rfl
@[simp] theorem Dev.setBinding_ports (d : Dev) (b : Nat) (x : Binding) :
    (Dev.setBinding d b x).ports = d.ports := by unfold Dev.setBinding; (repeat' split) <;> rfl
@[simp] theorem Dev.setBinding_buf (d : Dev) (b : Nat) (x : Binding) :
    (Dev.setBinding d b x).buf = d.buf := by unfold Dev.setBinding; (repeat' split) <;> rfl
@[simp] theorem Dev.setBinding_gran (d : Dev) (b : Nat) (x : Binding) :
    (Dev.setBinding d b x).gran = d.gran := by unfold Dev.setBinding; (repeat' split) <;> rfl
@[simp] theorem Dev.setBinding_sched (d : Dev) (b : Nat) (x : Binding) :
    (Dev.setBinding d b x).sched = d.sched := by unfold Dev.setBinding; (repeat' split) <;> rfl
@[simp] theorem Dev.setBinding_lanes (d : Dev) (b : Nat) (x : Binding) :
    (Dev.setBinding d b x).lanes = d.lanes := by unfold Dev.setBinding; (repeat' split) <;> rfl
@[simp] theorem Dev.setBinding_dma (d : Dev) (b : Nat) (x : Binding) :
    (Dev.setBinding d b x).dma = d.dma := by unfold Dev.setBinding; (repeat' split) <;> rfl
@[simp] theorem Dev.setBinding_prog (d : Dev) (b : Nat) (x : Binding) :
    (Dev.setBinding d b x).prog = d.prog := by unfold Dev.setBinding; (repeat' split) <;> rfl
@[simp] theorem Dev.setBinding_fw (d : Dev) (b : Nat) (x : Binding) :
    (Dev.setBinding d b x).fw = d.fw := by unfold Dev.setBinding; (repeat' split) <;> rfl
@[simp] theorem Dev.setBinding_pwr (d : Dev) (b : Nat) (x : Binding) :
    (Dev.setBinding d b x).pwr = d.pwr := by unfold Dev.setBinding; (repeat' split) <;> rfl
@[simp] theorem Dev.setBinding_rst (d : Dev) (b : Nat) (x : Binding) :
    (Dev.setBinding d b x).rst = d.rst := by unfold Dev.setBinding; (repeat' split) <;> rfl

@[simp] theorem Dev.setTxts_ticks (d : Dev) (n : Nat) (x : TxtsQueue) :
    (Dev.setTxts d n x).ticks = d.ticks := rfl
@[simp] theorem Dev.setTxts_free (d : Dev) (n : Nat) (x : TxtsQueue) :
    (Dev.setTxts d n x).free = d.free := rfl
@[simp] theorem Dev.setTxts_out (d : Dev) (n : Nat) (x : TxtsQueue) :
    (Dev.setTxts d n x).out = d.out := rfl
@[simp] theorem Dev.setTxts_dict (d : Dev) (n : Nat) (x : TxtsQueue) :
    (Dev.setTxts d n x).dict = d.dict := rfl
@[simp] theorem Dev.setTxts_tel (d : Dev) (n : Nat) (x : TxtsQueue) :
    (Dev.setTxts d n x).tel = d.tel := rfl
@[simp] theorem Dev.setTxts_err (d : Dev) (n : Nat) (x : TxtsQueue) :
    (Dev.setTxts d n x).err = d.err := rfl
@[simp] theorem Dev.setTxts_hostA (d : Dev) (n : Nat) (x : TxtsQueue) :
    (Dev.setTxts d n x).hostA = d.hostA := rfl
@[simp] theorem Dev.setTxts_hostB (d : Dev) (n : Nat) (x : TxtsQueue) :
    (Dev.setTxts d n x).hostB = d.hostB := rfl
@[simp] theorem Dev.setTxts_pipes (d : Dev) (n : Nat) (x : TxtsQueue) :
    (Dev.setTxts d n x).pipes = d.pipes := rfl
@[simp] theorem Dev.setTxts_tbl (d : Dev) (n : Nat) (x : TxtsQueue) :
    (Dev.setTxts d n x).tbl = d.tbl := rfl
@[simp] theorem Dev.setTxts_pkts (d : Dev) (n : Nat) (x : TxtsQueue) :
    (Dev.setTxts d n x).pkts = d.pkts := rfl
@[simp] theorem Dev.setTxts_nextPkt (d : Dev) (n : Nat) (x : TxtsQueue) :
    (Dev.setTxts d n x).nextPkt = d.nextPkt := rfl
@[simp] theorem Dev.setTxts_queues (d : Dev) (n : Nat) (x : TxtsQueue) :
    (Dev.setTxts d n x).queues = d.queues := rfl
@[simp] theorem Dev.setTxts_ports (d : Dev) (n : Nat) (x : TxtsQueue) :
    (Dev.setTxts d n x).ports = d.ports := rfl
@[simp] theorem Dev.setTxts_buf (d : Dev) (n : Nat) (x : TxtsQueue) :
    (Dev.setTxts d n x).buf = d.buf := rfl
@[simp] theorem Dev.setTxts_gran (d : Dev) (n : Nat) (x : TxtsQueue) :
    (Dev.setTxts d n x).gran = d.gran := rfl
@[simp] theorem Dev.setTxts_sched (d : Dev) (n : Nat) (x : TxtsQueue) :
    (Dev.setTxts d n x).sched = d.sched := rfl
@[simp] theorem Dev.setTxts_lanes (d : Dev) (n : Nat) (x : TxtsQueue) :
    (Dev.setTxts d n x).lanes = d.lanes := rfl
@[simp] theorem Dev.setTxts_dma (d : Dev) (n : Nat) (x : TxtsQueue) :
    (Dev.setTxts d n x).dma = d.dma := rfl
@[simp] theorem Dev.setTxts_prog (d : Dev) (n : Nat) (x : TxtsQueue) :
    (Dev.setTxts d n x).prog = d.prog := rfl
@[simp] theorem Dev.setTxts_mgmt (d : Dev) (n : Nat) (x : TxtsQueue) :
    (Dev.setTxts d n x).mgmt = d.mgmt := rfl
@[simp] theorem Dev.setTxts_fw (d : Dev) (n : Nat) (x : TxtsQueue) :
    (Dev.setTxts d n x).fw = d.fw := rfl
@[simp] theorem Dev.setTxts_pwr (d : Dev) (n : Nat) (x : TxtsQueue) :
    (Dev.setTxts d n x).pwr = d.pwr := rfl
@[simp] theorem Dev.setTxts_rst (d : Dev) (n : Nat) (x : TxtsQueue) :
    (Dev.setTxts d n x).rst = d.rst := rfl

@[simp] theorem Dev.setCapture_ticks (d : Dev) (c : Nat) (x : Capture) :
    (Dev.setCapture d c x).ticks = d.ticks := rfl
@[simp] theorem Dev.setCapture_free (d : Dev) (c : Nat) (x : Capture) :
    (Dev.setCapture d c x).free = d.free := rfl
@[simp] theorem Dev.setCapture_out (d : Dev) (c : Nat) (x : Capture) :
    (Dev.setCapture d c x).out = d.out := rfl
@[simp] theorem Dev.setCapture_dict (d : Dev) (c : Nat) (x : Capture) :
    (Dev.setCapture d c x).dict = d.dict := rfl
@[simp] theorem Dev.setCapture_tel (d : Dev) (c : Nat) (x : Capture) :
    (Dev.setCapture d c x).tel = d.tel := rfl
@[simp] theorem Dev.setCapture_err (d : Dev) (c : Nat) (x : Capture) :
    (Dev.setCapture d c x).err = d.err := rfl
@[simp] theorem Dev.setCapture_hostA (d : Dev) (c : Nat) (x : Capture) :
    (Dev.setCapture d c x).hostA = d.hostA := rfl
@[simp] theorem Dev.setCapture_hostB (d : Dev) (c : Nat) (x : Capture) :
    (Dev.setCapture d c x).hostB = d.hostB := rfl
@[simp] theorem Dev.setCapture_pipes (d : Dev) (c : Nat) (x : Capture) :
    (Dev.setCapture d c x).pipes = d.pipes := rfl
@[simp] theorem Dev.setCapture_tbl (d : Dev) (c : Nat) (x : Capture) :
    (Dev.setCapture d c x).tbl = d.tbl := rfl
@[simp] theorem Dev.setCapture_pkts (d : Dev) (c : Nat) (x : Capture) :
    (Dev.setCapture d c x).pkts = d.pkts := rfl
@[simp] theorem Dev.setCapture_nextPkt (d : Dev) (c : Nat) (x : Capture) :
    (Dev.setCapture d c x).nextPkt = d.nextPkt := rfl
@[simp] theorem Dev.setCapture_queues (d : Dev) (c : Nat) (x : Capture) :
    (Dev.setCapture d c x).queues = d.queues := rfl
@[simp] theorem Dev.setCapture_ports (d : Dev) (c : Nat) (x : Capture) :
    (Dev.setCapture d c x).ports = d.ports := rfl
@[simp] theorem Dev.setCapture_buf (d : Dev) (c : Nat) (x : Capture) :
    (Dev.setCapture d c x).buf = d.buf := rfl
@[simp] theorem Dev.setCapture_gran (d : Dev) (c : Nat) (x : Capture) :
    (Dev.setCapture d c x).gran = d.gran := rfl
@[simp] theorem Dev.setCapture_sched (d : Dev) (c : Nat) (x : Capture) :
    (Dev.setCapture d c x).sched = d.sched := rfl
@[simp] theorem Dev.setCapture_lanes (d : Dev) (c : Nat) (x : Capture) :
    (Dev.setCapture d c x).lanes = d.lanes := rfl
@[simp] theorem Dev.setCapture_dma (d : Dev) (c : Nat) (x : Capture) :
    (Dev.setCapture d c x).dma = d.dma := rfl
@[simp] theorem Dev.setCapture_prog (d : Dev) (c : Nat) (x : Capture) :
    (Dev.setCapture d c x).prog = d.prog := rfl
@[simp] theorem Dev.setCapture_mgmt (d : Dev) (c : Nat) (x : Capture) :
    (Dev.setCapture d c x).mgmt = d.mgmt := rfl
@[simp] theorem Dev.setCapture_fw (d : Dev) (c : Nat) (x : Capture) :
    (Dev.setCapture d c x).fw = d.fw := rfl
@[simp] theorem Dev.setCapture_pwr (d : Dev) (c : Nat) (x : Capture) :
    (Dev.setCapture d c x).pwr = d.pwr := rfl
@[simp] theorem Dev.setCapture_rst (d : Dev) (c : Nat) (x : Capture) :
    (Dev.setCapture d c x).rst = d.rst := rfl

@[simp] theorem Dev.setStaged_ticks (d : Dev) (o : Source) (bs : List Byte) :
    (Dev.setStaged d o bs).ticks = d.ticks := rfl
@[simp] theorem Dev.setStaged_free (d : Dev) (o : Source) (bs : List Byte) :
    (Dev.setStaged d o bs).free = d.free := rfl
@[simp] theorem Dev.setStaged_out (d : Dev) (o : Source) (bs : List Byte) :
    (Dev.setStaged d o bs).out = d.out := rfl
@[simp] theorem Dev.setStaged_dict (d : Dev) (o : Source) (bs : List Byte) :
    (Dev.setStaged d o bs).dict = d.dict := rfl
@[simp] theorem Dev.setStaged_time (d : Dev) (o : Source) (bs : List Byte) :
    (Dev.setStaged d o bs).time = d.time := rfl
@[simp] theorem Dev.setStaged_tel (d : Dev) (o : Source) (bs : List Byte) :
    (Dev.setStaged d o bs).tel = d.tel := rfl
@[simp] theorem Dev.setStaged_err (d : Dev) (o : Source) (bs : List Byte) :
    (Dev.setStaged d o bs).err = d.err := rfl
@[simp] theorem Dev.setStaged_hostA (d : Dev) (o : Source) (bs : List Byte) :
    (Dev.setStaged d o bs).hostA = d.hostA := rfl
@[simp] theorem Dev.setStaged_hostB (d : Dev) (o : Source) (bs : List Byte) :
    (Dev.setStaged d o bs).hostB = d.hostB := rfl
@[simp] theorem Dev.setStaged_pipes (d : Dev) (o : Source) (bs : List Byte) :
    (Dev.setStaged d o bs).pipes = d.pipes := rfl
@[simp] theorem Dev.setStaged_tbl (d : Dev) (o : Source) (bs : List Byte) :
    (Dev.setStaged d o bs).tbl = d.tbl := rfl
@[simp] theorem Dev.setStaged_pkts (d : Dev) (o : Source) (bs : List Byte) :
    (Dev.setStaged d o bs).pkts = d.pkts := rfl
@[simp] theorem Dev.setStaged_nextPkt (d : Dev) (o : Source) (bs : List Byte) :
    (Dev.setStaged d o bs).nextPkt = d.nextPkt := rfl
@[simp] theorem Dev.setStaged_queues (d : Dev) (o : Source) (bs : List Byte) :
    (Dev.setStaged d o bs).queues = d.queues := rfl
@[simp] theorem Dev.setStaged_ports (d : Dev) (o : Source) (bs : List Byte) :
    (Dev.setStaged d o bs).ports = d.ports := rfl
@[simp] theorem Dev.setStaged_buf (d : Dev) (o : Source) (bs : List Byte) :
    (Dev.setStaged d o bs).buf = d.buf := rfl
@[simp] theorem Dev.setStaged_gran (d : Dev) (o : Source) (bs : List Byte) :
    (Dev.setStaged d o bs).gran = d.gran := rfl
@[simp] theorem Dev.setStaged_sched (d : Dev) (o : Source) (bs : List Byte) :
    (Dev.setStaged d o bs).sched = d.sched := rfl
@[simp] theorem Dev.setStaged_lanes (d : Dev) (o : Source) (bs : List Byte) :
    (Dev.setStaged d o bs).lanes = d.lanes := rfl
@[simp] theorem Dev.setStaged_dma (d : Dev) (o : Source) (bs : List Byte) :
    (Dev.setStaged d o bs).dma = d.dma := rfl
@[simp] theorem Dev.setStaged_prog (d : Dev) (o : Source) (bs : List Byte) :
    (Dev.setStaged d o bs).prog = d.prog := rfl
@[simp] theorem Dev.setStaged_mgmt (d : Dev) (o : Source) (bs : List Byte) :
    (Dev.setStaged d o bs).mgmt = d.mgmt := rfl
@[simp] theorem Dev.setStaged_pwr (d : Dev) (o : Source) (bs : List Byte) :
    (Dev.setStaged d o bs).pwr = d.pwr := rfl
@[simp] theorem Dev.setStaged_rst (d : Dev) (o : Source) (bs : List Byte) :
    (Dev.setStaged d o bs).rst = d.rst := rfl

@[simp] theorem Dev.setDomain_ticks (d : Dev) (i v : Nat) :
    (Dev.setDomain d i v).ticks = d.ticks := rfl
@[simp] theorem Dev.setDomain_free (d : Dev) (i v : Nat) :
    (Dev.setDomain d i v).free = d.free := rfl
@[simp] theorem Dev.setDomain_out (d : Dev) (i v : Nat) :
    (Dev.setDomain d i v).out = d.out := rfl
@[simp] theorem Dev.setDomain_time (d : Dev) (i v : Nat) :
    (Dev.setDomain d i v).time = d.time := rfl
@[simp] theorem Dev.setDomain_tel (d : Dev) (i v : Nat) :
    (Dev.setDomain d i v).tel = d.tel := rfl
@[simp] theorem Dev.setDomain_err (d : Dev) (i v : Nat) :
    (Dev.setDomain d i v).err = d.err := rfl
@[simp] theorem Dev.setDomain_hostA (d : Dev) (i v : Nat) :
    (Dev.setDomain d i v).hostA = d.hostA := rfl
@[simp] theorem Dev.setDomain_hostB (d : Dev) (i v : Nat) :
    (Dev.setDomain d i v).hostB = d.hostB := rfl
@[simp] theorem Dev.setDomain_pipes (d : Dev) (i v : Nat) :
    (Dev.setDomain d i v).pipes = d.pipes := rfl
@[simp] theorem Dev.setDomain_tbl (d : Dev) (i v : Nat) :
    (Dev.setDomain d i v).tbl = d.tbl := rfl
@[simp] theorem Dev.setDomain_pkts (d : Dev) (i v : Nat) :
    (Dev.setDomain d i v).pkts = d.pkts := rfl
@[simp] theorem Dev.setDomain_nextPkt (d : Dev) (i v : Nat) :
    (Dev.setDomain d i v).nextPkt = d.nextPkt := rfl
@[simp] theorem Dev.setDomain_queues (d : Dev) (i v : Nat) :
    (Dev.setDomain d i v).queues = d.queues := rfl
@[simp] theorem Dev.setDomain_ports (d : Dev) (i v : Nat) :
    (Dev.setDomain d i v).ports = d.ports := rfl
@[simp] theorem Dev.setDomain_buf (d : Dev) (i v : Nat) :
    (Dev.setDomain d i v).buf = d.buf := rfl
@[simp] theorem Dev.setDomain_gran (d : Dev) (i v : Nat) :
    (Dev.setDomain d i v).gran = d.gran := rfl
@[simp] theorem Dev.setDomain_sched (d : Dev) (i v : Nat) :
    (Dev.setDomain d i v).sched = d.sched := rfl
@[simp] theorem Dev.setDomain_lanes (d : Dev) (i v : Nat) :
    (Dev.setDomain d i v).lanes = d.lanes := rfl
@[simp] theorem Dev.setDomain_dma (d : Dev) (i v : Nat) :
    (Dev.setDomain d i v).dma = d.dma := rfl
@[simp] theorem Dev.setDomain_prog (d : Dev) (i v : Nat) :
    (Dev.setDomain d i v).prog = d.prog := rfl
@[simp] theorem Dev.setDomain_mgmt (d : Dev) (i v : Nat) :
    (Dev.setDomain d i v).mgmt = d.mgmt := rfl
@[simp] theorem Dev.setDomain_fw (d : Dev) (i v : Nat) :
    (Dev.setDomain d i v).fw = d.fw := rfl
@[simp] theorem Dev.setDomain_pwr (d : Dev) (i v : Nat) :
    (Dev.setDomain d i v).pwr = d.pwr := rfl
@[simp] theorem Dev.setDomain_rst (d : Dev) (i v : Nat) :
    (Dev.setDomain d i v).rst = d.rst := rfl

@[simp] theorem Dev.setPulse_ticks (d : Dev) (c : Nat) (x : Pulse) :
    (Dev.setPulse d c x).ticks = d.ticks := rfl
@[simp] theorem Dev.setPulse_free (d : Dev) (c : Nat) (x : Pulse) :
    (Dev.setPulse d c x).free = d.free := rfl
@[simp] theorem Dev.setPulse_out (d : Dev) (c : Nat) (x : Pulse) :
    (Dev.setPulse d c x).out = d.out := rfl
@[simp] theorem Dev.setPulse_dict (d : Dev) (c : Nat) (x : Pulse) :
    (Dev.setPulse d c x).dict = d.dict := rfl
@[simp] theorem Dev.setPulse_tel (d : Dev) (c : Nat) (x : Pulse) :
    (Dev.setPulse d c x).tel = d.tel := rfl
@[simp] theorem Dev.setPulse_err (d : Dev) (c : Nat) (x : Pulse) :
    (Dev.setPulse d c x).err = d.err := rfl
@[simp] theorem Dev.setPulse_hostA (d : Dev) (c : Nat) (x : Pulse) :
    (Dev.setPulse d c x).hostA = d.hostA := rfl
@[simp] theorem Dev.setPulse_hostB (d : Dev) (c : Nat) (x : Pulse) :
    (Dev.setPulse d c x).hostB = d.hostB := rfl
@[simp] theorem Dev.setPulse_pipes (d : Dev) (c : Nat) (x : Pulse) :
    (Dev.setPulse d c x).pipes = d.pipes := rfl
@[simp] theorem Dev.setPulse_tbl (d : Dev) (c : Nat) (x : Pulse) :
    (Dev.setPulse d c x).tbl = d.tbl := rfl
@[simp] theorem Dev.setPulse_pkts (d : Dev) (c : Nat) (x : Pulse) :
    (Dev.setPulse d c x).pkts = d.pkts := rfl
@[simp] theorem Dev.setPulse_nextPkt (d : Dev) (c : Nat) (x : Pulse) :
    (Dev.setPulse d c x).nextPkt = d.nextPkt := rfl
@[simp] theorem Dev.setPulse_queues (d : Dev) (c : Nat) (x : Pulse) :
    (Dev.setPulse d c x).queues = d.queues := rfl
@[simp] theorem Dev.setPulse_ports (d : Dev) (c : Nat) (x : Pulse) :
    (Dev.setPulse d c x).ports = d.ports := rfl
@[simp] theorem Dev.setPulse_buf (d : Dev) (c : Nat) (x : Pulse) :
    (Dev.setPulse d c x).buf = d.buf := rfl
@[simp] theorem Dev.setPulse_gran (d : Dev) (c : Nat) (x : Pulse) :
    (Dev.setPulse d c x).gran = d.gran := rfl
@[simp] theorem Dev.setPulse_sched (d : Dev) (c : Nat) (x : Pulse) :
    (Dev.setPulse d c x).sched = d.sched := rfl
@[simp] theorem Dev.setPulse_lanes (d : Dev) (c : Nat) (x : Pulse) :
    (Dev.setPulse d c x).lanes = d.lanes := rfl
@[simp] theorem Dev.setPulse_dma (d : Dev) (c : Nat) (x : Pulse) :
    (Dev.setPulse d c x).dma = d.dma := rfl
@[simp] theorem Dev.setPulse_prog (d : Dev) (c : Nat) (x : Pulse) :
    (Dev.setPulse d c x).prog = d.prog := rfl
@[simp] theorem Dev.setPulse_mgmt (d : Dev) (c : Nat) (x : Pulse) :
    (Dev.setPulse d c x).mgmt = d.mgmt := rfl
@[simp] theorem Dev.setPulse_fw (d : Dev) (c : Nat) (x : Pulse) :
    (Dev.setPulse d c x).fw = d.fw := rfl
@[simp] theorem Dev.setPulse_pwr (d : Dev) (c : Nat) (x : Pulse) :
    (Dev.setPulse d c x).pwr = d.pwr := rfl
@[simp] theorem Dev.setPulse_rst (d : Dev) (c : Nat) (x : Pulse) :
    (Dev.setPulse d c x).rst = d.rst := rfl

@[simp] theorem Dev.setCtle_ticks (d : Dev) (n ctle : Nat) :
    (Dev.setCtle d n ctle).ticks = d.ticks := rfl
@[simp] theorem Dev.setCtle_free (d : Dev) (n ctle : Nat) :
    (Dev.setCtle d n ctle).free = d.free := rfl
@[simp] theorem Dev.setCtle_out (d : Dev) (n ctle : Nat) :
    (Dev.setCtle d n ctle).out = d.out := rfl
@[simp] theorem Dev.setCtle_dict (d : Dev) (n ctle : Nat) :
    (Dev.setCtle d n ctle).dict = d.dict := rfl
@[simp] theorem Dev.setCtle_time (d : Dev) (n ctle : Nat) :
    (Dev.setCtle d n ctle).time = d.time := rfl
@[simp] theorem Dev.setCtle_tel (d : Dev) (n ctle : Nat) :
    (Dev.setCtle d n ctle).tel = d.tel := rfl
@[simp] theorem Dev.setCtle_err (d : Dev) (n ctle : Nat) :
    (Dev.setCtle d n ctle).err = d.err := rfl
@[simp] theorem Dev.setCtle_hostA (d : Dev) (n ctle : Nat) :
    (Dev.setCtle d n ctle).hostA = d.hostA := rfl
@[simp] theorem Dev.setCtle_hostB (d : Dev) (n ctle : Nat) :
    (Dev.setCtle d n ctle).hostB = d.hostB := rfl
@[simp] theorem Dev.setCtle_pipes (d : Dev) (n ctle : Nat) :
    (Dev.setCtle d n ctle).pipes = d.pipes := rfl
@[simp] theorem Dev.setCtle_tbl (d : Dev) (n ctle : Nat) :
    (Dev.setCtle d n ctle).tbl = d.tbl := rfl
@[simp] theorem Dev.setCtle_pkts (d : Dev) (n ctle : Nat) :
    (Dev.setCtle d n ctle).pkts = d.pkts := rfl
@[simp] theorem Dev.setCtle_nextPkt (d : Dev) (n ctle : Nat) :
    (Dev.setCtle d n ctle).nextPkt = d.nextPkt := rfl
@[simp] theorem Dev.setCtle_queues (d : Dev) (n ctle : Nat) :
    (Dev.setCtle d n ctle).queues = d.queues := rfl
@[simp] theorem Dev.setCtle_ports (d : Dev) (n ctle : Nat) :
    (Dev.setCtle d n ctle).ports = d.ports := rfl
@[simp] theorem Dev.setCtle_buf (d : Dev) (n ctle : Nat) :
    (Dev.setCtle d n ctle).buf = d.buf := rfl
@[simp] theorem Dev.setCtle_gran (d : Dev) (n ctle : Nat) :
    (Dev.setCtle d n ctle).gran = d.gran := rfl
@[simp] theorem Dev.setCtle_sched (d : Dev) (n ctle : Nat) :
    (Dev.setCtle d n ctle).sched = d.sched := rfl
@[simp] theorem Dev.setCtle_dma (d : Dev) (n ctle : Nat) :
    (Dev.setCtle d n ctle).dma = d.dma := rfl
@[simp] theorem Dev.setCtle_prog (d : Dev) (n ctle : Nat) :
    (Dev.setCtle d n ctle).prog = d.prog := rfl
@[simp] theorem Dev.setCtle_mgmt (d : Dev) (n ctle : Nat) :
    (Dev.setCtle d n ctle).mgmt = d.mgmt := rfl
@[simp] theorem Dev.setCtle_fw (d : Dev) (n ctle : Nat) :
    (Dev.setCtle d n ctle).fw = d.fw := rfl
@[simp] theorem Dev.setCtle_pwr (d : Dev) (n ctle : Nat) :
    (Dev.setCtle d n ctle).pwr = d.pwr := rfl
@[simp] theorem Dev.setCtle_rst (d : Dev) (n ctle : Nat) :
    (Dev.setCtle d n ctle).rst = d.rst := rfl

@[simp] theorem Dev.setRuns_ticks (d : Dev) (i f o : Nat) :
    (Dev.setRuns d i f o).ticks = d.ticks := rfl
@[simp] theorem Dev.setRuns_free (d : Dev) (i f o : Nat) :
    (Dev.setRuns d i f o).free = d.free := rfl
@[simp] theorem Dev.setRuns_out (d : Dev) (i f o : Nat) :
    (Dev.setRuns d i f o).out = d.out := rfl
@[simp] theorem Dev.setRuns_dict (d : Dev) (i f o : Nat) :
    (Dev.setRuns d i f o).dict = d.dict := rfl
@[simp] theorem Dev.setRuns_time (d : Dev) (i f o : Nat) :
    (Dev.setRuns d i f o).time = d.time := rfl
@[simp] theorem Dev.setRuns_tel (d : Dev) (i f o : Nat) :
    (Dev.setRuns d i f o).tel = d.tel := rfl
@[simp] theorem Dev.setRuns_err (d : Dev) (i f o : Nat) :
    (Dev.setRuns d i f o).err = d.err := rfl
@[simp] theorem Dev.setRuns_hostA (d : Dev) (i f o : Nat) :
    (Dev.setRuns d i f o).hostA = d.hostA := rfl
@[simp] theorem Dev.setRuns_hostB (d : Dev) (i f o : Nat) :
    (Dev.setRuns d i f o).hostB = d.hostB := rfl
@[simp] theorem Dev.setRuns_pipes (d : Dev) (i f o : Nat) :
    (Dev.setRuns d i f o).pipes = d.pipes := rfl
@[simp] theorem Dev.setRuns_tbl (d : Dev) (i f o : Nat) :
    (Dev.setRuns d i f o).tbl = d.tbl := rfl
@[simp] theorem Dev.setRuns_pkts (d : Dev) (i f o : Nat) :
    (Dev.setRuns d i f o).pkts = d.pkts := rfl
@[simp] theorem Dev.setRuns_nextPkt (d : Dev) (i f o : Nat) :
    (Dev.setRuns d i f o).nextPkt = d.nextPkt := rfl
@[simp] theorem Dev.setRuns_queues (d : Dev) (i f o : Nat) :
    (Dev.setRuns d i f o).queues = d.queues := rfl
@[simp] theorem Dev.setRuns_ports (d : Dev) (i f o : Nat) :
    (Dev.setRuns d i f o).ports = d.ports := rfl
@[simp] theorem Dev.setRuns_buf (d : Dev) (i f o : Nat) :
    (Dev.setRuns d i f o).buf = d.buf := rfl
@[simp] theorem Dev.setRuns_gran (d : Dev) (i f o : Nat) :
    (Dev.setRuns d i f o).gran = d.gran := rfl
@[simp] theorem Dev.setRuns_sched (d : Dev) (i f o : Nat) :
    (Dev.setRuns d i f o).sched = d.sched := rfl
@[simp] theorem Dev.setRuns_lanes (d : Dev) (i f o : Nat) :
    (Dev.setRuns d i f o).lanes = d.lanes := rfl
@[simp] theorem Dev.setRuns_dma (d : Dev) (i f o : Nat) :
    (Dev.setRuns d i f o).dma = d.dma := rfl
@[simp] theorem Dev.setRuns_prog (d : Dev) (i f o : Nat) :
    (Dev.setRuns d i f o).prog = d.prog := rfl
@[simp] theorem Dev.setRuns_mgmt (d : Dev) (i f o : Nat) :
    (Dev.setRuns d i f o).mgmt = d.mgmt := rfl
@[simp] theorem Dev.setRuns_fw (d : Dev) (i f o : Nat) :
    (Dev.setRuns d i f o).fw = d.fw := rfl
@[simp] theorem Dev.setRuns_rst (d : Dev) (i f o : Nat) :
    (Dev.setRuns d i f o).rst = d.rst := rfl

end Sys2Proof.Machine
end

