-- ==== Sys2Proof/Laws/Aside.lean ====
section
/-! SUPPORT. What counting, events, notices and errors can touch, said once: whatever reads nothing of the telemetry,
the error log, the host ports, the outputs, the notice buckets and the elements of `asideEl` is left as it was. -/
namespace Sys2Proof.Machine

/-- A reading of the part that no counter, event, notice or error of the part can change. -/
structure Aside {γ : Type} (g : Dev → γ) : Prop where
  vals : ∀ d k v, asideEl k = true → g (Dev.setEl d k v) = g d
  tel : ∀ (d : Dev) x, g { d with tel := x } = g d
  err : ∀ (d : Dev) x, g { d with err := x } = g d
  hp : ∀ d p h, g (Dev.setHp d p h) = g d
  out : ∀ d o, g (Dev.emit d o) = g d
  tok : ∀ (d : Dev) x, g { d with dict := { d.dict with noticeTok := x } } = g d

theorem foldl_keeps {α β γ : Type} (g : α → γ) (f : α → β → α) (h : ∀ a b, g (f a b) = g a) (l : List β) (a : α) :
    g (l.foldl f a) = g a := by
  induction l generalizing a with
  | nil => rfl
  | cons b t ih => rw [List.foldl_cons, ih, h]

theorem asideEl_perfCtr (b k : Nat) (hb : b < 64) (hk : k < 8) : asideEl (K.perfCtr b k) = true := by
  have h1 : keyObj (K.perfCtr b k) = 0x0C40 + b := by simp only [keyObj, K.perfCtr, key]; omega
  have h2 : keyEl (K.perfCtr b k) = 3 + k := by simp only [keyEl, K.perfCtr, key]; omega
  simp only [asideEl, h1, h2, Bool.or_eq_true, Bool.and_eq_true, decide_eq_true_eq, beq_iff_eq]
  omega

theorem asideEl_perfWrap (b : Nat) (hb : b < 64) : asideEl (K.perfWrap b) = true := by
  have h1 : keyObj (K.perfWrap b) = 0x0C40 + b := by simp only [keyObj, K.perfWrap, key]; omega
  have h2 : keyEl (K.perfWrap b) = 0x0B := by simp only [keyEl, K.perfWrap, key]; omega
  simp only [asideEl, h1, h2, Bool.or_eq_true, Bool.and_eq_true, decide_eq_true_eq, beq_iff_eq]
  omega

theorem asideEl_stream (i e : Nat) (hi : i < 8) (he : e = 2 ∨ e = 3) : asideEl (key (0x0C08 + i) e) = true := by
  have h1 : keyObj (key (0x0C08 + i) e) = 0x0C08 + i := by simp only [keyObj, key]; omega
  have h2 : keyEl (key (0x0C08 + i) e) = e := by simp only [keyEl, key]; omega
  simp only [asideEl, h1, h2, Bool.or_eq_true, Bool.and_eq_true, decide_eq_true_eq, beq_iff_eq]
  omega

section
variable {γ : Type} {g : Dev → γ}

theorem Aside.act (h : Aside g) (d : Dev) (k n : Nat) : g (Dev.act d k n) = g d := h.tel d _

theorem Aside.perfBank (h : Aside g) (d : Dev) (b e n : Nat) (hb : b < 64) : g (Dev.perfBank d b e n) = g d := by
  unfold Dev.perfBank
  split
  · rfl
  · suffices H : ∀ (l : List Nat) (d : Dev), (∀ k ∈ l, k < 8) →
        g (l.foldl (fun d k =>
          if bit (Dev.el d (K.perfEnable b)) k && bits (Dev.el d (K.perfSel b)) (8 * k) 8 == e then
            let v := Dev.el d (K.perfCtr b k) + n
            let d := Dev.setEl d (K.perfCtr b k) (v % 2 ^ 48)
            if 2 ^ 48 ≤ v then Dev.setEl d (K.perfWrap b) (Dev.el d (K.perfWrap b) ||| 2 ^ k) else d
          else d) d) = g d from H _ d (by decide)
    intro l
    induction l with
    | nil => intros; rfl
    | cons k t ih =>
      intro d hl
      rw [List.foldl_cons, ih _ (fun j hj => hl j (List.mem_cons_of_mem _ hj))]
      dsimp only
      have hk : k < 8 := hl k List.mem_cons_self
      split
      · split
        · rw [h.vals _ _ _ (asideEl_perfWrap b hb), h.vals _ _ _ (asideEl_perfCtr b k hb hk)]
        · rw [h.vals _ _ _ (asideEl_perfCtr b k hb hk)]
      · rfl

theorem Aside.perf (h : Aside g) (d : Dev) (b e n : Nat) (hb : b < 64) : g (Dev.perf d b e n) = g d := by
  unfold Dev.perf
  rw [h.perfBank _ _ _ _ hb]
  split
  · rfl
  · exact h.tel d _

theorem Aside.sendVector (h : Aside g) (d : Dev) (p v : Nat) : g (Dev.sendVector d p v) = g d := by
  unfold Dev.sendVector
  dsimp only
  split
  · rfl
  · split
    · exact h.hp ..
    · rw [h.perf _ _ _ _ (by split <;> decide), h.out]

theorem Aside.raiseOn (h : Aside g) (d : Dev) (p b : Nat) : g (Dev.raiseOn d p b) = g d := by
  unfold Dev.raiseOn
  dsimp only
  split
  · rfl
  · split
    · exact h.hp ..
    · rw [h.sendVector, h.hp]

theorem Aside.raise (h : Aside g) (d : Dev) (b : Nat) : g (Dev.raise d b) = g d := by
  unfold Dev.raise
  rw [h.raiseOn, h.raiseOn]

theorem Aside.telPut (h : Aside g) (d : Dev) (r : Nat) : g (Dev.telPut d r) = g d := by
  unfold Dev.telPut Dev.recLost
  dsimp only
  rw [h.vals _ _ _ (by decide)]
  split <;> exact h.tel ..

theorem Aside.noticeBy (h : Aside g) (cnt : Dev → Nat → Nat → Dev)
    (hc : ∀ d k n, asideEl k = true → g (cnt d k n) = g d) (d : Dev) (c r k : Nat) :
    g (Dev.noticeBy cnt d c r k) = g d := by
  unfold Dev.noticeBy
  dsimp only
  split
  · rfl
  · split
    · rfl
    · cases Bucket.take (Dev.fill d (SMap.get d.dict.noticeTok k Bucket.full) 100 100) 1 with
      | none => exact (hc _ _ _ (by decide)).trans (h.tok ..)
      | some b => exact (hc _ _ _ (by decide)).trans ((h.out ..).trans (h.tok ..))

theorem Aside.noticeOut (h : Aside g) (cnt : Dev → Nat → Nat → Dev)
    (hc : ∀ d k n, asideEl k = true → g (cnt d k n) = g d) (d : Dev) (c nr : Nat) :
    g (Dev.noticeOut cnt d c nr) = g d := by
  unfold Dev.noticeOut
  dsimp only
  rw [foldl_keeps g _ (fun a b => h.noticeBy cnt hc a c nr b), h.err]

theorem Aside.wrapTell (h : Aside g) (d : Dev) (k : Nat) : g (Dev.wrapTell d k) = g d := by
  unfold Dev.wrapTell
  dsimp only
  rw [h.noticeOut _ (fun d k n hk => by unfold Dev.addEl; exact h.vals _ _ _ hk), h.telPut]

theorem Aside.wrapMark (h : Aside g) (d : Dev) (k : Nat) : g (Dev.wrapMark d k) = g d := h.tel ..

theorem Aside.wrapBits (h : Aside g) (d : Dev) (k : Nat) : g (Dev.wrapBits d k) = g d := by
  unfold Dev.wrapBits
  dsimp only
  split
  · rw [h.wrapTell, h.vals _ _ _ (by decide), h.wrapMark, h.raise, h.vals _ _ _ (by decide), h.wrapMark]
  · rw [h.raise, h.vals _ _ _ (by decide), h.wrapMark]

theorem Aside.countQuiet (h : Aside g) (d : Dev) (k n : Nat) (hk : asideEl k = true) :
    g (Dev.countQuiet d k n) = g d := by
  unfold Dev.countQuiet
  dsimp only
  split
  · rw [h.wrapTell, h.wrapBits, h.vals _ _ _ hk]
  · exact h.vals _ _ _ hk

theorem Aside.day (h : Aside g) (d : Dev) (r : Nat) : g (Dev.day d r) = g d := by
  unfold Dev.day
  split
  · rfl
  · exact h.err ..

theorem Aside.streamSkip (h : Aside g) (d : Dev) (i u : Nat) (hi : i < 8) : g (Dev.streamSkip d i u) = g d := by
  unfold Dev.streamSkip Dev.setStream
  dsimp only
  split
  · rfl
  · rw [h.perf _ _ _ _ (by decide), h.countQuiet _ (K.streamLost i) _ (asideEl_stream i 3 hi (.inr rfl)),
      h.vals _ (K.streamRead i) _ (asideEl_stream i 2 hi (.inl rfl)), h.tel]

theorem Aside.streamLap (h : Aside g) (d : Dev) (i : Nat) (hi : i < 8) : g (Dev.streamLap d i) = g d := by
  unfold Dev.streamLap
  dsimp only
  split
  · exact h.streamSkip _ _ _ hi
  · rfl

theorem Aside.telWrite (h : Aside g) (d : Dev) (r : Nat) : g (Dev.telWrite d r) = g d := by
  unfold Dev.telWrite
  suffices H : ∀ (l : List Nat) (d : Dev), (∀ k ∈ l, k < 8) → g (l.foldl Dev.streamLap d) = g d by
    rw [H _ _ (by decide), h.telPut]
  intro l
  induction l with
  | nil => intros; rfl
  | cons k t ih =>
    intro d hl
    rw [List.foldl_cons, ih _ (fun j hj => hl j (List.mem_cons_of_mem _ hj)), h.streamLap _ _ (hl k List.mem_cons_self)]

theorem Aside.takeTotal (h : Aside g) (d : Dev) (n : Nat) : g (Dev.takeTotal d n) = g d := by
  have hs : ∀ b, g (Dev.setTot d n b) = g d := fun b => h.tel d _
  unfold Dev.takeTotal
  cases Bucket.take (Dev.totBucket d n) 16 with
  | none => rfl
  | some b => exact hs b

theorem Aside.notice (h : Aside g) (d : Dev) (c ch co de : Nat) : g (Dev.notice d c ch co de) = g d := by
  unfold Dev.notice
  dsimp only
  rw [h.noticeOut _ (fun d k n hk => h.countQuiet d k n hk), h.telWrite, h.takeTotal]

theorem Aside.wrapped (h : Aside g) (d : Dev) (k : Nat) : g (Dev.wrapped d k) = g d := by
  unfold Dev.wrapped
  dsimp only
  rw [h.noticeOut _ (fun d k n hk => h.countQuiet d k n hk), h.telWrite, h.takeTotal, h.wrapBits]

theorem Aside.count (h : Aside g) (d : Dev) (k n : Nat) (hk : ∀ d v, g (Dev.setEl d k v) = g d) :
    g (Dev.count d k n) = g d := by
  unfold Dev.count
  dsimp only
  split
  · rw [h.wrapped, hk]
  · exact hk ..

theorem Aside.countAside (h : Aside g) (d : Dev) (k n : Nat) (hk : asideEl k = true) : g (Dev.count d k n) = g d :=
  h.count d k n (fun d v => h.vals d k v hk)

theorem Aside.countStat (h : Aside g) (d : Dev) (p w n : Nat) : g (Dev.countStat d p w n) = g d := by
  unfold Dev.countStat
  dsimp only
  split <;> split <;> split <;> simp only [h.wrapped, h.tel, h.day, h.act]

theorem Aside.countBin (h : Aside g) (d : Dev) (i : Nat) : g (Dev.countBin d i) = g d := by
  unfold Dev.countBin
  dsimp only
  split
  · rw [h.wrapped, h.tel]
  · exact h.tel ..

theorem Aside.event (h : Aside g) (hf : ∀ (d : Dev), g (Dev.useFree d) = g d) (d : Dev) (c ch : Nat) :
    g (Dev.event d c ch) = g d := by
  unfold Dev.event
  rw [hf, h.notice, h.raise]

theorem Aside.appendLog (h : Aside g) (d : Dev) (e : Nat) : g (Dev.appendLog d e).1 = g d := by
  have happ : ∀ src, g (Dev.appendLog.append d e src).1 = g d := by
    intro src
    unfold Dev.appendLog.append
    dsimp only
    rw [h.countAside _ _ _ (by decide), h.err]
  unfold Dev.appendLog
  dsimp only
  split
  · split
    · exact h.err ..
    · exact happ _
  · exact happ _

theorem Aside.contained (h : Aside g) (d : Dev) (c co o e u : Nat) : g (Dev.contained d c co o e u) = g d := by
  unfold Dev.contained
  dsimp only
  split <;> simp only [h.notice, h.appendLog, h.raise, h.countAside _ _ _ (show asideEl K.errContained = true by decide)]

theorem Aside.containedF (h : Aside g) (d : Dev) (c o e u : Nat) : g (Dev.containedF d c o e u) = g d :=
  h.contained ..

theorem Aside.corrected (h : Aside g) (d : Dev) (o e n : Nat) : g (Dev.corrected d o e n) = g d := by
  unfold Dev.corrected
  dsimp only
  split <;> simp only [h.notice, h.err, h.countAside _ _ _ (show asideEl K.errCorrected = true by decide)]

end

/-! The readings that stay: every field but five, and every element and string but those of `asideEl`. -/

theorem el_setEl_same (d : Dev) (k v : Nat) : Dev.el (Dev.setEl d k v) k = v := by
  simp [Dev.el, Dev.setEl]

theorem el_setEl_ne (d : Dev) (k j v : Nat) (h : j ≠ k) : Dev.el (Dev.setEl d k v) j = Dev.el d j := by
  simp only [Dev.el, Dev.setEl]
  exact SMap.get_set_ne _ _ _ _ _ _ h

theorem blob_setBlob_same (d : Dev) (k : Nat) (v : List Byte) : Dev.blob (Dev.setBlob d k v) k = v := by
  simp [Dev.blob, Dev.setBlob]

theorem blob_setBlob_ne (d : Dev) (k j : Nat) (v : List Byte) (h : j ≠ k) :
    Dev.blob (Dev.setBlob d k v) j = Dev.blob d j := by
  simp only [Dev.blob, Dev.setBlob]
  exact SMap.get_set_ne _ _ _ _ _ _ h

@[simp] theorem blob_setEl (d : Dev) (k j v : Nat) : Dev.blob (Dev.setEl d k v) j = Dev.blob d j := rfl
@[simp] theorem el_setBlob (d : Dev) (k j : Nat) (v : List Byte) : Dev.el (Dev.setBlob d k v) j = Dev.el d j := rfl
@[simp] theorem elIn_setEl (d : Dev) (k j v : Nat) : Dev.elIn (Dev.setEl d k v) j = Dev.elIn d j := rfl

theorem el_congr {d e : Dev} (h : e.dict = d.dict) (k : Nat) : Dev.el e k = Dev.el d k := by simp only [Dev.el, h]
theorem blob_congr {d e : Dev} (h : e.dict = d.dict) (k : Nat) : Dev.blob e k = Dev.blob d k := by simp only [Dev.blob, h]

theorem Aside.el (k : Nat) (h : asideEl k = false) : Aside (fun d => Dev.el d k) where
  vals d j v hj := el_setEl_ne d j k v (by rintro rfl; simp_all)
  tel _ _ := rfl
  err _ _ := rfl
  hp d p x := el_congr (Dev.setHp_dict d p x) k
  out _ _ := rfl
  tok _ _ := rfl

theorem Aside.blob (k : Nat) : Aside (fun d => Dev.blob d k) where
  vals _ _ _ _ := rfl
  tel _ _ := rfl
  err _ _ := rfl
  hp d p x := blob_congr (Dev.setHp_dict d p x) k
  out _ _ := rfl
  tok _ _ := rfl

end Sys2Proof.Machine
end

