-- ==== Sys2Proof/Laws/Bits.lean ====
section
/-! SUPPORT. Fields of numbers and of the sheaf: reading back what was put, and leaving the rest. -/
namespace Sys2Proof.Machine

theorem bits_lt (n lo len : Nat) : bits n lo len < 2 ^ len := Nat.mod_lt _ (Nat.two_pow_pos len)

/-- A number cut at lo and lo + len. -/
theorem bits_split (n lo len : Nat) :
    n = n / 2 ^ (lo + len) * 2 ^ (lo + len) + (bits n lo len * 2 ^ lo + n % 2 ^ lo) := by
  have h1 := Nat.div_add_mod n (2 ^ lo)
  have h2 := Nat.div_add_mod (n / 2 ^ lo) (2 ^ len)
  have h3 : n / 2 ^ (lo + len) = n / 2 ^ lo / 2 ^ len := by rw [Nat.pow_add, Nat.div_div_eq_div_mul]
  unfold bits
  rw [h3, Nat.pow_add]
  calc n = 2 ^ lo * (n / 2 ^ lo) + n % 2 ^ lo := h1.symm
    _ = 2 ^ lo * (2 ^ len * (n / 2 ^ lo / 2 ^ len) + n / 2 ^ lo % 2 ^ len) + n % 2 ^ lo := by rw [h2]
    _ = _ := by ring

theorem putBits_eq (n lo len v : Nat) :
    putBits n lo len v = n / 2 ^ (lo + len) * 2 ^ (lo + len) + (v % 2 ^ len * 2 ^ lo + n % 2 ^ lo) := by
  have h := bits_split n lo len
  unfold putBits
  omega

theorem putBits_low (n lo len v : Nat) : putBits n lo len v % 2 ^ lo = n % 2 ^ lo := by
  rw [putBits_eq, Nat.pow_add, ← Nat.mul_assoc, Nat.mul_right_comm, ← Nat.add_assoc, ← Nat.add_mul,
    Nat.mul_add_mod_self_right, Nat.mod_mod]

theorem putBits_div (n lo len v : Nat) :
    putBits n lo len v / 2 ^ lo = n / 2 ^ (lo + len) * 2 ^ len + v % 2 ^ len := by
  have hp := Nat.two_pow_pos lo
  rw [putBits_eq, show n / 2 ^ (lo + len) * 2 ^ (lo + len) + (v % 2 ^ len * 2 ^ lo + n % 2 ^ lo)
      = 2 ^ lo * (n / 2 ^ (lo + len) * 2 ^ len + v % 2 ^ len) + n % 2 ^ lo by rw [Nat.pow_add]; ring,
    Nat.mul_add_div hp, Nat.div_eq_of_lt (Nat.mod_lt _ hp), Nat.add_zero]

theorem bits_putBits_same (n lo len v : Nat) : bits (putBits n lo len v) lo len = v % 2 ^ len := by
  unfold bits
  rw [putBits_div, Nat.mul_add_mod_self_right, Nat.mod_mod]

theorem testBit_putBits_other (n lo len v i : Nat) (h : i < lo ∨ lo + len ≤ i) :
    (putBits n lo len v).testBit i = n.testBit i := by
  rcases h with h | h
  · have h1 := Nat.testBit_mod_two_pow (putBits n lo len v) lo i
    have h2 := Nat.testBit_mod_two_pow n lo i
    rw [putBits_low] at h1
    simpa [h] using h1.symm.trans h2
  · obtain ⟨j, rfl⟩ := Nat.exists_eq_add_of_le h
    have key : putBits n lo len v / 2 ^ (lo + len) = n / 2 ^ (lo + len) := by
      rw [Nat.pow_add, ← Nat.div_div_eq_div_mul, putBits_div, Nat.mul_comm, Nat.mul_add_div (Nat.two_pow_pos len),
        Nat.div_eq_of_lt (Nat.mod_lt _ (Nat.two_pow_pos len)), Nat.add_zero, Nat.pow_add]
    rw [Nat.add_comm, ← Nat.testBit_div_two_pow, ← Nat.testBit_div_two_pow, key]

theorem putBits_lt (n lo len v m : Nat) (hn : n < 2 ^ m) (h : lo + len ≤ m) : putBits n lo len v < 2 ^ m := by
  apply Nat.lt_pow_two_of_testBit
  intro i hi
  rw [testBit_putBits_other _ _ _ _ _ (.inr (by omega))]
  exact Nat.testBit_lt_two_pow (lt_of_lt_of_le hn (Nat.pow_le_pow_right (by decide) hi))

/-- A field of the sheaf reads what was put there. -/
theorem Sheaf.fld_putFld_same (s : Sheaf) (off w v : Nat) (h : off + w ≤ 4096) :
    Sheaf.fld (Sheaf.putFld s off w v) off w = v % 2 ^ w := by
  unfold Sheaf.fld Sheaf.putFld
  rw [BitVec.toNat_ofNat, Nat.mod_eq_of_lt (putBits_lt _ _ _ _ _ s.isLt h), bits_putBits_same]

/-- Every other bit of the sheaf stays. -/
theorem Sheaf.getLsbD_putFld_other (s : Sheaf) (off w v i : Nat) (h : off + w ≤ 4096) (hi : i < off ∨ off + w ≤ i) :
    (Sheaf.putFld s off w v).getLsbD i = s.getLsbD i := by
  unfold Sheaf.putFld
  simp only [BitVec.getLsbD, BitVec.toNat_ofNat]
  rw [Nat.mod_eq_of_lt (putBits_lt _ _ _ _ _ s.isLt h), testBit_putBits_other _ _ _ _ _ hi]

end Sys2Proof.Machine
end

