-- ==== Sys2Proof/Laws/Frames.lean ====
section
/-! SUPPORT. Counting, events, notices and errors leave every field alone but the dictionary, the telemetry, the error
log, the host ports and the outputs. -/
namespace Sys2Proof.Machine

theorem Dev.perfBank_any {γ : Type} {g : Dev → γ} (d : Dev) (b e n : Nat)
    (hk : ∀ d k v, g (Dev.setEl d k v) = g d) : g (Dev.perfBank d b e n) = g d := by
  unfold Dev.perfBank
  split
  · rfl
  · refine foldl_keeps g _ (fun d k => ?_) _ d
    dsimp only
    split
    · split <;> simp only [hk]
    · rfl

theorem Aside.perfAny {γ : Type} {g : Dev → γ} (h : Aside g) (d : Dev) (b e n : Nat)
    (hk : ∀ d k v, g (Dev.setEl d k v) = g d) : g (Dev.perf d b e n) = g d := by
  unfold Dev.perf
  rw [Dev.perfBank_any _ _ _ _ hk]
  split
  · rfl
  · exact h.tel d _

theorem Aside.ticks : Aside (fun d : Dev => d.ticks) :=
  ⟨fun _ _ _ _ => rfl, fun _ _ => rfl, fun _ _ => rfl, fun d p x => Dev.setHp_ticks d p x, fun _ _ => rfl, fun _ _ => rfl⟩
theorem Aside.free : Aside (fun d : Dev => d.free) :=
  ⟨fun _ _ _ _ => rfl, fun _ _ => rfl, fun _ _ => rfl, fun d p x => Dev.setHp_free d p x, fun _ _ => rfl, fun _ _ => rfl⟩
theorem Aside.time : Aside (fun d : Dev => d.time) :=
  ⟨fun _ _ _ _ => rfl, fun _ _ => rfl, fun _ _ => rfl, fun d p x => Dev.setHp_time d p x, fun _ _ => rfl, fun _ _ => rfl⟩
theorem Aside.pipes : Aside (fun d : Dev => d.pipes) :=
  ⟨fun _ _ _ _ => rfl, fun _ _ => rfl, fun _ _ => rfl, fun d p x => Dev.setHp_pipes d p x, fun _ _ => rfl, fun _ _ => rfl⟩
theorem Aside.tbl : Aside (fun d : Dev => d.tbl) :=
  ⟨fun _ _ _ _ => rfl, fun _ _ => rfl, fun _ _ => rfl, fun d p x => Dev.setHp_tbl d p x, fun _ _ => rfl, fun _ _ => rfl⟩
theorem Aside.pkts : Aside (fun d : Dev => d.pkts) :=
  ⟨fun _ _ _ _ => rfl, fun _ _ => rfl, fun _ _ => rfl, fun d p x => Dev.setHp_pkts d p x, fun _ _ => rfl, fun _ _ => rfl⟩
theorem Aside.nextPkt : Aside (fun d : Dev => d.nextPkt) :=
  ⟨fun _ _ _ _ => rfl, fun _ _ => rfl, fun _ _ => rfl, fun d p x => Dev.setHp_nextPkt d p x, fun _ _ => rfl, fun _ _ => rfl⟩
theorem Aside.queues : Aside (fun d : Dev => d.queues) :=
  ⟨fun _ _ _ _ => rfl, fun _ _ => rfl, fun _ _ => rfl, fun d p x => Dev.setHp_queues d p x, fun _ _ => rfl, fun _ _ => rfl⟩
theorem Aside.ports : Aside (fun d : Dev => d.ports) :=
  ⟨fun _ _ _ _ => rfl, fun _ _ => rfl, fun _ _ => rfl, fun d p x => Dev.setHp_ports d p x, fun _ _ => rfl, fun _ _ => rfl⟩
theorem Aside.buf : Aside (fun d : Dev => d.buf) :=
  ⟨fun _ _ _ _ => rfl, fun _ _ => rfl, fun _ _ => rfl, fun d p x => Dev.setHp_buf d p x, fun _ _ => rfl, fun _ _ => rfl⟩
theorem Aside.gran : Aside (fun d : Dev => d.gran) :=
  ⟨fun _ _ _ _ => rfl, fun _ _ => rfl, fun _ _ => rfl, fun d p x => Dev.setHp_gran d p x, fun _ _ => rfl, fun _ _ => rfl⟩
theorem Aside.sched : Aside (fun d : Dev => d.sched) :=
  ⟨fun _ _ _ _ => rfl, fun _ _ => rfl, fun _ _ => rfl, fun d p x => Dev.setHp_sched d p x, fun _ _ => rfl, fun _ _ => rfl⟩
theorem Aside.lanes : Aside (fun d : Dev => d.lanes) :=
  ⟨fun _ _ _ _ => rfl, fun _ _ => rfl, fun _ _ => rfl, fun d p x => Dev.setHp_lanes d p x, fun _ _ => rfl, fun _ _ => rfl⟩
theorem Aside.dma : Aside (fun d : Dev => d.dma) :=
  ⟨fun _ _ _ _ => rfl, fun _ _ => rfl, fun _ _ => rfl, fun d p x => Dev.setHp_dma d p x, fun _ _ => rfl, fun _ _ => rfl⟩
theorem Aside.prog : Aside (fun d : Dev => d.prog) :=
  ⟨fun _ _ _ _ => rfl, fun _ _ => rfl, fun _ _ => rfl, fun d p x => Dev.setHp_prog d p x, fun _ _ => rfl, fun _ _ => rfl⟩
theorem Aside.mgmt : Aside (fun d : Dev => d.mgmt) :=
  ⟨fun _ _ _ _ => rfl, fun _ _ => rfl, fun _ _ => rfl, fun d p x => Dev.setHp_mgmt d p x, fun _ _ => rfl, fun _ _ => rfl⟩
theorem Aside.fw : Aside (fun d : Dev => d.fw) :=
  ⟨fun _ _ _ _ => rfl, fun _ _ => rfl, fun _ _ => rfl, fun d p x => Dev.setHp_fw d p x, fun _ _ => rfl, fun _ _ => rfl⟩
theorem Aside.pwr : Aside (fun d : Dev => d.pwr) :=
  ⟨fun _ _ _ _ => rfl, fun _ _ => rfl, fun _ _ => rfl, fun d p x => Dev.setHp_pwr d p x, fun _ _ => rfl, fun _ _ => rfl⟩
theorem Aside.rst : Aside (fun d : Dev => d.rst) :=
  ⟨fun _ _ _ _ => rfl, fun _ _ => rfl, fun _ _ => rfl, fun d p x => Dev.setHp_rst d p x, fun _ _ => rfl, fun _ _ => rfl⟩

@[simp] theorem Dev.sendVector_ticks (d : Dev) (p v : Nat) : (Dev.sendVector d p v).ticks = d.ticks := Aside.ticks.sendVector d p v
@[simp] theorem Dev.sendVector_free (d : Dev) (p v : Nat) : (Dev.sendVector d p v).free = d.free := Aside.free.sendVector d p v
@[simp] theorem Dev.sendVector_time (d : Dev) (p v : Nat) : (Dev.sendVector d p v).time = d.time := Aside.time.sendVector d p v
@[simp] theorem Dev.sendVector_pipes (d : Dev) (p v : Nat) : (Dev.sendVector d p v).pipes = d.pipes := Aside.pipes.sendVector d p v
@[simp] theorem Dev.sendVector_tbl (d : Dev) (p v : Nat) : (Dev.sendVector d p v).tbl = d.tbl := Aside.tbl.sendVector d p v
@[simp] theorem Dev.sendVector_pkts (d : Dev) (p v : Nat) : (Dev.sendVector d p v).pkts = d.pkts := Aside.pkts.sendVector d p v
@[simp] theorem Dev.sendVector_nextPkt (d : Dev) (p v : Nat) : (Dev.sendVector d p v).nextPkt = d.nextPkt := Aside.nextPkt.sendVector d p v
@[simp] theorem Dev.sendVector_queues (d : Dev) (p v : Nat) : (Dev.sendVector d p v).queues = d.queues := Aside.queues.sendVector d p v
@[simp] theorem Dev.sendVector_ports (d : Dev) (p v : Nat) : (Dev.sendVector d p v).ports = d.ports := Aside.ports.sendVector d p v
@[simp] theorem Dev.sendVector_buf (d : Dev) (p v : Nat) : (Dev.sendVector d p v).buf = d.buf := Aside.buf.sendVector d p v
@[simp] theorem Dev.sendVector_gran (d : Dev) (p v : Nat) : (Dev.sendVector d p v).gran = d.gran := Aside.gran.sendVector d p v
@[simp] theorem Dev.sendVector_sched (d : Dev) (p v : Nat) : (Dev.sendVector d p v).sched = d.sched := Aside.sched.sendVector d p v
@[simp] theorem Dev.sendVector_lanes (d : Dev) (p v : Nat) : (Dev.sendVector d p v).lanes = d.lanes := Aside.lanes.sendVector d p v
@[simp] theorem Dev.sendVector_dma (d : Dev) (p v : Nat) : (Dev.sendVector d p v).dma = d.dma := Aside.dma.sendVector d p v
@[simp] theorem Dev.sendVector_prog (d : Dev) (p v : Nat) : (Dev.sendVector d p v).prog = d.prog := Aside.prog.sendVector d p v
@[simp] theorem Dev.sendVector_mgmt (d : Dev) (p v : Nat) : (Dev.sendVector d p v).mgmt = d.mgmt := Aside.mgmt.sendVector d p v
@[simp] theorem Dev.sendVector_fw (d : Dev) (p v : Nat) : (Dev.sendVector d p v).fw = d.fw := Aside.fw.sendVector d p v
@[simp] theorem Dev.sendVector_pwr (d : Dev) (p v : Nat) : (Dev.sendVector d p v).pwr = d.pwr := Aside.pwr.sendVector d p v
@[simp] theorem Dev.sendVector_rst (d : Dev) (p v : Nat) : (Dev.sendVector d p v).rst = d.rst := Aside.rst.sendVector d p v

@[simp] theorem Dev.raise_ticks (d : Dev) (b : Nat) : (Dev.raise d b).ticks = d.ticks := Aside.ticks.raise d b
@[simp] theorem Dev.raise_free (d : Dev) (b : Nat) : (Dev.raise d b).free = d.free := Aside.free.raise d b
@[simp] theorem Dev.raise_time (d : Dev) (b : Nat) : (Dev.raise d b).time = d.time := Aside.time.raise d b
@[simp] theorem Dev.raise_pipes (d : Dev) (b : Nat) : (Dev.raise d b).pipes = d.pipes := Aside.pipes.raise d b
@[simp] theorem Dev.raise_tbl (d : Dev) (b : Nat) : (Dev.raise d b).tbl = d.tbl := Aside.tbl.raise d b
@[simp] theorem Dev.raise_pkts (d : Dev) (b : Nat) : (Dev.raise d b).pkts = d.pkts := Aside.pkts.raise d b
@[simp] theorem Dev.raise_nextPkt (d : Dev) (b : Nat) : (Dev.raise d b).nextPkt = d.nextPkt := Aside.nextPkt.raise d b
@[simp] theorem Dev.raise_queues (d : Dev) (b : Nat) : (Dev.raise d b).queues = d.queues := Aside.queues.raise d b
@[simp] theorem Dev.raise_ports (d : Dev) (b : Nat) : (Dev.raise d b).ports = d.ports := Aside.ports.raise d b
@[simp] theorem Dev.raise_buf (d : Dev) (b : Nat) : (Dev.raise d b).buf = d.buf := Aside.buf.raise d b
@[simp] theorem Dev.raise_gran (d : Dev) (b : Nat) : (Dev.raise d b).gran = d.gran := Aside.gran.raise d b
@[simp] theorem Dev.raise_sched (d : Dev) (b : Nat) : (Dev.raise d b).sched = d.sched := Aside.sched.raise d b
@[simp] theorem Dev.raise_lanes (d : Dev) (b : Nat) : (Dev.raise d b).lanes = d.lanes := Aside.lanes.raise d b
@[simp] theorem Dev.raise_dma (d : Dev) (b : Nat) : (Dev.raise d b).dma = d.dma := Aside.dma.raise d b
@[simp] theorem Dev.raise_prog (d : Dev) (b : Nat) : (Dev.raise d b).prog = d.prog := Aside.prog.raise d b
@[simp] theorem Dev.raise_mgmt (d : Dev) (b : Nat) : (Dev.raise d b).mgmt = d.mgmt := Aside.mgmt.raise d b
@[simp] theorem Dev.raise_fw (d : Dev) (b : Nat) : (Dev.raise d b).fw = d.fw := Aside.fw.raise d b
@[simp] theorem Dev.raise_pwr (d : Dev) (b : Nat) : (Dev.raise d b).pwr = d.pwr := Aside.pwr.raise d b
@[simp] theorem Dev.raise_rst (d : Dev) (b : Nat) : (Dev.raise d b).rst = d.rst := Aside.rst.raise d b

@[simp] theorem Dev.wrapped_ticks (d : Dev) (k : Nat) : (Dev.wrapped d k).ticks = d.ticks := Aside.ticks.wrapped d k
@[simp] theorem Dev.wrapped_free (d : Dev) (k : Nat) : (Dev.wrapped d k).free = d.free := Aside.free.wrapped d k
@[simp] theorem Dev.wrapped_time (d : Dev) (k : Nat) : (Dev.wrapped d k).time = d.time := Aside.time.wrapped d k
@[simp] theorem Dev.wrapped_pipes (d : Dev) (k : Nat) : (Dev.wrapped d k).pipes = d.pipes := Aside.pipes.wrapped d k
@[simp] theorem Dev.wrapped_tbl (d : Dev) (k : Nat) : (Dev.wrapped d k).tbl = d.tbl := Aside.tbl.wrapped d k
@[simp] theorem Dev.wrapped_pkts (d : Dev) (k : Nat) : (Dev.wrapped d k).pkts = d.pkts := Aside.pkts.wrapped d k
@[simp] theorem Dev.wrapped_nextPkt (d : Dev) (k : Nat) : (Dev.wrapped d k).nextPkt = d.nextPkt := Aside.nextPkt.wrapped d k
@[simp] theorem Dev.wrapped_queues (d : Dev) (k : Nat) : (Dev.wrapped d k).queues = d.queues := Aside.queues.wrapped d k
@[simp] theorem Dev.wrapped_ports (d : Dev) (k : Nat) : (Dev.wrapped d k).ports = d.ports := Aside.ports.wrapped d k
@[simp] theorem Dev.wrapped_buf (d : Dev) (k : Nat) : (Dev.wrapped d k).buf = d.buf := Aside.buf.wrapped d k
@[simp] theorem Dev.wrapped_gran (d : Dev) (k : Nat) : (Dev.wrapped d k).gran = d.gran := Aside.gran.wrapped d k
@[simp] theorem Dev.wrapped_sched (d : Dev) (k : Nat) : (Dev.wrapped d k).sched = d.sched := Aside.sched.wrapped d k
@[simp] theorem Dev.wrapped_lanes (d : Dev) (k : Nat) : (Dev.wrapped d k).lanes = d.lanes := Aside.lanes.wrapped d k
@[simp] theorem Dev.wrapped_dma (d : Dev) (k : Nat) : (Dev.wrapped d k).dma = d.dma := Aside.dma.wrapped d k
@[simp] theorem Dev.wrapped_prog (d : Dev) (k : Nat) : (Dev.wrapped d k).prog = d.prog := Aside.prog.wrapped d k
@[simp] theorem Dev.wrapped_mgmt (d : Dev) (k : Nat) : (Dev.wrapped d k).mgmt = d.mgmt := Aside.mgmt.wrapped d k
@[simp] theorem Dev.wrapped_fw (d : Dev) (k : Nat) : (Dev.wrapped d k).fw = d.fw := Aside.fw.wrapped d k
@[simp] theorem Dev.wrapped_pwr (d : Dev) (k : Nat) : (Dev.wrapped d k).pwr = d.pwr := Aside.pwr.wrapped d k
@[simp] theorem Dev.wrapped_rst (d : Dev) (k : Nat) : (Dev.wrapped d k).rst = d.rst := Aside.rst.wrapped d k

@[simp] theorem Dev.count_ticks (d : Dev) (k n : Nat) : (Dev.count d k n).ticks = d.ticks := Aside.ticks.count d k n (fun _ _ => rfl)
@[simp] theorem Dev.count_free (d : Dev) (k n : Nat) : (Dev.count d k n).free = d.free := Aside.free.count d k n (fun _ _ => rfl)
@[simp] theorem Dev.count_time (d : Dev) (k n : Nat) : (Dev.count d k n).time = d.time := Aside.time.count d k n (fun _ _ => rfl)
@[simp] theorem Dev.count_pipes (d : Dev) (k n : Nat) : (Dev.count d k n).pipes = d.pipes := Aside.pipes.count d k n (fun _ _ => rfl)
@[simp] theorem Dev.count_tbl (d : Dev) (k n : Nat) : (Dev.count d k n).tbl = d.tbl := Aside.tbl.count d k n (fun _ _ => rfl)
@[simp] theorem Dev.count_pkts (d : Dev) (k n : Nat) : (Dev.count d k n).pkts = d.pkts := Aside.pkts.count d k n (fun _ _ => rfl)
@[simp] theorem Dev.count_nextPkt (d : Dev) (k n : Nat) : (Dev.count d k n).nextPkt = d.nextPkt := Aside.nextPkt.count d k n (fun _ _ => rfl)
@[simp] theorem Dev.count_queues (d : Dev) (k n : Nat) : (Dev.count d k n).queues = d.queues := Aside.queues.count d k n (fun _ _ => rfl)
@[simp] theorem Dev.count_ports (d : Dev) (k n : Nat) : (Dev.count d k n).ports = d.ports := Aside.ports.count d k n (fun _ _ => rfl)
@[simp] theorem Dev.count_buf (d : Dev) (k n : Nat) : (Dev.count d k n).buf = d.buf := Aside.buf.count d k n (fun _ _ => rfl)
@[simp] theorem Dev.count_gran (d : Dev) (k n : Nat) : (Dev.count d k n).gran = d.gran := Aside.gran.count d k n (fun _ _ => rfl)
@[simp] theorem Dev.count_sched (d : Dev) (k n : Nat) : (Dev.count d k n).sched = d.sched := Aside.sched.count d k n (fun _ _ => rfl)
@[simp] theorem Dev.count_lanes (d : Dev) (k n : Nat) : (Dev.count d k n).lanes = d.lanes := Aside.lanes.count d k n (fun _ _ => rfl)
@[simp] theorem Dev.count_dma (d : Dev) (k n : Nat) : (Dev.count d k n).dma = d.dma := Aside.dma.count d k n (fun _ _ => rfl)
@[simp] theorem Dev.count_prog (d : Dev) (k n : Nat) : (Dev.count d k n).prog = d.prog := Aside.prog.count d k n (fun _ _ => rfl)
@[simp] theorem Dev.count_mgmt (d : Dev) (k n : Nat) : (Dev.count d k n).mgmt = d.mgmt := Aside.mgmt.count d k n (fun _ _ => rfl)
@[simp] theorem Dev.count_fw (d : Dev) (k n : Nat) : (Dev.count d k n).fw = d.fw := Aside.fw.count d k n (fun _ _ => rfl)
@[simp] theorem Dev.count_pwr (d : Dev) (k n : Nat) : (Dev.count d k n).pwr = d.pwr := Aside.pwr.count d k n (fun _ _ => rfl)
@[simp] theorem Dev.count_rst (d : Dev) (k n : Nat) : (Dev.count d k n).rst = d.rst := Aside.rst.count d k n (fun _ _ => rfl)

@[simp] theorem Dev.countStat_ticks (d : Dev) (p w n : Nat) : (Dev.countStat d p w n).ticks = d.ticks := Aside.ticks.countStat d p w n
@[simp] theorem Dev.countStat_free (d : Dev) (p w n : Nat) : (Dev.countStat d p w n).free = d.free := Aside.free.countStat d p w n
@[simp] theorem Dev.countStat_time (d : Dev) (p w n : Nat) : (Dev.countStat d p w n).time = d.time := Aside.time.countStat d p w n
@[simp] theorem Dev.countStat_pipes (d : Dev) (p w n : Nat) : (Dev.countStat d p w n).pipes = d.pipes := Aside.pipes.countStat d p w n
@[simp] theorem Dev.countStat_tbl (d : Dev) (p w n : Nat) : (Dev.countStat d p w n).tbl = d.tbl := Aside.tbl.countStat d p w n
@[simp] theorem Dev.countStat_pkts (d : Dev) (p w n : Nat) : (Dev.countStat d p w n).pkts = d.pkts := Aside.pkts.countStat d p w n
@[simp] theorem Dev.countStat_nextPkt (d : Dev) (p w n : Nat) : (Dev.countStat d p w n).nextPkt = d.nextPkt := Aside.nextPkt.countStat d p w n
@[simp] theorem Dev.countStat_queues (d : Dev) (p w n : Nat) : (Dev.countStat d p w n).queues = d.queues := Aside.queues.countStat d p w n
@[simp] theorem Dev.countStat_ports (d : Dev) (p w n : Nat) : (Dev.countStat d p w n).ports = d.ports := Aside.ports.countStat d p w n
@[simp] theorem Dev.countStat_buf (d : Dev) (p w n : Nat) : (Dev.countStat d p w n).buf = d.buf := Aside.buf.countStat d p w n
@[simp] theorem Dev.countStat_gran (d : Dev) (p w n : Nat) : (Dev.countStat d p w n).gran = d.gran := Aside.gran.countStat d p w n
@[simp] theorem Dev.countStat_sched (d : Dev) (p w n : Nat) : (Dev.countStat d p w n).sched = d.sched := Aside.sched.countStat d p w n
@[simp] theorem Dev.countStat_lanes (d : Dev) (p w n : Nat) : (Dev.countStat d p w n).lanes = d.lanes := Aside.lanes.countStat d p w n
@[simp] theorem Dev.countStat_dma (d : Dev) (p w n : Nat) : (Dev.countStat d p w n).dma = d.dma := Aside.dma.countStat d p w n
@[simp] theorem Dev.countStat_prog (d : Dev) (p w n : Nat) : (Dev.countStat d p w n).prog = d.prog := Aside.prog.countStat d p w n
@[simp] theorem Dev.countStat_mgmt (d : Dev) (p w n : Nat) : (Dev.countStat d p w n).mgmt = d.mgmt := Aside.mgmt.countStat d p w n
@[simp] theorem Dev.countStat_fw (d : Dev) (p w n : Nat) : (Dev.countStat d p w n).fw = d.fw := Aside.fw.countStat d p w n
@[simp] theorem Dev.countStat_pwr (d : Dev) (p w n : Nat) : (Dev.countStat d p w n).pwr = d.pwr := Aside.pwr.countStat d p w n
@[simp] theorem Dev.countStat_rst (d : Dev) (p w n : Nat) : (Dev.countStat d p w n).rst = d.rst := Aside.rst.countStat d p w n

@[simp] theorem Dev.countBin_ticks (d : Dev) (i : Nat) : (Dev.countBin d i).ticks = d.ticks := Aside.ticks.countBin d i
@[simp] theorem Dev.countBin_free (d : Dev) (i : Nat) : (Dev.countBin d i).free = d.free := Aside.free.countBin d i
@[simp] theorem Dev.countBin_time (d : Dev) (i : Nat) : (Dev.countBin d i).time = d.time := Aside.time.countBin d i
@[simp] theorem Dev.countBin_pipes (d : Dev) (i : Nat) : (Dev.countBin d i).pipes = d.pipes := Aside.pipes.countBin d i
@[simp] theorem Dev.countBin_tbl (d : Dev) (i : Nat) : (Dev.countBin d i).tbl = d.tbl := Aside.tbl.countBin d i
@[simp] theorem Dev.countBin_pkts (d : Dev) (i : Nat) : (Dev.countBin d i).pkts = d.pkts := Aside.pkts.countBin d i
@[simp] theorem Dev.countBin_nextPkt (d : Dev) (i : Nat) : (Dev.countBin d i).nextPkt = d.nextPkt := Aside.nextPkt.countBin d i
@[simp] theorem Dev.countBin_queues (d : Dev) (i : Nat) : (Dev.countBin d i).queues = d.queues := Aside.queues.countBin d i
@[simp] theorem Dev.countBin_ports (d : Dev) (i : Nat) : (Dev.countBin d i).ports = d.ports := Aside.ports.countBin d i
@[simp] theorem Dev.countBin_buf (d : Dev) (i : Nat) : (Dev.countBin d i).buf = d.buf := Aside.buf.countBin d i
@[simp] theorem Dev.countBin_gran (d : Dev) (i : Nat) : (Dev.countBin d i).gran = d.gran := Aside.gran.countBin d i
@[simp] theorem Dev.countBin_sched (d : Dev) (i : Nat) : (Dev.countBin d i).sched = d.sched := Aside.sched.countBin d i
@[simp] theorem Dev.countBin_lanes (d : Dev) (i : Nat) : (Dev.countBin d i).lanes = d.lanes := Aside.lanes.countBin d i
@[simp] theorem Dev.countBin_dma (d : Dev) (i : Nat) : (Dev.countBin d i).dma = d.dma := Aside.dma.countBin d i
@[simp] theorem Dev.countBin_prog (d : Dev) (i : Nat) : (Dev.countBin d i).prog = d.prog := Aside.prog.countBin d i
@[simp] theorem Dev.countBin_mgmt (d : Dev) (i : Nat) : (Dev.countBin d i).mgmt = d.mgmt := Aside.mgmt.countBin d i
@[simp] theorem Dev.countBin_fw (d : Dev) (i : Nat) : (Dev.countBin d i).fw = d.fw := Aside.fw.countBin d i
@[simp] theorem Dev.countBin_pwr (d : Dev) (i : Nat) : (Dev.countBin d i).pwr = d.pwr := Aside.pwr.countBin d i
@[simp] theorem Dev.countBin_rst (d : Dev) (i : Nat) : (Dev.countBin d i).rst = d.rst := Aside.rst.countBin d i

@[simp] theorem Dev.perf_ticks (d : Dev) (b e n : Nat) : (Dev.perf d b e n).ticks = d.ticks := Aside.ticks.perfAny d b e n (fun _ _ _ => rfl)
@[simp] theorem Dev.perf_free (d : Dev) (b e n : Nat) : (Dev.perf d b e n).free = d.free := Aside.free.perfAny d b e n (fun _ _ _ => rfl)
@[simp] theorem Dev.perf_time (d : Dev) (b e n : Nat) : (Dev.perf d b e n).time = d.time := Aside.time.perfAny d b e n (fun _ _ _ => rfl)
@[simp] theorem Dev.perf_pipes (d : Dev) (b e n : Nat) : (Dev.perf d b e n).pipes = d.pipes := Aside.pipes.perfAny d b e n (fun _ _ _ => rfl)
@[simp] theorem Dev.perf_tbl (d : Dev) (b e n : Nat) : (Dev.perf d b e n).tbl = d.tbl := Aside.tbl.perfAny d b e n (fun _ _ _ => rfl)
@[simp] theorem Dev.perf_pkts (d : Dev) (b e n : Nat) : (Dev.perf d b e n).pkts = d.pkts := Aside.pkts.perfAny d b e n (fun _ _ _ => rfl)
@[simp] theorem Dev.perf_nextPkt (d : Dev) (b e n : Nat) : (Dev.perf d b e n).nextPkt = d.nextPkt := Aside.nextPkt.perfAny d b e n (fun _ _ _ => rfl)
@[simp] theorem Dev.perf_queues (d : Dev) (b e n : Nat) : (Dev.perf d b e n).queues = d.queues := Aside.queues.perfAny d b e n (fun _ _ _ => rfl)
@[simp] theorem Dev.perf_ports (d : Dev) (b e n : Nat) : (Dev.perf d b e n).ports = d.ports := Aside.ports.perfAny d b e n (fun _ _ _ => rfl)
@[simp] theorem Dev.perf_buf (d : Dev) (b e n : Nat) : (Dev.perf d b e n).buf = d.buf := Aside.buf.perfAny d b e n (fun _ _ _ => rfl)
@[simp] theorem Dev.perf_gran (d : Dev) (b e n : Nat) : (Dev.perf d b e n).gran = d.gran := Aside.gran.perfAny d b e n (fun _ _ _ => rfl)
@[simp] theorem Dev.perf_sched (d : Dev) (b e n : Nat) : (Dev.perf d b e n).sched = d.sched := Aside.sched.perfAny d b e n (fun _ _ _ => rfl)
@[simp] theorem Dev.perf_lanes (d : Dev) (b e n : Nat) : (Dev.perf d b e n).lanes = d.lanes := Aside.lanes.perfAny d b e n (fun _ _ _ => rfl)
@[simp] theorem Dev.perf_dma (d : Dev) (b e n : Nat) : (Dev.perf d b e n).dma = d.dma := Aside.dma.perfAny d b e n (fun _ _ _ => rfl)
@[simp] theorem Dev.perf_prog (d : Dev) (b e n : Nat) : (Dev.perf d b e n).prog = d.prog := Aside.prog.perfAny d b e n (fun _ _ _ => rfl)
@[simp] theorem Dev.perf_mgmt (d : Dev) (b e n : Nat) : (Dev.perf d b e n).mgmt = d.mgmt := Aside.mgmt.perfAny d b e n (fun _ _ _ => rfl)
@[simp] theorem Dev.perf_fw (d : Dev) (b e n : Nat) : (Dev.perf d b e n).fw = d.fw := Aside.fw.perfAny d b e n (fun _ _ _ => rfl)
@[simp] theorem Dev.perf_pwr (d : Dev) (b e n : Nat) : (Dev.perf d b e n).pwr = d.pwr := Aside.pwr.perfAny d b e n (fun _ _ _ => rfl)
@[simp] theorem Dev.perf_rst (d : Dev) (b e n : Nat) : (Dev.perf d b e n).rst = d.rst := Aside.rst.perfAny d b e n (fun _ _ _ => rfl)

@[simp] theorem Dev.telWrite_ticks (d : Dev) (r : Nat) : (Dev.telWrite d r).ticks = d.ticks := Aside.ticks.telWrite d r
@[simp] theorem Dev.telWrite_free (d : Dev) (r : Nat) : (Dev.telWrite d r).free = d.free := Aside.free.telWrite d r
@[simp] theorem Dev.telWrite_time (d : Dev) (r : Nat) : (Dev.telWrite d r).time = d.time := Aside.time.telWrite d r
@[simp] theorem Dev.telWrite_pipes (d : Dev) (r : Nat) : (Dev.telWrite d r).pipes = d.pipes := Aside.pipes.telWrite d r
@[simp] theorem Dev.telWrite_tbl (d : Dev) (r : Nat) : (Dev.telWrite d r).tbl = d.tbl := Aside.tbl.telWrite d r
@[simp] theorem Dev.telWrite_pkts (d : Dev) (r : Nat) : (Dev.telWrite d r).pkts = d.pkts := Aside.pkts.telWrite d r
@[simp] theorem Dev.telWrite_nextPkt (d : Dev) (r : Nat) : (Dev.telWrite d r).nextPkt = d.nextPkt := Aside.nextPkt.telWrite d r
@[simp] theorem Dev.telWrite_queues (d : Dev) (r : Nat) : (Dev.telWrite d r).queues = d.queues := Aside.queues.telWrite d r
@[simp] theorem Dev.telWrite_ports (d : Dev) (r : Nat) : (Dev.telWrite d r).ports = d.ports := Aside.ports.telWrite d r
@[simp] theorem Dev.telWrite_buf (d : Dev) (r : Nat) : (Dev.telWrite d r).buf = d.buf := Aside.buf.telWrite d r
@[simp] theorem Dev.telWrite_gran (d : Dev) (r : Nat) : (Dev.telWrite d r).gran = d.gran := Aside.gran.telWrite d r
@[simp] theorem Dev.telWrite_sched (d : Dev) (r : Nat) : (Dev.telWrite d r).sched = d.sched := Aside.sched.telWrite d r
@[simp] theorem Dev.telWrite_lanes (d : Dev) (r : Nat) : (Dev.telWrite d r).lanes = d.lanes := Aside.lanes.telWrite d r
@[simp] theorem Dev.telWrite_dma (d : Dev) (r : Nat) : (Dev.telWrite d r).dma = d.dma := Aside.dma.telWrite d r
@[simp] theorem Dev.telWrite_prog (d : Dev) (r : Nat) : (Dev.telWrite d r).prog = d.prog := Aside.prog.telWrite d r
@[simp] theorem Dev.telWrite_mgmt (d : Dev) (r : Nat) : (Dev.telWrite d r).mgmt = d.mgmt := Aside.mgmt.telWrite d r
@[simp] theorem Dev.telWrite_fw (d : Dev) (r : Nat) : (Dev.telWrite d r).fw = d.fw := Aside.fw.telWrite d r
@[simp] theorem Dev.telWrite_pwr (d : Dev) (r : Nat) : (Dev.telWrite d r).pwr = d.pwr := Aside.pwr.telWrite d r
@[simp] theorem Dev.telWrite_rst (d : Dev) (r : Nat) : (Dev.telWrite d r).rst = d.rst := Aside.rst.telWrite d r

@[simp] theorem Dev.takeTotal_ticks (d : Dev) (n : Nat) : (Dev.takeTotal d n).ticks = d.ticks := Aside.ticks.takeTotal d n
@[simp] theorem Dev.takeTotal_free (d : Dev) (n : Nat) : (Dev.takeTotal d n).free = d.free := Aside.free.takeTotal d n
@[simp] theorem Dev.takeTotal_time (d : Dev) (n : Nat) : (Dev.takeTotal d n).time = d.time := Aside.time.takeTotal d n
@[simp] theorem Dev.takeTotal_pipes (d : Dev) (n : Nat) : (Dev.takeTotal d n).pipes = d.pipes := Aside.pipes.takeTotal d n
@[simp] theorem Dev.takeTotal_tbl (d : Dev) (n : Nat) : (Dev.takeTotal d n).tbl = d.tbl := Aside.tbl.takeTotal d n
@[simp] theorem Dev.takeTotal_pkts (d : Dev) (n : Nat) : (Dev.takeTotal d n).pkts = d.pkts := Aside.pkts.takeTotal d n
@[simp] theorem Dev.takeTotal_nextPkt (d : Dev) (n : Nat) : (Dev.takeTotal d n).nextPkt = d.nextPkt := Aside.nextPkt.takeTotal d n
@[simp] theorem Dev.takeTotal_queues (d : Dev) (n : Nat) : (Dev.takeTotal d n).queues = d.queues := Aside.queues.takeTotal d n
@[simp] theorem Dev.takeTotal_ports (d : Dev) (n : Nat) : (Dev.takeTotal d n).ports = d.ports := Aside.ports.takeTotal d n
@[simp] theorem Dev.takeTotal_buf (d : Dev) (n : Nat) : (Dev.takeTotal d n).buf = d.buf := Aside.buf.takeTotal d n
@[simp] theorem Dev.takeTotal_gran (d : Dev) (n : Nat) : (Dev.takeTotal d n).gran = d.gran := Aside.gran.takeTotal d n
@[simp] theorem Dev.takeTotal_sched (d : Dev) (n : Nat) : (Dev.takeTotal d n).sched = d.sched := Aside.sched.takeTotal d n
@[simp] theorem Dev.takeTotal_lanes (d : Dev) (n : Nat) : (Dev.takeTotal d n).lanes = d.lanes := Aside.lanes.takeTotal d n
@[simp] theorem Dev.takeTotal_dma (d : Dev) (n : Nat) : (Dev.takeTotal d n).dma = d.dma := Aside.dma.takeTotal d n
@[simp] theorem Dev.takeTotal_prog (d : Dev) (n : Nat) : (Dev.takeTotal d n).prog = d.prog := Aside.prog.takeTotal d n
@[simp] theorem Dev.takeTotal_mgmt (d : Dev) (n : Nat) : (Dev.takeTotal d n).mgmt = d.mgmt := Aside.mgmt.takeTotal d n
@[simp] theorem Dev.takeTotal_fw (d : Dev) (n : Nat) : (Dev.takeTotal d n).fw = d.fw := Aside.fw.takeTotal d n
@[simp] theorem Dev.takeTotal_pwr (d : Dev) (n : Nat) : (Dev.takeTotal d n).pwr = d.pwr := Aside.pwr.takeTotal d n
@[simp] theorem Dev.takeTotal_rst (d : Dev) (n : Nat) : (Dev.takeTotal d n).rst = d.rst := Aside.rst.takeTotal d n

@[simp] theorem Dev.notice_ticks (d : Dev) (c h o e : Nat) : (Dev.notice d c h o e).ticks = d.ticks := Aside.ticks.notice d c h o e
@[simp] theorem Dev.notice_free (d : Dev) (c h o e : Nat) : (Dev.notice d c h o e).free = d.free := Aside.free.notice d c h o e
@[simp] theorem Dev.notice_time (d : Dev) (c h o e : Nat) : (Dev.notice d c h o e).time = d.time := Aside.time.notice d c h o e
@[simp] theorem Dev.notice_pipes (d : Dev) (c h o e : Nat) : (Dev.notice d c h o e).pipes = d.pipes := Aside.pipes.notice d c h o e
@[simp] theorem Dev.notice_tbl (d : Dev) (c h o e : Nat) : (Dev.notice d c h o e).tbl = d.tbl := Aside.tbl.notice d c h o e
@[simp] theorem Dev.notice_pkts (d : Dev) (c h o e : Nat) : (Dev.notice d c h o e).pkts = d.pkts := Aside.pkts.notice d c h o e
@[simp] theorem Dev.notice_nextPkt (d : Dev) (c h o e : Nat) : (Dev.notice d c h o e).nextPkt = d.nextPkt := Aside.nextPkt.notice d c h o e
@[simp] theorem Dev.notice_queues (d : Dev) (c h o e : Nat) : (Dev.notice d c h o e).queues = d.queues := Aside.queues.notice d c h o e
@[simp] theorem Dev.notice_ports (d : Dev) (c h o e : Nat) : (Dev.notice d c h o e).ports = d.ports := Aside.ports.notice d c h o e
@[simp] theorem Dev.notice_buf (d : Dev) (c h o e : Nat) : (Dev.notice d c h o e).buf = d.buf := Aside.buf.notice d c h o e
@[simp] theorem Dev.notice_gran (d : Dev) (c h o e : Nat) : (Dev.notice d c h o e).gran = d.gran := Aside.gran.notice d c h o e
@[simp] theorem Dev.notice_sched (d : Dev) (c h o e : Nat) : (Dev.notice d c h o e).sched = d.sched := Aside.sched.notice d c h o e
@[simp] theorem Dev.notice_lanes (d : Dev) (c h o e : Nat) : (Dev.notice d c h o e).lanes = d.lanes := Aside.lanes.notice d c h o e
@[simp] theorem Dev.notice_dma (d : Dev) (c h o e : Nat) : (Dev.notice d c h o e).dma = d.dma := Aside.dma.notice d c h o e
@[simp] theorem Dev.notice_prog (d : Dev) (c h o e : Nat) : (Dev.notice d c h o e).prog = d.prog := Aside.prog.notice d c h o e
@[simp] theorem Dev.notice_mgmt (d : Dev) (c h o e : Nat) : (Dev.notice d c h o e).mgmt = d.mgmt := Aside.mgmt.notice d c h o e
@[simp] theorem Dev.notice_fw (d : Dev) (c h o e : Nat) : (Dev.notice d c h o e).fw = d.fw := Aside.fw.notice d c h o e
@[simp] theorem Dev.notice_pwr (d : Dev) (c h o e : Nat) : (Dev.notice d c h o e).pwr = d.pwr := Aside.pwr.notice d c h o e
@[simp] theorem Dev.notice_rst (d : Dev) (c h o e : Nat) : (Dev.notice d c h o e).rst = d.rst := Aside.rst.notice d c h o e

@[simp] theorem Dev.contained_ticks (d : Dev) (c h o e u : Nat) : (Dev.contained d c h o e u).ticks = d.ticks := Aside.ticks.contained d c h o e u
@[simp] theorem Dev.contained_free (d : Dev) (c h o e u : Nat) : (Dev.contained d c h o e u).free = d.free := Aside.free.contained d c h o e u
@[simp] theorem Dev.contained_time (d : Dev) (c h o e u : Nat) : (Dev.contained d c h o e u).time = d.time := Aside.time.contained d c h o e u
@[simp] theorem Dev.contained_pipes (d : Dev) (c h o e u : Nat) : (Dev.contained d c h o e u).pipes = d.pipes := Aside.pipes.contained d c h o e u
@[simp] theorem Dev.contained_tbl (d : Dev) (c h o e u : Nat) : (Dev.contained d c h o e u).tbl = d.tbl := Aside.tbl.contained d c h o e u
@[simp] theorem Dev.contained_pkts (d : Dev) (c h o e u : Nat) : (Dev.contained d c h o e u).pkts = d.pkts := Aside.pkts.contained d c h o e u
@[simp] theorem Dev.contained_nextPkt (d : Dev) (c h o e u : Nat) : (Dev.contained d c h o e u).nextPkt = d.nextPkt := Aside.nextPkt.contained d c h o e u
@[simp] theorem Dev.contained_queues (d : Dev) (c h o e u : Nat) : (Dev.contained d c h o e u).queues = d.queues := Aside.queues.contained d c h o e u
@[simp] theorem Dev.contained_ports (d : Dev) (c h o e u : Nat) : (Dev.contained d c h o e u).ports = d.ports := Aside.ports.contained d c h o e u
@[simp] theorem Dev.contained_buf (d : Dev) (c h o e u : Nat) : (Dev.contained d c h o e u).buf = d.buf := Aside.buf.contained d c h o e u
@[simp] theorem Dev.contained_gran (d : Dev) (c h o e u : Nat) : (Dev.contained d c h o e u).gran = d.gran := Aside.gran.contained d c h o e u
@[simp] theorem Dev.contained_sched (d : Dev) (c h o e u : Nat) : (Dev.contained d c h o e u).sched = d.sched := Aside.sched.contained d c h o e u
@[simp] theorem Dev.contained_lanes (d : Dev) (c h o e u : Nat) : (Dev.contained d c h o e u).lanes = d.lanes := Aside.lanes.contained d c h o e u
@[simp] theorem Dev.contained_dma (d : Dev) (c h o e u : Nat) : (Dev.contained d c h o e u).dma = d.dma := Aside.dma.contained d c h o e u
@[simp] theorem Dev.contained_prog (d : Dev) (c h o e u : Nat) : (Dev.contained d c h o e u).prog = d.prog := Aside.prog.contained d c h o e u
@[simp] theorem Dev.contained_mgmt (d : Dev) (c h o e u : Nat) : (Dev.contained d c h o e u).mgmt = d.mgmt := Aside.mgmt.contained d c h o e u
@[simp] theorem Dev.contained_fw (d : Dev) (c h o e u : Nat) : (Dev.contained d c h o e u).fw = d.fw := Aside.fw.contained d c h o e u
@[simp] theorem Dev.contained_pwr (d : Dev) (c h o e u : Nat) : (Dev.contained d c h o e u).pwr = d.pwr := Aside.pwr.contained d c h o e u
@[simp] theorem Dev.contained_rst (d : Dev) (c h o e u : Nat) : (Dev.contained d c h o e u).rst = d.rst := Aside.rst.contained d c h o e u

@[simp] theorem Dev.containedF_ticks (d : Dev) (c o e u : Nat) : (Dev.containedF d c o e u).ticks = d.ticks := Aside.ticks.containedF d c o e u
@[simp] theorem Dev.containedF_free (d : Dev) (c o e u : Nat) : (Dev.containedF d c o e u).free = d.free := Aside.free.containedF d c o e u
@[simp] theorem Dev.containedF_time (d : Dev) (c o e u : Nat) : (Dev.containedF d c o e u).time = d.time := Aside.time.containedF d c o e u
@[simp] theorem Dev.containedF_pipes (d : Dev) (c o e u : Nat) : (Dev.containedF d c o e u).pipes = d.pipes := Aside.pipes.containedF d c o e u
@[simp] theorem Dev.containedF_tbl (d : Dev) (c o e u : Nat) : (Dev.containedF d c o e u).tbl = d.tbl := Aside.tbl.containedF d c o e u
@[simp] theorem Dev.containedF_pkts (d : Dev) (c o e u : Nat) : (Dev.containedF d c o e u).pkts = d.pkts := Aside.pkts.containedF d c o e u
@[simp] theorem Dev.containedF_nextPkt (d : Dev) (c o e u : Nat) : (Dev.containedF d c o e u).nextPkt = d.nextPkt := Aside.nextPkt.containedF d c o e u
@[simp] theorem Dev.containedF_queues (d : Dev) (c o e u : Nat) : (Dev.containedF d c o e u).queues = d.queues := Aside.queues.containedF d c o e u
@[simp] theorem Dev.containedF_ports (d : Dev) (c o e u : Nat) : (Dev.containedF d c o e u).ports = d.ports := Aside.ports.containedF d c o e u
@[simp] theorem Dev.containedF_buf (d : Dev) (c o e u : Nat) : (Dev.containedF d c o e u).buf = d.buf := Aside.buf.containedF d c o e u
@[simp] theorem Dev.containedF_gran (d : Dev) (c o e u : Nat) : (Dev.containedF d c o e u).gran = d.gran := Aside.gran.containedF d c o e u
@[simp] theorem Dev.containedF_sched (d : Dev) (c o e u : Nat) : (Dev.containedF d c o e u).sched = d.sched := Aside.sched.containedF d c o e u
@[simp] theorem Dev.containedF_lanes (d : Dev) (c o e u : Nat) : (Dev.containedF d c o e u).lanes = d.lanes := Aside.lanes.containedF d c o e u
@[simp] theorem Dev.containedF_dma (d : Dev) (c o e u : Nat) : (Dev.containedF d c o e u).dma = d.dma := Aside.dma.containedF d c o e u
@[simp] theorem Dev.containedF_prog (d : Dev) (c o e u : Nat) : (Dev.containedF d c o e u).prog = d.prog := Aside.prog.containedF d c o e u
@[simp] theorem Dev.containedF_mgmt (d : Dev) (c o e u : Nat) : (Dev.containedF d c o e u).mgmt = d.mgmt := Aside.mgmt.containedF d c o e u
@[simp] theorem Dev.containedF_fw (d : Dev) (c o e u : Nat) : (Dev.containedF d c o e u).fw = d.fw := Aside.fw.containedF d c o e u
@[simp] theorem Dev.containedF_pwr (d : Dev) (c o e u : Nat) : (Dev.containedF d c o e u).pwr = d.pwr := Aside.pwr.containedF d c o e u
@[simp] theorem Dev.containedF_rst (d : Dev) (c o e u : Nat) : (Dev.containedF d c o e u).rst = d.rst := Aside.rst.containedF d c o e u

@[simp] theorem Dev.corrected_ticks (d : Dev) (o e n : Nat) : (Dev.corrected d o e n).ticks = d.ticks := Aside.ticks.corrected d o e n
@[simp] theorem Dev.corrected_free (d : Dev) (o e n : Nat) : (Dev.corrected d o e n).free = d.free := Aside.free.corrected d o e n
@[simp] theorem Dev.corrected_time (d : Dev) (o e n : Nat) : (Dev.corrected d o e n).time = d.time := Aside.time.corrected d o e n
@[simp] theorem Dev.corrected_pipes (d : Dev) (o e n : Nat) : (Dev.corrected d o e n).pipes = d.pipes := Aside.pipes.corrected d o e n
@[simp] theorem Dev.corrected_tbl (d : Dev) (o e n : Nat) : (Dev.corrected d o e n).tbl = d.tbl := Aside.tbl.corrected d o e n
@[simp] theorem Dev.corrected_pkts (d : Dev) (o e n : Nat) : (Dev.corrected d o e n).pkts = d.pkts := Aside.pkts.corrected d o e n
@[simp] theorem Dev.corrected_nextPkt (d : Dev) (o e n : Nat) : (Dev.corrected d o e n).nextPkt = d.nextPkt := Aside.nextPkt.corrected d o e n
@[simp] theorem Dev.corrected_queues (d : Dev) (o e n : Nat) : (Dev.corrected d o e n).queues = d.queues := Aside.queues.corrected d o e n
@[simp] theorem Dev.corrected_ports (d : Dev) (o e n : Nat) : (Dev.corrected d o e n).ports = d.ports := Aside.ports.corrected d o e n
@[simp] theorem Dev.corrected_buf (d : Dev) (o e n : Nat) : (Dev.corrected d o e n).buf = d.buf := Aside.buf.corrected d o e n
@[simp] theorem Dev.corrected_gran (d : Dev) (o e n : Nat) : (Dev.corrected d o e n).gran = d.gran := Aside.gran.corrected d o e n
@[simp] theorem Dev.corrected_sched (d : Dev) (o e n : Nat) : (Dev.corrected d o e n).sched = d.sched := Aside.sched.corrected d o e n
@[simp] theorem Dev.corrected_lanes (d : Dev) (o e n : Nat) : (Dev.corrected d o e n).lanes = d.lanes := Aside.lanes.corrected d o e n
@[simp] theorem Dev.corrected_dma (d : Dev) (o e n : Nat) : (Dev.corrected d o e n).dma = d.dma := Aside.dma.corrected d o e n
@[simp] theorem Dev.corrected_prog (d : Dev) (o e n : Nat) : (Dev.corrected d o e n).prog = d.prog := Aside.prog.corrected d o e n
@[simp] theorem Dev.corrected_mgmt (d : Dev) (o e n : Nat) : (Dev.corrected d o e n).mgmt = d.mgmt := Aside.mgmt.corrected d o e n
@[simp] theorem Dev.corrected_fw (d : Dev) (o e n : Nat) : (Dev.corrected d o e n).fw = d.fw := Aside.fw.corrected d o e n
@[simp] theorem Dev.corrected_pwr (d : Dev) (o e n : Nat) : (Dev.corrected d o e n).pwr = d.pwr := Aside.pwr.corrected d o e n
@[simp] theorem Dev.corrected_rst (d : Dev) (o e n : Nat) : (Dev.corrected d o e n).rst = d.rst := Aside.rst.corrected d o e n

end Sys2Proof.Machine
end

