-- ==== Sys2Proof/Laws/Ops.lean ====
section
/-! SUPPORT. Reading back what an operation wrote, and what the lifts of a meaning answer. -/
namespace Sys2Proof.Machine

@[simp] theorem pipe_setPipe_same (d : Dev) (n : Nat) (x : Pipe) : Dev.pipe (Dev.setPipe d n x) n = x := by
  simp [Dev.pipe, Dev.setPipe]
theorem pipe_setPipe_ne (d : Dev) (n j : Nat) (x : Pipe) (h : j ≠ n) : Dev.pipe (Dev.setPipe d n x) j = Dev.pipe d j := by
  simp only [Dev.pipe, Dev.setPipe]
  exact SMap.get_set_ne _ _ _ _ _ _ h

@[simp] theorem queue_setQueue_same (d : Dev) (n : Nat) (x : EQueue) : Dev.queue (Dev.setQueue d n x) n = x := by
  simp [Dev.queue, Dev.setQueue]
theorem queue_setQueue_ne (d : Dev) (n j : Nat) (x : EQueue) (h : j ≠ n) : Dev.queue (Dev.setQueue d n x) j = Dev.queue d j := by
  simp only [Dev.queue, Dev.setQueue]
  exact SMap.get_set_ne _ _ _ _ _ _ h

@[simp] theorem port_setPort_same (d : Dev) (p : Nat) (x : OutPort) : Dev.port (Dev.setPort d p x) p = x := by
  simp [Dev.port, Dev.setPort]
theorem port_setPort_ne (d : Dev) (p j : Nat) (x : OutPort) (h : j ≠ p) : Dev.port (Dev.setPort d p x) j = Dev.port d j := by
  simp only [Dev.port, Dev.setPort]
  exact SMap.get_set_ne _ _ _ _ _ _ h

@[simp] theorem linkS_setLink_same (d : Dev) (p : Nat) (x : LinkS) : Dev.linkS (Dev.setLink d p x) p = x := by
  simp [Dev.linkS, Dev.setLink]
theorem linkS_setLink_ne (d : Dev) (p j : Nat) (x : LinkS) (h : j ≠ p) : Dev.linkS (Dev.setLink d p x) j = Dev.linkS d j := by
  simp only [Dev.linkS, Dev.setLink]
  exact SMap.get_set_ne _ _ _ _ _ _ h

@[simp] theorem policer_setPolicer_same (d : Dev) (i : Nat) (x : Policer) : Dev.policer (Dev.setPolicer d i x) i = x := by
  simp [Dev.policer, Dev.setPolicer]
theorem policer_setPolicer_ne (d : Dev) (i j : Nat) (x : Policer) (h : j ≠ i) : Dev.policer (Dev.setPolicer d i x) j = Dev.policer d j := by
  simp only [Dev.policer, Dev.setPolicer]
  exact SMap.get_set_ne _ _ _ _ _ _ h

@[simp] theorem txts_setTxts_same (d : Dev) (n : Nat) (x : TxtsQueue) : Dev.txts (Dev.setTxts d n x) n = x := by
  simp [Dev.txts, Dev.setTxts]
theorem txts_setTxts_ne (d : Dev) (n j : Nat) (x : TxtsQueue) (h : j ≠ n) : Dev.txts (Dev.setTxts d n x) j = Dev.txts d j := by
  simp only [Dev.txts, Dev.setTxts]
  exact SMap.get_set_ne _ _ _ _ _ _ h

@[simp] theorem stream_setStream_same (d : Dev) (i : Nat) (x : StreamS) : Dev.stream (Dev.setStream d i x) i = x := by
  simp [Dev.stream, Dev.setStream]
theorem stream_setStream_ne (d : Dev) (i j : Nat) (x : StreamS) (h : j ≠ i) : Dev.stream (Dev.setStream d i x) j = Dev.stream d j := by
  simp only [Dev.stream, Dev.setStream]
  exact SMap.get_set_ne _ _ _ _ _ _ h

@[simp] theorem dq_setDq_same (d : Dev) (q : Nat) (x : Dq) : Dev.dq (Dev.setDq d q x) q = x := by
  simp [Dev.dq, Dev.setDq]
theorem dq_setDq_ne (d : Dev) (q j : Nat) (x : Dq) (h : j ≠ q) : Dev.dq (Dev.setDq d q x) j = Dev.dq d j := by
  simp only [Dev.dq, Dev.setDq]
  exact SMap.get_set_ne _ _ _ _ _ _ h

theorem find_setPkt_same (d : Dev) (i : Nat) (x : Pkt) : SMap.find (Dev.setPkt d i x).pkts i = some x :=
  SMap.find_ins_same d.pkts i x
theorem find_setPkt_ne (d : Dev) (i j : Nat) (x : Pkt) (h : j ≠ i) :
    SMap.find (Dev.setPkt d i x).pkts j = SMap.find d.pkts j := SMap.find_ins_ne d.pkts i j x h
@[simp] theorem pkt_setPkt_same (d : Dev) (i : Nat) (x : Pkt) : Dev.pkt (Dev.setPkt d i x) i = x :=
  SMap.get_ins_same d.pkts i x _
theorem pkt_setPkt_ne (d : Dev) (i j : Nat) (x : Pkt) (h : j ≠ i) : Dev.pkt (Dev.setPkt d i x) j = Dev.pkt d j :=
  SMap.get_ins_ne d.pkts i j x _ h

theorem hp_setHp_same (d : Dev) (p : Nat) (h : HostPort) : Dev.hp (Dev.setHp d p h) p = h := by
  unfold Dev.hp Dev.setHp
  split <;> rfl

/-! The lifts of a meaning. -/

theorem lift_lit {s : State} (f : Dev → Dev) (h : s.lit) : lift f s = .next { s with dev := f s.dev } := by
  unfold lift
  rw [State.lit] at h
  simp [h]

theorem liftE_lit {s : State} (f : Nat → Dev → Dev) (h : s.lit) :
    liftE f s = .next { s with dev := f s.epoch s.dev } := by
  unfold liftE
  rw [State.lit] at h
  simp [h]

theorem lift_dark {s : State} (f : Dev → Dev) (h : Dev.dark s.dev = true) : lift f s = .next s := by
  unfold lift
  simp [h]

theorem liftE_dark {s : State} (f : Nat → Dev → Dev) (h : Dev.dark s.dev = true) : liftE f s = .next s := by
  unfold liftE
  simp [h]

/-- A lift always goes on, and leaves the queue and the epoch counter alone. -/
theorem lift_next (f : Dev → Dev) (s : State) :
    ∃ t, lift f s = .next t ∧ t.pending = s.pending ∧ t.epoch = s.epoch := by
  unfold lift
  refine ⟨_, rfl, ?_⟩
  split <;> exact ⟨rfl, rfl⟩

theorem liftE_next (f : Nat → Dev → Dev) (s : State) :
    ∃ t, liftE f s = .next t ∧ t.pending = s.pending ∧ t.epoch = s.epoch := by
  unfold liftE
  refine ⟨_, rfl, ?_⟩
  split <;> exact ⟨rfl, rfl⟩

theorem lift0_next (f : Dev → Dev) (s : State) :
    ∃ t, lift0 f s = .next t ∧ t.pending = s.pending ∧ t.epoch = s.epoch := ⟨_, rfl, rfl, rfl⟩

theorem liftW_lit {s : State} (f : Nat → Dev → Dev) (h : s.lit) :
    liftW f s = .next (State.settle { s with dev := f s.epoch (Dev.fresh s.dev) }) := by
  unfold liftW
  rw [State.lit] at h
  simp [h]

theorem liftW_dark {s : State} (f : Nat → Dev → Dev) (h : Dev.dark s.dev = true) : liftW f s = .next s := by
  unfold liftW
  simp [h]

theorem liftB_free {s : State} (f : Dev → Dev) (h : Dev.held s.dev = false) : liftB f s = .next { s with dev := f s.dev } := by
  unfold liftB
  simp [h]

theorem liftB_held {s : State} (f : Dev → Dev) (h : Dev.held s.dev = true) : liftB f s = .next s := by
  unfold liftB
  simp [h]

/-- A part that is held is dark; one that is lit is not held and its domain D1 is on. -/
theorem dark_of_held {d : Dev} (h : Dev.held d = true) : Dev.dark d = true := by
  unfold Dev.dark
  simp [h]

theorem lit_iff (s : State) : s.lit ↔ Dev.held s.dev = false ∧ Dev.domain s.dev 1 = 1 := by
  unfold State.lit Dev.dark
  simp

/-- A port's side of a tile acts while the tile is on, and does nothing while it is not. -/
theorem liftTile_on {s : State} (p : Nat) (f : Dev → Dev) (h : s.lit) (k : Dev.domain s.dev (6 + p / 64) = 1) :
    liftTile p f s = .next { s with dev := f s.dev } := by
  unfold liftTile
  rw [lift_lit _ h]
  simp [k]

theorem liftTile_off {s : State} (p : Nat) (f : Dev → Dev) (k : Dev.domain s.dev (6 + p / 64) ≠ 1) : liftTile p f s = .next s := by
  unfold liftTile lift
  simp [k]

/-- Where nothing may be chosen, the selection with the head check answers what the plain one does (R189). -/
theorem selectHead_none {p k : Nat} {d : Dev} (h : (Dev.select d p).2 = none) : Dev.selectHead p (k + 1) d = Dev.select d p := by
  simp [Dev.selectHead, h]

end Sys2Proof.Machine
end

