-- ==== Sys2Proof/Laws/PerInstr.lean ====
section
/-! SUPPORT. Per instruction: no field of the sheaf that a well-formed command names reaches past the sheaf's end. -/
namespace Sys2Proof.Laws.SheafFields

/-- Every field lies in the sheaf. -/
def Statement (i : Instr) : Prop := Instr.wf i = true → ∀ x ∈ Instr.sheafFields i, x.1 + x.2 ≤ 4096

theorem of_wf (i : Instr) : Statement i := by
  intro h x hx
  have h1 := (Bool.and_eq_true_iff.mp h).1
  simpa using List.all_eq_true.mp h1 x hx

theorem frameReceive : ∀ x0 x1 x2 x3 x4 x5, Statement (.frameReceive x0 x1 x2 x3 x4 x5) := fun _ _ _ _ _ _ => of_wf _
theorem frameTailArrive : ∀ x0 x1 x2 x3 x4, Statement (.frameTailArrive x0 x1 x2 x3 x4) := fun _ _ _ _ _ => of_wf _
theorem arbiterAccept : ∀ x0 x1, Statement (.arbiterAccept x0 x1) := fun _ _ => of_wf _
theorem thresherStart : ∀ x0, Statement (.thresherStart x0) := fun _ => of_wf _
theorem costGatePass : ∀ x0 x1 x2 x3, Statement (.costGatePass x0 x1 x2 x3) := fun _ _ _ _ => of_wf _
theorem opNop : ∀ x0, Statement (.opNop x0) := fun _ => of_wf _
theorem opEnd : ∀ x0, Statement (.opEnd x0) := fun _ => of_wf _
theorem opMov : ∀ x0 x1 x2 x3, Statement (.opMov x0 x1 x2 x3) := fun _ _ _ _ => of_wf _
theorem opAdd : ∀ x0 x1 x2 x3 x4, Statement (.opAdd x0 x1 x2 x3 x4) := fun _ _ _ _ _ => of_wf _
theorem opSub : ∀ x0 x1 x2 x3 x4, Statement (.opSub x0 x1 x2 x3 x4) := fun _ _ _ _ _ => of_wf _
theorem opSubs : ∀ x0 x1 x2 x3 x4, Statement (.opSubs x0 x1 x2 x3 x4) := fun _ _ _ _ _ => of_wf _
theorem opAnd : ∀ x0 x1 x2 x3 x4, Statement (.opAnd x0 x1 x2 x3 x4) := fun _ _ _ _ _ => of_wf _
theorem opOr : ∀ x0 x1 x2 x3 x4, Statement (.opOr x0 x1 x2 x3 x4) := fun _ _ _ _ _ => of_wf _
theorem opXor : ∀ x0 x1 x2 x3 x4, Statement (.opXor x0 x1 x2 x3 x4) := fun _ _ _ _ _ => of_wf _
theorem opShl : ∀ x0 x1 x2 x3 x4, Statement (.opShl x0 x1 x2 x3 x4) := fun _ _ _ _ _ => of_wf _
theorem opShr : ∀ x0 x1 x2 x3 x4, Statement (.opShr x0 x1 x2 x3 x4) := fun _ _ _ _ _ => of_wf _
theorem opMin : ∀ x0 x1 x2 x3 x4, Statement (.opMin x0 x1 x2 x3 x4) := fun _ _ _ _ _ => of_wf _
theorem opMax : ∀ x0 x1 x2 x3 x4, Statement (.opMax x0 x1 x2 x3 x4) := fun _ _ _ _ _ => of_wf _
theorem opSkeq : ∀ x0 x1 x2 x3 x4, Statement (.opSkeq x0 x1 x2 x3 x4) := fun _ _ _ _ _ => of_wf _
theorem opSkne : ∀ x0 x1 x2 x3 x4, Statement (.opSkne x0 x1 x2 x3 x4) := fun _ _ _ _ _ => of_wf _
theorem opSklt : ∀ x0 x1 x2 x3 x4, Statement (.opSklt x0 x1 x2 x3 x4) := fun _ _ _ _ _ => of_wf _
theorem opSkge : ∀ x0 x1 x2 x3 x4, Statement (.opSkge x0 x1 x2 x3 x4) := fun _ _ _ _ _ => of_wf _
theorem opMset : ∀ x0 x1 x2 x3, Statement (.opMset x0 x1 x2 x3) := fun _ _ _ _ => of_wf _
theorem opMget : ∀ x0 x1 x2 x3, Statement (.opMget x0 x1 x2 x3) := fun _ _ _ _ => of_wf _
theorem opLkem : ∀ x0 x1 x2 x3 x4 x5, Statement (.opLkem x0 x1 x2 x3 x4 x5) := fun _ _ _ _ _ _ => of_wf _
theorem opLklpm4 : ∀ x0 x1 x2 x3, Statement (.opLklpm4 x0 x1 x2 x3) := fun _ _ _ _ => of_wf _
theorem opLklpm6 : ∀ x0 x1 x2 x3, Statement (.opLklpm6 x0 x1 x2 x3) := fun _ _ _ _ => of_wf _
theorem opLknh : ∀ x0 x1 x2 x3, Statement (.opLknh x0 x1 x2 x3) := fun _ _ _ _ => of_wf _
theorem opLkgrp : ∀ x0 x1 x2 x3 x4, Statement (.opLkgrp x0 x1 x2 x3 x4) := fun _ _ _ _ _ => of_wf _
theorem opHash : ∀ x0 x1 x2, Statement (.opHash x0 x1 x2) := fun _ _ _ => of_wf _
theorem opWin : ∀ x0 x1 x2 x3, Statement (.opWin x0 x1 x2 x3) := fun _ _ _ _ => of_wf _
theorem opTcam : ∀ x0 x1 x2 x3 x4, Statement (.opTcam x0 x1 x2 x3 x4) := fun _ _ _ _ _ => of_wf _
theorem opLkix : ∀ x0 x1 x2 x3 x4 x5, Statement (.opLkix x0 x1 x2 x3 x4 x5) := fun _ _ _ _ _ _ => of_wf _
theorem packetAdmit : ∀ x0, Statement (.packetAdmit x0) := fun _ => of_wf _
theorem pfcFrameSend : ∀ x0, Statement (.pfcFrameSend x0) := fun _ => of_wf _
theorem pfcRefreshTimer : ∀ x0 x1, Statement (.pfcRefreshTimer x0 x1) := fun _ _ => of_wf _
theorem pfcFrameReceive : ∀ x0 x1, Statement (.pfcFrameReceive x0 x1) := fun _ _ => of_wf _
theorem pauseTimerExpire : ∀ x0 x1, Statement (.pauseTimerExpire x0 x1) := fun _ _ => of_wf _
theorem schedSelect : ∀ x0 x1 x2 x3, Statement (.schedSelect x0 x1 x2 x3) := fun _ _ _ _ => of_wf _
theorem frameTransmit : ∀ x0 x1 x2, Statement (.frameTransmit x0 x1 x2) := fun _ _ _ => of_wf _
theorem launchRelease : ∀ x0 x1, Statement (.launchRelease x0 x1) := fun _ _ => of_wf _
theorem frameTxEnd : ∀ x0 x1, Statement (.frameTxEnd x0 x1) := fun _ _ => of_wf _
theorem ageCheckTimer : Statement .ageCheckTimer := of_wf _
theorem downHoldExpire : ∀ x0, Statement (.downHoldExpire x0) := fun _ => of_wf _
theorem flushDone : ∀ x0, Statement (.flushDone x0) := fun _ => of_wf _
theorem auditPeriod : Statement .auditPeriod := of_wf _
theorem auditRequest : ∀ x0 x1, Statement (.auditRequest x0 x1) := fun _ _ => of_wf _
theorem auditDone : Statement .auditDone := of_wf _
theorem mcSet : ∀ x0 x1 x2 x3, Statement (.mcSet x0 x1 x2 x3) := fun _ _ _ _ => of_wf _
theorem mcRead : ∀ x0 x1 x2, Statement (.mcRead x0 x1 x2) := fun _ _ _ => of_wf _
theorem mcClear : ∀ x0 x1 x2, Statement (.mcClear x0 x1 x2) := fun _ _ _ => of_wf _
theorem portAdminUp : ∀ x0 x1, Statement (.portAdminUp x0 x1) := fun _ _ => of_wf _
theorem portAdminDown : ∀ x0 x1, Statement (.portAdminDown x0 x1) := fun _ _ => of_wf _
theorem signalDetect : ∀ x0, Statement (.signalDetect x0) := fun _ => of_wf _
theorem anComplete : ∀ x0 x1, Statement (.anComplete x0 x1) := fun _ _ => of_wf _
theorem anTimeout : ∀ x0, Statement (.anTimeout x0) := fun _ => of_wf _
theorem ltComplete : ∀ x0 x1, Statement (.ltComplete x0 x1) := fun _ _ => of_wf _
theorem trainingTimeout : ∀ x0, Statement (.trainingTimeout x0) := fun _ => of_wf _
theorem c2mAdaptDone : ∀ x0 x1, Statement (.c2mAdaptDone x0 x1) := fun _ _ => of_wf _
theorem alignmentLock : ∀ x0, Statement (.alignmentLock x0) := fun _ => of_wf _
theorem alignmentTimeout : ∀ x0, Statement (.alignmentTimeout x0) := fun _ => of_wf _
theorem portDebounceUp : ∀ x0, Statement (.portDebounceUp x0) := fun _ => of_wf _
theorem portRetryTimer : ∀ x0, Statement (.portRetryTimer x0) := fun _ => of_wf _
theorem linkFaultDetect : ∀ x0 x1, Statement (.linkFaultDetect x0 x1) := fun _ _ => of_wf _
theorem linkFaultClear : ∀ x0 x1, Statement (.linkFaultClear x0 x1) := fun _ _ => of_wf _
theorem portDownDebounce : ∀ x0, Statement (.portDownDebounce x0) := fun _ => of_wf _
theorem fecDegradeCheck : ∀ x0 x1 x2 x3, Statement (.fecDegradeCheck x0 x1 x2 x3) := fun _ _ _ _ => of_wf _
theorem tileReachWrite : ∀ x0 x1 x2, Statement (.tileReachWrite x0 x1 x2) := fun _ _ _ => of_wf _
theorem laneAdaptRestart : ∀ x0 x1, Statement (.laneAdaptRestart x0 x1) := fun _ _ => of_wf _
theorem laneAdaptDone : ∀ x0 x1, Statement (.laneAdaptDone x0 x1) := fun _ _ => of_wf _
theorem tileSeedSave : ∀ x0 x1, Statement (.tileSeedSave x0 x1) := fun _ _ => of_wf _
theorem rouriWireFail : ∀ x0 x1 x2, Statement (.rouriWireFail x0 x1 x2) := fun _ _ _ => of_wf _
theorem rouriRepairDone : ∀ x0 x1, Statement (.rouriRepairDone x0 x1) := fun _ _ => of_wf _
theorem tileMcuHeartbeatMiss : ∀ x0 x1, Statement (.tileMcuHeartbeatMiss x0 x1) := fun _ _ => of_wf _
theorem tileMcuReload : ∀ x0, Statement (.tileMcuReload x0) := fun _ => of_wf _
theorem tileMcuReloadDone : ∀ x0 x1, Statement (.tileMcuReloadDone x0 x1) := fun _ _ => of_wf _
theorem tblInsert : ∀ x0 x1 x2 x3, Statement (.tblInsert x0 x1 x2 x3) := fun _ _ _ _ => of_wf _
theorem tblModify : ∀ x0 x1 x2 x3, Statement (.tblModify x0 x1 x2 x3) := fun _ _ _ _ => of_wf _
theorem tblDelete : ∀ x0 x1 x2 x3, Statement (.tblDelete x0 x1 x2 x3) := fun _ _ _ _ => of_wf _
theorem tblRead : ∀ x0 x1 x2, Statement (.tblRead x0 x1 x2) := fun _ _ _ => of_wf _
theorem groupCreate : ∀ x0 x1 x2 x3, Statement (.groupCreate x0 x1 x2 x3) := fun _ _ _ _ => of_wf _
theorem groupDelete : ∀ x0 x1 x2 x3, Statement (.groupDelete x0 x1 x2 x3) := fun _ _ _ _ => of_wf _
theorem memberAdd : ∀ x0 x1 x2 x3, Statement (.memberAdd x0 x1 x2 x3) := fun _ _ _ _ => of_wf _
theorem memberRemove : ∀ x0 x1 x2 x3, Statement (.memberRemove x0 x1 x2 x3) := fun _ _ _ _ => of_wf _
theorem slotWrite : ∀ x0 x1 x2 x3, Statement (.slotWrite x0 x1 x2 x3) := fun _ _ _ _ => of_wf _
theorem visibilitySettlement : Statement .visibilitySettlement := of_wf _
theorem settlementDone : Statement .settlementDone := of_wf _
theorem barnPeerRepair : ∀ x0, Statement (.barnPeerRepair x0) := fun _ => of_wf _
theorem barnScrubPass : ∀ x0 x1 x2 x3, Statement (.barnScrubPass x0 x1 x2 x3) := fun _ _ _ _ => of_wf _
theorem progStageChunk : ∀ x0 x1, Statement (.progStageChunk x0 x1) := fun _ _ => of_wf _
theorem progLoad : ∀ x0 x1, Statement (.progLoad x0 x1) := fun _ _ => of_wf _
theorem progLoadWrite : Statement .progLoadWrite := of_wf _
theorem progLoadDone : ∀ x0, Statement (.progLoadDone x0) := fun _ => of_wf _
theorem progLoadDiscard : ∀ x0, Statement (.progLoadDiscard x0) := fun _ => of_wf _
theorem epochFlip : ∀ x0 x1, Statement (.epochFlip x0 x1) := fun _ _ => of_wf _
theorem flipAckWait : Statement .flipAckWait := of_wf _
theorem flipAckTimeout : ∀ x0, Statement (.flipAckTimeout x0) := fun _ => of_wf _
theorem flipCommit : Statement .flipCommit := of_wf _
theorem ingressDrainEnd : ∀ x0, Statement (.ingressDrainEnd x0) := fun _ => of_wf _
theorem bankRelease : ∀ x0, Statement (.bankRelease x0) := fun _ => of_wf _
theorem epochReleaseLimit : Statement .epochReleaseLimit := of_wf _
theorem bankCopy : ∀ x0, Statement (.bankCopy x0) := fun _ => of_wf _
theorem bankCopyDone : ∀ x0, Statement (.bankCopyDone x0) := fun _ => of_wf _
theorem stageAbort : ∀ x0, Statement (.stageAbort x0) := fun _ => of_wf _
theorem stageAbortDone : Statement .stageAbortDone := of_wf _
theorem stageReset : ∀ x0, Statement (.stageReset x0) := fun _ => of_wf _
theorem baleCloseTimer : ∀ x0, Statement (.baleCloseTimer x0) := fun _ => of_wf _
theorem baleWriteDone : ∀ x0, Statement (.baleWriteDone x0) := fun _ => of_wf _
theorem baleReturnRead : Statement .baleReturnRead := of_wf _
theorem baleReturnDone : ∀ x0 x1 x2, Statement (.baleReturnDone x0 x1 x2) := fun _ _ _ => of_wf _
theorem granaryScrubPass : ∀ x0 x1, Statement (.granaryScrubPass x0 x1) := fun _ _ => of_wf _
theorem segmentFailDeclare : ∀ x0 x1, Statement (.segmentFailDeclare x0 x1) := fun _ _ => of_wf _
theorem segmentRemap : ∀ x0 x1, Statement (.segmentRemap x0 x1) := fun _ _ => of_wf _
theorem hpprDone : ∀ x0 x1 x2, Statement (.hpprDone x0 x1 x2) := fun _ _ _ => of_wf _
theorem stackTempAlarm : ∀ x0 x1, Statement (.stackTempAlarm x0 x1) := fun _ _ => of_wf _
theorem stackRetire : ∀ x0 x1, Statement (.stackRetire x0 x1) := fun _ _ => of_wf _
theorem retireDrainEnd : ∀ x0, Statement (.retireDrainEnd x0) := fun _ => of_wf _
theorem stackUnretire : ∀ x0 x1, Statement (.stackUnretire x0 x1) := fun _ _ => of_wf _
theorem driftCheck : ∀ x0 x1 x2, Statement (.driftCheck x0 x1 x2) := fun _ _ _ => of_wf _
theorem granaryTrainingDone : ∀ x0, Statement (.granaryTrainingDone x0) := fun _ => of_wf _
theorem telStoreMigrate : Statement .telStoreMigrate := of_wf _
theorem wheelRelease : ∀ x0, Statement (.wheelRelease x0) := fun _ => of_wf _
theorem wheelOverflowMove : ∀ x0, Statement (.wheelOverflowMove x0) := fun _ => of_wf _
theorem polSet : ∀ x0 x1 x2 x3, Statement (.polSet x0 x1 x2 x3) := fun _ _ _ _ => of_wf _
theorem polRead : ∀ x0 x1 x2, Statement (.polRead x0 x1 x2) := fun _ _ _ => of_wf _
theorem polClearCounters : ∀ x0 x1 x2, Statement (.polClearCounters x0 x1 x2) := fun _ _ _ => of_wf _
theorem tbStep : ∀ x0 x1 x2, Statement (.tbStep x0 x1 x2) := fun _ _ _ => of_wf _
theorem tbTimeSet : ∀ x0 x1 x2, Statement (.tbTimeSet x0 x1 x2) := fun _ _ _ => of_wf _
theorem tbRateSet : ∀ x0 x1 x2, Statement (.tbRateSet x0 x1 x2) := fun _ _ _ => of_wf _
theorem tbOffset : ∀ x0 x1 x2, Statement (.tbOffset x0 x1 x2) := fun _ _ _ => of_wf _
theorem tbMasterNew : ∀ x0 x1, Statement (.tbMasterNew x0 x1) := fun _ _ => of_wf _
theorem tbServoMode : ∀ x0 x1 x2, Statement (.tbServoMode x0 x1 x2) := fun _ _ _ => of_wf _
theorem tbHoldoverTimeout : ∀ x0, Statement (.tbHoldoverTimeout x0) := fun _ => of_wf _
theorem tbRateSave : ∀ x0, Statement (.tbRateSave x0) := fun _ => of_wf _
theorem captureEdge : ∀ x0 x1 x2, Statement (.captureEdge x0 x1 x2) := fun _ _ _ => of_wf _
theorem capPop : ∀ x0 x1, Statement (.capPop x0 x1) := fun _ _ => of_wf _
theorem pulseEdge : ∀ x0, Statement (.pulseEdge x0) := fun _ => of_wf _
theorem txtsPop : ∀ x0 x1 x2, Statement (.txtsPop x0 x1 x2) := fun _ _ _ => of_wf _
theorem tallyIdleSweep : Statement .tallyIdleSweep := of_wf _
theorem tallySnapshot : ∀ x0 x1, Statement (.tallySnapshot x0 x1) := fun _ _ => of_wf _
theorem tallySnapshotDone : Statement .tallySnapshotDone := of_wf _
theorem tallyClear : ∀ x0 x1, Statement (.tallyClear x0 x1) := fun _ _ => of_wf _
theorem histClear : ∀ x0 x1, Statement (.histClear x0 x1) := fun _ _ => of_wf _
theorem histClearPort : ∀ x0 x1, Statement (.histClearPort x0 x1) := fun _ _ => of_wf _
theorem wrapClear : ∀ x0, Statement (.wrapClear x0) := fun _ => of_wf _
theorem perfConfigWrite : ∀ x0 x1 x2 x3, Statement (.perfConfigWrite x0 x1 x2 x3) := fun _ _ _ _ => of_wf _
theorem gleanerSweep : Statement .gleanerSweep := of_wf _
theorem streamExport : ∀ x0, Statement (.streamExport x0) := fun _ => of_wf _
theorem hlHeartbeat : ∀ x0, Statement (.hlHeartbeat x0) := fun _ => of_wf _
theorem heartbeatTimeout : ∀ x0, Statement (.heartbeatTimeout x0) := fun _ => of_wf _
theorem evtCauseClear : ∀ x0 x1, Statement (.evtCauseClear x0 x1) := fun _ _ => of_wf _
theorem vecBind : ∀ x0 x1 x2 x3 x4, Statement (.vecBind x0 x1 x2 x3 x4) := fun _ _ _ _ _ => of_wf _
theorem vecUnbind : ∀ x0 x1 x2 x3, Statement (.vecUnbind x0 x1 x2 x3) := fun _ _ _ _ => of_wf _
theorem vecRead : ∀ x0 x1 x2 x3, Statement (.vecRead x0 x1 x2 x3) := fun _ _ _ _ => of_wf _
theorem bar0BadAccess : ∀ x0 x1, Statement (.bar0BadAccess x0 x1) := fun _ _ => of_wf _
theorem doorbell : ∀ x0 x1 x2 x3, Statement (.doorbell x0 x1 x2 x3) := fun _ _ _ _ => of_wf _
theorem atsInvalidate : ∀ x0 x1 x2 x3, Statement (.atsInvalidate x0 x1 x2 x3) := fun _ _ _ _ => of_wf _
theorem priResponse : ∀ x0 x1 x2, Statement (.priResponse x0 x1 x2) := fun _ _ _ => of_wf _
theorem pcieError : ∀ x0 x1, Statement (.pcieError x0 x1) := fun _ _ => of_wf _
theorem hostLoss : ∀ x0 x1, Statement (.hostLoss x0 x1) := fun _ _ => of_wf _
theorem hostPortReset : ∀ x0 x1, Statement (.hostPortReset x0 x1) := fun _ _ => of_wf _
theorem hostReturn : ∀ x0 x1, Statement (.hostReturn x0 x1) := fun _ _ => of_wf _
theorem dqEnableA : ∀ x0 x1, Statement (.dqEnableA x0 x1) := fun _ _ => of_wf _
theorem dqEnableB : ∀ x0 x1, Statement (.dqEnableB x0 x1) := fun _ _ => of_wf _
theorem dqDisable : ∀ x0 x1, Statement (.dqDisable x0 x1) := fun _ _ => of_wf _
theorem dqReset : ∀ x0 x1, Statement (.dqReset x0 x1) := fun _ _ => of_wf _
theorem dqResume : ∀ x0 x1, Statement (.dqResume x0 x1) := fun _ _ => of_wf _
theorem dqRehomeA : ∀ x0 x1, Statement (.dqRehomeA x0 x1) := fun _ _ => of_wf _
theorem dqRehomeB : ∀ x0 x1, Statement (.dqRehomeB x0 x1) := fun _ _ => of_wf _
theorem dqStopDone : ∀ x0, Statement (.dqStopDone x0) := fun _ => of_wf _
theorem dmaSlice : ∀ x0 x1, Statement (.dmaSlice x0 x1) := fun _ _ => of_wf _
theorem dmaReadCompletion : ∀ x0 x1 x2 x3, Statement (.dmaReadCompletion x0 x1 x2 x3) := fun _ _ _ _ => of_wf _
theorem dmaCplTimeout : ∀ x0 x1, Statement (.dmaCplTimeout x0 x1) := fun _ _ => of_wf _
theorem cqHeadPoll : ∀ x0 x1, Statement (.cqHeadPoll x0 x1) := fun _ _ => of_wf _
theorem coalTimer : ∀ x0, Statement (.coalTimer x0) := fun _ => of_wf _
theorem drainBufferTimer : ∀ x0, Statement (.drainBufferTimer x0) := fun _ => of_wf _
theorem injectDeliver : ∀ x0, Statement (.injectDeliver x0) := fun _ => of_wf _
theorem mailboxSubmit : ∀ x0 x1, Statement (.mailboxSubmit x0 x1) := fun _ _ => of_wf _
theorem directWindowWrite : ∀ x0 x1 x2 x3, Statement (.directWindowWrite x0 x1 x2 x3) := fun _ _ _ _ => of_wf _
theorem read : ∀ x0, Statement (.read x0) := fun _ => of_wf _
theorem write : ∀ x0 x1 x2 x3 x4, Statement (.write x0 x1 x2 x3 x4) := fun _ _ _ _ _ => of_wf _
theorem readInForce : ∀ x0 x1 x2, Statement (.readInForce x0 x1 x2) := fun _ _ _ => of_wf _
theorem readPart : ∀ x0 x1 x2 x3, Statement (.readPart x0 x1 x2 x3) := fun _ _ _ _ => of_wf _
theorem writePart : ∀ x0 x1 x2 x3 x4 x5, Statement (.writePart x0 x1 x2 x3 x4 x5) := fun _ _ _ _ _ _ => of_wf _
theorem describe : ∀ x0 x1 x2, Statement (.describe x0 x1 x2) := fun _ _ _ => of_wf _
theorem nextObject : ∀ x0 x1, Statement (.nextObject x0 x1) := fun _ _ => of_wf _
theorem sessionOpen : ∀ x0, Statement (.sessionOpen x0) := fun _ => of_wf _
theorem sessionCommit : ∀ x0 x1 x2, Statement (.sessionCommit x0 x1 x2) := fun _ _ _ => of_wf _
theorem sessionDiscard : ∀ x0 x1, Statement (.sessionDiscard x0 x1) := fun _ _ => of_wf _
theorem sessionTimeout : ∀ x0, Statement (.sessionTimeout x0) := fun _ => of_wf _
theorem commandClaimExpire : ∀ x0 x1, Statement (.commandClaimExpire x0 x1) := fun _ _ => of_wf _
theorem cfgGenerationWrite : Statement .cfgGenerationWrite := of_wf _
theorem cfgSync : ∀ x0 x1, Statement (.cfgSync x0 x1) := fun _ _ => of_wf _
theorem cfgClear : ∀ x0, Statement (.cfgClear x0) := fun _ => of_wf _
theorem mgmtFrameReceive : ∀ x0 x1 x2, Statement (.mgmtFrameReceive x0 x1 x2) := fun _ _ _ => of_wf _
theorem mportLinkUp : ∀ x0 x1 x2 x3, Statement (.mportLinkUp x0 x1 x2 x3) := fun _ _ _ _ => of_wf _
theorem mportLinkDown : ∀ x0 x1, Statement (.mportLinkDown x0 x1) := fun _ _ => of_wf _
theorem dhcpLeaseExpire : ∀ x0, Statement (.dhcpLeaseExpire x0) := fun _ => of_wf _
theorem dhcpDiscoverRetry : ∀ x0, Statement (.dhcpDiscoverRetry x0) := fun _ => of_wf _
theorem dadComplete : ∀ x0 x1 x2, Statement (.dadComplete x0 x1 x2) := fun _ _ _ => of_wf _
theorem udpRequest : ∀ x0 x1 x2 x3 x4 x5, Statement (.udpRequest x0 x1 x2 x3 x4 x5) := fun _ _ _ _ _ _ => of_wf _
theorem lldpTxTimer : ∀ x0, Statement (.lldpTxTimer x0) := fun _ => of_wf _
theorem lldpReceive : ∀ x0 x1, Statement (.lldpReceive x0 x1) := fun _ _ => of_wf _
theorem lldpTtlExpire : ∀ x0, Statement (.lldpTtlExpire x0) := fun _ => of_wf _
theorem i3cAddressAssign : ∀ x0 x1, Statement (.i3cAddressAssign x0 x1) := fun _ _ => of_wf _
theorem i3cRstdaa : Statement .i3cRstdaa := of_wf _
theorem mctpTuileyMessage : ∀ x0 x1, Statement (.mctpTuileyMessage x0 x1) := fun _ _ => of_wf _
theorem setEndpointId : ∀ x0 x1 x2 x3 x4, Statement (.setEndpointId x0 x1 x2 x3 x4) := fun _ _ _ _ _ => of_wf _
theorem getEndpointId : ∀ x0 x1 x2, Statement (.getEndpointId x0 x1 x2) := fun _ _ _ => of_wf _
theorem getEndpointUuid : ∀ x0 x1 x2, Statement (.getEndpointUuid x0 x1 x2) := fun _ _ _ => of_wf _
theorem getMctpVersionSupport : ∀ x0 x1 x2 x3, Statement (.getMctpVersionSupport x0 x1 x2 x3) := fun _ _ _ _ => of_wf _
theorem getMessageTypeSupport : ∀ x0 x1 x2, Statement (.getMessageTypeSupport x0 x1 x2) := fun _ _ _ => of_wf _
theorem getVendorMessageSupport : ∀ x0 x1 x2 x3, Statement (.getVendorMessageSupport x0 x1 x2 x3) := fun _ _ _ _ => of_wf _
theorem prepareForEndpointDiscovery : ∀ x0 x1 x2, Statement (.prepareForEndpointDiscovery x0 x1 x2) := fun _ _ _ => of_wf _
theorem endpointDiscovery : ∀ x0 x1 x2, Statement (.endpointDiscovery x0 x1 x2) := fun _ _ _ => of_wf _
theorem unsupportedControlCmd : ∀ x0 x1 x2 x3, Statement (.unsupportedControlCmd x0 x1 x2 x3) := fun _ _ _ _ => of_wf _
theorem eidAnnounceTimer : ∀ x0, Statement (.eidAnnounceTimer x0) := fun _ => of_wf _
theorem fwStageChunk : ∀ x0 x1, Statement (.fwStageChunk x0 x1) := fun _ _ => of_wf _
theorem fwWriteSlot : ∀ x0 x1, Statement (.fwWriteSlot x0 x1) := fun _ _ => of_wf _
theorem fwSlotWriteDone : ∀ x0, Statement (.fwSlotWriteDone x0) := fun _ => of_wf _
theorem fwActivateNow : ∀ x0 x1, Statement (.fwActivateNow x0 x1) := fun _ _ => of_wf _
theorem fwActivateNext : ∀ x0 x1, Statement (.fwActivateNext x0 x1) := fun _ _ => of_wf _
theorem fwAbort : ∀ x0 x1, Statement (.fwAbort x0 x1) := fun _ _ => of_wf _
theorem fwSessionTimeout : Statement .fwSessionTimeout := of_wf _
theorem fwConfirm : ∀ x0, Statement (.fwConfirm x0) := fun _ => of_wf _
theorem fwSelfConfirm : ∀ x0, Statement (.fwSelfConfirm x0) := fun _ => of_wf _
theorem fwWindowExpire : Statement .fwWindowExpire := of_wf _
theorem bootRom : Statement .bootRom := of_wf _
theorem bootHoldRetry : Statement .bootHoldRetry := of_wf _
theorem watchdogExpire : Statement .watchdogExpire := of_wf _
theorem processorFatal : Statement .processorFatal := of_wf _
theorem mgmtRestart : ∀ x0 x1, Statement (.mgmtRestart x0 x1) := fun _ _ => of_wf _
theorem mgmtRestartDone : ∀ x0, Statement (.mgmtRestartDone x0) := fun _ => of_wf _
theorem pctlReload : ∀ x0, Statement (.pctlReload x0) := fun _ => of_wf _
theorem gmcuReload : ∀ x0, Statement (.gmcuReload x0) := fun _ => of_wf _
theorem flashInhibitClear : Statement .flashInhibitClear := of_wf _
theorem pfailAssert : Statement .pfailAssert := of_wf _
theorem capStep : ∀ x0, Statement (.capStep x0) := fun _ => of_wf _
theorem railRead : ∀ x0 x1, Statement (.railRead x0 x1) := fun _ _ => of_wf _
theorem thermalStep : Statement .thermalStep := of_wf _
theorem sensorSample : ∀ x0, Statement (.sensorSample x0) := fun _ => of_wf _
theorem ageingReport : ∀ x0, Statement (.ageingReport x0) := fun _ => of_wf _
theorem supplyLoss : ∀ x0, Statement (.supplyLoss x0) := fun _ => of_wf _
theorem supplyGood : ∀ x0, Statement (.supplyGood x0) := fun _ => of_wf _
theorem tileIdleOff : ∀ x0, Statement (.tileIdleOff x0) := fun _ => of_wf _
theorem porstAssert : ∀ x0, Statement (.porstAssert x0) := fun _ => of_wf _
theorem coldReset : ∀ x0 x1 x2, Statement (.coldReset x0 x1 x2) := fun _ _ _ => of_wf _
theorem rootPllLock : Statement .rootPllLock := of_wf _
theorem warmArm : ∀ x0, Statement (.warmArm x0) := fun _ => of_wf _
theorem warmReset : ∀ x0 x1 x2, Statement (.warmReset x0 x1 x2) := fun _ _ _ => of_wf _
theorem pipeReset : ∀ x0 x1 x2, Statement (.pipeReset x0 x1 x2) := fun _ _ _ => of_wf _
theorem pipeResetDone : Statement .pipeResetDone := of_wf _
theorem refClockFault : ∀ x0 x1, Statement (.refClockFault x0 x1) := fun _ _ => of_wf _
theorem refClockReturn : Statement .refClockReturn := of_wf _
theorem bankScrub : ∀ x0, Statement (.bankScrub x0) := fun _ => of_wf _
theorem shadowScrub : ∀ x0, Statement (.shadowScrub x0) := fun _ => of_wf _
theorem fatalCheck : Statement .fatalCheck := of_wf _
theorem fatalClear : ∀ x0 x1, Statement (.fatalClear x0 x1) := fun _ _ => of_wf _
theorem crashCapture : ∀ x0, Statement (.crashCapture x0) := fun _ => of_wf _
theorem crashRead : ∀ x0 x1 x2, Statement (.crashRead x0 x1 x2) := fun _ _ _ => of_wf _
theorem exhaustCheck : Statement .exhaustCheck := of_wf _
theorem lifeHour : Statement .lifeHour := of_wf _
theorem elementWrite : ∀ x0 x1 x2 x3, Statement (.elementWrite x0 x1 x2 x3) := fun _ _ _ _ => of_wf _
theorem mainFirmwareRuns : ∀ x0 x1, Statement (.mainFirmwareRuns x0 x1) := fun _ _ => of_wf _
theorem pulseTrailingEdge : ∀ x0, Statement (.pulseTrailingEdge x0) := fun _ => of_wf _
theorem dhcpRenewal : ∀ x0, Statement (.dhcpRenewal x0) := fun _ => of_wf _
theorem bufferScrub : ∀ x0 x1 x2, Statement (.bufferScrub x0 x1 x2) := fun _ _ _ => of_wf _
theorem warmArmExpire : Statement .warmArmExpire := of_wf _

end Sys2Proof.Laws.SheafFields
end

