-- ==== Sys2Proof/Laws/Shape.lean ====
section
/-! SUPPORT. What a command can do to the whole state, said once: it changes the part alone, or it is one of the few that
touch the epoch counter. -/
namespace Sys2Proof.Machine

/-- The shapes that a meaning can have. -/
inductive Shape (c : Instr) (s : State) : Prop where
  /-- It changes the part of a machine that is not dark. -/
  | part (f : Dev → Dev) (h : exec c s = lift f s)
  /-- The same, reading the epoch counter. -/
  | epoch (f : Nat → Dev → Dev) (h : exec c s = liftE f s)
  /-- The same, and it may start a full warm reset. -/
  | warm (f : Nat → Dev → Dev) (h : exec c s = liftW f s)
  /-- A command that starts the part. -/
  | boot (f : Dev → Dev) (h : exec c s = liftB f s) (hd : Instr.ofD0 c = true)
  /-- A command of which D0 does a part. -/
  | warm0 (g : Dev → Dev) (f : Nat → Dev → Dev) (h : exec c s = liftW f { s with dev := g s.dev }) (hd : Instr.ofD0 c = true)
  /-- A command of D0. -/
  | d0 (f : Dev → Dev) (h : exec c s = lift0 f s) (hd : Instr.ofD0 c = true)
  /-- FLIP_COMMIT. -/
  | flip (h : c = .flipCommit)
  /-- COLD_RESET. -/
  | cold (flash : Option Reflash) (bad : Bool) (straps : Fin 16) (h : c = .coldReset flash bad straps)

theorem shape_frameReceive {x0} {x1} {x2} {x3} {x4} {x5} (s : State) : Shape (.frameReceive x0 x1 x2 x3 x4 x5) s := .part _ (show execFrameReceive x0 x1 x2 x3 x4 x5 s = lift _ s from rfl)
theorem shape_frameTailArrive {x0} {x1} {x2} {x3} {x4} (s : State) : Shape (.frameTailArrive x0 x1 x2 x3 x4) s := .part _ (show execFrameTailArrive x0 x1 x2 x3 x4 s = lift _ s from rfl)
theorem shape_arbiterAccept {x0} {x1} (s : State) : Shape (.arbiterAccept x0 x1) s := .part _ (show execArbiterAccept x0 x1 s = lift _ s from rfl)
theorem shape_thresherStart {x0} (s : State) : Shape (.thresherStart x0) s := .epoch _ (show execThresherStart x0 s = liftE _ s from rfl)
theorem shape_costGatePass {x0} {x1} {x2} {x3} (s : State) : Shape (.costGatePass x0 x1 x2 x3) s := .part _ (show execCostGatePass x0 x1 x2 x3 s = lift _ s from rfl)
theorem shape_opNop {x0} (s : State) : Shape (.opNop x0) s := .part _ (show execOpNop x0 s = lift _ s from rfl)
theorem shape_opEnd {x0} (s : State) : Shape (.opEnd x0) s := .part _ (show execOpEnd x0 s = lift _ s from rfl)
theorem shape_opMov {x0} {x1} {x2} {x3} (s : State) : Shape (.opMov x0 x1 x2 x3) s := .part _ (show execOpMov x0 x1 x2 x3 s = lift _ s from rfl)
theorem shape_opAdd {x0} {x1} {x2} {x3} {x4} (s : State) : Shape (.opAdd x0 x1 x2 x3 x4) s := .part _ (show execOpAdd x0 x1 x2 x3 x4 s = lift _ s from rfl)
theorem shape_opSub {x0} {x1} {x2} {x3} {x4} (s : State) : Shape (.opSub x0 x1 x2 x3 x4) s := .part _ (show execOpSub x0 x1 x2 x3 x4 s = lift _ s from rfl)
theorem shape_opSubs {x0} {x1} {x2} {x3} {x4} (s : State) : Shape (.opSubs x0 x1 x2 x3 x4) s := .part _ (show execOpSubs x0 x1 x2 x3 x4 s = lift _ s from rfl)
theorem shape_opAnd {x0} {x1} {x2} {x3} {x4} (s : State) : Shape (.opAnd x0 x1 x2 x3 x4) s := .part _ (show execOpAnd x0 x1 x2 x3 x4 s = lift _ s from rfl)
theorem shape_opOr {x0} {x1} {x2} {x3} {x4} (s : State) : Shape (.opOr x0 x1 x2 x3 x4) s := .part _ (show execOpOr x0 x1 x2 x3 x4 s = lift _ s from rfl)
theorem shape_opXor {x0} {x1} {x2} {x3} {x4} (s : State) : Shape (.opXor x0 x1 x2 x3 x4) s := .part _ (show execOpXor x0 x1 x2 x3 x4 s = lift _ s from rfl)
theorem shape_opShl {x0} {x1} {x2} {x3} {x4} (s : State) : Shape (.opShl x0 x1 x2 x3 x4) s := .part _ (show execOpShl x0 x1 x2 x3 x4 s = lift _ s from rfl)
theorem shape_opShr {x0} {x1} {x2} {x3} {x4} (s : State) : Shape (.opShr x0 x1 x2 x3 x4) s := .part _ (show execOpShr x0 x1 x2 x3 x4 s = lift _ s from rfl)
theorem shape_opMin {x0} {x1} {x2} {x3} {x4} (s : State) : Shape (.opMin x0 x1 x2 x3 x4) s := .part _ (show execOpMin x0 x1 x2 x3 x4 s = lift _ s from rfl)
theorem shape_opMax {x0} {x1} {x2} {x3} {x4} (s : State) : Shape (.opMax x0 x1 x2 x3 x4) s := .part _ (show execOpMax x0 x1 x2 x3 x4 s = lift _ s from rfl)
theorem shape_opSkeq {x0} {x1} {x2} {x3} {x4} (s : State) : Shape (.opSkeq x0 x1 x2 x3 x4) s := .part _ (show execOpSkeq x0 x1 x2 x3 x4 s = lift _ s from rfl)
theorem shape_opSkne {x0} {x1} {x2} {x3} {x4} (s : State) : Shape (.opSkne x0 x1 x2 x3 x4) s := .part _ (show execOpSkne x0 x1 x2 x3 x4 s = lift _ s from rfl)
theorem shape_opSklt {x0} {x1} {x2} {x3} {x4} (s : State) : Shape (.opSklt x0 x1 x2 x3 x4) s := .part _ (show execOpSklt x0 x1 x2 x3 x4 s = lift _ s from rfl)
theorem shape_opSkge {x0} {x1} {x2} {x3} {x4} (s : State) : Shape (.opSkge x0 x1 x2 x3 x4) s := .part _ (show execOpSkge x0 x1 x2 x3 x4 s = lift _ s from rfl)
theorem shape_opMset {x0} {x1} {x2} {x3} (s : State) : Shape (.opMset x0 x1 x2 x3) s := .part _ (show execOpMset x0 x1 x2 x3 s = lift _ s from rfl)
theorem shape_opMget {x0} {x1} {x2} {x3} (s : State) : Shape (.opMget x0 x1 x2 x3) s := .part _ (show execOpMget x0 x1 x2 x3 s = lift _ s from rfl)
theorem shape_opLkem {x0} {x1} {x2} {x3} {x4} {x5} (s : State) : Shape (.opLkem x0 x1 x2 x3 x4 x5) s := .part _ (show execOpLkem x0 x1 x2 x3 x4 x5 s = lift _ s from rfl)
theorem shape_opLklpm4 {x0} {x1} {x2} {x3} (s : State) : Shape (.opLklpm4 x0 x1 x2 x3) s := .part _ (show execOpLklpm4 x0 x1 x2 x3 s = lift _ s from rfl)
theorem shape_opLklpm6 {x0} {x1} {x2} {x3} (s : State) : Shape (.opLklpm6 x0 x1 x2 x3) s := .part _ (show execOpLklpm6 x0 x1 x2 x3 s = lift _ s from rfl)
theorem shape_opLknh {x0} {x1} {x2} {x3} (s : State) : Shape (.opLknh x0 x1 x2 x3) s := .part _ (show execOpLknh x0 x1 x2 x3 s = lift _ s from rfl)
theorem shape_opLkgrp {x0} {x1} {x2} {x3} {x4} (s : State) : Shape (.opLkgrp x0 x1 x2 x3 x4) s := .part _ (show execOpLkgrp x0 x1 x2 x3 x4 s = lift _ s from rfl)
theorem shape_opHash {x0} {x1} {x2} (s : State) : Shape (.opHash x0 x1 x2) s := .part _ (show execOpHash x0 x1 x2 s = lift _ s from rfl)
theorem shape_opWin {x0} {x1} {x2} {x3} (s : State) : Shape (.opWin x0 x1 x2 x3) s := .part _ (show execOpWin x0 x1 x2 x3 s = lift _ s from rfl)
theorem shape_opTcam {x0} {x1} {x2} {x3} {x4} (s : State) : Shape (.opTcam x0 x1 x2 x3 x4) s := .part _ (show execOpTcam x0 x1 x2 x3 x4 s = lift _ s from rfl)
theorem shape_opLkix {x0} {x1} {x2} {x3} {x4} {x5} (s : State) : Shape (.opLkix x0 x1 x2 x3 x4 x5) s := .part _ (show execOpLkix x0 x1 x2 x3 x4 x5 s = lift _ s from rfl)
theorem shape_packetAdmit {x0} (s : State) : Shape (.packetAdmit x0) s := .part _ (show execPacketAdmit x0 s = lift _ s from rfl)
theorem shape_pfcFrameSend {x0} (s : State) : Shape (.pfcFrameSend x0) s := .part _ (show execPfcFrameSend x0 s = lift _ s from rfl)
theorem shape_pfcRefreshTimer {x0} {x1} (s : State) : Shape (.pfcRefreshTimer x0 x1) s := .part _ (show execPfcRefreshTimer x0 x1 s = lift _ s from rfl)
theorem shape_pfcFrameReceive {x0} {x1} (s : State) : Shape (.pfcFrameReceive x0 x1) s := .part _ (show execPfcFrameReceive x0 x1 s = lift _ s from rfl)
theorem shape_pauseTimerExpire {x0} {x1} (s : State) : Shape (.pauseTimerExpire x0 x1) s := .part _ (show execPauseTimerExpire x0 x1 s = lift _ s from rfl)
theorem shape_schedSelect {x0} {x1} {x2} {x3} (s : State) : Shape (.schedSelect x0 x1 x2 x3) s := .part _ (show execSchedSelect x0 x1 x2 x3 s = lift _ s from rfl)
theorem shape_frameTransmit {x0} {x1} {x2} (s : State) : Shape (.frameTransmit x0 x1 x2) s := .part _ (show execFrameTransmit x0 x1 x2 s = lift _ s from rfl)
theorem shape_launchRelease {x0} {x1} (s : State) : Shape (.launchRelease x0 x1) s := .part _ (show execLaunchRelease x0 x1 s = lift _ s from rfl)
theorem shape_frameTxEnd {x0} {x1} (s : State) : Shape (.frameTxEnd x0 x1) s := .part _ (show execFrameTxEnd x0 x1 s = lift _ s from rfl)
theorem shape_ageCheckTimer (s : State) : Shape (.ageCheckTimer) s := .part _ (show execAgeCheckTimer s = lift _ s from rfl)
theorem shape_downHoldExpire {x0} (s : State) : Shape (.downHoldExpire x0) s := .part _ (show execDownHoldExpire x0 s = lift _ s from rfl)
theorem shape_flushDone {x0} (s : State) : Shape (.flushDone x0) s := .part _ (show execFlushDone x0 s = lift _ s from rfl)
theorem shape_auditPeriod (s : State) : Shape (.auditPeriod) s := .part _ (show execAuditPeriod s = lift _ s from rfl)
theorem shape_auditRequest {x0} {x1} (s : State) : Shape (.auditRequest x0 x1) s := .warm _ (show execAuditRequest x0 x1 s = liftW _ s from rfl)
theorem shape_auditDone (s : State) : Shape (.auditDone) s := .part _ (show execAuditDone s = lift _ s from rfl)
theorem shape_mcSet {x0} {x1} {x2} {x3} (s : State) : Shape (.mcSet x0 x1 x2 x3) s := .warm _ (show execMcSet x0 x1 x2 x3 s = liftW _ s from rfl)
theorem shape_mcRead {x0} {x1} {x2} (s : State) : Shape (.mcRead x0 x1 x2) s := .warm _ (show execMcRead x0 x1 x2 s = liftW _ s from rfl)
theorem shape_mcClear {x0} {x1} {x2} (s : State) : Shape (.mcClear x0 x1 x2) s := .warm _ (show execMcClear x0 x1 x2 s = liftW _ s from rfl)
theorem shape_portAdminUp {x0} {x1} (s : State) : Shape (.portAdminUp x0 x1) s := .warm _ (show execPortAdminUp x0 x1 s = liftW _ s from rfl)
theorem shape_portAdminDown {x0} {x1} (s : State) : Shape (.portAdminDown x0 x1) s := .warm _ (show execPortAdminDown x0 x1 s = liftW _ s from rfl)
theorem shape_signalDetect {x0} (s : State) : Shape (.signalDetect x0) s := .part _ (show execSignalDetect x0 s = lift _ s from rfl)
theorem shape_anComplete {x0} {x1} (s : State) : Shape (.anComplete x0 x1) s := .part _ (show execAnComplete x0 x1 s = lift _ s from rfl)
theorem shape_anTimeout {x0} (s : State) : Shape (.anTimeout x0) s := .part _ (show execAnTimeout x0 s = lift _ s from rfl)
theorem shape_ltComplete {x0} {x1} (s : State) : Shape (.ltComplete x0 x1) s := .part _ (show execLtComplete x0 x1 s = lift _ s from rfl)
theorem shape_trainingTimeout {x0} (s : State) : Shape (.trainingTimeout x0) s := .part _ (show execTrainingTimeout x0 s = lift _ s from rfl)
theorem shape_c2mAdaptDone {x0} {x1} (s : State) : Shape (.c2mAdaptDone x0 x1) s := .part _ (show execC2mAdaptDone x0 x1 s = lift _ s from rfl)
theorem shape_alignmentLock {x0} (s : State) : Shape (.alignmentLock x0) s := .part _ (show execAlignmentLock x0 s = lift _ s from rfl)
theorem shape_alignmentTimeout {x0} (s : State) : Shape (.alignmentTimeout x0) s := .part _ (show execAlignmentTimeout x0 s = lift _ s from rfl)
theorem shape_portDebounceUp {x0} (s : State) : Shape (.portDebounceUp x0) s := .part _ (show execPortDebounceUp x0 s = lift _ s from rfl)
theorem shape_portRetryTimer {x0} (s : State) : Shape (.portRetryTimer x0) s := .part _ (show execPortRetryTimer x0 s = lift _ s from rfl)
theorem shape_linkFaultDetect {x0} {x1} (s : State) : Shape (.linkFaultDetect x0 x1) s := .part _ (show execLinkFaultDetect x0 x1 s = lift _ s from rfl)
theorem shape_linkFaultClear {x0} {x1} (s : State) : Shape (.linkFaultClear x0 x1) s := .part _ (show execLinkFaultClear x0 x1 s = lift _ s from rfl)
theorem shape_portDownDebounce {x0} (s : State) : Shape (.portDownDebounce x0) s := .part _ (show execPortDownDebounce x0 s = lift _ s from rfl)
theorem shape_fecDegradeCheck {x0} {x1} {x2} {x3} (s : State) : Shape (.fecDegradeCheck x0 x1 x2 x3) s := .part _ (show execFecDegradeCheck x0 x1 x2 x3 s = lift _ s from rfl)
theorem shape_tileReachWrite {x0} {x1} {x2} (s : State) : Shape (.tileReachWrite x0 x1 x2) s := .warm _ (show execTileReachWrite x0 x1 x2 s = liftW _ s from rfl)
theorem shape_laneAdaptRestart {x0} {x1} (s : State) : Shape (.laneAdaptRestart x0 x1) s := .warm _ (show execLaneAdaptRestart x0 x1 s = liftW _ s from rfl)
theorem shape_laneAdaptDone {x0} {x1} (s : State) : Shape (.laneAdaptDone x0 x1) s := .part _ (show execLaneAdaptDone x0 x1 s = lift _ s from rfl)
theorem shape_tileSeedSave {x0} {x1} (s : State) : Shape (.tileSeedSave x0 x1) s := .warm _ (show execTileSeedSave x0 x1 s = liftW _ s from rfl)
theorem shape_rouriWireFail {x0} {x1} {x2} (s : State) : Shape (.rouriWireFail x0 x1 x2) s := .part _ (show execRouriWireFail x0 x1 x2 s = lift _ s from rfl)
theorem shape_rouriRepairDone {x0} {x1} (s : State) : Shape (.rouriRepairDone x0 x1) s := .part _ (show execRouriRepairDone x0 x1 s = lift _ s from rfl)
theorem shape_tileMcuHeartbeatMiss {x0} {x1} (s : State) : Shape (.tileMcuHeartbeatMiss x0 x1) s := .part _ (show execTileMcuHeartbeatMiss x0 x1 s = lift _ s from rfl)
theorem shape_tileMcuReload {x0} (s : State) : Shape (.tileMcuReload x0) s := .part _ (show execTileMcuReload x0 s = lift _ s from rfl)
theorem shape_tileMcuReloadDone {x0} {x1} (s : State) : Shape (.tileMcuReloadDone x0 x1) s := .part _ (show execTileMcuReloadDone x0 x1 s = lift _ s from rfl)
theorem shape_tblInsert {x0} {x1} {x2} {x3} (s : State) : Shape (.tblInsert x0 x1 x2 x3) s := .epoch _ (show execTblInsert x0 x1 x2 x3 s = liftE _ s from rfl)
theorem shape_tblModify {x0} {x1} {x2} {x3} (s : State) : Shape (.tblModify x0 x1 x2 x3) s := .epoch _ (show execTblModify x0 x1 x2 x3 s = liftE _ s from rfl)
theorem shape_tblDelete {x0} {x1} {x2} {x3} (s : State) : Shape (.tblDelete x0 x1 x2 x3) s := .epoch _ (show execTblDelete x0 x1 x2 x3 s = liftE _ s from rfl)
theorem shape_tblRead {x0} {x1} {x2} (s : State) : Shape (.tblRead x0 x1 x2) s := .epoch _ (show execTblRead x0 x1 x2 s = liftE _ s from rfl)
theorem shape_groupCreate {x0} {x1} {x2} {x3} (s : State) : Shape (.groupCreate x0 x1 x2 x3) s := .epoch _ (show execGroupCreate x0 x1 x2 x3 s = liftE _ s from rfl)
theorem shape_groupDelete {x0} {x1} {x2} {x3} (s : State) : Shape (.groupDelete x0 x1 x2 x3) s := .epoch _ (show execGroupDelete x0 x1 x2 x3 s = liftE _ s from rfl)
theorem shape_memberAdd {x0} {x1} {x2} {x3} (s : State) : Shape (.memberAdd x0 x1 x2 x3) s := .epoch _ (show execMemberAdd x0 x1 x2 x3 s = liftE _ s from rfl)
theorem shape_memberRemove {x0} {x1} {x2} {x3} (s : State) : Shape (.memberRemove x0 x1 x2 x3) s := .epoch _ (show execMemberRemove x0 x1 x2 x3 s = liftE _ s from rfl)
theorem shape_slotWrite {x0} {x1} {x2} {x3} (s : State) : Shape (.slotWrite x0 x1 x2 x3) s := .epoch _ (show execSlotWrite x0 x1 x2 x3 s = liftE _ s from rfl)
theorem shape_visibilitySettlement (s : State) : Shape (.visibilitySettlement) s := .epoch _ (show execVisibilitySettlement s = liftE _ s from rfl)
theorem shape_settlementDone (s : State) : Shape (.settlementDone) s := .epoch _ (show execSettlementDone s = liftE _ s from rfl)
theorem shape_barnPeerRepair {x0} (s : State) : Shape (.barnPeerRepair x0) s := .part _ (show execBarnPeerRepair x0 s = lift _ s from rfl)
theorem shape_barnScrubPass {x0} {x1} {x2} {x3} (s : State) : Shape (.barnScrubPass x0 x1 x2 x3) s := .part _ (show execBarnScrubPass x0 x1 x2 x3 s = lift _ s from rfl)
theorem shape_progStageChunk {x0} {x1} (s : State) : Shape (.progStageChunk x0 x1) s := .warm _ (show execProgStageChunk x0 x1 s = liftW _ s from rfl)
theorem shape_progLoad {x0} {x1} (s : State) : Shape (.progLoad x0 x1) s := .warm _ (show execProgLoad x0 x1 s = liftW _ s from rfl)
theorem shape_progLoadWrite (s : State) : Shape (.progLoadWrite) s := .epoch _ (show execProgLoadWrite s = liftE _ s from rfl)
theorem shape_progLoadDone {x0} (s : State) : Shape (.progLoadDone x0) s := .part _ (show execProgLoadDone x0 s = lift _ s from rfl)
theorem shape_progLoadDiscard {x0} (s : State) : Shape (.progLoadDiscard x0) s := .warm _ (show execProgLoadDiscard x0 s = liftW _ s from rfl)
theorem shape_epochFlip {x0} {x1} (s : State) : Shape (.epochFlip x0 x1) s := .warm _ (show execEpochFlip x0 x1 s = liftW _ s from rfl)
theorem shape_flipAckWait (s : State) : Shape (.flipAckWait) s := .part _ (show execFlipAckWait s = lift _ s from rfl)
theorem shape_flipAckTimeout {x0} (s : State) : Shape (.flipAckTimeout x0) s := .epoch _ (show execFlipAckTimeout x0 s = liftE _ s from rfl)
theorem shape_flipCommit (s : State) : Shape (.flipCommit) s := .flip rfl
theorem shape_ingressDrainEnd {x0} (s : State) : Shape (.ingressDrainEnd x0) s := .epoch _ (show execIngressDrainEnd x0 s = liftE _ s from rfl)
theorem shape_bankRelease {x0} (s : State) : Shape (.bankRelease x0) s := .epoch _ (show execBankRelease x0 s = liftE _ s from rfl)
theorem shape_epochReleaseLimit (s : State) : Shape (.epochReleaseLimit) s := .epoch _ (show execEpochReleaseLimit s = liftE _ s from rfl)
theorem shape_bankCopy {x0} (s : State) : Shape (.bankCopy x0) s := .part _ (show execBankCopy x0 s = lift _ s from rfl)
theorem shape_bankCopyDone {x0} (s : State) : Shape (.bankCopyDone x0) s := .epoch _ (show execBankCopyDone x0 s = liftE _ s from rfl)
theorem shape_stageAbort {x0} (s : State) : Shape (.stageAbort x0) s := .warm _ (show execStageAbort x0 s = liftW _ s from rfl)
theorem shape_stageAbortDone (s : State) : Shape (.stageAbortDone) s := .epoch _ (show execStageAbortDone s = liftE _ s from rfl)
theorem shape_stageReset {x0} (s : State) : Shape (.stageReset x0) s := .warm _ (show execStageReset x0 s = liftW _ s from rfl)
theorem shape_baleCloseTimer {x0} (s : State) : Shape (.baleCloseTimer x0) s := .part _ (show execBaleCloseTimer x0 s = lift _ s from rfl)
theorem shape_baleWriteDone {x0} (s : State) : Shape (.baleWriteDone x0) s := .part _ (show execBaleWriteDone x0 s = lift _ s from rfl)
theorem shape_baleReturnRead (s : State) : Shape .baleReturnRead s := .part _ (show execBaleReturnRead s = lift _ s from rfl)
theorem shape_baleReturnDone {x0} {x1} {x2} (s : State) : Shape (.baleReturnDone x0 x1 x2) s := .part _ (show execBaleReturnDone x0 x1 x2 s = lift _ s from rfl)
theorem shape_granaryScrubPass {x0} {x1} (s : State) : Shape (.granaryScrubPass x0 x1) s := .part _ (show execGranaryScrubPass x0 x1 s = lift _ s from rfl)
theorem shape_segmentFailDeclare {x0} {x1} (s : State) : Shape (.segmentFailDeclare x0 x1) s := .part _ (show execSegmentFailDeclare x0 x1 s = lift _ s from rfl)
theorem shape_segmentRemap {x0} {x1} (s : State) : Shape (.segmentRemap x0 x1) s := .part _ (show execSegmentRemap x0 x1 s = lift _ s from rfl)
theorem shape_hpprDone {x0} {x1} {x2} (s : State) : Shape (.hpprDone x0 x1 x2) s := .part _ (show execHpprDone x0 x1 x2 s = lift _ s from rfl)
theorem shape_stackTempAlarm {x0} {x1} (s : State) : Shape (.stackTempAlarm x0 x1) s := .part _ (show execStackTempAlarm x0 x1 s = lift _ s from rfl)
theorem shape_stackRetire {x0} {x1} (s : State) : Shape (.stackRetire x0 x1) s := .warm _ (show execStackRetire x0 x1 s = liftW _ s from rfl)
theorem shape_retireDrainEnd {x0} (s : State) : Shape (.retireDrainEnd x0) s := .part _ (show execRetireDrainEnd x0 s = lift _ s from rfl)
theorem shape_stackUnretire {x0} {x1} (s : State) : Shape (.stackUnretire x0 x1) s := .warm _ (show execStackUnretire x0 x1 s = liftW _ s from rfl)
theorem shape_driftCheck {x0} {x1} {x2} (s : State) : Shape (.driftCheck x0 x1 x2) s := .part _ (show execDriftCheck x0 x1 x2 s = lift _ s from rfl)
theorem shape_granaryTrainingDone {x0} (s : State) : Shape (.granaryTrainingDone x0) s := .part _ (show execGranaryTrainingDone x0 s = lift _ s from rfl)
theorem shape_telStoreMigrate (s : State) : Shape (.telStoreMigrate) s := .part _ (show execTelStoreMigrate s = lift _ s from rfl)
theorem shape_wheelRelease {x0} (s : State) : Shape (.wheelRelease x0) s := .part _ (show execWheelRelease x0 s = lift _ s from rfl)
theorem shape_wheelOverflowMove {x0} (s : State) : Shape (.wheelOverflowMove x0) s := .part _ (show execWheelOverflowMove x0 s = lift _ s from rfl)
theorem shape_polSet {x0} {x1} {x2} {x3} (s : State) : Shape (.polSet x0 x1 x2 x3) s := .warm _ (show execPolSet x0 x1 x2 x3 s = liftW _ s from rfl)
theorem shape_polRead {x0} {x1} {x2} (s : State) : Shape (.polRead x0 x1 x2) s := .warm _ (show execPolRead x0 x1 x2 s = liftW _ s from rfl)
theorem shape_polClearCounters {x0} {x1} {x2} (s : State) : Shape (.polClearCounters x0 x1 x2) s := .warm _ (show execPolClearCounters x0 x1 x2 s = liftW _ s from rfl)
theorem shape_tbStep {x0} {x1} {x2} (s : State) : Shape (.tbStep x0 x1 x2) s := .warm _ (show execTbStep x0 x1 x2 s = liftW _ s from rfl)
theorem shape_tbTimeSet {x0} {x1} {x2} (s : State) : Shape (.tbTimeSet x0 x1 x2) s := .warm _ (show execTbTimeSet x0 x1 x2 s = liftW _ s from rfl)
theorem shape_tbRateSet {x0} {x1} {x2} (s : State) : Shape (.tbRateSet x0 x1 x2) s := .warm _ (show execTbRateSet x0 x1 x2 s = liftW _ s from rfl)
theorem shape_tbOffset {x0} {x1} {x2} (s : State) : Shape (.tbOffset x0 x1 x2) s := .warm _ (show execTbOffset x0 x1 x2 s = liftW _ s from rfl)
theorem shape_tbMasterNew {x0} {x1} (s : State) : Shape (.tbMasterNew x0 x1) s := .warm _ (show execTbMasterNew x0 x1 s = liftW _ s from rfl)
theorem shape_tbServoMode {x0} {x1} {x2} (s : State) : Shape (.tbServoMode x0 x1 x2) s := .warm _ (show execTbServoMode x0 x1 x2 s = liftW _ s from rfl)
theorem shape_tbHoldoverTimeout {x0} (s : State) : Shape (.tbHoldoverTimeout x0) s := .part _ (show execTbHoldoverTimeout x0 s = lift _ s from rfl)
theorem shape_tbRateSave {x0} (s : State) : Shape (.tbRateSave x0) s := .part _ (show execTbRateSave x0 s = lift _ s from rfl)
theorem shape_captureEdge {x0} {x1} {x2} (s : State) : Shape (.captureEdge x0 x1 x2) s := .part _ (show execCaptureEdge x0 x1 x2 s = lift _ s from rfl)
theorem shape_capPop {x0} {x1} (s : State) : Shape (.capPop x0 x1) s := .warm _ (show execCapPop x0 x1 s = liftW _ s from rfl)
theorem shape_pulseEdge {x0} (s : State) : Shape (.pulseEdge x0) s := .part _ (show execPulseEdge x0 s = lift _ s from rfl)
theorem shape_txtsPop {x0} {x1} {x2} (s : State) : Shape (.txtsPop x0 x1 x2) s := .part _ (show execTxtsPop x0 x1 x2 s = lift _ s from rfl)
theorem shape_tallyIdleSweep (s : State) : Shape (.tallyIdleSweep) s := .part _ (show execTallyIdleSweep s = lift _ s from rfl)
theorem shape_tallySnapshot {x0} {x1} (s : State) : Shape (.tallySnapshot x0 x1) s := .warm _ (show execTallySnapshot x0 x1 s = liftW _ s from rfl)
theorem shape_tallySnapshotDone (s : State) : Shape (.tallySnapshotDone) s := .part _ (show execTallySnapshotDone s = lift _ s from rfl)
theorem shape_tallyClear {x0} {x1} (s : State) : Shape (.tallyClear x0 x1) s := .warm _ (show execTallyClear x0 x1 s = liftW _ s from rfl)
theorem shape_histClear {x0} {x1} (s : State) : Shape (.histClear x0 x1) s := .warm _ (show execHistClear x0 x1 s = liftW _ s from rfl)
theorem shape_histClearPort {x0} {x1} (s : State) : Shape (.histClearPort x0 x1) s := .warm _ (show execHistClearPort x0 x1 s = liftW _ s from rfl)
theorem shape_wrapClear {x0} (s : State) : Shape (.wrapClear x0) s := .warm _ (show execWrapClear x0 s = liftW _ s from rfl)
theorem shape_perfConfigWrite {x0} {x1} {x2} {x3} (s : State) : Shape (.perfConfigWrite x0 x1 x2 x3) s := .warm _ (show execPerfConfigWrite x0 x1 x2 x3 s = liftW _ s from rfl)
theorem shape_gleanerSweep (s : State) : Shape (.gleanerSweep) s := .part _ (show execGleanerSweep s = lift _ s from rfl)
theorem shape_streamExport {x0} (s : State) : Shape (.streamExport x0) s := .epoch _ (show execStreamExport x0 s = liftE _ s from rfl)
theorem shape_hlHeartbeat {x0} (s : State) : Shape (.hlHeartbeat x0) s := .part _ (show execHlHeartbeat x0 s = lift _ s from rfl)
theorem shape_heartbeatTimeout {x0} (s : State) : Shape (.heartbeatTimeout x0) s := .part _ (show execHeartbeatTimeout x0 s = lift _ s from rfl)
theorem shape_evtCauseClear {x0} {x1} (s : State) : Shape (.evtCauseClear x0 x1) s := .part _ (show execEvtCauseClear x0 x1 s = lift _ s from rfl)
theorem shape_vecBind {x0} {x1} {x2} {x3} {x4} (s : State) : Shape (.vecBind x0 x1 x2 x3 x4) s := .warm _ (show execVecBind x0 x1 x2 x3 x4 s = liftW _ s from rfl)
theorem shape_vecUnbind {x0} {x1} {x2} {x3} (s : State) : Shape (.vecUnbind x0 x1 x2 x3) s := .warm _ (show execVecUnbind x0 x1 x2 x3 s = liftW _ s from rfl)
theorem shape_vecRead {x0} {x1} {x2} {x3} (s : State) : Shape (.vecRead x0 x1 x2 x3) s := .warm _ (show execVecRead x0 x1 x2 x3 s = liftW _ s from rfl)
theorem shape_bar0BadAccess {x0} {x1} (s : State) : Shape (.bar0BadAccess x0 x1) s := .part _ (show execBar0BadAccess x0 x1 s = lift _ s from rfl)
theorem shape_doorbell {x0} {x1} {x2} {x3} (s : State) : Shape (.doorbell x0 x1 x2 x3) s := .part _ (show execDoorbell x0 x1 x2 x3 s = lift _ s from rfl)
theorem shape_atsInvalidate {x0} {x1} {x2} {x3} (s : State) : Shape (.atsInvalidate x0 x1 x2 x3) s := .part _ (show execAtsInvalidate x0 x1 x2 x3 s = lift _ s from rfl)
theorem shape_priResponse {x0} {x1} {x2} (s : State) : Shape (.priResponse x0 x1 x2) s := .part _ (show execPriResponse x0 x1 x2 s = lift _ s from rfl)
theorem shape_pcieError {x0} {x1} (s : State) : Shape (.pcieError x0 x1) s := .part _ (show execPcieError x0 x1 s = lift _ s from rfl)
theorem shape_hostLoss {x0} {x1} (s : State) : Shape (.hostLoss x0 x1) s := .part _ (show execHostLoss x0 x1 s = lift _ s from rfl)
theorem shape_hostPortReset {x0} {x1} (s : State) : Shape (.hostPortReset x0 x1) s := .part _ (show execHostPortReset x0 x1 s = lift _ s from rfl)
theorem shape_hostReturn {x0} {x1} (s : State) : Shape (.hostReturn x0 x1) s := .part _ (show execHostReturn x0 x1 s = lift _ s from rfl)
theorem shape_dqEnableA {x0} {x1} (s : State) : Shape (.dqEnableA x0 x1) s := .warm _ (show execDqEnableA x0 x1 s = liftW _ s from rfl)
theorem shape_dqEnableB {x0} {x1} (s : State) : Shape (.dqEnableB x0 x1) s := .warm _ (show execDqEnableB x0 x1 s = liftW _ s from rfl)
theorem shape_dqDisable {x0} {x1} (s : State) : Shape (.dqDisable x0 x1) s := .warm _ (show execDqDisable x0 x1 s = liftW _ s from rfl)
theorem shape_dqReset {x0} {x1} (s : State) : Shape (.dqReset x0 x1) s := .warm _ (show execDqReset x0 x1 s = liftW _ s from rfl)
theorem shape_dqResume {x0} {x1} (s : State) : Shape (.dqResume x0 x1) s := .warm _ (show execDqResume x0 x1 s = liftW _ s from rfl)
theorem shape_dqRehomeA {x0} {x1} (s : State) : Shape (.dqRehomeA x0 x1) s := .warm _ (show execDqRehomeA x0 x1 s = liftW _ s from rfl)
theorem shape_dqRehomeB {x0} {x1} (s : State) : Shape (.dqRehomeB x0 x1) s := .warm _ (show execDqRehomeB x0 x1 s = liftW _ s from rfl)
theorem shape_dqStopDone {x0} (s : State) : Shape (.dqStopDone x0) s := .part _ (show execDqStopDone x0 s = lift _ s from rfl)
theorem shape_dmaSlice {x0} {x1} (s : State) : Shape (.dmaSlice x0 x1) s := .part _ (show execDmaSlice x0 x1 s = lift _ s from rfl)
theorem shape_dmaReadCompletion {x0} {x1} {x2} {x3} (s : State) : Shape (.dmaReadCompletion x0 x1 x2 x3) s := .epoch _ (show execDmaReadCompletion x0 x1 x2 x3 s = liftE _ s from rfl)
theorem shape_dmaCplTimeout {x0} {x1} (s : State) : Shape (.dmaCplTimeout x0 x1) s := .part _ (show execDmaCplTimeout x0 x1 s = lift _ s from rfl)
theorem shape_cqHeadPoll {x0} {x1} (s : State) : Shape (.cqHeadPoll x0 x1) s := .part _ (show execCqHeadPoll x0 x1 s = lift _ s from rfl)
theorem shape_coalTimer {x0} (s : State) : Shape (.coalTimer x0) s := .part _ (show execCoalTimer x0 s = lift _ s from rfl)
theorem shape_drainBufferTimer {x0} (s : State) : Shape (.drainBufferTimer x0) s := .part _ (show execDrainBufferTimer x0 s = lift _ s from rfl)
theorem shape_injectDeliver {x0} (s : State) : Shape (.injectDeliver x0) s := .part _ (show execInjectDeliver x0 s = lift _ s from rfl)
theorem shape_mailboxSubmit {x0} {x1} (s : State) : Shape (.mailboxSubmit x0 x1) s := .warm _ (show execMailboxSubmit x0 x1 s = liftW _ s from rfl)
theorem shape_directWindowWrite {x0} {x1} {x2} {x3} (s : State) : Shape (.directWindowWrite x0 x1 x2 x3) s := .warm _ (show execDirectWindowWrite x0 x1 x2 x3 s = liftW _ s from rfl)
theorem shape_read {x0} (s : State) : Shape (.read x0) s := .warm _ (show execRead x0 s = liftW _ s from rfl)
theorem shape_write {x0} {x1} {x2} {x3} {x4} (s : State) : Shape (.write x0 x1 x2 x3 x4) s := .warm _ (show execWrite x0 x1 x2 x3 x4 s = liftW _ s from rfl)
theorem shape_readInForce {x0} {x1} {x2} (s : State) : Shape (.readInForce x0 x1 x2) s := .warm _ (show execReadInForce x0 x1 x2 s = liftW _ s from rfl)
theorem shape_readPart {x0} {x1} {x2} {x3} (s : State) : Shape (.readPart x0 x1 x2 x3) s := .warm _ (show execReadPart x0 x1 x2 x3 s = liftW _ s from rfl)
theorem shape_writePart {x0} {x1} {x2} {x3} {x4} {x5} (s : State) : Shape (.writePart x0 x1 x2 x3 x4 x5) s := .warm _ (show execWritePart x0 x1 x2 x3 x4 x5 s = liftW _ s from rfl)
theorem shape_describe {x0} {x1} {x2} (s : State) : Shape (.describe x0 x1 x2) s := .warm _ (show execDescribe x0 x1 x2 s = liftW _ s from rfl)
theorem shape_nextObject {x0} {x1} (s : State) : Shape (.nextObject x0 x1) s := .warm _ (show execNextObject x0 x1 s = liftW _ s from rfl)
theorem shape_sessionOpen {x0} (s : State) : Shape (.sessionOpen x0) s := .warm _ (show execSessionOpen x0 s = liftW _ s from rfl)
theorem shape_sessionCommit {x0} {x1} {x2} (s : State) : Shape (.sessionCommit x0 x1 x2) s := .warm _ (show execSessionCommit x0 x1 x2 s = liftW _ s from rfl)
theorem shape_sessionDiscard {x0} {x1} (s : State) : Shape (.sessionDiscard x0 x1) s := .warm _ (show execSessionDiscard x0 x1 s = liftW _ s from rfl)
theorem shape_sessionTimeout {x0} (s : State) : Shape (.sessionTimeout x0) s := .warm _ (show execSessionTimeout x0 s = liftW _ s from rfl)
theorem shape_commandClaimExpire {x0} {x1} (s : State) : Shape (.commandClaimExpire x0 x1) s := .warm _ (show execCommandClaimExpire x0 x1 s = liftW _ s from rfl)
theorem shape_cfgGenerationWrite (s : State) : Shape (.cfgGenerationWrite) s := .part _ (show execCfgGenerationWrite s = lift _ s from rfl)
theorem shape_cfgSync {x0} {x1} (s : State) : Shape (.cfgSync x0 x1) s := .warm _ (show execCfgSync x0 x1 s = liftW _ s from rfl)
theorem shape_cfgClear {x0} (s : State) : Shape (.cfgClear x0) s := .warm _ (show execCfgClear x0 s = liftW _ s from rfl)
theorem shape_mgmtFrameReceive {x0} {x1} {x2} (s : State) : Shape (.mgmtFrameReceive x0 x1 x2) s := .warm0 (fun d => Dev.cgErrors d x0.val x2) (fun ep d => Dev.mgmtFrame ep d x0.val x1) rfl rfl
theorem shape_mportLinkUp {x0} {x1} {x2} {x3} (s : State) : Shape (.mportLinkUp x0 x1 x2 x3) s := .d0 _ (show execMportLinkUp x0 x1 x2 x3 s = lift0 _ s from rfl) rfl
theorem shape_mportLinkDown {x0} {x1} (s : State) : Shape (.mportLinkDown x0 x1) s := .d0 _ (show execMportLinkDown x0 x1 s = lift0 _ s from rfl) rfl
theorem shape_dhcpLeaseExpire {x0} (s : State) : Shape (.dhcpLeaseExpire x0) s := .part _ (show execDhcpLeaseExpire x0 s = lift _ s from rfl)
theorem shape_dhcpDiscoverRetry {x0} (s : State) : Shape (.dhcpDiscoverRetry x0) s := .part _ (show execDhcpDiscoverRetry x0 s = lift _ s from rfl)
theorem shape_dadComplete {x0} {x1} {x2} (s : State) : Shape (.dadComplete x0 x1 x2) s := .part _ (show execDadComplete x0 x1 x2 s = lift _ s from rfl)
theorem shape_udpRequest {x0} {x1} {x2} {x3} {x4} {x5} (s : State) : Shape (.udpRequest x0 x1 x2 x3 x4 x5) s := .warm _ (show execUdpRequest x0 x1 x2 x3 x4 x5 s = liftW _ s from rfl)
theorem shape_lldpTxTimer {x0} (s : State) : Shape (.lldpTxTimer x0) s := .part _ (show execLldpTxTimer x0 s = lift _ s from rfl)
theorem shape_lldpReceive {x0} {x1} (s : State) : Shape (.lldpReceive x0 x1) s := .part _ (show execLldpReceive x0 x1 s = lift _ s from rfl)
theorem shape_lldpTtlExpire {x0} (s : State) : Shape (.lldpTtlExpire x0) s := .part _ (show execLldpTtlExpire x0 s = lift _ s from rfl)
theorem shape_i3cAddressAssign {x0} {x1} (s : State) : Shape (.i3cAddressAssign x0 x1) s := .d0 _ (show execI3cAddressAssign x0 x1 s = lift0 _ s from rfl) rfl
theorem shape_i3cRstdaa (s : State) : Shape (.i3cRstdaa) s := .d0 _ (show execI3cRstdaa s = lift0 _ s from rfl) rfl
theorem shape_mctpTuileyMessage {x0} {x1} (s : State) : Shape (.mctpTuileyMessage x0 x1) s := .warm _ (show execMctpTuileyMessage x0 x1 s = liftW _ s from rfl)
theorem shape_setEndpointId {x0} {x1} {x2} {x3} {x4} (s : State) : Shape (.setEndpointId x0 x1 x2 x3 x4) s := .part _ (show execSetEndpointId x0 x1 x2 x3 x4 s = lift _ s from rfl)
theorem shape_getEndpointId {x0} {x1} {x2} (s : State) : Shape (.getEndpointId x0 x1 x2) s := .part _ (show execGetEndpointId x0 x1 x2 s = lift _ s from rfl)
theorem shape_getEndpointUuid {x0} {x1} {x2} (s : State) : Shape (.getEndpointUuid x0 x1 x2) s := .part _ (show execGetEndpointUuid x0 x1 x2 s = lift _ s from rfl)
theorem shape_getMctpVersionSupport {x0} {x1} {x2} {x3} (s : State) : Shape (.getMctpVersionSupport x0 x1 x2 x3) s := .part _ (show execGetMctpVersionSupport x0 x1 x2 x3 s = lift _ s from rfl)
theorem shape_getMessageTypeSupport {x0} {x1} {x2} (s : State) : Shape (.getMessageTypeSupport x0 x1 x2) s := .part _ (show execGetMessageTypeSupport x0 x1 x2 s = lift _ s from rfl)
theorem shape_getVendorMessageSupport {x0} {x1} {x2} {x3} (s : State) : Shape (.getVendorMessageSupport x0 x1 x2 x3) s := .part _ (show execGetVendorMessageSupport x0 x1 x2 x3 s = lift _ s from rfl)
theorem shape_prepareForEndpointDiscovery {x0} {x1} {x2} (s : State) : Shape (.prepareForEndpointDiscovery x0 x1 x2) s := .part _ (show execPrepareForEndpointDiscovery x0 x1 x2 s = lift _ s from rfl)
theorem shape_endpointDiscovery {x0} {x1} {x2} (s : State) : Shape (.endpointDiscovery x0 x1 x2) s := .part _ (show execEndpointDiscovery x0 x1 x2 s = lift _ s from rfl)
theorem shape_unsupportedControlCmd {x0} {x1} {x2} {x3} (s : State) : Shape (.unsupportedControlCmd x0 x1 x2 x3) s := .part _ (show execUnsupportedControlCmd x0 x1 x2 x3 s = lift _ s from rfl)
theorem shape_eidAnnounceTimer {x0} (s : State) : Shape (.eidAnnounceTimer x0) s := .part _ (show execEidAnnounceTimer x0 s = lift _ s from rfl)
theorem shape_fwStageChunk {x0} {x1} (s : State) : Shape (.fwStageChunk x0 x1) s := .warm _ (show execFwStageChunk x0 x1 s = liftW _ s from rfl)
theorem shape_fwWriteSlot {x0} {x1} (s : State) : Shape (.fwWriteSlot x0 x1) s := .warm _ (show execFwWriteSlot x0 x1 s = liftW _ s from rfl)
theorem shape_fwSlotWriteDone {x0} (s : State) : Shape (.fwSlotWriteDone x0) s := .part _ (show execFwSlotWriteDone x0 s = lift _ s from rfl)
theorem shape_fwActivateNow {x0} {x1} (s : State) : Shape (.fwActivateNow x0 x1) s := .warm _ (show execFwActivateNow x0 x1 s = liftW _ s from rfl)
theorem shape_fwActivateNext {x0} {x1} (s : State) : Shape (.fwActivateNext x0 x1) s := .warm _ (show execFwActivateNext x0 x1 s = liftW _ s from rfl)
theorem shape_fwAbort {x0} {x1} (s : State) : Shape (.fwAbort x0 x1) s := .warm _ (show execFwAbort x0 x1 s = liftW _ s from rfl)
theorem shape_fwSessionTimeout (s : State) : Shape (.fwSessionTimeout) s := .part _ (show execFwSessionTimeout s = lift _ s from rfl)
theorem shape_fwConfirm {x0} (s : State) : Shape (.fwConfirm x0) s := .warm _ (show execFwConfirm x0 s = liftW _ s from rfl)
theorem shape_fwSelfConfirm {x0} (s : State) : Shape (.fwSelfConfirm x0) s := .part _ (show execFwSelfConfirm x0 s = lift _ s from rfl)
theorem shape_fwWindowExpire (s : State) : Shape (.fwWindowExpire) s := .part _ (show execFwWindowExpire s = lift _ s from rfl)
theorem shape_bootRom (s : State) : Shape (.bootRom) s := .boot _ (show execBootRom s = liftB _ s from rfl) rfl
theorem shape_bootHoldRetry (s : State) : Shape (.bootHoldRetry) s := .boot _ (show execBootHoldRetry s = liftB _ s from rfl) rfl
theorem shape_watchdogExpire (s : State) : Shape (.watchdogExpire) s := .part _ (show execWatchdogExpire s = lift _ s from rfl)
theorem shape_processorFatal (s : State) : Shape (.processorFatal) s := .part _ (show execProcessorFatal s = lift _ s from rfl)
theorem shape_mgmtRestart {x0} {x1} (s : State) : Shape (.mgmtRestart x0 x1) s := .warm _ (show execMgmtRestart x0 x1 s = liftW _ s from rfl)
theorem shape_mgmtRestartDone {x0} (s : State) : Shape (.mgmtRestartDone x0) s := .warm _ (show execMgmtRestartDone x0 s = liftW _ s from rfl)
theorem shape_pctlReload {x0} (s : State) : Shape (.pctlReload x0) s := .part _ (show execPctlReload x0 s = lift _ s from rfl)
theorem shape_gmcuReload {x0} (s : State) : Shape (.gmcuReload x0) s := .part _ (show execGmcuReload x0 s = lift _ s from rfl)
theorem shape_flashInhibitClear (s : State) : Shape (.flashInhibitClear) s := .boot _ (show execFlashInhibitClear s = liftB _ s from rfl) rfl
theorem shape_pfailAssert (s : State) : Shape (.pfailAssert) s := .boot _ (show execPfailAssert s = liftB _ s from rfl) rfl
theorem shape_capStep {x0} (s : State) : Shape (.capStep x0) s := .part _ (show execCapStep x0 s = lift _ s from rfl)
theorem shape_railRead {x0} {x1} (s : State) : Shape (.railRead x0 x1) s := .part _ (show execRailRead x0 x1 s = lift _ s from rfl)
theorem shape_thermalStep (s : State) : Shape (.thermalStep) s := .part _ (show execThermalStep s = lift _ s from rfl)
theorem shape_sensorSample {x0} (s : State) : Shape (.sensorSample x0) s := .d0 _ (show execSensorSample x0 s = lift0 _ s from rfl) rfl
theorem shape_ageingReport {x0} (s : State) : Shape (.ageingReport x0) s := .part _ (show execAgeingReport x0 s = lift _ s from rfl)
theorem shape_supplyLoss {x0} (s : State) : Shape (.supplyLoss x0) s := .d0 _ (show execSupplyLoss x0 s = lift0 _ s from rfl) rfl
theorem shape_supplyGood {x0} (s : State) : Shape (.supplyGood x0) s := .d0 _ (show execSupplyGood x0 s = lift0 _ s from rfl) rfl
theorem shape_tileIdleOff {x0} (s : State) : Shape (.tileIdleOff x0) s := .part _ (show execTileIdleOff x0 s = lift _ s from rfl)
theorem shape_porstAssert {x0} (s : State) : Shape (.porstAssert x0) s := .d0 _ (show execPorstAssert x0 s = lift0 _ s from rfl) rfl
theorem shape_coldReset {x0} {x1} {x2} (s : State) : Shape (.coldReset x0 x1 x2) s := .cold _ _ _ rfl
theorem shape_rootPllLock (s : State) : Shape (.rootPllLock) s := .boot _ (show execRootPllLock s = liftB _ s from rfl) rfl
theorem shape_warmArm {x0} (s : State) : Shape (.warmArm x0) s := .warm _ (show execWarmArm x0 s = liftW _ s from rfl)
theorem shape_warmReset {x0} {x1} {x2} (s : State) : Shape (.warmReset x0 x1 x2) s := .warm _ (show execWarmReset x0 x1 x2 s = liftW _ s from rfl)
theorem shape_pipeReset {x0} {x1} {x2} (s : State) : Shape (.pipeReset x0 x1 x2) s := .warm _ (show execPipeReset x0 x1 x2 s = liftW _ s from rfl)
theorem shape_pipeResetDone (s : State) : Shape (.pipeResetDone) s := .part _ (show execPipeResetDone s = lift _ s from rfl)
theorem shape_refClockFault {x0} {x1} (s : State) : Shape (.refClockFault x0 x1) s := .boot _ (show execRefClockFault x0 x1 s = liftB _ s from rfl) rfl
theorem shape_refClockReturn (s : State) : Shape (.refClockReturn) s := .boot _ (show execRefClockReturn s = liftB _ s from rfl) rfl
theorem shape_bankScrub {x0} (s : State) : Shape (.bankScrub x0) s := .part _ (show execBankScrub x0 s = lift _ s from rfl)
theorem shape_shadowScrub {x0} (s : State) : Shape (.shadowScrub x0) s := .part _ (show execShadowScrub x0 s = lift _ s from rfl)
theorem shape_fatalCheck (s : State) : Shape (.fatalCheck) s := .part _ (show execFatalCheck s = lift _ s from rfl)
theorem shape_fatalClear {x0} {x1} (s : State) : Shape (.fatalClear x0 x1) s := .warm _ (show execFatalClear x0 x1 s = liftW _ s from rfl)
theorem shape_crashCapture {x0} (s : State) : Shape (.crashCapture x0) s := .warm _ (show execCrashCapture x0 s = liftW _ s from rfl)
theorem shape_crashRead {x0} {x1} {x2} (s : State) : Shape (.crashRead x0 x1 x2) s := .warm _ (show execCrashRead x0 x1 x2 s = liftW _ s from rfl)
theorem shape_exhaustCheck (s : State) : Shape (.exhaustCheck) s := .part _ (show execExhaustCheck s = lift _ s from rfl)
theorem shape_lifeHour (s : State) : Shape (.lifeHour) s := .part _ (show execLifeHour s = lift _ s from rfl)
theorem shape_elementWrite {x0} {x1} {x2} {x3} (s : State) : Shape (.elementWrite x0 x1 x2 x3) s := .warm _ (show execElementWrite x0 x1 x2 x3 s = liftW _ s from rfl)
theorem shape_mainFirmwareRuns {x0} {x1} (s : State) : Shape (.mainFirmwareRuns x0 x1) s := .warm _ (show execMainFirmwareRuns x0 x1 s = liftW _ s from rfl)
theorem shape_pulseTrailingEdge {x0} (s : State) : Shape (.pulseTrailingEdge x0) s := .part _ (show execPulseTrailingEdge x0 s = lift _ s from rfl)
theorem shape_dhcpRenewal {x0} (s : State) : Shape (.dhcpRenewal x0) s := .part _ (show execDhcpRenewal x0 s = lift _ s from rfl)
theorem shape_bufferScrub {x0} {x1} {x2} (s : State) : Shape (.bufferScrub x0 x1 x2) s := .part _ (show execBufferScrub x0 x1 x2 s = lift _ s from rfl)
theorem shape_warmArmExpire (s : State) : Shape (.warmArmExpire) s := .part _ (show execWarmArmExpire s = lift _ s from rfl)

/-- Every command has one of the shapes. -/
theorem shape (c : Instr) (s : State) : Shape c s :=
  match c with
  | .frameReceive _ _ _ _ _ _ => shape_frameReceive s
  | .frameTailArrive _ _ _ _ _ => shape_frameTailArrive s
  | .arbiterAccept _ _ => shape_arbiterAccept s
  | .thresherStart _ => shape_thresherStart s
  | .costGatePass _ _ _ _ => shape_costGatePass s
  | .opNop _ => shape_opNop s
  | .opEnd _ => shape_opEnd s
  | .opMov _ _ _ _ => shape_opMov s
  | .opAdd _ _ _ _ _ => shape_opAdd s
  | .opSub _ _ _ _ _ => shape_opSub s
  | .opSubs _ _ _ _ _ => shape_opSubs s
  | .opAnd _ _ _ _ _ => shape_opAnd s
  | .opOr _ _ _ _ _ => shape_opOr s
  | .opXor _ _ _ _ _ => shape_opXor s
  | .opShl _ _ _ _ _ => shape_opShl s
  | .opShr _ _ _ _ _ => shape_opShr s
  | .opMin _ _ _ _ _ => shape_opMin s
  | .opMax _ _ _ _ _ => shape_opMax s
  | .opSkeq _ _ _ _ _ => shape_opSkeq s
  | .opSkne _ _ _ _ _ => shape_opSkne s
  | .opSklt _ _ _ _ _ => shape_opSklt s
  | .opSkge _ _ _ _ _ => shape_opSkge s
  | .opMset _ _ _ _ => shape_opMset s
  | .opMget _ _ _ _ => shape_opMget s
  | .opLkem _ _ _ _ _ _ => shape_opLkem s
  | .opLklpm4 _ _ _ _ => shape_opLklpm4 s
  | .opLklpm6 _ _ _ _ => shape_opLklpm6 s
  | .opLknh _ _ _ _ => shape_opLknh s
  | .opLkgrp _ _ _ _ _ => shape_opLkgrp s
  | .opHash _ _ _ => shape_opHash s
  | .opWin _ _ _ _ => shape_opWin s
  | .opTcam _ _ _ _ _ => shape_opTcam s
  | .opLkix _ _ _ _ _ _ => shape_opLkix s
  | .packetAdmit _ => shape_packetAdmit s
  | .pfcFrameSend _ => shape_pfcFrameSend s
  | .pfcRefreshTimer _ _ => shape_pfcRefreshTimer s
  | .pfcFrameReceive _ _ => shape_pfcFrameReceive s
  | .pauseTimerExpire _ _ => shape_pauseTimerExpire s
  | .schedSelect _ _ _ _ => shape_schedSelect s
  | .frameTransmit _ _ _ => shape_frameTransmit s
  | .launchRelease _ _ => shape_launchRelease s
  | .frameTxEnd _ _ => shape_frameTxEnd s
  | .ageCheckTimer => shape_ageCheckTimer s
  | .downHoldExpire _ => shape_downHoldExpire s
  | .flushDone _ => shape_flushDone s
  | .auditPeriod => shape_auditPeriod s
  | .auditRequest _ _ => shape_auditRequest s
  | .auditDone => shape_auditDone s
  | .mcSet _ _ _ _ => shape_mcSet s
  | .mcRead _ _ _ => shape_mcRead s
  | .mcClear _ _ _ => shape_mcClear s
  | .portAdminUp _ _ => shape_portAdminUp s
  | .portAdminDown _ _ => shape_portAdminDown s
  | .signalDetect _ => shape_signalDetect s
  | .anComplete _ _ => shape_anComplete s
  | .anTimeout _ => shape_anTimeout s
  | .ltComplete _ _ => shape_ltComplete s
  | .trainingTimeout _ => shape_trainingTimeout s
  | .c2mAdaptDone _ _ => shape_c2mAdaptDone s
  | .alignmentLock _ => shape_alignmentLock s
  | .alignmentTimeout _ => shape_alignmentTimeout s
  | .portDebounceUp _ => shape_portDebounceUp s
  | .portRetryTimer _ => shape_portRetryTimer s
  | .linkFaultDetect _ _ => shape_linkFaultDetect s
  | .linkFaultClear _ _ => shape_linkFaultClear s
  | .portDownDebounce _ => shape_portDownDebounce s
  | .fecDegradeCheck _ _ _ _ => shape_fecDegradeCheck s
  | .tileReachWrite _ _ _ => shape_tileReachWrite s
  | .laneAdaptRestart _ _ => shape_laneAdaptRestart s
  | .laneAdaptDone _ _ => shape_laneAdaptDone s
  | .tileSeedSave _ _ => shape_tileSeedSave s
  | .rouriWireFail _ _ _ => shape_rouriWireFail s
  | .rouriRepairDone _ _ => shape_rouriRepairDone s
  | .tileMcuHeartbeatMiss _ _ => shape_tileMcuHeartbeatMiss s
  | .tileMcuReload _ => shape_tileMcuReload s
  | .tileMcuReloadDone _ _ => shape_tileMcuReloadDone s
  | .tblInsert _ _ _ _ => shape_tblInsert s
  | .tblModify _ _ _ _ => shape_tblModify s
  | .tblDelete _ _ _ _ => shape_tblDelete s
  | .tblRead _ _ _ => shape_tblRead s
  | .groupCreate _ _ _ _ => shape_groupCreate s
  | .groupDelete _ _ _ _ => shape_groupDelete s
  | .memberAdd _ _ _ _ => shape_memberAdd s
  | .memberRemove _ _ _ _ => shape_memberRemove s
  | .slotWrite _ _ _ _ => shape_slotWrite s
  | .visibilitySettlement => shape_visibilitySettlement s
  | .settlementDone => shape_settlementDone s
  | .barnPeerRepair _ => shape_barnPeerRepair s
  | .barnScrubPass _ _ _ _ => shape_barnScrubPass s
  | .progStageChunk _ _ => shape_progStageChunk s
  | .progLoad _ _ => shape_progLoad s
  | .progLoadWrite => shape_progLoadWrite s
  | .progLoadDone _ => shape_progLoadDone s
  | .progLoadDiscard _ => shape_progLoadDiscard s
  | .epochFlip _ _ => shape_epochFlip s
  | .flipAckWait => shape_flipAckWait s
  | .flipAckTimeout _ => shape_flipAckTimeout s
  | .flipCommit => shape_flipCommit s
  | .ingressDrainEnd _ => shape_ingressDrainEnd s
  | .bankRelease _ => shape_bankRelease s
  | .epochReleaseLimit => shape_epochReleaseLimit s
  | .bankCopy _ => shape_bankCopy s
  | .bankCopyDone _ => shape_bankCopyDone s
  | .stageAbort _ => shape_stageAbort s
  | .stageAbortDone => shape_stageAbortDone s
  | .stageReset _ => shape_stageReset s
  | .baleCloseTimer _ => shape_baleCloseTimer s
  | .baleWriteDone _ => shape_baleWriteDone s
  | .baleReturnRead => shape_baleReturnRead s
  | .baleReturnDone _ _ _ => shape_baleReturnDone s
  | .granaryScrubPass _ _ => shape_granaryScrubPass s
  | .segmentFailDeclare _ _ => shape_segmentFailDeclare s
  | .segmentRemap _ _ => shape_segmentRemap s
  | .hpprDone _ _ _ => shape_hpprDone s
  | .stackTempAlarm _ _ => shape_stackTempAlarm s
  | .stackRetire _ _ => shape_stackRetire s
  | .retireDrainEnd _ => shape_retireDrainEnd s
  | .stackUnretire _ _ => shape_stackUnretire s
  | .driftCheck _ _ _ => shape_driftCheck s
  | .granaryTrainingDone _ => shape_granaryTrainingDone s
  | .telStoreMigrate => shape_telStoreMigrate s
  | .wheelRelease _ => shape_wheelRelease s
  | .wheelOverflowMove _ => shape_wheelOverflowMove s
  | .polSet _ _ _ _ => shape_polSet s
  | .polRead _ _ _ => shape_polRead s
  | .polClearCounters _ _ _ => shape_polClearCounters s
  | .tbStep _ _ _ => shape_tbStep s
  | .tbTimeSet _ _ _ => shape_tbTimeSet s
  | .tbRateSet _ _ _ => shape_tbRateSet s
  | .tbOffset _ _ _ => shape_tbOffset s
  | .tbMasterNew _ _ => shape_tbMasterNew s
  | .tbServoMode _ _ _ => shape_tbServoMode s
  | .tbHoldoverTimeout _ => shape_tbHoldoverTimeout s
  | .tbRateSave _ => shape_tbRateSave s
  | .captureEdge _ _ _ => shape_captureEdge s
  | .capPop _ _ => shape_capPop s
  | .pulseEdge _ => shape_pulseEdge s
  | .txtsPop _ _ _ => shape_txtsPop s
  | .tallyIdleSweep => shape_tallyIdleSweep s
  | .tallySnapshot _ _ => shape_tallySnapshot s
  | .tallySnapshotDone => shape_tallySnapshotDone s
  | .tallyClear _ _ => shape_tallyClear s
  | .histClear _ _ => shape_histClear s
  | .histClearPort _ _ => shape_histClearPort s
  | .wrapClear _ => shape_wrapClear s
  | .perfConfigWrite _ _ _ _ => shape_perfConfigWrite s
  | .gleanerSweep => shape_gleanerSweep s
  | .streamExport _ => shape_streamExport s
  | .hlHeartbeat _ => shape_hlHeartbeat s
  | .heartbeatTimeout _ => shape_heartbeatTimeout s
  | .evtCauseClear _ _ => shape_evtCauseClear s
  | .vecBind _ _ _ _ _ => shape_vecBind s
  | .vecUnbind _ _ _ _ => shape_vecUnbind s
  | .vecRead _ _ _ _ => shape_vecRead s
  | .bar0BadAccess _ _ => shape_bar0BadAccess s
  | .doorbell _ _ _ _ => shape_doorbell s
  | .atsInvalidate _ _ _ _ => shape_atsInvalidate s
  | .priResponse _ _ _ => shape_priResponse s
  | .pcieError _ _ => shape_pcieError s
  | .hostLoss _ _ => shape_hostLoss s
  | .hostPortReset _ _ => shape_hostPortReset s
  | .hostReturn _ _ => shape_hostReturn s
  | .dqEnableA _ _ => shape_dqEnableA s
  | .dqEnableB _ _ => shape_dqEnableB s
  | .dqDisable _ _ => shape_dqDisable s
  | .dqReset _ _ => shape_dqReset s
  | .dqResume _ _ => shape_dqResume s
  | .dqRehomeA _ _ => shape_dqRehomeA s
  | .dqRehomeB _ _ => shape_dqRehomeB s
  | .dqStopDone _ => shape_dqStopDone s
  | .dmaSlice _ _ => shape_dmaSlice s
  | .dmaReadCompletion _ _ _ _ => shape_dmaReadCompletion s
  | .dmaCplTimeout _ _ => shape_dmaCplTimeout s
  | .cqHeadPoll _ _ => shape_cqHeadPoll s
  | .coalTimer _ => shape_coalTimer s
  | .drainBufferTimer _ => shape_drainBufferTimer s
  | .injectDeliver _ => shape_injectDeliver s
  | .mailboxSubmit _ _ => shape_mailboxSubmit s
  | .directWindowWrite _ _ _ _ => shape_directWindowWrite s
  | .read _ => shape_read s
  | .write _ _ _ _ _ => shape_write s
  | .readInForce _ _ _ => shape_readInForce s
  | .readPart _ _ _ _ => shape_readPart s
  | .writePart _ _ _ _ _ _ => shape_writePart s
  | .describe _ _ _ => shape_describe s
  | .nextObject _ _ => shape_nextObject s
  | .sessionOpen _ => shape_sessionOpen s
  | .sessionCommit _ _ _ => shape_sessionCommit s
  | .sessionDiscard _ _ => shape_sessionDiscard s
  | .sessionTimeout _ => shape_sessionTimeout s
  | .commandClaimExpire _ _ => shape_commandClaimExpire s
  | .cfgGenerationWrite => shape_cfgGenerationWrite s
  | .cfgSync _ _ => shape_cfgSync s
  | .cfgClear _ => shape_cfgClear s
  | .mgmtFrameReceive _ _ _ => shape_mgmtFrameReceive s
  | .mportLinkUp _ _ _ _ => shape_mportLinkUp s
  | .mportLinkDown _ _ => shape_mportLinkDown s
  | .dhcpLeaseExpire _ => shape_dhcpLeaseExpire s
  | .dhcpDiscoverRetry _ => shape_dhcpDiscoverRetry s
  | .dadComplete _ _ _ => shape_dadComplete s
  | .udpRequest _ _ _ _ _ _ => shape_udpRequest s
  | .lldpTxTimer _ => shape_lldpTxTimer s
  | .lldpReceive _ _ => shape_lldpReceive s
  | .lldpTtlExpire _ => shape_lldpTtlExpire s
  | .i3cAddressAssign _ _ => shape_i3cAddressAssign s
  | .i3cRstdaa => shape_i3cRstdaa s
  | .mctpTuileyMessage _ _ => shape_mctpTuileyMessage s
  | .setEndpointId _ _ _ _ _ => shape_setEndpointId s
  | .getEndpointId _ _ _ => shape_getEndpointId s
  | .getEndpointUuid _ _ _ => shape_getEndpointUuid s
  | .getMctpVersionSupport _ _ _ _ => shape_getMctpVersionSupport s
  | .getMessageTypeSupport _ _ _ => shape_getMessageTypeSupport s
  | .getVendorMessageSupport _ _ _ _ => shape_getVendorMessageSupport s
  | .prepareForEndpointDiscovery _ _ _ => shape_prepareForEndpointDiscovery s
  | .endpointDiscovery _ _ _ => shape_endpointDiscovery s
  | .unsupportedControlCmd _ _ _ _ => shape_unsupportedControlCmd s
  | .eidAnnounceTimer _ => shape_eidAnnounceTimer s
  | .fwStageChunk _ _ => shape_fwStageChunk s
  | .fwWriteSlot _ _ => shape_fwWriteSlot s
  | .fwSlotWriteDone _ => shape_fwSlotWriteDone s
  | .fwActivateNow _ _ => shape_fwActivateNow s
  | .fwActivateNext _ _ => shape_fwActivateNext s
  | .fwAbort _ _ => shape_fwAbort s
  | .fwSessionTimeout => shape_fwSessionTimeout s
  | .fwConfirm _ => shape_fwConfirm s
  | .fwSelfConfirm _ => shape_fwSelfConfirm s
  | .fwWindowExpire => shape_fwWindowExpire s
  | .bootRom => shape_bootRom s
  | .bootHoldRetry => shape_bootHoldRetry s
  | .watchdogExpire => shape_watchdogExpire s
  | .processorFatal => shape_processorFatal s
  | .mgmtRestart _ _ => shape_mgmtRestart s
  | .mgmtRestartDone _ => shape_mgmtRestartDone s
  | .pctlReload _ => shape_pctlReload s
  | .gmcuReload _ => shape_gmcuReload s
  | .flashInhibitClear => shape_flashInhibitClear s
  | .pfailAssert => shape_pfailAssert s
  | .capStep _ => shape_capStep s
  | .railRead _ _ => shape_railRead s
  | .thermalStep => shape_thermalStep s
  | .sensorSample _ => shape_sensorSample s
  | .ageingReport _ => shape_ageingReport s
  | .supplyLoss _ => shape_supplyLoss s
  | .supplyGood _ => shape_supplyGood s
  | .tileIdleOff _ => shape_tileIdleOff s
  | .porstAssert _ => shape_porstAssert s
  | .coldReset _ _ _ => shape_coldReset s
  | .rootPllLock => shape_rootPllLock s
  | .warmArm _ => shape_warmArm s
  | .warmReset _ _ _ => shape_warmReset s
  | .pipeReset _ _ _ => shape_pipeReset s
  | .pipeResetDone => shape_pipeResetDone s
  | .refClockFault _ _ => shape_refClockFault s
  | .refClockReturn => shape_refClockReturn s
  | .bankScrub _ => shape_bankScrub s
  | .shadowScrub _ => shape_shadowScrub s
  | .fatalCheck => shape_fatalCheck s
  | .fatalClear _ _ => shape_fatalClear s
  | .crashCapture _ => shape_crashCapture s
  | .crashRead _ _ _ => shape_crashRead s
  | .exhaustCheck => shape_exhaustCheck s
  | .lifeHour => shape_lifeHour s
  | .elementWrite _ _ _ _ => shape_elementWrite s
  | .mainFirmwareRuns _ _ => shape_mainFirmwareRuns s
  | .pulseTrailingEdge _ => shape_pulseTrailingEdge s
  | .dhcpRenewal _ => shape_dhcpRenewal s
  | .bufferScrub _ _ _ => shape_bufferScrub s
  | .warmArmExpire => shape_warmArmExpire s

end Sys2Proof.Machine
end

