-- ==== Sys2Proof/Laws/Whole.lean ====
section
/-! SUPPORT. Resets of the whole part, and what a meaning that may start one answers. -/
namespace Sys2Proof.Machine

theorem settle_pending (s : State) : (State.settle s).pending = s.pending := by
  unfold State.settle; split <;> rfl
theorem liftW_next (f : Nat → Dev → Dev) (s : State) : ∃ t, liftW f s = .next t ∧ t.pending = s.pending := by
  refine ⟨_, rfl, ?_⟩
  split
  · rfl
  · rw [settle_pending]

theorem slotEls_keeps {γ : Type} (g : Dev → γ) (h1 : ∀ d k v, g (Dev.setEl d k v) = g d) (d i) : g (Dev.slotEls d i) = g d := by
  unfold Dev.slotEls
  simp only [h1]

theorem setStraps_keeps {γ : Type} (g : Dev → γ) (h1 : ∀ d k v, g (Dev.setEl d k v) = g d) (d : Dev) (s : Nat) :
    g (Dev.setStraps d s) = g d := by
  unfold Dev.setStraps
  simp only [h1]

theorem coldReset_keeps {γ : Type} (g : Dev → γ) (d : Dev) (kind : Nat) (h1 : ∀ d k v, g (Dev.setEl d k v) = g d) (h2 : ∀ d k v, g (Dev.setBlob d k v) = g d)
   (h3 : ∀ d o, g (Dev.emit d o) = g d) (c : γ) 
   (h4 : ∀ a b c' e f g' h' i', g { Dev.reset with free := a, out := b, dict := c', pwr := e, mgmt := f, fw := g', rst := h', gran := i' } = c) : g (Dev.coldReset d kind) = c := by
  unfold Dev.coldReset
  dsimp only
  split <;> simp only [h3, setStraps_keeps g h1, foldl_keeps g _ (slotEls_keeps g h1), h1, h2, h4]

theorem coldReset_clear (d k) : (Dev.coldReset d k).ticks = 0 ∧ (Dev.coldReset d k).pkts = [] ∧ (Dev.coldReset d k).queues = [] ∧ (Dev.coldReset d k).pipes = [] ∧ (Dev.coldReset d k).tbl = TableS.init := by
  refine ⟨?_, ?_, ?_, ?_, ?_⟩
  · exact coldReset_keeps (·.ticks) d k (fun _ _ _ => rfl) (fun _ _ _ => rfl) (fun _ _ => rfl) _ (fun _ _ _ _ _ _ _ _ => rfl)
  · exact coldReset_keeps (·.pkts) d k (fun _ _ _ => rfl) (fun _ _ _ => rfl) (fun _ _ => rfl) _ (fun _ _ _ _ _ _ _ _ => rfl)
  · exact coldReset_keeps (·.queues) d k (fun _ _ _ => rfl) (fun _ _ _ => rfl) (fun _ _ => rfl) _ (fun _ _ _ _ _ _ _ _ => rfl)
  · exact coldReset_keeps (·.pipes) d k (fun _ _ _ => rfl) (fun _ _ _ => rfl) (fun _ _ => rfl) _ (fun _ _ _ _ _ _ _ _ => rfl)
  · exact coldReset_keeps (·.tbl) d k (fun _ _ _ => rfl) (fun _ _ _ => rfl) (fun _ _ => rfl) _ (fun _ _ _ _ _ _ _ _ => rfl)

end Sys2Proof.Machine
end

