-- ==== Sys2Proof/Laws/Stage.lean ====
section
/-! SUPPORT. What running one stage instruction does to its pipeline. -/
namespace Sys2Proof.Machine

/-- While stages follow, the pipeline's context becomes what the instruction made of it. -/
theorem instr_stay (d : Dev) (n : Nat) (f : Dev → StageCtx → Ran) (hl : (Dev.pipe d n).ctx.live = true)
    (h : (f d (Dev.pipe d n).ctx).2.stage < (if (f d (Dev.pipe d n).ctx).2.egress then 8 else 12)) :
    Dev.instr d n f =
      Dev.setPipe (f d (Dev.pipe d n).ctx).1 n
        { Dev.pipe (f d (Dev.pipe d n).ctx).1 n with ctx := (f d (Dev.pipe d n).ctx).2 } := by
  unfold Dev.instr
  simp only [hl, if_true, ingressStages, egressStages]
  cases he : (f d (Dev.pipe d n).ctx).2.egress
  · have : ¬ 12 ≤ (f d (Dev.pipe d n).ctx).2.stage := by simp [he] at h; omega
    simp [this]
  · have : ¬ 8 ≤ (f d (Dev.pipe d n).ctx).2.stage := by simp [he] at h; omega
    simp [this]

theorem advance_of_slot (c : StageCtx) (h : c.slot < 63) : StageCtx.advance c = { c with slot := c.slot + 1 } := by
  unfold StageCtx.advance
  rw [if_neg (by omega)]

theorem step_runs (d : Dev) (c : StageCtx) (f : StageCtx → Ran) (hl : c.live = true) (hs : c.skip = 0) :
    StageCtx.step d c f = ((f c).1, StageCtx.advance (f c).2) := by
  unfold StageCtx.step StageCtx.runs
  simp [hl, hs]

theorem step_skips (d : Dev) (c : StageCtx) (f : StageCtx → Ran) (hl : c.live = true) (hs : 0 < c.skip) :
    StageCtx.step d c f = (d, StageCtx.advance { c with skip := c.skip - 1 }) := by
  unfold StageCtx.step StageCtx.exec StageCtx.runs
  have : (c.skip == 0) = false := by simp; omega
  simp [hl, this]

/-- An instruction on the packet alone, in a slot that is not the last. -/
theorem instrOn_runs (d : Dev) (n : Nat) (f : StageCtx → StageCtx) (h : InStage d n)
    (h3 : (Dev.pipe d n).ctx.slot < 63)
    (h4 : (Dev.pipe d n).ctx.stage < (if (Dev.pipe d n).ctx.egress then 8 else 12))
    (hs : (f (Dev.pipe d n).ctx).slot = (Dev.pipe d n).ctx.slot)
    (he : (f (Dev.pipe d n).ctx).egress = (Dev.pipe d n).ctx.egress)
    (hst : (f (Dev.pipe d n).ctx).stage = (Dev.pipe d n).ctx.stage) :
    Dev.instrOn d n f = Dev.setPipe d n
      { Dev.pipe d n with ctx := { f (Dev.pipe d n).ctx with slot := (Dev.pipe d n).ctx.slot + 1 } } := by
  obtain ⟨h1, h2⟩ := h
  have e : StageCtx.step d (Dev.pipe d n).ctx (fun c => (d, f c))
      = (d, { f (Dev.pipe d n).ctx with slot := (Dev.pipe d n).ctx.slot + 1 }) := by
    rw [step_runs _ _ _ h1 h2, advance_of_slot _ (by rw [hs]; exact h3), hs]
  unfold Dev.instrOn
  rw [instr_stay _ _ _ h1 (by rw [e]; simpa [hst, he] using h4), e]

/-- A skipped slot that is not the last. -/
theorem instrOn_skips (d : Dev) (n : Nat) (f : StageCtx → StageCtx) (h1 : (Dev.pipe d n).ctx.live = true)
    (h2 : 0 < (Dev.pipe d n).ctx.skip) (h3 : (Dev.pipe d n).ctx.slot < 63)
    (h4 : (Dev.pipe d n).ctx.stage < (if (Dev.pipe d n).ctx.egress then 8 else 12)) :
    Dev.instrOn d n f = Dev.setPipe d n
      { Dev.pipe d n with
        ctx := { (Dev.pipe d n).ctx with skip := (Dev.pipe d n).ctx.skip - 1, slot := (Dev.pipe d n).ctx.slot + 1 } } := by
  have e : StageCtx.step d (Dev.pipe d n).ctx (fun c => (d, f c))
      = (d, { (Dev.pipe d n).ctx with skip := (Dev.pipe d n).ctx.skip - 1, slot := (Dev.pipe d n).ctx.slot + 1 }) := by
    rw [step_skips _ _ _ h1 h2]
    exact congrArg (Prod.mk d) (advance_of_slot _ h3)
  unfold Dev.instrOn
  rw [instr_stay _ _ _ h1 (by rw [e]; exact h4), e]

/-- An instruction of the ingress stages that also works on the part, in a slot that is not the last. -/
theorem instrIn_runs (d : Dev) (n : Nat) (f : Dev → StageCtx → Ran) (h : InStage d n)
    (h3 : (Dev.pipe d n).ctx.slot < 63)
    (h4 : (Dev.pipe d n).ctx.stage < (if (Dev.pipe d n).ctx.egress then 8 else 12))
    (hi : (Dev.pipe d n).ctx.egress = false)
    (hs : (f d (Dev.pipe d n).ctx).2.slot = (Dev.pipe d n).ctx.slot)
    (he : (f d (Dev.pipe d n).ctx).2.egress = false)
    (hst : (f d (Dev.pipe d n).ctx).2.stage = (Dev.pipe d n).ctx.stage) :
    Dev.instrIn d n f = Dev.setPipe (f d (Dev.pipe d n).ctx).1 n
      { Dev.pipe (f d (Dev.pipe d n).ctx).1 n with
        ctx := { (f d (Dev.pipe d n).ctx).2 with slot := (Dev.pipe d n).ctx.slot + 1 } } := by
  obtain ⟨h1, h2⟩ := h
  have e : (if (Dev.pipe d n).ctx.egress then (d, (Dev.pipe d n).ctx) else StageCtx.step d (Dev.pipe d n).ctx (f d))
      = ((f d (Dev.pipe d n).ctx).1, { (f d (Dev.pipe d n).ctx).2 with slot := (Dev.pipe d n).ctx.slot + 1 }) := by
    rw [hi, step_runs _ _ _ h1 h2, advance_of_slot _ (by rw [hs]; exact h3), hs]
    rfl
  unfold Dev.instrIn
  rw [instr_stay _ _ _ h1 (by rw [e]; simpa [hst, he, hi] using h4), e]

end Sys2Proof.Machine
end

