-- ==== Sys2Proof/Machine/Package.lean ====
section
/-! DEFINITION. The land map of the package: which signal every land carries (R520 to R523). -/
namespace Sys2Proof.Machine

/-- What a land carries (Tables 3 and 4 of the package chapter, and the supplies of R522). -/
inductive Land where
  | gnd
  | dnc
  /-- Physical lane k of tile n: transmit or receive, P or N. -/
  | lane (tile k : Nat) (tx p : Bool)
  | vt (tile : Nat)
  | vta (tile : Nat)
  /-- Host lane l: transmit or receive, P or N. -/
  | host (l : Nat) (tx p : Bool)
  | named (signal : String)
  deriving DecidableEq, Repr

/-- Land (row, col) of tile n at band row b and block column m (R521, Table 3). -/
def tileLand (n b m : Nat) : Land :=
  if b ≤ 32 then
    if m % 3 = 1 then .gnd else .lane n (4 * ((b - 1) / 2) + (m - 1) / 3) (b % 2 == 1) (m % 3 == 2)
  else if b % 2 = 0 then .gnd
  else if b = 39 then .vta n
  else .vt n

/-- The supply of a column of the power zone (R522). -/
def powerColumn (col : Nat) : String :=
  if col ≤ 64 then "VC" else if col ≤ 69 then "VGA_2" else if col ≤ 71 then "VGA_Q" else if col ≤ 73 then "VGA_1"
  else if col ≤ 78 then "VGB_2" else if col ≤ 80 then "VGB_Q" else if col ≤ 82 then "VGB_1" else if col ≤ 85 then "VA" else "VP"

/-- The named lands of the left signal zone, as row and column. -/
def leftLands : List ((Nat × Nat) × String) :=
  [((41, 6), "HREFA_P"), ((41, 7), "HREFA_N"), ((43, 6), "HREFB_P"), ((43, 7), "HREFB_N"), ((45, 6), "PERST_A_N"),
   ((45, 7), "PERST_B_N"), ((47, 6), "HOSTCFG")]

/-- The named lands of the right signal zone. -/
def rightLands : List ((Nat × Nat) × String) :=
  [((41, 90), "REFCLK_P"), ((41, 91), "REFCLK_N"), ((43, 90), "M0_TX_P"), ((43, 91), "M0_TX_N"), ((44, 90), "M0_RX_P"),
   ((44, 91), "M0_RX_N"), ((46, 90), "M1_TX_P"), ((46, 91), "M1_TX_N"), ((47, 90), "M1_RX_P"), ((47, 91), "M1_RX_N"),
   ((41, 94), "PORST_N"), ((41, 95), "THERMTRIP_N"), ((42, 94), "PFAIL_N"), ((43, 94), "PMB_SCL"), ((43, 95), "PMB_SDA")]
  ++ [((44, 94), "PMB_ALERT_N"), ((45, 94), "I3C_SCL"), ((45, 95), "I3C_SDA"), ((46, 94), "SMBADDR0"), ((46, 95), "SMBADDR1"),
   ((47, 94), "SMBADDR2"), ((48, 94), "TSCAP0"), ((48, 95), "TSCAP1"), ((49, 94), "TSOUT0"), ((49, 95), "TSOUT1"),
   ((51, 94), "FL_CLK"), ((51, 95), "FL_CS_N"), ((52, 94), "FL_DQS"), ((52, 95), "FL_RESET_N")]
  ++ [((53, 94), "FL_DQ0"), ((53, 95), "FL_DQ1"), ((54, 94), "FL_DQ2"), ((54, 95), "FL_DQ3"), ((55, 94), "FL_DQ4"),
   ((55, 95), "FL_DQ5"), ((56, 94), "FL_DQ6"), ((56, 95), "FL_DQ7"), ((42, 95), "VIO"), ((44, 95), "VIO"), ((47, 95), "VIO"),
   ((50, 94), "VF"), ((50, 95), "VF")]

def namedLand (t : List ((Nat × Nat) × String)) (row col : Nat) : Land :=
  match t.find? (fun x => x.1 == (row, col)) with
  | some x => .named x.2
  | none => .gnd

/-- Land L<row>_<col> (R520 to R523): both from 1 to 96. -/
def landAt (row col : Nat) : Land :=
  if row ≤ 40 then tileLand ((col - 1) / 12) row ((col - 1) % 12 + 1)
  else if 57 ≤ row then tileLand (8 + (col - 1) / 12) (97 - row) ((col - 1) % 12 + 1)
  else if col ≤ 8 then
    if col = 2 ∨ col = 3 then .host ((row - 41) / 2) (row % 2 == 1) (col == 2) else namedLand leftLands row col
  else if col ≤ 88 then if (row + col) % 2 = 0 then .gnd else .named (powerColumn col)
  else if row = 56 ∧ (col = 90 ∨ col = 91) then .dnc
  else namedLand rightLands row col

/-- The port and its lane that a host lane is, by the mode that HOSTCFG sampled: ×8, or two of ×4 (R523). -/
def hostLaneOf (x8 : Bool) (l : Nat) : Nat × Nat := if x8 || decide (l < 4) then (0, l) else (1, l - 4)

end Sys2Proof.Machine
end

