-- ==== Sys2Proof/Tests/Slice0.lean ====
section
/-! SUPPORT. The model's own tests: an ill-formed term for each check of WellFormed, the spec's worked examples, one step
of some commands, and for each statement a state and operands that meet its hypotheses. -/
namespace Sys2Proof.Tests
open Sys2Proof Sys2Proof.Machine
set_option Elab.async false

/-- Every domain is on and the main firmware runs; nothing else has happened. -/
def base : Dev :=
  { Dev.setBlob Dev.reset K.pwrDomainState (List.replicate 24 1) with fw := { Dev.reset.fw with running := true } }

/-- A state that holds a part. -/
def st (d : Dev) : State := { State.reset with dev := d }

/-- Elements set one after the other. -/
def els (d : Dev) (l : List (Nat × Nat)) : Dev := l.foldl (fun d x => Dev.setEl d x.1 x.2) d

/-- The part after a command, `Dev.reset` where the command does not go on. -/
def after (i : Instr) (s : State) : Dev :=
  match exec i s with
  | .next t => t.dev
  | _ => Dev.reset

/-- A packet stands in the stages of pipeline n before instruction `slot` of stage `stage`. -/
def staged (n stage slot skip : Nat) (egress : Bool) : Dev :=
  Dev.setPipe base n { Pipe.init with ctx := { StageCtx.init with live := true, stage := stage, slot := slot, skip := skip,
                                                                   egress := egress, sheaf := 0x1234 } }

/-! A write that every check grants, as a computation. -/

/-- `Dev.grants`, computed. -/
def grantB (d : Dev) (src : Source) (x : WItem) : Bool :=
  match Dev.checkTarget d (Source.cls src) (keyObj x.k) (keyEl x.k) with
  | .inl r => DictRow.inRange r x.v && Dev.badWrite d (Dev.putItem d (WItem.norm x)) src x.k (WItem.norm x).v == 0
      && !Dev.storeFull (Dev.putItem d (WItem.norm x)) [x.k]
  | .inr _ => false

theorem grantB_sound {d : Dev} {src : Source} {x : WItem} (h : grantB d src x = true) : Dev.grants d src x := by
  unfold grantB at h
  split at h
  · rename_i r hr
    simp only [Bool.and_eq_true, beq_iff_eq, Bool.not_eq_true'] at h
    exact ⟨r, hr, h.1.1, h.1.2, h.2⟩
  · cases h

/-- `Dev.grantsAll`, computed. -/
def grantAllB (ep : Nat) (d : Dev) (src : Source) : List WItem → Bool
  | [] => true
  | x :: t => grantB d src x && grantAllB ep (Dev.applyItems ep d src [WItem.norm x]) src t

theorem grantAllB_sound (ep : Nat) (src : Source) (l : List WItem) :
    ∀ d, grantAllB ep d src l = true → Dev.grantsAll ep d src l := by
  induction l with
  | nil => intro d _; trivial
  | cons x t ih =>
    intro d h
    simp only [grantAllB, Bool.and_eq_true] at h
    exact ⟨grantB_sound h.1, ih _ h.2⟩

/-- `State.grants`, computed. -/
def grantsB (s : State) (i : Instr) : Bool :=
  !Dev.dark s.dev && s.dev.fw.running && (match Instr.writes i with
    | some x => Dev.present s.dev x.1 && grantAllB s.epoch (Dev.fresh s.dev) x.1 x.2
    | none => false)

theorem grantsB_sound {s : State} {i : Instr} (h : grantsB s i = true) : s.grants i := by
  unfold grantsB at h
  simp only [Bool.and_eq_true, Bool.not_eq_true'] at h
  refine ⟨h.1.1, h.1.2, ?_⟩
  have h2 := h.2
  generalize Instr.writes i = w at h2 ⊢
  cases w with
  | none => cases h2
  | some x =>
    simp only [Bool.and_eq_true] at h2
    exact ⟨h2.1, grantAllB_sound _ _ _ _ h2.2⟩

/-- `InStage`, computed. -/
def inStageB (c : StageCtx) : Bool := c.live && c.skip == 0

theorem inStageB_sound {d : Dev} {n : Nat} (h : inStageB (Dev.pipe d n).ctx = true) : InStage d n := by
  simp only [inStageB, Bool.and_eq_true, beq_iff_eq] at h
  exact h

/-! WellFormed refuses. -/

/-- A read of a bale whose bursts are all good. -/
def fine : BaleWay := { corrected := [], retried := 0, bad := [] }
/-- A host that has set a port up. -/
def hcfg : HostCfg :=
  { rate := 5, width := 4, bme := true, d0 := true, mps := 512, mrrs := 4096, relaxed := true, msixOn := true, msixMask := false,
    ats := true, pri := true, priMax := 32, bar0 := 0, bar2 := 0, ecrcGen := false, ecrcCheck := true, aerSev := 0, aerCorMask := 0, aerUncMask := 0, aerCorClr := 0,
    aerUncClr := 0 }

/-- A destination past the sheaf's end (R135). -/
theorem test_wf_dst : Instr.wf (.opMov 0 4095 1 (.imm 0)) = false := by decide +kernel
/-- Operand A past the sheaf's end. -/
theorem test_wf_a : Instr.wf (.opAdd 0 0 63 4033 (.imm 0)) = false := by decide +kernel
/-- Operand B past the sheaf's end. -/
theorem test_wf_b : Instr.wf (.opSkeq 0 1 63 0 (.field 4033)) = false := by decide +kernel
/-- A lookup's result and its two status bits past the sheaf's end (R136). -/
theorem test_wf_result : Instr.wf (.opLkem 0 4031 0 0 0 .ok) = false ∧ Instr.wf (.opLkem 0 4030 0 0 0 .ok) = true := by decide +kernel
/-- A frame without a byte. -/
theorem test_wf_frame : Instr.wf (.frameReceive 0 0 [] .ended false .ok) = false := by decide +kernel
/-- A flow-control frame below 64 bytes (R176). -/
theorem test_wf_pfc : Instr.wf (.pfcFrameReceive 0 (List.replicate 63 0)) = false := by decide +kernel
/-- A block of 256 records, a record over 192 bytes, a header over 16 bytes (R123). -/
theorem test_wf_block :
    Instr.wf (.tblInsert 0 0 (List.replicate 256 0) none) = false ∧ Instr.wf (.slotWrite 0 0 [2 ^ 1536] none) = false
      ∧ Instr.wf (.tblRead 0 (2 ^ 128) []) = false := by decide +kernel
/-- A bale beyond the region's last (R205). -/
theorem test_wf_bale : Instr.wf (.baleWriteDone 2097152) = false ∧ Instr.wf (.baleReturnDone 0 2097152 fine) = false := by decide +kernel
/-- A lane with one coefficient too few, a transmit FIR of six taps (R43); a payload of 64 bytes, a link of three lanes (R330). -/
theorem test_wf_link :
    let e : LaneEq := { ctle := 0, snr := 0, coefs := zeros 49, fir := [] }
    Instr.wf (.laneAdaptDone 0 e) = false ∧ Instr.wf (.ltComplete 0 [e]) = false ∧ Instr.wf (.c2mAdaptDone 0 [e]) = false
      ∧ Instr.wf (.laneAdaptDone 0 { e with coefs := zeros 50, fir := zeros 12 }) = false
      ∧ Instr.wf (.hostReturn 0 { hcfg with mps := 64 }) = false ∧ Instr.wf (.hostReturn 0 { hcfg with width := 3 }) = false := by
  decide +kernel
/-- A write-one mask beyond 64 bits, a value beyond the access, a tag beyond 31. -/
theorem test_wf_values :
    Instr.wf (.evtCauseClear 0 (2 ^ 64)) = false ∧ Instr.wf (.doorbell 0 0 4 (2 ^ 32)) = false
      ∧ Instr.wf (.directWindowWrite 1 0 8 (2 ^ 64)) = false ∧ Instr.wf (.atsInvalidate 0 32 0 1) = false := by decide +kernel
/-- More predictions than levels, more reads than rails, more samples than sensors. -/
theorem test_wf_lists :
    Instr.wf (.capStep (List.replicate 19 0)) = false ∧ Instr.wf (.railRead 0 (List.replicate 17 .noAnswer)) = false
      ∧ Instr.wf (.sensorSample (List.replicate 65 0)) = false := by decide +kernel
/-- Forms at the edge of each check are well formed. -/
theorem test_wf_edges :
    Instr.wf (.opAdd 0 4032 63 4032 (.field 4032)) = true ∧ Instr.wf (.hostReturn 1 hcfg) = true ∧ Instr.wf (.pfcFrameReceive 0 (List.replicate 64 0)) = true
      ∧ Instr.wf (.doorbell 0 0 4 (2 ^ 32 - 1)) = true ∧ Instr.wf (.baleWriteDone 2097151) = true := by decide +kernel

/-! The spec's worked examples. -/

/-- R96, R98: the text "123456789" with seed 0. -/
theorem test_crc :
    (List.range 4).map (fun i => crcOf i 0 (beBytes 9 0x313233343536373839)) = [0xCBF43926, 0xE3069283, 0x87315576, 0x1697D06A] := by
  decide +kernel

/-- R99: 10.0.0.1 under a key that begins 01 23 45 67 89 AB CD EF. -/
theorem test_toeplitz : toeplitz (0x0123456789ABCDEF * 2 ^ 256) 0x0A000001 32 32 = 0x9E30E96D := by decide +kernel

/-- The scope's example: port 516, queue 3 is queue 8,259, object 0x6043; its pipeline and barn. -/
theorem test_numbers : keyObj (K.eqState 8259) = 0x6043 ∧ qPort 8259 = 516 ∧ portPipe 516 = 8 ∧ pipeBarn 8 = 2 := by decide +kernel

/-- R114, Table 6: a managed group of 16 slots; adds, then the removal of member 1. -/
def grp : Group := { managed := true, log2 := 4, failover := false, rotate := 0, base := 0 }
def added (n : Nat) : TableS :=
  (List.range n).foldl (fun t _ =>
    match memberAdd t 0 grp 7 with
    | some x => x.1
    | none => t) { TableS.init with groups := [(0, grp)] }
theorem test_slots_added :
    (List.range 4).map (fun o => slotsOf (added 4) grp (o + 1)) = [[0, 1, 2, 3], [8, 9, 10, 11], [5, 6, 7, 14], [4, 12, 13, 15]] := by
  decide +kernel
theorem test_slots_removed :
    (List.range 4).map (fun o => slotsOf (memberRemove (added 4) 0 grp 1) grp (o + 1))
      = [[0, 1, 2, 3, 8, 11], [], [5, 6, 7, 9, 14], [4, 10, 12, 13, 15]] := by decide +kernel

/-- R172: with 50,004 cells of threshold 50,032 cells do not fit; R180's example before the push-out. -/
theorem test_fits :
    let d := els base [(K.poolSize 1, 400000), (K.poolUsed 1, 349996), (K.eqPool 389, 1), (K.eqFactor 389, 7)]
    Dev.fits (Dev.setQueue d 389 { EQueue.init with depth := 49996 }) false 389 36 = false
      ∧ Dev.fits (Dev.setQueue d 389 { EQueue.init with depth := 49968 }) false 389 36 = true := by decide +kernel

/-- R178: kmin 200,000, kmax 400,000, pmax 64 at 300,000 cells mark with probability 12.5%. -/
theorem test_ecn :
    Dev.ecnProb (els base [(K.poolEcnKmin 0, 200000), (K.poolEcnKmax 0, 400000), (K.poolEcnPmax 0, 64)]) 0 300000 * 8 = 65536 := by
  decide +kernel

/-- The servo example of Time bases: at +60 ns with dt 1 s the rate word becomes -579,838,452. -/
theorem test_servo :
    let i : Int := -562949954
    let t := { TimeBase.init with integ := i, rho := i, rf := i, first := false, last := 0 }
    let d := Dev.setBase { base with ticks := 781250000 } 1 t
    (Dev.base (after (.tbOffset (.host 0) 1 (60 * 65536)) (st d)) 1).rho = -579838452 := by decide +kernel

/-- R300's example: 560 ns fall in bin 2, 3.2 ms in bin 14. -/
theorem test_bins : latBin 560 = 2 ∧ latBin 3200000 = 14 := by decide +kernel

/-- R404: K28.5 at both running disparities, D21.5, which keeps it; R415: the SMBus packet error code of "123456789". -/
theorem test_lines :
    codeGroup false true 0xBC = (0b0011111010, true) ∧ codeGroup true true 0xBC = (0b1100000101, false)
      ∧ codeGroup false false 0xB5 = (0b1010101010, false) ∧ pec8 (beBytes 9 0x313233343536373839) = 0xF4 := by decide +kernel

/-- R417: a message of 65 bytes goes in two packets, which make it up again. -/
theorem test_mctp :
    let bs : List Byte := (List.range 65).map (BitVec.ofNat 8)
    let ps := mctpSplit 9 8 11 bs
    ps.map (fun p => (p.length, byteAt p 3)) = [(68, 0x8B), (5, 0x5B)]
      ∧ mctpJoin 9 none (ps.map (fun p => (p, 0))) = some { src := 8, tag := 3, addr := 0, seq := 1, body := bs, bad := false } := by
  decide +kernel

/-- R430, Table 5: what a boot record says stands in its 256 bytes; with a byte changed it is not valid. -/
theorem test_bootRecord :
    let r : BootRec := { seq := 5, active := 1, trial := true, attempts := 2, stA := 3, stB := 2, stR := 5, confirmMin := 30, verA := 7, verB := 2 ^ 64 - 1,
                         arbA := 1, arbB := 128 }
    BootRec.parse (BootRec.bytes r) = r ∧ (BootRec.bytes r).length = 256 ∧ BootSec.ofBytes (BootRec.bytes r) = .good r
      ∧ (let bs := splice (BootRec.bytes r) 8 [0]
         BootSec.ofBytes bs = .bad bs) := by decide +kernel

/-- R459: 750 mV and 100 A over 1 ms are 75 mJ; an accumulated energy counts from the previous read. -/
theorem test_railEnergy :
    let d := { base with pwr := { base.pwr with eout := [(0, 10)] } }
    Dev.railEnergy d 0 (1 + 2 ^ 40) 0 750 100000 = some 75000000 ∧ Dev.railEnergy d 0 1 14 750 100000 = some 4
      ∧ Dev.railEnergy base 0 1 14 750 100000 = none := by decide +kernel

/-- R379: the pool objects of the session example lie where the example says. -/
theorem test_pool_key : K.poolXoff 2 = 0x0912 * 256 + 6 ∧ K.poolEcnKmin 2 = 0x0912 * 256 + 9 := by decide +kernel

/-! One step of some commands. -/

/-- R135: ADD wraps at its width; the rest of the sheaf stays. -/
theorem test_add_wraps :
    (Dev.pipe (after (.opAdd 3 800 7 0 (.imm 0xF0)) (st (staged 3 0 0 0 false))) 3).ctx.sheaf
      = 0x1234 ||| (0x24 : Sheaf) <<< 800 := by decide +kernel

/-- R135, R82: SUBS stops at zero; words 0 to 11 are the Thresher's. -/
theorem test_subs_saturates :
    (Dev.pipe (after (.opSubs 3 768 7 0 (.imm 0x35)) (st (staged 3 0 0 0 false))) 3).ctx.sheaf = 0x1234
      ∧ (Dev.pipe (after (.opMov 3 764 7 (.imm 0xFF)) (st (staged 3 0 0 0 false))) 3).ctx.sheaf
          = 0x1234 ||| (0xF : Sheaf) <<< 768 := by decide +kernel

/-- R347: a write of EVT_CAUSE clears the bits that are 1 in the mask. -/
theorem test_evt_clear :
    (Dev.hp (after (.evtCauseClear 0 5) (st (Dev.setHp base 0 { HostPort.init with evtCause := 7 }))) 0).evtCause = 2 := by
  decide +kernel

/-- R388: a write of a read-only element is refused with 7. -/
theorem test_read_only :
    (after (.elementWrite (.host 0) 0x0100 1 [0, 0]) (st base)).out = [.reply (.host 0) 7 []] := by decide +kernel

/-- R390: a read of an object that does not exist answers 5. -/
theorem test_no_object : (after (.read (.el (.host 0) 0x3FFF 0)) (st base)).out = [.reply (.host 0) 5 []] := by decide +kernel

/-- R237, R265: an idle step advances every base by 1.28 ns. -/
theorem test_tick : (match step State.reset with
    | .next t => (Dev.base t.dev 7).frac
    | _ => 0) = 1202590842 := by decide +kernel

/-- R109: a next hop written is found; its neighbour is not. -/
theorem test_next_hop :
    let d := after (.tblInsert 5 (1 + 3 * 2 ^ 8 + 2 ^ 16) [(0x805 + 9 * 2 ^ 128)] none) (st base)
    SMap.get d.tbl.nh 9 0 = 0x805 ∧ SMap.get d.tbl.nh 8 0 = 0 := by decide +kernel

/-! Hypotheses that a state meets: the queue, the stages. Each theorem is named after the statement it is a witness of. -/

theorem lit_st {d : Dev} (h : Dev.dark d = false) : (st d).lit := h

theorem wit_StepRunsTheFrontCommand : { State.reset with pending := [.auditDone, .opEnd 15] }.pending = .auditDone :: [.opEnd 15] := rfl

theorem wit_IdleStepIsOneTickOfEveryBase :
    State.reset.pending = [] ∧ State.reset.dev.time.bases[7]? = some TimeBase.init ∧ TimeBase.init.inRange
      ∧ -(2 ^ 48 : Int) ≤ TimeBase.init.rho ∧ (∀ c, c < 2 → (Dev.pulse State.reset.dev c).active = false) :=
  ⟨rfl, rfl, by unfold TimeBase.inRange; decide, by decide +kernel, by decide +kernel⟩

/-- A flip in step 3 with its commit at the front; and a step that goes on. -/
theorem wit_EpochAdvancesOnlyByFlip :
    let s := { State.reset with dev := { base with prog := { ProgS.init with flip := 2 } }, pending := [.flipCommit] }
    s.lit ∧ s.dev.prog.flip = 2 ∧ s.pending = .flipCommit :: [] ∧ step State.reset = .next (idle State.reset) :=
  ⟨(by decide +kernel : Dev.dark _ = false), rfl, rfl, rfl⟩

theorem wit_EpochStaysInItsWidth :
    let s := { State.reset with epoch := 2 ^ 48 - 1 }
    s.epoch < 2 ^ 48 ∧ step s = .next (idle s) := ⟨by decide +kernel, rfl⟩

/-- Each cause of darkness. -/
theorem wit_DarkPartIgnoresEveryCommandButD0 :
    Dev.dark { base with rst := { base.rst with porst := true } } = true
      ∧ Dev.dark { base with rst := { base.rst with coreLost := true } } = true
      ∧ Dev.dark { base with pwr := { base.pwr with tripped := true } } = true ∧ Dev.dark (Dev.setDomain base 1 0) = true
      ∧ Dev.held { base with rst := { base.rst with porst := true } } = true ∧ Instr.ofStart .bootRom = true
      ∧ Instr.ofD0 (.opEnd 0) = false ∧ Instr.ofD0 .warmArmExpire = false := by decide +kernel

/-- The last instruction slot but one of the last stage, and the widest field at its last place. -/
theorem wit_AluInstructionsWriteTheirValues :
    (st (staged 15 11 62 0 false)).lit ∧ InStage (st (staged 15 11 62 0 false)).dev 15
      ∧ 768 ≤ (4032 : Fin 4096).val ∧ (4032 : Fin 4096).val + ((63 : Fin 64).val + 1) ≤ 4096 :=
  ⟨lit_st (by decide +kernel), inStageB_sound (by decide +kernel), by decide +kernel⟩

/-- A skipped slot at ingress and, of an instruction that egress has, at egress; a lookup that it has not; no packet. -/
theorem wit_SkipInstructionsSkipOnTheirCondition :
    ((st (staged 0 0 0 0 false)).lit ∧ InStage (st (staged 0 0 0 0 false)).dev 0)
    ∧ (let s := st (staged 3 7 62 63 true)
       let c := (Dev.pipe s.dev 3).ctx
       s.lit ∧ c.live = true ∧ c.egress = true ∧ 0 < c.skip ∧ Instr.ofStage 3 (.opNop 3) ∧ ¬ Instr.ingressOnly (.opNop 3)
         ∧ Instr.ofStage 3 (.opTcam 3 0 0 true .ok) ∧ Instr.ingressOnly (.opTcam 3 0 0 true .ok))
    ∧ (Dev.pipe (staged 3 0 0 1 false) 3).ctx.egress = false ∧ (Dev.pipe base 3).ctx.live = false :=
  ⟨⟨lit_st (by decide +kernel), inStageB_sound (by decide +kernel)⟩,
    ⟨lit_st (by decide +kernel), by decide +kernel, by decide +kernel, by decide +kernel, rfl, id, rfl, trivial⟩, by decide +kernel⟩

theorem wit_NopAndEndMoveThePacketOn :
    ((st (staged 1 7 62 0 true)).lit ∧ InStage (st (staged 1 7 62 0 true)).dev 1)
    ∧ (let c := (Dev.pipe (st (staged 0 10 63 0 false)).dev 0).ctx
       (st (staged 0 10 63 0 false)).lit ∧ c.slot = 63 ∧ c.live = true ∧ c.skip = 0)
    ∧ (let c := (Dev.pipe (st (staged 0 11 63 0 false)).dev 0).ctx
       (st (staged 0 11 63 0 false)).lit ∧ c.live = true ∧ c.skip = 0 ∧ c.egress = false ∧ c.stage = 11 ∧ c.slot = 63) :=
  ⟨⟨lit_st (by decide +kernel), inStageB_sound (by decide +kernel)⟩, ⟨lit_st (by decide +kernel), by decide +kernel⟩, lit_st (by decide +kernel), by decide +kernel⟩

theorem wit_DecisionFieldsAreWrittenAndRead :
    let s := st (staged 2 5 1 0 false)
    s.lit ∧ InStage s.dev 2 ∧ fieldWidth 0 ≠ 0 ∧ fieldWidth 1 ≠ 0 ∧ (Dev.pipe s.dev 2).ctx.egress = false
      ∧ (4032 : Fin 4096).val + ((63 : Fin 64).val + 1) ≤ 4096 :=
  ⟨lit_st (by decide +kernel), inStageB_sound (by decide +kernel), by decide +kernel⟩

/-- A TCAM query that its bucket lets pass, one that no kind covers, an index inside and outside the tables, a good word. -/
theorem wit_LookupsLeaveTheirResultForTheStagesEnd :
    let s := st (staged 9 11 62 0 false)
    let e := Dev.setPipe s.dev 9 { Dev.pipe s.dev 9 with tcam := { level := 0, at_ := s.dev.ticks } }
    s.lit ∧ InStage s.dev 9 ∧ (Dev.pipe s.dev 9).ctx.egress = false ∧ Dev.el s.dev (K.barnCorrected (9 / 4)) < 2 ^ 64
      ∧ LookWay.isBad .ok = false ∧ LookWay.isBad .corrected = false ∧ tcamKind (Dev.pipe s.dev 9).ctx true ≠ 0
      ∧ ticksPerSec ≤ (Dev.tcamBucket s.dev 9).level ∧ (Dev.tcamBucket e 9).level < ticksPerSec ∧ tcamKind (Dev.pipe e 9).ctx true ≠ 0
      ∧ tcamKind (Dev.pipe s.dev 9).ctx false = 0
      ∧ Pipe.wordBad (Dev.pipe s.dev 9) 0 0x40 255 = false ∧ Pipe.wordBad (Dev.pipe s.dev 9) 0 0x41 65536 = false :=
  ⟨lit_st (by decide +kernel), inStageB_sound (by decide +kernel), by decide +kernel⟩

theorem wit_GroupResolveAndHashLeaveTheirResult :
    let s := st (staged 0 0 0 0 false)
    s.lit ∧ InStage s.dev 0 ∧ (Dev.pipe s.dev 0).ctx.egress = false ∧ LookWay.isBad .ok = false ∧ Dev.el s.dev K.tblLbDrops < 2 ^ 64 := ⟨lit_st (by decide +kernel), inStageB_sound (by decide +kernel), by decide +kernel⟩

theorem wit_UncorrectableLookupWordsAnswerStatusTwo :
    let s := st (els (staged 15 0 0 0 false) [(K.bankIdleState 15, 1)])
    let e := Dev.setPipe s.dev 15 { Dev.pipe s.dev 15 with badWords := [(0, 0x40, 255), (0, 0x41, 65535)] }
    s.lit ∧ InStage s.dev 15 ∧ (Dev.pipe s.dev 15).ctx.egress = false ∧ Dev.el s.dev (K.barnUncorrectable (15 / 4)) < 2 ^ 64
      ∧ Dev.otherBank s.dev 15 0 0x40 255 = false ∧ Dev.otherBank e 15 0 0x41 65535 = false
      ∧ tcamKind (Dev.pipe s.dev 15).ctx true ≠ 0 ∧ ticksPerSec ≤ (Dev.tcamBucket s.dev 15).level
      ∧ Pipe.wordBad (Dev.pipe e 15) 0 0x40 255 = true ∧ Pipe.wordBad (Dev.pipe e 15) 0 0x41 65535 = true
      ∧ Dev.el s.dev (K.bankIdleState 15) ≠ 0 := ⟨lit_st (by decide +kernel), inStageB_sound (by decide +kernel), by decide +kernel⟩

/-! Frames in and out. -/

/-- Port 1023 is up; a 64-byte frame with a right FCS. -/
def up (p : Nat) (d : Dev) : Dev := els d [(K.portState p, 5), (K.portSpeed p, 6), (K.portAdmin p, 1)]
def body (n : Nat) : List Byte := [0x02, 0, 0, 0, 0, 1, 0x02, 0, 0, 0, 0, 2, 0x08, 0] ++ zeros (n - 18)
def good (n : Nat) : List Byte := body n ++ leBytes 4 (fcs32 (body n))

theorem wit_ReceivedFramesEnterTheArrivalBuffer_1 :
    let d := up 1023 base
    let e := Dev.setPipe d 15 { Pipe.init with arrival := List.replicate 2048 3 }
    (st d).lit ∧ Dev.el d (K.portState 1023) = 5 ∧ (Dev.linkS d 1023).rx = none ∧ RxEnd.ended ≠ .more
      ∧ frameMark (Dev.maxFrame d 1023) (good 64) .ended false = 0 ∧ isMacControl (good 64) = false
      ∧ frameMark (Dev.maxFrame d 1023) (zeros 63) .ended false ≠ 0 ∧ Dev.rouriBroken d 15 0 = false ∧ 12800 ≤ Dev.el d (K.tileRouriT2cCapacity 15)
      ∧ (Dev.pipe d 15).arrival.length < 2048 ∧ Dev.arrivalBytes d 15 + (good 64).length ≤ 524288 ∧ 2048 ≤ (Dev.pipe e 15).arrival.length :=
  ⟨lit_st (by decide +kernel), by decide +kernel⟩
/-- Each mark: a runt, a truncated frame, an oversize frame, a wrong FCS. -/
theorem wit_ReceivedFramesEnterTheArrivalBuffer_2 :
    frameMark 1518 (zeros 63) .ended false = 9 ∧ frameMark 1518 (zeros 64) .truncated false = 11
      ∧ frameMark 63 (good 64) .ended false = 10 ∧ frameMark 1518 (good 64) .ended true = 8 := by decide +kernel
theorem wit_ReceivedFramesEnterTheArrivalBuffer_3 :
    let d := Dev.setPkt (Dev.setLink base 0 { LinkS.init with rx := some (5, [1]) }) 5 { Pkt.init with frame := [1] }
    let k := Dev.pkt d 5
    (st d).lit ∧ (Dev.linkS d 0).rx = some (5, [1]) ∧ SMap.find d.pkts 5 = some k ∧ RxEnd.truncated ≠ .more ∧ k.mark = 0 ∧ k.cut = false
      ∧ k.polWait = false ∧ 5 ∉ (Dev.pipe d (portPipe k.inPort)).tm ∧ (Dev.linkS d 0).mac = none ∧ (Dev.linkS d 0).late = none
      ∧ Dev.rouriBroken d 0 0 = false ∧ 5 ∉ (Dev.pipe d 0).arrival ∧ (5 : Nat) ∈ (Dev.pipe (Dev.setPipe d 0 { Pipe.init with arrival := [5] }) 0).arrival :=
  ⟨lit_st (by decide +kernel), by decide +kernel⟩
theorem wit_ReceivedFramesEnterTheArrivalBuffer_4 : Dev.el (st base).dev (K.portState 0) ≠ 5 := by decide +kernel

/-- A flow-control frame that enables priorities 0 and 7 with times 0 and 65,535. -/
def pfcBody : List Byte :=
  [0x01, 0x80, 0xC2, 0, 0, 1, 2, 0, 0, 0, 0, 2, 0x88, 0x08, 0x01, 0x01, 0, 0x81] ++ zeros 14 ++ [0xFF, 0xFF] ++ zeros 26
def pfcGood : List Byte := pfcBody ++ leBytes 4 (fcs32 pfcBody)
theorem wit_FlowControlFramesSetAndClearPauses_1 :
    let d := els (up 5 base) [(K.bufPortCfg 0 5, 2 ^ 21)]
    (st d).lit ∧ Dev.el d (K.portState 5) = 5 ∧ Dev.pfcRx d 5 = true ∧ isPfc pfcGood = true
      ∧ frameMark (Dev.maxFrame d 5) pfcGood .ended false = 0 :=
  ⟨lit_st (by decide +kernel), by decide +kernel⟩
theorem wit_FlowControlFramesSetAndClearPauses_2 :
    let d := Dev.setPort base 1023 { OutPort.init with pfc := [(7, 65535)] }
    (st d).lit ∧ (Dev.port d 1023).tx = none ∧ (Dev.port d 1023).pfc = (7, 65535) :: [] :=
  ⟨lit_st (by decide +kernel), by decide +kernel⟩
theorem wit_FlowControlFramesSetAndClearPauses_3 :
    let d := Dev.setXoff (els (up 5 base) [(K.bufPortCfg 0 5, 2 ^ 20)]) (5 * 8 + 7) true
    (st d).lit ∧ Dev.pfcTx d 5 = true ∧ Dev.xoffOn d 5 7 = true ∧ Dev.portUp d 5 = true ∧ Dev.xoffOn d 5 0 = false :=
  ⟨lit_st (by decide +kernel), by decide +kernel⟩

/-- A packet of port 63 waits in pipeline 0, whose arbiter served port 63 last: the 64th place of the round. -/
theorem wit_PacketsPassArbiterParseAndCostGate_1 :
    let d := Dev.setPipe (Dev.setPkt base 3 { Pkt.init with inPort := 63 }) 0 { Pipe.init with arrival := [3] }
    let y := Dev.pipe d 0
    let waits (j : Nat) : Option Nat := y.arrival.find? (fun i => (Dev.pkt d i).inPort == 0 * 64 + (y.rrPort + 1 + j) % 64)
    (st d).lit ∧ y.stopped = false ∧ y.gate.length < 128 ∧ y.accepted.length < 192 ∧ (y.slotCount ≠ 255 ∨ (y.recirc = [] ∧ y.inject = []))
      ∧ (∀ j, j < 63 → waits j = none) ∧ waits 63 = some 3 :=
  ⟨lit_st (by decide +kernel), by decide +kernel⟩
theorem wit_PacketsPassArbiterParseAndCostGate_2 :
    let d := Dev.setPipe (Dev.setPkt base 3 { Pkt.init with inPort := 1039 }) 15 { Pipe.init with recirc := [3] }
    let y := Dev.pipe d 15
    let z := { y with slotCount := 255, inject := [4] }
    (st d).lit ∧ y.stopped = false ∧ y.gate.length < 128 ∧ y.accepted.length < 192 ∧ y.arrival = [] ∧ y.inject = [] ∧ y.recirc = 3 :: []
      ∧ z.slotCount = 255 ∧ z.recirc = 3 :: [] ∧ z.inject = 4 :: [] ∧ 128 ≤ { y with gate := List.replicate 128 0 }.gate.length :=
  ⟨lit_st (by decide +kernel), by decide +kernel⟩
theorem wit_PacketsPassArbiterParseAndCostGate_3 :
    let p := { Pkt.init with frame := good 64, whole := true, inPort := 1023 }
    let d := Dev.setPipe (Dev.setPkt base 3 p) 15 { Pipe.init with accepted := [3] }
    let img := Pipe.bank (Dev.pipe d 15) 0
    (st d).lit ∧ (Dev.pipe d 15).accepted = 3 :: [] ∧ parseReady img (Dev.pkt d 3) = true ∧ (Dev.pkt d 3).whole = true
      ∧ (Dev.pipe d 15).gate.length < 256 ∧ (Dev.pipe d 15).badWords = [] ∧ { p with whole := false, frame := [] }.frame.length ≤ img.depth + 4
      ∧ img.depth + 4 < (good (img.depth + 24)).length :=
  ⟨lit_st (by decide +kernel), by decide +kernel⟩
theorem wit_PacketsPassArbiterParseAndCostGate_4 :
    let d := Dev.setPipe base 0 { Pipe.init with gate := [3, 4, 5, 6, 7] }
    (st d).lit ∧ (Dev.pipe d 0).ctx.live = false ∧ (Dev.pipe d 0).gate = 3 :: [4, 5, 6, 7] :=
  ⟨lit_st (by decide +kernel), by decide +kernel⟩

/-- A whole packet bound for queue 16,383, and one with a mark. -/
theorem wit_AdmissionLinksThePacketAtItsQueuesTail_1 :
    let p := { Pkt.init with frame := good 64, whole := true, fields := [(0, 0), (1, 1023), (2, 15)] }
    let d := Dev.setPipe (Dev.setPkt (els (up 1023 base) [(K.eqSpillEnable 16383, 0)]) 3 p) 2 { Pipe.init with tm := [3] }
    let q := Pkt.queueNo (Dev.pkt d 3)
    (st d).lit ∧ (Dev.pipe d 2).tm = 3 :: [] ∧ (Dev.pkt d 3).whole = true ∧ (Dev.pkt d 3).mark = 0 ∧ Pkt.field (Dev.pkt d 3) 0 = 0
      ∧ q = 16383 ∧ Dev.portUp d (qPort q) = true ∧ (Dev.queue d q).flushing = false
      ∧ Dev.spillOnFor d (Dev.oldProf d (Dev.pkt d 3)) q = false ∧ Dev.qSpillState d q ≠ 1
      ∧ d.buf.descs < 2097152 ∧ Dev.fits d (Dev.oldProf d (Dev.pkt d 3)) q (cellsOf (Pkt.stored (Dev.pkt d 3)).length) = true :=
  ⟨lit_st (by decide +kernel), by decide +kernel⟩
theorem wit_AdmissionLinksThePacketAtItsQueuesTail_2 :
    let d := Dev.setPipe (Dev.setPkt base 3 { Pkt.init with whole := true, mark := 11 }) 2 { Pipe.init with tm := [3] }
    (st d).lit ∧ (Dev.pipe d 2).tm = 3 :: [] ∧ (Dev.pkt d 3).whole = true ∧ (Dev.pkt d 3).mark ≠ 0 ∧ (Dev.pipe d 3).tm = [] :=
  ⟨lit_st (by decide +kernel), by decide +kernel⟩

/-- A queue of one packet on port 1039, selected and dequeued. -/
def selecting : Dev :=
  Dev.setQueue (Dev.setPkt base 3 { Pkt.init with frame := good 64, whole := true, refs := 1 }) (1039 * 16)
    { EQueue.init with items := [.pkt { Desc.init with pkt := 3, c := 1, pool := 0 }], depth := 1 }
/-- The port asks as the only one of its pipeline, after any served port. -/
theorem wit_SelectionFollowsTiersAndTags_1 :
    let k := (pipePorts 15).findIdx (fun p => p == 1039)
    let d := Dev.setPipe selecting 15 { Dev.pipe selecting 15 with selPort := k }
    let r := Dev.selectHead 1039 (Dev.portItems d 1039 + 1) d
    let f := Dev.dequeue r.1 (1039 * 16) false
    (st selecting).lit ∧ Dev.nextAsk selecting 15 = some (1039, k) ∧ Dev.nextAsk d 15 = some (1039, k) ∧ (Dev.pipe selecting 15).ctx.live = false
      ∧ r.2 = some (1039 * 16, false, false) ∧ (Dev.select selecting 1039).2 = some (1039 * 16, false, false)
      ∧ (f.2.map (fun x => x.1.pkt)) = some 3 ∧ Pkt.own (Dev.pkt f.1 3) = false :=
  ⟨lit_st (by decide +kernel), by decide +kernel⟩
/-- An export packet of the part's own at the head. -/
theorem wit_SelectionFollowsTiersAndTags_3 :
    let k := (pipePorts 15).findIdx (fun p => p == 1039)
    let d := Dev.setPkt selecting 3 { Dev.pkt selecting 3 with inPort := 2047 }
    let d := Dev.setPipe d 15 { Dev.pipe d 15 with selPort := k }
    let r := Dev.selectHead 1039 (Dev.portItems d 1039 + 1) d
    let f := Dev.dequeue r.1 (1039 * 16) false
    Dev.nextAsk d 15 = some (1039, k) ∧ r.2 = some (1039 * 16, false, false) ∧ (f.2.map (fun x => x.1.pkt)) = some 3
      ∧ Pkt.own (Dev.pkt f.1 3) = true := by decide +kernel
/-- A recirculation port, which asks without a packet; a stopped pipeline. -/
theorem wit_SelectionFollowsTiersAndTags_2 :
    let k := (pipePorts 15).findIdx (fun p => p == 1039)
    let d := Dev.setPipe base 0 { Pipe.init with stopped := true }
    Dev.nextAsk base 15 = some (1039, k) ∧ (Dev.pipe base 15).ctx.live = false
      ∧ (Dev.selectHead 1039 1 (Dev.setPipe base 15 { Dev.pipe base 15 with selPort := k })).2 = none
      ∧ (st d).lit ∧ (Dev.pipe d 0).stopped = true ∧ Dev.nextAsk d 0 = none :=
  ⟨by decide +kernel, by decide +kernel, by decide +kernel, lit_st (by decide +kernel), by decide +kernel⟩

def txf : TxFrame :=
  { d := { Desc.init with pkt := 3 }, q := 0, sheaf := 0, fields := [], out := Deparsed.init, charge := { Charge.init with len := 64 },
    late := false, stomp := false, underrun := false, lost := false, txAt := 0, stamp := 0, sent := [] }
theorem wit_FramesStartAndEndOnTheLine_1 :
    let d := Dev.setPort (up 0 base) 0 { OutPort.init with sel := [txf] }
    (st d).lit ∧ Dev.portUp d 0 = true ∧ (Dev.port d 0).tx = none ∧ (Dev.port d 0).pfc = [] ∧ (Dev.port d 0).sel = txf :: []
      ∧ fieldOf txf.sheaf txf.fields 9 ≠ 1 ∧ Dev.launchHeld d 0 5 txf = false ∧ Dev.rouriBroken d 0 1 = false :=
  ⟨lit_st (by decide +kernel), by decide +kernel⟩
/-- A frame held for its launch time, 1,000 ns ahead. -/
theorem wit_FramesStartAndEndOnTheLine_2 :
    let f := { txf with charge := { txf.charge with launch := true }, fields := [(21, 1000), (23, 1)] }
    let u := up 0 base
    let u := { u with dict := { u.dict with vals := SMap.ins u.dict.vals (K.tsLatTx 5) (30 * 65536) } }
    let d := Dev.setPort u 0 { OutPort.init with sel := [f] }
    f.charge.launch = true ∧ Dev.launchHeld d 0 5 f = true ∧ fieldOf f.sheaf f.fields 9 ≠ 1 := by decide +kernel
theorem wit_FramesStartAndEndOnTheLine_3 :
    let d := Dev.setPort base 1023 { OutPort.init with tx := some txf }
    (st d).lit ∧ (Dev.port d 1023).tx = some txf ∧ txf.d.bale = 0 ∧ txf.lost = false ∧ (Dev.pkt (Dev.setPkt d 3 { Pkt.init with whole := true }) 3).whole = true
      ∧ (Dev.pkt (Dev.setPkt d 3 { Pkt.init with refs := 1 }) 3).refs = 1 ∧ 2 ≤ (Dev.pkt (Dev.setPkt d 3 { Pkt.init with refs := 2 }) 3).refs :=
  ⟨lit_st (by decide +kernel), by decide +kernel⟩
theorem wit_FramesStartAndEndOnTheLine_4 :
    let t : Tally := { key := 1, profile := 0, pkts := 1, bytes := 64, maxLat := 0, seen := 0 }
    let d := { base with tel := { base.tel with tally := [(4194303, t)] } }
    (st d).lit ∧ (Dev.port d 1023).tx = none ∧ SMap.find d.tel.tally 4194303 = some t :=
  ⟨lit_st (by decide +kernel), by decide +kernel⟩

theorem wit_HeldQueuesAgeAndPortsFlush_1 :
    let q := { EQueue.init with held := true, items := [.pkt { Desc.init with released := true }] }
    let d := { base with queues := [(16383, q)] }
    (∀ x ∈ base.queues, (Dev.queue base x.1).held = false ∧ Dev.qPaused base x.1 = false ∧ Dev.launchWaits base x.1 = false
        ∧ (Dev.pipe base (portPipe (qPort x.1))).stopped = false)
      ∧ (st d).lit ∧ d.queues = [(16383, q)] ∧ q.held = true ∧ q.items = [.pkt { Desc.init with released := true }] ∧ Desc.init.half = false :=
  ⟨by decide +kernel, lit_st (by decide +kernel), by decide +kernel⟩
/-- A packet enqueued at tick 0 is older than 1 ms after 2 ms. -/
theorem wit_HeldQueuesAgeAndPortsFlush_2 :
    Dev.aged (els { base with ticks := 1562500 } [(K.eqAgeLimit 0, 1)]) 0 0 = true := by decide +kernel
theorem wit_HeldQueuesAgeAndPortsFlush_3 :
    let d := Dev.setQueue (Dev.setLink base 1023 { LinkS.init with hold := true }) (1023 * 16) { EQueue.init with flushing := true }
    (st d).lit ∧ (Dev.linkS d 1023).hold = true ∧ (Dev.linkS d 0).hold = false ∧ (Dev.queue d (1023 * 16)).flushing = true
      ∧ (Dev.queue d 0).flushing = false :=
  ⟨lit_st (by decide +kernel), by decide +kernel⟩

/-! Granted writes: for every command that is a write of named elements, a state in which it is granted. -/

def h0 : Source := .host 0
/-- The part with its host mode strapped to v: 0 two ports, 1 one. -/
def strapped (v : Nat) (d : Dev) : Dev := { d with dict := { d.dict with vals := SMap.ins d.dict.vals (K.hostMode 0) v } }
/-- Port 1023 is set for 200 GbE and admin down; the granary is up; base 7 is in manual mode; host A armed a warm reset. -/
def ready : Dev :=
  { els base [(K.portSpeed 1023, 6), (K.portFec 1023, 2), (K.granState, 1), (K.tbServoMode 7, 1)] with
    rst := { base.rst with armed := some .hostA } }

theorem wit_grants_1 : [
    Instr.auditRequest h0 4294967295, .mcSet h0 65535 [1, 0] 1, .mcRead h0 0 1, .mcClear h0 65535 1, .portAdminUp h0 1023,
    .portAdminDown h0 0, .tileReachWrite h0 15 1, .laneAdaptRestart h0 1023, .tileSeedSave h0 15, .progStageChunk h0 [1, 2],
    .progLoad h0 1, .progLoadDiscard h0, .epochFlip h0 1, .stageAbort h0, .stageReset h0, .stackRetire h0 15,
    .stackUnretire h0 15].all (fun i => grantsB (st ready) i) = true := by decide +kernel
theorem wit_grants_2 : [
    Instr.polSet h0 65535 (10000 + 2 ^ 30) 1, .polRead h0 0 1, .polClearCounters h0 65535 1, .tbStep h0 7 (BitVec.allOnes 64),
    .tbTimeSet h0 7 0, .tbRateSet h0 7 5, .tbOffset h0 7 5, .tbMasterNew h0 7, .tbServoMode h0 0 1, .tallySnapshot h0 4,
    .tallyClear h0 3, .histClear h0 16383, .histClearPort h0 1023, .wrapClear h0, .perfConfigWrite h0 63 true 255,
    .perfConfigWrite h0 0 false 0].all (fun i => grantsB (st ready) i) = true := by decide +kernel
theorem wit_grants_3 : [
    Instr.vecBind h0 0 2047 65535 1, .vecUnbind h0 1 2047 1, .vecRead h0 0 0 1, .dqEnableA h0 2047, .dqEnableB h0 0, .dqDisable h0 0,
    .dqReset h0 2047, .dqResume h0 0, .dqRehomeA h0 0, .dqRehomeB h0 0, .fwWriteSlot h0 1, .fwActivateNow h0 1,
    .fwActivateNext h0 1, .fwAbort h0 1, .mgmtRestart h0 1, .warmArm h0, .warmReset h0 1 21, .pipeReset h0 0xFFFF 1,
    .fatalClear h0 0x1FF, .crashCapture h0, .crashRead h0 0 1, .cfgSync h0 1, .cfgClear h0].all (fun i => grantsB (st ready) i) = true := by
  decide +kernel

/-- The computed check is the premise of the statements. -/
theorem wit_RegisterCommandsApplyTheirWrites :
    Instr.writes (.tbStep h0 7 1) = some (h0, [{ k := K.tbStep 7, v := .num 1 }]) ∧ (st ready).grants (.tbStep h0 7 1)
      ∧ (st ready).grants (.warmReset h0 1 21) :=
  ⟨rfl, grantsB_sound (by decide +kernel), grantsB_sound (by decide +kernel)⟩

/-- No such object, no right, read-only. -/
theorem wit_WritesWithoutRightsChangeNothing_1 :
    (st base).lit ∧ base.fw.running = true ∧ base.rst.warmDue = false
      ∧ Dev.checkTarget base 0 0x3FFF 255 = .inr 5 ∧ Dev.checkTarget base 2 0x2000 1 = .inr 6 ∧ Dev.checkTarget base 0 0x0100 1 = .inr 7
      ∧ Instr.writes (.dqReset (.mctp 0 9) 0) = some (.mctp 0 9, { k := K.dqCtl 0, v := .num 4 } :: [])
      ∧ Dev.checkTarget base (Source.cls (.mctp 0 9)) (keyObj (K.dqCtl 0)) (keyEl (K.dqCtl 0)) = .inr 6 :=
  ⟨lit_st (by decide +kernel), by decide +kernel⟩
/-- Firmware that does not run yet, that restarts; a source of the absent port. -/
theorem wit_WritesWithoutRightsChangeNothing_2 :
    let x := { base with fw := { base.fw with running := false } }
    let d := { base with fw := { base.fw with running := false, restarting := true } }
    (st x).lit ∧ x.fw.running = false ∧ x.rst.warmDue = false ∧ x.fw.restarting = false
      ∧ (Instr.writes (.cfgClear h0)).isSome = true ∧ Dev.present x h0 = true ∧ d.fw.restarting = true ∧ d.fw.running = false
      ∧ Dev.present (strapped 1 base) (.host 1) = false
      ∧ Dev.present (strapped 1 base) (.mctp 2 9) = false ∧ Dev.present base (.mctp 0 9) = true :=
  ⟨lit_st (by decide +kernel), by decide +kernel⟩

/-- An element of class restart, one of class epoch, one stored at once. -/
theorem wit_GrantedValuesAreHeldAndWait :
    let r (k : Nat) : Option DictRow := Dict.find (keyObj k) (keyEl k)
    let okAt (k v : Nat) : Bool :=
      decide (keyObj k < 0x0500) && !isStart k && !(r k).any (fun x => heldWrite x k)
        && !([K.pwrShedPcFloor, K.pwrShedSpillFloor, K.idCustomer, K.devProfileClearOverrides, K.resetWarmArm, K.fwConfirm, K.fwKeyRevoke].contains k)
        && (r k).any (fun x => !x.ty.raw && DictRow.parse x (beBytes (tyLen x.ty) v) == some (.num v) && EVal.norm x k (.num v) == .num v)
        && grantB (Dev.fresh base) h0 { k := k, v := .num v }
    (st base).lit ∧ base.fw.running = true ∧ Dev.present base h0 = true ∧ base.dma.staging = [] ∧ okAt (K.dictSessionTimeoutS) 600 = true ∧ okAt (K.hostHbTimeoutMs 0) 1000 = true :=
  ⟨lit_st (by decide +kernel), by decide +kernel⟩

/-! Ports, lanes, tiles. -/

/-- Port 0 in state st of its bring-up. -/
def inState (v : Nat) (more : List (Nat × Nat)) : Dev :=
  els base ([(K.portState 0, v), (K.portSpeed 0, 6), (K.portAdmin 0, 1), (K.portInterface 0, 1)] ++ more)
theorem wit_BringUpGoesStepByStep_1 :
    (st (inState 1 [])).lit ∧ (0 : Nat) + Dev.portWidth (inState 1 []) 0 ≤ 1024 ∧ Dev.domain (inState 1 []) (6 + 0 / 64) = 1
      ∧ Dev.domain (Dev.setDomain (inState 1 []) 6 2) (6 + 0 / 64) ≠ 1 ∧ Dev.el (inState 1 []) (K.tileMcuState 0) ≠ 1
      ∧ Dev.adminUp (inState 1 []) 0 = true ∧ Dev.el (inState 1 []) (K.portState 0) = 1 ∧ Dev.el (inState 6 []) (K.portState 0) = 6
      ∧ Dev.el (inState 2 []) (K.portState 0) = 2 ∧ (6 : Nat) = Dev.el (inState 2 []) (K.portSpeed 0)
      ∧ (13 : Nat) ≠ Dev.el (inState 2 [(K.portAnAbilities 0, 2 ^ 14)]) (K.portSpeed 0)
      ∧ (13 : Nat) = Dev.el (inState 2 [(K.portSpeed 0, 13)]) (K.portSpeed 0) :=
  ⟨lit_st (by decide +kernel), by decide +kernel⟩
theorem wit_BringUpGoesStepByStep_2 :
    let e : LaneEq := { ctle := 0, snr := 7, coefs := zeros 50, fir := [] }
    (∀ m : Fin 15, 1 ≤ m.val → (2 ^ 6 : Nat).testBit m = true → m.val = 6) ∧ (2 ^ 6 : Nat).testBit 6 = true
      ∧ Dev.el (inState 2 []) (K.portAnAbilities 0) = 0 ∧ (∀ m : Fin 15, (0 : Nat).testBit m = false) ∧
    Dev.el (inState 3 []) (K.portState 0) = 3 ∧ Dev.el (inState 3 []) (K.portInterface 0) ≠ 2
      ∧ Dev.el (inState 3 [(K.portInterface 0, 2)]) (K.portInterface 0) = 2
      ∧ 0 < Dev.portWidth (inState 3 []) 0 ∧ [e][0]? = some e ∧ Dev.el (inState 4 []) (K.portState 0) = 4
      ∧ (Dev.linkS (inState 4 []) 0).debounce = false ∧ Dev.el (inState 5 []) (K.portState 0) ≠ 1 := by decide +kernel
theorem wit_PortsComeUpAndGoDown :
    let d := Dev.setLink (els (inState 4 []) [(K.portState 0, 4)]) 0 { LinkS.init with debounce := true }
    let e := Dev.setLink (inState 5 []) 0 { LinkS.init with conds := [1, 2] }
    (st d).lit ∧ 0 + Dev.portWidth d 0 ≤ 1024 ∧ Dev.el d (K.portState 0) = 4 ∧ (Dev.linkS d 0).debounce = true ∧ Dev.rouriOk d 0 = true
      ∧ Dev.domain d (6 + 0 / 64) = 1 ∧ Dev.domain (Dev.setDomain d 6 0) (6 + 0 / 64) ≠ 1
      ∧ Dev.el e (K.portState 0) = 5 ∧ (Dev.linkS e 0).conds = 1 :: [2] ∧ (Dev.linkS d 0).conds = []
      ∧ Dev.el (els e [(K.portDebounceDown 0, 0)]) (K.portDebounceDown 0) = 0
      ∧ Dev.el (els e [(K.portDebounceDown 0, 10)]) (K.portDebounceDown 0) ≠ 0 :=
  ⟨lit_st (by decide +kernel), by decide +kernel⟩
/-- One wire of a group, then a second one: a cut-through frame that crosses in between is lost. -/
theorem wit_TileLinksAndMicrocontrollersRepair_1 :
    let r := Dev.rouri base 15 1
    let d := Dev.setRouri base 15 1 { r with repairing := [255] }
    let cut := Dev.setPkt (Dev.setPort d 1023 { OutPort.init with tx := some txf }) 3 { Pkt.init with whole := false }
    (st base).lit ∧ 255 ∉ r.repairing ∧ 255 ∉ r.lost ∧ Dev.rouriOk d 15 = true ∧ 255 ∈ (Dev.rouri d 15 1).repairing
      ∧ (Dev.rouri d 15 1).repairing = 255 :: [] ∧ Dev.el d (kSpares 15 1) < 8
      ∧ 8 ≤ Dev.el (els d [(kSpares 15 1, 8)]) (kSpares 15 1)
      ∧ (Dev.port cut 1023).tx = some txf ∧ 1023 / 64 = (15 : Nat) ∧ (Dev.pkt cut txf.d.pkt).whole = false
      ∧ Dev.rouriBroken (Dev.setRouri cut 15 1 { r with repairing := [255, 254] }) 15 1 = true
      ∧ Dev.rouriOk (Dev.setRouri cut 15 1 { r with repairing := [255, 254] }) 15 = true :=
  ⟨lit_st (by decide +kernel), by decide +kernel⟩
theorem wit_TileLinksAndMicrocontrollersRepair_2 :
    let d := els base [(K.tileMcuState 15, 1), (K.portAdmin 0, 1), (K.portFecDegradeLimit 0, 1)]
    let d := { d with lanes := { d.lanes with mcuFails := [(15, 2)], adapting := [(1023, true)] } }
    (st d).lit ∧ Dev.el d (K.tileMcuState 0) = 0 ∧ Dev.el d (K.tileMcuState 15) = 1 ∧ Reload.tile 15 ∉ d.fw.reloads.tail
      ∧ Dev.domain d (6 + 0 / 64) = 1 ∧ SMap.get d.lanes.mcuFails 15 0 = 2
      ∧ SMap.get d.lanes.adapting 1023 false = true ∧ SMap.get d.lanes.adapting 0 false = false ∧ Dev.adminUp d 0 = true
      ∧ 0 + Dev.portWidth d 0 ≤ 1024 ∧ Dev.el d (K.portFecDegradeLimit 0) ≠ 0 ∧ Dev.el d (K.portFecDegradeLimit 0) < 2 :=
  ⟨lit_st (by decide +kernel), by decide +kernel⟩

/-! Table blocks of one record: the header's opcode is the row's own. -/

def hdr (op tab : Nat) (next : Bool) : Nat := op + tab * 2 ^ 8 + (if next then 1 else 0) * 2 ^ 12 + 2 ^ 16
def blockOkB (s : State) (q op h : Nat) (recs : List Nat) : Bool :=
  !Dev.dark s.dev && !Blk.bad (blkHdr op h) recs && !Dev.blockWaits s.dev s.dev.tbl.waiting q (blkHdr op h)
    && (!Blk.next (blkHdr op h) || Dev.el s.dev K.epochStageState == 0)
theorem blockOkB_sound {s : State} {q op h : Nat} {recs : List Nat} (x : blockOkB s q op h recs = true) :
    s.blockRuns q op h recs := by
  unfold blockOkB at x
  simp only [Bool.and_eq_true, Bool.not_eq_true', Bool.or_eq_true, beq_iff_eq] at x
  refine ⟨x.1.1.1, x.1.1.2, x.1.2, fun hn => ?_⟩
  rcases x.2 with h1 | h1
  · rw [hn] at h1
    cases h1
  · exact h1

/-- Key 5 of table 63 and width 4, result 9. -/
def emRec : Nat := 5 + 9 * 2 ^ 512 + 63 * 2 ^ 576 + 3 * 2 ^ 582
def emE (vis : Nat) : EmEntry := { loc := 0, tab := 63, width := 4, key := 5, result := 9, vis := vis, hit := 0 }
def withTbl (t : TableS) : State := st { base with tbl := t }

theorem wit_TableCommandsRunTheirRecords :
    tableInstr 1 2047 (hdr 1 0 true) [emRec] none = some (.tblInsert 2047 (hdr 1 0 true) [emRec] none)
      ∧ (st base).blockRuns 2047 1 (hdr 1 0 true) [emRec]
      ∧ (Dev.blockWaits base base.tbl.waiting 0 (blkHdr 9 0) = false ∧ Blk.bad (blkHdr 9 0) [] = true)
      ∧ Dev.blockWaits { base with prog := { base.prog with drain := true } } [] 0 (blkHdr 4 0) = true :=
  ⟨rfl, blockOkB_sound (by decide +kernel), by decide +kernel⟩
theorem wit_ExactMatchEntriesAreFoundAndGone :
    let t := { TableS.init with em := [emE 3] }
    (Blk.table (hdr 1 0 true) = 0 ∧ emRec < 2 ^ 585 ∧ bits emRec 0 512 < 2 ^ (128 * (bits emRec 582 2 + 1)))
      ∧ (st base).blockRuns 2047 1 (hdr 1 0 true) [emRec]
      ∧ ((∀ y ∈ (st base).dev.tbl.em, EmEntry.is y 63 4 5 = true → y.vis &&& visFor true 0 = 0)
        ∧ (emInsert (st base).dev.tbl.em { emE (visFor true 0) with loc := 0 }).isSome = true)
      ∧ (withTbl t).blockRuns 0 2 (hdr 2 0 false) [emRec] ∧ (withTbl t).blockRuns 0 3 (hdr 3 0 false) [emRec]
      ∧ (withTbl t).blockRuns 0 4 (hdr 4 0 false) [emRec]
      ∧ (Blk.next (hdr 2 0 false) = false ∧ (emResult t 63 4 5 0).isSome = true ∧ ∃ y ∈ t.em, EmEntry.is y 63 4 5 = true) :=
  ⟨by decide +kernel, blockOkB_sound (by decide +kernel), by decide +kernel, blockOkB_sound (by decide +kernel), blockOkB_sound (by decide +kernel),
    blockOkB_sound (by decide +kernel), by decide +kernel⟩

/-- Next hop 524,287, port 1040; group 16,383 of 4,096 slots. -/
def nhRec : Nat := 1040 + 2 ^ 11 + 524287 * 2 ^ 128
def grRec (mode : Nat) : Nat := 16383 + mode * 2 ^ 14 + 12 * 2 ^ 16
def grOf (managed : Bool) : Group := { managed := managed, log2 := 12, failover := false, rotate := 0, base := 0 }
def mbRec (o : Nat) : Nat := 16383 + o * 2 ^ 14
theorem wit_NextHopsGroupsAndSlotsAreKept_1 :
    let t := { TableS.init with nh := [(524287, 2 ^ 11)] }
    (Blk.table (hdr 1 3 false) = 3 ∧ nhRec < 2 ^ 147 ∧ bits (bits nhRec 0 128) 100 28 = 0 ∧ nhPort (bits nhRec 0 128) ≤ 1040)
      ∧ (withTbl TableS.init).blockRuns 0 1 (hdr 1 3 false) [nhRec] ∧ nhValid (SMap.get TableS.init.nh 524287 0) = false
      ∧ (withTbl t).blockRuns 0 2 (hdr 2 3 false) [nhRec] ∧ (withTbl t).blockRuns 0 3 (hdr 3 3 false) [nhRec]
      ∧ nhValid (SMap.get t.nh (bits nhRec 128 19) 0) = true :=
  ⟨by decide +kernel, blockOkB_sound (by decide +kernel), by decide +kernel, blockOkB_sound (by decide +kernel), blockOkB_sound (by decide +kernel),
    by decide +kernel⟩
theorem wit_NextHopsGroupsAndSlotsAreKept_2 :
    let t := { TableS.init with groups := [(16383, grOf true)], members := [(16383 * 4096 + 4095, 7)] }
    (Blk.table (hdr 5 4 false) = 4 ∧ grRec 1 < 2 ^ 26 ∧ bits (grRec 1) 14 2 ≤ 1 ∧ bits (grRec 1) 16 4 ≤ 12
        ∧ SMap.find TableS.init.groups 16383 = none
        ∧ (findBlock TableS.init (2 ^ bits (grRec 1) 16 4) (2097152 / 2 ^ bits (grRec 1) 16 4) 0).isSome = true)
      ∧ (withTbl TableS.init).blockRuns 0 5 (hdr 5 4 false) [grRec 1] ∧ (withTbl t).blockRuns 0 6 (hdr 6 4 false) [grRec 0]
      ∧ SMap.find t.groups 16383 = some (grOf true)
      ∧ (withTbl t).blockRuns 0 7 (hdr 7 5 false) [mbRec 0] ∧ (withTbl t).blockRuns 0 8 (hdr 8 5 false) [mbRec 4095]
      ∧ (t.members.length < 1048576 ∧ lowestFree (ordinals t 16383) = some 0 ∧ (memberOf t 16383 (bits (mbRec 4095) 14 12)).isSome = true)
      ∧ (withTbl { t with groups := [(16383, grOf false)] }).blockRuns 0 9 (hdr 9 6 false) [mbRec 4095]
      ∧ (mbRec 4095 < 2 ^ 39 ∧ bits (mbRec 4095) 14 12 < 2 ^ (grOf false).log2 ∧ (grOf false).managed = false) :=
  ⟨by decide +kernel, blockOkB_sound (by decide +kernel), blockOkB_sound (by decide +kernel), by decide +kernel, blockOkB_sound (by decide +kernel),
    blockOkB_sound (by decide +kernel), by decide +kernel, blockOkB_sound (by decide +kernel), by decide +kernel⟩

theorem wit_SettlementKeepsWhatTheEpochInForceSees :
    let d := els base [(K.tblSettling, 1)]
    let e := { d with prog := { d.prog with settled := true, abort := some (5, 14, 0, 0) }, tbl := { d.tbl with bad := [(3, 0, 0)] } }
    (st d).lit ∧ Dev.el d K.tblSettling = 1 ∧ (st e).lit ∧ e.prog.settled = true ∧ e.tbl.waiting = [] ∧ e.prog.abort = some (5, 14, 0, 0)
      ∧ e.tbl.bad.find? (fun y => y.1 == (3 : Fin 4).val) = some (3, 0, 0) :=
  ⟨lit_st (by decide +kernel), by decide +kernel, lit_st (by decide +kernel), by decide +kernel⟩

/-! Programs and epochs. -/

def loading (w : Bool) : Dev := { base with prog := { base.prog with load := some { images := [(15, Image.empty)], writing := w } } }
/-- A packet of the old epoch in the gate of pipeline 15. -/
def oldGate : Dev := Dev.setPipe (Dev.setPkt (loading false) 3 { Pkt.init with epoch := 1 }) 15 { Pipe.init with gate := [3] }
/-- Loads of no, one and two pipelines. -/
theorem wit_LoadsFillIdleBanksOnly :
    let two : Load := { images := [(0, Image.empty), (15, Image.empty)], writing := true }
    let d := { els base [(K.bankIdleState 15, 2), (K.bankIdleState 0, 4), (K.bankIdleState 1, 5)] with
      prog := { base.prog with released := [(15, true)] } }
    let ok (l : Load) : Bool := l.images.all (fun y => decide (y.1 < 16)) && decide (l.images.map (fun y => y.1)).Nodup
    (st (loading false)).lit ∧ (loading false).prog.load = some { images := [((15 : Fin 16).val, Image.empty)], writing := false }
      ∧ ok { images := [(15, Image.empty)], writing := false } = true ∧ ok two = true ∧ ok { images := [], writing := false } = true
      ∧ Dev.heldPackets 0 (loading false) 15 = 0 ∧ (loading false).prog.flip ≠ 2
      ∧ Dev.heldPackets 0 oldGate 15 ≠ 0
      ∧ (loading true).prog.load = some { images := [(15, Image.empty)], writing := true } ∧ (∀ y ∈ two.images, y.1 < 16)
      ∧ (st base).dev.prog.load = none
      ∧ Dev.el d (K.bankIdleState 15) = 2 ∧ Dev.heldPackets 0 d 15 = 0 ∧ SMap.get d.prog.released 15 false = true ∧ Dev.loadNames d 15 = false
      ∧ Dev.loadNames (loading true) 15 = true ∧ Dev.el d (K.bankIdleState 2) ≠ 2 ∧ Dev.el d (K.bankIdleState 2) ≠ 4
      ∧ Dev.el d (K.bankIdleState 1) = 5 ∧ Dev.el d (K.bankIdleState 0) = 4 :=
  ⟨lit_st (by decide +kernel), by decide +kernel⟩
theorem wit_FlipsCommitAtomicallyOrTimeOut :
    let d (f : Nat) := { base with prog := { base.prog with flip := f } }
    let e := { base with prog := { base.prog with drain := true } }
    (st (d 1)).lit ∧ (d 1).prog.flip = 1 ∧ Dev.flipReady (d 1) = true ∧ Dev.flipReady e = false ∧ (d 2).prog.flip = 2 ∧ (d 0).prog.flip ≠ 2
      ∧ (d 2).tbl.waiting = [] ∧ Dev.el (d 2) K.epochStageState = 0
      ∧ e.prog.drain = true ∧ (∀ n : Fin 16, (∀ i ∈ (Dev.pipe e n).gate, (Dev.pkt e i).epoch ≠ 1) ∧ (Dev.pipe e n).ctx.live = false)
      ∧ base.gran.bales = [] :=
  ⟨lit_st (by decide +kernel), by decide +kernel⟩
/-- A bundle that fails; an aborted set; an invalid idle bank; a pending load of an image. -/
theorem wit_LoaderAndEpochRegistersAct :
    Dev.el ready K.progLoadSeq ≠ (1 : Fin 4294967296).val ∧ (checkBundle (Dev.bundle ready) (Dev.activeImg 0 ready)).1.isSome = true
      ∧ Dev.el ready K.epochFlipSeq ≠ 1 ∧ Dev.el ready K.epochStageState = 0 ∧ ready.prog.flip = 0
      ∧ Dev.el (els ready [(K.epochStageState, 2)]) K.epochStageState = 2
      ∧ grantsB (st (els ready [(K.epochStageState, 2)])) (.stageReset h0) = true
      ∧ grantsB (st (els ready [(K.bankIdleState 15, 5)])) (.epochFlip h0 1) = true
      ∧ Dev.el (els ready [(K.bankIdleState 15, 5)]) (K.bankIdleState 15) = 5 := by decide +kernel

/-! The audit, multicast, the granary. -/

theorem wit_AuditsReclaimAndListsAreReplaced :
    let d := { base with buf := { base.buf with auditRun := true, auditSeq := 1 } }
    (st base).lit ∧ d.buf.auditSeq = 1 ∧ base.buf.auditRun = false ∧ d.buf.auditRun = true ∧ Dev.el base K.bufEccCorrected < 2 ^ 64
      ∧ Dev.el base K.bufEccUncorrectable < 2 ^ 64
      ∧ Dev.el base K.bufAuditSeq ≠ 1 ∧ Dev.el base K.mcSeq ≠ 1 ∧ grantsB (st d) (.auditRequest h0 1) = true
      ∧ mcListOk [0x0F, 0x7C] = true ∧ mcListOk [0x0F, 0x0C, 0x0F, 0x04] = false ∧ mcListOk [0x10, 0x04] = false
      ∧ (mcEntries [0x0F, 0x7C]).length ≤ Dev.el base K.mcEntriesFree + (Dev.mcList base 65535).length
      ∧ grantsB (st base) (.mcSet h0 65535 [0x10, 0x04] 1) = true :=
  ⟨lit_st (by decide +kernel), by decide +kernel⟩

/-- Queue 16,383 refers to bale 2,097,151. -/
def baleOf (closed written reading : Bool) : Bale :=
  { Bale.init with queue := 16383, closed := closed, written := written, reading := if reading then [16383] else [] }
def spilled (b : Bale) (openIt : Bool) : Dev :=
  Dev.setQueue { base with gran := { base.gran with bales := [(2097151, b)] } } 16383
    { EQueue.init with items := [.bale 2097151 0], openBale := if openIt then some 2097151 else none }
theorem wit_BalesAreWrittenReturnedAndFreed_1 :
    let full := { base with gran := { base.gran with wr := RateWin.add RateWin.init 0 (Dev.el base K.pwrSpillLimitGbps * 125000) } }
    (st (spilled (baleOf false false false) true)).lit ∧ (Dev.queue (spilled (baleOf false false false) true) 16383).openBale ≠ none
      ∧ (Dev.queue base 16383).openBale = none
      ∧ SMap.find (spilled (baleOf true false false) false).gran.bales 2097151 = some (baleOf true false false)
      ∧ Dev.spillRoom (spilled (baleOf true false false) false) = true ∧ Dev.spillRoom full = false
      ∧ (baleOf true false false).closed = true ∧ (baleOf true false false).written = false ∧ (baleOf false false false).closed = false :=
  ⟨lit_st (by decide +kernel), by decide +kernel⟩
/-- A bale that waits alone, one that entered its window before it, one whose stack is out of service. -/
theorem wit_BalesAreWrittenReturnedAndFreed_2 :
    let d := spilled (baleOf true true false) false
    let e := spilled (baleOf true true true) false
    let first := { d with gran := { d.gran with returns := [(0, 5, 0), (16383, 2097151, 0), (1, 6, 0)] } }
    Dev.nextReturn d = some (16383, 2097151, 0) ∧ Dev.el d (K.gstackState (2097151 % 16)) ≠ 2 ∧ Dev.nextReturn base = none
      ∧ first.gran.returns = [(0, 5, 0)] ++ (16383, 2097151, 0) :: [(1, 6, 0)] ∧ (16383, 2097151, 0) ∈ Dev.returnable first 16383
      ∧ (∀ y ∈ [((0 : Nat), (5 : Nat), (0 : Nat))], y ∉ Dev.returnable first y.1)
      ∧ SMap.find e.gran.bales 2097151 = some (baleOf true true true) ∧ EQueue.refTo (Dev.queue e 16383) 2097151 = some 0
      ∧ 16383 ∈ (baleOf true true true).reading ∧ (baleOf true true true).refs ≤ 1 ∧ (Dev.queue e 16383).openBale ≠ some 2097151
      ∧ (baleOf true true true).contIn = 0 ∧ EQueue.refTo (Dev.queue base 0) 2097151 = none ∧ { fine with bad := [255] }.bad ≠ []
      ∧ Dev.el e K.granDropsEcc < 2 ^ 64 ∧ EQueue.refTo (Dev.queue d 16383) 2097151 = some 0
      ∧ 16383 ∉ (Dev.bale d 2097151).reading ∧ Dev.el (els d [(K.gstackState 15, 2)]) (K.gstackState (2097151 % 16)) = 2
      ∧ Dev.nextReturn (els d [(K.gstackState 15, 2)]) = some (16383, 2097151, 0) := by decide +kernel

/-- The granary's microcontroller runs; every reserve segment of stack 15 is in use. -/
def gmcuUp : Dev := els base [(K.fwGmcuState, 0)]
def fullRemap : SMap Nat := (List.range 3072).map (fun i => (segKey 15 (i + 1), i + 1))
def remapped (m : SMap Nat) : Dev := { gmcuUp with gran := { base.gran with remap := m } }
def fullUp : Dev := remapped fullRemap
theorem fullRemap_mem {r : Nat} (h : r < 3072) : (segKey 15 (r + 1), r + 1) ∈ fullRemap := by
  unfold fullRemap
  exact List.mem_map.mpr ⟨r, List.mem_range.mpr h, rfl⟩
theorem no_reserve {d : Dev} (h : ∀ r, r < 3072 → (segKey 15 (r + 1), r + 1) ∈ d.gran.remap) : Dev.freeReserve d 15 = none := by
  unfold Dev.freeReserve
  rw [List.find?_eq_none]
  intro r hr
  simp only [List.mem_range] at hr
  simp only [Bool.not_eq_true', Bool.not_eq_false, List.contains_iff_mem]
  have k : (segKey 15 (r + 1) / 2 ^ 20 == 15) = true := beq_iff_eq.mpr (show (15 * 2 ^ 20 + (r + 1)) / 2 ^ 20 = 15 by omega)
  exact List.mem_append.mpr (.inl (List.mem_map.mpr ⟨_, List.mem_filter.mpr ⟨h r (by omega), k⟩, rfl⟩))
theorem remapped_remap (m : SMap Nat) : (remapped m).gran.remap = m := rfl
theorem fullUp_reserve : Dev.freeReserve fullUp 15 = none :=
  no_reserve (fun _ h => by rw [fullUp, remapped_remap]; exact fullRemap_mem h)
theorem wit_StacksAreRepairedAndRetired_1 :
    let done := { gmcuUp with gran := { base.gran with remap := [(segKey 15 127999, 1)] } }
    let part := { done with gran := { done.gran with copying := [(segKey 15 127999, true)] } }
    (st base).lit ∧ Dev.el gmcuUp K.fwGmcuState = 0 ∧ Dev.el gmcuUp (K.gstackState 15) = 0 ∧ 127999 < resBase
      ∧ SMap.find gmcuUp.gran.remap (segKey 15 127999) = none ∧ Dev.standsFor gmcuUp 15 127999 = none ∧ Dev.freeReserve gmcuUp 15 = some 0
      ∧ SMap.find fullUp.gran.remap (segKey 15 0) = none ∧ Dev.standsFor fullUp 15 0 = none ∧ 0 < Dev.spillSegs fullUp
      ∧ Dev.el fullUp K.fwGmcuState = 0 ∧ Dev.el fullUp (K.gstackState 15) = 0
      ∧ SMap.find fullUp.gran.gone ((0 * 8) * 16 + 15) = none ∧ Dev.el (els base [(K.fwGmcuState, 2)]) K.fwGmcuState ≠ 0
      ∧ SMap.get part.gran.copying (segKey 15 127999) false = true ∧ SMap.get done.gran.copying (segKey 15 127999) false = false
      ∧ (SMap.find done.gran.remap (segKey 15 127999)).isSome = true ∧ Dev.standsFor done 15 127999 = none
      ∧ bit (Dev.el base K.thmStackHot) 15 = false ∧ Reload.gmcu ∉ base.fw.reloads.tail :=
  ⟨lit_st (by decide +kernel), by decide +kernel⟩
/-- Training that is over, that waits for the firmware, that finds it running. -/
theorem wit_StacksAreRepairedAndRetired_3 :
    let d := els base [(K.granState, 0)]
    let waits := { d with fw := { d.fw with running := false } }
    let done := { d with gran := { d.gran with trained := true } }
    done.gran.trained = true ∧ waits.gran.trained = false ∧ waits.fw.running = false ∧ d.gran.trained = false ∧ d.fw.running = true
      ∧ Dev.el d K.granState = 0 ∧ Dev.domain d 22 = 1 := by decide +kernel
theorem wit_StacksAreRepairedAndRetired_2 :
    let s (v : Nat) := els base [(K.gstackState 15, v)]
    Dev.el (s 0) (K.gstackState 15) = 0 ∧ Dev.el (s 4) (K.gstackState 15) = 4 ∧ Dev.el (s 1) (K.gstackState 15) = 1
      ∧ Dev.el (s 0) (K.gstackState 15) ≠ 1 ∧ grantsB (st (els ready [(K.fwGmcuState, 0)])) (.stackRetire h0 15) = true ∧ Dev.el ready (K.gstackState 15) = 0
      ∧ SMap.get base.gran.drift (15 * 4 + 3) 0 = 0 ∧ Dev.granUp base = false ∧ Dev.granUp ready = true
      ∧ (∀ a ∈ ready.tel.recs, ∀ b ∈ ready.tel.recs, a = b) := by decide +kernel

/-! Time, pins, wheels, policers. -/

def timeWith (b : TimeBase) (es : List (Nat × Nat)) : Dev := Dev.setBase (els base es) 7 b
theorem wit_TimeBasesStepSetAndFollowOffsets_1 :
    (st ready).lit ∧ ready.time.bases.length = 8 ∧ (Dev.base ready 7).inRange
      ∧ (st ready).grants (.tbStep h0 7 (BitVec.allOnes 64)) ∧ (st ready).grants (.tbTimeSet h0 7 (BitVec.allOnes 96))
      ∧ (st ready).grants (.tbRateSet h0 7 1) ∧ (st ready).grants (.tbMasterNew h0 7) ∧ (st ready).grants (.tbServoMode h0 0 1)
      ∧ (st ready).grants (.tbOffset h0 7 0) ∧ Dev.el ready (K.tbServoMode 7) ≠ 0 :=
  ⟨lit_st (by decide +kernel), by decide +kernel, by unfold TimeBase.inRange; decide +kernel, grantsB_sound (by decide +kernel),
    grantsB_sound (by decide +kernel), grantsB_sound (by decide +kernel), grantsB_sound (by decide +kernel), grantsB_sound (by decide +kernel),
    grantsB_sound (by decide +kernel), by decide +kernel⟩
theorem wit_TimeBasesStepSetAndFollowOffsets_2 :
    grantsB (st base) (.tbOffset h0 0 (1000 * 65536)) = true ∧ Dev.el base (K.tbServoMode 0) = 0 ∧ Dev.el base (K.tbServoSource 0) = 0
      ∧ ((1000 * 65536 : BitVec 64).toInt.natAbs : Int) ≤ (Dev.el base (K.tbServoStepNs 0) : Int) * 65536
      ∧ (Dev.base base 0).state = 0 ∧ (Dev.base base 0).first = true
      ∧ (Dev.base (timeWith { TimeBase.init with state := 1 } []) 7).state = 1
      ∧ (Dev.base (timeWith { TimeBase.init with state := 2 } []) 7).state ≠ 0
      ∧ (Dev.base (timeWith { TimeBase.init with state := 2 } []) 7).state ≠ 1 := by decide +kernel
theorem wit_PinsCaptureAndPulse_1 :
    let d := els base [(K.cap1Cfg, 16), (K.out1Cfg, 8)]
    let q := { d with time := { d.time with caps := [{ queue := [], last := none }, { queue := [5], last := some 0 }] } }
    let later := { q with ticks := 79 }
    (st d).lit ∧ d.time.caps.length = 2 ∧ q.time.caps.length = 2 ∧ d.time.pulses.length = 2 ∧ d.fw.running = true
      ∧ bit (Dev.capCfg d 0) 4 = false ∧ bit (Dev.capCfg d 1) 4 = true ∧ bit (Dev.capCfg d 1) 3 ≠ true ∧ bit (Dev.capCfg d 1) 3 = false
      ∧ (Dev.capture d 1).last = none ∧ (Dev.capture q 1).last = some 0 ∧ 2097152 * q.ticks / 25 + 5 * 16384 < 0 + 100 * 65536
      ∧ 0 + 100 * 65536 ≤ 2097152 * later.ticks / 25 + 0 * 16384
      ∧ bits (Dev.outCfg d 1) 3 2 ≠ 0 ∧ bits (Dev.outCfg d 0) 3 2 = 0 :=
  ⟨lit_st (by decide +kernel), by decide +kernel⟩
theorem wit_PinsCaptureAndPulse_2 :
    let d := Dev.setTxts base 15 { TxtsQueue.init with entries := [(4, 5), (6, 7)] }
    (st d).lit ∧ (Dev.txts d 15).entries = (4, 5) :: [(6, 7)] ∧ (Dev.txts d 0).entries = [] ∧ Dev.hostExists d 0 = true
      ∧ Dev.hostExists (strapped 1 d) 1 = false := ⟨lit_st (by decide +kernel), by decide +kernel⟩
/-- An edge of PPS mode at second 0 and one from the output's start; a pulse that is over, one that is not, and none. -/
theorem wit_PinsCaptureAndPulse_3 :
    let d (cfg : Nat) (a : Bool) (left : Int) : Dev :=
      let x := els base [(K.out1Cfg, cfg), (K.out1Period, 1)]
      { x with time := { x.time with pulses := x.time.pulses.set 1 { level := false, active := a, since := none, left := left } } }
    (st (d 8 false 0)).lit ∧ (d 8 false 0).time.pulses.length = 2 ∧ (Dev.pulse (d 8 false 0) 1).active = false
      ∧ (Dev.pulse (d 8 true 131072) 1).active = true
      ∧ Dev.pulseDue (d 8 false 0) 1 = some 0 ∧ (Dev.pulseDue (d 16 true 0) 1).isSome = true ∧ Dev.pulseDue (d 0 false 0) 1 = none
      ∧ (Dev.pulse (d 8 true 131072) 1).left ≤ 2 * 65536 ∧ 2 * 65536 < (Dev.pulse (d 8 true 131073) 1).left :=
  ⟨lit_st (by decide +kernel), by decide +kernel⟩
theorem wit_WheelsReleaseInSlotOrderAndPolicersAreSet :
    let d := Dev.setWheel base 15 [(0, 3)] [(2 ^ 40, 4)]
    let good : BitVec 64 := 157
    let bad : BitVec 64 := 156
    (st d).lit ∧ 0 ≤ schedDiff (Dev.now d) (slotTime 0) ∧ (∀ x ∈ Dev.wheel d 0, ¬ 0 ≤ schedDiff (Dev.now d) (slotTime x.1))
      ∧ Dev.el ready K.polSeq ≠ 1 ∧ grantsB (st ready) (.polSet h0 65535 good 1) = true ∧ grantsB (st ready) (.polSet h0 0 bad 1) = true
      ∧ bits good.toNat 49 15 = 0 ∧ 157 ≤ bits good.toNat 0 25 ∧ bits bad.toNat 0 25 ≠ 0 ∧ ¬ 157 ≤ bits bad.toNat 0 25 :=
  ⟨lit_st (by decide +kernel), by decide +kernel⟩

/-! Telemetry. -/

def oldTally : Tally := { key := 1, profile := 0, pkts := 1, bytes := 64, maxLat := 0, seen := 0 }
theorem wit_TalliesSweepSnapshotAndClear :
    let d := { els base [(K.tallyIdleS, 1), (K.tallySnapshotStatus, 1)] with tel := { base.tel with tally := [(4194303, oldTally)] } }
    let e := Dev.setBase d 0 { TimeBase.init with sec := 1 }
    (st e).lit ∧ Dev.el (els base [(K.tallyIdleS, 0)]) K.tallyIdleS * 1000 = 0 ∧ Dev.el e K.tallyIdleS * 1000 ≠ 0
      ∧ Dev.el e K.tallyIdleExports + e.tel.tally.length < 2 ^ 64 ∧ SMap.find e.tel.tally 4194303 = some oldTally
      ∧ Dev.el e K.tallyIdleS * 1000 ≤ (Dev.tb0Ns e / 1000000 % 2 ^ 40 + 2 ^ 40 - oldTally.seen) % 2 ^ 40
      ∧ ¬ Dev.el d K.tallyIdleS * 1000 ≤ (Dev.tb0Ns d / 1000000 % 2 ^ 40 + 2 ^ 40 - oldTally.seen) % 2 ^ 40
      ∧ (∀ i, i < 8 → Dev.el e (K.streamLost i) + Dev.el e K.telStoreHead + 1 < 2 ^ 64)
      ∧ Dev.el base K.tallySnapshotStatus ≠ 1 ∧ Dev.el d K.tallySnapshotStatus = 1
      ∧ grantsB (st base) (.tallySnapshot h0 4) = true ∧ grantsB (st d) (.tallyClear h0 4) = true ∧ grantsB (st base) (.tallyClear h0 0) = true :=
  ⟨lit_st (by decide +kernel), by decide +kernel⟩
theorem wit_CountersAreClearedOneByOne :
    (st ready).lit ∧ (st ready).grants (.histClear h0 16383) ∧ (st ready).grants (.histClearPort h0 1023) ∧ (st ready).grants (.wrapClear h0)
      ∧ (st ready).grants (.perfConfigWrite h0 63 true 255) ∧ (st ready).grants (.perfConfigWrite h0 0 false 0) :=
  ⟨lit_st (by decide +kernel), grantsB_sound (by decide +kernel), grantsB_sound (by decide +kernel), grantsB_sound (by decide +kernel),
    grantsB_sound (by decide +kernel), grantsB_sound (by decide +kernel)⟩

/-- Stream 7 exports postcards over UDP, one to a packet, through port 0. -/
def exporting (recs : SMap Nat) (head : Nat) : Dev :=
  let d := els (up 0 base) [(K.streamCfg 7, 2 + 4 + 2 ^ 20), (K.telStoreHead, head)]
  let d := Dev.setBlob (Dev.setBlob d (K.colDst 0) [10, 0, 0, 1]) (K.colSrc 0) [10, 0, 0, 2]
  { d with tel := { d.tel with recs := recs } }
theorem wit_GleanerSweepsAndStreamsExport_1 :
    let d := els base [(K.gleanPeriodUs, 100), (K.gleanQueue, 5), (K.dqState 5, 1), (K.dqSqProd 5, 1)]
    (st d).lit ∧ Dev.el base K.gleanPeriodUs = 0 ∧ Dev.el d K.gleanPeriodUs ≠ 0 ∧ Dev.gleanReady d = true ∧ Dev.gleanReady base = false
      ∧ Dev.streamKind base 7 ≠ 2 :=
  ⟨lit_st (by decide +kernel), by decide +kernel⟩
theorem wit_GleanerSweepsAndStreamsExport_2 :
    let d := exporting [] 0
    let e := exporting [(0, 1)] 1
    (st d).lit ∧ Dev.streamKind d 7 = 2 ∧ 0 < Dev.streamN d 7 ∧ (Dev.gather d 7 (Dev.streamN d 7) 0 0).recs = []
      ∧ (Dev.gather e 7 (Dev.streamN e 7) 0 0).recs ≠ [] ∧ Dev.streamCan e 7 = true
      ∧ Dev.streamCan (els e [(K.portState 0, 1)]) 7 = false ∧ Dev.el e (K.streamRecords 7) < 2 ^ 64
      ∧ (Dev.admitOwn 0 (Dev.useFree e) (Dev.el e (K.colPort 0) * 16 + Dev.el e (K.colQueue 0)) (Dev.exportFrame e 7 [1])).2 = true :=
  ⟨lit_st (by decide +kernel), by decide +kernel⟩


/-! Host ports. -/

theorem wit_HostEventsLeaveForwardingAlone :
    (st base).lit ∧ (Instr.hostLoss 1 .flr = .hlHeartbeat 1 ∨ ∃ c, Instr.hostLoss 1 .flr = .hostLoss 1 c) :=
  ⟨lit_st (by decide +kernel), .inr ⟨_, rfl⟩⟩

theorem wit_HostPortsFollowTheirConditions :
    let one := strapped 1 base
    let up := els (strapped 0 base) [(K.hostState 1, 1), (K.hostHbTimeoutMs 1, 1000)]
    (st base).lit ∧ (st one).lit ∧ Dev.hostExists one 1 = false ∧ Dev.hostExists one 0 = true ∧ Dev.hostExists up 1 = true
      ∧ Dev.el (els base [(K.hostHbTimeoutMs 1, 0)]) (K.hostHbTimeoutMs 1) = 0 ∧ Dev.el base (K.hostState 1) ≠ 1
      ∧ Dev.el up (K.hostHbTimeoutMs 1) ≠ 0 ∧ Dev.el up (K.hostState 1) = 1 ∧ { hcfg with width := 8 }.width.val = 8 ∧ Dev.x8 up = false
      ∧ hcfg.width.val ≠ 8 ∧ Dev.x8 one = true ∧ hcfg.bme = true ∧ hcfg.d0 = true ∧ hcfg.pri = true
      ∧ { hcfg with pri := false }.pri = false ∧ (∀ y ∈ base.dma.qs, (Dev.dq base y.1).pri = false) :=
  ⟨lit_st (by decide +kernel), lit_st (by decide +kernel), by decide +kernel⟩

/-- Queue 2047 runs on port B with rings of 64 places; its indices stand at 65,535. -/
def ringing (more : List (Nat × Nat)) : Dev :=
  Dev.setDq (els (strapped 0 base) ([(K.dqHome 2047, 2), (K.dqState 2047, 1), (K.dqSqCons 2047, 65535), (K.dqSqProd 2047, 65535)] ++ more)) 2047
    { Dq.init with ctx := 2 ^ 16 * 0xFFFF }
/-- A write outside the doorbells; the ring's size ahead; one more; behind the producer; the upper half not zero. -/
theorem wit_HostAccessesRingBindAndInvalidate_1 :
    let d := ringing []
    let e := ringing [(K.dqSqProd 2047, 0)]
    let c := Dev.el d (K.dqSqCons 2047)
    (st d).lit ∧ Dev.hostExists d 1 = true ∧ Dev.el d (K.hostBarBad 1) + 1 < 2 ^ 64
      ∧ ¬ ((2047 * 4096 + 1) % 4096 = 0) ∧ 2047 * 4096 / 4096 = 2047 ∧ Dev.dqHp d 2047 = 1 ∧ Dev.dqSt d 2047 ∉ [0, 4, 5]
      ∧ idxSub 63 c = 64 ∧ 2 ^ ctxSqLog (Dev.dq d 2047).ctx = 64 ∧ idxSub (Dev.el d (K.dqSqProd 2047)) c = 0
      ∧ 2 ^ ctxSqLog (Dev.dq d 2047).ctx < idxSub 64 c ∧ idxSub 65535 c < idxSub (Dev.el e (K.dqSqProd 2047)) c ∧ 65536 ≤ (2 ^ 32 - 1 : Nat) :=
  ⟨lit_st (by decide +kernel), by decide +kernel⟩
theorem find_of_mem {m : SMap Nat} {k v : Nat} (h : (k, v) ∈ m) : SMap.find m k ≠ none := by
  induction m with
  | nil => cases h
  | cons x t ih =>
    simp only [SMap.find]
    split
    · simp
    · rcases List.mem_cons.mp h with rfl | h
      · simp at *
      · exact ih h
/-- Port A with every vector bound, none to queue 65. -/
def vecs : SMap Nat := (List.range 2016).map (fun k => (k + 32, 2047))
theorem vecs_full (k : Nat) (h1 : 32 ≤ k) (h2 : k ≤ 2047) : SMap.find vecs k ≠ none :=
  find_of_mem (v := 2047) (List.mem_map.mpr ⟨k - 32, List.mem_range.mpr (by omega), by simp; omega⟩)
def allBound : Dev :=
  let d := els base [(K.dqHome 65, 1)]
  Dev.setHp d 0 { Dev.hp d 0 with vecQueue := vecs }
theorem wit_HostAccessesRingBindAndInvalidate_2b :
    (Dev.hp allBound 0).vecQueue = vecs ∧ (∀ k, 32 ≤ k → k ≤ 2047 → SMap.find vecs k ≠ none) ∧ Dev.vecOf allBound 0 65 = none
      ∧ Dev.vecOf allBound 1 65 = none ∧ Dev.dqHp allBound 65 = 0 ∧ (st allBound).grants (.vecBind h0 0 65 65535 1) :=
  ⟨by decide +kernel, vecs_full, by decide +kernel, by decide +kernel, by decide +kernel, grantsB_sound (by decide +kernel)⟩
/-- Vectors: the range's ends, a bound queue, a vector in use. -/
theorem wit_HostAccessesRingBindAndInvalidate_2 :
    let d := els base [(K.dqHome 0, 1), (K.dqHome 65, 1)]
    let h := Dev.hp d 0
    let e := Dev.setHp d 0 { h with vecQueue := [(2047, 0)] }
    Dev.el d K.vecSeq ≠ 1 ∧ grantsB (st d) (.vecBind h0 0 2047 65535 1) = true ∧ grantsB (st d) (.vecBind h0 0 0 31 1) = true
      ∧ grantsB (st e) (.vecBind h0 0 65 2047 1) = true ∧ grantsB (st e) (.vecUnbind h0 0 0 1) = true ∧ grantsB (st e) (.vecRead h0 0 0 1) = true
      ∧ Dev.dqHp d 2047 ≠ 0 ∧ Dev.dqHp d 65 = 0 ∧ Dev.vecOf e 0 0 = some 2047 ∧ Dev.vecOf e 0 65 = none ∧ Dev.vecOf e 1 65 = none ∧ Dev.vecOf d 1 0 = none ∧ Dev.vecOf d 0 0 = none
      ∧ SMap.find (Dev.hp e 0).vecQueue 2047 = some 0 ∧ SMap.find (Dev.hp e 0).vecQueue 32 = none := by decide +kernel
theorem wit_HostAccessesRingBindAndInvalidate_3 :
    let h := Dev.hp base 0
    let d := Dev.setHp base 0 { h with invals := List.range 32 }
    let w := ringing [(K.dqState 2047, 2)]
    let w := Dev.setHp (Dev.setDq w 2047 { Dev.dq w 2047 with pri := true }) 1 { Dev.hp w 1 with priOn := true, priMax := 1, priOut := 1 }
    32 ≤ (Dev.hp d 0).invals.length ∧ h.invals.length < 32 ∧ Dev.dqHp w 2047 = 1 ∧ Dev.dqSt w 2047 = 2 ∧ (Dev.dq w 2047).ctx ≠ 0
      ∧ Dev.hostUp base 0 = false ∧ Dev.hostUp (els base [(K.hostState 0, 1)]) 0 = true ∧ (Dev.hp w 1).priOn = true ∧ 0 < (Dev.hp w 1).priOut
      ∧ (Dev.dq w 2047).pri = true ∧ (∀ y ∈ (Dev.hp w 1).priWait, y.1 ≠ 2047) ∧ (Dev.hp base 0).priOn = false ∧ h.ecrcCheck = false
      ∧ { h with ecrcCheck := true }.ecrcCheck = true ∧ (∀ k, PcieErr.surpriseDown ≠ .correctable k) := by decide +kernel

/-! DMA queues. -/

/-- Both host ports are up; queue 2047 of port B is in state v. -/
def dq (v : Nat) (x : Dq) : Dev := Dev.setDq (ringing [(K.dqState 2047, v), (K.hostState 0, 1), (K.hostState 1, 1)]) 2047 x
def ctxW : Nat := 2 ^ 16 * 0xFFFF
def one : Dq := { Dq.init with ctx := ctxW }
/-- Each operation: allowed in some state, turned away in another; the absent port. -/
theorem wit_QueueOperationsFollowTheirTable_1 :
    let allowed (v op : Nat) : Bool := Dev.dqAllowed (dq v one) 2047 op 1
    let granted (v op : Nat) : Bool := (dqInstr op h0 2047).any (fun i => grantsB (st (dq v one)) i)
    (st (dq 1 one)).lit
      ∧ [(0, 1), (0, 2), (1, 3), (3, 3), (1, 4), (5, 4), (3, 5), (1, 6), (4, 6), (4, 7)].all (fun x => allowed x.1 x.2 && granted x.1 x.2) = true
      ∧ [(1, 1), (1, 2), (0, 3), (4, 3), (0, 4), (1, 5), (0, 6), (5, 7)].all (fun x => !allowed x.1 x.2 && granted x.1 x.2) = true
      ∧ Dev.x8 (strapped 1 (dq 0 one)) = true ∧ Dev.dqAllowed (strapped 1 (dq 0 one)) 2047 2 0 = true
      ∧ grantsB (st (strapped 1 (dq 0 one))) (.dqEnableB h0 2047) = true :=
  ⟨lit_st (by decide +kernel), by decide +kernel⟩
/-- A context that is well-formed, one that is not, another than the queue's; a queue with nothing left to stop. -/
theorem wit_QueueOperationsFollowTheirTable_2 :
    let bs := leBytes 64 ctxW
    let d (v op : Nat) : Dev := dq v { one with cmd := some (op, 1) }
    leNat (bs.take 64) = ctxW ∧ Dev.ctxBad (d 0 2) 2047 1 ctxW = false ∧ Dev.ctxBad (d 0 2) 2047 1 (leNat ((leBytes 64 (ctxW + 5)).take 64)) = true
      ∧ (Dev.dq (d 0 2) 2047).cmd = some (2, 1) ∧ Dev.dqSt (d 0 2) 2047 = 0 ∧ Dev.dqSt (d 3 5) 2047 = 3 ∧ ctxW = (Dev.dq (d 3 5) 2047).ctx
      ∧ leNat ((leBytes 64 (ctxW + 2 ^ 64 * 4096)).take 64) ≠ (Dev.dq (d 3 5) 2047).ctx ∧ Dev.ctxBad (d 3 5) 2047 1 (ctxW + 2 ^ 64 * 4096) = false
      ∧ 1 ≤ Dev.dqSt (d 4 7) 2047 ∧ Dev.dqSt (d 4 7) 2047 ≤ 4 ∧ 2047 ∉ (Dev.hp (d 0 2) 1).ctxWait
      ∧ Dev.tagsUsed (d 0 2) 1 < 768 ∧ (2047 : Nat) ∈ (Dev.hp (Dev.setHp (d 0 2) 1 { Dev.hp base 1 with ctxWait := [2047] }) 1).ctxWait
      ∧ 768 ≤ Dev.tagsUsed (Dev.setDq (d 0 2) 2047 { one with rd := some .head, tags := 768 }) 1
      ∧ Dev.dqSt (dq 5 one) 2047 = 5 ∧ (Dev.dq (dq 5 one) 2047).item = none ∧ Dev.dqSt (dq 4 one) 2047 ≠ 5 := by decide +kernel

/-- An item of queue 2047. -/
def itemOf (s : DqStage) (descs : List Nat) (off : Nat) : DqItem :=
  { first := 65535, descs := descs, stage := s, seg := 0, off := off, done := off, data := [], status := 0, info := 0, err := 0, upto := 0, marks := 0 }
def busyDq (v kind : Nat) (it : DqItem) : Dev :=
  let d := dq v { one with ctx := ctxW + kind, item := some it }
  { d with dma := { d.dma with cache := [2047] } }
theorem wit_TheEngineMovesItemsInSlices_1 :
    let e := descAddr 0
    let it := itemOf .read [64 * 2 ^ 64] 0
    let d := busyDq 1 0 it
    let f := busyDq 5 0 (itemOf .entry [64 * 2 ^ 64] 64)
    (st d).lit ∧ (∀ y ∈ base.dma.qs, Dev.dqWork base y.1 = false) ∧ Dev.dqWork d 2047 = true ∧ (Dev.dq d 2047).ctx ≠ 0
      ∧ Dev.dqPick d = some 2047 ∧ d.dma.cache.contains 2047 = true ∧ (Dev.dq d 2047).item = some it ∧ Dev.dqHp d 2047 < 2
      ∧ (Dev.hp d (Dev.dqHp d 2047)).atsOn = false ∧ it.stage = .read ∧ e = 0 ∧ ctxPrio (Dev.dq d 2047).ctx ≤ 7
      ∧ Dev.tagsUsed d (Dev.dqHp d 2047) + (splitReq (Dev.hp d (Dev.dqHp d 2047)).mrrs 64 0 64).length ≤ 768
      ∧ 768 < Dev.tagsUsed (Dev.setDq (els d [(K.dqHome 2046, 2)]) 2046 { one with rd := some .head, tags := 768 }) (Dev.dqHp d 2047) + 1
      ∧ (itemOf .entry [64 * 2 ^ 64] 64).err = 0
      ∧ Dev.dqPick f = some 2047 ∧ Dev.cqFree f 2047 ≠ 0 ∧ 16 ≤ (Dev.hp f (Dev.dqHp f 2047)).mps ∧ ctxCqBase (Dev.dq f 2047).ctx % 4096 = 0 :=
  ⟨lit_st (by decide +kernel), by decide +kernel⟩
theorem wit_TheEngineMovesItemsInSlices_2 :
    let d (v : Nat) (r : DqRead) : Dev := Dev.setDq (dq v one) 2047 { one with rd := some r }
    let t := Dev.el (dq 1 one) (K.dqCqTail 2047)
    let full := els (dq 1 one) [(K.dqCqTail 2047, 64)]
    let ok (x : Dev) (w : Nat) : Bool := let t := Dev.el x (K.dqCqTail 2047)
      decide (w < 65536 ∧ idxSub t w ≤ 2 ^ ctxCqLog ctxW ∧ idxSub t w ≤ idxSub t (Dev.el x (K.dqCqHead 2047)))
    (Dev.dq (d 1 (.descs 4)) 2047).rd = some (.descs 4) ∧ (Dev.dq (d 5 (.data 4096)) 2047).rd = some (.data 4096)
      ∧ ctxKind (Dev.dq (d 1 .head) 2047).ctx ≠ 2 ∧ t = 0 ∧ ok full 0 = true ∧ ok full 64 = true ∧ ok full 65535 = false ∧ ok full 65536 = false
      ∧ leNat ((leBytes 64 ctxW).take 64) = (Dev.dq (d 2 .ctx) 2047).ctx ∧ leNat ((leBytes 64 0).take 64) ≠ (Dev.dq (d 2 .ctx) 2047).ctx
      ∧ Dev.dqSt (d 3 .head) 2047 = 3 ∧ Dev.dqSt (d 4 .head) 2047 = 4
      ∧ (let x := Dev.setDq (dq 2 one) 2047 { one with rd := some (.data 1), item := some (itemOf .read [1] 0) }
         Dev.dqSt x 2047 = 2 ∧ (Dev.dq x 2047).item = some (itemOf .read [1] 0) ∧ (itemOf .read [1] 0).stage = .read)
      ∧ Dev.dqSt (d 5 .head) 2047 = 5 ∧ (Dev.dq (d 5 .head) 2047).rd ≠ none
      ∧ (let x := Dev.setDq (dq 1 one) 2047 { one with rd := some (.data 1), item := some (itemOf .read [1] 0) }
         (Dev.dq x 2047).rd = some (.data 1) ∧ (Dev.dq x 2047).item = some (itemOf .read [1] 0)) := by decide +kernel
theorem wit_TheEngineMovesItemsInSlices_3 :
    let s := Dev.setDq (dq 5 one) 2047 { one with stalled := true }
    let own := { s with dma := { s.dma with cache := [2047] } }
    let c := Dev.setHp (Dev.setDq (dq 2 one) 2047 { one with ctx := 2047 * 2 ^ 16 + 2 ^ 40, unsig := 1 }) 1
      { Dev.hp base 1 with vecQueue := [(2047, 2047)] }
    let w := busyDq 1 3 { itemOf .write [] 0 with done := 64 }
    let j := busyDq 1 0 (itemOf .wait [15 * 2 ^ 96] 0)
    (Dev.dq s 2047).stalled = true ∧ (Dev.dq s 2047).rd = none ∧ Dev.dqSt s 2047 = 5 ∧ Dev.hostUp s (Dev.dqHp s 2047) = true
      ∧ (Dev.dq s 2047).pri = false ∧ s.dma.cache.contains 2047 = false ∧ own.dma.cache.contains 2047 = true
      ∧ (Dev.hp own (Dev.dqHp own 2047)).atsOn = false ∧ Dev.tagsUsed s (Dev.dqHp s 2047)
          + (splitReq (Dev.hp s (Dev.dqHp s 2047)).mrrs 64 (Dev.ctxBase s (Dev.dqHp s 2047) + 2047 * 64) 64).length ≤ 768
      ∧ (Dev.dq base 0).stalled = false ∧ ctxCoalUs one.ctx = 0 ∧ ctxCoalUs (Dev.dq c 2047).ctx ≠ 0 ∧ Dev.dqSt c 2047 = 2
      ∧ Dev.hostUp c (Dev.dqHp c 2047) = true ∧ (Dev.dq c 2047).unsig ≠ 0 ∧ ctxVector (Dev.dq c 2047).ctx = 2047
      ∧ SMap.find (Dev.hp c (Dev.dqHp c 2047)).vecQueue 2047 = some 2047
      ∧ ctxKind (Dev.dq w 2047).ctx = 3 ∧ (Dev.dq w 2047).item = some { itemOf .write [] 0 with done := 64 }
      ∧ ctxKind (Dev.dq j 2047).ctx = 0 ∧ (itemOf .wait [15 * 2 ^ 96] 0).stage = .wait ∧ Dev.dqSt j 2047 = 1 ∧ 0 < (64 : Nat) ∧ ctxVector (Dev.dq c 2047).ctx ≠ 65535
      ∧ bits ([15 * 2 ^ 96].headD 0) 96 4 = 15
      ∧ Dev.injectBytes j 15 + (Pkt.data (Dev.injectPkt j (15 * 2 ^ 96) [])).length ≤ 65536 := by decide +kernel

/-! The object dictionary. -/

def rowOf (k : Nat) : DictRow :=
  (Dict.find (keyObj k) (keyEl k)).getD { obj := 0, reps := 0, el := 0, els := 0, name := "", ty := .bool, acc := .ro, com := .now, lo := 0, hi := 0,
                                          also := [], dflt := 0 }
def rowIs (k : Nat) (f : DictRow → Bool) : Bool := (Dict.find (keyObj k) (keyEl k)).any f
theorem wit_ReadsAnswerValuesAndNothingElse_1 :
    (st base).lit ∧ base.rst.warmDue = false ∧ base.fw.running = true ∧ Dev.reset.fw.running = false ∧ Dict.find 0x3FFF 255 = none
      ∧ rowIs (K.tbStep 0) (fun r => r.acc == .wo) = true
      ∧ rowIs (K.hostHbTimeoutMs 0) (fun r => r.acc == .rwp && !r.ty.raw && r.ty != .time && r.ty != .s32) = true
      ∧ keyObj (K.hostHbTimeoutMs 0) < 0x0600
      ∧ rowIs K.mctpMode (fun r => r.acc != .wo && r.com != .now && !r.ty.raw) = true ∧ cmdOf K.mctpMode = none
      ∧ rowIs (K.colDst 7) (fun r => r.ty.raw && r.acc != .wo) = true ∧ cmdOf (K.colDst 7) = none
      ∧ K.colDst 7 ≠ K.cap0Pop ∧ K.colDst 7 ≠ K.cap1Pop ∧ Dict.find 0x4410 0 ≠ none ∧ Dict.find 65535 0 = none :=
  ⟨lit_st (by decide +kernel), by decide +kernel⟩
theorem wit_ReadsAnswerValuesAndNothingElse_2 :
    Dev.hostExists base 0 = true ∧ Dev.hostExists (strapped 0 base) 1 = true ∧ Dev.present (strapped 1 base) (.host 1) = false
      ∧ Dev.present base h0 = true ∧ rowIs (K.laneFfe 1023) (fun r => r.ty.raw && r.acc != .wo) = true ∧ cmdOf (K.laneFfe 1023) = none
      ∧ K.colDst 7 ≠ K.laneFfe 1023 ∧ bar0Ok 0x0FFF 8 = false ∧ bar0Ok 0x20 2 = false
      ∧ rowIs K.netUdpRate (fun r => r.acc == .rwp && !r.ty.raw && r.ty != .time && r.ty != .s32) = true := by decide +kernel

/-- Host A holds session 65,535 with a batch. -/
def inSession (items : List BatchItem) : Dev :=
  { base with dict := { base.dict with sessions := [{ id := 65535, src := h0, items := items }] } }
def item (k : Nat) (op : Nat) (bs : List Byte) : BatchItem := { op := op, obj := keyObj k, el := keyEl k, bytes := bs }
theorem wit_SessionsCommitAllOrNothing_1 :
    let opened (n : Nat) (src : Nat → Source) : Dev :=
      { base with dict := { base.dict with sessions := (List.range n).map (fun i => { id := i + 1, src := src i, items := [] }) } }
    let mine (d : Dev) : Nat := (d.dict.sessions.filter (fun y => Source.cls y.src == Source.cls h0)).length
    let four := opened 4 (fun _ => h0)
    let full := opened 16 (fun i => if i < 3 then h0 else .mctp 0 9)
    (st (inSession [])).lit ∧ Dev.present (inSession []) h0 = true ∧ Dev.present (strapped 1 (inSession [])) (.host 1) = false
      ∧ base.rst.warmDue = false ∧ base.fw.running = true ∧ 4 ≤ mine four ∧ 16 ≤ full.dict.sessions.length ∧ mine full < 4
      ∧ mine (opened 3 (fun _ => h0)) < 4 ∧ Dev.session (inSession []) h0 0 = none ∧ Dev.session (inSession []) (.host 1) 65535 = none
      ∧ Dev.session (inSession []) h0 65535 = some { id := 65535, src := h0, items := [] } :=
  ⟨lit_st (by decide +kernel), by decide +kernel⟩
/-- A refused target, a value of the wrong length, a batch of 239 and of 240, segments. -/
theorem wit_SessionsCommitAllOrNothing_2 :
    let k := K.hostHbTimeoutMs 0
    let r := rowOf k
    let raw := rowOf (K.colDst 7)
    let full (n : Nat) : Session := { id := 65535, src := h0, items := List.replicate n (item k 2 [0, 0, 0, 9]) }
    Dev.checkTarget (inSession []) 0 0x0100 1 = .inr 7 ∧ Dev.checkTarget (inSession []) 0 (keyObj k) (keyEl k) = .inl r
      ∧ DictRow.parse r [1, 2, 3] = none ∧ DictRow.parse r [0, 0, 3, 232] ≠ none ∧ 240 ≤ (full 240).items.length ∧ (full 239).items.length < 240
      ∧ Session.size (full 239) + 4 ≤ 65536 ∧ r.ty.raw = false
      ∧ Dev.checkTarget (inSession []) 0 (keyObj (K.colDst 7)) (keyEl (K.colDst 7)) = .inl raw ∧ raw.ty.raw = true
      ∧ DictRow.inRange raw (.raw [10, 0, 0, 1]) = true ∧ DictRow.parse raw [10, 0, 0, 1] ≠ none
      ∧ DictRow.inRange (rowOf (key 0x0100 6)) (.raw (zeros 65)) = false
      ∧ ((zeros 64).length : Int) ≤ (rowOf (key 0x0100 6)).also.foldl max (rowOf (key 0x0100 6)).hi
      ∧ (rowOf (key 0x0100 6)).also.foldl max (rowOf (key 0x0100 6)).hi < ((zeros 65).length : Int)
      ∧ 65536 < Session.size (full 239) + 65536 ∧ (rowOf (key 0x0100 6)).ty.raw = true
      ∧ (let z := item (K.colDst 7) 5 [10, 0]
         let y : Session := { id := 65535, src := h0, items := [item k 2 [0, 0, 0, 9]] ++ z :: [] }
         z.op = 5 ∧ z.bytes.length = 2 ∧ (∀ w ∈ ([item k 2 [0, 0, 0, 9]] ++ [] : List BatchItem), ¬ (w.op = 5 ∧ w.obj = z.obj ∧ w.el = z.el))
           ∧ Session.size y + 2 ≤ 65536) := by decide +kernel
/-- A batch that is refused, one that is accepted. -/
theorem wit_SessionsCommitAllOrNothing_3 :
    let sts (l : List BatchItem) : List Nat := Dev.batchStatus (inSession l) h0 l (l.filterMap BatchItem.parse)
    sts [item (K.hostHbTimeoutMs 0) 2 [0, 0, 3, 232], item K.netUdpRate 2 [1]] = [0, 1]
      ∧ (∀ z ∈ sts [item (K.hostHbTimeoutMs 0) 2 [0, 0, 3, 232], item (K.colDst 7) 5 [10, 0, 0, 1]], z = 0) := by decide +kernel

/-- A request that reads dict.session.timeout_s. -/
def readMsg : List Byte := [1, 1, 0, 7, 0, 0, 0, 1, 0, 0, 0, 24, 0, 0, 0, 0] ++ [1, 0, 0, 1, 1, 0, 0, 0]
/-- A request of one write record. -/
def writeMsg (o e : Nat) (v : List Byte) : List Byte :=
  [1, 1, 0, 7, 0, 0, 0, 1, 0, 0, 0, 28, 0, 0, 0, 0] ++ [2, 0] ++ beBytes 2 o ++ beBytes 1 e ++ [0] ++ beBytes 2 v.length ++ v
def mailed (n state : Nat) (bs : List Byte) : Dev :=
  Dev.setHp base 0 { Dev.hp base 0 with mbxState := state, mbxData := (bs.zip (List.range n)).map (fun x => (x.2, x.1)) }
theorem wit_MailboxWindowClaimsAndStore_1 :
    let d := mailed 24 0 readMsg
    let h := Dev.hp d 0
    let bs := (List.range 24).map (fun k => SMap.get h.mbxData k 0)
    let r := Dev.runMessage 0 (Dev.setHp d 0 { h with mbxCmd := 24, mbxReq := 24, mbxState := 1, mbxError := 0, mbxLen := 0 }) (.host 0) bs
    (st d).lit ∧ d.rst.warmDue = false ∧ Dev.hostExists d 0 = true ∧ (Dev.hp (mailed 0 1 []) 0).mbxState = 1 ∧ h.mbxState ≠ 1 ∧ (15 : Nat) < 16
      ∧ 2048 < (2049 : Nat) ∧ d.fw.running = true ∧ Dev.reset.fw.running = false ∧ bs = readMsg ∧ request (readMsg.take 20) = none
      ∧ r.1.rst.warmDue = false ∧ r.2.isSome = true :=
  ⟨lit_st (by decide +kernel), by decide +kernel⟩
/-- A message that stops the firmware; a submission and a window write while it restarts. -/
theorem wit_MailboxWindowClaimsAndStore_4 :
    let write := writeMsg (keyObj K.fwRestartSeq) (keyEl K.fwRestartSeq) [0, 0, 0, 1]
    let d := mailed write.length 0 write
    let h := Dev.hp d 0
    let bs := (List.range write.length).map (fun k => SMap.get h.mbxData k 0)
    let r := Dev.runMessage 0 (Dev.setHp d 0 { h with mbxCmd := write.length, mbxReq := write.length, mbxState := 1, mbxError := 0, mbxLen := 0 })
      (.host 0) bs
    let e := { base with fw := { base.fw with running := false, restarting := true } }
    16 ≤ write.length ∧ write.length ≤ 2048 ∧ bs = write ∧ d.fw.running = true ∧ r.1.rst.warmDue = false ∧ r.1.fw.running = false
      ∧ Dev.dark e = false ∧ e.rst.warmDue = false ∧ Dev.hostExists e 0 = true ∧ e.fw.running = false ∧ (Dev.hp e 0).mbxState ≠ 1 := by
  decide +kernel
theorem wit_MailboxWindowClaimsAndStore_2 :
    let target (k : Nat) : Option DictRow := match Dev.checkTarget base 0 (keyObj k) (keyEl k) with | .inl r => some r | .inr _ => none
    Dev.checkTarget base 0 0x3FFF 255 = .inr 5 ∧ target (K.colDst 7) = some (rowOf (K.colDst 7)) ∧ (rowOf (K.colDst 7)).ty.raw = true
      ∧ target (K.tbTimeSet 0) = some (rowOf (K.tbTimeSet 0)) ∧ (rowOf (K.tbTimeSet 0)).ty = .time
      ∧ target K.dmaCtxBaseA = some (rowOf K.dmaCtxBaseA) ∧ (rowOf K.dmaCtxBaseA).ty = .u64
      ∧ target K.netUdpRate = some (rowOf K.netUdpRate) ∧ (rowOf K.netUdpRate).ty = .u32
      ∧ grantB base (.host 0) { k := K.netUdpRate, v := .num 100 } = true
      ∧ cmdStatus (K.netUdpRate) = none ∧ cmdStatus (K.dqCtl 2047) = some (K.dqCtlStatus 2047)
      ∧ Dev.val 0 base (K.dqCtlStatus 2047) ≠ 1 ∧ Dev.val 0 (els base [(K.dqCtlStatus 2047, 1)]) (K.dqCtlStatus 2047) = 1 := by decide +kernel
theorem wit_MailboxWindowClaimsAndStore_3 :
    let d := { base with dict := { base.dict with cfgPend := [{ id := K.netUdpRate, group := 0, part := some [1, 2, 3, 4] }],
                                                  tokens := { level := 600 * ticksPerSec, at_ := 0 } } }
    let e := { d with fw := { d.fw with pfail := true } }
    let f := { d with dict := { d.dict with tokens := { level := 0, at_ := 0 } } }
    grantsB (st base) (.cfgSync h0 1) = true ∧ Dev.el base K.cfgsSyncSeq ≠ 1 ∧ grantsB (st d) (.cfgSync h0 1) = true
      ∧ grantsB (st base) (.cfgClear h0) = true ∧ Dev.nextGen base = [] ∧ Dev.nextGen d ≠ [] ∧ Dev.flashOk d = true ∧ Dev.flashOk e = false
      ∧ f.dict.tokens.level + (f.ticks - f.dict.tokens.at_) < ceilDiv (Dev.genBytes f (Dev.nextGen f)) 256 * ticksPerSec
      ∧ ceilDiv (Dev.genBytes d (Dev.nextGen d)) 256 * ticksPerSec ≤ min (600 * ticksPerSec) (d.dict.tokens.level + (d.ticks - d.dict.tokens.at_)) := by
  decide +kernel

/-! The management network. -/

/-- Management port 1 is up with the static address 10.0.0.1. -/
def linked (v : Nat) : Dev := els base [(K.mportState 1, v), (K.mportAdmin 1, 1), (K.mportIpv4Mode 1, 2), (K.mportIpv4Addr 1, 0x0A000001)]
def arpBody : List Byte := beBytes 8 0x0001080006040001 ++ beBytes 6 0x020000000002 ++ beBytes 4 0x0A000002 ++ zeros 6 ++ beBytes 4 0x0A000001 ++ zeros 18
def arp (typ : Nat) : List Byte := let f := beBytes 6 bcastMac ++ beBytes 6 0x020000000002 ++ beBytes 2 typ ++ arpBody; f ++ leBytes 4 (fcs32 f)
theorem wit_ManagementPortsKeepLinksAddressesAndNeighbours_1 :
    let d := linked 3
    let f := arp 0x0806
    let body := slice f 14 (f.length - 18)
    let good (f : List Byte) : Prop := 64 ≤ f.length ∧ f.length ≤ 1518 ∧ leNat (f.drop (f.length - 4)) = fcs32 (f.take (f.length - 4))
    (st d).lit ∧ d.rst.warmDue = false ∧ Dev.el (linked 2) (K.mportState 1) ≠ 3 ∧ Dev.el d (K.mportState 1) = 3 ∧ d.fw.running = true ∧ good f
      ∧ ¬ good (zeros 64) ∧ ¬ good (f.take 63) ∧ good (arp 0x88B5) ∧ beAt (arp 0x88B5) 12 2 ∉ [0x0800, 0x0806, 0x86DD, 0x88CC]
      ∧ Dev.v4Own d 1 = some (0x0A000001, Dev.el d (K.mportIpv4Plen 1), Dev.el d (K.mportIpv4Gw 1)) ∧ beAt f 12 2 = 0x0806 ∧ beAt f 0 6 = bcastMac
      ∧ beAt body 0 8 = 0x0001080006040001 ∧ beAt body 24 4 = 0x0A000001 ∧ (Dev.mport d 1).held = none
      ∧ (let y := { Dev.mport d 1 with held := some (0x0A000002, [0x45]) }
         y.held = some (beAt body 14 4, [0x45])) :=
  ⟨lit_st (by decide +kernel), by decide +kernel⟩
theorem wit_ManagementPortsKeepLinksAddressesAndNeighbours_2 :
    let sg := els (linked 2) [(K.mportMode 1, 1), (K.mportAnEnable 1, 1)]
    let r := els (linked 2) [(K.mportMode 1, 0)]
    Dev.el (linked 0) (K.mportState 1) = 0 ∧ Dev.el (els (linked 2) [(K.mportAdmin 1, 0)]) (K.mportAdmin 1) = 0
      ∧ Dev.el sg (K.mportState 1) ≠ 0 ∧ Dev.el sg (K.mportAdmin 1) ≠ 0 ∧ Dev.el sg (K.mportState 1) ≠ 3
      ∧ (Dev.el sg (K.mportMode 1) = 1 ∧ Dev.el sg (K.mportAnEnable 1) = 1) ∧ ¬ (Dev.el r (K.mportMode 1) = 1 ∧ Dev.el r (K.mportAnEnable 1) = 1)
      ∧ (Dev.mport (Dev.setMport (linked 2) 1 { Dev.mport base 1 with lease := some (1, 24, 2) }) 1).lease ≠ none := by decide +kernel
theorem wit_ManagementPortsKeepLinksAddressesAndNeighbours_3 :
    let y := Dev.mport base 1
    let leased (n : Nat) : Dev := Dev.setMport (linked 3) 1 { y with lease := some (0x0A000003, 24, 0x0A000001), dhcp := n, dadLl := 1 }
    let lldp (ttl : Nat) : List Byte := beBytes 2 (512 + 2) ++ [4, 1] ++ beBytes 2 (1024 + 2) ++ [5, 1] ++ beBytes 2 (1536 + 2) ++ beBytes 2 ttl ++ [0, 0]
    y.lease = none ∧ y.dadLl ≠ 1 ∧ (Dev.mport (leased 3) 1).lease ≠ none ∧ (Dev.mport (leased 3) 1).dhcp = 3 ∧ (Dev.mport (leased 1) 1).dhcp = 1
      ∧ (Dev.mport (leased 3) 1).dadLl = 1 ∧ Dev.el (els (linked 3) [(K.mportIpv6Dad 1, 1)]) (K.mportIpv6Dad 1) = 1 ∧ Dev.el (linked 3) (K.mportIpv6Dad 1) ≠ 1
      ∧ Dev.el (els (linked 3) [(K.netLldpInterval, 0)]) K.netLldpInterval = 0 ∧ Dev.el (els (linked 3) [(K.netLldpInterval, 30)]) K.netLldpInterval ≠ 0
      ∧ tlvs (lldp 120).length (lldp 120) = some ((1, [4, 1]) :: (2, [5, 1]) :: (3, beBytes 2 120) :: [(0, [])])
      ∧ beAt (beBytes 2 0) 0 2 = 0 ∧ tlvs 1 [1] = none := by decide +kernel

/-- A datagram that is admitted, one kept from before; the bucket one below a token; too short; a bad length. -/
theorem wit_RequestsRunOnceAndBindingsHoldTheirEid_1 :
    let tok (n : Nat) : Dev := { els base [(K.netUdpRate, 1), (K.mportState 1, 3)] with mgmt := { base.mgmt with udpTok := { level := n, at_ := 0 } } }
    let d := tok ticksPerSec
    let addr : Nat := 0xFFFF * 2 ^ 32 + 0x0A000002
    let src : Source := .udp 1 addr 65535
    let e := { d with mgmt := { d.mgmt with kept := [{ src := src, tag := 7, at_ := 0, bytes := [1] }] } }
    let level (d : Dev) : Nat := min (Dev.el d K.netUdpRate * ticksPerSec) (d.mgmt.udpTok.level + (d.ticks - d.mgmt.udpTok.at_) * Dev.el d K.netUdpRate)
    let r := Dev.runMessage 0 { d with mgmt := { d.mgmt with udpTok := { level := level d - ticksPerSec, at_ := d.ticks }, kept := [] } } src readMsg
    (st d).lit ∧ d.rst.warmDue = false ∧ Dev.mportUp d 1 = true ∧ Dev.mportUp base 1 = false ∧ d.fw.running = true ∧ 12 ≤ readMsg.length ∧ beAt readMsg 8 4 = readMsg.length ∧ readMsg.length ≤ 1452
      ∧ Dev.udpAllowed d addr = true ∧ ticksPerSec ≤ level d ∧ ¬ ticksPerSec ≤ level (tok (ticksPerSec - 1)) ∧ Dev.canReply d 1 addr = true
      ∧ e.mgmt.kept.find? (fun k => decide (e.ticks ≤ k.at_ + 2 * ticksPerSec) && (Source.same k.src src && k.tag == beAt readMsg 2 2)) =
          some { src := src, tag := 7, at_ := 0, bytes := [1] }
      ∧ d.mgmt.kept = [] ∧ r.1.rst.warmDue = false ∧ Dev.el r.1 K.netUdpRequests + 1 < 2 ^ 64 ∧ r.2.isSome = true
      ∧ Dev.el d K.netUdpRequests + 1 < 2 ^ 64 :=
  ⟨lit_st (by decide +kernel), by decide +kernel⟩
/-- The packets of a message to EID 254 in their SMBus packets, one of them with a wrong PEC; packets out of sequence; none at all;
a control message with a wrong PEC. -/
theorem wit_RequestsRunOnceAndBindingsHoldTheirEid_2 :
    let d := els base [(K.mctpEid 2, 254)]
    let bs : List Byte := [0x7E, 0x1F, 0x7E] ++ readMsg
    let long : List Byte := [0x7E, 0x1F, 0x7E] ++ zeros 64
    let joined (ps : List (List Byte)) : Option MctpMsg := mctpJoin 254 none (Dev.mctpTaken d 2 ps)
    let whole : MctpMsg := { src := 9, tag := 1, addr := 0, seq := 0, body := bs, bad := false }
    let i3c := { base with mgmt := { base.mgmt with i3c := true } }
    let smb := { base with dict := { base.dict with force := [(K.mctpMode, 1)], waiting := [K.mctpMode] } }
    let from_ : MctpFrom := { eid := 9, tag := 7, addr := 127, pecBad := true }
    Dev.el base (K.mctpEid 2) = 0 ∧ Dev.el d (K.mctpEid 2) = 254 ∧ joined (mctpSplit 254 9 9 bs) = some whole ∧ joined [] = none
      ∧ ((joined (mctpSplit 254 9 9 long).reverse).map (fun z => z.bad)) = some true
      ∧ byteAt whole.body 0 = 0x7E ∧ beAt whole.body 1 2 = 0x1F7E ∧ whole.body.length ≤ 2051
      ∧ (let x := { base with dict := { base.dict with force := [(K.mctpSmbusAddr, 0x60)] } }
         let sent := smbusPacket 0x60 16 (bs.take 20)
         Dev.mctpTaken x 0 [sent] = [(bs.take 20, 16)] ∧ Dev.mctpTaken x 0 [sent.dropLast ++ [0]] = [])
      ∧ byteAt [] 0 ≠ 0x7E ∧ 2051 < (2052 : Nat) ∧ d.fw.running = true ∧ from_.pecBad = true ∧ { from_ with pecBad := false }.pecBad = false
      ∧ Dev.hostExists (strapped 0 d) 1 = true ∧ Dev.hostExists (strapped 1 d) 1 = false ∧ Dev.hostUp d (2 - 1) = false
      ∧ Dev.hostUp (els d [(K.hostState 1, 1)]) (2 - 1) = true
      ∧ (Dev.binding d 2).discovered = false ∧ (Dev.binding (Dev.setBinding base 2 { Dev.binding base 2 with discovered := true }) 2).discovered = true
      ∧ (Dev.binding base 2).announcing = false ∧ (Dev.binding (Dev.setBinding base 2 { Dev.binding base 2 with announcing := true }) 2).announcing = true
      ∧ Dev.isI3c base = false ∧ Dev.isI3c i3c = true ∧ Dev.elIn base K.mctpMode ≠ 1 ∧ Dev.el base K.mctpI3cDynAddr = 0 ∧ Dev.elIn smb K.mctpMode = 1 := by
  decide +kernel

/-! Firmware. -/

/-- An image block of 4,096 bytes that host A has staged, its session's state v. -/
def block : List Byte := zeros 12 ++ leBytes 4 4096 ++ zeros 4080
def update (bs : List Byte) (v : Nat) : Dev :=
  let d := els base [(K.fwSessionState, v)]
  { d with fw := { d.fw with owner := some h0, staged := [(h0, bs)] } }
def trialling (policy : Nat) : Dev :=
  let d := els base [(K.fwTrial, 1), (K.fwConfirmPolicy, policy), (K.fwPctlState, 0)]
  let d := els d ((List.range 16).map (fun t => (K.tileMcuState t, 0)) ++ [(K.granState, 3)])
  { d with fw := { d.fw with storeRead := true, fatalSince := false } }
theorem wit_UpdateSessionsStageWriteActivateAndConfirm_1 :
    let d := update block 2
    (st d).lit ∧ grantsB (st ready) (.fwStageChunk h0 [0, 0, 0, 0, 1]) = true ∧ Dev.el d K.fwUpdateSeq ≠ 1
      ∧ grantsB (st d) (.fwWriteSlot h0 1) = true ∧ Dev.owns d h0 = true ∧ 4096 ≤ (Dev.stagedOf d h0).length
      ∧ (Dev.stagedOf d h0).length = imgSize (Dev.stagedOf d h0) ∧ Dev.owns base h0 = false ∧ grantsB (st base) (.fwWriteSlot h0 1) = true
      ∧ grantsB (st d) (.fwActivateNow h0 1) = true ∧ grantsB (st base) (.fwActivateNext h0 1) = true
      ∧ BootRec.st (Dev.bootRec base) (Dev.targetSlot base) = 2 ∧ grantsB (st d) (.fwAbort h0 1) = true ∧ grantsB (st base) (.fwAbort h0 1) = true
      ∧ d.fw.owner = some h0 ∧ base.fw.owner = none :=
  ⟨lit_st (by decide +kernel), by decide +kernel⟩
theorem wit_UpdateSessionsStageWriteActivateAndConfirm_2 :
    let d := { base with fw := { base.fw with writing := some 2 } }
    let e := { base with fw := { d.fw with waits := [.slot 2 block] } }
    d.fw.writing = some 2 ∧ d.fw.waits.any FlashOp.ofSlot = false ∧ e.fw.waits.any FlashOp.ofSlot = true ∧ Dev.flashOk d = true
      ∧ Dev.flashOk { base with fw := { base.fw with pfail := true } } = false ∧ base.fw.writing = none
      ∧ grantsB (st (trialling 1)) (.fwConfirm h0) = true ∧ Dev.el (trialling 1) K.fwConfirmPolicy = 1
      ∧ grantsB (st (trialling 0)) (.fwConfirm h0) = true ∧ Dev.el (trialling 0) K.fwConfirmPolicy ≠ 1
      ∧ (Dev.el (trialling 0) K.fwTrial = 1 ∧ Dev.el (trialling 0) K.fwConfirmPolicy = 0 ∧ Dev.healthy (trialling 0) = true)
      ∧ ¬ Dev.el base K.fwTrial = 1 ∧ (trialling 0).fw.running = true := by decide +kernel
/-- The part before its firmware: dark, with D1 isolated and on; the flash set up or not; held, booted, restarting. -/
theorem wit_BootStartsOnlyImagesThatPassAndRestartsCompleteInOrder_1 :
    let d := Dev.setDomain Dev.reset 1 1
    let r := Dev.bootRec d
    let held := { d with fw := { d.fw with hold := true } }
    let booted := { d with fw := { d.fw with booted := some 1 } }
    Dev.held Dev.reset = false ∧ Dev.held d = false ∧ d.rst.warmDue = false ∧ ¬ (d.fw.running = true ∨ d.fw.booted ≠ none ∨ Dev.domain d 1 = 2)
      ∧ base.fw.running = true ∧ d.fw.romFlash = false ∧ { d.fw with romFlash := true }.romFlash = true
      ∧ Dev.domain (Dev.setDomain d 1 2) 1 = 2 ∧ r.trial = false ∧ Dev.crashLoop d = false ∧ BootRec.st r r.active = 2 ∧ r.active < 2
      ∧ (∀ k < 3, Dev.imageOk d k (Dev.image d k) = false) ∧ Dev.flashOk d = true ∧ d.fw.hold = false ∧ held.fw.hold = true
      ∧ d.fw.booted = none ∧ booted.fw.running = false ∧ booted.fw.restarting = false ∧ booted.fw.booted ≠ none ∧ Dev.domain booted 1 = 1
      ∧ booted.fw.heldMbx = []
      ∧ (let h := (Dev.hurtStore booted []).dict
         CfgCopy.readable (DictS.copy h 0) = true ∧ leNat (SMap.get (DictS.replay h (DictS.copy h 0)).store K.cfgsClear []) ≠ 1)
      ∧ Dev.flashOk { booted with fw := { booted.fw with pfail := true } } = false
      ∧ (let c : CfgCopy := [(0, [[0xFF]])]
         CfgCopy.readable c = false)
      ∧ Dev.el d K.resetLastKind ≠ 2 ∧ Dev.el (els d [(K.resetLastKind, 2)]) K.resetLastKind = 2 := by decide +kernel
/-- A restart with and without cores to reload, the power controller's the first of them or not among them. -/
theorem wit_BootStartsOnlyImagesThatPassAndRestartsCompleteInOrder_2 :
    let d := { base with dict := { base.dict with force := [(K.mctpMode, 0)], waiting := [K.mctpMode], vals := SMap.ins base.dict.vals K.mctpMode 1 } }
    let again := { base with fw := { base.fw with running := false, restarting := true, booted := some 1, lostMbx := [0] } }
    let reloading := { again with fw := { again.fw with reloads := [.pctl, .gmcu, .tile 15] } }
    Dev.el base K.fwRestartSeq ≠ 1 ∧ grantsB (st base) (.mgmtRestart h0 1) = true ∧ K.mctpMode ∈ d.dict.waiting
      ∧ base.fw.waits = [] ∧ Dev.dark again = false ∧ Dev.held again = false ∧ again.fw.restarting = true ∧ again.fw.booted ≠ none ∧ again.fw.reloads = []
      ∧ (0 : Nat) ∈ again.fw.lostMbx ∧ (Dev.hp (mailed 0 1 []) 0).mbxState = 1 ∧ again.fw.heldMbx = []
      ∧ reloading.fw.reloads ≠ [] ∧ reloading.fw.reloads = .pctl :: [.gmcu, .tile 15] ∧ Reload.pctl ∉ [Reload.gmcu, .tile 15]
      ∧ again.gran.trained = false ∧ Dev.el (els base [(K.granState, 1)]) K.granState ≠ 0 := by decide +kernel

/-! Power, temperature, ageing. -/

def powered (mw cap level : Nat) : Dev :=
  let d := els base [(K.fwPctlState, 0), (K.pwrNowMw, mw), (K.pwrCapW, cap), (K.pwrMarginPct, 2), (K.pwrShedMaxLevel, 17)]
  { d with pwr := { d.pwr with capLevel := level } }
def capOver (d : Dev) : Bool := decide (Dev.el d K.pwrCapW * 1000 * (100 - Dev.el d K.pwrMarginPct) < Dev.el d K.pwrNowMw * 100)
/-- Over the cap with a level that fits and with none; under it, falling at the ninth and the tenth time; not falling. -/
theorem wit_PowerAndThermalLoopsAndSuppliesAct_1 :
    let d := powered 1001 1 0
    let e := powered 100 1 17
    let pred (d : Dev) (preds : List Nat) (l : Nat) : Nat := (preds[l]?.getD (Dev.el d K.pwrNowMw)) * 100
    let fits (preds : List Nat) (l : Nat) : Prop := d.pwr.capLevel < l ∧ l ≤ Dev.el d K.pwrShedMaxLevel ∧ l ≤ 17
      ∧ pred d preds l ≤ Dev.el d K.pwrCapW * 1000 * (100 - Dev.el d K.pwrMarginPct)
    let falls (d : Dev) (preds : List Nat) : Prop := 0 < d.pwr.capLevel ∧ pred d preds (d.pwr.capLevel - 1) ≤ Dev.el d K.pwrCapW * 1000 * (100 - 2 * Dev.el d K.pwrMarginPct)
    (st d).lit ∧ Dev.el d K.fwPctlState = 0 ∧ ¬ Dev.el (els base [(K.fwPctlState, 1)]) K.fwPctlState = 0
      ∧ capOver d = true ∧ fits (List.replicate 17 1001 ++ [980]) 17 ∧ (∀ j < 17, ¬ fits (List.replicate 17 1001 ++ [980]) j)
      ∧ (∀ l < 18, ¬ fits [] l) ∧ capOver e = false ∧ falls e [] ∧ ¬ falls (powered 100 1 0) [] ∧ e.pwr.quiet < 9
      ∧ 9 ≤ { e.pwr with quiet := 9 }.quiet :=
  ⟨lit_st (by decide +kernel), by decide +kernel⟩
theorem wit_PowerAndThermalLoopsAndSuppliesAct_2 :
    let t (c : Nat) : Dev := els base [(K.thmMax, c)]
    let hot (d : Dev) : Int := Dev.el d K.thmThrottleC * 100
    let cool (d : Dev) : Int := hot d - Dev.el d K.thmHystC * 100
    hot base ≤ Dev.elS (t (Dev.el base K.thmThrottleC * 100)) 32 K.thmMax ∧ Dev.elS (t 0) 32 K.thmMax ≤ cool base ∧ Dev.elS (t 0) 32 K.thmMax < hot base
      ∧ Dev.elS (t (Dev.el base K.thmThrottleC * 100 - 1)) 32 K.thmMax < hot base ∧ cool base < Dev.elS (t (Dev.el base K.thmThrottleC * 100 - 1)) 32 K.thmMax
      ∧ base.pwr.cool < 9 ∧ 9 ≤ { base.pwr with cool := 9 }.cool := by decide +kernel

/-- One rail for the core, with voltage scaling; its point, its limits and the monitors' threshold. -/
def railed (point : Nat) : Dev :=
  let d := Dev.setBlob base K.pwrRailState [0]
  { d with pwr := { d.pwr with points := [(0, point)] },
           dict := { d.dict with forceB := [(K.pwrRail, leBytes 8 (1 + 2 ^ 17 + 2 ^ 42))]
                                 vals := SMap.ins (SMap.ins d.dict.vals K.ageLimits (700 + 900 * 2 ^ 16 + 700 * 2 ^ 32 + 900 * 2 ^ 48)) K.ageRaisePs (10 + 10 * 2 ^ 16) } }
theorem wit_PowerAndThermalLoopsAndSuppliesAct_3 :
    let d := railed 1800
    let e := (Dev.rails d)[0]?
    let entry := 1 + 2 ^ 17 + 2 ^ 42
    e = some entry ∧ Dev.rails base = [] ∧ railAddr entry ≠ 0 ∧ railMethod entry ≠ 2 ∧ (Dev.blob d K.pwrRailState).length = (Dev.rails d).length
      ∧ railMonitors entry ≠ [] ∧ railAvs entry = true ∧ railAvs (1 + 2 ^ 17) = false ∧ Dev.pointLimits d entry = (1400, 1800)
      ∧ (Dev.pointLimits d entry).2 ≤ Dev.point d 0 ∧ Dev.point (railed 1799) 0 < (Dev.pointLimits d entry).2
      ∧ (Dev.pointLimits d entry).1 < Dev.point (railed 1401) 0 ∧ Dev.raisePs d 0 = 10
      ∧ (∀ m ∈ railMonitors entry, Dev.raisePs d m + 20 ≤ (30 : BitVec 16).toInt) ∧ (∃ m ∈ railMonitors entry, (9 : BitVec 16).toInt < Dev.raisePs d m)
      ∧ 8639 ≤ SMap.get [(0, 8639)] 0 0
      ∧ (let reads : List RailRead := [.answer 1 750 1000, .unsupported, .noAnswer]
         reads[0]? = some (.answer 1 750 1000) ∧ reads[1]? = some .unsupported ∧ reads[2]? = some .noAnswer)
      ∧ 1000 ≤ { base.pwr with goodMs := 1000 }.goodMs := by decide +kernel
/-- The power controller and the granary's microcontroller run, or reload. -/
theorem wit_PowerAndThermalLoopsAndSuppliesAct_4 :
    let d (i v : Nat) : Dev := Dev.setDomain base i v
    let e := els base [(K.pwrTileIdleOff, 1), (K.fwPctlState, 0), (K.fwGmcuState, 0)]
    (List.replicate 64 (11500 : BitVec 16)).length = 64 ∧ 3 ≤ SMap.get { base.pwr with hot := [(63, 2)] }.hot 63 0 + 1
      ∧ Dev.domain (d 23 2) 23 = 2 ∧ (Dev.blob base K.pwrDomainState).length = 24 ∧ (Dev.blob (d 23 2) K.pwrDomainState).length = 24 ∧ Dev.domain (d 0 1) 0 ≠ 2
      ∧ (∀ p ∈ tilePorts 15, p + Dev.portWidth base p ≤ 1024) ∧ 15 ∈ Dev.inService base
      ∧ Dev.el (els base [(K.fwGmcuState, 1)]) K.fwGmcuState ≠ 0 ∧ Dev.el (els base [(K.fwPctlState, 1)]) K.fwPctlState ≠ 0
      ∧ Dev.el e K.fwPctlState = 0 ∧ Dev.el e K.fwGmcuState = 0
      ∧ Dev.el e K.pwrTileIdleOff ≠ 0 ∧ Dev.tileAdmin e 15 = [] ∧ Dev.domain (Dev.setDomain e 21 1) 21 = 1 ∧ ¬ Dev.el base K.pwrTileIdleOff ≠ 0 := by
  decide +kernel

/-! Resets, errors, registers of ports and tiles. -/

theorem wit_ResetsKeepAndLoseWhatTheirKindSays_1 :
    let d := Dev.setDomain base 0 2
    let e := { base with rst := { base.rst with porst := true } }
    let armed := { base with rst := { base.rst with armed := some .hostA } }
    (st base).lit ∧ (Dev.blob base K.pwrDomainState).length = 24 ∧ Dev.domain d 0 = 2 ∧ Dev.domain base 0 ≠ 2 ∧ e.rst.porst = true
      ∧ base.rst.porst = false ∧ grantsB (st base) (.warmArm h0) = true ∧ grantsB (st armed) (.warmReset h0 1 21) = true ∧ Dev.el armed K.resetWarmSeq ≠ 1
      ∧ armed.rst.armed = some (clsFrom (Source.cls h0)) ∧ base.rst.armed ≠ some (clsFrom (Source.cls h0)) ∧ base.fw.running = true
      ∧ base.rst.warmDue = false ∧ Dev.present base h0 = true ∧ Dev.held base = false
      ∧ (let f : Reflash := { images := [], sec0 := [], sec1 := [0] }
         some f = some f ∧ e.rst.porst = true)
      ∧ Dev.checkTarget base (Source.cls h0) (keyObj K.resetWarmSeq) (keyEl K.resetWarmSeq) = .inl (rowOf K.resetWarmSeq) :=
  ⟨lit_st (by decide +kernel), by decide +kernel⟩
theorem wit_ResetsKeepAndLoseWhatTheirKindSays_2 :
    let flip := { base with prog := { base.prog with flip := 1 } }
    let load := { base with prog := { base.prog with load := some { images := [(15, (Dev.pipe base 15).bankA)], writing := true } } }
    let run := { base with rst := { base.rst with pipeMask := 0x8000 } }
    let bad := { base with rst := { base.rst with refBad := true } }
    grantsB (st base) (.pipeReset h0 0 1) = true ∧ grantsB (st base) (.pipeReset h0 0x8000 1) = true ∧ grantsB (st flip) (.pipeReset h0 0x8000 1) = true
      ∧ grantsB (st load) (.pipeReset h0 0x8000 1) = true ∧ Dev.el base K.resetPipeSeq ≠ 1 ∧ flip.prog.flip ≠ 0 ∧ base.prog.flip = 0 ∧ base.prog.load = none
      ∧ load.prog.load = some { images := [(15, (Dev.pipe base 15).bankA)], writing := true } ∧ bit (0x8000 : BitVec 16).toNat 15 = true
      ∧ base.rst.pipeMask = 0 ∧ run.rst.pipeMask ≠ 0 ∧ bad.rst.refBad = true ∧ base.rst.refBad = false ∧ bit (Dev.el base K.errFatal) 4 = false := by
  decide +kernel

theorem wit_ScrubsFatalsCrashesAndLifeKeepTheirBooks_1 :
    let d := Dev.setPipe (els base [(K.bankIdleState 15, 1)]) 15 { Pipe.init with badWords := [(1, 1, 0)] }
    let here : Nat × Nat × Nat := (1, 1, 0)
    let w : BankWord := { pipe := 15, bank := 1, sect := 1, index := 0, both := true }
    let mended (d : Dev) (w : BankWord) : Bool := decide ((w.both = false ∧ (w.bank.val, w.sect.val, w.index.val) ∉ (Dev.pipe d w.pipe.val).badWords)
      ∨ (Dev.el d (K.bankIdleState w.pipe.val) = 0 ∧ (1 - w.bank.val, w.sect.val, w.index.val) ∉ (Dev.pipe d w.pipe.val).badWords))
    (st base).lit ∧ mended d w = false ∧ mended base { w with both := false } = true ∧ mended (els base [(K.bankIdleState 15, 0)]) w = true
      ∧ mended (els base [(K.bankIdleState 15, 1)]) w = false ∧ ready.err.crashAt ≠ some ready.ticks
      ∧ { ready.err with crashAt := some ready.ticks }.crashAt = some ready.ticks ∧ (w.bank.val, w.sect.val, w.index.val) = here
      ∧ here ∈ (Dev.pipe d 15).badWords ∧ here ∉ (Dev.pipe base 15).badWords ∧ Dev.el (els base [(K.bankIdleState 0, 0)]) (K.bankIdleState 0) = 0
      ∧ bit (Dev.el base K.errFatal) 0 = false ∧ Dev.fatalHolds (els base [(K.granState, 3)]) 0 = true
      ∧ grantsB (st base) (.fatalClear h0 0x1FF) = true ∧ grantsB (st ready) (.crashCapture h0) = true ∧ Dev.granUp ready = true ∧ Dev.granUp base = false
      ∧ grantsB (st base) (.crashRead h0 0 1) = true ∧ Dev.el base K.errCrashSeq ≠ 1 ∧ SMap.find base.err.crashes 0 = none :=
  ⟨lit_st (by decide +kernel), by decide +kernel⟩
theorem wit_ScrubsFatalsCrashesAndLifeKeepTheirBooks_2 :
    let c : CrashRec := { hdr := zeros 256, log := [], notices := [] }
    let d := { els ready [(K.errCrashCount, 1)] with err := { ready.err with crashes := [(0, c)] } }
    let x (r v : Nat) : Dev := { base with err := { base.err with exState := [(r, v)], days := [r] } }
    SMap.find d.err.crashes 0 = some c ∧ Dev.granUp d = true ∧ grantsB (st d) (.crashRead h0 0 1) = true
      ∧ base.err.hourN = 0 ∧ Dev.elS base 32 K.thmMax ≤ 6500 ∧ Dev.elS (els base [(K.thmMax, 8500)]) 32 K.thmMax = 8500
      ∧ SMap.get (x 11 1).err.exState 11 0 ≠ 2 ∧ Dev.dayCome (x 11 1) 11 = true ∧ SMap.get base.err.exState 11 0 = 0 ∧ Dev.dayCome base 11 = false
      ∧ SMap.get { base.err with exState := [(11, 2)] }.exState 11 0 ≠ 0
      -- row 8 at and just below 90 percent of its 20,000 erases
      ∧ (let reaches (d : Dev) (w : Nat) : Bool := (Dev.inUse d 8).any (fun y => decide (0 < y.2) && decide (w * y.2 ≤ 100 * y.1))
         reaches (els base [(K.cfgsEraseMax, 18000)]) 90 = true ∧ reaches (els base [(K.cfgsEraseMax, 17999)]) 90 = false) := by decide +kernel
/-- The region's room depends on the layout. -/
theorem wit_ScrubsFatalsCrashesAndLifeKeepTheirBooks_3 :
    let d := { els ready [(K.errCrashCount, 1)] with dict := { (els ready [(K.errCrashCount, 1)]).dict with force := [(K.granRegionLayout, 2 ^ 24)] } }
    Dev.el d K.errCrashCount ≤ 0 + Dev.crashRoom d := by decide +kernel

/-! The land map: the worked example of R521, and the ground and lane lands of Table 5 of the package chapter. -/

theorem test_landExample : landAt 85 21 = .lane 9 22 false false ∧ landAt 86 20 = .lane 9 22 true true := by decide +kernel
def landCount (f : Land → Bool) : Nat :=
  ((List.range 96).map (fun r => ((List.range 96).filter (fun c => f (landAt (r + 1) (c + 1)))).length)).sum
theorem test_groundLands : landCount (fun x => x == .gnd) = 3629 := by decide +kernel
theorem test_supplyLands : landCount (fun x => match x with
    | .vt _ => true
    | _ => false) = 576 := by decide +kernel

theorem wit_PortAndTileRegistersAct :
    let ready := Dev.setDomain (els ready [(K.fwPctlState, 0)]) 21 0
    let on := els ready [(K.portAdmin 1023, 1), (K.portState 1023, 5), (K.laneAdaptFreeze 1023, 0), (K.tileMcuState 15, 0)]
    1023 + Dev.portWidth ready 1023 ≤ 1024 ∧ grantsB (st ready) (.portAdminUp h0 1023) = true ∧ Dev.el ready (K.portAdmin 1023) = 0 ∧ Dev.el ready K.fwPctlState = 0
      ∧ (Dev.blob ready K.pwrDomainState).length = 24 ∧ Dev.domain ready 21 = 0 ∧ grantsB (st on) (.portAdminUp h0 1023) = true
      ∧ Dev.el on (K.portAdmin 1023) = 1 ∧ grantsB (st on) (.portAdminDown h0 1023) = true ∧ grantsB (st ready) (.tileReachWrite h0 15 1) = true
      ∧ grantsB (st on) (.laneAdaptRestart h0 1023) = true ∧ Dev.laneOwner on 1023 = some 1023 ∧ Dev.el on (K.laneAdaptFreeze 1023) = 0
      ∧ Dev.el on (K.tileMcuState 15) = 0 ∧ Dev.laneOwner ready 0 = none ∧ grantsB (st ready) (.laneAdaptRestart h0 0) = true
      ∧ grantsB (st ready) (.tileSeedSave h0 15) = true := by decide +kernel

/-- An upper half that is not zero, an index ahead by more than the ring, one behind the producer. -/
theorem wit_MalformedDoorbellsLatchTheirIndexAndLeaveTheProducer :
    let d := ringing []
    let e := ringing [(K.dqSqProd 2047, 0)]
    let c := Dev.el d (K.dqSqCons 2047)
    (st d).lit ∧ Dev.hostExists d 1 = true ∧ Dev.dqHp d 2047 = 1 ∧ Dev.dqSt d 2047 = 1 ∧ 65536 ≤ (2 ^ 32 - 1 : Nat)
      ∧ 2 ^ ctxSqLog (Dev.dq d 2047).ctx < idxSub 64 c ∧ idxSub 65535 c < idxSub (Dev.el e (K.dqSqProd 2047)) c :=
  ⟨lit_st (by decide +kernel), by decide +kernel⟩
end Sys2Proof.Tests
end

/-! The way to the stages (R30, R31, R69, R93): what the commands of the arbiter, the parse and the cost gate make of the part,
and O17. -/
namespace Sys2Proof.Machine

/-- A command that answers one next part does what holds of that part. -/
theorem does_iff_of_next {c : Instr} {s : State} {e : Dev} {P : Dev → Prop} (hc : exec c s = .next { s with dev := e }) :
    Does c s P ↔ P e := by
  constructor
  · rintro ⟨x, hx, hp⟩
    have hd : e = x := congrArg State.dev (Host.Outcome.next.inj (hc.symm.trans hx))
    exact hd ▸ hp
  · exact fun hp => ⟨e, hc, hp⟩

/-- On a lit part, a command whose meaning lifts `f` does what `f` makes of the part. -/
theorem does_lift_iff {c : Instr} {s : State} {f : Dev → Dev} {P : Dev → Prop} (hc : exec c s = lift f s) (hl : s.lit) :
    Does c s P ↔ P (f s.dev) := does_iff_of_next (hc.trans (lift_lit f hl))

theorem does_liftE_iff {c : Instr} {s : State} {f : Nat → Dev → Dev} {P : Dev → Prop} (hc : exec c s = liftE f s) (hl : s.lit) :
    Does c s P ↔ P (f s.epoch s.dev) := does_iff_of_next (hc.trans (liftE_lit f hl))

/-- A lifted function that leaves the part as it is leaves the state as it is, lit or not. -/
theorem lift_same {f : Dev → Dev} {s : State} (h : f s.dev = s.dev) : lift f s = .next s := by
  unfold lift
  rw [h, ite_self]

theorem liftE_same {f : Nat → Dev → Dev} {s : State} (h : f s.epoch s.dev = s.dev) : liftE f s = .next s := by
  unfold liftE
  rw [h, ite_self]

/-! The commands of this chapter as lifts. -/

theorem exec_arbiterAccept (n : Fin 16) (s : State) : exec (.arbiterAccept n false) s = lift (fun d => Dev.accept d n) s := rfl
theorem exec_thresherStart (n : Fin 16) (s : State) :
    exec (.thresherStart n) s = liftE (fun ep d => Dev.thresherStart ep d n) s := rfl
theorem exec_costGatePass (n : Fin 16) (fetch : Bool) (parity : Option (Fin 12)) (ws : List LookAt) (s : State) :
    exec (.costGatePass n fetch parity ws) s = lift (fun d => Dev.costGate d n fetch parity ws) s := rfl

/-! Readings that follow from one that counting leaves alone. -/

theorem Aside.map {γ δ : Type} {g : Dev → γ} (h : Aside g) (f : γ → δ) : Aside (fun d => f (g d)) where
  vals d k v hk := congrArg f (h.vals d k v hk)
  tel d x := congrArg f (h.tel d x)
  err d x := congrArg f (h.err d x)
  hp d p x := congrArg f (h.hp d p x)
  out d o := congrArg f (h.out d o)
  tok d x := congrArg f (h.tok d x)

theorem Aside.pipe (n : Nat) : Aside (fun d => Dev.pipe d n) := Aside.pipes.map (fun m => SMap.get m n Pipe.init)
theorem Aside.pkt (i : Nat) : Aside (fun d => Dev.pkt d i) := Aside.pkts.map (fun m => SMap.get m i Pkt.init)

theorem pkt_of_pkts {d e : Dev} (h : e.pkts = d.pkts) (i : Nat) : Dev.pkt e i = Dev.pkt d i :=
  congrArg (fun m => SMap.get m i Pkt.init) h

@[simp] theorem pipe_perf (d : Dev) (b e k n : Nat) : Dev.pipe (Dev.perf d b e k) n = Dev.pipe d n :=
  (Aside.pipe n).perfAny d b e k (fun _ _ _ => rfl)
@[simp] theorem pkt_perf (d : Dev) (b e k i : Nat) : Dev.pkt (Dev.perf d b e k) i = Dev.pkt d i :=
  (Aside.pkt i).perfAny d b e k (fun _ _ _ => rfl)
@[simp] theorem pkt_setPipe (d : Dev) (n i : Nat) (x : Pipe) : Dev.pkt (Dev.setPipe d n x) i = Dev.pkt d i := rfl
@[simp] theorem pipe_setPkt (d : Dev) (i n : Nat) (x : Pkt) : Dev.pipe (Dev.setPkt d i x) n = Dev.pipe d n := rfl

/-- Counting a received frame touches only what counting can. -/
theorem Aside.countRx {γ : Type} {g : Dev → γ} (h : Aside g) (d : Dev) (p : Nat) (bs : List Byte) (mark : Nat) :
    g (Dev.countRx d p bs mark) = g d := by
  unfold Dev.countRx
  dsimp only
  split_ifs <;> split <;> simp only [h.countStat]

/-! The arbiter. -/

/-- The arbiter of a pipeline may accept a packet (R68, R93, R493). -/
def Pipe.opens (y : Pipe) : Prop := y.stopped = false ∧ y.gate.length < 128 ∧ y.accepted.length < 192

theorem accept_of_closed {d : Dev} {n : Nat}
    (h : (Dev.pipe d n).stopped = true ∨ 128 ≤ (Dev.pipe d n).gate.length ∨ 192 ≤ (Dev.pipe d n).accepted.length) :
    Dev.accept d n = d := by
  unfold Dev.accept
  refine if_pos ?_
  simpa only [Bool.or_eq_true, decide_eq_true_eq, or_assoc] using h

theorem Pipe.opens.check {y : Pipe} (h : Pipe.opens y) :
    (y.stopped || decide (128 ≤ y.gate.length) || decide (192 ≤ y.accepted.length)) = false := by
  obtain ⟨hs, hg, ha⟩ := h
  simp only [hs, Bool.false_or, Bool.or_eq_false_iff, decide_eq_false_iff_not]
  omega

/-- A search over a range answers what the first answering place does. -/
theorem findSome?_range_of_first {α : Type} {f : Nat → Option α} {m k : Nat} {b : α} (hk : k < m)
    (hbefore : ∀ j, j < k → f j = none) (hat : f k = some b) : (List.range m).findSome? f = some b := by
  obtain ⟨r, rfl⟩ := Nat.exists_eq_add_of_lt hk
  rw [Nat.add_assoc, List.range_add, List.findSome?_append,
    List.findSome?_eq_none_iff.mpr (fun j hj => hbefore j (List.mem_range.mp hj)), List.range_succ_eq_map]
  simp [hat]

/-- The first port after the one served last that has a packet waiting gives its oldest packet (R31). -/
theorem nextArrival_of_first {d : Dev} {n k i : Nat} (hk : k < 64)
    (hbefore : ∀ j, j < k →
      (Dev.pipe d n).arrival.find? (fun i => (Dev.pkt d i).inPort == n * 64 + ((Dev.pipe d n).rrPort + 1 + j) % 64) = none)
    (hat : (Dev.pipe d n).arrival.find? (fun i => (Dev.pkt d i).inPort == n * 64 + ((Dev.pipe d n).rrPort + 1 + k) % 64) = some i) :
    Dev.nextArrival d n = some (((Dev.pipe d n).rrPort + 1 + k) % 64, i) := by
  unfold Dev.nextArrival
  refine findSome?_range_of_first hk (fun j hj => ?_) ?_
  · dsimp only; rw [hbefore j hj]; rfl
  · dsimp only; rw [hat]; rfl

theorem nextArrival_nil {d : Dev} {n : Nat} (h : (Dev.pipe d n).arrival = []) : Dev.nextArrival d n = none := by
  unfold Dev.nextArrival
  exact List.findSome?_eq_none_iff.mpr (fun j _ => by simp [h])

/-- A tile's packet is accepted. -/
theorem accept_tile {d : Dev} {n t i : Nat} (ho : Pipe.opens (Dev.pipe d n))
    (hslot : (Dev.pipe d n).slotCount ≠ 255 ∨ ((Dev.pipe d n).recirc = [] ∧ (Dev.pipe d n).inject = []))
    (hn : Dev.nextArrival d n = some (t, i)) :
    Dev.accept d n = Dev.perf (Dev.perf (Dev.setPipe d n { Dev.pipe d n with
      slotCount := ((Dev.pipe d n).slotCount + 1) % 256, rrPort := t,
      arrival := (Dev.pipe d n).arrival.filter (fun j => j != i), accepted := (Dev.pipe d n).accepted ++ [i] }) n 1 1) n 2 1 := by
  have hturn : ((Dev.pipe d n).slotCount == 255 && !((Dev.pipe d n).recirc.isEmpty && (Dev.pipe d n).inject.isEmpty)) = false := by
    rcases hslot with h | ⟨hr, hi⟩
    · simp [h]
    · simp [hr, hi]
  unfold Dev.accept
  simp only [ho.check, Bool.false_eq_true, if_false, hturn, hn]

/-- An internal packet i, the first of its list, is accepted: the pipeline stands as `y` says, the packet is stamped. -/
def Dev.acceptInternal (d : Dev) (n i e : Nat) (y : Pipe) : Dev :=
  Dev.perf (Dev.perf (Dev.stampInternal (Dev.setPipe d n y) i) n 1 1) n e 1

/-- With no arrival and nothing injected, the oldest recirculated packet is accepted. -/
theorem accept_recirc {d : Dev} {n i : Nat} {t : List Nat} (ho : Pipe.opens (Dev.pipe d n)) (ha : (Dev.pipe d n).arrival = [])
    (hj : (Dev.pipe d n).inject = []) (hr : (Dev.pipe d n).recirc = i :: t) :
    Dev.accept d n = Dev.acceptInternal d n i 3 { Dev.pipe d n with
      slotCount := ((Dev.pipe d n).slotCount + 1) % 256, recirc := t, accepted := (Dev.pipe d n).accepted ++ [i],
      injNext := if (Dev.pipe d n).slotCount == 255 then true else (Dev.pipe d n).injNext } := by
  unfold Dev.accept
  simp [ho.check, nextArrival_nil ha, hj, hr, Dev.acceptInternal]

/-- In the reserved slot, with packets of both kinds waiting, the kind whose turn it is gives its oldest packet. -/
theorem accept_reserved {d : Dev} {n i j : Nat} {t u : List Nat} (ho : Pipe.opens (Dev.pipe d n))
    (hs : (Dev.pipe d n).slotCount = 255) (hr : (Dev.pipe d n).recirc = i :: t) (hj : (Dev.pipe d n).inject = j :: u) :
    Dev.accept d n = Dev.acceptInternal d n (if (Dev.pipe d n).injNext then j else i) (if (Dev.pipe d n).injNext then 4 else 3)
      { Dev.pipe d n with
        slotCount := 0, accepted := (Dev.pipe d n).accepted ++ [if (Dev.pipe d n).injNext then j else i],
        injNext := !(Dev.pipe d n).injNext, inject := if (Dev.pipe d n).injNext then u else (Dev.pipe d n).inject,
        recirc := if (Dev.pipe d n).injNext then (Dev.pipe d n).recirc else t } := by
  unfold Dev.accept
  cases hk : (Dev.pipe d n).injNext <;> simp [ho.check, hs, hr, hj, hk, Dev.acceptInternal]

/-! What the acceptance of an internal packet changes. -/

@[simp] theorem pipe_acceptInternal_same (d : Dev) (n i e : Nat) (y : Pipe) : Dev.pipe (Dev.acceptInternal d n i e y) n = y := by
  simp [Dev.acceptInternal, Dev.stampInternal, (Aside.pipe n).countRx]
theorem pipe_acceptInternal_ne {d : Dev} {n m i e : Nat} {y : Pipe} (h : m ≠ n) :
    Dev.pipe (Dev.acceptInternal d n i e y) m = Dev.pipe d m := by
  simp [Dev.acceptInternal, Dev.stampInternal, (Aside.pipe m).countRx, pipe_setPipe_ne _ _ _ _ h]
theorem pkt_acceptInternal_same (d : Dev) (n i e : Nat) (y : Pipe) :
    Dev.pkt (Dev.acceptInternal d n i e y) i =
      { Dev.pkt d i with rxAt := Dev.now d, tsTb0 := Dev.stampOn d 0 0 0, tsPtp := Dev.stampOn d 0 0 0, ptpBase := 0 } := by
  have hnow (p : Nat) (bs : List Byte) : Dev.now (Dev.countRx (Dev.setPipe d n y) p bs 0) = Dev.now d :=
    (Aside.ticks.map (fun t => 2097152 * t / 25 % 2 ^ 80)).countRx ..
  simp only [Dev.acceptInternal, Dev.stampInternal, pkt_perf, pkt_setPkt_same, (Aside.pkt i).countRx, pkt_setPipe, hnow]
  rfl
theorem pkt_acceptInternal_ne {d : Dev} {n i m e : Nat} {y : Pipe} (h : m ≠ i) :
    Dev.pkt (Dev.acceptInternal d n i e y) m = Dev.pkt d m := by
  simp [Dev.acceptInternal, Dev.stampInternal, (Aside.pkt m).countRx, pkt_setPkt_ne _ _ _ _ h]

theorem acceptInternal_frame (d : Dev) (n i e : Nat) (y : Pipe) :
    (Dev.acceptInternal d n i e y).queues = d.queues ∧ (Dev.acceptInternal d n i e y).ports = d.ports
      ∧ (Dev.acceptInternal d n i e y).buf = d.buf ∧ SameTables d (Dev.acceptInternal d n i e y) := by
  simp [SameTables, Dev.acceptInternal, Dev.stampInternal, Aside.queues.countRx, Aside.ports.countRx, Aside.buf.countRx,
    Aside.tbl.countRx, Aside.prog.countRx]

/-! The parse. -/

/-- The elements that a parse may write beside its counter of packets (R89). -/
def parseEls (n : Nat) : List Nat :=
  [K.thresherIncomplete n, K.thresherPtpEvents n, K.thresherPeakTransitions n, K.thresherPeakHeaders n, K.thresherExcDepth n,
    K.thresherExcBudget n, K.thresherExcHeaders n, K.thresherExcTruncated n, K.thresherExcNomatch n, K.thresherExcProgram n]

theorem excElement_mem {n code k : Nat} (h : excElement n code = some k) : k ∈ parseEls n := by
  unfold excElement at h
  split at h
  case h_6 =>
    split at h
    · simp_all [parseEls]
    · cases h
  all_goals simp_all [parseEls]

/-- A reading that neither a parse's elements and record nor the time of its last notice can change sees of a counted parse the
counter of packets alone. -/
theorem Aside.countParse {γ : Type} {g : Dev → γ} (h : Aside g) {d : Dev} {n : Nat} {s : Sheaf} (hn : n < 64)
    (hel : ∀ k ∈ parseEls n, ∀ d v, g (Dev.setEl d k v) = g d) (hblob : ∀ d k v, g (Dev.setBlob d k v) = g d)
    (hexc : ∀ d t, g (Dev.setPipe d n { Dev.pipe d n with excAt := t }) = g d) :
    g (Dev.countParse d n s) = g (Dev.count d (K.thresherPackets n) 1) := by
  have hcount {k : Nat} (hk : k ∈ parseEls n) (d : Dev) : g (Dev.count d k 1) = g d := h.count d k 1 (hel k hk)
  have hset {k : Nat} (hk : k ∈ parseEls n) (d : Dev) (v : Nat) : g (Dev.setEl d k v) = g d := hel k hk d v
  unfold Dev.countParse
  extract_lets code d₁ d₂ d₃ peak d₄ d₅ r d₆ p due
  have h₂ : g d₂ = g d₁ := (apply_ite g _ _ _).trans (by rw [hcount (by simp [parseEls]), ite_self])
  have h₃ : g d₃ = g d₂ := (apply_ite g _ _ _).trans (by rw [hcount (by simp [parseEls]), ite_self])
  have hpeak {k : Nat} (hk : k ∈ parseEls n) (d : Dev) (v : Nat) : g (peak d k v) = g d :=
    (apply_ite g _ _ _).trans (by rw [hset hk, ite_self])
  have h₄ : g d₄ = g d₃ := (hpeak (by simp [parseEls]) _ _).trans (hpeak (by simp [parseEls]) _ _)
  have h₅ : g d₅ = g d₄ := by
    dsimp only [d₅]
    cases hx : excElement n code with
    | none => rfl
    | some k => exact hcount (excElement_mem hx) d₄
  have h₆ : g d₆ = g d₅ := (h.perf _ _ _ _ hn).trans (hblob _ _ _)
  have hall : g d₆ = g d₁ := by rw [h₆, h₅, h₄, h₃, h₂]
  split
  · rw [h₄, h₃, h₂]
  · split
    · rw [h.notice, h.raise]
      exact (hexc d₆ _).trans hall
    · exact hall

/-- A counter outside the side elements that grows by n. -/
theorem el_count_same {d : Dev} {k n : Nat} (hk : asideEl k = false) : Dev.el (Dev.count d k n) k = (Dev.el d k + n) % 2 ^ 64 := by
  have hset : Dev.el (Dev.setEl d k ((Dev.el d k + n) % 2 ^ 64)) k = (Dev.el d k + n) % 2 ^ 64 := el_setEl_same ..
  unfold Dev.count wrap64
  dsimp only
  split
  · rw [(Aside.el k hk).wrapped, hset]
  · exact hset

/-- The whole data of packet k has come and fits the parse depth: its length is known at the parse (R69). -/
def Pkt.short (img : Image) (k : Pkt) : Bool := k.whole && decide ((Pkt.data k).length ≤ img.depth)

/-- The state of the parse program in which packet k starts, by its port (R80). -/
def Pkt.startState (img : Image) (k : Pkt) : Nat :=
  if k.inPort < 1024 then img.startPort else if k.inPort < 1040 then img.startRecirc else img.startCpu

/-- The sheaf that the parse program of pipeline n's bank e leaves of packet i. -/
def Dev.parsedSheaf (d : Dev) (n i e : Nat) : Sheaf :=
  let k := { Dev.pkt d i with epoch := e }
  let img := Pipe.bank (Dev.pipe d n) e
  (parse img (Pkt.data k) (if Pkt.short img k then some (Pkt.data k).length else none) (Pkt.startState img k)
    (startSheaf k (Dev.privileged d k.inPort) (!Pkt.short img k) (if Pkt.short img k then Pkt.len k else 0) (Pkt.startState img k))).sheaf

/-- The part with packet i parsed to the sheaf `sh` under epoch bit e. -/
def Dev.setParsed (d : Dev) (i e : Nat) (sh : Sheaf) : Dev :=
  Dev.setPkt d i { Dev.pkt d i with epoch := e, sheaf := sh, bankBad := false }

@[simp] theorem pipe_setParsed (d : Dev) (i e n : Nat) (sh : Sheaf) : Dev.pipe (Dev.setParsed d i e sh) n = Dev.pipe d n := rfl

/-- Where no word of the banks is bad, the parse leaves its sheaf in the packet and is counted. -/
theorem parsePkt_of_noBadWords {d : Dev} {n i e : Nat} (hb : (Dev.pipe d n).badWords = []) :
    Dev.parsePkt d n i e = Dev.countParse (Dev.setParsed d i e (Dev.parsedSheaf d n i e)) n (Dev.parsedSheaf d n i e) := by
  unfold Dev.parsePkt
  extract_lets old k img dataLen pending start s r reads d₁ bad d₂
  have hpending : pending = !Pkt.short img k := by
    cases hw : k.whole with
    | false => simp [pending, dataLen, Pkt.short, hw]
    | true => simp only [pending, dataLen, Pkt.short, hw, if_true, Bool.true_and, ← decide_not, Nat.not_le]
  clear_value pending
  have hlen : (if pending then none else dataLen) = if Pkt.short img k then some (Pkt.data k).length else none := by
    cases hs : Pkt.short img k with
    | false => simp [hpending, hs]
    | true =>
      have hw : k.whole = true := (Bool.and_eq_true_iff.mp hs).1
      simp [hpending, hs, dataLen, hw]
  have hL : (if pending then 0 else Pkt.len k) = if Pkt.short img k then Pkt.len k else 0 := by
    cases hs : Pkt.short img k <;> simp [hpending, hs]
  have hsheaf : r.sheaf = Dev.parsedSheaf d n i e := by
    dsimp only [r, s, Dev.parsedSheaf]
    rw [hlen, hL, hpending]
    rfl
  have hreads : reads = [] := if_pos (by rw [hb]; rfl)
  have hd : d₁ = d := by simp [d₁, hreads, Dev.mendWords]
  have hbad : bad = false := by rw [show bad = reads.any _ from rfl, hreads]; rfl
  simp only [d₂, hsheaf, hd, hbad]
  rfl

/-- A reading of no element, string or notice time stays at a counted parse. -/
theorem Aside.countParse_same {γ : Type} {g : Dev → γ} (h : Aside g) {d : Dev} {n : Nat} {s : Sheaf} (hn : n < 64)
    (hel : ∀ d k v, g (Dev.setEl d k v) = g d) (hblob : ∀ d k v, g (Dev.setBlob d k v) = g d)
    (hexc : ∀ d t, g (Dev.setPipe d n { Dev.pipe d n with excAt := t }) = g d) : g (Dev.countParse d n s) = g d :=
  (h.countParse hn (fun k _ d v => hel d k v) hblob hexc).trans (h.count d _ 1 (fun d v => hel d _ v))

theorem countParse_pkts (d : Dev) {n : Nat} (s : Sheaf) (hn : n < 64) : (Dev.countParse d n s).pkts = d.pkts :=
  Aside.pkts.countParse_same hn (fun _ _ _ => rfl) (fun _ _ _ => rfl) (fun _ _ => rfl)

theorem countParse_frame (d : Dev) {n : Nat} (s : Sheaf) (hn : n < 64) :
    (Dev.countParse d n s).queues = d.queues ∧ (Dev.countParse d n s).ports = d.ports ∧ (Dev.countParse d n s).buf = d.buf
      ∧ SameTables d (Dev.countParse d n s) :=
  ⟨Aside.queues.countParse_same hn (fun _ _ _ => rfl) (fun _ _ _ => rfl) (fun _ _ => rfl),
   Aside.ports.countParse_same hn (fun _ _ _ => rfl) (fun _ _ _ => rfl) (fun _ _ => rfl),
   Aside.buf.countParse_same hn (fun _ _ _ => rfl) (fun _ _ _ => rfl) (fun _ _ => rfl),
   Aside.tbl.countParse_same hn (fun _ _ _ => rfl) (fun _ _ _ => rfl) (fun _ _ => rfl),
   Aside.prog.countParse_same hn (fun _ _ _ => rfl) (fun _ _ _ => rfl) (fun _ _ => rfl)⟩

theorem pipe_countParse_ne (d : Dev) {n m : Nat} (s : Sheaf) (hn : n < 64) (h : m ≠ n) :
    Dev.pipe (Dev.countParse d n s) m = Dev.pipe d m :=
  (Aside.pipe m).countParse_same hn (fun _ _ _ => rfl) (fun _ _ _ => rfl) (fun _ _ => pipe_setPipe_ne _ _ _ _ h)

theorem accepted_countParse (d : Dev) {n : Nat} (s : Sheaf) (hn : n < 64) :
    (Dev.pipe (Dev.countParse d n s) n).accepted = (Dev.pipe d n).accepted :=
  ((Aside.pipe n).map (·.accepted)).countParse_same hn (fun _ _ _ => rfl) (fun _ _ _ => rfl)
    (fun _ _ => by simp only [pipe_setPipe_same])

theorem gate_countParse (d : Dev) {n : Nat} (s : Sheaf) (hn : n < 64) :
    (Dev.pipe (Dev.countParse d n s) n).gate = (Dev.pipe d n).gate :=
  ((Aside.pipe n).map (·.gate)).countParse_same hn (fun _ _ _ => rfl) (fun _ _ _ => rfl)
    (fun _ _ => by simp only [pipe_setPipe_same])

/-- The counter of parsed packets grows by one. -/
theorem el_countParse_packets (d : Dev) {n : Nat} (s : Sheaf) (hn : n < 16) :
    Dev.el (Dev.countParse d n s) (K.thresherPackets n) = (Dev.el d (K.thresherPackets n) + 1) % 2 ^ 64 := by
  have hside : ∀ m : Fin 16, asideEl (K.thresherPackets m) = false := by decide
  have hother : ∀ m : Fin 16, ∀ k ∈ parseEls m, K.thresherPackets m ≠ k := by decide
  rw [(Aside.el _ (hside ⟨n, hn⟩)).countParse (by omega) (fun k hk d v => el_setEl_ne d k _ v (hother ⟨n, hn⟩ k hk))
    (fun _ _ _ => rfl) (fun _ _ => rfl)]
  exact el_count_same (hside ⟨n, hn⟩)

/-! The start of the parse. -/

/-- While the tail is open and no more than D + 4 bytes have come the parse waits (log 121). -/
theorem thresherStart_waits {ep n i : Nat} {d : Dev} {t : List Nat} (ha : (Dev.pipe d n).accepted = i :: t)
    (hr : parseReady (Pipe.bank (Dev.pipe d n) (ep % 2)) (Dev.pkt d i) = false) : Dev.thresherStart ep d n = d := by
  unfold Dev.thresherStart
  simp [ha, hr]

/-- Otherwise the packet leaves the list of accepted ones, parsed, for the cost gate (R69, R70). -/
theorem thresherStart_parses {ep n i : Nat} {d : Dev} {t : List Nat} (ha : (Dev.pipe d n).accepted = i :: t)
    (hr : parseReady (Pipe.bank (Dev.pipe d n) (ep % 2)) (Dev.pkt d i) = true) (hg : (Dev.pipe d n).gate.length < 256)
    (hb : (Dev.pipe d n).badWords = []) :
    Dev.thresherStart ep d n =
      Dev.countParse (Dev.setParsed (Dev.setPipe d n { Dev.pipe d n with accepted := t, gate := (Dev.pipe d n).gate ++ [i] }) i (ep % 2)
        (Dev.parsedSheaf d n i (ep % 2))) n (Dev.parsedSheaf d n i (ep % 2)) := by
  have hsheaf : Dev.parsedSheaf (Dev.setPipe d n { Dev.pipe d n with accepted := t, gate := (Dev.pipe d n).gate ++ [i] }) n i (ep % 2)
      = Dev.parsedSheaf d n i (ep % 2) := by
    unfold Dev.parsedSheaf
    rw [pipe_setPipe_same]
    rfl
  unfold Dev.thresherStart
  simp only [ha, hr, hg, decide_true, Bool.and_self, if_true]
  rw [parsePkt_of_noBadWords (by rw [pipe_setPipe_same]; exact hb), hsheaf]

/-! The cost gate. -/

/-- What the gate lets pass is the longest run from its head whose costs fit the room. -/
theorem gateTake_longest (cost : Nat → Nat) (l : List Nat) (room : Nat) :
    ∃ k, k ≤ l.length ∧ gateTake cost room l = l.take k ∧ ((l.take k).map cost).sum ≤ room
      ∧ (k < l.length → room < ((l.take (k + 1)).map cost).sum) := by
  induction l generalizing room with
  | nil => exact ⟨0, by simp [gateTake]⟩
  | cons i t ih =>
    by_cases hc : cost i ≤ room
    · obtain ⟨k, hk, htake, hfits, hnext⟩ := ih (room - cost i)
      refine ⟨k + 1, by simpa using hk, by simp [gateTake, hc, htake], ?_, fun h => ?_⟩
      · simp only [List.take_succ_cons, List.map_cons, List.sum_cons]; omega
      · have := hnext (by simpa using h)
        rw [List.take_succ_cons, List.map_cons, List.sum_cons]; omega
    · exact ⟨0, by simp [gateTake, hc]; omega⟩

/-- In the whole form the packets the gate lets pass run on in order; event 5 counts where fewer than four pass and others wait. -/
theorem costGate_whole {d : Dev} {n k : Nat} {ws : List LookAt} (hlive : (Dev.pipe d n).ctx.live = false)
    (hk : k ≤ (Dev.pipe d n).gate.length) (htake : gateTake (Dev.costOf d n) 4 (Dev.pipe d n).gate = (Dev.pipe d n).gate.take k) :
    Dev.costGate d n true none ws = Dev.ingressPasses n ws 0 ((Dev.pipe d n).gate.take k)
      (Dev.setPipe (if k < (Dev.pipe d n).gate.length ∧ k < 4 then Dev.perf d n 5 1 else d) n
        { Dev.pipe d n with gate := (Dev.pipe d n).gate.drop k }) := by
  have hpipe : Dev.pipe (if k < (Dev.pipe d n).gate.length ∧ k < 4 then Dev.perf d n 5 1 else d) n = Dev.pipe d n := by
    split <;> simp
  unfold Dev.costGate
  simp only [hlive, Bool.false_eq_true, if_false, if_true, htake, List.length_take, Nat.min_eq_left hk, hpipe]

theorem costGate_step {d : Dev} {n i : Nat} {t : List Nat} {ws : List LookAt} (hlive : (Dev.pipe d n).ctx.live = false)
    (hg : (Dev.pipe d n).gate = i :: t) :
    Dev.costGate d n false none ws = Dev.setPipe d n { Dev.pipe d n with gate := t, ctx := Dev.ingressCtx d n i } := by
  unfold Dev.costGate
  simp [hlive, hg]

/-- Settles O17: clause by clause, what the arbiter, the parse and the cost gate make of a lit part. -/
theorem packetsPassArbiterParseAndCostGate : Obligations.PacketsPassArbiterParseAndCostGate := by
  unfold Obligations.PacketsPassArbiterParseAndCostGate
  refine ⟨?tile, ?recirculated, ?reserved, ?closed, ?parse, ?gate⟩
  case tile =>
    intro n k i s hl d y waits hs hg ha hslot hbefore hat
    rw [does_lift_iff (exec_arbiterAccept n s) hl,
      accept_tile ⟨hs, hg, ha⟩ hslot (nextArrival_of_first k.isLt hbefore hat)]
    have hn : n.val < 64 := by omega
    refine ⟨by simp [y, d], fun m hm => by simp [pipe_setPipe_ne _ _ _ _ hm, d], by simp [d], by simp [d], by simp [d],
      by simp [d], by simp [d], by simp [d], by simp [d], by simp [SameTables, d], fun j hj _ => ?_⟩
    rw [(Aside.el j hj).perf _ _ _ _ hn, (Aside.el j hj).perf _ _ _ _ hn]
    rfl
  case recirculated =>
    intro n i t s hl d y hs hg ha harr hinj hrec
    rw [does_lift_iff (exec_arbiterAccept n s) hl,
      accept_recirc ⟨hs, hg, ha⟩ harr hinj hrec]
    exact ⟨by simp [y, d], by simp, pkt_acceptInternal_same .., fun m hm => pipe_acceptInternal_ne hm,
      fun m hm => pkt_acceptInternal_ne hm, acceptInternal_frame ..⟩
  case reserved =>
    intro n i j t u s hl d y k hs hg ha hslot hrec hinj
    rw [does_lift_iff (exec_arbiterAccept n s) hl,
      accept_reserved ⟨hs, hg, ha⟩ hslot hrec hinj]
    exact ⟨pipe_acceptInternal_same .., by rw [pkt_acceptInternal_same], fun m hm => pkt_acceptInternal_ne hm,
      fun m hm => pipe_acceptInternal_ne hm, acceptInternal_frame ..⟩
  case closed =>
    intro n s y h
    exact (exec_arbiterAccept n s).trans (lift_same (accept_of_closed h))
  case parse =>
    intro n i t s hl d y img k ha
    refine ⟨fun hwhole hlen => ?_, fun hready hg hb => ?_⟩
    · have hw : (Dev.pkt d i).whole = false := hwhole
      have hf : (Dev.pkt d i).frame.length ≤ img.depth + 4 := hlen
      have hr : parseReady img (Dev.pkt d i) = false := by simp [parseReady, hw, hf]
      exact (exec_thresherStart n s).trans (liftE_same (thresherStart_waits ha hr))
    · have hr : parseReady img (Dev.pkt d i) = true := by simpa [parseReady] using hready
      have hn : n.val < 64 := by omega
      rw [does_liftE_iff (exec_thresherStart n s) hl, thresherStart_parses ha hr hg hb]
      exact ⟨(accepted_countParse _ _ hn).trans (by rw [pipe_setParsed, pipe_setPipe_same]),
        (gate_countParse _ _ hn).trans (by rw [pipe_setParsed, pipe_setPipe_same]),
        (pkt_of_pkts (countParse_pkts _ _ hn) i).trans (pkt_setPkt_same ..), el_countParse_packets _ _ n.isLt,
        fun m hm => (pkt_of_pkts (countParse_pkts _ _ hn) m).trans (pkt_setPkt_ne _ _ _ _ hm),
        fun m hm => (pipe_countParse_ne _ _ hn hm).trans (pipe_setPipe_ne _ _ _ _ hm), countParse_frame _ _ hn⟩
  case gate =>
    intro n ws s hl d y cost hlive
    have hcost (l : List Nat) : cost l = (l.map (Dev.costOf d n)).sum := List.sum_eq_foldl_nat.symm
    refine ⟨?_, fun i t hgate => ?_⟩
    · obtain ⟨k, hk, htake, hfits, hnext⟩ := gateTake_longest (Dev.costOf d n) y.gate 4
      refine ⟨k, if k < y.gate.length ∧ k < 4 then Dev.perf d n 5 1 else d, hk, by rw [hcost]; exact hfits,
        fun h => by rw [hcost]; exact hnext h, (ite_eq_or_eq ..).symm, ?_⟩
      rw [exec_costGatePass, lift_lit _ hl, costGate_whole hlive hk htake]
    · rw [exec_costGatePass, lift_lit _ hl, costGate_step hlive hgate]

end Sys2Proof.Machine

/-! The refutation of O15: a statistics word above 64 bits. -/
namespace Sys2Proof.Machine

/-- Every domain is on and port 0 is up; its discard word (R321) stands at 2^64, above the 64 bits of a word that the part counts
in, which the state's type allows. -/
def overCounted : Dev :=
  let d := Dev.setEl (Dev.setBlob Dev.reset K.pwrDomainState (List.replicate 24 1)) (K.portState 0) 5
  { d with tel := { d.tel with stats := [(10, 2 ^ 64)] } }
def overCountedState : State := { State.reset with dev := overCounted }

/-- On a port in state 5, FRAME_RECEIVE does what the reception makes of the part. -/
theorem does_frameReceive_iff {p : Fin 1024} {ph : Fin 6} {bytes : List Byte} {e : RxEnd} {fecBad : Bool} {w : RouriWay}
    {s : State} {P : Dev → Prop} (hl : s.lit) (hup : Dev.el s.dev (K.portState p) = 5) :
    Does (.frameReceive p ph bytes e fecBad w) s P ↔ P (Dev.receive s.dev p ph bytes e fecBad w) := by
  rw [does_lift_iff (show exec (.frameReceive p ph bytes e fecBad w) s = lift _ s from rfl) hl, if_pos hup]

/-- A head of 64 bytes finds room in the arrival buffer, and the discard word stays as it is. -/
theorem stat_receive_overCounted :
    Dev.stat (Dev.receive overCountedState.dev (0 : Fin 1024) (0 : Fin 6) (zeros 64) .more false .ok) (0 : Fin 1024) 10 = 2 ^ 64 := by
  decide +kernel

/-- Refutes O15: where the frame enters the buffer the statement takes the port's discard word modulo 2^64 (`plus x 10 0`), but
the model leaves the word as it is, and nothing in the statement asks that it be below 2^64. -/
theorem not_receivedFramesEnterTheArrivalBuffer : ¬ Obligations.ReceivedFramesEnterTheArrivalBuffer := by
  unfold Obligations.ReceivedFramesEnterTheArrivalBuffer
  rintro ⟨hreceive, -⟩
  have hlit : overCountedState.lit := show Dev.dark overCounted = false by decide +kernel
  have hup : Dev.el overCountedState.dev (K.portState (0 : Fin 1024)) = 5 := by decide +kernel
  have hroom : ¬ (2048 ≤ (Dev.pipe overCounted 0).arrival.length
      ∨ 524288 < Dev.arrivalBytes overCounted 0 + (zeros 64).length) := by decide +kernel
  obtain ⟨hroomy, -⟩ := (does_frameReceive_iff hlit hup).mp
    (hreceive 0 0 (zeros 64) false .more .ok overCountedState hlit hup (by decide +kernel) (.inr (by decide +kernel))
      (.inl (by decide)) (by decide +kernel))
  obtain ⟨hword, -⟩ := hroomy hroom
  have hstart : Dev.stat overCountedState.dev (0 : Fin 1024) 10 = 2 ^ 64 := by decide +kernel
  rw [stat_receive_overCounted, hstart] at hword
  omega

end Sys2Proof.Machine

/-! The refutation of O20: the end of a frame that moves a queue's return window. -/
namespace Sys2Proof.Machine

/-- A whole packet of 64 bytes with one reference. -/
def heldPkt : Pkt := { Pkt.init with frame := zeros 68, whole := true, refs := 1 }

/-- The last packet of bale number 0 of queue 0, in transmission (a descriptor names its bale's number plus one). -/
def lastOfBale : TxFrame :=
  { d := { Desc.init with pkt := 1, c := 1, spilled := true, bale := 1 }, q := 0, sheaf := 0, fields := [],
    out := Deparsed.init, charge := { Charge.init with len := 68 }, late := false, stomp := false, underrun := false,
    lost := false, txAt := 0, stamp := 0, sent := zeros 64 }

/-- Queue 0 spills (state 1, R212): behind the frame on the line stand bale number 1, written, and bale number 2, still open with
two records. The frame and each bale hold one descriptor, three in all. -/
def spilling : Dev :=
  let d := Dev.setBlob Dev.reset K.pwrDomainState (List.replicate 24 1)
  let d := Dev.setEl (Dev.setEl (Dev.setEl d (K.portState 0) 5) (K.eqSpillState 0) 1) K.granSpillBacklog 1
  let d := [1, 2, 3, 4].foldl (fun d i => Dev.setPkt d i heldPkt) d
  let d := Dev.setBale d 16 { Bale.init with seq := 1, recs := [{ Desc.init with pkt := 2, c := 1 }], closed := true, written := true }
  let d := Dev.setBale d 32 { Bale.init with seq := 2, recs := [{ Desc.init with pkt := 3, c := 1 }, { Desc.init with pkt := 4, c := 1 }] }
  let d := Dev.setQueue d 0 { EQueue.init with items := [.bale 16 1, .bale 32 2], openBale := some 32, baleSeq := 3 }
  Dev.setPort (Dev.setBuf d { d.buf with descs := 3 }) 0 { OutPort.init with tx := some lastOfBale }

def spillingState : State := { State.reset with dev := spilling }

/-- With no counter word found bad, FRAME_TX_END does what the end of the frame makes of the part. -/
theorem does_frameTxEnd_iff {p : Fin 1024} {s : State} {P : Dev → Prop} (hl : s.lit) :
    Does (.frameTxEnd p []) s P ↔ P (Dev.frameTxEnd s.dev p) :=
  does_lift_iff (show exec (.frameTxEnd p []) s = lift (fun d => Dev.frameTxEnd d p) s from rfl) hl

/-- The frame's descriptor goes, the window reaches the open bale, which closes inside it: its reference's descriptor goes too and
those of its two records come (R212, R214, R215). -/
theorem descs_frameTxEnd_spilling : (Dev.frameTxEnd spillingState.dev (0 : Fin 1024)).buf.descs = 3 := by decide +kernel

/-- Refutes O20: the statement has one descriptor less in use after every FRAME_TX_END, but where the frame was the last of its
bale the return window moves and the records of an open bale of several records are linked on-die. -/
theorem not_framesStartAndEndOnTheLine : ¬ Obligations.FramesStartAndEndOnTheLine := by
  unfold Obligations.FramesStartAndEndOnTheLine
  rintro ⟨-, hend, -⟩
  have hlit : spillingState.lit := show Dev.dark spilling = false by decide +kernel
  have htx : (Dev.port spillingState.dev (0 : Fin 1024)).tx = some lastOfBale := by decide +kernel
  obtain ⟨-, -, hdescs, -⟩ := (does_frameTxEnd_iff hlit).mp (hend 0 lastOfBale spillingState hlit htx)
  have hstart : spillingState.dev.buf.descs = 3 := by decide +kernel
  rw [descs_frameTxEnd_spilling, hstart] at hdescs
  omega

end Sys2Proof.Machine

/-! The refutation of O18: a queue whose pool number names a performance bank. -/
namespace Sys2Proof.Machine

/-- A whole packet of 64 bytes and its FCS, for queue 0 of port 0. -/
def unicastPkt : Pkt := { Pkt.init with frame := zeros 68, whole := true, fields := [(0, 0)] }

/-- Every domain is on and port 0 is up; its queue 0 does not spill and names pool 855, beyond the eight pools, which the state's
type allows. The words of that pool are those of performance bank 0x27 (key 0x0910 + 855 = 0x0C40 + 0x27): mode 1 is the selection
of event 1, cells written; size 1 is the enable bit of counter 0; the pool's use is counter 0. The headroom has no cells. -/
def bankAsPool : Dev :=
  let d := Dev.setBlob Dev.reset K.pwrDomainState (List.replicate 24 1)
  let d := Dev.setEl (Dev.setEl (Dev.setEl d (K.portState 0) 5) (K.eqSpillEnable 0) 0) (K.eqPool 0) 855
  let d := Dev.setEl (Dev.setEl (Dev.setEl d (K.perfSel 0x27) 1) (K.perfEnable 0x27) 1) K.hrSize 0
  Dev.setPipe (Dev.setPkt d 0 unicastPkt) 0 { Pipe.init with tm := [0] }

def bankAsPoolState : State := { State.reset with dev := bankAsPool }

/-- Before the admission the packet fits: the bank has counted nothing. -/
theorem fits_bankAsPool : Dev.fits bankAsPoolState.dev (Dev.oldProf bankAsPoolState.dev (Dev.pkt bankAsPoolState.dev 0))
    (Pkt.queueNo (Dev.pkt bankAsPoolState.dev 0))
    (cellsOf (Pkt.stored (Dev.pkt bankAsPoolState.dev 0)).length) = true := by decide +kernel

/-- The cell that the admission writes for the packet is counted in the bank, so that the packet fits no more and drops. -/
theorem items_packetAdmit_bankAsPool :
    (Dev.queue (Dev.packetAdmit bankAsPoolState.dev (0 : Fin 16)) (Pkt.queueNo (Dev.pkt bankAsPoolState.dev 0))).items.length = 0 := by
  decide +kernel

/-- Refutes O18: the statement tests `fits` on the part as it stands before the command, the model after it has written the packet's
cells and counted them (R161, R322); where the queue's pool number lies beyond the eight pools (nothing in the statement bounds it)
the pool's words can be the very counter that this moves. -/
theorem not_admissionLinksThePacketAtItsQueuesTail : ¬ Obligations.AdmissionLinksThePacketAtItsQueuesTail := by
  unfold Obligations.AdmissionLinksThePacketAtItsQueuesTail
  rintro ⟨hadmit, -⟩
  have hlit : bankAsPoolState.lit := show Dev.dark bankAsPool = false by decide +kernel
  have hdoes := hadmit 0 0 [] bankAsPoolState hlit (by decide +kernel) (by decide +kernel) (by decide +kernel) (by decide +kernel)
    (by decide +kernel) (by decide +kernel) (by decide +kernel) (by decide +kernel) (by decide +kernel) fits_bankAsPool
  have hexec : exec (.packetAdmit 0) bankAsPoolState = lift (fun d => Dev.packetAdmit d (0 : Fin 16)) bankAsPoolState := rfl
  obtain ⟨⟨y, hitems, -⟩, -⟩ := (does_lift_iff hexec hlit).mp hdoes
  have hlength := congrArg List.length hitems
  rw [items_packetAdmit_bankAsPool, List.length_append] at hlength
  simp at hlength

end Sys2Proof.Machine

/-! What counting, events, notices and the steps of a bring-up leave as it was, as one relation between the part before and after. -/
namespace Sys2Proof.Machine

/-- Nothing on the packets' way, in the tables, the time bases or firmware differs, nor an element of P, a link of a port of L,
any link's conditions or a Rouri direction, and every event cause that was pending still is. -/
structure Steady (P L : Nat → Prop) (d e : Dev) : Prop where
  els : ∀ k, P k → Dev.el e k = Dev.el d k
  traffic : SameTraffic d e
  tables : SameTables d e
  time : e.time = d.time
  fw : e.fw = d.fw
  conds : ∀ q, (Dev.linkS e q).conds = (Dev.linkS d q).conds
  links : ∀ q, L q → Dev.linkS e q = Dev.linkS d q
  rouri : ∀ t dir, Dev.rouri e t dir = Dev.rouri d t dir
  cause : ∀ p b, (Dev.hp d p).evtCause.getLsbD b = true → (Dev.hp e p).evtCause.getLsbD b = true

/-- The elements of `asideEl` that an event or a notice may change: all but the count of contained errors. -/
def noteEl (k : Nat) : Bool := asideEl k && k != K.errContained

/-- None of P is among them. -/
def Unnoted (P : Nat → Prop) : Prop := ∀ k, noteEl k = true → ¬ P k

theorem noteEl_perfCtr {b k : Nat} (hb : b < 64) (hk : k < 8) : noteEl (K.perfCtr b k) = true := by
  have hne : K.perfCtr b k ≠ K.errContained := by simp only [K.perfCtr, K.errContained, key]; omega
  simp [noteEl, asideEl_perfCtr b k hb hk, hne]

theorem noteEl_perfWrap {b : Nat} (hb : b < 64) : noteEl (K.perfWrap b) = true := by
  have hne : K.perfWrap b ≠ K.errContained := by simp only [K.perfWrap, K.errContained, key]; omega
  simp [noteEl, asideEl_perfWrap b hb, hne]

theorem noteEl_stream {i e : Nat} (hi : i < 8) (he : e = 2 ∨ e = 3) : noteEl (key (0x0C08 + i) e) = true := by
  have hne : key (0x0C08 + i) e ≠ K.errContained := by simp only [K.errContained, key]; omega
  simp [noteEl, asideEl_stream i e hi he, hne]

theorem hp_setHp (d : Dev) (p q : Nat) (h : HostPort) : Dev.hp (Dev.setHp d q h) p = if p = 0 ↔ q = 0 then h else Dev.hp d p := by
  by_cases hp : p = 0 <;> by_cases hq : q = 0 <;> simp [Dev.hp, Dev.setHp, hp, hq]

theorem hp_congr {p q : Nat} (h : p = 0 ↔ q = 0) (d : Dev) : Dev.hp d p = Dev.hp d q := by simp only [Dev.hp, h]

theorem SameTraffic.trans {d e f : Dev} (h : SameTraffic d e) (g : SameTraffic e f) : SameTraffic d f := by
  obtain ⟨h₁, h₂, h₃, h₄, h₅, h₆, h₇⟩ := h
  obtain ⟨g₁, g₂, g₃, g₄, g₅, g₆, g₇⟩ := g
  exact ⟨g₁.trans h₁, g₂.trans h₂, g₃.trans h₃, g₄.trans h₄, g₅.trans h₅, g₆.trans h₆, g₇.trans h₇⟩

theorem SameTables.trans {d e f : Dev} (h : SameTables d e) (g : SameTables e f) : SameTables d f :=
  ⟨g.1.trans h.1, g.2.trans h.2⟩

namespace Steady
variable {P L : Nat → Prop} {d e : Dev}

theorem refl (d : Dev) : Steady P L d d :=
  ⟨fun _ _ => rfl, ⟨rfl, rfl, rfl, rfl, rfl, rfl, rfl⟩, ⟨rfl, rfl⟩, rfl, rfl, fun _ => rfl, fun _ _ => rfl, fun _ _ => rfl, fun _ _ h => h⟩

theorem trans {f : Dev} (h : Steady P L d e) (g : Steady P L e f) : Steady P L d f where
  els k hk := (g.els k hk).trans (h.els k hk)
  traffic := h.traffic.trans g.traffic
  tables := h.tables.trans g.tables
  time := g.time.trans h.time
  fw := g.fw.trans h.fw
  conds q := (g.conds q).trans (h.conds q)
  links q hq := (g.links q hq).trans (h.links q hq)
  rouri t dir := (g.rouri t dir).trans (h.rouri t dir)
  cause p b hb := g.cause p b (h.cause p b hb)

theorem mono {Q : Nat → Prop} (h : Steady P L d e) (hQ : ∀ k, Q k → P k) : Steady Q L d e :=
  { h with els := fun k hk => h.els k (hQ k hk) }

theorem ite {c : Prop} [Decidable c] {a b : Dev} (ha : Steady P L d a) (hb : Steady P L d b) : Steady P L d (if c then a else b) := by
  split <;> assumption

theorem foldl {α : Type} {f : Dev → α → Dev} (l : List α) (hf : ∀ e, ∀ x ∈ l, Steady P L d e → Steady P L d (f e x))
    (h : Steady P L d e) : Steady P L d (l.foldl f e) := by
  induction l generalizing e with
  | nil => exact h
  | cons x t ih =>
    exact ih (fun e y hy he => hf e y (List.mem_cons_of_mem x hy) he) (hf e x List.mem_cons_self h)

/-! The updates that the operations are made of. -/

theorem setEl {k : Nat} (hk : ¬ P k) (v : Nat) (h : Steady P L d e) : Steady P L d (Dev.setEl e k v) :=
  { h with els := fun j hj => (el_setEl_ne e k j v (by rintro rfl; exact hk hj)).trans (h.els j hj) }

theorem setHp {p : Nat} {x : HostPort} (hx : ∀ b, (Dev.hp e p).evtCause.getLsbD b = true → x.evtCause.getLsbD b = true)
    (h : Steady P L d e) : Steady P L d (Dev.setHp e p x) where
  els k hk := (el_congr (Dev.setHp_dict e p x) k).trans (h.els k hk)
  traffic := by simpa [SameTraffic] using h.traffic
  tables := by simpa [SameTables] using h.tables
  time := by simpa using h.time
  fw := by simpa using h.fw
  conds q := by simpa [Dev.linkS] using h.conds q
  links q hq := by simpa [Dev.linkS] using h.links q hq
  rouri t dir := by simpa [Dev.rouri] using h.rouri t dir
  cause q b hb := by
    rw [hp_setHp]
    split
    case isTrue hq => exact hx b (by rw [hp_congr hq.symm]; exact h.cause q b hb)
    case isFalse => exact h.cause q b hb

theorem setLink {p : Nat} {l : LinkS} (hp : ¬ L p) (hl : l.conds = (Dev.linkS e p).conds) (h : Steady P L d e) :
    Steady P L d (Dev.setLink e p l) where
  els := h.els
  traffic := h.traffic
  tables := h.tables
  time := h.time
  fw := h.fw
  conds q := by
    by_cases hq : q = p
    · rw [hq, linkS_setLink_same, hl, h.conds]
    · rw [linkS_setLink_ne _ _ _ _ hq, h.conds]
  links q hq := (linkS_setLink_ne _ _ _ _ (by rintro rfl; exact hp hq)).trans (h.links q hq)
  rouri := h.rouri
  cause := h.cause

theorem tel (x : TelS) (h : Steady P L d e) : Steady P L d { e with tel := x } := { h with }
theorem err (x : ErrS) (h : Steady P L d e) : Steady P L d { e with err := x } := { h with }
theorem noticeTok (x : SMap Bucket) (h : Steady P L d e) : Steady P L d { e with dict := { e.dict with noticeTok := x } } := { h with }
theorem emit (o : Out) (h : Steady P L d e) : Steady P L d (Dev.emit e o) := { h with }
theorem useFree (h : Steady P L d e) : Steady P L d (Dev.useFree e) := { h with }
theorem setBlob (k : Nat) (v : List Byte) (h : Steady P L d e) : Steady P L d (Dev.setBlob e k v) := { h with }

/-! Counting, events and notices. -/

theorem act (k n : Nat) (h : Steady P L d e) : Steady P L d (Dev.act e k n) := h.tel _

theorem wrapMark (k : Nat) (h : Steady P L d e) : Steady P L d (Dev.wrapMark e k) := h.tel _

theorem day (r : Nat) (h : Steady P L d e) : Steady P L d (Dev.day e r) := h.ite (h.err _)

theorem takeTotal (n : Nat) (h : Steady P L d e) : Steady P L d (Dev.takeTotal e n) := by
  unfold Dev.takeTotal
  split
  · exact h.tel _
  · exact h

theorem noticeBy {cnt : Dev → Nat → Nat → Dev}
    (hc : ∀ e k n, noteEl k = true → Steady P L d e → Steady P L d (cnt e k n)) (c r k : Nat) (h : Steady P L d e) :
    Steady P L d (Dev.noticeBy cnt e c r k) := by
  unfold Dev.noticeBy
  dsimp only
  split
  · exact h
  · refine h.ite ?_
    split
    · exact hc _ _ _ (by decide) ((h.noticeTok _).emit _)
    · exact hc _ _ _ (by decide) (h.noticeTok _)

theorem noticeOut {cnt : Dev → Nat → Nat → Dev}
    (hc : ∀ e k n, noteEl k = true → Steady P L d e → Steady P L d (cnt e k n)) (c nr : Nat) (h : Steady P L d e) :
    Steady P L d (Dev.noticeOut cnt e c nr) :=
  (h.err _).foldl _ fun _ k _ he => noticeBy hc c nr k he

section
variable (hP : Unnoted P)
include hP

theorem perfBank {b : Nat} (hb : b < 64) (c n : Nat) (h : Steady P L d e) : Steady P L d (Dev.perfBank e b c n) := by
  refine h.ite (h.foldl _ fun e k hk he => ?_)
  have hctr := hP _ (noteEl_perfCtr hb (List.mem_range.mp hk))
  exact ite (ite ((he.setEl hctr _).setEl (hP _ (noteEl_perfWrap hb)) _) (he.setEl hctr _)) he

theorem perf {b : Nat} (hb : b < 64) (c n : Nat) (h : Steady P L d e) : Steady P L d (Dev.perf e b c n) :=
  perfBank hP hb c n (h.ite (h.tel _))

theorem sendVector (p v : Nat) (h : Steady P L d e) : Steady P L d (Dev.sendVector e p v) := by
  unfold Dev.sendVector
  dsimp only
  exact h.ite (ite (h.setHp fun _ hb => hb) (perf hP (by split <;> decide) 3 1 (h.emit _)))

theorem raiseOn (p b : Nat) (h : Steady P L d e) : Steady P L d (Dev.raiseOn e p b) := by
  have hset := h.setHp (p := p) (x := { Dev.hp e p with evtCause := (Dev.hp e p).evtCause ||| BitVec.ofNat 64 (2 ^ b) })
    (fun c hc => by simp [hc])
  unfold Dev.raiseOn
  dsimp only
  exact h.ite (hset.ite (sendVector hP _ _ hset))

theorem raise (b : Nat) (h : Steady P L d e) : Steady P L d (Dev.raise e b) := raiseOn hP 1 b (raiseOn hP 0 b h)

theorem telPut (r : Nat) (h : Steady P L d e) : Steady P L d (Dev.telPut e r) := by
  unfold Dev.telPut Dev.recLost
  dsimp only
  exact setEl (hP _ (by decide)) _ ((h.tel _).ite (h.tel _))

theorem wrapTell (k : Nat) (h : Steady P L d e) : Steady P L d (Dev.wrapTell e k) := by
  unfold Dev.wrapTell
  extract_lets nr
  exact noticeOut (fun _ k _ hk he => he.setEl (hP k hk) _) _ _ (telPut hP _ h)

theorem wrapBits (k : Nat) (h : Steady P L d e) : Steady P L d (Dev.wrapBits e k) := by
  have hevents := hP K.telWrapEvents (by decide)
  have hraised := raise hP 7 ((wrapMark k h).setEl hevents (wrap64 (Dev.el e K.telWrapEvents) 1).1)
  exact ite (wrapTell hP _ ((wrapMark _ hraised).setEl hevents _)) hraised

theorem countQuiet {k : Nat} (hk : ¬ P k) (n : Nat) (h : Steady P L d e) : Steady P L d (Dev.countQuiet e k n) := by
  have hset := h.setEl hk (wrap64 (Dev.el e k) n).1
  exact ite (wrapTell hP _ (wrapBits hP _ hset)) hset

theorem streamSkip {i : Nat} (hi : i < 8) (u : Nat) (h : Steady P L d e) : Steady P L d (Dev.streamSkip e i u) := by
  unfold Dev.streamSkip Dev.setStream
  dsimp only
  refine h.ite (perf hP (by decide) 7 _ (countQuiet hP (hP _ ?_) _ (setEl (hP _ ?_) _ (h.tel _))))
  · exact noteEl_stream hi (.inr rfl)
  · exact noteEl_stream hi (.inl rfl)

theorem streamLap {i : Nat} (hi : i < 8) (h : Steady P L d e) : Steady P L d (Dev.streamLap e i) := by
  unfold Dev.streamLap
  dsimp only
  exact ite (streamSkip hP hi _ h) h

theorem telWrite (r : Nat) (h : Steady P L d e) : Steady P L d (Dev.telWrite e r) :=
  (telPut hP r h).foldl _ fun _ _ hi he => streamLap hP (List.mem_range.mp hi) he

theorem notice (c ch co de : Nat) (h : Steady P L d e) : Steady P L d (Dev.notice e c ch co de) := by
  unfold Dev.notice
  extract_lets nr
  exact noticeOut (fun _ k n hk he => countQuiet hP (hP k hk) n he) _ _ (telWrite hP _ (takeTotal 0 h))

theorem wrapped (k : Nat) (h : Steady P L d e) : Steady P L d (Dev.wrapped e k) := by
  unfold Dev.wrapped
  extract_lets d₁ nr
  exact noticeOut (fun _ k n hk he => countQuiet hP (hP k hk) n he) _ _ (telWrite hP _ (takeTotal 0 (wrapBits hP k h)))

/-- Counting in k is writing k, and what a wrap's notice moves. -/
theorem count_set (k n : Nat) : Steady P L (Dev.setEl d k ((Dev.el d k + n) % 2 ^ 64)) (Dev.count d k n) :=
  ite (wrapped hP k (refl _)) (refl _)

theorem count {k : Nat} (hk : ¬ P k) (n : Nat) (h : Steady P L d e) : Steady P L d (Dev.count e k n) :=
  (h.setEl hk _).trans (count_set hP k n)

theorem countStat (p w n : Nat) (h : Steady P L d e) : Steady P L d (Dev.countStat e p w n) := by
  unfold Dev.countStat
  extract_lets x set d₁ d₂ d₃
  have h₁ : Steady P L d d₁ := h.tel _
  have h₂ : Steady P L d d₂ := ite (h₁.act _ _) h₁
  have h₃ : Steady P L d d₃ := ite (h₂.day 5) h₂
  exact ite (wrapped hP _ (h₃.tel _)) h₃

theorem appendLog (x : Nat) (h : Steady P L d e) : Steady P L d (Dev.appendLog e x).1 := by
  have hnew (src : Nat) : Steady P L d (Dev.appendLog.append e x src).1 := count hP (hP _ (by decide)) 1 (h.err _)
  unfold Dev.appendLog
  dsimp only
  split
  · split
    · exact h.err _
    · exact hnew _
  · exact hnew _

/-- A contained error counts in err.contained; the rest of it moves what an event moves. -/
theorem contained_set (c co o el u : Nat) :
    Steady P L (Dev.setEl d K.errContained ((Dev.el d K.errContained + 1) % 2 ^ 64)) (Dev.contained d c co o el u) := by
  unfold Dev.contained
  extract_lets d₁ x r
  have hr : Steady P L _ r.1 := appendLog hP x (raise hP 2 (count_set hP K.errContained 1))
  exact ite (notice hP _ _ _ _ hr) hr

theorem contained (hk : ¬ P K.errContained) (c co o el u : Nat) (h : Steady P L d e) : Steady P L d (Dev.contained e c co o el u) :=
  (h.setEl hk _).trans (contained_set hP c co o el u)

theorem corrected (o el n : Nat) (h : Steady P L d e) : Steady P L d (Dev.corrected e o el n) := by
  unfold Dev.corrected
  extract_lets d₁ s c er d₂
  have h₂ : Steady P L d d₂ := (count hP (hP K.errCorrected (by decide)) n h).err _
  exact ite (notice hP _ _ _ _ (h₂.err _)) h₂

theorem event (c ch : Nat) (h : Steady P L d e) : Steady P L d (Dev.event e c ch) := (notice hP _ _ _ _ (raise hP c h)).useFree

theorem eventD (c ch de : Nat) (h : Steady P L d e) : Steady P L d (Dev.eventD e c ch de) :=
  (notice hP _ _ _ _ (raise hP c h)).useFree

end
/-! What a bring-up writes: settings of lanes, the lane elements of a tile, and links. -/

theorem setCtle (n v : Nat) (h : Steady P L d e) : Steady P L d (Dev.setCtle e n v) := { h with }
theorem adapting (x : SMap Bool) (h : Steady P L d e) : Steady P L d { e with lanes := { e.lanes with adapting := x } } := { h with }

theorem sendRemoteFault {p : Nat} (hp : ¬ L p) (on : Bool) (h : Steady P L d e) : Steady P L d (Dev.sendRemoteFault e p on) :=
  h.ite ((h.setLink hp (by rfl)).emit _)

theorem setLaneEq (n c : Nat) (cs : List Byte) (h : Steady P L d e) : Steady P L d (Dev.setLaneEq e n c cs) :=
  h.ite ((h.setCtle _ _).setBlob _ _)

theorem seedLane (p n : Nat) (h : Steady P L d e) : Steady P L d (Dev.seedLane e p n) := by
  unfold Dev.seedLane
  dsimp only
  split <;> exact h.setLaneEq _ _ _

theorem seedPort {p : Nat} (hp : ¬ L p) (h : Steady P L d e) : Steady P L d (Dev.seedPort e p) := by
  unfold Dev.seedPort
  split
  · exact h.setLink hp (by rfl)
  · exact (h.setLink hp (by rfl)).foldl _ fun _ n _ he => he.seedLane p n

theorem background (n : Nat) (h : Steady P L d e) : Steady P L d (Dev.background e n) := by
  unfold Dev.background
  split
  · exact ite (h.setBlob _ _).useFree h
  · exact h

theorem backgrounds (ns : List Nat) (h : Steady P L d e) : Steady P L d (Dev.backgrounds e ns) :=
  h.foldl _ fun _ n _ he => he.background n

theorem setFir (n : Nat) (fir : List Byte) (h : Steady P L d e) : Steady P L d (Dev.setFir e n fir) := by
  unfold Dev.setFir
  split
  · exact h.ite (h.setBlob _ _)
  · exact h

theorem adaptRx {n : Nat} (hn : ¬ P (K.laneSnr n)) (x : LaneEq) (h : Steady P L d e) : Steady P L d (Dev.adaptRx e n x) :=
  (h.setLaneEq _ _ _).setEl hn _

theorem adaptLanes {n : Nat} {xs : List LaneEq} (hn : ∀ k, k < xs.length → ¬ P (K.laneSnr (n + k))) (h : Steady P L d e) :
    Steady P L d (Dev.adaptLanes e n xs) := by
  induction xs generalizing n e with
  | nil => exact h
  | cons x t ih =>
    refine ih (fun k hk => ?_) ((h.adaptRx (hn 0 (by simp)) x).setFir n x.fir)
    rw [Nat.add_assoc, Nat.add_comm 1]
    exact hn (k + 1) (by simpa using hk)

theorem setAdapt {ns : List Nat} (hns : ∀ n ∈ ns, ¬ P (K.laneAdaptState n)) (v : Nat) (h : Steady P L d e) :
    Steady P L d (Dev.setAdapt e ns v) := h.foldl _ fun _ n hn he => he.setEl (hns n hn) v

theorem adaptOff {ns : List Nat} (hns : ∀ n ∈ ns, ¬ P (K.laneAdaptState n)) (h : Steady P L d e) :
    Steady P L d (Dev.adaptOff e ns) := (h.adapting _).setAdapt hns 0

theorem tileLanes {t : Nat} (hn : ¬ P (K.tilePllNrz t)) (hw : ¬ P (K.tileLanePower t)) (h : Steady P L d e) :
    Steady P L d (Dev.tileLanes e t) := (h.setEl hn _).setEl hw _

end Steady

/-- P names none of the elements that a step of port p's bring-up writes: its state, the adaptation states of its lanes, and the lane
elements of its tile. -/
structure OffBringUp (P : Nat → Prop) (d : Dev) (p : Nat) : Prop where
  state : ¬ P (K.portState p)
  adapt : ∀ n ∈ Dev.portLanes d p, ¬ P (K.laneAdaptState n)
  nrz : ¬ P (K.tilePllNrz (p / 64))
  power : ¬ P (K.tileLanePower (p / 64))

namespace Steady
variable {P L : Nat → Prop} {d e : Dev} {p : Nat}

theorem setPortState (hs : ¬ P (K.portState p)) (hn : ¬ P (K.tilePllNrz (p / 64))) (hw : ¬ P (K.tileLanePower (p / 64))) (v : Nat)
    (h : Steady P L d e) : Steady P L d (Dev.setPortState e p v) := (h.setEl hs v).tileLanes hn hw

theorem toAlign (ho : OffBringUp P e p) (h : Steady P L d e) : Steady P L d (Dev.toAlign e p) :=
  (h.setAdapt ho.adapt 4).setPortState ho.state ho.nrz ho.power 4

theorem toTrain (ho : OffBringUp P e p) (h : Steady P L d e) : Steady P L d (Dev.toTrain e p) :=
  ite ((h.setAdapt ho.adapt 1).setPortState ho.state ho.nrz ho.power 3) (h.toAlign ho)

theorem toNegotiate (ho : OffBringUp P e p) (hp : ¬ L p) (h : Steady P L d e) : Steady P L d (Dev.toNegotiate e p) := by
  unfold Dev.toNegotiate
  refine h.ite (ite (ite (h.setLink hp (by rfl)) ((h.setLink hp (by rfl)).setPortState ho.state ho.nrz ho.power 2)) ?_)
  exact (h.setLink hp (by rfl)).toTrain ⟨ho.state, ho.adapt, ho.nrz, ho.power⟩

end Steady

/-! The state a step leads to. -/

/-- Bringing the lane elements of a tile up to date leaves every other element. -/
theorem el_tileLanes {d : Dev} {t k : Nat} (hn : k ≠ K.tilePllNrz t) (hw : k ≠ K.tileLanePower t) :
    Dev.el (Dev.tileLanes d t) k = Dev.el d k :=
  ((Steady.refl (P := (· = k)) (L := fun _ => True) d).tileLanes hn.symm hw.symm).els k rfl

theorem portState_setPortState (d : Dev) (p v : Nat) : Dev.el (Dev.setPortState d p v) (K.portState p) = v :=
  (el_tileLanes (by simp only [K.portState, K.tilePllNrz, key]; omega)
    (by simp only [K.portState, K.tileLanePower, key]; omega)).trans (el_setEl_same ..)

theorem portState_toAlign (d : Dev) (p : Nat) : Dev.el (Dev.toAlign d p) (K.portState p) = 4 := portState_setPortState ..

/-- The state after negotiation: training, where it is enabled or the port is C2M, else alignment (R52). -/
def Dev.trainState (d : Dev) (p : Nat) : Nat :=
  if Dev.el d (K.portLtEnable p) = 1 ∨ Dev.el d (K.portInterface p) = 2 then 3 else 4

/-- The state after signal (R52). -/
def Dev.startState (d : Dev) (p : Nat) : Nat := if Dev.el d (K.portAnEnable p) = 1 then 2 else Dev.trainState d p

theorem portState_toTrain (d : Dev) (p : Nat) : Dev.el (Dev.toTrain d p) (K.portState p) = Dev.trainState d p := by
  unfold Dev.toTrain Dev.trainState
  split
  · exact portState_setPortState ..
  · exact portState_toAlign d p

theorem portState_toNegotiate {d : Dev} {p : Nat} (hon : Dev.domain d (6 + p / 64) = 1) (hmcu : Dev.el d (K.tileMcuState (p / 64)) ≠ 1) :
    Dev.el (Dev.toNegotiate d p) (K.portState p) = Dev.startState d p := by
  unfold Dev.toNegotiate Dev.startState
  simp only [hon, ne_eq, not_true_eq_false, if_false, hmcu]
  split
  · exact portState_setPortState ..
  · exact portState_toTrain ..

end Sys2Proof.Machine

/-! Bring-up (R44, R52, R55, R56): where each of its steps leads, and O25. -/
namespace Sys2Proof.Machine

/-- The elements of the ports' objects. -/
@[reducible] def PortKey (k : Nat) : Prop := 0x140000 ≤ k ∧ k < 0x180000

/-- Those of them that a step of port p's bring-up keeps. -/
def KeptPorts (p k : Nat) : Prop := PortKey k ∧ k ≠ K.portState p

theorem portKey_of_el {q e : Nat} (hq : q < 1024) (he : e < 256) : PortKey (key (0x1400 + q) e) := by
  simp only [PortKey, key]; omega

/-- Where the lanes of a port lie within the part (R50), its bring-up writes no element of a port but its state. -/
theorem offBringUp_keptPorts {d : Dev} {p : Nat} (hp : p < 1024) (hw : p + Dev.portWidth d p ≤ 1024) :
    OffBringUp (KeptPorts p) d p where
  state h := h.2 rfl
  adapt n hn h := by
    obtain ⟨i, hi, rfl⟩ := List.mem_map.mp hn
    have hi := List.mem_range.mp hi
    have := h.1.1
    simp only [K.laneAdaptState, key] at this
    omega
  nrz h := by have := h.1.1; simp only [K.tilePllNrz, key] at this; omega
  power h := by have := h.1.1; simp only [K.tileLanePower, key] at this; omega

theorem portWidth_of_steady {P L : Nat → Prop} {d e : Dev} {p : Nat} (h : Steady P L d e) (hP : P (K.portSpeed p)) :
    Dev.portWidth e p = Dev.portWidth d p := by
  unfold Dev.portWidth
  rw [h.els _ hP]

/-! A step that fails. -/

/-- The reason of a failed step is noted, and a training failure counted. -/
def Dev.noteFailure (d : Dev) (p reason : Nat) : Dev :=
  let d := Dev.setEl d (K.portDownReason p) reason
  if reason = 8 ∨ reason = 9 then Dev.addEl d 32 (K.portTrainFailures p) 1 else d

theorem Steady.noteFailure {P L : Nat → Prop} {d e : Dev} {p : Nat} (hr : ¬ P (K.portDownReason p))
    (hf : ¬ P (K.portTrainFailures p)) (reason : Nat) (h : Steady P L d e) : Steady P L d (Dev.noteFailure e p reason) :=
  Steady.ite ((h.setEl hr _).setEl hf _) (h.setEl hr _)

/-- After its reason is noted, a failed step is a step to state 6. -/
theorem Steady.failStep {P L : Nat → Prop} {d : Dev} {p reason : Nat} (ho : OffBringUp P (Dev.noteFailure d p reason) p)
    (hp : ¬ L p) : Steady P L (Dev.noteFailure d p reason) (Dev.failStep d p reason) :=
  (((Steady.refl _).setLink hp (by rfl)).adaptOff ho.adapt).setPortState ho.state ho.nrz ho.power 6

theorem portState_failStep (d : Dev) (p reason : Nat) : Dev.el (Dev.failStep d p reason) (K.portState p) = 6 :=
  portState_setPortState ..

theorem downReason_noteFailure (d : Dev) (p reason : Nat) :
    Dev.el (Dev.noteFailure d p reason) (K.portDownReason p) = reason := by
  have hne : K.portDownReason p ≠ K.portTrainFailures p := by simp only [K.portDownReason, K.portTrainFailures, key]; omega
  unfold Dev.noteFailure
  dsimp only
  split
  · exact (el_setEl_ne _ _ _ _ hne).trans (el_setEl_same ..)
  · exact el_setEl_same ..

theorem trainFailures_noteFailure (d : Dev) (p reason : Nat) :
    Dev.el (Dev.noteFailure d p reason) (K.portTrainFailures p)
      = if reason = 8 ∨ reason = 9 then (Dev.el d (K.portTrainFailures p) + 1) % 2 ^ 32 else Dev.el d (K.portTrainFailures p) := by
  have hne : K.portTrainFailures p ≠ K.portDownReason p := by simp only [K.portDownReason, K.portTrainFailures, key]; omega
  have hset : Dev.el (Dev.setEl d (K.portDownReason p) reason) (K.portTrainFailures p) = Dev.el d (K.portTrainFailures p) :=
    el_setEl_ne _ _ _ _ hne
  unfold Dev.noteFailure
  dsimp only
  split
  · rw [Dev.addEl, el_setEl_same, hset]
  · exact hset

/-! What a step of the bring-up does, as the statement has it. -/

/-- Port p has gone to state v, for the reason `why` where the step failed, and nothing else that matters to packets or to other ports
differs. -/
def GoesTo (d : Dev) (p : Fin 1024) (v : Nat) (why : Option Nat) (x : Dev) : Prop :=
  Dev.el x (K.portState p) = v
    ∧ (∀ r, why = some r → Dev.el x (K.portDownReason p) = r
        ∧ Dev.el x (K.portTrainFailures p) = if r = 8 ∨ r = 9 then (Dev.el d (K.portTrainFailures p) + 1) % 2 ^ 32
                                             else Dev.el d (K.portTrainFailures p))
    ∧ (why = none → Dev.el x (K.portDownReason p) = Dev.el d (K.portDownReason p))
    ∧ (∀ q : Fin 1024, q ≠ p → Dev.el x (K.portState q) = Dev.el d (K.portState q) ∧ Dev.linkS x q = Dev.linkS d q)
    ∧ SameTraffic d x ∧ SameTables d x ∧ x.time = d.time

/-- What holds of the elements and links of every other port. -/
def OtherPort (p k : Nat) : Prop := ∃ q : Fin 1024, q.val ≠ p ∧ k = K.portState q

theorem keptPorts_of_other {p k : Nat} (h : OtherPort p k) : KeptPorts p k := by
  obtain ⟨q, hq, rfl⟩ := h
  refine ⟨portKey_of_el q.isLt (by omega), ?_⟩
  simp only [K.portState, key]
  omega

theorem keptPorts_downReason {p : Nat} (hp : p < 1024) : KeptPorts p (K.portDownReason p) :=
  ⟨portKey_of_el hp (by omega), by simp only [K.portDownReason, K.portState, key]; omega⟩

theorem keptPorts_trainFailures {p : Nat} (hp : p < 1024) : KeptPorts p (K.portTrainFailures p) :=
  ⟨portKey_of_el hp (by omega), by simp only [K.portTrainFailures, K.portState, key]; omega⟩

theorem keptPorts_speed {p : Nat} (hp : p < 1024) : KeptPorts p (K.portSpeed p) :=
  ⟨portKey_of_el hp (by omega), by simp only [K.portSpeed, K.portState, key]; omega⟩

theorem goesTo_of_steady {d x : Dev} {p : Fin 1024} {v : Nat} (h : Steady (KeptPorts p) (· ≠ p.val) d x)
    (hv : Dev.el x (K.portState p) = v) : GoesTo d p v none x :=
  ⟨hv, by rintro r ⟨⟩, fun _ => h.els _ (keptPorts_downReason p.isLt),
    fun q hq => ⟨h.els _ (keptPorts_of_other ⟨q, fun e => hq (Fin.ext e), rfl⟩), h.links q (fun e => hq (Fin.ext e))⟩,
    h.traffic, h.tables, h.time⟩

theorem goesTo_failStep {d : Dev} {p : Fin 1024} {reason : Nat} (hw : p.val + Dev.portWidth d p ≤ 1024) :
    GoesTo d p 6 (some reason) (Dev.failStep d p reason) := by
  have hspeed (k : Nat) (hk : k ≠ K.portDownReason p) (hk' : k ≠ K.portTrainFailures p) :
      Dev.el (Dev.noteFailure d p reason) k = Dev.el d k :=
    ((Steady.refl (P := (· = k)) (L := fun _ => True) d).noteFailure hk.symm hk'.symm reason).els k rfl
  have hwidth : Dev.portWidth (Dev.noteFailure d p reason) p = Dev.portWidth d p := by
    unfold Dev.portWidth
    rw [hspeed _ (by simp only [K.portSpeed, K.portDownReason, key]; omega)
      (by simp only [K.portSpeed, K.portTrainFailures, key]; omega)]
  have hfail : Steady (KeptPorts p) (· ≠ p.val) (Dev.noteFailure d p reason) (Dev.failStep d p reason) :=
    Steady.failStep (offBringUp_keptPorts p.isLt (by rw [hwidth]; exact hw)) (fun h => h rfl)
  have hnote : Steady (OtherPort p) (· ≠ p.val) d (Dev.noteFailure d p reason) := by
    refine (Steady.refl d).noteFailure ?_ ?_ reason
    · rintro ⟨q, -, h⟩; simp only [K.portDownReason, K.portState, key] at h; omega
    · rintro ⟨q, -, h⟩; simp only [K.portTrainFailures, K.portState, key] at h; omega
  have hall := hnote.trans (hfail.mono fun k hk => keptPorts_of_other hk)
  refine ⟨portState_failStep .., ?_, by rintro ⟨⟩, fun q hq => ?_, hall.traffic, hall.tables, hall.time⟩
  · rintro r ⟨⟩
    exact ⟨(hfail.els _ (keptPorts_downReason p.isLt)).trans (downReason_noteFailure ..),
      (hfail.els _ (keptPorts_trainFailures p.isLt)).trans (trainFailures_noteFailure ..)⟩
  · exact ⟨hall.els _ ⟨q, fun e => hq (Fin.ext e), rfl⟩, hall.links q (fun e => hq (Fin.ext e))⟩

/-! The steps that lead on. -/

theorem goesTo_toTrain {d : Dev} {p : Fin 1024} (hw : p.val + Dev.portWidth d p ≤ 1024) :
    GoesTo d p (Dev.trainState d p) none (Dev.toTrain d p) :=
  goesTo_of_steady ((Steady.refl d).toTrain (offBringUp_keptPorts p.isLt hw)) (portState_toTrain d p)

theorem goesTo_toNegotiate {d : Dev} {p : Fin 1024} (hw : p.val + Dev.portWidth d p ≤ 1024)
    (hon : Dev.domain d (6 + p / 64) = 1) (hmcu : Dev.el d (K.tileMcuState (p / 64)) ≠ 1) :
    GoesTo d p (Dev.startState d p) none (Dev.toNegotiate d p) :=
  goesTo_of_steady ((Steady.refl d).toNegotiate (offBringUp_keptPorts p.isLt hw) (fun h => h rfl)) (portState_toNegotiate hon hmcu)

/-- Step 4 with what training has brought to the lanes. -/
def Dev.alignTrained (d : Dev) (p : Nat) (eqs : List LaneEq) : Dev :=
  Dev.toAlign (Dev.adaptLanes d p (eqs.take (Dev.portWidth d p))) p

theorem steady_adaptLanes {d : Dev} {p : Nat} (hw : p + Dev.portWidth d p ≤ 1024) (eqs : List LaneEq) :
    Steady (KeptPorts p) (· ≠ p) d (Dev.adaptLanes d p (eqs.take (Dev.portWidth d p))) := by
  refine (Steady.refl d).adaptLanes fun k hk h => ?_
  have := h.1.1
  simp only [List.length_take, K.laneSnr, key] at hk this
  omega

theorem goesTo_alignTrained {d : Dev} {p : Fin 1024} (hw : p.val + Dev.portWidth d p ≤ 1024) (eqs : List LaneEq) :
    GoesTo d p 4 none (Dev.alignTrained d p eqs) := by
  have h := steady_adaptLanes hw eqs
  have hwidth := portWidth_of_steady h (keptPorts_speed p.isLt)
  exact goesTo_of_steady (h.toAlign (offBringUp_keptPorts p.isLt (by rw [hwidth]; exact hw))) (portState_toAlign ..)

/-- The lanes take the measured SNR in order. -/
theorem snr_adaptLanes {d : Dev} {n k : Nat} {xs : List LaneEq} {x : LaneEq} (h : xs[k]? = some x) :
    Dev.el (Dev.adaptLanes d n xs) (K.laneSnr (n + k)) = x.snr := by
  induction xs generalizing d n k with
  | nil => cases h
  | cons y t ih =>
    cases k with
    | zero =>
      obtain rfl : y = x := by simpa using h
      have hrest := (Steady.refl (P := (· = K.laneSnr n)) (L := fun _ => True) (Dev.adaptRx d n y)).setFir n y.fir
      have hlanes := hrest.adaptLanes (n := n + 1) (xs := t) fun j _ hj => by simp only [K.laneSnr, key] at hj; omega
      exact (hlanes.els _ rfl).trans (el_setEl_same ..)
    | succ k =>
      rw [Nat.add_comm k, ← Nat.add_assoc]
      exact ih (by simpa using h)

theorem snr_alignTrained {d : Dev} {p k : Nat} {eqs : List LaneEq} {x : LaneEq} (hw : p + Dev.portWidth d p ≤ 1024)
    (hk : k < Dev.portWidth d p) (h : eqs[k]? = some x) :
    Dev.el (Dev.alignTrained d p eqs) (K.laneSnr (p + k)) = x.snr := by
  have hoff : OffBringUp (· = K.laneSnr (p + k)) (Dev.adaptLanes d p (eqs.take (Dev.portWidth d p))) p := by
    constructor
    · simp only [K.portState, K.laneSnr, key]; omega
    · intro n _; simp only [K.laneAdaptState, K.laneSnr, key]; omega
    · simp only [K.tilePllNrz, K.laneSnr, key]; omega
    · simp only [K.tileLanePower, K.laneSnr, key]; omega
  refine (((Steady.refl (L := fun _ => True) _).toAlign hoff).els _ rfl).trans (snr_adaptLanes ?_)
  rw [List.getElem?_take_of_lt hk, h]

/-! Remote fault. -/

theorem linkS_sendRemoteFault_same (d : Dev) (p : Nat) (on : Bool) :
    Dev.linkS (Dev.sendRemoteFault d p on) p = { Dev.linkS d p with sendsRf := on } := by
  unfold Dev.sendRemoteFault
  split
  case isTrue h => rw [← h]
  case isFalse => exact linkS_setLink_same ..

theorem linkS_sendRemoteFault_ne (d : Dev) {p q : Nat} (on : Bool) (h : q ≠ p) :
    Dev.linkS (Dev.sendRemoteFault d p on) q = Dev.linkS d q :=
  ((Steady.refl (P := fun _ => True) (L := (· ≠ p)) d).sendRemoteFault (fun h => h rfl) on).links q h

@[simp] theorem sendRemoteFault_dict (d : Dev) (p : Nat) (on : Bool) : (Dev.sendRemoteFault d p on).dict = d.dict := by
  unfold Dev.sendRemoteFault
  split <;> rfl

/-! The highest common ability. -/

theorem bit_eq_testBit (n k : Nat) : bit n k = n.testBit k := by
  rw [Nat.testBit_eq_decide_div_mod_eq, bit, beq_eq_decide]

/-- Whether ability m is one that both ends advertise. -/
def commonAbility (a b m : Nat) : Bool := a.testBit m && b.testBit m

theorem highestCommon_eq (a b : Nat) :
    highestCommon a b = (List.range 15).find? (fun m => decide (1 ≤ m) && commonAbility a b m) := by
  simp only [highestCommon, commonAbility, bit_eq_testBit, Bool.and_assoc]

theorem highestCommon_some {a b m : Nat} (hm : 1 ≤ m) (hm' : m < 15) (hc : commonAbility a b m = true)
    (hleast : ∀ k, 1 ≤ k → k < m → commonAbility a b k = false) : highestCommon a b = some m := by
  rw [highestCommon_eq, List.find?_range_eq_some]
  refine ⟨by simp [hm, hc], List.mem_range.mpr hm', fun j hj => ?_⟩
  by_cases h1 : 1 ≤ j
  · simp [hleast j h1 hj]
  · simp [h1]

theorem highestCommon_none {a b : Nat} (h : ∀ m, 1 ≤ m → m < 15 → commonAbility a b m = false) : highestCommon a b = none := by
  rw [highestCommon_eq, List.find?_range_eq_none]
  intro j hj
  by_cases h1 : 1 ≤ j
  · simp [h j h1 hj]
  · simp [h1]

/-! The commands. -/

/-- On a lit part with the tile on, a command of a port's side of its tile does what its meaning makes of the part. -/
theorem does_liftTile_iff {c : Instr} {s : State} {p : Nat} {f : Dev → Dev} {Q : Dev → Prop} (hc : exec c s = liftTile p f s)
    (hl : s.lit) (hon : Dev.domain s.dev (6 + p / 64) = 1) : Does c s Q ↔ Q (f s.dev) :=
  does_iff_of_next (hc.trans (liftTile_on p f hl hon))

theorem liftTile_same {s : State} {p : Nat} {f : Dev → Dev} (h : f s.dev = s.dev) : liftTile p f s = .next s :=
  lift_same (by rw [h, ite_self])

theorem exec_signalDetect (p : Fin 1024) (s : State) :
    exec (.signalDetect p) s = liftTile p (fun d => Dev.signalDetect d p) s := rfl
theorem exec_portRetryTimer (p : Fin 1024) (s : State) : exec (.portRetryTimer p) s
    = liftTile p (fun d => if Dev.adminUp d p ∧ Dev.el d (K.portState p) = 6 then Dev.toNegotiate d p else d) s := rfl
theorem exec_anComplete (p : Fin 1024) (theirs : Nat) (s : State) :
    exec (.anComplete p theirs) s = liftTile p (fun d => Dev.anComplete d p theirs) s := rfl
theorem exec_anTimeout (p : Fin 1024) (s : State) : exec (.anTimeout p) s
    = liftTile p (fun d => if Dev.el d (K.portState p) = 2 then Dev.failStep d p 11 else d) s := rfl
theorem exec_ltComplete (p : Fin 1024) (eqs : List LaneEq) (s : State) : exec (.ltComplete p eqs) s
    = liftTile p (fun d => if Dev.el d (K.portState p) = 3 ∧ Dev.el d (K.portInterface p) ≠ 2 then Dev.alignTrained d p eqs else d) s :=
  rfl
theorem exec_trainingTimeout (p : Fin 1024) (s : State) : exec (.trainingTimeout p) s
    = liftTile p (fun d => if Dev.el d (K.portState p) = 3 ∧ Dev.el d (K.portInterface p) ≠ 2 then Dev.failStep d p 8 else d) s := rfl
theorem exec_c2mAdaptDone (p : Fin 1024) (eqs : List LaneEq) (s : State) : exec (.c2mAdaptDone p eqs) s
    = liftTile p (fun d => if Dev.el d (K.portState p) = 3 ∧ Dev.el d (K.portInterface p) = 2 then Dev.alignTrained d p eqs else d) s :=
  rfl
theorem exec_alignmentLock (p : Fin 1024) (s : State) : exec (.alignmentLock p) s
    = liftTile p (fun d => if Dev.el d (K.portState p) = 4
        then Dev.sendRemoteFault (Dev.setLink d p { Dev.linkS d p with debounce := true }) p false else d) s := rfl
theorem exec_alignmentTimeout (p : Fin 1024) (s : State) : exec (.alignmentTimeout p) s
    = liftTile p (fun d => if Dev.el d (K.portState p) = 4 ∧ (Dev.linkS d p).debounce = false then Dev.failStep d p 9 else d) s := rfl
theorem exec_portDebounceUp (p : Fin 1024) (s : State) :
    exec (.portDebounceUp p) s = liftTile p (fun d => Dev.debounceUp d p) s := rfl

/-- Negotiation whose highest common ability is the port's own mode goes on to training, and fails otherwise (R52). -/
theorem anComplete_some {d : Dev} {p theirs m : Nat} (hst : Dev.el d (K.portState p) = 2)
    (hm : highestCommon (Dev.abilities d p) theirs = some m) :
    Dev.anComplete d p theirs = if (if m = 14 then 13 else m) = Dev.el d (K.portSpeed p) then Dev.toTrain d p else Dev.failStep d p 4 := by
  simp only [Dev.anComplete, hst, ne_eq, not_true_eq_false, if_false, hm]

theorem anComplete_none {d : Dev} {p theirs : Nat} (hst : Dev.el d (K.portState p) = 2)
    (hm : highestCommon (Dev.abilities d p) theirs = none) : Dev.anComplete d p theirs = Dev.failStep d p 4 := by
  simp only [Dev.anComplete, hst, ne_eq, not_true_eq_false, if_false, hm]

/-- Settles O25: each step of a bring-up leads where `GoesTo` says, and a command in any other state changes nothing. -/
theorem bringUpGoesStepByStep : Obligations.BringUpGoesStepByStep := by
  unfold Obligations.BringUpGoesStepByStep
  refine ⟨?on, ?off⟩
  case on =>
    intro p s hl hw hon d st itf train start goes
    have run {i : Instr} {f : Dev → Dev} {v : Nat} {why : Option Nat} {x : Dev} (hexec : exec i s = liftTile p f s)
        (hx : f d = x) (h : GoesTo d p v why x) : goes i v why := (does_liftTile_iff hexec hl hon).mpr (hx ▸ h)
    have same {i : Instr} {f : Dev → Dev} (hexec : exec i s = liftTile p f s) (h : f d = d) : exec i s = .next s :=
      hexec.trans (liftTile_same h)
    have fails (reason : Nat) : GoesTo d p 6 (some reason) (Dev.failStep d p reason) := goesTo_failStep hw
    refine ⟨?signal, ?negotiation, ?training, ?module, ?snr, ?alignment, ?not1, ?not6, ?not2, ?moduleTimeout, ?not3, ?not4⟩
    case signal =>
      intro hmcu hadmin
      have hnext := goesTo_toNegotiate (p := p) hw hon hmcu
      exact ⟨fun hst => run (exec_signalDetect p s) (if_pos ⟨hadmin, hst⟩) hnext,
        fun hst => run (exec_portRetryTimer p s) (if_pos ⟨hadmin, hst⟩) hnext⟩
    case negotiation =>
      intro hst
      refine ⟨?_, run (exec_anTimeout p s) (if_pos hst) (fails 11)⟩
      intro theirs ours common
      refine ⟨fun m hm hm' hc hleast => ?_, fun hnone => ?_⟩
      · have hnext := anComplete_some hst (highestCommon_some (a := ours) hm hm' hc hleast)
        by_cases hmode : (if m = 14 then 13 else m) = Dev.el d (K.portSpeed p)
        · rw [if_pos hmode]
          exact run (exec_anComplete p theirs s) (hnext.trans (if_pos hmode)) (goesTo_toTrain hw)
        · rw [if_neg hmode]
          exact run (exec_anComplete p theirs s) (hnext.trans (if_neg hmode)) (fails 4)
      · exact run (exec_anComplete p theirs s) (anComplete_none hst (highestCommon_none (a := ours) hnone)) (fails 4)
    case training =>
      intro hst hitf
      exact ⟨fun eqs => run (exec_ltComplete p eqs s) (if_pos ⟨hst, hitf⟩) (goesTo_alignTrained hw eqs),
        run (exec_trainingTimeout p s) (if_pos ⟨hst, hitf⟩) (fails 8)⟩
    case module =>
      exact fun hst hitf eqs => run (exec_c2mAdaptDone p eqs s) (if_pos ⟨hst, hitf⟩) (goesTo_alignTrained hw eqs)
    case snr =>
      intro hst eqs k e hk he
      split
      case isTrue hitf =>
        rw [does_liftTile_iff (exec_c2mAdaptDone p eqs s) hl hon, if_pos ⟨hst, hitf⟩]
        exact snr_alignTrained hw hk he
      case isFalse hitf =>
        rw [does_liftTile_iff (exec_ltComplete p eqs s) hl hon, if_pos ⟨hst, hitf⟩]
        exact snr_alignTrained hw hk he
    case alignment =>
      intro hst
      refine ⟨?_, fun hdeb => run (exec_alignmentTimeout p s) (if_pos ⟨hst, hdeb⟩) (fails 9)⟩
      rw [does_liftTile_iff (exec_alignmentLock p s) hl hon, if_pos hst]
      have hframe := ((Steady.refl (P := fun _ => True) (L := (· ≠ p.val)) d).setLink (p := p)
        (l := { Dev.linkS d p with debounce := true }) (fun h => h rfl) rfl).sendRemoteFault (p := p) (fun h => h rfl) false
      exact ⟨by rw [linkS_sendRemoteFault_same, linkS_setLink_same], fun q hq => hframe.links q (fun e => hq (Fin.ext e)),
        by rw [sendRemoteFault_dict]; rfl, hframe.traffic, hframe.tables⟩
    case not1 => exact fun hst => same (exec_signalDetect p s) (if_neg fun h => hst h.2)
    case not6 => exact fun hst => same (exec_portRetryTimer p s) (if_neg fun h => hst h.2)
    case not2 => exact fun hst => ⟨same (exec_anTimeout p s) (if_neg hst), fun r => same (exec_anComplete p r s) (if_pos hst)⟩
    case moduleTimeout => exact fun _ hitf => same (exec_trainingTimeout p s) (if_neg fun h => h.2 hitf)
    case not3 =>
      exact fun hst => ⟨same (exec_trainingTimeout p s) (if_neg fun h => hst h.1),
        fun eqs => ⟨same (exec_ltComplete p eqs s) (if_neg fun h => hst h.1), same (exec_c2mAdaptDone p eqs s) (if_neg fun h => hst h.1)⟩⟩
    case not4 =>
      exact fun hst => ⟨same (exec_alignmentLock p s) (if_neg hst), same (exec_alignmentTimeout p s) (if_neg fun h => hst h.1),
        same (exec_portDebounceUp p s) (if_neg fun h => hst h.1)⟩
  case off =>
    intro p s hoff i hi
    have off {i : Instr} {f : Dev → Dev} (hexec : exec i s = liftTile p f s) : exec i s = .next s :=
      hexec.trans (liftTile_off p f hoff)
    rcases hi with rfl | rfl | rfl | rfl | rfl | rfl | ⟨r, rfl⟩ | ⟨eqs, rfl | rfl⟩
    · exact off (exec_signalDetect p s)
    · exact off (exec_anTimeout p s)
    · exact off (exec_portRetryTimer p s)
    · exact off (exec_trainingTimeout p s)
    · exact off (exec_alignmentLock p s)
    · exact off (exec_alignmentTimeout p s)
    · exact off (exec_anComplete p r s)
    · exact off (exec_ltComplete p eqs s)
    · exact off (exec_c2mAdaptDone p eqs s)

end Sys2Proof.Machine

/-! Rouri links, tile microcontrollers, adaptation and FEC (R44, R46, R61 to R64, R67, R424, R503), and O27. -/
namespace Sys2Proof.Machine

theorem exec_rouriWireFail (t : Fin 16) (dir : Fin 2) (w : Fin 256) (s : State) :
    exec (.rouriWireFail t dir w) s = lift (fun d => Dev.wireFail d t dir w) s := rfl
theorem exec_rouriRepairDone (t : Fin 16) (dir : Fin 2) (s : State) :
    exec (.rouriRepairDone t dir) s = lift (fun d => Dev.repairDone d t dir) s := rfl
theorem exec_tileMcuReload (t : Fin 16) (s : State) : exec (.tileMcuReload t) s = lift (fun d => Dev.mcuReload d t) s := rfl
theorem exec_tileMcuHeartbeatMiss (t : Fin 16) (memory : Bool) (s : State) : exec (.tileMcuHeartbeatMiss t memory) s
    = lift (fun d => if Dev.el d (K.tileMcuState t) = 0
        then Dev.mcuReload (if memory then Dev.containedF d 2 (0x0180 + t) 0x02 t else d) t else d) s := rfl
theorem exec_tileMcuReloadDone (t : Fin 16) (ok : Bool) (s : State) :
    exec (.tileMcuReloadDone t ok) s = lift (fun d => Dev.mcuReloadDone d t ok) s := rfl

/-! Wires. -/

@[simp] theorem rouri_setRouri_same (d : Dev) (t dir : Nat) (r : RouriS) : Dev.rouri (Dev.setRouri d t dir r) t dir = r := by
  simp [Dev.rouri, Dev.setRouri]

/-- The frame that is on port p's line as the wires of its tile's link fail (R62). -/
def Dev.lostOnLine (d : Dev) (p : Nat) : OutPort :=
  match (Dev.port d p).tx with
  | some f => if (Dev.pkt d f.d.pkt).whole = false then { Dev.port d p with tx := some { f with lost := true } } else Dev.port d p
  | none => Dev.port d p

theorem loseOnLine_cases (d : Dev) (p : Nat) :
    (Dev.loseOnLine d p = d ∧ Dev.lostOnLine d p = Dev.port d p) ∨ Dev.loseOnLine d p = Dev.setPort d p (Dev.lostOnLine d p) := by
  unfold Dev.loseOnLine Dev.lostOnLine
  dsimp only
  cases (Dev.port d p).tx with
  | none => exact .inl ⟨rfl, rfl⟩
  | some f =>
    cases hw : (Dev.pkt d f.d.pkt).whole with
    | true => exact .inl ⟨by simp [hw], by simp [hw]⟩
    | false => exact .inr (by simp [hw])

/-- A loss on a line changes no field but the ports. -/
theorem loseOnLine_eq (d : Dev) (p : Nat) : ∃ ports, Dev.loseOnLine d p = { d with ports := ports } := by
  rcases loseOnLine_cases d p with ⟨h, -⟩ | h
  · exact ⟨d.ports, h⟩
  · exact ⟨_, h⟩

theorem port_loseOnLine (d : Dev) (p q : Nat) :
    Dev.port (Dev.loseOnLine d p) q = if q = p then Dev.lostOnLine d p else Dev.port d q := by
  rcases loseOnLine_cases d p with ⟨h, hlost⟩ | h
  · rw [h, hlost]
    split <;> simp_all
  · rw [h]
    split
    case isTrue hq => rw [hq, port_setPort_same]
    case isFalse hq => exact port_setPort_ne _ _ _ _ hq

/-- Over several lines: every field but the ports stays, and each of those ports stands as its own loss leaves it. -/
theorem foldl_loseOnLine (ps : List Nat) (hps : ps.Nodup) (d : Dev) :
    ∃ ports, ps.foldl Dev.loseOnLine d = { d with ports := ports }
      ∧ ∀ q, SMap.get ports q OutPort.init = if q ∈ ps then Dev.lostOnLine d q else Dev.port d q := by
  induction ps generalizing d with
  | nil => exact ⟨d.ports, rfl, fun q => rfl⟩
  | cons p t ih =>
    obtain ⟨hp, ht⟩ := List.nodup_cons.mp hps
    obtain ⟨ports₁, h₁⟩ := loseOnLine_eq d p
    obtain ⟨ports, hfold, hports⟩ := ih ht (Dev.loseOnLine d p)
    refine ⟨ports, by rw [List.foldl_cons, hfold, h₁], fun q => ?_⟩
    have hq := port_loseOnLine d p q
    rw [hports]
    by_cases hqp : q = p
    · subst hqp
      rw [if_neg hp, hq, if_pos rfl, if_pos List.mem_cons_self]
    · rw [if_neg hqp] at hq
      have hlost : Dev.lostOnLine (Dev.loseOnLine d p) q = Dev.lostOnLine d q := by
        unfold Dev.lostOnLine
        rw [hq, h₁]
        rfl
      simp only [List.mem_cons, hqp, false_or, hlost, hq]

theorem mem_tilePorts {t p : Nat} : p ∈ tilePorts t ↔ p / 64 = t := by
  simp only [tilePorts, List.mem_map, List.mem_range]
  constructor
  · rintro ⟨i, hi, rfl⟩; omega
  · intro h; exact ⟨p % 64, by omega, by omega⟩

theorem tilePorts_nodup (t : Nat) : (tilePorts t).Nodup := List.nodup_range.map (fun _ _ h => by simpa using h)

/-- A wire that fails on a link which keeps enough of them: nothing but the wire's place and the frames on the lines differs. -/
theorem wireFail_of_ok {d : Dev} {t dir w : Nat}
    (hw : w ∉ (Dev.rouri d t dir).repairing) (hw' : w ∉ (Dev.rouri d t dir).lost)
    (hok : Dev.rouriOk (Dev.setRouri d t dir { Dev.rouri d t dir with repairing := (Dev.rouri d t dir).repairing ++ [w] }) t = true) :
    Dev.wireFail d t dir w =
      let e := Dev.setRouri d t dir { Dev.rouri d t dir with repairing := (Dev.rouri d t dir).repairing ++ [w] }
      if dir = 1 ∧ Dev.rouriBroken e t 1 = true then (tilePorts t).foldl Dev.loseOnLine e else e := by
  unfold Dev.wireFail Dev.rouriCheck
  extract_lets r was d₁ e
  have hkeep : Dev.rouriOk (if dir = 1 ∧ Dev.rouriBroken d₁ t 1 = true then (tilePorts t).foldl Dev.loseOnLine d₁ else d₁) t = true := by
    obtain ⟨ports, hfold, -⟩ := foldl_loseOnLine (tilePorts t) (tilePorts_nodup t) d₁
    split
    · rw [hfold]; exact hok
    · exact hok
  rw [if_neg (by simp [r, hw, hw']), if_pos (by rw [hkeep]; rfl)]

theorem wireFail_known {d : Dev} {t dir w : Nat} (h : w ∈ (Dev.rouri d t dir).repairing ∨ w ∈ (Dev.rouri d t dir).lost) :
    Dev.wireFail d t dir w = d := if_pos (by simpa using h)

/-- The ports' clause of the statement: which frames are lost on the line. -/
theorem port_wireFail {d e : Dev} {t dir p : Nat} (he : ∀ q, Dev.port e q = Dev.port d q) (hk : ∀ i, Dev.pkt e i = Dev.pkt d i) :
    Dev.port (if dir = 1 ∧ Dev.rouriBroken e t 1 = true then (tilePorts t).foldl Dev.loseOnLine e else e) p
      = match (Dev.port d p).tx with
        | some f =>
          if dir = 1 ∧ p / 64 = t ∧ Dev.rouriBroken e t 1 = true ∧ (Dev.pkt d f.d.pkt).whole = false then
            { Dev.port d p with tx := some { f with lost := true } }
          else Dev.port d p
        | none => Dev.port d p := by
  obtain ⟨ports, hfold, hports⟩ := foldl_loseOnLine (tilePorts t) (tilePorts_nodup t) e
  have hport : Dev.port ((tilePorts t).foldl Dev.loseOnLine e) p = SMap.get ports p OutPort.init := by rw [hfold]; rfl
  have hlost : Dev.lostOnLine e p = Dev.lostOnLine d p := by simp only [Dev.lostOnLine, he, hk]
  rw [apply_ite (fun x => Dev.port x p), hport, hports, he, hlost]
  simp only [mem_tilePorts, Dev.lostOnLine]
  cases (Dev.port d p).tx with
  | none => simp
  | some f => split_ifs <;> simp_all

/-! Repairs. -/

/-- The elements of the tiles' objects. -/
def TileKey (k : Nat) : Prop := 0x18000 ≤ k ∧ k < 0x19000

theorem asideEl_lt {k : Nat} (h : asideEl k = true) : 0x50000 ≤ k ∧ k < 0xD0200 := by
  have hobj : keyObj k = k / 256 := rfl
  simp only [asideEl, Bool.or_eq_true, Bool.and_eq_true, decide_eq_true_eq, beq_iff_eq] at h
  omega

theorem noteEl_lt {k : Nat} (h : noteEl k = true) : 0x50000 ≤ k ∧ k < 0xD0200 :=
  asideEl_lt (Bool.and_eq_true_iff.mp h).1

theorem unnoted_tileKey : Unnoted TileKey := fun k hk h => by
  have := noteEl_lt hk
  have := h.2
  omega

theorem sendRemoteFault_eq (d : Dev) (p : Nat) (on : Bool) :
    ∃ links out, Dev.sendRemoteFault d p on = { d with out := out, lanes := { d.lanes with links := links } } := by
  unfold Dev.sendRemoteFault
  split
  · exact ⟨d.lanes.links, d.out, rfl⟩
  · exact ⟨_, _, rfl⟩

/-- Conditions that clear change links, and what is sent. -/
theorem linkClear_eq (d : Dev) (p r : Nat) :
    ∃ links out, Dev.linkClear d p r = { d with out := out, lanes := { d.lanes with links := links } } := by
  unfold Dev.linkClear
  extract_lets l conds d₁
  split
  · obtain ⟨links, out, h⟩ := sendRemoteFault_eq d₁ p false
    exact ⟨links, out, h⟩
  · exact ⟨_, d.out, rfl⟩

theorem foldl_linkClear_eq (ps : List Nat) (d : Dev) :
    ∃ links out, ps.foldl (fun d p => if (Dev.linkS d p).conds.contains 7 then Dev.linkClear d p 7 else d) d
      = { d with out := out, lanes := { d.lanes with links := links } } := by
  induction ps generalizing d with
  | nil => exact ⟨d.lanes.links, d.out, rfl⟩
  | cons p ps ih =>
    rw [List.foldl_cons]
    split
    · obtain ⟨links₁, out₁, h₁⟩ := linkClear_eq d p 7
      obtain ⟨links, out, h⟩ := ih (Dev.linkClear d p 7)
      exact ⟨links, out, by rw [h, h₁]⟩
    · exact ih d

theorem rouriClear_eq (d : Dev) (t : Nat) :
    ∃ links out, Dev.rouriClear d t = { d with out := out, lanes := { d.lanes with links := links } } := by
  unfold Dev.rouriClear
  split
  · exact foldl_linkClear_eq _ d
  · exact ⟨d.lanes.links, d.out, rfl⟩

@[simp] theorem el_rouriClear (d : Dev) (t k : Nat) : Dev.el (Dev.rouriClear d t) k = Dev.el d k := by
  obtain ⟨links, out, h⟩ := rouriClear_eq d t
  rw [h]
  rfl

@[simp] theorem rouri_rouriClear (d : Dev) (t u dir : Nat) : Dev.rouri (Dev.rouriClear d t) u dir = Dev.rouri d u dir := by
  obtain ⟨links, out, h⟩ := rouriClear_eq d t
  rw [h]
  rfl

theorem sameTraffic_rouriClear (d : Dev) (t : Nat) : SameTraffic d (Dev.rouriClear d t) := by
  obtain ⟨links, out, h⟩ := rouriClear_eq d t
  rw [h]
  exact ⟨rfl, rfl, rfl, rfl, rfl, rfl, rfl⟩

theorem sameTables_rouriClear (d : Dev) (t : Nat) : SameTables d (Dev.rouriClear d t) := by
  obtain ⟨links, out, h⟩ := rouriClear_eq d t
  rw [h]
  exact ⟨rfl, rfl⟩

theorem kSpares_cases (t dir : Nat) : kSpares t dir = key (0x0180 + t) 4 ∨ kSpares t dir = key (0x0180 + t) 5 := by
  unfold kSpares
  split
  · exact .inl rfl
  · exact .inr rfl
theorem kLost_cases (t dir : Nat) : kLost t dir = key (0x0180 + t) 6 ∨ kLost t dir = key (0x0180 + t) 7 := by
  unfold kLost
  split
  · exact .inl rfl
  · exact .inr rfl
theorem kCapacity_cases (t dir : Nat) : kCapacity t dir = key (0x0180 + t) 8 ∨ kCapacity t dir = key (0x0180 + t) 9 := by
  unfold kCapacity
  split
  · exact .inl rfl
  · exact .inr rfl

theorem tileKey_of_el {t e : Nat} (ht : t < 16) (he : e < 256) : TileKey (key (0x0180 + t) e) := by
  simp only [TileKey, key]; omega

/-- The part as a repair finds it counted. -/
def Dev.repairCounted (d : Dev) (t : Nat) : Dev :=
  Dev.corrected (Dev.perf (Dev.addEl d 32 (K.tileRouriRepairs t) 1) (0x30 + t) 5 1) (0x0180 + t) 0x0A 1

/-- A repair puts wire w on a spare; `r` is its direction without it. -/
def Dev.spareWire (d : Dev) (t dir w : Nat) (r : RouriS) : Dev :=
  Dev.setEl (Dev.setRouri d t dir { r with onSpare := r.onSpare ++ [w] }) (kSpares t dir) (Dev.el d (kSpares t dir) + 1)

/-- A repair loses wire w: the link is striped again without it. -/
def Dev.loseWire (d : Dev) (t dir w : Nat) (r : RouriS) : Dev :=
  let d := Dev.setRouri d t dir { r with lost := r.lost ++ [w] }
  Dev.addEl (Dev.setEl d (kCapacity t dir) (Dev.el d (kCapacity t dir) - 50)) 16 (kLost t dir) 1

/-- A counted repair takes wire w out of repair, onto a spare or off the link. -/
def Dev.endRepair (d : Dev) (t dir w : Nat) (r : RouriS) : Dev :=
  if Dev.el d (kSpares t dir) < 8 then
    let e := Dev.event (Dev.spareWire d t dir w r) 2 2
    Dev.rouriClear (if Dev.el d (kSpares t dir) = 7 then Dev.event e 2 2 else e) t
  else
    let e := Dev.loseWire d t dir w r
    Dev.day (Dev.eventD e 2 2 (Dev.el e (kCapacity t dir))) 10

theorem repairDone_eq {d : Dev} {t dir w : Nat} {rest : List Nat} (hr : (Dev.rouri d t dir).repairing = w :: rest) :
    Dev.repairDone d t dir = Dev.endRepair (Dev.repairCounted d t) t dir w { Dev.rouri d t dir with repairing := rest } := by
  unfold Dev.repairDone
  extract_lets r
  rw [show r.repairing = w :: rest from hr]
  rfl

/-- The count of a repair changes nothing else of the tiles' objects. -/
theorem steady_repairCounted (d : Dev) (t : Fin 16) :
    Steady TileKey (fun _ => True) (Dev.addEl d 32 (K.tileRouriRepairs t) 1) (Dev.repairCounted d t) :=
  .corrected unnoted_tileKey _ _ _ (.perf unnoted_tileKey (by omega) _ _ (.refl _))

theorem tileKey_kSpares (t : Fin 16) (dir : Nat) : TileKey (kSpares t dir) := by
  rcases kSpares_cases t dir with h | h <;> rw [h] <;> exact tileKey_of_el t.isLt (by decide)

theorem tileKey_kCapacity (t : Fin 16) (dir : Nat) : TileKey (kCapacity t dir) := by
  rcases kCapacity_cases t dir with h | h <;> rw [h] <;> exact tileKey_of_el t.isLt (by decide)

theorem repairs_ne_kSpares (t dir : Nat) : K.tileRouriRepairs t ≠ kSpares t dir := by
  rcases kSpares_cases t dir with h | h <;> rw [h] <;> simp only [K.tileRouriRepairs, key] <;> omega

theorem repairs_ne_kLost (t dir : Nat) : K.tileRouriRepairs t ≠ kLost t dir := by
  rcases kLost_cases t dir with h | h <;> rw [h] <;> simp only [K.tileRouriRepairs, key] <;> omega

theorem repairs_ne_kCapacity (t dir : Nat) : K.tileRouriRepairs t ≠ kCapacity t dir := by
  rcases kCapacity_cases t dir with h | h <;> rw [h] <;> simp only [K.tileRouriRepairs, key] <;> omega

theorem kCapacity_ne_kLost (t dir : Nat) : kCapacity t dir ≠ kLost t dir := by
  rcases kCapacity_cases t dir with h | h <;> rcases kLost_cases t dir with h' | h' <;> rw [h, h'] <;> simp only [key] <;> omega

/-- Every other element of the tile's object stays as a repair is counted. -/
theorem el_repairCounted_ne {d : Dev} {t : Fin 16} {k : Nat} (hk : TileKey k) (hne : k ≠ K.tileRouriRepairs t) :
    Dev.el (Dev.repairCounted d t) k = Dev.el d k :=
  ((steady_repairCounted d t).els _ hk).trans (el_setEl_ne _ _ _ _ hne)

theorem repairs_repairCounted (d : Dev) (t : Fin 16) :
    Dev.el (Dev.repairCounted d t) (K.tileRouriRepairs t) = (Dev.el d (K.tileRouriRepairs t) + 1) % 2 ^ 32 :=
  ((steady_repairCounted d t).els _ (tileKey_of_el t.isLt (by decide))).trans (el_setEl_same ..)

/-- What the end of a repair keeps: nothing on the packets' way differs, nor the count of repairs. -/
def RepairKeeps (t : Nat) (d x : Dev) : Prop :=
  Dev.el x (K.tileRouriRepairs t) = Dev.el d (K.tileRouriRepairs t) ∧ SameTraffic d x ∧ SameTables d x

theorem RepairKeeps.trans_steady {d e x : Dev} {t : Fin 16} (h : RepairKeeps t d e) (hx : Steady TileKey (fun _ => True) e x) :
    RepairKeeps t d x := by
  obtain ⟨hcount, htraffic, htables⟩ := h
  exact ⟨(hx.els _ (tileKey_of_el t.isLt (by decide))).trans hcount, htraffic.trans hx.traffic, htables.trans hx.tables⟩

theorem repairKeeps_setRouri (d : Dev) (t u dir : Nat) (r : RouriS) : RepairKeeps t d (Dev.setRouri d u dir r) :=
  ⟨rfl, ⟨rfl, rfl, rfl, rfl, rfl, rfl, rfl⟩, rfl, rfl⟩

theorem RepairKeeps.setEl {t k : Nat} {d e : Dev} (hk : K.tileRouriRepairs t ≠ k) (v : Nat) (h : RepairKeeps t d e) :
    RepairKeeps t d (Dev.setEl e k v) := by
  obtain ⟨hcount, htraffic, htables⟩ := h
  exact ⟨(el_setEl_ne _ _ _ _ hk).trans hcount, htraffic, htables⟩

theorem repairKeeps_spareWire (d : Dev) (t dir w : Nat) (r : RouriS) : RepairKeeps t d (Dev.spareWire d t dir w r) :=
  (repairKeeps_setRouri d t t dir _).setEl (repairs_ne_kSpares t dir) _

theorem repairKeeps_loseWire (d : Dev) (t dir w : Nat) (r : RouriS) : RepairKeeps t d (Dev.loseWire d t dir w r) :=
  ((repairKeeps_setRouri d t t dir _).setEl (repairs_ne_kCapacity t dir) _).setEl (repairs_ne_kLost t dir) _

theorem RepairKeeps.rouriClear {t : Nat} {d x : Dev} (h : RepairKeeps t d x) : RepairKeeps t d (Dev.rouriClear x t) := by
  obtain ⟨hcount, htraffic, htables⟩ := h
  exact ⟨(el_rouriClear ..).trans hcount, htraffic.trans (sameTraffic_rouriClear x t), htables.trans (sameTables_rouriClear x t)⟩

/-- With a spare free the wire stands on it. -/
theorem endRepair_spare {d : Dev} {t : Fin 16} {dir w : Nat} {r : RouriS} (hs : Dev.el d (kSpares t dir) < 8) :
    Dev.rouri (Dev.endRepair d t dir w r) t dir = { r with onSpare := r.onSpare ++ [w] }
      ∧ Dev.el (Dev.endRepair d t dir w r) (kSpares t dir) = Dev.el d (kSpares t dir) + 1
      ∧ RepairKeeps t d (Dev.endRepair d t dir w r) := by
  unfold Dev.endRepair
  rw [if_pos hs]
  extract_lets e
  have he : Steady TileKey (fun _ => True) (Dev.spareWire d t dir w r) e := (Steady.refl _).event unnoted_tileKey 2 2
  have hevents : Steady TileKey (fun _ => True) (Dev.spareWire d t dir w r)
      (if Dev.el d (kSpares t dir) = 7 then Dev.event e 2 2 else e) := Steady.ite (he.event unnoted_tileKey 2 2) he
  exact ⟨(rouri_rouriClear ..).trans ((hevents.rouri t dir).trans (rouri_setRouri_same ..)),
    (el_rouriClear ..).trans ((hevents.els _ (tileKey_kSpares t dir)).trans (el_setEl_same ..)),
    ((repairKeeps_spareWire d t dir w r).trans_steady hevents).rouriClear⟩

/-- With every spare in use the wire is lost, and 50 Gb/s with it. -/
theorem endRepair_lost {d : Dev} {t : Fin 16} {dir w : Nat} {r : RouriS} (hs : 8 ≤ Dev.el d (kSpares t dir)) :
    Dev.rouri (Dev.endRepair d t dir w r) t dir = { r with lost := r.lost ++ [w] }
      ∧ Dev.el (Dev.endRepair d t dir w r) (kCapacity t dir) = Dev.el d (kCapacity t dir) - 50
      ∧ RepairKeeps t d (Dev.endRepair d t dir w r) := by
  unfold Dev.endRepair
  rw [if_neg (Nat.not_lt.mpr hs)]
  extract_lets e
  have hevents : Steady TileKey (fun _ => True) (Dev.loseWire d t dir w r) (Dev.day (Dev.eventD e 2 2 (Dev.el e (kCapacity t dir))) 10) :=
    ((Steady.refl _).eventD unnoted_tileKey 2 2 _).day 10
  exact ⟨(hevents.rouri t dir).trans (rouri_setRouri_same ..),
    (hevents.els _ (tileKey_kCapacity t dir)).trans ((el_setEl_ne _ _ _ _ (kCapacity_ne_kLost t dir)).trans (el_setEl_same ..)),
    (repairKeeps_loseWire d t dir w r).trans_steady hevents⟩

/-- What the end of a counted repair keeps, seen from the part before the command. -/
theorem RepairKeeps.counted {d x : Dev} {t : Fin 16} (h : RepairKeeps t (Dev.repairCounted d t) x) :
    Dev.el x (K.tileRouriRepairs t) = (Dev.el d (K.tileRouriRepairs t) + 1) % 2 ^ 32 ∧ SameTraffic d x ∧ SameTables d x := by
  obtain ⟨hcount, htraffic, htables⟩ := h
  have hbefore := steady_repairCounted d t
  exact ⟨hcount.trans (repairs_repairCounted d t), hbefore.traffic.trans htraffic, hbefore.tables.trans htables⟩

end Sys2Proof.Machine

/-! Tile microcontrollers. -/
namespace Sys2Proof.Machine

/-- A reload writes the microcontroller's state alone. -/
theorem steady_mcuReload {P : Nat → Prop} {d : Dev} {t : Nat} (hP : ¬ P (K.tileMcuState t)) :
    Steady P (fun _ => True) d (Dev.mcuReload d t) := ((Steady.refl d).backgrounds _).setEl hP 1

theorem mcuState_mcuReload (d : Dev) (t : Nat) : Dev.el (Dev.mcuReload d t) (K.tileMcuState t) = 1 := el_setEl_same ..

/-- The statement's `loads`: the microcontroller is in state 1, and nothing else differs. -/
theorem mcuReload_loads (d : Dev) (t : Nat) :
    Dev.el (Dev.mcuReload d t) (K.tileMcuState t) = 1
      ∧ (∀ k, k ≠ K.tileMcuState t → Dev.el (Dev.mcuReload d t) k = Dev.el d k)
      ∧ SameTraffic d (Dev.mcuReload d t) ∧ SameTables d (Dev.mcuReload d t) := by
  have h : Steady (· ≠ K.tileMcuState t) _ d _ := steady_mcuReload fun h => h rfl
  exact ⟨mcuState_mcuReload d t, h.els, h.traffic, h.tables⟩

/-- A microcontroller that a word of its memory has stopped is a contained error too (R503). -/
theorem mcuReload_contained (d : Dev) {t : Nat} (ht : t < 16) (o el u : Nat) :
    Dev.el (Dev.mcuReload (Dev.containedF d 2 o el u) t) (K.tileMcuState t) = 1
      ∧ Dev.el (Dev.mcuReload (Dev.containedF d 2 o el u) t) K.errContained = (Dev.el d K.errContained + 1) % 2 ^ 64
      ∧ SameTraffic d (Dev.mcuReload (Dev.containedF d 2 o el u) t) ∧ SameTables d (Dev.mcuReload (Dev.containedF d 2 o el u) t) := by
  have hcount : Unnoted (· = K.errContained) := by
    rintro k hk rfl
    simp [noteEl] at hk
  have herror : Steady (· = K.errContained) (fun _ => True) _ (Dev.containedF d 2 o el u) := .contained_set hcount 2 _ o el u
  have hne : K.tileMcuState t ≠ K.errContained := by unfold K.tileMcuState K.errContained key; omega
  have hreload : Steady (· = K.errContained) (fun _ => True) _ (Dev.mcuReload (Dev.containedF d 2 o el u) t) :=
    steady_mcuReload (P := (· = K.errContained)) hne
  exact ⟨mcuState_mcuReload .., (hreload.els _ rfl).trans ((herror.els _ rfl).trans (el_setEl_same ..)),
    herror.traffic.trans hreload.traffic, herror.tables.trans hreload.tables⟩

/-- What is kept of tile t's microcontroller and of the packets' way. -/
def McuKeeps (t : Nat) (d x : Dev) : Prop :=
  Dev.el x (K.tileMcuState t) = Dev.el d (K.tileMcuState t) ∧ SameTraffic d x ∧ SameTables d x

theorem McuKeeps.of_steady {t : Nat} {L : Nat → Prop} {d x : Dev} (h : Steady (· = K.tileMcuState t) L d x) : McuKeeps t d x :=
  ⟨h.els _ rfl, h.traffic, h.tables⟩

theorem mcuKeeps_setEl {t k : Nat} (d : Dev) (v : Nat) (hk : k ≠ K.tileMcuState t) : McuKeeps t d (Dev.setEl d k v) :=
  .of_steady (Steady.setEl (P := (· = K.tileMcuState t)) (L := fun _ => True) hk v (.refl d))

/-- The reload that begins is another unit's. -/
theorem mcuKeeps_reloadStart {t : Nat} {u : Reload} (hu : u ≠ .tile t) (d : Dev) : McuKeeps t d (Dev.reloadStart d u) := by
  cases u with
  | gmcu => exact mcuKeeps_setEl d 1 (by simp only [K.fwGmcuState, K.tileMcuState, key]; omega)
  | pctl => exact mcuKeeps_setEl d 1 (by simp only [K.fwPctlState, K.tileMcuState, key]; omega)
  | tile m =>
    have hm : m ≠ t := fun h => hu (h ▸ rfl)
    exact .of_steady (steady_mcuReload (P := (· = K.tileMcuState t)) (by simp only [K.tileMcuState, key]; omega))

theorem mcuKeeps_reloadNext {t : Nat} {us : List Reload} (hus : Reload.tile t ∉ us) (d : Dev) :
    McuKeeps t d (Dev.reloadNext us d) := by
  induction us with
  | nil => exact ⟨rfl, ⟨rfl, rfl, rfl, rfl, rfl, rfl, rfl⟩, rfl, rfl⟩
  | cons u us ih =>
    obtain ⟨hu, hus⟩ := not_or.mp (List.mem_cons.not.mp hus)
    unfold Dev.reloadNext
    extract_lets off
    split
    · exact ih hus
    · exact mcuKeeps_reloadStart (fun h => hu h.symm) { d with fw := { d.fw with reloads := u :: us } }

theorem mcuKeeps_reloadEnd {t : Nat} {d : Dev} (u : Reload) (h : Reload.tile t ∉ d.fw.reloads.tail) :
    McuKeeps t d (Dev.reloadEnd d u) := by
  have hself : McuKeeps t d d := ⟨rfl, ⟨rfl, rfl, rfl, rfl, rfl, rfl, rfl⟩, rfl, rfl⟩
  unfold Dev.reloadEnd
  split
  case h_1 v rest hrel =>
    split
    · exact mcuKeeps_reloadNext (by rw [hrel] at h; exact h) d
    · exact hself
  case h_2 => exact hself

/-- A port's bring-up writes no state of a microcontroller. -/
theorem offBringUp_mcuState (d : Dev) (t p : Nat) : OffBringUp (· = K.tileMcuState t) d p where
  state := by simp only [K.portState, K.tileMcuState, key]; omega
  adapt n _ := by simp only [K.laneAdaptState, K.tileMcuState, key]; omega
  nrz := by simp only [K.tilePllNrz, K.tileMcuState, key]; omega
  power := by simp only [K.tileLanePower, K.tileMcuState, key]; omega

/-- A reload that has completed: the ports of the tile that waited for it go on (R44, R46). -/
def Dev.wakePorts (d : Dev) (t : Nat) : Dev :=
  (tilePorts t).foldl (fun d p =>
    let d := if (Dev.linkS d p).unseeded && Dev.adminUp d p then Dev.seedPort d p else d
    if (Dev.linkS d p).waitMcu && Dev.adminUp d p then
      Dev.toNegotiate (Dev.setLink d p { Dev.linkS d p with waitMcu := false }) p
    else d) d

theorem steady_wakePorts (d : Dev) (t u : Nat) : Steady (· = K.tileMcuState u) (fun _ => False) d (Dev.wakePorts d t) := by
  refine (Steady.refl d).foldl _ fun e p _ he => ?_
  extract_lets e₁
  have h₁ : Steady (· = K.tileMcuState u) (fun _ => False) d e₁ := Steady.ite (he.seedPort id) he
  have hwoken := h₁.setLink (p := p) (l := { Dev.linkS e₁ p with waitMcu := false }) id rfl
  exact Steady.ite (hwoken.toNegotiate (offBringUp_mcuState _ u p) id) h₁

/-- The number of failed reloads in a row. -/
def Dev.setMcuFails (d : Dev) (t n : Nat) : Dev := { d with lanes := { d.lanes with mcuFails := SMap.set d.lanes.mcuFails t n 0 } }

theorem mcuReloadDone_ok {d : Dev} {t : Nat} (hs : Dev.el d (K.tileMcuState t) = 1) :
    Dev.mcuReloadDone d t true
      = Dev.reloadEnd (Dev.wakePorts (Dev.setEl (Dev.setMcuFails d t 0) (K.tileMcuState t) 0) t) (.tile t) := by
  unfold Dev.mcuReloadDone
  extract_lets set
  exact (if_neg (not_not.mpr hs)).trans (if_pos rfl)

theorem mcuReloadDone_thirdFailure {d : Dev} {t : Nat} (hs : Dev.el d (K.tileMcuState t) = 1) (hn : SMap.get d.lanes.mcuFails t 0 = 2) :
    Dev.mcuReloadDone d t false
      = Dev.reloadEnd (Dev.containedF (Dev.setEl (Dev.setMcuFails d t 0) (K.tileMcuState t) 2) 2 (0x0180 + t) 0x02 t) (.tile t) := by
  unfold Dev.mcuReloadDone
  extract_lets set d₁ n
  have hthree : 3 ≤ n := by simp only [n, hn]; omega
  rw [if_neg (not_not.mpr hs), if_neg Bool.false_ne_true, if_pos hthree]
  rfl

/-- The microcontroller's state as the end of its reload sets it, once no other reload of it waits. -/
theorem McuKeeps.reloadEnd_of {t v n : Nat} {L : Nat → Prop} {d x : Dev}
    (h : Steady (· = K.tileMcuState t) L (Dev.setEl (Dev.setMcuFails d t n) (K.tileMcuState t) v) x)
    (hw : Reload.tile t ∉ d.fw.reloads.tail) (u : Reload) :
    Dev.el (Dev.reloadEnd x u) (K.tileMcuState t) = v ∧ SameTraffic d (Dev.reloadEnd x u) ∧ SameTables d (Dev.reloadEnd x u) := by
  have hfw : x.fw = d.fw := h.fw
  obtain ⟨hstate, htraffic, htables⟩ := mcuKeeps_reloadEnd (t := t) (d := x) u (by rw [hfw]; exact hw)
  exact ⟨hstate.trans ((h.els _ rfl).trans (el_setEl_same ..)), h.traffic.trans htraffic, h.tables.trans htables⟩

end Sys2Proof.Machine

/-! Adaptation and FEC, and O27. -/
namespace Sys2Proof.Machine

/-- A lane's adaptation that completes (R44). -/
def Dev.endAdapt (d : Dev) (n : Nat) (e : LaneEq) : Dev :=
  let d := Dev.adaptRx d n e
  Dev.setAdapt { d with lanes := { d.lanes with adapting := SMap.del d.lanes.adapting n } } [n] 2

theorem exec_laneAdaptDone (n : Fin 1024) (e : LaneEq) (s : State) : exec (.laneAdaptDone n e) s
    = lift (fun d => if SMap.get d.lanes.adapting n false then Dev.endAdapt d n e else d) s := rfl

theorem endAdapt_spec (d : Dev) (n : Nat) (e : LaneEq) :
    let x := Dev.endAdapt d n e
    Dev.el x (K.laneAdaptState n) = 2 ∧ Dev.el x (K.laneSnr n) = e.snr ∧ SMap.get x.lanes.adapting n false = false
      ∧ SameTraffic d x ∧ SameTables d x := by
  intro x
  have hx : Steady (fun _ => False) (fun _ => True) d x :=
    (((Steady.refl d).adaptRx id e).adapting _).setAdapt (fun _ _ => id) 2
  have hne : K.laneSnr n ≠ K.laneAdaptState n := by simp only [K.laneSnr, K.laneAdaptState, key]; omega
  refine ⟨el_setEl_same .., (el_setEl_ne _ _ _ _ hne).trans (el_setEl_same ..), SMap.get_del_same .., hx.traffic, hx.tables⟩

/-! FEC. -/

/-- Counting in k leaves every element that neither is k nor may be moved by a notice. -/
theorem el_count_ne {d : Dev} {k j n : Nat} (hj : noteEl j = false) (hne : j ≠ k) : Dev.el (Dev.count d k n) j = Dev.el d j := by
  have hP : Unnoted (· = j) := by
    rintro i hi rfl
    simp [hj] at hi
  exact (Steady.count (P := (· = j)) (L := fun _ => True) hP hne.symm n (.refl d)).els j rfl

/-- Symbol errors of lanes, from lane p + i on. -/
def Dev.countSymbols (d : Dev) (p i : Nat) (symbols : List Nat) : Dev :=
  (symbols.zipIdx i).foldl (fun d x => Dev.count d (K.laneSymbolErrors (p + x.2)) x.1) d

theorem not_asideEl_laneSymbolErrors (n : Nat) : asideEl (K.laneSymbolErrors n) = false := by
  rw [← Bool.not_eq_true]
  intro h
  have := asideEl_lt h
  simp only [K.laneSymbolErrors, key] at this
  omega

theorem noteEl_of_not_asideEl {k : Nat} (h : asideEl k = false) : noteEl k = false := by simp [noteEl, h]

theorem el_countSymbols_of_lt {d : Dev} {p i j : Nat} (symbols : List Nat) (hj : j < p + i) :
    Dev.el (Dev.countSymbols d p i symbols) (K.laneSymbolErrors j) = Dev.el d (K.laneSymbolErrors j) := by
  induction symbols generalizing d i with
  | nil => rfl
  | cons n t ih =>
    exact (ih (by omega)).trans (el_count_ne (noteEl_of_not_asideEl (not_asideEl_laneSymbolErrors j))
      (by simp only [K.laneSymbolErrors, key]; omega))

theorem el_countSymbols {d : Dev} {p i k n : Nat} {symbols : List Nat} (h : symbols[k]? = some n) :
    Dev.el (Dev.countSymbols d p i symbols) (K.laneSymbolErrors (p + (i + k)))
      = (Dev.el d (K.laneSymbolErrors (p + (i + k))) + n) % 2 ^ 64 := by
  induction symbols generalizing d i k with
  | nil => cases h
  | cons m t ih =>
    cases k with
    | zero =>
      obtain rfl : m = n := by simpa using h
      exact (el_countSymbols_of_lt t (by omega)).trans (el_count_same (not_asideEl_laneSymbolErrors _))
    | succ k =>
      have hrest : t[k]? = some n := by simpa using h
      have hne : K.laneSymbolErrors (p + (i + (k + 1))) ≠ K.laneSymbolErrors (p + i) := by simp only [K.laneSymbolErrors, key]; omega
      have hhead : Dev.el (Dev.count d (K.laneSymbolErrors (p + i)) m) (K.laneSymbolErrors (p + (i + (k + 1)))) = _ :=
        el_count_ne (noteEl_of_not_asideEl (not_asideEl_laneSymbolErrors _)) hne
      rw [← hhead, show i + (k + 1) = i + 1 + k by omega]
      exact ih hrest

theorem Steady.countSymbols {P L : Nat → Prop} (hP : Unnoted P) {d e : Dev} {p i : Nat} {symbols : List Nat}
    (hk : ∀ k, k < symbols.length → ¬ P (K.laneSymbolErrors (p + (i + k)))) (h : Steady P L d e) :
    Steady P L d (Dev.countSymbols e p i symbols) := by
  induction symbols generalizing e i with
  | nil => exact h
  | cons n t ih =>
    refine ih (i := i + 1) (fun k hlt => ?_) (h.count hP (hk 0 (by simp)) n)
    rw [show i + 1 + k = i + (k + 1) by omega]
    exact hk (k + 1) (by simpa using hlt)

/-- An event is pending at both hosts (R336). -/
theorem cause_raiseOn {d : Dev} {p b : Nat} (hb : b < 64) : (Dev.hp (Dev.raiseOn d p b) p).evtCause.getLsbD b = true := by
  unfold Dev.raiseOn
  extract_lets h d₁
  split
  case isTrue hset => exact hset
  case isFalse =>
    have hset : (Dev.hp d₁ p).evtCause.getLsbD b = true := by
      rw [hp_setHp, if_pos Iff.rfl, BitVec.getLsbD_or, BitVec.getLsbD_ofNat, Nat.testBit_two_pow_self]
      simp [hb]
    have hnone : Unnoted fun _ => False := fun _ _ => id
    have hx : Steady (fun _ => False) (fun _ => True) d₁ (if h.evtMask.getLsbD b then d₁ else Dev.sendVector d₁ p (causeVector b)) :=
      Steady.ite (.refl _) (.sendVector hnone _ _ (.refl _))
    exact hx.cause p b hset

theorem cause_event {d : Dev} {c ch : Nat} (hc : c < 64) {p : Nat} (hp : p < 2) :
    (Dev.hp (Dev.event d c ch) p).evtCause.getLsbD c = true := by
  have hnone : Unnoted fun _ => False := fun _ _ => id
  have hrest : Steady (fun _ => False) (fun _ => True) (Dev.raise d c) (Dev.event d c ch) :=
    (Steady.notice hnone _ _ _ _ (.refl _)).useFree
  have hlast : Steady (fun _ => False) (fun _ => True) (Dev.raiseOn d 0 c) (Dev.raise d c) := .raiseOn hnone 1 c (.refl _)
  refine hrest.cause p c ?_
  obtain rfl | rfl : p = 0 ∨ p = 1 := by omega
  · exact hlast.cause 0 c (cause_raiseOn hc)
  · exact cause_raiseOn hc

/-- The second's FEC counts of a port (R67): its codewords. -/
def Dev.countCodewords (d : Dev) (p c u : Nat) : Dev := Dev.count (Dev.count d (K.portFecCorrected p) c) (K.portFecUncorrected p) u

/-- Its codewords and the symbol errors of its lanes. -/
def Dev.countFec (d : Dev) (p c u : Nat) (symbols : List Nat) : Dev :=
  let e := Dev.countCodewords d p c u
  Dev.countSymbols e p 0 (symbols.take (Dev.portWidth e p))

theorem exec_fecDegradeCheck (p : Fin 1024) (c u : Nat) (symbols : List Nat) (s : State) : exec (.fecDegradeCheck p c u symbols) s
    = liftTile p (fun d => if Dev.adminUp d p then
        let x := Dev.countFec d p c u symbols
        if Dev.el x (K.portFecDegradeLimit p) ≠ 0 ∧ Dev.el x (K.portFecDegradeLimit p) < c then Dev.event x 0 2 else x
        else d) s := rfl

theorem unnoted_portKey : Unnoted PortKey := fun k hk h => by
  have := (noteEl_lt hk).2
  have := h.1
  omega

theorem not_asideEl_portKey {k : Nat} (h : PortKey k) : asideEl k = false := by
  rw [← Bool.not_eq_true]
  intro hk
  have := (asideEl_lt hk).2
  have := h.1
  omega

theorem portFecCorrected_ne (p : Nat) : K.portFecCorrected p ≠ K.portFecUncorrected p := by
  simp only [K.portFecCorrected, K.portFecUncorrected, key]; omega

theorem el_countCodewords_ne {d : Dev} {p c u k : Nat} (hk : PortKey k) (hc : k ≠ K.portFecCorrected p)
    (hu : k ≠ K.portFecUncorrected p) : Dev.el (Dev.countCodewords d p c u) k = Dev.el d k := by
  have hnote := noteEl_of_not_asideEl (not_asideEl_portKey hk)
  exact (el_count_ne hnote hu).trans (el_count_ne hnote hc)

theorem portWidth_countCodewords (d : Dev) (p : Fin 1024) (c u : Nat) :
    Dev.portWidth (Dev.countCodewords d p c u) p = Dev.portWidth d p := by
  unfold Dev.portWidth
  rw [el_countCodewords_ne (k := K.portSpeed p) (portKey_of_el p.isLt (by decide))]
  · simp only [K.portSpeed, K.portFecCorrected, key]; omega
  · simp only [K.portSpeed, K.portFecUncorrected, key]; omega

/-- The symbol errors of its lanes move no element of a port. -/
theorem steady_laneSymbols {e : Dev} {p : Nat} (hw : p + Dev.portWidth e p ≤ 1024) (symbols : List Nat) :
    Steady PortKey (fun _ => True) e (Dev.countSymbols e p 0 (symbols.take (Dev.portWidth e p))) := by
  refine (Steady.refl e).countSymbols unnoted_portKey fun k hk h => ?_
  have := h.1
  simp only [List.length_take, K.laneSymbolErrors, key] at hk this
  omega

/-- What a second's counts come to, before the limit is looked at. -/
theorem el_countFec {d : Dev} {p : Fin 1024} (hw : p.val + Dev.portWidth d p ≤ 1024) (c u : Nat) (symbols : List Nat) :
    let x := Dev.countFec d p c u symbols
    Dev.el x (K.portFecCorrected p) = (Dev.el d (K.portFecCorrected p) + c) % 2 ^ 64
      ∧ Dev.el x (K.portFecUncorrected p) = (Dev.el d (K.portFecUncorrected p) + u) % 2 ^ 64
      ∧ Dev.el x (K.portFecDegradeLimit p) = Dev.el d (K.portFecDegradeLimit p)
      ∧ ∀ k n, k < Dev.portWidth d p → symbols[k]? = some n →
          Dev.el x (K.laneSymbolErrors (p + k)) = (Dev.el d (K.laneSymbolErrors (p + k)) + n) % 2 ^ 64 := by
  intro x
  have hwidth := portWidth_countCodewords d p c u
  have hlanes : Steady PortKey (fun _ => True) (Dev.countCodewords d p c u) x := steady_laneSymbols (by rw [hwidth]; exact hw) symbols
  have hc : PortKey (K.portFecCorrected p) := portKey_of_el p.isLt (by decide)
  have hu : PortKey (K.portFecUncorrected p) := portKey_of_el p.isLt (by decide)
  have hl : PortKey (K.portFecDegradeLimit p) := portKey_of_el p.isLt (by decide)
  refine ⟨?corrected, ?uncorrected, ?limit, fun k n hk hn => ?symbols⟩
  case corrected =>
    rw [hlanes.els _ hc]
    exact (el_count_ne (noteEl_of_not_asideEl (not_asideEl_portKey hc)) (portFecCorrected_ne p)).trans
      (el_count_same (not_asideEl_portKey hc))
  case uncorrected =>
    rw [hlanes.els _ hu]
    refine (el_count_same (not_asideEl_portKey hu)).trans ?_
    rw [el_count_ne (noteEl_of_not_asideEl (not_asideEl_portKey hu)) (portFecCorrected_ne p).symm]
  case limit =>
    rw [hlanes.els _ hl]
    refine el_countCodewords_ne hl ?_ ?_
    · simp only [K.portFecDegradeLimit, K.portFecCorrected, key]; omega
    · simp only [K.portFecDegradeLimit, K.portFecUncorrected, key]; omega
  case symbols =>
    have hbefore : Dev.el (Dev.countCodewords d p c u) (K.laneSymbolErrors (p + k)) = Dev.el d (K.laneSymbolErrors (p + k)) := by
      have hnote := noteEl_of_not_asideEl (not_asideEl_laneSymbolErrors (p + k))
      refine (el_count_ne hnote ?_).trans (el_count_ne hnote ?_)
      · have := hu.1; intro h; rw [← h] at this; simp only [K.laneSymbolErrors, key] at this; omega
      · have := hc.1; intro h; rw [← h] at this; simp only [K.laneSymbolErrors, key] at this; omega
    have hcount : Dev.el x (K.laneSymbolErrors (p + (0 + k))) = _ :=
      el_countSymbols (by rw [hwidth, List.getElem?_take_of_lt hk]; exact hn)
    rw [Nat.zero_add, hbefore] at hcount
    exact hcount

/-- FEC_DEGRADE_CHECK counts, and is an event where the limit is passed. -/
theorem fecDegradeCheck_spec {d : Dev} {p : Fin 1024} (hw : p.val + Dev.portWidth d p ≤ 1024) (c u : Nat) (symbols : List Nat) :
    let x := Dev.countFec d p c u symbols
    let y := if Dev.el x (K.portFecDegradeLimit p) ≠ 0 ∧ Dev.el x (K.portFecDegradeLimit p) < c then Dev.event x 0 2 else x
    Dev.el y (K.portFecCorrected p) = (Dev.el d (K.portFecCorrected p) + c) % 2 ^ 64
      ∧ Dev.el y (K.portFecUncorrected p) = (Dev.el d (K.portFecUncorrected p) + u) % 2 ^ 64
      ∧ (∀ k n, k < Dev.portWidth d p → symbols[k]? = some n →
          Dev.el y (K.laneSymbolErrors (p + k)) = (Dev.el d (K.laneSymbolErrors (p + k)) + n) % 2 ^ 64)
      ∧ (Dev.el d (K.portFecDegradeLimit p) ≠ 0 → Dev.el d (K.portFecDegradeLimit p) < c →
          (Dev.hp y 0).evtCause.getLsbD 0 = true ∧ (Dev.hp y 1).evtCause.getLsbD 0 = true)
      ∧ SameTraffic d y ∧ SameTables d y := by
  intro x y
  have hnote : Unnoted (noteEl · = false) := fun k hk h => Bool.false_ne_true (h.symm.trans hk)
  have hevent : Steady (noteEl · = false) (fun _ => True) x y := Steady.ite ((Steady.refl x).event hnote 0 2) (.refl x)
  have hcount : Steady (fun _ => False) (fun _ => True) d x :=
    (((Steady.refl d).count (fun _ _ => id) id c).count (fun _ _ => id) id u).countSymbols (fun _ _ => id) fun _ _ => id
  obtain ⟨hc, hu, hl, hs⟩ := el_countFec hw c u symbols
  have hport {k : Nat} (hk : PortKey k) : Dev.el y k = Dev.el x k := hevent.els k (noteEl_of_not_asideEl (not_asideEl_portKey hk))
  refine ⟨(hport (portKey_of_el p.isLt (by decide))).trans hc, (hport (portKey_of_el p.isLt (by decide))).trans hu, ?_, ?_,
    hcount.traffic.trans hevent.traffic, hcount.tables.trans hevent.tables⟩
  · exact fun k n hk hn => (hevent.els _ (noteEl_of_not_asideEl (not_asideEl_laneSymbolErrors _))).trans (hs k n hk hn)
  · intro h0 hlim
    have hy : y = Dev.event x 0 2 := if_pos (by rw [hl]; exact ⟨h0, hlim⟩)
    rw [hy]
    exact ⟨cause_event (by decide) (by decide), cause_event (by decide) (by decide)⟩

/-- The frames that a failing wire loses on the lines are all that it changes of the ports. -/
theorem loseOnLines_eq (e : Dev) (t dir : Nat) : ∃ ports,
    (if dir = 1 ∧ Dev.rouriBroken e t 1 = true then (tilePorts t).foldl Dev.loseOnLine e else e) = { e with ports := ports } := by
  obtain ⟨ports, hfold, -⟩ := foldl_loseOnLine (tilePorts t) (tilePorts_nodup t) e
  split
  · exact ⟨ports, hfold⟩
  · exact ⟨e.ports, rfl⟩

/-- Settles O27: each command's clause is what its operation was shown to do above. -/
theorem tileLinksAndMicrocontrollersRepair : Obligations.TileLinksAndMicrocontrollersRepair := by
  unfold Obligations.TileLinksAndMicrocontrollersRepair
  refine ⟨?wires, ?repairs, ?mcu, ?adapt, ?fec⟩
  case wires =>
    intro t dir w s hl d r e
    refine ⟨fun hw hw' hok => ?_, fun h => (exec_rouriWireFail t dir w s).trans (lift_same (wireFail_known h))⟩
    rw [does_lift_iff (exec_rouriWireFail t dir w s) hl, wireFail_of_ok hw hw' hok]
    obtain ⟨ports, hports⟩ := loseOnLines_eq e t dir
    have hport (p : Fin 1024) := port_wireFail (d := d) (e := e) (t := t) (dir := dir) (p := p) (fun _ => rfl) (fun _ => rfl)
    rw [hports] at hport
    dsimp only
    rw [hports]
    exact ⟨rfl, rfl, rfl, rfl, rfl, rfl, rfl, rfl, ⟨rfl, rfl⟩, hport⟩
  case repairs =>
    intro t dir w rest s hl d r hr
    have does (Q : Dev → Prop) : Does (.rouriRepairDone t dir) s Q
        ↔ Q (Dev.endRepair (Dev.repairCounted d t) t dir w { r with repairing := rest }) := by
      rw [does_lift_iff (exec_rouriRepairDone t dir s) hl, ← repairDone_eq hr]
    have hspares : Dev.el (Dev.repairCounted d t) (kSpares t dir) = Dev.el d (kSpares t dir) :=
      el_repairCounted_ne (tileKey_kSpares t dir) (repairs_ne_kSpares t dir).symm
    have hcapacity : Dev.el (Dev.repairCounted d t) (kCapacity t dir) = Dev.el d (kCapacity t dir) :=
      el_repairCounted_ne (tileKey_kCapacity t dir) (repairs_ne_kCapacity t dir).symm
    refine ⟨fun hs => ?_, fun hs => ?_⟩
    · obtain ⟨hwire, hcount, hkeeps⟩ := endRepair_spare (dir := dir) (w := w)
        (r := { r with repairing := rest }) (hspares.trans_lt hs)
      rw [does]
      exact ⟨hwire, hcount.trans (by rw [hspares]), hkeeps.counted⟩
    · obtain ⟨hwire, hcount, hkeeps⟩ := endRepair_lost (dir := dir) (w := w)
        (r := { r with repairing := rest }) (hs.trans_eq hspares.symm)
      rw [does]
      exact ⟨hwire, hcount.trans (by rw [hcapacity]), hkeeps.counted⟩
  case mcu =>
    intro t s hl d loads
    have miss (m : Bool) (Q : Dev → Prop) := does_lift_iff (P := Q) (exec_tileMcuHeartbeatMiss t m s) hl
    have done (ok : Bool) (Q : Dev → Prop) := does_lift_iff (P := Q) (exec_tileMcuReloadDone t ok s) hl
    have hstate : Unnoted (· = K.tileMcuState t) := fun k hk h => unnoted_tileKey k hk (h ▸ tileKey_of_el t.isLt (by decide))
    refine ⟨?reload, fun h0 => ⟨?miss, ?memory⟩, fun h0 m => ?missed,
      fun h1 hw => ?loaded, fun h1 hn hw => ?stopped, fun h1 ok => ?ended⟩
    case reload => exact (does_lift_iff (exec_tileMcuReload t s) hl).mpr (mcuReload_loads d t)
    case miss => exact (miss false _).mpr (by rw [if_pos h0]; exact mcuReload_loads d t)
    case memory => exact (miss true _).mpr (by rw [if_pos h0]; exact mcuReload_contained d t.isLt _ _ _)
    case missed => exact (exec_tileMcuHeartbeatMiss t m s).trans (lift_same (if_neg h0))
    case loaded =>
      rw [done, mcuReloadDone_ok h1]
      exact McuKeeps.reloadEnd_of (steady_wakePorts _ t t) hw _
    case stopped =>
      rw [done, mcuReloadDone_thirdFailure h1 hn]
      have hne : ¬ K.errContained = K.tileMcuState t := by have := t.isLt; simp only [K.tileMcuState, K.errContained, key]; omega
      exact McuKeeps.reloadEnd_of (L := fun _ => True) ((Steady.refl _).contained hstate hne _ _ _ _ _) hw _
    case ended => exact (exec_tileMcuReloadDone t ok s).trans (lift_same (if_pos h1))
  case adapt =>
    intro n e s hl
    refine ⟨fun h => ?_, fun h => (exec_laneAdaptDone n e s).trans (lift_same (by simp [h]))⟩
    rw [does_lift_iff (exec_laneAdaptDone n e s) hl, if_pos h]
    exact endAdapt_spec s.dev n e
  case fec =>
    intro p c u symbols s hl hon hadmin hw
    rw [does_liftTile_iff (exec_fecDegradeCheck p c u symbols s) hl hon, if_pos hadmin]
    exact fecDegradeCheck_spec hw c u symbols

end Sys2Proof.Machine

/-! What the packets' way does for a port that goes down, as a relation between the part before and after: it drops, releases and
accounts, and none of it starts a frame on a port that is down or lets a held queue run. -/
namespace Sys2Proof.Machine

/-- Nothing is selected, in transmission or to be sent for flow control. -/
def OutPort.Idle (o : OutPort) : Prop := o.tx = none ∧ o.sel = [] ∧ o.pfc = []

/-- The ports' elements and the tables stay, a held queue stays held, an idle port that is down stays idle, no condition of a link
differs, and every event cause that was pending still is. -/
structure Calm (d e : Dev) : Prop where
  els : ∀ k, PortKey k → Dev.el e k = Dev.el d k
  tables : SameTables d e
  held : ∀ n, (Dev.queue d n).held = true → (Dev.queue e n).held = true
  idle : ∀ p, Dev.portUp d p = false → (Dev.port d p).Idle → (Dev.port e p).Idle
  conds : ∀ q, (Dev.linkS e q).conds = (Dev.linkS d q).conds
  cause : ∀ p b, (Dev.hp d p).evtCause.getLsbD b = true → (Dev.hp e p).evtCause.getLsbD b = true

theorem portKey_portState {p : Nat} (hp : p < 1024) : PortKey (K.portState p) := portKey_of_el hp (by decide)

/-- Keys of a queue's object lie above the ports'. -/
theorem not_portKey_queue (n e : Nat) : ¬ PortKey (key (0x4000 + n) e) := by simp only [PortKey, key]; omega

namespace Calm
variable {d e f : Dev}

theorem portUp (h : Calm d e) (p : Nat) : Dev.portUp e p = Dev.portUp d p := by
  unfold Dev.portUp
  by_cases hp : 1024 ≤ p
  · simp [hp]
  · rw [h.els _ (portKey_portState (by omega))]

theorem refl (d : Dev) : Calm d d := ⟨fun _ _ => rfl, ⟨rfl, rfl⟩, fun _ h => h, fun _ _ h => h, fun _ => rfl, fun _ _ h => h⟩

theorem trans (h : Calm d e) (g : Calm e f) : Calm d f where
  els k hk := (g.els k hk).trans (h.els k hk)
  tables := h.tables.trans g.tables
  held n hn := g.held n (h.held n hn)
  idle p hp hi := g.idle p ((h.portUp p).trans hp) (h.idle p hp hi)
  conds q := (g.conds q).trans (h.conds q)
  cause p b hb := g.cause p b (h.cause p b hb)

theorem ite {c : Prop} [Decidable c] {a b : Dev} (ha : Calm d a) (hb : Calm d b) : Calm d (if c then a else b) := by
  split <;> assumption

theorem foldl {α : Type} {f : Dev → α → Dev} (l : List α) (hf : ∀ e, ∀ x ∈ l, Calm d e → Calm d (f e x)) (h : Calm d e) :
    Calm d (l.foldl f e) := by
  induction l generalizing e with
  | nil => exact h
  | cons x t ih => exact ih (fun e y hy he => hf e y (List.mem_cons_of_mem x hy) he) (hf e x List.mem_cons_self h)

theorem of_steady {L : Nat → Prop} (h : Steady PortKey L d e) : Calm d e where
  els := h.els
  tables := h.tables
  held n hn := by obtain ⟨-, -, hq, -⟩ := h.traffic; simpa only [Dev.queue, hq] using hn
  idle p _ hi := by obtain ⟨-, -, -, hports, -⟩ := h.traffic; simpa only [Dev.port, hports] using hi
  conds := h.conds
  cause := h.cause

theorem steady (h : Calm d e) (g : Steady PortKey (fun _ => False) e f) : Calm d f := h.trans (of_steady g)

/-! The updates that the operations are made of. -/

theorem setEl {k : Nat} (hk : ¬ PortKey k) (v : Nat) (h : Calm d e) : Calm d (Dev.setEl e k v) := h.steady (.setEl hk v (.refl e))
theorem setBlob (k : Nat) (v : List Byte) (h : Calm d e) : Calm d (Dev.setBlob e k v) := { h with }
theorem persist (k : Nat) (h : Calm d e) : Calm d (Dev.persist e k) := { h with }
theorem emit (o : Out) (h : Calm d e) : Calm d (Dev.emit e o) := { h with }
theorem useFree (h : Calm d e) : Calm d (Dev.useFree e) := { h with }
theorem tel (x : TelS) (h : Calm d e) : Calm d { e with tel := x } := { h with }
theorem err (x : ErrS) (h : Calm d e) : Calm d { e with err := x } := { h with }
theorem fw (x : FwS) (h : Calm d e) : Calm d { e with fw := x } := { h with }
theorem act (k n : Nat) (h : Calm d e) : Calm d (Dev.act e k n) := { h with }
theorem setPipe (n : Nat) (x : Pipe) (h : Calm d e) : Calm d (Dev.setPipe e n x) := { h with }
theorem setPkt (i : Nat) (x : Pkt) (h : Calm d e) : Calm d (Dev.setPkt e i x) := { h with }
theorem delPkt (i : Nat) (h : Calm d e) : Calm d (Dev.delPkt e i) := { h with }
theorem setBuf (x : BufS) (h : Calm d e) : Calm d (Dev.setBuf e x) := { h with }
theorem setGran (x : GranS) (h : Calm d e) : Calm d (Dev.setGran e x) := { h with }
theorem setBale (b : Nat) (x : Bale) (h : Calm d e) : Calm d (Dev.setBale e b x) := { h with }
theorem setTxts (n : Nat) (x : TxtsQueue) (h : Calm d e) : Calm d (Dev.setTxts e n x) := { h with }

theorem setQueue {n : Nat} {q : EQueue} (hq : (Dev.queue e n).held = true → q.held = true) (h : Calm d e) :
    Calm d (Dev.setQueue e n q) :=
  { h with
    held := fun m hm => by
      by_cases hmn : m = n
      · subst hmn
        rw [queue_setQueue_same]
        exact hq (h.held m hm)
      · rw [queue_setQueue_ne _ _ _ _ hmn]
        exact h.held m hm }

theorem setPort {p : Nat} {o : OutPort} (ho : Dev.portUp e p = false → (Dev.port e p).Idle → o.Idle) (h : Calm d e) :
    Calm d (Dev.setPort e p o) :=
  { h with
    idle := fun q hq hi => by
      by_cases hqp : q = p
      · subst hqp
        rw [port_setPort_same]
        exact ho ((h.portUp q).trans hq) (h.idle q hq hi)
      · rw [port_setPort_ne _ _ _ _ hqp]
        exact h.idle q hq hi }

theorem setLink {p : Nat} {l : LinkS} (hl : l.conds = (Dev.linkS e p).conds) (h : Calm d e) : Calm d (Dev.setLink e p l) :=
  h.steady (.setLink id hl (.refl e))

/-! Counting, events and notices. -/

theorem count {k : Nat} (hk : ¬ PortKey k) (n : Nat) (h : Calm d e) : Calm d (Dev.count e k n) :=
  h.steady (.count unnoted_portKey hk n (.refl e))
theorem perf {b : Nat} (hb : b < 64) (c n : Nat) (h : Calm d e) : Calm d (Dev.perf e b c n) :=
  h.steady (.perf unnoted_portKey hb c n (.refl e))
theorem countStat (p w n : Nat) (h : Calm d e) : Calm d (Dev.countStat e p w n) := h.steady (.countStat unnoted_portKey p w n (.refl e))
theorem telWrite (r : Nat) (h : Calm d e) : Calm d (Dev.telWrite e r) := h.steady (.telWrite unnoted_portKey r (.refl e))
theorem raise (b : Nat) (h : Calm d e) : Calm d (Dev.raise e b) := h.steady (.raise unnoted_portKey b (.refl e))
theorem notice (c ch co de : Nat) (h : Calm d e) : Calm d (Dev.notice e c ch co de) :=
  h.steady (.notice unnoted_portKey c ch co de (.refl e))
theorem event (c ch : Nat) (h : Calm d e) : Calm d (Dev.event e c ch) := h.steady (.event unnoted_portKey c ch (.refl e))
theorem appendLog (x : Nat) (h : Calm d e) : Calm d (Dev.appendLog e x).1 := h.steady (.appendLog unnoted_portKey x (.refl e))
theorem contained (c co o el u : Nat) (h : Calm d e) : Calm d (Dev.contained e c co o el u) :=
  h.steady (.contained unnoted_portKey (by decide) c co o el u (.refl e))
theorem day (r : Nat) (h : Calm d e) : Calm d (Dev.day e r) := h.ite (h.err _)

end Calm

/-- What contention and flow control change is a queue's tags, a tier's virtual time and the flow-control frames to send: besides being
calm they move no packet. -/
structure Resumed (d e : Dev) : Prop extends Calm d e where
  pkts : e.pkts = d.pkts
  pipes : e.pipes = d.pipes
  buf : e.buf = d.buf
  gran : e.gran = d.gran
  queues : ∀ n, (Dev.queue e n).held = (Dev.queue d n).held ∧ (Dev.queue e n).items = (Dev.queue d n).items

namespace Resumed
variable {d e f : Dev}

theorem refl (d : Dev) : Resumed d d := ⟨.refl d, rfl, rfl, rfl, rfl, fun _ => ⟨rfl, rfl⟩⟩

theorem trans (h : Resumed d e) (g : Resumed e f) : Resumed d f where
  toCalm := h.toCalm.trans g.toCalm
  pkts := g.pkts.trans h.pkts
  pipes := g.pipes.trans h.pipes
  buf := g.buf.trans h.buf
  gran := g.gran.trans h.gran
  queues n := ⟨(g.queues n).1.trans (h.queues n).1, (g.queues n).2.trans (h.queues n).2⟩

theorem ite {c : Prop} [Decidable c] {a b : Dev} (ha : Resumed d a) (hb : Resumed d b) : Resumed d (if c then a else b) := by
  split <;> assumption

theorem foldl {α : Type} {f : Dev → α → Dev} (l : List α) (hf : ∀ e, ∀ x ∈ l, Resumed d e → Resumed d (f e x)) (h : Resumed d e) :
    Resumed d (l.foldl f e) := by
  induction l generalizing e with
  | nil => exact h
  | cons x t ih => exact ih (fun e y hy he => hf e y (List.mem_cons_of_mem x hy) he) (hf e x List.mem_cons_self h)

theorem steady (h : Resumed d e) (g : Steady PortKey (fun _ => False) e f) : Resumed d f := by
  refine h.trans ⟨.of_steady g, ?_, ?_, ?_, ?_, fun n => ?_⟩
  all_goals obtain ⟨hpipes, hpkts, hqueues, -, hbuf, hgran, -⟩ := g.traffic
  · exact hpkts
  · exact hpipes
  · exact hbuf
  · exact hgran
  · simp only [Dev.queue, hqueues, and_self]

theorem count {k : Nat} (hk : ¬ PortKey k) (n : Nat) (h : Resumed d e) : Resumed d (Dev.count e k n) :=
  h.steady (.count unnoted_portKey hk n (.refl e))

theorem perf {b : Nat} (hb : b < 64) (c n : Nat) (h : Resumed d e) : Resumed d (Dev.perf e b c n) :=
  h.steady (.perf unnoted_portKey hb c n (.refl e))

theorem setQueue {n : Nat} {q : EQueue} (hq : q.held = (Dev.queue e n).held ∧ q.items = (Dev.queue e n).items) (h : Resumed d e) :
    Resumed d (Dev.setQueue e n q) :=
  h.trans { toCalm := (Calm.refl e).setQueue fun hh => hq.1.trans hh
            pkts := rfl
            pipes := rfl
            buf := rfl
            gran := rfl
            queues := fun m => by
              by_cases hm : m = n
              · rw [hm, queue_setQueue_same]; exact hq
              · rw [queue_setQueue_ne _ _ _ _ hm]; exact ⟨rfl, rfl⟩ }

theorem setPort {p : Nat} {o : OutPort} (ho : Dev.portUp e p = false → (Dev.port e p).Idle → o.Idle) (h : Resumed d e) :
    Resumed d (Dev.setPort e p o) :=
  h.trans { toCalm := (Calm.refl e).setPort ho, pkts := rfl, pipes := rfl, buf := rfl, gran := rfl, queues := fun _ => ⟨rfl, rfl⟩ }

theorem queuePfc (p prio time : Nat) (h : Resumed d e) : Resumed d (Dev.queuePfc e p prio time) := by
  unfold Dev.queuePfc
  split
  case isTrue hup => exact (h.setPort (fun hdown => absurd hup (by simp [hdown]))).perf (by decide) 8 1
  case isFalse => exact h

theorem pfcPresent (p : Nat) (h : Resumed d e) : Resumed d (Dev.pfcPresent e p) :=
  h.foldl _ fun _ _ _ hx => (hx.queuePfc _ _ _).ite hx

/-! Contention. -/

theorem setTierV (p t v : Nat) (h : Resumed d e) : Resumed d (Dev.setTierV e p t v) := h.setPort fun _ hi => hi

/-- A change of every queue of a tier that leaves `held` and the items alone. -/
theorem foldl_setQueue {g : EQueue → EQueue} (hg : ∀ q, (g q).held = q.held ∧ (g q).items = q.items) (ns : List Nat) (h : Resumed d e) :
    Resumed d (ns.foldl (fun d n => Dev.setQueue d n (g (Dev.queue d n))) e) :=
  h.foldl _ fun _ _ _ hx => hx.setQueue (hg _)

theorem tierUpdate (p t : Nat) (h : Resumed d e) : Resumed d (Dev.tierUpdate e p t) := by
  unfold Dev.tierUpdate
  extract_lets qs d₁ d₂
  have hempty : Resumed d (qs.foldl (fun d n => Dev.setQueue d n { Dev.queue d n with tagF := 0 }) (Dev.setTierV e p t 0)) :=
    (h.setTierV p t 0).foldl_setQueue (g := fun q => { q with tagF := 0 }) (fun _ => ⟨rfl, rfl⟩) qs
  have h₂ : Resumed d d₂ := (h.setTierV p t _).foldl_setQueue
    (g := fun q => { q with tagF := q.tagF - 2 ^ 46, tagH := q.tagH.map (fun h => h - 2 ^ 46) }) (fun _ => ⟨rfl, rfl⟩) qs
  exact ite hempty (ite (h₂.count (by decide) 1) h)

theorem leave (n : Nat) (h : Resumed d e) : Resumed d (Dev.leave e n) := by
  unfold Dev.leave
  dsimp only
  split
  · exact (h.setQueue (by exact ⟨rfl, rfl⟩)).tierUpdate _ _
  · exact h

theorem recontend (n : Nat) (h : Resumed d e) : Resumed d (Dev.recontend e n) := by
  unfold Dev.recontend
  dsimp only
  split
  · exact (h.setQueue (by exact ⟨rfl, rfl⟩)).tierUpdate _ _
  · exact h.leave n
  · exact h

theorem recontendPort (p : Nat) (h : Resumed d e) : Resumed d (Dev.recontendPort e p) := h.foldl _ fun _ _ _ hx => hx.recontend _

end Resumed

namespace Calm
variable {d e : Dev}

theorem queuePfc (p prio time : Nat) (h : Calm d e) : Calm d (Dev.queuePfc e p prio time) :=
  h.trans ((Resumed.refl e).queuePfc p prio time).toCalm
theorem leave (n : Nat) (h : Calm d e) : Calm d (Dev.leave e n) := h.trans ((Resumed.refl e).leave n).toCalm
theorem recontend (n : Nat) (h : Calm d e) : Calm d (Dev.recontend e n) := h.trans ((Resumed.refl e).recontend n).toCalm
theorem recontendPort (p : Nat) (h : Calm d e) : Calm d (Dev.recontendPort e p) := h.trans ((Resumed.refl e).recontendPort p).toCalm

end Calm

end Sys2Proof.Machine

/-! Drops and their postcards. -/
namespace Sys2Proof.Machine

theorem portPipe_lt (p : Nat) : portPipe p < 16 := by
  unfold portPipe
  split
  · omega
  · split <;> omega

namespace Calm
variable {d e : Dev}

/-- Counting in an element of a queue's object. -/
theorem countQueue (n el c : Nat) (h : Calm d e) : Calm d (Dev.count e (key (0x4000 + n) el) c) := h.count (not_portKey_queue n el) c

theorem setElQueue (n el v : Nat) (h : Calm d e) : Calm d (Dev.setEl e (key (0x4000 + n) el) v) := h.setEl (not_portKey_queue n el) v

theorem countDrop {code : Nat} (hc : code < 64) (h : Calm d e) : Calm d (Dev.countDrop e code) := by
  refine h.count ?_ 1
  simp only [K.dropCount, PortKey, key]
  omega

theorem dropAtQueue {code : Nat} (hc : code = 0x27 ∨ code = 0x2B) (n : Nat) (h : Calm d e) : Calm d (Dev.dropAtQueue e code n) := by
  unfold Dev.dropAtQueue
  extract_lets d₁ pool d₂ d₃
  have h₁ : Calm d d₁ := (h.countDrop (by omega)).countStat _ _ _
  have h₂ : Calm d d₂ := by
    rcases hc with rfl | rfl <;> exact h₁
  have h₃ : Calm d d₃ := by
    rcases hc with rfl | rfl
    · exact h₂.countQueue n _ 1
    · exact h₂.countQueue n _ 1
  exact ite ((h₃.countQueue n _ 1).setElQueue n _ code) h₂

theorem dropAtPort {code : Nat} (hc : code < 64) (p : Nat) (h : Calm d e) : Calm d (Dev.dropAtPort e code p) := by
  have h₁ := (h.countDrop hc).countStat p 10 1
  exact ite (h₁.countStat p 12 1) h₁

theorem sample (n k : Nat) (h : Calm d e) : Calm d (Dev.sample e n k).1 := by
  unfold Dev.sample
  split
  · exact h
  · exact h.tel _

theorem admitCard {n : Nat} {dropCard : Bool} {x : Dev} (hx : Dev.admitCard e n dropCard = some x) (h : Calm d e) : Calm d x := by
  unfold Dev.admitCard at hx
  split at hx
  · cases hx
  · split at hx
    · split at hx
      · cases hx
      · cases hx; exact h.tel _
    · cases hx; exact h.tel _

theorem requestCard (n : Nat) (dropCard : Bool) (rec : Nat) (q : Option Nat) (h : Calm d e) :
    Calm d (Dev.requestCard e n dropCard rec q) := by
  have hreq := h.perf (b := 0x2C) (by decide) 1 1
  unfold Dev.requestCard
  dsimp only
  split
  case h_1 x hx =>
    have hwritten := (((hreq.admitCard hx).telWrite rec).count (k := K.telPcWritten) (by decide) 1).perf (b := 0x2C) (by decide) 2 1
    split
    · exact hwritten.countQueue _ _ 1 |>.ite hwritten
    · exact hwritten
  case h_2 => exact (hreq.count (by decide) 1).perf (by decide) 3 1

theorem dropCardAt (n : Nat) (c : Card) (p : Pkt) (s : Sheaf) (fs : SMap Nat) (q : Option Nat) (sampled : Bool) (h : Calm d e) :
    Calm d (Dev.dropCardAt e n c p s fs q sampled) := (h.requestCard _ _ _ _).ite h

theorem dropCard (n : Nat) (c : Card) (p : Pkt) (s : Sheaf) (fs : SMap Nat) (q : Option Nat) (h : Calm d e) :
    Calm d (Dev.dropCard e n c p s fs q) := by
  unfold Dev.dropCard
  extract_lets sm
  have hsm : Calm d sm.1 := by
    unfold sm
    split
    · exact h.sample _ _
    · exact h
  exact hsm.dropCardAt _ _ _ _ _ _ _

theorem dropOut {code : Nat} (hc : code = 0x27 ∨ code = 0x2B) (n : Nat) (x : Desc) (p : Pkt) (egress : Bool) (s : Sheaf) (fs : SMap Nat)
    (h : Calm d e) : Calm d (Dev.dropOut e code n x p egress s fs) := (h.dropAtQueue hc n).dropCard _ _ _ _ _ _

theorem dropIn {code : Nat} (hc : code < 64) (p : Pkt) (parsed : Bool) (h : Calm d e) : Calm d (Dev.dropIn e code p parsed) :=
  (h.dropAtPort hc _).dropCard _ _ _ _ _ _

end Calm

end Sys2Proof.Machine

/-! Fatal conditions, cells, flow control and charges. -/
namespace Sys2Proof.Machine.Calm
variable {d e : Dev}

/-! Fatal conditions and crash records. -/

theorem crashMerge (c : Nat) (h : Calm d e) : Calm d (Dev.crashMerge e c) := by
  unfold Dev.crashMerge
  extract_lets seq join d₁
  have h₁ : Calm d d₁ := (h.setBlob _ _).persist _
  split
  · exact h₁.err _
  · exact h₁

theorem crash (c : Nat) (h : Calm d e) : Calm d (Dev.crash e c) := by
  unfold Dev.crash
  split
  · exact h.crashMerge c
  · extract_lets x d₁ seq hdr d₂ d₃ y d₄
    have h₃ : Calm d d₃ := ((h.err _).setBlob _ _).persist _
    have h₄ : Calm d d₄ := ite (h₃.err _) h₃
    exact (h₄.count (k := K.errCrashCount) (by decide) 1).notice _ _ _ _

theorem fatal (b c o el u : Nat) (h : Calm d e) : Calm d (Dev.fatal e b c o el u) := by
  unfold Dev.fatal
  extract_lets new d₁ s d₂ x r d₃
  have h₂ : Calm d d₂ := ((h.setEl (k := K.errFatal) (by decide) _).raise 3).fw _
  have hr : Calm d r.1 := h₂.appendLog x
  have h₃ : Calm d d₃ := ite (hr.notice _ _ _ _) hr
  exact ite (h₃.crash 4) h₃

/-! Cells. -/

theorem audit (h : Calm d e) : Calm d (Dev.audit e) := ite (h.setBuf _) (h.setBuf _)

theorem doubleFree (c : Nat) (h : Calm d e) : Calm d (Dev.doubleFree e c) := by
  unfold Dev.doubleFree
  extract_lets d₁ d₂ s d₃ d₄ x d₅
  have h₂ : Calm d d₂ := ((h.count (k := K.bufDoubleFree) (by decide) 1).perf (b := 0x27) (by decide) 3 1).contained _ _ _ _ _
  have h₄ : Calm d d₄ := h₂.count (by decide) 1
  have h₅ : Calm d d₅ := ite ((h₂.setBuf _).setEl (k := K.bufQuarantine) (by decide) _) ((h₄.err _).fatal _ _ _ _ _)
  exact h₅.audit

theorem freeCell (c : Nat) (h : Calm d e) : Calm d (Dev.freeCell e c) :=
  ((h.setBuf _).perf (b := 0x27) (by decide) 2 1).ite (h.doubleFree c)

theorem writeCells (i n : Nat) (h : Calm d e) : Calm d (Dev.writeCells e i n) := by
  unfold Dev.writeCells
  extract_lets p pipe had r0 r x s b d₁
  have h₁ : Calm d d₁ := ((h.setBuf b).perf (b := 0x27) (by decide) 1 _).perf (b := 0x26) (by decide) 2 _
  exact h.ite (h₁.setPkt _ _)

/-! Flow control. -/

theorem setXoff (i : Nat) (v : Bool) (h : Calm d e) : Calm d (Dev.setXoff e i v) := h.setBuf _

theorem sendXoff (base p k : Nat) (h : Calm d e) : Calm d (Dev.sendXoff e base p k) := ((h.setXoff _ _).queuePfc _ _ _).ite h

theorem sendXon (base p k : Nat) (h : Calm d e) : Calm d (Dev.sendXon e base p k) := by
  unfold Dev.sendXon
  extract_lets d₁
  have h₁ : Calm d d₁ := h.setXoff _ _
  exact ite (h₁.ite (h₁.queuePfc _ _ _)) h

/-- Keys of the eight pools lie below the ports'. -/
theorem not_portKey_pool {k : Nat} (hk : k < 8) {el : Nat} (hel : el < 256) : ¬ PortKey (key (0x0910 + k) el) := by
  simp only [PortKey, key]; omega

theorem setPoolXoff (spill : Bool) {k : Nat} (hk : k < 8) (v : Bool) (h : Calm d e) : Calm d (Dev.setPoolXoff e spill k v) :=
  (h.setXoff _ v).setEl (not_portKey_pool hk (by decide)) _

theorem xoffTest {k : Nat} (hk : k < 8) (h : Calm d e) : Calm d (Dev.xoffTest e k) := by
  unfold Dev.xoffTest
  extract_lets used xoff on
  have hon := (h.setPoolXoff false hk true).foldl (Dev.holders e k) fun _ p _ hx => hx.sendXoff 0 p k
  have hoff := (h.setPoolXoff false hk false).foldl (Dev.xoffPorts e 0 k) fun _ p _ hx => hx.sendXon 0 p k
  exact ite (hon.ite h) (hoff.ite h)

theorem warnTest {k : Nat} (hk : k < 8) (rose : Bool) (h : Calm d e) : Calm d (Dev.warnTest e k rose) := by
  unfold Dev.warnTest
  extract_lets used warn fired at_ b d₁
  have h₁ : Calm d d₁ := h.setBuf _
  have hwarned := (h₁.setEl (not_portKey_pool (el := 0x0F) hk (by decide)) ((Dev.el d₁ (K.poolWarnEvents k) + 1) % 2 ^ 32)).event 1 6
  exact ite (hwarned.ite h) (ite (h.setBuf _) h)

/-! Charges. -/

theorem addHeld (p svc : Nat) (x : Int) (h : Calm d e) : Calm d (Dev.addHeld e p svc x) := h.setBuf _

/-- A use that rises, and its peak with it. -/
theorem setPeak {k peak : Nat} (hk : ¬ PortKey k) (hpeak : ¬ PortKey peak) (u : Nat) (h : Calm d e) :
    Calm d (if Dev.el (Dev.setEl e k u) peak < u then Dev.setEl (Dev.setEl e k u) peak u else Dev.setEl e k u) :=
  ite ((h.setEl hk u).setEl hpeak u) (h.setEl hk u)

theorem charge (pool svc p c : Nat) (h : Calm d e) : Calm d (Dev.charge e pool svc p c) := by
  have hsend {x : Dev} (hx : Calm d x) : Calm d (if Dev.inXoff x svc then Dev.sendXoff x 0 p svc else x) := (hx.sendXoff 0 p svc).ite hx
  unfold Dev.charge
  split
  case isTrue hpool =>
    have hused := h.setPeak (not_portKey_pool (el := 3) hpool (by decide)) (not_portKey_pool (el := 4) hpool (by decide))
    exact hsend ((((hused _).addHeld p svc c).xoffTest hpool).warnTest hpool _)
  case isFalse => exact ite (hsend ((h.setPeak (k := K.hrUsed) (peak := K.hrPeak) (by decide) (by decide) _).addHeld p svc c)) h

theorem uncharge (pool svc p c : Nat) (h : Calm d e) : Calm d (Dev.uncharge e pool svc p c) := by
  unfold Dev.uncharge
  split
  case isTrue hpool =>
    exact (((h.setEl (not_portKey_pool hpool (by decide)) _).addHeld _ _ _).xoffTest hpool).warnTest hpool false
  case isFalse => exact ite ((h.setEl (by decide) _).addHeld _ _ _) h

theorem freePkt (i : Nat) (h : Calm d e) : Calm d (Dev.freePkt e i) := by
  unfold Dev.freePkt
  extract_lets p d₁
  have h₁ : Calm d d₁ := by
    unfold d₁
    split
    · exact h.uncharge _ _ _ _
    · exact h
  exact (h₁.foldl _ fun _ c _ hx => hx.freeCell c).delPkt i

theorem unref (i : Nat) (h : Calm d e) : Calm d (Dev.unref e i) :=
  ite ((h.count (k := K.bufRefcountErrors) (by decide) 1).foldl _ fun _ c _ hx => hx.doubleFree c) (ite (h.freePkt i) (h.setPkt _ _))

theorem recharge (x : Desc) (p c : Nat) (h : Calm d e) : Calm d (Dev.recharge e x p c) := (h.uncharge _ _ _ _).ite (h.charge _ _ _ _)

theorem releaseDesc (x : Desc) (h : Calm d e) : Calm d (Dev.releaseDesc e x) := ((h.uncharge _ _ _ _).setBuf _).unref _

end Sys2Proof.Machine.Calm

/-! Depths of queues, and what the granary does as packets leave it. -/
namespace Sys2Proof.Machine.Calm
variable {d e : Dev}

theorem addDepth (n c hr : Nat) (h : Calm d e) : Calm d (Dev.addDepth e n c hr) := by
  unfold Dev.addDepth
  extract_lets q d₁
  have h₁ : Calm d d₁ := h.setQueue (by exact id)
  exact ite (h₁.setElQueue n _ _) h₁

theorem subDepth (n c hr : Nat) (h : Calm d e) : Calm d (Dev.subDepth e n c hr) := h.setQueue (by exact id)

theorem addDescs (up down : Nat) (h : Calm d e) : Calm d (Dev.addDescs e up down) := h.setBuf _

theorem linkRec (n seq : Nat) (x : Desc) (h : Calm d e) : Calm d (Dev.linkRec e n seq x).1 := (h.charge _ _ _ _).addDepth _ _ _

/-- Records linked one after the other, with what has been linked of them. -/
theorem foldl_linkRec (n seq : Nat) (xs : List Desc) (ys : List Desc) (h : Calm d e) :
    Calm d (xs.foldl (fun (a : Dev × List Desc) x => let y := Dev.linkRec a.1 n seq x; (y.1, a.2 ++ [y.2])) (e, ys)).1 := by
  induction xs generalizing e ys with
  | nil => exact h
  | cons x t ih => exact ih _ (h.linkRec n seq x)

theorem linkBale (n b seq : Nat) (recs : List Desc) (more : Bool) (h : Calm d e) : Calm d (Dev.linkBale e n b seq recs more) := by
  unfold Dev.linkBale
  extract_lets x r d₁ q items items'
  have h₁ : Calm d d₁ := (foldl_linkRec n seq _ _ h).addDescs _ _
  exact (h₁.setQueue (by exact id)).recontend n

/-! Bales. -/

theorem baleDoubleFree (b : Nat) (h : Calm d e) : Calm d (Dev.baleDoubleFree e b) :=
  (((h.count (k := K.granDoubleFree) (by decide) 1).contained _ _ _ _ _).setGran _).audit

theorem addBacklog (up : Bool) (h : Calm d e) : Calm d (Dev.addBacklog e up) := h.setEl (by decide) _

theorem spillXoff (h : Calm d e) : Calm d (Dev.spillXoff e) := by
  unfold Dev.spillXoff
  extract_lets free low
  refine h.foldl _ fun x k hk hx => ?_
  have hlt := List.mem_range.mp hk
  have hon := (hx.setPoolXoff true hlt true).foldl (Dev.spillPorts x k) fun _ p _ hy => hy.sendXoff (2 ^ 16) p k
  have hoff := (hx.setPoolXoff true hlt false).foldl (Dev.xoffPorts x (2 ^ 16) k) fun _ p _ hy => hy.sendXon (2 ^ 16) p k
  exact ite (hon.ite hx) (hoff.ite hx)

/-- Keys of the sixteen stacks lie below the ports'. -/
theorem not_portKey_stack {s : Nat} (hs : s < 16) {el : Nat} (hel : el < 256) : ¬ PortKey (key (0x0A10 + s) el) := by
  simp only [PortKey, key]; omega

theorem granTotals (h : Calm d e) : Calm d (Dev.granTotals e) := by
  unfold Dev.granTotals
  extract_lets n lost d₁ d₂ d₃ d₄
  have h₃ : Calm d d₃ := ((h.setEl (by decide) _).setEl (by decide) _).setEl (by decide) _
  have h₄ : Calm d d₄ := h₃.foldl _ fun _ s hs hx => hx.setEl (not_portKey_stack (List.mem_range.mp hs) (by decide)) _
  exact (h₄.setEl (by decide) _).spillXoff

theorem segmentGone (st seg : Nat) (h : Calm d e) : Calm d (Dev.segmentGone e st seg) := by
  unfold Dev.segmentGone
  extract_lets g d₁
  have h₁ : Calm d d₁ := h.setGran _
  exact ((h₁.setEl (k := K.granSegmentsLost) (by decide) _).day 9).granTotals

theorem segmentBorrow (st seg : Nat) (h : Calm d e) : Calm d (Dev.segmentBorrow e st seg) := by
  unfold Dev.segmentBorrow
  split
  · exact (h.setGran _).segmentGone _ _
  · exact h.ite (h.setGran _)

theorem payOwed (st : Nat) (h : Calm d e) : Calm d (Dev.payOwed e st) := by
  unfold Dev.payOwed
  refine h.ite ?_
  split
  · exact h.segmentBorrow _ _
  · exact h

theorem baleCounts (b : Nat) (taken : Bool) (h : Calm d e) : Calm d (Dev.baleCounts e b taken) := by
  have hfree (v : Nat) := h.setEl (k := K.granSpillBalesFree) (by decide) v
  exact setEl (not_portKey_stack (Nat.mod_lt b (by decide)) (by decide)) _ ((hfree _).ite h)

theorem freeBale (b : Nat) (h : Calm d e) : Calm d (Dev.freeBale e b) := by
  unfold Dev.freeBale
  split
  · exact h.baleDoubleFree b
  · extract_lets d₁ g d₂ d₃
    have h₁ : Calm d d₁ := ite (h.foldl _ fun _ r _ hx => hx.delPkt r.pkt) (h.addBacklog false)
    have h₂ : Calm d d₂ := h₁.setGran _
    have h₃ : Calm d d₃ := ite (h₂.setEl (by decide) _) h₂
    exact ((h₃.baleCounts b false).spillXoff).payOwed _

theorem closeBale (n : Nat) (h : Calm d e) : Calm d (Dev.closeBale e n) := by
  unfold Dev.closeBale
  extract_lets q
  split
  · exact h
  · extract_lets x d₁ d₂
    have h₁ : Calm d d₁ := (h.setQueue (by exact id)).setBale _ _
    have h₂ : Calm d d₂ := h₁.linkBale _ _ _ _ _
    exact ite ((h₂.freeBale _).perf (by decide) 5 1) h₁

theorem noteReturns (n : Nat) (h : Calm d e) : Calm d (Dev.noteReturns e n) := by
  unfold Dev.noteReturns
  split
  · exact h
  · exact h.setGran _

theorem mapFlying (n : Nat) (f : Desc → Desc) (h : Calm d e) : Calm d (Dev.mapFlying e n f) := by
  unfold Dev.mapFlying
  extract_lets o g d₁ p
  have h₁ : Calm d d₁ := h.setPort fun _ hi => by
    obtain ⟨htx, hsel, hpfc⟩ := hi
    exact ⟨by simp only [o, htx, Option.map_none], by simp only [o, hsel, List.map_nil], hpfc⟩
  exact ite (h₁.setPipe _ _) h₁

theorem drained (n : Nat) (h : Calm d e) : Calm d (Dev.drained e n) := by
  unfold Dev.drained
  extract_lets q items d₁
  have h₁ : Calm d d₁ := (h.setQueue (by exact id)).mapFlying _ _
  exact ite (h₁.setElQueue n _ 0) h

theorem enterDraining (n : Nat) (h : Calm d e) : Calm d (Dev.enterDraining e n) := ((h.setElQueue n _ 2).closeBale n).drained n

theorem windowMoved (n : Nat) (h : Calm d e) : Calm d (Dev.windowMoved e n) :=
  ite ((h.noteReturns n).enterDraining n) ((h.noteReturns n).drained n)

theorem gone (n : Nat) (x : Desc) (h : Calm d e) : Calm d (Dev.gone e n x) := (h.windowMoved n).ite h

theorem releaseFrom (n : Nat) (x : Desc) (h : Calm d e) : Calm d (Dev.releaseFrom e n x) := (h.releaseDesc x).gone n x

theorem unrefBale (b : Nat) (h : Calm d e) : Calm d (Dev.unrefBale e b) := (h.freeBale b).ite (h.setBale _ _)

theorem endRead (n b : Nat) (h : Calm d e) : Calm d (Dev.endRead e n b) := by
  unfold Dev.endRead
  split
  · exact h.setBale _ _
  · exact h

theorem cutBale (n b seq : Nat) (h : Calm d e) : Calm d (Dev.cutBale e n b seq) :=
  ((h.endRead n b).setQueue (by exact id)).addDescs _ _

end Sys2Proof.Machine.Calm

/-! Frames cut in transmission, and queues flushed. -/
namespace Sys2Proof.Machine.Calm
variable {d e : Dev}

theorem oweFix (x : Desc) (n : Nat) (ch : Charge) (h : Calm d e) : Calm d (Dev.oweFix e x n ch) := (h.setLink (by rfl)).ite h

/-! Transmit timestamps. -/

theorem not_portKey_txtsOverflow {n : Nat} (hn : n < 16) : ¬ PortKey (K.txtsOverflow n) := by
  simp only [PortKey, K.txtsOverflow, key]; omega

theorem txtsDiscard {n : Nat} (hn : n < 16) (h : Calm d e) : Calm d (Dev.txtsDiscard e n) :=
  ((h.setTxts _ _).count (not_portKey_txtsOverflow hn) 1).event _ _

theorem txtsPush {n : Nat} (hn : n < 16) (x : Nat × Nat) (h : Calm d e) : Calm d (Dev.txtsPush e n x) := by
  have hperf := h.perf (b := 0x10 + n) (by omega) 13 1
  exact ite (hperf.txtsDiscard hn) (ite ((hperf.setTxts _ _).raise _) (hperf.setTxts _ _))

theorem txtsFrame (p : Nat) (f : TxFrame) (bad : Bool) (h : Calm d e) : Calm d (Dev.txtsFrame e p f bad) :=
  h.ite (h.txtsPush (portPipe_lt p) _)

/-! The bytes of a frame. -/

theorem perfEgress (p c n : Nat) (h : Calm d e) : Calm d (Dev.perf e (0x10 + portPipe p) c n) :=
  h.perf (by have := portPipe_lt p; omega) c n

theorem ptpUpdate (p : Pkt) (f : TxFrame) (w : List Byte) (h : Calm d e) : Calm d (Dev.ptpUpdate e p f w).1 := by
  have hskip : Calm d (Dev.count e K.tsSkipped 1) := h.count (by decide) 1
  unfold Dev.ptpUpdate
  dsimp only
  split
  · exact h
  · split
    · exact hskip
    · split
      · split
        · exact hskip
        · exact (ite hskip h).count (by decide) 1
      · split
        · exact hskip
        · exact (h.count (by decide) 1).perfEgress _ _ _

theorem ioamFill (p : Pkt) (f : TxFrame) (l : Nat) (w : List Byte) (h : Calm d e) : Calm d (Dev.ioamFill e p f l w).1 := by
  have hskip : Calm d (Dev.count e K.ioamSkipped 1) := h.count (by decide) 1
  unfold Dev.ioamFill
  dsimp only
  split
  · exact h
  · split
    · exact hskip
    · split
      · exact hskip
      · split
        · exact hskip
        · split
          · exact h.count (by decide) 1
          · exact (h.count (by decide) 1).perfEgress _ _ _

theorem compose (f : TxFrame) (h : Calm d e) : Calm d (Dev.compose e f).1 := (h.ptpUpdate _ _ _).ioamFill _ _ _ _

/-! A frame or a packet that is dropped. -/

theorem cutFrame (p : Nat) (f : TxFrame) (h : Calm d e) : Calm d (Dev.cutFrame e p f) := by
  unfold Dev.cutFrame
  extract_lets r d₁ n d₂ d₃ k d₄
  have h₁ : Calm d d₁ := by
    unfold d₁ r
    split
    · exact h.compose f
    · exact h
  have h₄ : Calm d d₄ := ((h₁.useFree.emit _).countStat _ _ _).dropOut (.inr rfl) _ _ _ _ _ _
  exact ((h₄.txtsFrame _ _ _).oweFix _ _ _).releaseFrom _ _

theorem dropSelected (n : Nat) (x : Desc) (ch : Charge) (s : Sheaf) (fs : SMap Nat) (h : Calm d e) :
    Calm d (Dev.dropSelected e 0x2B n x ch s fs) :=
  (((h.oweFix x n ch).dropOut (.inr rfl) _ _ _ _ _ _).releaseFrom _ _).perfEgress _ _ _

theorem dropDesc (n : Nat) (x : Desc) (h : Calm d e) : Calm d (Dev.dropDesc e 0x27 n x) :=
  (h.dropOut (.inl rfl) _ _ _ _ _ _).releaseFrom _ _

theorem dropRecs (n : Nat) (x : Bale) (h : Calm d e) : Calm d (Dev.dropRecs e 0x27 n x) :=
  h.foldl _ fun _ _ _ hx => hx.dropOut (.inl rfl) _ _ _ _ _ _

theorem dropBaleUnread (n b seq : Nat) (h : Calm d e) : Calm d (Dev.dropBaleUnread e 0x27 n b seq) := by
  unfold Dev.dropBaleUnread
  extract_lets x d₁ d₂
  have h₁ : Calm d d₁ := h.dropRecs n x
  have h₂ : Calm d d₂ := h₁.ite (h₁.foldl _ fun _ r _ hx => hx.unref r.pkt)
  exact (h₂.cutBale _ _ _).unrefBale _

/-! Queues of a port that goes down. -/

theorem flushQueue (n : Nat) (h : Calm d e) : Calm d (Dev.flushQueue e n) := by
  unfold Dev.flushQueue
  extract_lets d₁ q d₂ d₃
  have h₁ : Calm d d₁ := h.foldl _ fun _ x _ hx => by
    cases x with
    | pkt y => exact hx.dropDesc n y
    | bale b s => exact hx.dropBaleUnread n b s
  have h₂ : Calm d d₂ := h₁.setQueue (by exact id)
  have h₃ : Calm d d₃ := ite (h₂.setElQueue n _ 0) h₂
  exact h₃.leave n

theorem flushPort (p : Nat) (h : Calm d e) : Calm d (Dev.flushPort e p) :=
  h.foldl _ fun _ n _ hx => (hx.flushQueue n).setQueue (by exact id)

end Sys2Proof.Machine.Calm

/-! The frame on its way in, which ends as its port goes down. -/
namespace Sys2Proof.Machine

/-- The ports' elements and the tables stay. -/
structure Kept (d e : Dev) : Prop where
  els : ∀ k, PortKey k → Dev.el e k = Dev.el d k
  tables : SameTables d e

namespace Calm
variable {d e : Dev}

theorem kept (h : Calm d e) : Kept d e := ⟨h.els, h.tables⟩

theorem countRx (p : Nat) (bs : List Byte) (mark : Nat) (h : Calm d e) : Calm d (Dev.countRx e p bs mark) := by
  unfold Dev.countRx
  extract_lets d₁ d₂
  have h₁ : Calm d d₁ := (h.countStat _ _ _).countStat _ _ _
  have h₂ : Calm d d₂ := ite (h₁.countStat _ _ _) (ite (h₁.countStat _ _ _) h₁)
  split
  · exact h₂.countStat _ _ _
  · exact h₂.countStat _ _ _
  · exact h₂.countStat _ _ _
  · exact h₂.countStat _ _ _
  · exact h₂

theorem tallyBytes (barn prof k len : Nat) (h : Calm d e) : Calm d (Dev.tallyBytes e barn prof k len) := by
  unfold Dev.tallyBytes
  split
  · exact h.tel _
  · exact h

/-! A charge corrected to the true length. -/

theorem setWheel (n : Nat) (w o : List (Nat × Nat)) (h : Calm d e) : Calm d (Dev.setWheel e n w o) := { h with }

theorem wheelDel (pipe own : Nat) (h : Calm d e) : Calm d (Dev.wheelDel e pipe own) := h.setWheel _ _ _

theorem wheelAdd (pipe own x : Nat) (h : Calm d e) : Calm d (Dev.wheelAdd e pipe own x) := by
  unfold Dev.wheelAdd
  extract_lets d₁ o d₂
  have h₁ : Calm d d₁ := h.wheelDel _ _
  have h₂ : Calm d d₂ := h₁.setWheel _ _ _
  exact ite (h₁.setWheel _ _ _) (ite (h₂.setEl (by decide) _) h₂)

theorem wheelMove (pipe own k x b : Nat) (h : Calm d e) : Calm d (Dev.wheelMove e pipe own k x b) :=
  h.ite ((h.wheelDel _ _).ite (h.wheelAdd _ _ _))

theorem qShaperMoved (n : Nat) (h : Calm d e) : Calm d (Dev.qShaperMoved e n) := by
  unfold Dev.qShaperMoved
  extract_lets k q b d₁
  have h₁ : Calm d d₁ := ite (h.countQueue n _ 1) h
  exact h₁.wheelMove _ _ _ _ _

theorem fixCharge (n : Nat) (ch : Charge) (len : Nat) (h : Calm d e) : Calm d (Dev.fixCharge e n ch len) := by
  unfold Dev.fixCharge
  extract_lets p q tag cost back q' d₁ o d₂ d₃ kp d₄ d₅
  have hq : q'.held = q.held := by
    unfold q'
    split <;> rfl
  have h₂ : Calm d d₂ := (h.setQueue (q := q') fun hh => hq.trans hh).setPort fun _ hi => hi
  have h₃ : Calm d d₃ := h₂.ite (h₂.qShaperMoved n)
  have h₅ : Calm d d₅ := (h₃.wheelMove _ _ _ _ _).recontendPort p
  exact ite (h₅.setElQueue n _ _) h₅

theorem fixLate (f : LateFix) (len : Nat) (h : Calm d e) : Calm d (Dev.fixLate e f len) := h.fixCharge _ _ _

/-! Flow control received. -/

theorem honourPfc (p : Nat) (bs : List Byte) (h : Calm d e) : Calm d (Dev.honourPfc e p bs) := by
  unfold Dev.honourPfc
  extract_lets en d₁
  have h₁ : Calm d d₁ := h.foldl _ fun _ _ _ hx => (hx.setPort (by exact fun _ hi => hi)).ite hx
  exact h₁.recontendPort p

theorem macControl (p : Nat) (bs : List Byte) (h : Calm d e) : Calm d (Dev.macControl e p bs) :=
  have hpfc := h.countStat p 8 1
  ite ((hpfc.honourPfc p bs).ite hpfc) (h.countStat _ _ _)

/-! Arrivals. -/

theorem not_portKey_tile {t : Nat} (ht : t < 16) {el : Nat} (hel : el < 256) : ¬ PortKey (key (0x0180 + t) el) := by
  simp only [PortKey, key]; omega

theorem rxDrop {code : Nat} (hc : code < 64) (p : Pkt) (h : Calm d e) : Calm d (Dev.rxDrop e code p) := by
  have hdrop := h.dropIn hc p false
  have ht := portPipe_lt p.inPort
  unfold Dev.rxDrop
  dsimp only
  split
  · exact hdrop.perf (by omega) 7 1
  · exact hdrop.count (not_portKey_tile ht (by decide)) 1
  · exact hdrop

theorem badFlits {t : Nat} (ht : t < 16) (named : Option Nat) (h : Calm d e) : Calm d (Dev.badFlits e t named) := by
  unfold Dev.badFlits
  extract_lets k d₁ d₂
  have h₁ : Calm d d₁ := h.ite h.useFree
  have h₂ : Calm d d₂ := (h₁.count (not_portKey_tile ht (by decide)) _).perf (by omega) _ _
  exact h₂.contained _ _ _ _ _

theorem intoArrival {n : Nat} (hn : n < 16) (i : Nat) (pk : Pkt) (w : RouriWay) (h : Calm d e) : Calm d (Dev.intoArrival e n i pk w) :=
  ite (h.rxDrop (by decide) pk) (ite ((h.badFlits hn _).rxDrop (by decide) pk)
    (ite (h.rxDrop (by decide) pk) ((h.setPipe _ _).setPkt _ _)))

theorem deparseIn (i : Nat) (h : Calm d e) : Calm d (Dev.deparseIn e i) := by
  unfold Dev.deparseIn
  extract_lets p run bad d₁ s
  have h₁ : Calm d d₁ := ite (h.count (by decide) 1) h
  exact h₁.setPkt _ _

theorem enqRest (n before after : Nat) (h : Calm d e) : Calm d (Dev.enqRest e n before after) := ite (h.countQueue n _ _) h

/-! The tail of a packet that has been enqueued. -/

theorem fixCells (x : Desc) (h : Calm d e) : Calm d (Dev.fixCells e x).1 := h.recharge _ _ _

theorem tailCharge (n : Nat) (x : Desc) (ch : Charge) (h : Calm d e) : Calm d (Dev.tailCharge e n x ch).1 := by
  unfold Dev.tailCharge
  extract_lets p r len d₁ d₂
  have h₁ : Calm d d₁ := (h.fixCells x).fixCharge _ _ _
  exact ite (h₁.countStat _ _ _) h₁

theorem tailSelected (n : Nat) (f : TxFrame) (h : Calm d e) : Calm d (Dev.tailSelected e n f).1 := by
  unfold Dev.tailSelected
  extract_lets r g
  have hr : Calm d r.1 := h.tailCharge _ _ _
  exact ite (hr.count (by decide) 1) hr

/-! Policing at the tail. -/

theorem setPolicer (i : Nat) (x : Policer) (h : Calm d e) : Calm d (Dev.setPolicer e i x) := { h with }

theorem police (now i len prof : Nat) (h : Calm d e) : Calm d (Dev.police e now i len prof).1 := by
  unfold Dev.police
  dsimp only
  split
  · exact h.setPolicer _ _
  · split
    · exact h.setPolicer _ _
    · exact (h.setPolicer _ _).count (by decide) 1

theorem policeTest (i : Nat) (h : Calm d e) : Calm d (Dev.policeTest e i).1 := by
  unfold Dev.policeTest
  extract_lets p at_ r
  have hr : Calm d r.1 := h.police _ _ _ _
  split
  · split
    · exact hr
    · exact (hr.dropIn (by decide) p true).freePkt i
  · exact h

end Calm

namespace Kept
variable {d e f : Dev}

theorem trans (h : Kept d e) (g : Kept e f) : Kept d f := ⟨fun k hk => (g.els k hk).trans (h.els k hk), h.tables.trans g.tables⟩

theorem calm (h : Kept d e) (g : Calm e f) : Kept d f := h.trans g.kept

theorem ite {c : Prop} [Decidable c] {a b : Dev} (ha : Kept d a) (hb : Kept d b) : Kept d (if c then a else b) := by
  split <;> assumption

theorem setPort (p : Nat) (o : OutPort) (h : Kept d e) : Kept d (Dev.setPort e p o) := ⟨h.els, h.tables⟩
theorem setQueue (n : Nat) (q : EQueue) (h : Kept d e) : Kept d (Dev.setQueue e n q) := ⟨h.els, h.tables⟩

theorem inSel (i n : Nat) (o : OutPort) (h : Kept d e) : Kept d (Dev.cutTail.inSel i n e o) := by
  unfold Dev.cutTail.inSel
  split
  · exact (h.calm (.tailSelected _ _ (.refl _))).setPort _ _
  · exact h

theorem cutTail (d : Dev) (i n : Nat) : Kept d (Dev.cutTail d i n) := by
  unfold Dev.cutTail
  extract_lets p q d₁ d₂ x left dDropped r fixed src dFixed
  have h₂ : Kept d d₂ := (((Calm.refl d).writeCells _ _).act _ _).kept
  refine ite (ite ?dropped ?queued) (ite ?stages ?line)
  case dropped =>
    have hdropped : Kept d dDropped := (h₂.setQueue _ _).calm (.subDepth _ _ _ (.refl _))
    exact hdropped.calm ((((Calm.refl _).dropIn (by decide) _ _).releaseDesc _).recontend _)
  case queued =>
    have hfixed : Kept d dFixed := (h₂.calm (.fixCells _ (.refl _))).setQueue _ _
    exact ite (hfixed.calm (.addDepth _ _ _ (.refl _))) (hfixed.calm (.subDepth _ _ _ (.refl _)))
  case stages => exact h₂.calm (((Calm.refl _).tailCharge _ _ _).setPipe _ _)
  case line =>
    split
    · exact ite ((h₂.calm (.tailSelected _ _ (.refl _))).setPort _ _) (h₂.inSel _ _ _)
    · exact h₂.inSel _ _ _

theorem tailOn (i : Nat) (bs : List Byte) (mark : Nat) (h : Kept d e) : Kept d (Dev.tailOn e i bs mark) := by
  refine h.trans ?_
  unfold Dev.tailOn
  split
  case h_1 => exact (Calm.refl e).kept
  case h_2 p _ =>
    extract_lets n d₁ left d₂ s d₃ r x
    have h₁ : Calm e d₁ := (Calm.refl e).setPkt _ _
    have h₂ : Calm e d₂ := (h₁.deparseIn i).ite h₁
    have hr : Calm e r.1 := (h₂.setPkt _ _).policeTest i
    refine ite ?cut (ite (ite hr.kept (hr.setPipe _ _).kept) h₂.kept)
    case cut => exact (h₂.kept.trans (cutTail _ _ _)).calm (.enqRest _ _ _ (.refl _))

theorem overArrival {n i extra : Nat} {x : Dev} (hx : Dev.overArrival e n i extra = some x) (h : Kept d e) : Kept d x := by
  unfold Dev.overArrival at hx
  dsimp only at hx
  split at hx
  · cases hx
    exact h.calm ((((Calm.refl e).rxDrop (by decide) _).setPipe _ _).delPkt i)
  · cases hx

theorem rxTail (d : Dev) {p : Nat} (more : List Byte) (e : RxEnd) (fecBad : Bool) (w : RouriWay) :
    Kept d (Dev.rxTail d p more e fecBad w) := by
  unfold Dev.rxTail
  extract_lets l
  split
  case h_1 => exact (Calm.refl d).kept
  case h_2 x _ =>
    have hn := portPipe_lt p
    extract_lets bs mark d₁ d₂ d₃ d₄
    have h₁ : Calm d d₁ := ((Calm.refl d).setLink (by rfl)).countRx _ _ _
    have h₂ : Calm d d₂ := (h₁.contained _ _ _ _ _).ite h₁
    have h₃ : Calm d d₃ := by
      unfold d₃
      split
      · exact h₂.tallyBytes _ _ _ _
      · exact h₂
    have h₄ : Calm d d₄ := by
      unfold d₄
      split
      · exact h₃.fixLate _ _
      · exact h₃
    split
    case h_1 => exact (ite (h₄.macControl p bs).kept (h₄.intoArrival hn _ _ _).kept)
    case h_2 =>
      refine ite ((h₄.badFlits hn _).kept.tailOn _ _ _) ?_
      cases hover : Dev.overArrival d₄ (portPipe p) x.1 more.length with
      | none => exact h₄.kept.tailOn _ _ _
      | some y => exact overArrival hover h₄.kept

theorem endRx (d : Dev) (p : Nat) : Kept d (Dev.endRx d p) := rxTail d _ _ _ _

end Kept

end Sys2Proof.Machine

/-! A port that goes down (R55, R57 to R59, R187). -/
namespace Sys2Proof.Machine

/-- One queue of a port that goes down: its open bale is closed, and it is held and out of contention (R187). -/
def Dev.holdQueue (d : Dev) (n : Nat) : Dev :=
  let d := Dev.closeBale d n
  Dev.leave (Dev.setQueue d n { Dev.queue d n with held := true }) n

theorem Calm.holdQueue {d e : Dev} (n : Nat) (h : Calm d e) : Calm d (Dev.holdQueue e n) :=
  ((h.closeBale n).setQueue fun _ => rfl).leave n

theorem held_holdQueue (d : Dev) (n : Nat) : (Dev.queue (Dev.holdQueue d n) n).held = true :=
  ((Calm.refl _).leave n).held n (by rw [queue_setQueue_same])

theorem held_holdQueues {d : Dev} {n : Nat} {ns : List Nat} (hn : n ∈ ns) : (Dev.queue (ns.foldl Dev.holdQueue d) n).held = true := by
  induction ns generalizing d with
  | nil => cases hn
  | cons m t ih =>
    rcases List.mem_cons.mp hn with rfl | ht
    · exact ((Calm.refl _).foldl t fun _ k _ hx => hx.holdQueue k).held n (held_holdQueue d n)
    · exact ih ht

/-- What the fall of a port does to its packets: its queues are held, and, since it is down by then, its line stays empty. -/
theorem holdPort_spec {d : Dev} {p : Nat} (hdown : Dev.portUp d p = false) :
    Calm d (Dev.holdPort d p) ∧ (Dev.port (Dev.holdPort d p) p).Idle
      ∧ ∀ n ∈ portQueues p, (Dev.queue (Dev.holdPort d p) n).held = true := by
  unfold Dev.holdPort
  extract_lets o d₁ d₂ d₃ n src d₄ d₅
  have h₁ : Calm d d₁ := (Calm.refl d).setPort fun _ _ => ⟨rfl, rfl, rfl⟩
  have hidle : (Dev.port d₁ p).Idle := by
    rw [port_setPort_same]
    exact ⟨rfl, rfl, rfl⟩
  have h₂ : Calm d₁ d₂ := by
    unfold d₂
    split
    · exact (Calm.refl d₁).cutFrame _ _
    · exact .refl d₁
  have h₃ : Calm d₁ d₃ := h₂.foldl _ fun _ _ _ hx => hx.dropSelected _ _ _ _ _
  have h₅ : Calm d₁ d₅ := by
    unfold d₅
    split
    · exact (h₃.setPipe _ _).dropSelected _ _ _ _ _
    · exact h₃
  have h₆ : Calm d₁ ((portQueues p).foldl Dev.holdQueue d₅) := h₅.foldl _ fun _ n _ hx => hx.holdQueue n
  exact ⟨h₁.trans h₆, h₆.idle p ((h₁.portUp p).trans hdown) hidle, fun n hn => held_holdQueues hn⟩

/-- What follows the hold leaves the queues held and the line empty, whether they are flushed at once or later. -/
theorem calm_holdOrFlush (d : Dev) (p : Nat) (now : Bool) :
    Calm d (if now then Dev.flushPort (Dev.setLink d p { Dev.linkS d p with hold := false }) p
      else Dev.setLink d p { Dev.linkS d p with hold := true }) :=
  .ite (((Calm.refl d).setLink (by rfl)).flushPort p) ((Calm.refl d).setLink (by rfl))

theorem downQueues_spec {d : Dev} {p : Nat} (hdown : Dev.portUp d p = false) :
    Calm d (Dev.downQueues d p false) ∧ (Dev.port (Dev.downQueues d p false) p).Idle
      ∧ ∀ n ∈ portQueues p, (Dev.queue (Dev.downQueues d p false) n).held = true := by
  obtain ⟨hcalm, hidle, hheld⟩ := holdPort_spec hdown
  have hrest : Calm (Dev.holdPort d p) (Dev.downQueues d p false) :=
    calm_holdOrFlush _ p _
  exact ⟨hcalm.trans hrest, hrest.idle p ((hcalm.portUp p).trans hdown) hidle, fun n hn => hrest.held n (hheld n hn)⟩

/-! The restart. -/

/-- What a restart keeps of the port's own elements: its reason and its flaps (R59). -/
def KeptByRestart (p k : Nat) : Prop := k = K.portDownReason p ∨ k = K.portFlaps p

theorem offBringUp_keptByRestart (d : Dev) (p : Nat) : OffBringUp (KeptByRestart p) d p where
  state := by rintro (h | h) <;> simp only [K.portState, K.portDownReason, K.portFlaps, key] at h <;> omega
  adapt n _ := by rintro (h | h) <;> simp only [K.laneAdaptState, K.portDownReason, K.portFlaps, key] at h <;> omega
  nrz := by rintro (h | h) <;> simp only [K.tilePllNrz, K.portDownReason, K.portFlaps, key] at h <;> omega
  power := by rintro (h | h) <;> simp only [K.tileLanePower, K.portDownReason, K.portFlaps, key] at h <;> omega

theorem steady_restart (d : Dev) (p : Nat) : Steady (KeptByRestart p) (fun _ => False) d (Dev.toNegotiate d p) :=
  (Steady.refl d).toNegotiate (offBringUp_keptByRestart d p) id

theorem trainState_ne (d : Dev) (p : Nat) : Dev.trainState d p ≠ 5 := by
  unfold Dev.trainState
  split <;> decide

theorem portState_restart {d : Dev} {p : Nat} (h : Dev.el d (K.portState p) ≠ 5) :
    Dev.el (Dev.toNegotiate d p) (K.portState p) ≠ 5 := by
  unfold Dev.toNegotiate
  split
  · exact h
  · split
    · split
      · exact h
      · rw [portState_setPortState]; decide
    · rw [portState_toTrain]; exact trainState_ne _ p

end Sys2Proof.Machine

/-! The fall itself, from the last frame received to the restart. -/
namespace Sys2Proof.Machine

theorem SameTraffic.queue {d e : Dev} (h : SameTraffic d e) (n : Nat) : Dev.queue e n = Dev.queue d n := by
  obtain ⟨-, -, hq, -⟩ := h
  simp only [Dev.queue, hq]

theorem SameTraffic.port {d e : Dev} (h : SameTraffic d e) (p : Nat) : Dev.port e p = Dev.port d p := by
  obtain ⟨-, -, -, hp, -⟩ := h
  simp only [Dev.port, hp]

/-- A port is marked down: its link's conditions are over, it stands in state 6 with its reason, and the fall is counted. -/
def Dev.markDown (d : Dev) (p reason : Nat) : Dev :=
  let d := Dev.setLink d p { Dev.linkS d p with conds := [], debounce := false, retry := false }
  let d := Dev.setEl (Dev.setPortState (Dev.adaptOff d (Dev.portLanes d p)) p 6) (K.portDownReason p) reason
  Dev.addEl (Dev.setEl d (K.portLastChange p) (Dev.tb0Elem d)) 32 (K.portFlaps p) 1

theorem portDown_eq {d : Dev} {p reason : Nat} (hup : Dev.el d (K.portState p) = 5) :
    Dev.portDown d p reason
      = Dev.toNegotiate (Dev.downQueues (Dev.event (Dev.markDown (Dev.backgrounds (Dev.endRx d p) (Dev.portLanes d p)) p reason) 0 2)
          p false) p := by
  unfold Dev.portDown
  rw [if_neg (not_not.mpr hup)]
  rfl

theorem markDown_spec (d : Dev) (p reason : Nat) :
    let x := Dev.markDown d p reason
    Dev.el x (K.portState p) = 6 ∧ Dev.el x (K.portDownReason p) = reason
      ∧ Dev.el x (K.portFlaps p) = (Dev.el d (K.portFlaps p) + 1) % 2 ^ 32 ∧ (Dev.linkS x p).conds = [] ∧ SameTables d x := by
  unfold Dev.markDown
  extract_lets src d₁ d₂ x
  have hstep : Steady (KeptByRestart p) (fun _ => False) d₁ (Dev.setPortState (Dev.adaptOff d₁ (Dev.portLanes d₁ p)) p 6) :=
    have ho := offBringUp_keptByRestart d₁ p
    ((Steady.refl d₁).adaptOff ho.adapt).setPortState ho.state ho.nrz ho.power 6
  have hmark : Steady (fun _ => False) (fun _ => False) d₁ x :=
    (((hstep.mono fun _ => False.elim).setEl id _).setEl id _).setEl id _
  have hreason : K.portState p ≠ K.portDownReason p := by simp only [K.portState, K.portDownReason, key]; omega
  have hchange {k : Nat} (hk : k ≠ K.portLastChange p) (hk' : k ≠ K.portFlaps p) : Dev.el x k = Dev.el d₂ k :=
    (el_setEl_ne _ _ _ _ hk').trans (el_setEl_ne _ _ _ _ hk)
  refine ⟨?state, ?reason, ?flaps, ?conds, hmark.tables⟩
  case state =>
    rw [hchange (by simp only [K.portState, K.portLastChange, key]; omega) (by simp only [K.portState, K.portFlaps, key]; omega)]
    exact (el_setEl_ne _ _ _ _ hreason).trans (portState_setPortState ..)
  case reason =>
    rw [hchange (by simp only [K.portDownReason, K.portLastChange, key]; omega) (by simp only [K.portDownReason, K.portFlaps, key]; omega)]
    exact el_setEl_same ..
  case flaps =>
    have hbefore : Dev.el (Dev.setEl d₂ (K.portLastChange p) (Dev.tb0Elem d₂)) (K.portFlaps p) = Dev.el d (K.portFlaps p) := by
      rw [el_setEl_ne _ _ _ _ (by simp only [K.portFlaps, K.portLastChange, key]; omega),
        el_setEl_ne _ _ _ _ (by simp only [K.portFlaps, K.portDownReason, key]; omega)]
      exact hstep.els _ (.inr rfl)
    exact (el_setEl_same ..).trans (by rw [hbefore])
  case conds => rw [hmark.conds, linkS_setLink_same]

/-- An up port that goes down with `reason` (R57 to R59, R187): the statement's `falls`, seen from a part with the same flaps. -/
theorem portDown_spec {d : Dev} {p : Fin 1024} (reason : Nat) (hup : Dev.el d (K.portState p) = 5) :
    let x := Dev.portDown d p reason
    Dev.el x (K.portState p) ≠ 5 ∧ Dev.el x (K.portDownReason p) = reason
      ∧ Dev.el x (K.portFlaps p) = (Dev.el d (K.portFlaps p) + 1) % 2 ^ 32
      ∧ (Dev.linkS x p).conds = []
      ∧ (∀ q : Fin 16, (Dev.queue x (p * 16 + q)).held = true)
      ∧ (Dev.port x p).tx = none ∧ (Dev.port x p).sel = [] ∧ (Dev.port x p).pfc = []
      ∧ (Dev.hp x 0).evtCause.getLsbD 0 = true ∧ (Dev.hp x 1).evtCause.getLsbD 0 = true ∧ SameTables d x := by
  have hp := p.isLt
  rw [portDown_eq hup]
  generalize hlast : Dev.backgrounds (Dev.endRx d p) (Dev.portLanes d p) = last
  have hend : Kept d last := by
    rw [← hlast]
    exact (Kept.endRx d p).calm (.of_steady (L := fun _ => False) ((Steady.refl _).backgrounds _))
  obtain ⟨hstate, hreason, hflaps, hconds, htables⟩ := markDown_spec last p reason
  generalize Dev.markDown last p reason = marked at *
  have hevent : Calm marked (Dev.event marked 0 2) := (Calm.refl marked).event 0 2
  have hcause {q : Nat} (hq : q < 2) : (Dev.hp (Dev.event marked 0 2) q).evtCause.getLsbD 0 = true := cause_event (by decide) hq
  generalize Dev.event marked 0 2 = told at *
  have hkstate := portKey_portState hp
  have hkreason : PortKey (K.portDownReason p) := portKey_of_el hp (by decide)
  have hkflaps : PortKey (K.portFlaps p) := portKey_of_el hp (by decide)
  have hdown : Dev.portUp told p = false := by
    rw [hevent.portUp]
    simp [Dev.portUp, hstate, hp]
  obtain ⟨hqueues, ⟨htx, hsel, hpfc⟩, hheld⟩ := downQueues_spec hdown
  have hall := hevent.trans hqueues
  have hrestart := steady_restart (Dev.downQueues told p false) p
  generalize Dev.downQueues told p false = held at *
  have hport := hrestart.traffic.port p
  refine ⟨portState_restart ?state, ?reason, ?flaps, ?conds, fun q => ?held, ?tx, ?sel, ?pfc, ?causeA, ?causeB, ?tables⟩
  case state => rw [hall.els _ hkstate, hstate]; decide
  case reason => rw [hrestart.els _ (.inl rfl), hall.els _ hkreason, hreason]
  case flaps => rw [hrestart.els _ (.inr rfl), hall.els _ hkflaps, hflaps, hend.els _ hkflaps]
  case conds => rw [hrestart.conds, hall.conds, hconds]
  case held =>
    rw [hrestart.traffic.queue]
    exact hheld _ (List.mem_map.mpr ⟨q, List.mem_range.mpr q.isLt, rfl⟩)
  case tx => rw [hport, htx]
  case sel => rw [hport, hsel]
  case pfc => rw [hport, hpfc]
  case causeA => exact hrestart.cause 0 0 (hqueues.cause 0 0 (hcause (by decide)))
  case causeB => exact hrestart.cause 1 0 (hqueues.cause 1 0 (hcause (by decide)))
  case tables => exact hend.tables.trans (htables.trans (hall.tables.trans hrestart.tables))

end Sys2Proof.Machine

/-! A port that comes up, and conditions that come and go (R55, R57, R58, R188), and O26. -/
namespace Sys2Proof.Machine

/-! Coming up. -/

theorem portQueues_nodup (p : Nat) : (portQueues p).Nodup := List.nodup_range.map (fun _ _ h => by simpa using h)

/-- One change of each of several queues: every field but the queues stays. -/
theorem foldl_setQueue_eq (g : EQueue → EQueue) (ns : List Nat) (hns : ns.Nodup) (d : Dev) :
    ∃ queues, ns.foldl (fun d n => Dev.setQueue d n (g (Dev.queue d n))) d = { d with queues := queues }
      ∧ ∀ n, SMap.get queues n EQueue.init = if n ∈ ns then g (Dev.queue d n) else Dev.queue d n := by
  induction ns generalizing d with
  | nil => exact ⟨d.queues, rfl, fun n => rfl⟩
  | cons m t ih =>
    obtain ⟨hm, ht⟩ := List.nodup_cons.mp hns
    obtain ⟨queues, hfold, hqueues⟩ := ih ht (Dev.setQueue d m (g (Dev.queue d m)))
    refine ⟨queues, hfold, fun n => ?_⟩
    rw [hqueues]
    by_cases hn : n = m
    · subst hn
      rw [if_neg hm, if_pos List.mem_cons_self, queue_setQueue_same]
    · simp only [List.mem_cons, hn, false_or, queue_setQueue_ne _ _ _ _ hn]

/-- A queue of a port that is back: it runs, unless a flush of it does (R188). -/
def EQueue.released (q : EQueue) : EQueue := { q with held := q.held && q.flushing }

/-- Releasing a port's queues moves no packet, and leaves held those that flush. -/
theorem releasePort_spec (d : Dev) (p : Nat) :
    let x := Dev.releasePort d p
    (∀ n ∈ portQueues p, (Dev.queue x n).held = ((Dev.queue d n).held && (Dev.queue d n).flushing)
        ∧ (Dev.queue x n).items = (Dev.queue d n).items)
      ∧ (∀ k, PortKey k → Dev.el x k = Dev.el d k)
      ∧ (∀ q b, (Dev.hp d q).evtCause.getLsbD b = true → (Dev.hp x q).evtCause.getLsbD b = true)
      ∧ x.pkts = d.pkts ∧ x.pipes = d.pipes ∧ x.buf = d.buf ∧ x.gran = d.gran ∧ SameTables d x := by
  obtain ⟨queues, hfold, hqueues⟩ := foldl_setQueue_eq EQueue.released (portQueues p) (portQueues_nodup p) d
  have hrest : Resumed { d with queues := queues } (Dev.releasePort d p) := by
    rw [← hfold]
    exact ((Resumed.refl _).pfcPresent p).recontendPort p
  refine ⟨fun n hn => ?_, hrest.els, hrest.cause, hrest.pkts, hrest.pipes, hrest.buf, hrest.gran, hrest.tables⟩
  obtain ⟨hheld, hitems⟩ := hrest.queues n
  have hreleased : Dev.queue { d with queues := queues } n = (Dev.queue d n).released := (hqueues n).trans (if_pos hn)
  rw [hheld, hitems, hreleased]
  exact ⟨rfl, rfl⟩

/-- The port is marked up: state 5, the time of the change and one link-up more (R55, R59). -/
def Dev.markUp (d : Dev) (p : Nat) : Dev :=
  let d := Dev.setLink d p { Dev.linkS d p with conds := [], debounce := false, hold := false }
  let d := Dev.setPortState (Dev.setAdapt d (Dev.portLanes d p) 2) p 5
  Dev.addEl (Dev.setEl d (K.portLastChange p) (Dev.tb0Elem d)) 32 (K.portLinkUps p) 1

theorem markUp_spec {d : Dev} {p : Nat} (hp : p < 1024) (hw : p + Dev.portWidth d p ≤ 1024) :
    let x := Dev.markUp d p
    Dev.el x (K.portState p) = 5 ∧ Dev.el x (K.portLinkUps p) = (Dev.el d (K.portLinkUps p) + 1) % 2 ^ 32
      ∧ Dev.el x (K.portLastChange p) = Dev.tb0Elem d ∧ SameTraffic d x ∧ SameTables d x := by
  unfold Dev.markUp
  extract_lets src d₁ d₂ x
  have ho : OffBringUp (KeptPorts p) d₁ p := offBringUp_keptPorts hp hw
  have hstep : Steady (KeptPorts p) (fun _ => False) d₁ d₂ :=
    ((Steady.refl d₁).setAdapt ho.adapt 2).setPortState ho.state ho.nrz ho.power 5
  have hmark : Steady (fun _ => False) (fun _ => False) d₁ x := ((hstep.mono fun _ => False.elim).setEl id _).setEl id _
  have hups : KeptPorts p (K.portLinkUps p) :=
    ⟨portKey_of_el hp (by decide), by simp only [K.portLinkUps, K.portState, key]; omega⟩
  refine ⟨?state, ?ups, ?change, hmark.traffic, hmark.tables⟩
  case state =>
    refine (el_setEl_ne _ _ _ _ (by simp only [K.portState, K.portLinkUps, key]; omega)).trans ?_
    exact (el_setEl_ne _ _ _ _ (by simp only [K.portState, K.portLastChange, key]; omega)).trans (portState_setPortState ..)
  case ups =>
    have hbefore : Dev.el (Dev.setEl d₂ (K.portLastChange p) (Dev.tb0Elem d₂)) (K.portLinkUps p) = Dev.el d (K.portLinkUps p) := by
      rw [el_setEl_ne _ _ _ _ (by simp only [K.portLinkUps, K.portLastChange, key]; omega)]
      exact hstep.els _ hups
    exact (el_setEl_same ..).trans (by rw [hbefore])
  case change =>
    refine (el_setEl_ne _ _ _ _ (by simp only [K.portLastChange, K.portLinkUps, key]; omega)).trans ((el_setEl_same ..).trans ?_)
    simp only [Dev.tb0Elem, Dev.base, hstep.time]
    rfl

theorem steady_milestone {P L : Nat → Prop} {d e : Dev} (i : Nat) (h : Steady P L d e) : Steady P L d (Dev.milestone e i) :=
  (h.setBlob _ _).ite h

/-- The statement's clause for a port that comes up. -/
theorem portUpNow_spec {d : Dev} {p : Fin 1024} (hw : p.val + Dev.portWidth d p ≤ 1024) :
    let x := Dev.portUpNow d p
    Dev.el x (K.portState p) = 5
      ∧ Dev.el x (K.portLinkUps p) = (Dev.el d (K.portLinkUps p) + 1) % 2 ^ 32 ∧ Dev.el x (K.portLastChange p) = Dev.tb0Elem d
      ∧ (∀ q : Fin 16, (Dev.queue x (p * 16 + q)).held = ((Dev.queue d (p * 16 + q)).held && (Dev.queue d (p * 16 + q)).flushing)
          ∧ (Dev.queue x (p * 16 + q)).items = (Dev.queue d (p * 16 + q)).items)
      ∧ (Dev.hp x 0).evtCause.getLsbD 0 = true ∧ (Dev.hp x 1).evtCause.getLsbD 0 = true
      ∧ x.pkts = d.pkts ∧ x.pipes = d.pipes ∧ x.buf = d.buf ∧ x.gran = d.gran ∧ SameTables d x := by
  have hp := p.isLt
  obtain ⟨hstate, hups, hchange, htraffic, htables⟩ := markUp_spec hp hw
  have hunfold : Dev.portUpNow d p = Dev.releasePort (Dev.milestone (Dev.event (Dev.markUp d p) 0 2) 3) p := rfl
  rw [hunfold]
  generalize Dev.markUp d p = marked at *
  have hpast : Steady (fun _ => False) (fun _ => True) (Dev.event marked 0 2) (Dev.milestone (Dev.event marked 0 2) 3) :=
    steady_milestone 3 (.refl _)
  have htold : Steady PortKey (fun _ => True) marked (Dev.milestone (Dev.event marked 0 2) 3) :=
    steady_milestone 3 ((Steady.refl marked).event unnoted_portKey 0 2)
  have hcause {q : Nat} (hq : q < 2) : (Dev.hp (Dev.milestone (Dev.event marked 0 2) 3) q).evtCause.getLsbD 0 = true :=
    hpast.cause q 0 (cause_event (by decide) hq)
  generalize Dev.milestone (Dev.event marked 0 2) 3 = told at *
  obtain ⟨hqueues, hels, hcauses, hpkts, hpipes, hbuf, hgran, hrest⟩ := releasePort_spec told p
  have hall := htraffic.trans htold.traffic
  have hel {e : Nat} (he : e < 256) :
      Dev.el (Dev.releasePort told p) (key (0x1400 + p) e) = Dev.el marked (key (0x1400 + p) e) :=
    (hels _ (portKey_of_el hp he)).trans (htold.els _ (portKey_of_el hp he))
  refine ⟨(hel (by decide)).trans hstate, (hel (by decide)).trans hups, (hel (by decide)).trans hchange, fun q => ?_,
    hcauses 0 0 (hcause (by decide)), hcauses 1 0 (hcause (by decide)), ?_⟩
  · have hq := hqueues _ (List.mem_map.mpr ⟨q, List.mem_range.mpr q.isLt, rfl⟩)
    simp only [hall.queue] at hq
    exact hq
  · obtain ⟨hpipes', hpkts', -, -, hbuf', hgran', -⟩ := hall
    exact ⟨hpkts.trans hpkts', hpipes.trans hpipes', hbuf.trans hbuf', hgran.trans hgran', htables.trans (htold.tables.trans hrest)⟩

end Sys2Proof.Machine

/-! Conditions of a link (R57, R58). -/
namespace Sys2Proof.Machine

/-- A loss of signal is counted on its lane (R67). -/
def Dev.countLos (d : Dev) (p : Nat) (c : LinkCond) : Dev :=
  match c with
  | .los k => if k.val < Dev.portWidth d p then Dev.addEl d 32 (K.laneLosEvents (p + k)) 1 else d
  | _ => d

theorem exec_linkFaultDetect (p : Fin 1024) (c : LinkCond) (s : State) : exec (.linkFaultDetect p c) s
    = liftTile p (fun d => Dev.linkFault (Dev.countLos d p c) p (LinkCond.reason c)) s := rfl
theorem exec_linkFaultClear (p : Fin 1024) (c : LinkCond) (s : State) :
    exec (.linkFaultClear p c) s = liftTile p (fun d => Dev.linkClear d p (LinkCond.reason c)) s := rfl
theorem exec_portDownDebounce (p : Fin 1024) (s : State) :
    exec (.portDownDebounce p) s = liftTile p (fun d => Dev.debounceDown d p) s := rfl

theorem steady_countLos {d : Dev} {p : Nat} (hw : p + Dev.portWidth d p ≤ 1024) (c : LinkCond) :
    Steady PortKey (fun _ => True) d (Dev.countLos d p c) := by
  unfold Dev.countLos
  split
  case h_1 k =>
    split
    case isTrue hk =>
      refine (Steady.refl d).setEl (fun h => ?_) _
      have := h.1
      simp only [K.laneLosEvents, key] at this
      omega
    case isFalse => exact .refl d
  case h_2 => exact .refl d

/-- An up port notes a condition: it is listed once, and with one of the receive side remote fault is sent (R58). -/
def Dev.noteFault (d : Dev) (p reason : Nat) : Dev :=
  let l := Dev.linkS d p
  let d := Dev.setLink d p { l with conds := if l.conds.contains reason then l.conds else l.conds ++ [reason] }
  if rxConds [reason] then Dev.sendRemoteFault d p true else d

theorem linkFault_up {d : Dev} {p reason : Nat} (hup : Dev.el d (K.portState p) = 5) :
    Dev.linkFault d p reason
      = if Dev.el (Dev.noteFault d p reason) (K.portDebounceDown p) = 0 then Dev.portDown (Dev.noteFault d p reason) p reason
        else Dev.noteFault d p reason := by
  unfold Dev.linkFault
  exact if_pos hup

theorem noteFault_spec (d : Dev) (p reason : Nat) :
    let x := Dev.noteFault d p reason
    let l := Dev.linkS d p
    x.dict = d.dict ∧ (Dev.linkS x p).conds = (if l.conds.contains reason then l.conds else l.conds ++ [reason])
      ∧ (rxConds [reason] = true → (Dev.linkS x p).sendsRf = true) ∧ SameTraffic d x ∧ SameTables d x := by
  unfold Dev.noteFault
  extract_lets l d₁ x
  have hsent : Steady (fun _ => True) (fun _ => False) d₁ x := Steady.ite ((Steady.refl d₁).sendRemoteFault id true) (.refl d₁)
  refine ⟨?dict, ?conds, fun hrx => ?sends, hsent.traffic, hsent.tables⟩
  case dict =>
    unfold x
    split
    · exact sendRemoteFault_dict ..
    · rfl
  case conds => rw [hsent.conds, linkS_setLink_same]
  case sends => rw [show x = Dev.sendRemoteFault d₁ p true from if_pos hrx, linkS_sendRemoteFault_same]

theorem rxConds_reason {c : LinkCond} (h : c ≠ .remoteFault) : rxConds [LinkCond.reason c] = true := by
  cases c with
  | remoteFault => exact absurd rfl h
  | los k => rfl
  | lock => rfl
  | ser => rfl
  | localFault => rfl

theorem rxConds_eq (cs : List Nat) : rxConds cs = cs.any (fun r => [1, 2, 3, 5].contains r) := by
  simp [rxConds, Bool.or_assoc, beq_eq_decide]

theorem linkS_linkClear_ne (d : Dev) {p q : Nat} (reason : Nat) (h : q ≠ p) :
    Dev.linkS (Dev.linkClear d p reason) q = Dev.linkS d q := by
  unfold Dev.linkClear
  extract_lets l conds d₁
  have h₁ : Dev.linkS d₁ q = Dev.linkS d q := linkS_setLink_ne _ _ _ _ h
  split
  · rw [linkS_sendRemoteFault_ne _ _ h, h₁]
  · exact h₁

theorem linkS_linkClear_same (d : Dev) (p reason : Nat) :
    let l := Dev.linkS d p
    let left := l.conds.filter (fun r => r != reason)
    Dev.linkS (Dev.linkClear d p reason) p = { l with
      conds := left
      sendsRf := l.sendsRf && !(Dev.el d (K.portState p) == 5 && !left.any (fun r => [1, 2, 3, 5].contains r)) } := by
  intro l left
  unfold Dev.linkClear
  rw [← rxConds_eq]
  extract_lets d₁
  have hstate : Dev.el d₁ (K.portState p) = Dev.el d (K.portState p) := rfl
  have h₁ : Dev.linkS d₁ p = { l with conds := left } := linkS_setLink_same ..
  rw [hstate]
  split
  case isTrue h =>
    obtain ⟨hup, hrx⟩ := h
    rw [linkS_sendRemoteFault_same, h₁, hup, show rxConds left = false from hrx]
    simp
  case isFalse h =>
    have hkeep : (Dev.el d (K.portState p) == 5 && !rxConds left) = false := by
      rw [← Bool.not_eq_true]
      simpa using h
    rw [h₁, hkeep]
    simp

theorem linkClear_frame (d : Dev) (p reason : Nat) :
    (Dev.linkClear d p reason).dict = d.dict ∧ SameTraffic d (Dev.linkClear d p reason) ∧ SameTables d (Dev.linkClear d p reason) := by
  obtain ⟨links, out, h⟩ := linkClear_eq d p reason
  rw [h]
  exact ⟨rfl, ⟨rfl, rfl, rfl, rfl, rfl, rfl, rfl⟩, rfl, rfl⟩

/-- Settles O26: a port comes up as `portUpNow_spec` says and falls as `portDown_spec` says; a condition by itself moves its link alone. -/
theorem portsComeUpAndGoDown : Obligations.PortsComeUpAndGoDown := by
  unfold Obligations.PortsComeUpAndGoDown
  refine ⟨?on, ?off⟩
  case on =>
    intro p s hl hw hon d l falls
    have hkey {e : Nat} (he : e < 256) : PortKey (key (0x1400 + p) e) := portKey_of_el p.isLt he
    have hfalls {i : Instr} {f : Dev → Dev} {e : Dev} {r : Nat} (hexec : exec i s = liftTile p f s) (hf : f d = Dev.portDown e p r)
        (hup : Dev.el e (K.portState p) = 5) (hflaps : Dev.el e (K.portFlaps p) = Dev.el d (K.portFlaps p)) (htables : SameTables d e) :
        falls i r := by
      obtain ⟨hstate, hreason, hcount, hconds, hheld, htx, hsel, hpfc, hA, hB, hsame⟩ := portDown_spec r hup
      exact (does_liftTile_iff hexec hl hon).mpr (hf ▸ ⟨hstate, hreason, hcount.trans (by rw [hflaps]), hconds, hheld, htx, hsel, hpfc,
        hA, hB, htables.trans hsame⟩)
    have hdetect (c : LinkCond) := exec_linkFaultDetect p c s
    have hlos (c : LinkCond) : Steady PortKey (fun _ => True) d (Dev.countLos d p c) := steady_countLos hw c
    have hcounted (c : LinkCond) : Dev.el (Dev.countLos d p c) (K.portState p) = Dev.el d (K.portState p)
        ∧ Dev.el (Dev.countLos d p c) (K.portDebounceDown p) = Dev.el d (K.portDebounceDown p)
        ∧ Dev.linkS (Dev.countLos d p c) p = l :=
      ⟨(hlos c).els _ (hkey (by decide)), (hlos c).els _ (hkey (by decide)), (hlos c).links p trivial⟩
    refine ⟨fun hst hdeb hok => ?up, fun hst hdown c => ?noted, fun hst hdown c => ?atOnce, fun hst r t hr => ?debounced,
      fun hnone => ?none, fun c => ?clear⟩
    case up =>
      rw [does_liftTile_iff (exec_portDebounceUp p s) hl hon]
      unfold Dev.debounceUp
      rw [if_pos ⟨hst, hdeb, hok⟩]
      exact portUpNow_spec hw
    case noted =>
      obtain ⟨hstate, hdebounce, hlink⟩ := hcounted c
      obtain ⟨hdict, hconds, hsends, htraffic, htables⟩ := noteFault_spec (Dev.countLos d p c) p (LinkCond.reason c)
      have hel (k : Nat) := el_congr hdict k
      rw [hlink] at hconds
      rw [does_liftTile_iff (hdetect c) hl hon, linkFault_up (hstate.trans hst), if_neg (by rw [hel, hdebounce]; exact hdown)]
      exact ⟨by rw [hel, hstate, hst], hconds, fun hc => hsends (rxConds_reason hc), (hlos c).traffic.trans htraffic,
        (hlos c).tables.trans htables⟩
    case atOnce =>
      obtain ⟨hstate, hdebounce, -⟩ := hcounted c
      obtain ⟨hdict, -, -, -, htables⟩ := noteFault_spec (Dev.countLos d p c) p (LinkCond.reason c)
      have hel (k : Nat) := el_congr hdict k
      refine hfalls (e := Dev.noteFault (Dev.countLos d p c) p (LinkCond.reason c)) (hdetect c) ?_ (by rw [hel, hstate, hst]) ?_
        ((hlos c).tables.trans htables)
      · rw [linkFault_up (hstate.trans hst), if_pos (by rw [hel, hdebounce]; exact hdown)]
      · rw [hel]
        exact (hlos c).els _ (hkey (by decide))
    case debounced =>
      refine hfalls (e := d) (exec_portDownDebounce p s) ?_ hst rfl ⟨rfl, rfl⟩
      unfold Dev.debounceDown
      rw [show (Dev.linkS d p).conds = r :: t from hr]
    case none =>
      refine (exec_portDownDebounce p s).trans (liftTile_same ?_)
      unfold Dev.debounceDown
      rw [show (Dev.linkS s.dev p).conds = [] from hnone]
    case clear =>
      rw [does_liftTile_iff (exec_linkFaultClear p c s) hl hon]
      exact ⟨linkS_linkClear_same d p _, fun q hq => linkS_linkClear_ne d _ (fun e => hq (Fin.ext e)), linkClear_frame d p _⟩
  case off =>
    intro p s hoff
    have off {i : Instr} {f : Dev → Dev} (hexec : exec i s = liftTile p f s) : exec i s = .next s := hexec.trans (liftTile_off p f hoff)
    exact ⟨off (exec_portDebounceUp p s), off (exec_portDownDebounce p s),
      fun c => ⟨off (exec_linkFaultDetect p c s), off (exec_linkFaultClear p c s)⟩⟩

end Sys2Proof.Machine

/-! Programs' writes to the sheaf and the run of one stage instruction (R82, R134, R135), and O8. -/
namespace Sys2Proof.Machine

/-! Bits of the sheaf. -/

/-- A field put into a number, bit by bit. -/
theorem testBit_putBits (n lo len v i : Nat) :
    (putBits n lo len v).testBit i = if lo ≤ i ∧ i < lo + len then v.testBit (i - lo) else n.testBit i := by
  split
  case isTrue h =>
    obtain ⟨j, rfl⟩ := Nat.exists_eq_add_of_le h.1
    have hj : j < len := by omega
    have hfield := congrArg (·.testBit j) (bits_putBits_same n lo len v)
    simpa [bits, hj, Nat.testBit_div_two_pow, Nat.add_comm j] using hfield
  case isFalse h => exact testBit_putBits_other n lo len v i (by omega)

theorem Sheaf.testBit_fld (s : Sheaf) (off w j : Nat) : (Sheaf.fld s off w).testBit j = (decide (j < w) && s.getLsbD (off + j)) := by
  simp [Sheaf.fld, bits, BitVec.getLsbD, Nat.testBit_div_two_pow, Nat.add_comm off]

theorem Sheaf.fld_lt (s : Sheaf) (off w : Nat) : Sheaf.fld s off w < 2 ^ w := bits_lt _ _ _

theorem Sheaf.getLsbD_putFld (s : Sheaf) (off w v : Nat) {i : Nat} (hi : i < 4096) :
    (Sheaf.putFld s off w v).getLsbD i = if off ≤ i ∧ i < off + w then v.testBit (i - off) else s.getLsbD i := by
  rw [Sheaf.putFld, BitVec.getLsbD_ofNat, testBit_putBits, BitVec.testBit_toNat]
  simp [hi]

/-- A program's write, bit by bit: words 0 to 11 stay (R82). -/
theorem Sheaf.getLsbD_write (s : Sheaf) (dst w v : Nat) {i : Nat} (hi : i < 4096) :
    (Sheaf.write s dst w v).getLsbD i = if 768 ≤ i ∧ dst ≤ i ∧ i < dst + w then v.testBit (i - dst) else s.getLsbD i := by
  unfold Sheaf.write
  split
  case isTrue h =>
    rw [Sheaf.getLsbD_putFld s dst w v hi]
    exact if_congr (by omega) rfl rfl
  case isFalse h =>
    rw [Sheaf.getLsbD_putFld _ 0 768 _ hi, Sheaf.getLsbD_putFld s dst w v hi, Sheaf.testBit_fld]
    by_cases hlow : i < 768
    · rw [if_pos (by omega), if_neg (by omega)]
      simp [hlow]
    · rw [if_neg (by omega)]
      exact if_congr (by omega) rfl rfl

/-- The bits that a write of w bits at dst may change. -/
def Sheaf.writeMask (dst w : Nat) : Sheaf := (BitVec.ofNat 4096 (2 ^ w - 1) <<< dst) &&& ~~~BitVec.ofNat 4096 (2 ^ 768 - 1)

theorem Sheaf.getLsbD_writeMask (dst w : Nat) {i : Nat} (hi : i < 4096) :
    (Sheaf.writeMask dst w).getLsbD i = decide (768 ≤ i ∧ dst ≤ i ∧ i < dst + w) := by
  have hsub : i - dst < 4096 := by omega
  simp only [Sheaf.writeMask, BitVec.getLsbD_and, BitVec.getLsbD_shiftLeft, BitVec.getLsbD_not, BitVec.getLsbD_ofNat, hi, hsub,
    Nat.testBit_two_pow_sub_one, decide_true, Bool.true_and]
  rw [Bool.eq_iff_iff]
  simp only [Bool.and_eq_true, Bool.not_eq_true', decide_eq_true_eq, decide_eq_false_iff_not]
  omega

/-- The same write as one merge under a mask. -/
theorem Sheaf.write_eq_merge (s : Sheaf) (dst w v : Nat) :
    Sheaf.write s dst w v = (s &&& ~~~Sheaf.writeMask dst w) ||| ((BitVec.ofNat 4096 v <<< dst) &&& Sheaf.writeMask dst w) := by
  refine BitVec.eq_of_getLsbD_eq fun i hi => ?_
  have hsub : i - dst < 4096 := by omega
  simp only [Sheaf.getLsbD_write s dst w v hi, BitVec.getLsbD_or, BitVec.getLsbD_and, BitVec.getLsbD_not, BitVec.getLsbD_shiftLeft,
    BitVec.getLsbD_ofNat, Sheaf.getLsbD_writeMask dst w hi, hi, hsub, decide_true, Bool.true_and]
  split
  case isTrue h => simp [h]
  case isFalse h => simp [h]

/-! A stage's end and the run of one instruction. -/

theorem finish_eq_ended (c : StageCtx) : StageCtx.finish c = c.ended := by
  have hmerge : (fun (sh : Sheaf) (r : Nat × Nat × Nat) => Sheaf.write sh r.1 r.2.1 r.2.2)
      = fun sh r => (sh &&& ~~~Sheaf.writeMask r.1 r.2.1) ||| ((BitVec.ofNat 4096 r.2.2 <<< r.1) &&& Sheaf.writeMask r.1 r.2.1) :=
    funext fun sh => funext fun r => Sheaf.write_eq_merge sh r.1 r.2.1 r.2.2
  unfold StageCtx.finish StageCtx.flush
  rw [hmerge]
  rfl

theorem advance_eq_past (c : StageCtx) : StageCtx.advance c = c.past := by
  unfold StageCtx.advance StageCtx.past
  rw [finish_eq_ended]

/-- An instruction that leaves the part alone and makes `c'` of the packet's context puts the packet where `c'` says. -/
theorem lift_instr {s : State} {n : Nat} {f : Dev → StageCtx → Ran} {c' : StageCtx} (hl : s.lit)
    (hlive : (Dev.pipe s.dev n).ctx.live = true) (hf : f s.dev (Dev.pipe s.dev n).ctx = (s.dev, c')) :
    lift (fun d => Dev.instr d n f) s = .next (s.inStages n c') := by
  rw [lift_lit _ hl]
  unfold Dev.instr State.inStages
  simp [hlive, hf, egressStages, ingressStages]

/-- An instruction that runs on the packet alone. -/
theorem lift_instrOn {s : State} {n : Nat} (f : StageCtx → StageCtx) (hl : s.lit) (h : InStage s.dev n) :
    lift (fun d => Dev.instrOn d n f) s = .next (s.inStages n (f (Dev.pipe s.dev n).ctx).past) := by
  obtain ⟨hlive, hskip⟩ := h
  exact lift_instr hl hlive ((step_runs _ _ _ hlive hskip).trans (by rw [advance_eq_past]))

theorem execEnd_runs {c : StageCtx} (hlive : c.live = true) (hskip : c.skip = 0) : StageCtx.execEnd c = c.ended := by
  unfold StageCtx.execEnd StageCtx.runs
  simp [hlive, hskip, finish_eq_ended]

theorem exec_opNop {n : Fin 16} {s : State} (hl : s.lit) (h : InStage s.dev n) :
    exec (.opNop n) s = .next (s.inStages n (Dev.pipe s.dev n).ctx.past) := lift_instrOn id hl h

theorem exec_opEnd {n : Fin 16} {s : State} (hl : s.lit) (h : InStage s.dev n) :
    exec (.opEnd n) s = .next (s.inStages n (Dev.pipe s.dev n).ctx.ended) := by
  obtain ⟨hlive, hskip⟩ := h
  exact lift_instr (f := fun d c => (d, StageCtx.execEnd c)) hl hlive (congrArg (Prod.mk s.dev) (execEnd_runs hlive hskip))

/-! The operations with a destination (R135, Table 3). -/

/-- What Table 3 gives for the operands, before its truncation. -/
def tableValue (op : AluOp) (x y : Nat) : Int :=
  match op with
  | .mov => (y : Int)
  | .add => (x : Int) + y
  | .sub => (x : Int) - y
  | .subs => if x < y then 0 else (x : Int) - y
  | .and => ((x &&& y : Nat) : Int)
  | .or => ((x ||| y : Nat) : Int)
  | .xor => ((x ^^^ y : Nat) : Int)
  | .shl => ((x <<< (y % 64) : Nat) : Int)
  | .shr => ((x >>> (y % 64) : Nat) : Int)
  | .min => ((min x y : Nat) : Int)
  | .max => ((max x y : Nat) : Int)

theorem operandB_le (s : Sheaf) (b : Operand) (w : Nat) : operandB s b w ≤ 2 ^ 64 * 2 ^ w := by
  have hpos := Nat.two_pow_pos w
  unfold operandB
  cases b with
  | imm v => have := v.isLt; simp only; omega
  | field off => have := Sheaf.fld_lt s off.val w; simp only; omega

/-- The value that an operation writes is Table 3's, truncated. -/
theorem aluValue_mod {op : AluOp} {w x y : Nat} (hy : y ≤ 2 ^ 64 * 2 ^ w) :
    ((aluValue op w x y % 2 ^ w : Nat) : Int) = tableValue op x y % ((2 ^ w : Nat) : Int) := by
  cases op with
  | mov => simp [aluValue, tableValue]
  | add => simp [aluValue, tableValue]
  | sub =>
    have hcast : ((x + 2 ^ 64 * 2 ^ w - y : Nat) : Int) = (x : Int) - y + 2 ^ 64 * ((2 ^ w : Nat) : Int) := by
      rw [Nat.cast_sub (by omega)]
      push_cast
      ring
    simp only [aluValue, tableValue, Nat.mod_mod]
    rw [Int.natCast_mod, hcast, Int.add_mul_emod_self_right]
  | subs =>
    simp only [aluValue, tableValue]
    by_cases h : y ≤ x
    · simp [h, Nat.not_lt.mpr h]
    · simp [h, Nat.lt_of_not_le h]
  | and => simp [aluValue, tableValue]
  | or => simp [aluValue, tableValue]
  | xor => simp [aluValue, tableValue]
  | shl => simp [aluValue, tableValue, Nat.shiftLeft_eq]
  | shr => simp [aluValue, tableValue, Nat.shiftRight_eq_div_pow]
  | min => simp [aluValue, tableValue, Nat.min_def]
  | max => simp [aluValue, tableValue, Nat.max_def]

/-- The eleven operations run as one; MOV takes nothing from operand A. -/
theorem exec_aluInstr {op : AluOp} {n : Fin 16} {dst : Fin 4096} {w : Fin 64} {a : Fin 4096} {b : Operand} {s : State}
    (hl : s.lit) (h : InStage s.dev n) :
    exec (aluInstr op n dst w a b) s
      = .next (s.inStages n (StageCtx.alu (Dev.pipe s.dev n).ctx op dst (w + 1) a b).past) := by
  have hrun : exec (aluInstr op n dst w a b) s = lift (fun d => Dev.alu d n op dst w a b) s := by cases op <;> rfl
  exact hrun.trans (lift_instrOn _ hl h)

/-- Settles O8: each operation's value is Table 3's, and its write reaches the destination above word 11 alone. -/
theorem aluInstructionsWriteTheirValues : Obligations.AluInstructionsWriteTheirValues := by
  unfold Obligations.AluInstructionsWriteTheirValues
  intro op n dst w a b s hl hin c m x y v
  have hy : y = operandB c.sheaf b (w + 1) := by cases b <;> rfl
  have hv : v = tableValue op x y % (m : Int) := by cases op <;> rfl
  have hle : y ≤ 2 ^ 64 * 2 ^ (w.val + 1) := hy ▸ operandB_le ..
  have hvalue : v.toNat = aluValue op (w + 1) x y % m := by rw [hv, ← aluValue_mod hle, Int.toNat_natCast]
  refine ⟨Sheaf.write c.sheaf dst (w + 1) (aluValue op (w + 1) x y), ?_, fun hdst hend => ?_, fun i hi => ?_⟩
  · rw [hy]
    exact exec_aluInstr hl hin
  · rw [Sheaf.write, if_pos hdst, Sheaf.fld_putFld_same _ _ _ _ hend, hv]
    exact aluValue_mod hle
  · rw [Sheaf.getLsbD_write _ _ _ _ hi]
    split
    case isTrue h =>
      have hlow : i - dst.val < w.val + 1 := by omega
      rw [hvalue, Nat.testBit_mod_two_pow]
      simp [hlow]
    case isFalse => rfl

end Sys2Proof.Machine

/-! What an ingress pass's end leaves of the pipelines (R134, R138, R140, R254): most of what it calls touches none of them, and
nothing puts a packet into the stages; and O10. -/
namespace Sys2Proof.Machine

theorem pipes_foldl {α : Type} {f : Dev → α → Dev} (hf : ∀ d x, (f d x).pipes = d.pipes) (l : List α) (d : Dev) :
    (l.foldl f d).pipes = d.pipes := foldl_keeps (·.pipes) f hf l d

theorem pipes_ite {c : Prop} [Decidable c] {a b d : Dev} (ha : a.pipes = d.pipes) (hb : b.pipes = d.pipes) :
    (if c then a else b).pipes = d.pipes := by
  split <;> assumption

/-! Errors and events. -/

@[simp] theorem Dev.appendLog_pipes (d : Dev) (e : Nat) : (Dev.appendLog d e).1.pipes = d.pipes := Aside.pipes.appendLog d e
@[simp] theorem Dev.event_pipes (d : Dev) (c ch : Nat) : (Dev.event d c ch).pipes = d.pipes := Aside.pipes.event (fun _ => rfl) d c ch
@[simp] theorem Dev.day_pipes (d : Dev) (r : Nat) : (Dev.day d r).pipes = d.pipes := Aside.pipes.day d r

@[simp] theorem Dev.crashMerge_pipes (d : Dev) (c : Nat) : (Dev.crashMerge d c).pipes = d.pipes := by
  unfold Dev.crashMerge
  dsimp only
  split <;> rfl

@[simp] theorem Dev.crash_pipes (d : Dev) (c : Nat) : (Dev.crash d c).pipes = d.pipes := by
  unfold Dev.crash
  refine pipes_ite (Dev.crashMerge_pipes d c) ?_
  simp only [Dev.notice_pipes, Dev.count_pipes]
  exact pipes_ite rfl rfl

@[simp] theorem Dev.fatal_pipes (d : Dev) (b c o e u : Nat) : (Dev.fatal d b c o e u).pipes = d.pipes := by
  unfold Dev.fatal
  extract_lets new d₁ s d₂ x r d₃
  have h₂ : d₂.pipes = d.pipes := Dev.raise_pipes ..
  have h₃ : d₃.pipes = d.pipes := pipes_ite (by simp [r, h₂]) (by simp [r, h₂])
  exact pipes_ite (by simp [h₃]) h₃

/-! Cells, flow control and charges. -/

@[simp] theorem Dev.audit_pipes (d : Dev) : (Dev.audit d).pipes = d.pipes := pipes_ite rfl rfl

@[simp] theorem Dev.doubleFree_pipes (d : Dev) (c : Nat) : (Dev.doubleFree d c).pipes = d.pipes := by
  unfold Dev.doubleFree
  rw [Dev.audit_pipes]
  exact pipes_ite (by simp) (by simp)

@[simp] theorem Dev.freeCell_pipes (d : Dev) (c : Nat) : (Dev.freeCell d c).pipes = d.pipes :=
  pipes_ite (by simp) (Dev.doubleFree_pipes d c)

@[simp] theorem Dev.writeCells_pipes (d : Dev) (i n : Nat) : (Dev.writeCells d i n).pipes = d.pipes :=
  pipes_ite rfl (by simp)

@[simp] theorem Dev.queuePfc_pipes (d : Dev) (p prio t : Nat) : (Dev.queuePfc d p prio t).pipes = d.pipes :=
  ((Resumed.refl d).queuePfc p prio t).pipes
@[simp] theorem Dev.recontend_pipes (d : Dev) (n : Nat) : (Dev.recontend d n).pipes = d.pipes :=
  ((Resumed.refl d).recontend n).pipes

@[simp] theorem Dev.sendXoff_pipes (d : Dev) (b p k : Nat) : (Dev.sendXoff d b p k).pipes = d.pipes := pipes_ite (by simp) rfl

@[simp] theorem Dev.sendXon_pipes (d : Dev) (b p k : Nat) : (Dev.sendXon d b p k).pipes = d.pipes :=
  pipes_ite (pipes_ite rfl (by simp)) rfl

@[simp] theorem Dev.setPoolXoff_pipes (d : Dev) (s : Bool) (k : Nat) (v : Bool) : (Dev.setPoolXoff d s k v).pipes = d.pipes := rfl

@[simp] theorem Dev.xoffTest_pipes (d : Dev) (k : Nat) : (Dev.xoffTest d k).pipes = d.pipes :=
  pipes_ite (pipes_ite (pipes_foldl (fun d p => Dev.sendXoff_pipes d 0 p k) _ _) rfl)
    (pipes_ite (pipes_foldl (fun d p => Dev.sendXon_pipes d 0 p k) _ _) rfl)

@[simp] theorem Dev.warnTest_pipes (d : Dev) (k : Nat) (rose : Bool) : (Dev.warnTest d k rose).pipes = d.pipes :=
  pipes_ite (pipes_ite (by simp) rfl) (pipes_ite rfl rfl)

@[simp] theorem Dev.addHeld_pipes (d : Dev) (p svc : Nat) (x : Int) : (Dev.addHeld d p svc x).pipes = d.pipes := rfl

@[simp] theorem Dev.charge_pipes (d : Dev) (pool svc p c : Nat) : (Dev.charge d pool svc p c).pipes = d.pipes := by
  have hsend {e : Dev} (he : e.pipes = d.pipes) : (if Dev.inXoff e svc then Dev.sendXoff e 0 p svc else e).pipes = d.pipes :=
    pipes_ite (by simp [he]) he
  unfold Dev.charge
  refine pipes_ite (hsend ?_) (pipes_ite (hsend ?_) rfl)
  · simp only [Dev.warnTest_pipes, Dev.xoffTest_pipes, Dev.addHeld_pipes]
    exact pipes_ite rfl rfl
  · rw [Dev.addHeld_pipes]
    exact pipes_ite rfl rfl

@[simp] theorem Dev.uncharge_pipes (d : Dev) (pool svc p c : Nat) : (Dev.uncharge d pool svc p c).pipes = d.pipes :=
  pipes_ite (by simp) (pipes_ite rfl rfl)

@[simp] theorem Dev.freePkt_pipes (d : Dev) (i : Nat) : (Dev.freePkt d i).pipes = d.pipes := by
  unfold Dev.freePkt
  dsimp only
  rw [Dev.delPkt_pipes, pipes_foldl Dev.freeCell_pipes]
  split
  · exact Dev.uncharge_pipes ..
  · rfl

/-! Depths and the granary. -/

@[simp] theorem Dev.addDepth_pipes (d : Dev) (n c hr : Nat) : (Dev.addDepth d n c hr).pipes = d.pipes := pipes_ite rfl rfl
@[simp] theorem Dev.addDescs_pipes (d : Dev) (up down : Nat) : (Dev.addDescs d up down).pipes = d.pipes := rfl
@[simp] theorem Dev.linkRec_pipes (d : Dev) (n seq : Nat) (x : Desc) : (Dev.linkRec d n seq x).1.pipes = d.pipes := by simp [Dev.linkRec]

@[simp] theorem Dev.linkBale_pipes (d : Dev) (n b seq : Nat) (recs : List Desc) (more : Bool) :
    (Dev.linkBale d n b seq recs more).pipes = d.pipes := by
  unfold Dev.linkBale
  dsimp only
  rw [Dev.recontend_pipes, Dev.setQueue_pipes, Dev.addDescs_pipes]
  exact foldl_keeps (fun a : Dev × List Desc => a.1.pipes) _ (fun a x => Dev.linkRec_pipes a.1 n seq x) _ _

@[simp] theorem Dev.baleDoubleFree_pipes (d : Dev) (b : Nat) : (Dev.baleDoubleFree d b).pipes = d.pipes := by
  simp [Dev.baleDoubleFree]

@[simp] theorem Dev.spillXoff_pipes (d : Dev) : (Dev.spillXoff d).pipes = d.pipes := by
  unfold Dev.spillXoff
  extract_lets free low
  refine pipes_foldl (fun e k => ?_) _ _
  have hon : ((Dev.spillPorts e k).foldl (fun d p => Dev.sendXoff d (2 ^ 16) p k) (Dev.setPoolXoff e true k true)).pipes = e.pipes :=
    (pipes_foldl (fun d p => Dev.sendXoff_pipes d _ p k) _ _).trans (Dev.setPoolXoff_pipes ..)
  have hoff : ((Dev.xoffPorts e (2 ^ 16) k).foldl (fun d p => Dev.sendXon d (2 ^ 16) p k) (Dev.setPoolXoff e true k false)).pipes
      = e.pipes := (pipes_foldl (fun d p => Dev.sendXon_pipes d _ p k) _ _).trans (Dev.setPoolXoff_pipes ..)
  exact pipes_ite (pipes_ite hon rfl) (pipes_ite hoff rfl)

@[simp] theorem Dev.granTotals_pipes (d : Dev) : (Dev.granTotals d).pipes = d.pipes := by
  unfold Dev.granTotals
  dsimp only
  rw [Dev.spillXoff_pipes, Dev.setEl_pipes, pipes_foldl (fun _ _ => Dev.setEl_pipes ..)]
  simp only [Dev.setEl_pipes]

@[simp] theorem Dev.segmentGone_pipes (d : Dev) (st seg : Nat) : (Dev.segmentGone d st seg).pipes = d.pipes := by
  simp [Dev.segmentGone]

@[simp] theorem Dev.segmentBorrow_pipes (d : Dev) (st seg : Nat) : (Dev.segmentBorrow d st seg).pipes = d.pipes := by
  unfold Dev.segmentBorrow
  split
  · exact Dev.segmentGone_pipes ..
  · exact pipes_ite rfl rfl

@[simp] theorem Dev.payOwed_pipes (d : Dev) (st : Nat) : (Dev.payOwed d st).pipes = d.pipes := by
  unfold Dev.payOwed
  refine pipes_ite rfl ?_
  split
  · exact Dev.segmentBorrow_pipes ..
  · rfl

@[simp] theorem Dev.baleCounts_pipes (d : Dev) (b : Nat) (taken : Bool) : (Dev.baleCounts d b taken).pipes = d.pipes := by
  unfold Dev.baleCounts
  exact pipes_ite rfl rfl

@[simp] theorem Dev.freeBale_pipes (d : Dev) (b : Nat) : (Dev.freeBale d b).pipes = d.pipes := by
  unfold Dev.freeBale
  split
  · exact Dev.baleDoubleFree_pipes d b
  · simp only [Dev.payOwed_pipes, Dev.spillXoff_pipes, Dev.baleCounts_pipes]
    have hrecs (l : List Desc) : (l.foldl (fun d r => Dev.delPkt d r.pkt) d).pipes = d.pipes := pipes_foldl (f := fun d r => Dev.delPkt d r.pkt) (fun _ _ => rfl) l d
    have hkept (x : Bale) :
        (if x.written then x.recs.foldl (fun d r => Dev.delPkt d r.pkt) d else Dev.addBacklog d false).pipes = d.pipes :=
      pipes_ite (hrecs _) rfl
    exact pipes_ite (hkept _) (hkept _)

@[simp] theorem Dev.closeBale_pipes (d : Dev) (n : Nat) : (Dev.closeBale d n).pipes = d.pipes := by
  unfold Dev.closeBale
  dsimp only
  split
  · rfl
  · exact pipes_ite (by simp) rfl

/-! Drops and their postcards. -/

@[simp] theorem Dev.dropAtPort_pipes (d : Dev) (code p : Nat) : (Dev.dropAtPort d code p).pipes = d.pipes :=
  pipes_ite (by simp [Dev.countDrop]) (by simp [Dev.countDrop])

@[simp] theorem Dev.sample_pipes (d : Dev) (n k : Nat) : (Dev.sample d n k).1.pipes = d.pipes := by
  unfold Dev.sample
  split <;> rfl

theorem pipes_admitCard {d e : Dev} {n : Nat} {drop : Bool} (h : Dev.admitCard d n drop = some e) : e.pipes = d.pipes := by
  unfold Dev.admitCard at h
  split at h
  · cases h
  · split at h
    · split at h <;> cases h
      rfl
    · cases h
      rfl

@[simp] theorem Dev.requestCard_pipes (d : Dev) (n : Nat) (drop : Bool) (rec : Nat) (q : Option Nat) :
    (Dev.requestCard d n drop rec q).pipes = d.pipes := by
  unfold Dev.requestCard
  dsimp only
  split
  case h_1 e he =>
    have hpipes : e.pipes = d.pipes := (pipes_admitCard he).trans (Dev.perf_pipes ..)
    split
    · exact pipes_ite (by simp [hpipes]) (by simp [hpipes])
    · simp [hpipes]
  case h_2 => simp

@[simp] theorem Dev.dropCard_pipes (d : Dev) (n : Nat) (c : Card) (p : Pkt) (s : Sheaf) (fs : SMap Nat) (q : Option Nat) :
    (Dev.dropCard d n c p s fs q).pipes = d.pipes := by
  unfold Dev.dropCard Dev.dropCardAt
  extract_lets sm
  have hsm : sm.1.pipes = d.pipes := by
    unfold sm
    split
    · exact Dev.sample_pipes ..
    · rfl
  exact pipes_ite (by simp [hsm]) hsm

@[simp] theorem Dev.dropIn_pipes (d : Dev) (code : Nat) (p : Pkt) (parsed : Bool) : (Dev.dropIn d code p parsed).pipes = d.pipes := by
  simp [Dev.dropIn]

/-! The deparser, the tally and the policer. -/

@[simp] theorem Dev.deparseIn_pipes (d : Dev) (i : Nat) : (Dev.deparseIn d i).pipes = d.pipes := by
  unfold Dev.deparseIn
  rw [Dev.setPkt_pipes]
  exact pipes_ite (by simp) rfl

@[simp] theorem Dev.exportTally_pipes (d : Dev) (barn reason : Nat) (t : Tally) : (Dev.exportTally d barn reason t).pipes = d.pipes := by
  simp [Dev.exportTally]

@[simp] theorem Dev.tallyAdd_pipes (d : Dev) (barn prof key len ms : Nat) : (Dev.tallyAdd d barn prof key len ms).pipes = d.pipes := by
  unfold Dev.tallyAdd
  dsimp only
  split
  · simp
  · split
    · simp
    · split <;> simp

@[simp] theorem Dev.tallyPkt_pipes (d : Dev) (i : Nat) : (Dev.tallyPkt d i).pipes = d.pipes := by
  unfold Dev.tallyPkt
  refine pipes_ite ?_ rfl
  rw [Dev.tallyAdd_pipes]
  exact pipes_ite rfl rfl

@[simp] theorem Dev.police_pipes (d : Dev) (now i len prof : Nat) : (Dev.police d now i len prof).1.pipes = d.pipes := by
  unfold Dev.police
  dsimp only
  split_ifs <;> simp

@[simp] theorem Dev.policeTest_pipes (d : Dev) (i : Nat) : (Dev.policeTest d i).1.pipes = d.pipes := by
  unfold Dev.policeTest
  dsimp only
  split_ifs <;> simp

/-! Admission. -/

@[simp] theorem Dev.histDepth_pipes (d : Dev) (n depth : Nat) (excl : Bool) : (Dev.histDepth d n depth excl).pipes = d.pipes :=
  pipes_ite (by simp) rfl

@[simp] theorem Dev.countEnq_pipes (d : Dev) (n len : Nat) : (Dev.countEnq d n len).pipes = d.pipes := pipes_ite (by simp) (by simp)

/-! No packet in the stages. -/

/-- No packet stands in the stages of pipeline n. -/
def Vacant (n : Nat) (d : Dev) : Prop := (Dev.pipe d n).ctx.live = false

namespace Vacant
variable {n : Nat} {d e : Dev}

theorem of_pipes (he : e.pipes = d.pipes) (h : Vacant n d) : Vacant n e := by
  unfold Vacant Dev.pipe
  rwa [he]

/-- A pipeline changes, and no packet enters or leaves its stages. -/
theorem setPipe {m : Nat} {x : Pipe} (hx : x.ctx.live = (Dev.pipe d m).ctx.live) (h : Vacant n d) : Vacant n (Dev.setPipe d m x) := by
  unfold Vacant
  by_cases hm : n = m
  · subst hm
    rw [pipe_setPipe_same, hx]
    exact h
  · rw [pipe_setPipe_ne _ _ _ _ hm]
    exact h

theorem ite {c : Prop} [Decidable c] {a b : Dev} (ha : Vacant n a) (hb : Vacant n b) : Vacant n (if c then a else b) := by
  split <;> assumption

theorem mapFlying (q : Nat) (f : Desc → Desc) (h : Vacant n d) : Vacant n (Dev.mapFlying d q f) := by
  unfold Dev.mapFlying
  extract_lets o g d₁ p
  have h₁ : Vacant n d₁ := h.of_pipes rfl
  exact ite (h₁.setPipe rfl) h₁

theorem drained (q : Nat) (h : Vacant n d) : Vacant n (Dev.drained d q) := by
  unfold Dev.drained
  extract_lets x items d₁
  have h₁ : Vacant n d₁ := mapFlying _ _ (h.of_pipes rfl)
  exact ite (h₁.of_pipes rfl) h

theorem enterDraining (q : Nat) (h : Vacant n d) : Vacant n (Dev.enterDraining d q) :=
  (h.of_pipes (by simp : (Dev.closeBale (Dev.setEl d (K.eqSpillState q) 2) q).pipes = d.pipes)).drained q

theorem link (q : Nat) (x : Desc) (pool : Nat) (hr : Bool) (h : Vacant n d) : Vacant n (Dev.link d q x pool hr) := by
  unfold Dev.link
  extract_lets p y d₁ e d₂ d₃ u d₄
  have h₁ : Vacant n d₁ := (h.enterDraining q).ite h
  have hrest : (Dev.recontend (Dev.countEnq (Dev.act d₄ (actCells q) p.cells.length) q (Pkt.stored p).length) q).pipes = d₁.pipes := by
    rw [Dev.recontend_pipes, Dev.countEnq_pipes]
    simp [d₄, d₃, d₂, e, Dev.act, Dev.ecnDraw]
  exact h₁.of_pipes hrest

theorem cutLink (i q : Nat) (h : Vacant n d) : Vacant n (Dev.cutLink d i q) := by
  unfold Dev.cutLink
  extract_lets p c x d₁ d₂ y d₃ d₄
  have h₄ : Vacant n d₄ := h.of_pipes (by simp [d₄, d₃, d₂, d₁])
  exact h₄.link _ _ _ _

theorem toTm (i : Nat) (h : Vacant n d) : Vacant n (Dev.toTm d i) := by
  unfold Dev.toTm
  extract_lets p d₁ m x
  have h₁ : Vacant n d₁ := h.of_pipes (Dev.writeCells_pipes ..)
  exact ite (h.cutLink _ _) (h₁.setPipe (by rfl))

theorem bankRepair (m b sect i : Nat) (h : Vacant n d) : Vacant n (Dev.bankRepair d m b sect i) := by
  unfold Dev.bankRepair
  exact of_pipes (by simp) (h.setPipe (m := m) (x := { Dev.pipe d m with
    badWords := (Dev.pipe d m).badWords.filter (fun w => w != (b, sect, i)) }) rfl)

theorem mendWords (m b : Nat) (xs : List (Nat × Nat)) (h : Vacant n d) : Vacant n (Dev.mendWords d m b xs) := by
  refine ite h ?_
  induction xs generalizing d with
  | nil => exact h
  | cons x t ih => exact ih (ite (h.bankRepair _ _ _ _) h)

theorem depRead (m last : Nat) (c : StageCtx) (h : Vacant n d) : Vacant n (Dev.depRead d m last c).1 := by
  unfold Dev.depRead
  extract_lets img dep used d₁
  have h₁ : Vacant n d₁ := h.mendWords _ _ _
  split
  · exact h₁.of_pipes (Dev.count_pipes ..)
  · exact h₁

/-- The end of an ingress pass puts no packet into the stages. -/
theorem endIngress (c : StageCtx) (h : Vacant n d) : Vacant n (Dev.endIngress d c) := by
  unfold Dev.endIngress
  extract_lets i r d₁ c₁ q p d₂ x wait y police
  have h₁ : Vacant n d₁ := h.depRead _ _ c
  have h₂ : Vacant n d₂ := h₁.of_pipes (by simp [d₂])
  split
  · exact h₂.of_pipes (by simp)
  · refine ite (h₂.of_pipes (by simp)) (ite (h₂.of_pipes (by simp)) (ite ?_ ?_))
    · exact (h₂.of_pipes (Dev.setPkt_pipes ..)).toTm i
    · have hp : Vacant n police.1 := h₂.of_pipes (by simp [police])
      exact ite (hp.toTm i) hp

end Vacant

/-- Settles O10: NOP and END lead where `past` and `ended` say, and at the end of the last ingress stage the packet leaves the stages. -/
theorem nopAndEndMoveThePacketOn : Obligations.NopAndEndMoveThePacketOn := by
  unfold Obligations.NopAndEndMoveThePacketOn
  refine ⟨fun n s hl hin => ⟨exec_opNop hl hin, exec_opEnd hl hin⟩, ?_⟩
  intro n i s hl hin c hi hside hstage
  have hrun : exec i s = .next (s.inStages n c.ended) := by
    rcases hi with rfl | ⟨rfl, hslot⟩
    · exact exec_opEnd hl hin
    · exact (exec_opNop hl hin).trans (by rw [StageCtx.past, if_pos hslot])
  have hlast : s.inStages n c.ended
      = { s with dev := Dev.endIngress (Dev.setPipe s.dev n { Dev.pipe s.dev n with ctx := StageCtx.init }) c.ended } := by
    have hingress : c.ended.egress = false := hside
    have hpast : c.ended.stage = 12 := congrArg (· + 1) hstage
    unfold State.inStages
    simp [hingress, hpast]
  refine (does_iff_of_next (hrun.trans (congrArg _ hlast))).mpr (Vacant.endIngress _ ?_)
  exact congrArg (·.ctx.live) (pipe_setPipe_same ..)

end Sys2Proof.Machine

/-! The refutation of O11: a decision field that an egress stage may not name. -/
namespace Sys2Proof.Machine

/-- MSET of a field that the stage may not name leaves the packet's fields as they are (R139). -/
theorem exec_opMset_unnamed {n : Fin 16} {k w : Fin 64} {b : Operand} {s : State} (hl : s.lit) (h : InStage s.dev n)
    (hk : fieldNamed (Dev.pipe s.dev n).ctx k = false) :
    exec (.opMset n k w b) s = .next (s.inStages n (Dev.pipe s.dev n).ctx.past) := by
  refine (lift_instrOn (fun c => if fieldNamed c k then StageCtx.mset c k (w + 1) b else c) hl h).trans ?_
  rw [if_neg (by simp [hk])]

/-- A packet that has not passed the last stage stands in the stages as the context says. -/
theorem ctx_inStages {s : State} {n : Nat} {c : StageCtx} (h : c.stage < 8) : (Dev.pipe (s.inStages n c).dev n).ctx = c := by
  unfold State.inStages
  simp [Nat.not_le.mpr h, Nat.not_le.mpr (show c.stage < 12 by omega)]

/-- The context of a packet before slot 0 of egress stage 0, every decision field at its default. -/
def egressStart : StageCtx := { StageCtx.init with live := true, egress := true }

/-- Every domain is on, and such a packet stands in pipeline 0. -/
def egressPacket : Dev :=
  Dev.setPipe (Dev.setBlob Dev.reset K.pwrDomainState (List.replicate 24 1)) 0 { Pipe.init with ctx := egressStart }
def egressPacketState : State := { State.reset with dev := egressPacket }

theorem ctx_egressPacketState : (Dev.pipe egressPacketState.dev (0 : Fin 16)).ctx = egressStart :=
  congrArg Pipe.ctx (pipe_setPipe_same ..)

/-- Refutes O11: the statement has MSET write every field k, but an egress stage may not name field 1, the egress port (R139), and
there MSET of 1 to it leaves it at its default, 0. -/
theorem not_decisionFieldsAreWrittenAndRead : ¬ Obligations.DecisionFieldsAreWrittenAndRead := by
  unfold Obligations.DecisionFieldsAreWrittenAndRead
  rintro ⟨hset, -⟩
  have hlit : egressPacketState.lit := show Dev.dark egressPacket = false by decide +kernel
  have hin : InStage egressPacketState.dev (0 : Fin 16) := by
    unfold InStage
    rw [ctx_egressPacketState]
    exact ⟨rfl, rfl⟩
  obtain ⟨fs, hrun, hfield, -⟩ := hset 0 1 0 (.imm 1) egressPacketState hlit hin
  have hleft := exec_opMset_unnamed (k := 1) (w := 0) (b := .imm 1) hlit hin (by rw [ctx_egressPacketState]; rfl)
  rw [ctx_egressPacketState] at hrun hfield hleft
  have hstate := Host.Outcome.next.inj (hleft.symm.trans hrun)
  have hctx := congrArg (fun t : State => (Dev.pipe t.dev (0 : Fin 16)).ctx) hstate
  rw [ctx_inStages (by decide), ctx_inStages (by exact Nat.zero_lt_succ 7)] at hctx
  obtain rfl : ([] : SMap Nat) = fs := congrArg StageCtx.fields hctx
  exact absurd hfield (by decide +kernel)

end Sys2Proof.Machine

/-! What a lookup leaves alone, and how an instruction that works on the part runs (R127, R133, R136). -/
namespace Sys2Proof.Machine

namespace LookupFrame
variable {n : Nat} {d e x : Dev}

theorem refl (n : Nat) (d : Dev) : LookupFrame n d d := ⟨rfl, rfl, rfl, rfl, rfl, rfl, rfl, rfl, rfl, fun _ _ => rfl, rfl⟩

/-- Whatever changes no reading that counting and elements leave alone keeps the frame. -/
theorem keep (h : LookupFrame n d e)
    (hx : ∀ {γ : Type} (g : Dev → γ), Aside g → (∀ d k v, g (Dev.setEl d k v) = g d) → g x = g e) : LookupFrame n d x := by
  have hpipes := hx (·.pipes) Aside.pipes (fun _ _ _ => rfl)
  have hpipe (m : Nat) : Dev.pipe x m = Dev.pipe e m := congrArg (fun p => SMap.get p m Pipe.init) hpipes
  obtain ⟨hpkts, hqueues, hports, hbuf, hgran, hsched, hprog, htime, hlanes, hothers, hown⟩ := h
  exact ⟨(hx (·.pkts) Aside.pkts (fun _ _ _ => rfl)).trans hpkts, (hx (·.queues) Aside.queues (fun _ _ _ => rfl)).trans hqueues,
    (hx (·.ports) Aside.ports (fun _ _ _ => rfl)).trans hports, (hx (·.buf) Aside.buf (fun _ _ _ => rfl)).trans hbuf,
    (hx (·.gran) Aside.gran (fun _ _ _ => rfl)).trans hgran, (hx (·.sched) Aside.sched (fun _ _ _ => rfl)).trans hsched,
    (hx (·.prog) Aside.prog (fun _ _ _ => rfl)).trans hprog, (hx (·.time) Aside.time (fun _ _ _ => rfl)).trans htime,
    (hx (·.lanes) Aside.lanes (fun _ _ _ => rfl)).trans hlanes, fun m hm => (hpipe m).trans (hothers m hm), by rw [hpipe]; exact hown⟩

theorem perf (b c k : Nat) (h : LookupFrame n d e) : LookupFrame n d (Dev.perf e b c k) := h.keep fun _ hg hel => hg.perfAny _ _ _ _ hel
theorem count (k v : Nat) (h : LookupFrame n d e) : LookupFrame n d (Dev.count e k v) :=
  h.keep fun _ hg hel => hg.count _ _ _ (fun d v => hel d k v)
theorem corrected (o el k : Nat) (h : LookupFrame n d e) : LookupFrame n d (Dev.corrected e o el k) := h.keep fun _ hg _ => hg.corrected ..
theorem contained (c co o el u : Nat) (h : LookupFrame n d e) : LookupFrame n d (Dev.contained e c co o el u) :=
  h.keep fun _ hg _ => hg.contained ..
theorem containedF (c o el u : Nat) (h : LookupFrame n d e) : LookupFrame n d (Dev.containedF e c o el u) := h.contained ..
theorem useFree (h : LookupFrame n d e) : LookupFrame n d (Dev.useFree e) := h
theorem tbl (t : TableS) (h : LookupFrame n d e) : LookupFrame n d { e with tbl := t } := h
theorem tcamCount (m k : Nat) (drop : Bool) (h : LookupFrame n d e) : LookupFrame n d (Dev.tcamCount e m k drop) := by
  cases drop <;> exact h

theorem ite {c : Prop} [Decidable c] {a b : Dev} (ha : LookupFrame n d a) (hb : LookupFrame n d b) :
    LookupFrame n d (if c then a else b) := by split <;> assumption

/-- The pipeline's own bucket and bad words may change. -/
theorem setPipe (b : Bucket) (ws : List (Nat × Nat × Nat)) (h : LookupFrame n d e) :
    LookupFrame n d (Dev.setPipe e n { Dev.pipe e n with tcam := b, badWords := ws }) := by
  obtain ⟨hpkts, hqueues, hports, hbuf, hgran, hsched, hprog, htime, hlanes, hothers, hown⟩ := h
  exact ⟨hpkts, hqueues, hports, hbuf, hgran, hsched, hprog, htime, hlanes,
    fun m hm => (pipe_setPipe_ne e n m _ hm).trans (hothers m hm), by rw [pipe_setPipe_same, hown]⟩

theorem barnLookup (m kind slots : Nat) (h : LookupFrame n d e) : LookupFrame n d (Dev.barnLookup e m kind slots) :=
  ((h.perf ..).perf ..).perf ..

theorem barnWay (k : Nat) (way : LookWay) (h : LookupFrame n d e) : LookupFrame n d (Dev.barnWay e k way) :=
  (((h.count ..).perf ..).corrected ..).ite h

theorem shadowWay (o : Nat) (way : LookWay) (h : LookupFrame n d e) : LookupFrame n d (Dev.shadowWay e o way) := (h.corrected ..).ite h

end LookupFrame

/-! The run of an instruction that works on the part too. -/

/-- An instruction that makes `e` of the part and `c'` of the packet's context puts the packet where `c'` says, in `e`. -/
theorem lift_instr_part {s : State} {n : Nat} {f : Dev → StageCtx → Ran} {e : Dev} {c' : StageCtx} (hl : s.lit)
    (hlive : (Dev.pipe s.dev n).ctx.live = true) (hf : f s.dev (Dev.pipe s.dev n).ctx = (e, c')) :
    lift (fun d => Dev.instr d n f) s = .next (({ s with dev := e } : State).inStages n c') := by
  rw [lift_lit _ hl]
  unfold Dev.instr State.inStages
  simp [hlive, hf, egressStages, ingressStages]

/-- One that stages of either pass hold. -/
theorem lift_instr_step {s : State} {n : Nat} {f : Dev → StageCtx → Ran} (hl : s.lit) (h : InStage s.dev n) :
    lift (fun d => Dev.instr d n (fun d c => StageCtx.step d c (f d))) s
      = .next (({ s with dev := (f s.dev (Dev.pipe s.dev n).ctx).1 } : State).inStages n (f s.dev (Dev.pipe s.dev n).ctx).2.past) := by
  obtain ⟨hlive, hskip⟩ := h
  exact lift_instr_part hl hlive ((step_runs _ _ _ hlive hskip).trans (by rw [advance_eq_past]))

/-- One that only ingress stages hold. -/
theorem lift_instrIn {s : State} {n : Nat} {f : Dev → StageCtx → Ran} (hl : s.lit) (h : InStage s.dev n)
    (hin : (Dev.pipe s.dev n).ctx.egress = false) :
    lift (fun d => Dev.instrIn d n f) s
      = .next (({ s with dev := (f s.dev (Dev.pipe s.dev n).ctx).1 } : State).inStages n (f s.dev (Dev.pipe s.dev n).ctx).2.past) := by
  obtain ⟨hlive, hskip⟩ := h
  refine lift_instr_part hl hlive ?_
  rw [hin, step_runs _ _ _ hlive hskip, advance_eq_past]
  rfl

/-! Pending writes with a status (R136). -/

theorem answer_eq_withResult (c : StageCtx) (dst w v status : Nat) :
    StageCtx.answer c dst w v status = c.withResult dst (w + 2) (v % 2 ^ w + status * 2 ^ w) := rfl

/-- The value of a match, with status 1, or of a miss. -/
def hitValue (w : Nat) (r : Option Nat) : Nat :=
  match r with
  | some v => v % 2 ^ w + 2 ^ w
  | none => 0

theorem hitOr_eq_withResult (c : StageCtx) (dst w : Nat) (r : Option Nat) :
    hitOr c dst w r = c.withResult dst (w + 2) (hitValue w r) := by
  cases r <;> simp [hitOr, answer_eq_withResult, hitValue]

/-! A barn lookup before its table is read. -/

theorem asideEl_barn {k e : Nat} (hk : k < 4) (he : e < 256) : asideEl (key (0x0810 + k) e) = false := by
  rw [← Bool.not_eq_true]
  intro h
  have hobj : keyObj (key (0x0810 + k) e) = 0x0810 + k := by simp only [keyObj, key]; omega
  simp only [asideEl, hobj, Bool.or_eq_true, Bool.and_eq_true, decide_eq_true_eq, beq_iff_eq] at h
  omega

section
variable {γ : Type} {g : Dev → γ}

theorem Aside.barnLookup (h : Aside g) (d : Dev) {n : Nat} (hn : n < 16) (kind slots : Nat) : g (Dev.barnLookup d n kind slots) = g d := by
  have hbarn : 0x20 + pipeBarn n < 64 := by unfold pipeBarn; omega
  unfold Dev.barnLookup
  rw [h.perf _ _ _ _ hbarn, h.perf _ _ _ _ (by omega), h.perf _ _ _ _ (by omega)]

theorem Aside.barnWay (h : Aside g) (d : Dev) {k : Nat} (hk : k < 4) (way : LookWay)
    (hel : ∀ d v, g (Dev.setEl d (K.barnCorrected k) v) = g d) : g (Dev.barnWay d k way) = g d := by
  unfold Dev.barnWay
  split
  · rw [h.corrected, h.perf _ _ _ _ (by omega), h.count _ _ _ hel]
  · rfl

theorem pipeBarn_lt {n : Nat} (hn : n < 16) : pipeBarn n < 4 := by unfold pipeBarn; omega

/-- What counting leaves alone, the barn's count of corrected words apart, is as before once a lookup has met its barn. -/
theorem Aside.metBarn (h : Aside g) (d : Dev) {n : Nat} (hn : n < 16) (kind slots : Nat) (way : LookWay)
    (hel : ∀ d v, g (Dev.setEl d (K.barnCorrected (pipeBarn n)) v) = g d) :
    g (Dev.barnWay (Dev.barnLookup d n kind slots) (pipeBarn n) way) = g d :=
  (h.barnWay _ (pipeBarn_lt hn) way hel).trans (h.barnLookup d hn kind slots)

end

@[simp] theorem barnLookup_tbl (d : Dev) (n kind slots : Nat) : (Dev.barnLookup d n kind slots).tbl = d.tbl := by simp [Dev.barnLookup]
@[simp] theorem barnLookup_pipes (d : Dev) (n kind slots : Nat) : (Dev.barnLookup d n kind slots).pipes = d.pipes := by simp [Dev.barnLookup]
@[simp] theorem barnWay_tbl (d : Dev) (k : Nat) (way : LookWay) : (Dev.barnWay d k way).tbl = d.tbl := by
  unfold Dev.barnWay; split <;> simp
@[simp] theorem barnWay_pipes (d : Dev) (k : Nat) (way : LookWay) : (Dev.barnWay d k way).pipes = d.pipes := by
  unfold Dev.barnWay; split <;> simp
@[simp] theorem shadowWay_tbl (d : Dev) (o : Nat) (way : LookWay) : (Dev.shadowWay d o way).tbl = d.tbl := by
  unfold Dev.shadowWay; split <;> simp
@[simp] theorem shadowWay_pipes (d : Dev) (o : Nat) (way : LookWay) : (Dev.shadowWay d o way).pipes = d.pipes := by
  unfold Dev.shadowWay; split <;> simp
@[simp] theorem tcamCount_tbl (d : Dev) (n k : Nat) (drop : Bool) : (Dev.tcamCount d n k drop).tbl = d.tbl := by cases drop <;> rfl
@[simp] theorem tcamCount_pipes (d : Dev) (n k : Nat) (drop : Bool) : (Dev.tcamCount d n k drop).pipes = d.pipes := by cases drop <;> rfl

theorem ctxBank_of_pipes {d e : Dev} (h : e.pipes = d.pipes) (n : Nat) (c : StageCtx) : Dev.ctxBank e n c = Dev.ctxBank d n c :=
  congrArg (fun m => Pipe.bank (SMap.get m n Pipe.init) c.epoch) h

/-- The bank in which a barn lookup finds its key is the packet's. -/
@[simp] theorem ctxBank_barn (d : Dev) (n kind slots k : Nat) (way : LookWay) (c : StageCtx) :
    Dev.ctxBank (Dev.barnWay (Dev.barnLookup d n kind slots) k way) n c = Dev.ctxBank d n c := ctxBank_of_pipes (by simp) n c

/-- A lookup by pipeline n counted in its barn the corrected word that it met (R127). -/
def CountsCorrected (n : Nat) (way : LookWay) (d e : Dev) : Prop :=
  Dev.el e (K.barnCorrected (n / 4)) = (Dev.el d (K.barnCorrected (n / 4)) + if way = .corrected then 1 else 0) % 2 ^ 64

theorem asideEl_barnCorrected {n : Nat} (hn : n < 16) : asideEl (K.barnCorrected (n / 4)) = false := asideEl_barn (by omega) (by omega)

theorem countsCorrected_barn {d : Dev} {n : Nat} (hn : n < 16) (kind slots : Nat) (way : LookWay)
    (hlt : Dev.el d (K.barnCorrected (n / 4)) < 2 ^ 64) :
    CountsCorrected n way d (Dev.barnWay (Dev.barnLookup d n kind slots) (pipeBarn n) way) := by
  have hk := asideEl_barnCorrected hn
  have hread := (Aside.el _ hk).barnLookup d hn kind slots
  beta_reduce at hread
  unfold CountsCorrected Dev.barnWay pipeBarn
  split
  · rw [(Aside.el _ hk).corrected, (Aside.el _ hk).perf _ _ _ _ (by omega), el_count_same hk, hread]
  · rw [hread, Nat.add_zero, Nat.mod_eq_of_lt hlt]

/-- An event of a barn's performance block leaves that count. -/
theorem CountsCorrected.perf {d e : Dev} {n : Nat} {way : LookWay} (hn : n < 16) (c k : Nat) (h : CountsCorrected n way d e) :
    CountsCorrected n way d (Dev.perf e (0x20 + pipeBarn n) c k) :=
  ((Aside.el _ (asideEl_barnCorrected hn)).perf _ _ _ _ (by have := pipeBarn_lt hn; omega)).trans h

/-! Readings made of several. -/

theorem Aside.pair {γ δ : Type} {g : Dev → γ} {h : Dev → δ} (hg : Aside g) (hh : Aside h) : Aside (fun d => (g d, h d)) where
  vals d k v hk := Prod.ext (hg.vals d k v hk) (hh.vals d k v hk)
  tel d x := Prod.ext (hg.tel d x) (hh.tel d x)
  err d x := Prod.ext (hg.err d x) (hh.err d x)
  hp d p x := Prod.ext (hg.hp d p x) (hh.hp d p x)
  out d o := Prod.ext (hg.out d o) (hh.out d o)
  tok d x := Prod.ext (hg.tok d x) (hh.tok d x)

/-- Counting leaves the admission bucket of a pipeline. -/
theorem Aside.tcamBucket (n : Nat) : Aside (fun d => Dev.tcamBucket d n) :=
  ((Aside.ticks.pair (Aside.pipe n)).pair ((Aside.el K.tcamAdmissionRate (by decide)).pair
    ((Aside.el K.pwrClockSixteenths (by decide)).pair (Aside.el K.tcamAdmissionBurst (by decide))))).map
    (fun (x : (Nat × Pipe) × Nat × Nat × Nat) =>
      ({ level := min (x.2.2.2 * ticksPerSec) (x.1.2.tcam.level + (x.1.1 - x.1.2.tcam.at_) * (1000000 * x.2.1 * x.2.2.1 / 16)), at_ := x.1.1 } : Bucket))

theorem asideEl_portState (p : Nat) : asideEl (K.portState p) = false := by
  rw [← Bool.not_eq_true]
  intro h
  have := asideEl_lt h
  simp only [K.portState, key] at this
  omega

/-- Counting leaves which ports are up, and the Toeplitz keys. -/
theorem Aside.portUp (p : Nat) : Aside (fun d => Dev.portUp d p) :=
  (Aside.el (K.portState p) (asideEl_portState p)).map (fun v => decide (1024 ≤ p) || v == 5)

theorem Aside.forceB : Aside (fun d => d.dict.forceB) :=
  ⟨fun _ _ _ _ => rfl, fun _ _ => rfl, fun _ _ => rfl, fun d p x => congrArg DictS.forceB (Dev.setHp_dict d p x), fun _ _ => rfl, fun _ _ => rfl⟩

theorem Aside.toeplitzKeys : Aside Dev.toeplitzKeys :=
  Aside.forceB.map (fun m => (List.range 4).map (fun j => SMap.get m (K.hashToeplitzKey j) (Dict.dfltB (K.hashToeplitzKey j))))

end Sys2Proof.Machine

/-! Lookups whose words can be read (R101, R105, R107, R109, R116 to R120, R127, R136, R137), and O12. -/
namespace Sys2Proof.Machine

/-- What a lookup made of the part and of its packet: the packet stands as c' says, of the part only what a lookup may touch
differs, and the part meets P. -/
def Ran.Goes (n : Nat) (d : Dev) (r : Ran) (c' : StageCtx) (P : Dev → Prop) : Prop := r.2 = c' ∧ LookupFrame n d r.1 ∧ P r.1

/-- A lookup of the ingress stages, run. -/
theorem Ran.Goes.run {i : Instr} {s : State} {n : Nat} {f : Dev → StageCtx → Ran} {c' : StageCtx} {P : Dev → Prop}
    (h : Ran.Goes n s.dev (f s.dev (Dev.pipe s.dev n).ctx) c' P) (hi : exec i s = lift (fun d => Dev.instrIn d n f) s) (hl : s.lit)
    (hs : InStage s.dev n) (hin : (Dev.pipe s.dev n).ctx.egress = false) :
    ∃ e, exec i s = .next (({ s with dev := e } : State).inStages n c'.past) ∧ LookupFrame n s.dev e ∧ P e := by
  obtain ⟨hctx, hframe, hP⟩ := h
  exact ⟨_, hctx ▸ hi.trans (lift_instrIn hl hs hin), hframe, hP⟩

/-- A lookup of either pass's stages, run. -/
theorem Ran.Goes.run_any {i : Instr} {s : State} {n : Nat} {f : Dev → StageCtx → Ran} {c' : StageCtx} {P : Dev → Prop}
    (h : Ran.Goes n s.dev (f s.dev (Dev.pipe s.dev n).ctx) c' P)
    (hi : exec i s = lift (fun d => Dev.instr d n (fun d c => StageCtx.step d c (f d))) s) (hl : s.lit) (hs : InStage s.dev n) :
    ∃ e, exec i s = .next (({ s with dev := e } : State).inStages n c'.past) ∧ LookupFrame n s.dev e ∧ P e := by
  obtain ⟨hctx, hframe, hP⟩ := h
  exact ⟨_, hctx ▸ hi.trans (lift_instr_step hl hs), hframe, hP⟩

theorem Ran.Goes.hit {n dst w : Nat} {d e : Dev} {c : StageCtx} {r : Option Nat} {P : Dev → Prop} (hf : LookupFrame n d e) (hP : P e) :
    Ran.Goes n d (e, hitOr c dst w r) (c.withResult dst (w + 2) (hitValue w r)) P := ⟨hitOr_eq_withResult .., hf, hP⟩

/-- The exact-match entries after a lookup by pipeline n: the entry found has its barn's hit bit (R105). -/
def emHit (n : Nat) (found : Option EmEntry) (em : List EmEntry) : List EmEntry :=
  em.map (fun y => match found with
    | some z => if y.loc = z.loc then { y with hit := y.hit ||| 2 ^ (n / 4) } else y
    | none => y)

theorem emHit_none (n : Nat) (em : List EmEntry) : emHit n none em = em := List.map_id em

section
variable {d : Dev} {n : Nat} {dst prof : Nat} {way : LookWay} {c : StageCtx}

theorem lkem_goes {tab w : Nat} (hn : n < 16) (hw : LookWay.isBad way = false) (hlt : Dev.el d (K.barnCorrected (n / 4)) < 2 ^ 64) :
    let em := emFind d.tbl.em tab w (keyOf (Dev.ctxBank d n c) c.sheaf prof).1 c.epoch
    Ran.Goes n d (Dev.lkem d n dst prof tab w way c) (c.withResult dst 66 (hitValue 64 (em.map (·.result))))
      (fun e => CountsCorrected n way d e ∧ e.tbl = { d.tbl with em := emHit n em d.tbl.em }) := by
  unfold Dev.lkem
  generalize (if w ≤ 2 then 1 else 2) = slots
  have hframe := ((LookupFrame.refl n d).barnLookup n 1 slots).barnWay (pipeBarn n) way
  have hcount := countsCorrected_barn hn 1 slots way hlt
  split
  next => cases hw
  next =>
    simp only [barnWay_tbl, barnLookup_tbl, ctxBank_barn]
    cases emFind d.tbl.em tab w (keyOf (Dev.ctxBank d n c) c.sheaf prof).1 c.epoch with
    | none => exact ⟨by simp [answer_eq_withResult, hitValue], hframe, hcount, by simp [emHit_none]⟩
    | some z => exact ⟨by simp [answer_eq_withResult, hitValue], (hframe.tbl _).perf .., CountsCorrected.perf hn _ _ hcount, by simp [emHit, pipeBarn]⟩

theorem lklpm_goes {v6 : Bool} (hn : n < 16) (hw : LookWay.isBad way = false) (hlt : Dev.el d (K.barnCorrected (n / 4)) < 2 ^ 64) :
    let key := (keyOf (Dev.ctxBank d n c) c.sheaf prof).1
    Ran.Goes n d (Dev.lklpm d n v6 dst prof way c)
      (c.withResult dst 34 (hitValue 32
        ((lpmFind d.tbl.lpm v6 (key / 2 ^ famBits v6 % 65536) (key % 2 ^ famBits v6) c.epoch).map (·.result))))
      (fun e => CountsCorrected n way d e ∧ e.tbl = d.tbl) := by
  have hframe := ((LookupFrame.refl n d).barnLookup n 3 1).barnWay (pipeBarn n) way
  have hcount := countsCorrected_barn hn 3 1 way hlt
  unfold Dev.lklpm
  split
  next => cases hw
  next =>
    simp only [barnWay_tbl, barnLookup_tbl, ctxBank_barn]
    refine .hit ((hframe.perf ..).ite hframe) ?_
    split
    · exact ⟨hcount.perf hn _ _, by simp⟩
    · exact ⟨hcount, by simp⟩

theorem lknh_goes {a : Nat} (hn : n < 16) (hw : LookWay.isBad way = false) (hlt : Dev.el d (K.barnCorrected (n / 4)) < 2 ^ 64) :
    let nh := SMap.get d.tbl.nh (Sheaf.fld c.sheaf a 19) 0
    Ran.Goes n d (Dev.lknh d n dst a way c) (c.withResult dst 130 (hitValue 128 (if nhValid nh = true then some nh else none)))
      (fun e => CountsCorrected n way d e ∧ e.tbl = d.tbl) := by
  have hframe := ((LookupFrame.refl n d).barnLookup n 5 1).barnWay (pipeBarn n) way
  have hcount := countsCorrected_barn hn 5 1 way hlt
  unfold Dev.lknh
  split
  next => cases hw
  next =>
    simp only [barnWay_tbl, barnLookup_tbl]
    exact .hit hframe ⟨hcount, by simp⟩

/-! Winnow and TCAM. -/

theorem win_goes (hw : LookWay.isBad way = false) :
    Ran.Goes n d (Dev.win d n dst prof way c)
      (c.withResult dst 34 (hitValue 32
        ((winFind d.tbl.win n (keyOf (Dev.ctxBank d n c) c.sheaf prof).1 c.epoch).map (·.result))))
      (fun e => e.tbl = d.tbl) := by
  have hframe : LookupFrame n d (Dev.shadowWay (Dev.perf d n 11 1) (0x0820 + n) way) := ((LookupFrame.refl n d).perf ..).shadowWay ..
  have hbank : Dev.ctxBank (Dev.shadowWay (Dev.perf d n 11 1) (0x0820 + n) way) n c = Dev.ctxBank d n c := ctxBank_of_pipes (by simp) n c
  unfold Dev.win
  simp only [hw, hbank, shadowWay_tbl, Dev.perf_tbl, Bool.false_eq_true, if_false]
  cases winFind d.tbl.win n (keyOf (Dev.ctxBank d n c) c.sheaf prof).1 c.epoch with
  | none => exact ⟨by simp [answer_eq_withResult, hitValue], hframe.count .., by simp⟩
  | some x => exact ⟨by simp [answer_eq_withResult, hitValue], hframe.count .., by simp⟩

/-- A query of none of the kinds of R119. -/
theorem tcam_refused {flag : Bool} (hk : tcamKind c flag = 0) :
    Ran.Goes n d (Dev.tcam d n dst prof flag way c) (c.withResult dst 66 (3 * 2 ^ 64)) (fun e => e.tbl = d.tbl) := by
  unfold Dev.tcam
  rw [if_pos hk]
  exact ⟨by simp [answer_eq_withResult], ((((LookupFrame.refl n d).perf ..).tcamCount ..).count ..).perf .., by simp⟩

/-- Counting a query leaves its bucket. -/
theorem tcamBucket_counted (d : Dev) {n : Nat} (hn : n < 16) (k : Nat) (drop : Bool) :
    Dev.tcamBucket (Dev.tcamCount (Dev.perf d n 12 1) n k drop) n = Dev.tcamBucket d n := by
  have hcount : Dev.tcamBucket (Dev.tcamCount (Dev.perf d n 12 1) n k drop) n = Dev.tcamBucket (Dev.perf d n 12 1) n := by cases drop <;> rfl
  exact hcount.trans ((Aside.tcamBucket n).perf _ _ _ _ (by omega))

/-- A query that finds no token: the packet is to be dropped, unless it is already (R120). -/
theorem tcam_dropped {flag : Bool} (hn : n < 16) (hk : tcamKind c flag ≠ 0) (hb : (Dev.tcamBucket d n).level < ticksPerSec) :
    Ran.Goes n d (Dev.tcam d n dst prof flag way c) { c with drop := c.drop.or (some 0x11) } (fun e => e.tbl = d.tbl) := by
  have hnone : Bucket.take (Dev.tcamBucket d n) 1 = none := if_pos (by omega)
  have hframe := ((LookupFrame.refl n d).perf n 12 1).tcamCount n (tcamKind c flag) false
  unfold Dev.tcam
  simp only [if_neg hk, tcamBucket_counted d hn, hnone]
  have hset := hframe.setPipe (Dev.tcamBucket d n) (Dev.pipe (Dev.tcamCount (Dev.perf d n 12 1) n (tcamKind c flag) false) n).badWords
  refine ⟨rfl, (((hset.tcamCount ..).count ..).perf ..).ite hset, ?_⟩
  split <;> simp [Dev.setPipe]

/-- The part at a query that is performed: counted, its token taken, and a corrected word counted (R118 to R120, R500). -/
def Dev.metTcam (d : Dev) (n kind : Nat) (way : LookWay) : Dev :=
  let e := Dev.tcamCount (Dev.perf d n 12 1) n kind false
  let b := Dev.tcamBucket d n
  Dev.shadowWay (Dev.perf (Dev.count (Dev.setPipe e n { Dev.pipe e n with tcam := { b with level := b.level - 1 * ticksPerSec } })
    K.tcamQueries 1) 0x25 1 1) 0x0802 way

theorem frame_metTcam (d : Dev) (n kind : Nat) (way : LookWay) : LookupFrame n d (Dev.metTcam d n kind way) :=
  (((((((LookupFrame.refl n d).perf ..).tcamCount ..).setPipe _ _).count ..).perf ..).shadowWay ..)

@[simp] theorem metTcam_tbl (d : Dev) (n kind : Nat) (way : LookWay) : (Dev.metTcam d n kind way).tbl = d.tbl := by
  simp [Dev.metTcam, Dev.setPipe]

theorem ctxBank_of_frame {e : Dev} (h : LookupFrame n d e) : Dev.ctxBank e n c = Dev.ctxBank d n c := by
  obtain ⟨-, -, -, -, -, -, -, -, -, -, hown⟩ := h
  unfold Dev.ctxBank
  rw [hown]
  rfl

theorem tcam_of_token {flag : Bool} (hn : n < 16) (hk : tcamKind c flag ≠ 0) (hb : ticksPerSec ≤ (Dev.tcamBucket d n).level) :
    Dev.tcam d n dst prof flag way c =
      let e := Dev.metTcam d n (tcamKind c flag) way
      if LookWay.isBad way then
        (Dev.useFree (Dev.containedF (Dev.count e K.errShadowRepairs 1) 4 0x0D00 0x09 (LookWay.unit way)), StageCtx.answer c dst 64 (Dev.freeVal e (2 ^ 64)) 2)
      else
        match tcamFind e.tbl.tcam (keyOf (Dev.ctxBank e n c) c.sheaf prof).1 c.epoch with
        | some x => (Dev.perf e 0x25 2 1, StageCtx.answer c dst 64 x.result 1)
        | none => (e, StageCtx.answer c dst 64 0 0) := by
  have htake : Bucket.take (Dev.tcamBucket d n) 1 = some _ := if_neg (by omega)
  unfold Dev.tcam Dev.metTcam
  simp only [if_neg hk, tcamBucket_counted d hn, htake] <;> rfl

/-- A query with a token is performed (R118, R120). -/
theorem tcam_performed {flag : Bool} (hn : n < 16) (hk : tcamKind c flag ≠ 0) (hb : ticksPerSec ≤ (Dev.tcamBucket d n).level)
    (hw : LookWay.isBad way = false) :
    Ran.Goes n d (Dev.tcam d n dst prof flag way c)
      (c.withResult dst 66 (hitValue 64 ((tcamFind d.tbl.tcam (keyOf (Dev.ctxBank d n c) c.sheaf prof).1 c.epoch).map (·.result))))
      (fun e => e.tbl = d.tbl) := by
  have hframe := frame_metTcam d n (tcamKind c flag) way
  rw [tcam_of_token hn hk hb]
  simp only [hw, Bool.false_eq_true, if_false, metTcam_tbl, ctxBank_of_frame hframe]
  cases tcamFind d.tbl.tcam (keyOf (Dev.ctxBank d n c) c.sheaf prof).1 c.epoch with
  | none => exact ⟨by simp [answer_eq_withResult, hitValue], hframe, by simp⟩
  | some x => exact ⟨by simp [answer_eq_withResult, hitValue], hframe.perf .., by simp⟩

/-! LKIX, LKGRP and HASH. -/

/-- A pass finds every word of a list good where none is known to be bad. -/
theorem mendWords_of_good {b sect i : Nat} (h : (Dev.pipe d n).badWords.contains (b, sect, i) = false) : Dev.mendWords d n b [(sect, i)] = d := by
  unfold Dev.mendWords
  simp only [List.foldl_cons, List.foldl_nil, h, Bool.false_and, Bool.false_eq_true, if_false, ite_self]

theorem lkix_goes {w a : Nat} {encap : Bool}
    (hgood : Pipe.wordBad (Dev.pipe d n) c.epoch (if encap then 0x41 else 0x40) (Sheaf.fld c.sheaf a w) = false) :
    let i := Sheaf.fld c.sheaf a w
    let img := Dev.ctxBank d n c
    Ran.Goes n d (Dev.lkix d n dst w a encap .ok c)
      (c.withResult dst ((if encap then 256 else 48) + 2) (hitValue (if encap then 256 else 48)
        (if encap then (if i < 65536 then some (SMap.get img.encap i 0) else none)
         else if i < 256 then some (SMap.get img.smac i 0) else none)))
      (fun e => e.tbl = d.tbl) := by
  have hmend := mendWords_of_good hgood
  unfold Dev.lkix
  simp only [ne_eq, not_true, and_false, if_false, hmend, ite_self, hgood, Bool.false_eq_true]
  cases encap with
  | true => exact .hit (.refl n d) rfl
  | false => exact .hit (.refl n d) rfl

/-- The packet after a group resolve (R111). -/
def resolved (c : StageCtx) (dst : Nat) (r : Resolve) : StageCtx :=
  match r with
  | .hit v => c.withResult dst 130 (v % 2 ^ 128 + 2 ^ 128)
  | .miss => c.withResult dst 130 0
  | .drop code => { c.withResult dst 130 0 with drop := c.drop.or (some code) }

/-- Whether the resolve drops a packet that stood undropped. -/
def resolveDrops (c : StageCtx) (r : Resolve) : Nat :=
  match r with
  | .drop _ => if c.drop = none then 1 else 0
  | _ => 0

/-- Ports are up or down whatever a lookup counts. -/
theorem portUp_metBarn (d : Dev) (hn : n < 16) (kind slots : Nat) (way : LookWay) :
    Dev.portUp (Dev.barnWay (Dev.barnLookup d n kind slots) (pipeBarn n) way) = Dev.portUp d := by
  funext p
  have hne : K.portState p ≠ K.barnCorrected (pipeBarn n) := by
    have := pipeBarn_lt hn
    simp only [K.portState, K.barnCorrected, key]
    omega
  exact (Aside.portUp p).metBarn d hn kind slots way (fun d v => by unfold Dev.portUp; rw [el_setEl_ne _ _ _ _ hne])

theorem portUp_perf (d : Dev) {b : Nat} (hb : b < 64) (e k : Nat) : Dev.portUp (Dev.perf d b e k) = Dev.portUp d :=
  funext fun p => (Aside.portUp p).perf d b e k hb

theorem lkgrp_goes {a hash : Nat} (hn : n < 16) (hw : LookWay.isBad way = false) :
    let r := resolve d.tbl (Dev.portUp d) (Sheaf.fld c.sheaf a 14) (hashOf (Dev.ctxBank d n c) (Dev.toeplitzKeys d) c.sheaf hash)
    Ran.Goes n d (Dev.lkgrp d n dst a hash way c) (resolved c dst r)
      (fun e => e.tbl = d.tbl ∧ (Dev.el d K.tblLbDrops < 2 ^ 64 →
        Dev.el e K.tblLbDrops = (Dev.el d K.tblLbDrops + resolveDrops c r) % 2 ^ 64)) := by
  have hbarn := pipeBarn_lt hn
  have hblock : 0x20 + pipeBarn n < 64 := by omega
  have hframe := ((LookupFrame.refl n d).barnLookup n 6 1).barnWay (pipeBarn n) way
  have hkeys := Aside.toeplitzKeys.metBarn d hn 6 1 way (fun _ _ => rfl)
  have hside : asideEl K.tblLbDrops = false := by decide
  have hne : K.tblLbDrops ≠ K.barnCorrected (pipeBarn n) := by simp only [K.tblLbDrops, K.barnCorrected, key]; omega
  have hdrops (e k : Nat) : Dev.el (Dev.perf (Dev.barnWay (Dev.barnLookup d n 6 1) (pipeBarn n) way) (0x20 + pipeBarn n) e k) K.tblLbDrops
      = Dev.el d K.tblLbDrops :=
    ((Aside.el _ hside).perf _ _ _ _ hblock).trans ((Aside.el _ hside).metBarn d hn 6 1 way (fun d v => el_setEl_ne _ _ _ _ hne))
  unfold Dev.lkgrp
  split
  next => cases hw
  next =>
    simp only [barnWay_tbl, barnLookup_tbl, Dev.perf_tbl, ctxBank_barn, hkeys, portUp_perf _ hblock, portUp_metBarn d hn]
    generalize resolveProbes _ _ _ _ = k
    cases resolve d.tbl (Dev.portUp d) (Sheaf.fld c.sheaf a 14) (hashOf (Dev.ctxBank d n c) (Dev.toeplitzKeys d) c.sheaf hash) with
    | hit v =>
      exact ⟨by simp [answer_eq_withResult, resolved], hframe.perf .., by simp, fun hlt => (hdrops ..).trans (Nat.mod_eq_of_lt hlt).symm⟩
    | miss =>
      exact ⟨by simp [answer_eq_withResult, resolved], hframe.perf .., by simp, fun hlt => (hdrops ..).trans (Nat.mod_eq_of_lt hlt).symm⟩
    | drop code =>
      refine ⟨by simp [answer_eq_withResult, resolved], ((hframe.perf ..).count ..).ite (hframe.perf ..), ?_⟩
      cases hdrop : c.drop with
      | none => exact ⟨by simp, fun _ => by simp [el_count_same hside, hdrops, resolveDrops, hdrop]⟩
      | some x => exact ⟨by simp, fun hlt => by
        simpa [hdrops, resolveDrops, hdrop] using (Nat.mod_eq_of_lt hlt).symm⟩

end

end Sys2Proof.Machine

/-! O12 and O13. -/
namespace Sys2Proof.Machine

/-- Settles O12: each lookup, run, makes of its packet what its `_goes` lemma says; the value pending is `hitValue` of what it found. -/
theorem lookupsLeaveTheirResultForTheStagesEnd : Obligations.LookupsLeaveTheirResultForTheStagesEnd := by
  unfold Obligations.LookupsLeaveTheirResultForTheStagesEnd
  intro n s hl hs d c img goes ends hits hlt
  constructor
  case left =>
    intro dst a prof tab u way hw hin key em
    refine ⟨?lkem, ?lklpm4, ?lklpm6, ?lknh, ?win, fun flag => ⟨fun hk hb => ?token, fun hk hb => ?none, fun hk => ?refused⟩⟩
    case lkem => exact (lkem_goes n.isLt hw hlt).run rfl hl hs hin
    case lklpm4 => exact (lklpm_goes n.isLt hw hlt).run rfl hl hs hin
    case lklpm6 => exact (lklpm_goes n.isLt hw hlt).run rfl hl hs hin
    case lknh => exact (lknh_goes n.isLt hw hlt).run rfl hl hs hin
    case win => exact (win_goes hw).run rfl hl hs hin
    case token => exact (tcam_performed n.isLt hk hb hw).run rfl hl hs hin
    case none => exact (tcam_dropped n.isLt hk hb).run rfl hl hs hin
    case refused => exact (tcam_refused hk).run rfl hl hs hin
  case right =>
    intro dst a w encap i hgood
    exact (lkix_goes hgood).run_any rfl hl hs

/-- Settles O13: HASH works on the packet alone, and LKGRP leaves what its resolve says. -/
theorem groupResolveAndHashLeaveTheirResult : Obligations.GroupResolveAndHashLeaveTheirResult := by
  unfold Obligations.GroupResolveAndHashLeaveTheirResult
  intro n s hl hs d c img
  constructor
  case left =>
    intro dst hp
    exact lift_instr_step (f := fun d => Dev.hash d n dst hp) hl hs
  case right =>
    intro dst a hp way hw hin r
    exact (lkgrp_goes n.isLt hw).run rfl hl hs hin

end Sys2Proof.Machine

/-! Lookups that meet an uncorrectable word (R127, R136, R504, R505), and O14. -/
namespace Sys2Proof.Machine

/-- A lookup that leaves `w` free bits with status 2 above them. -/
def Ran.Spoilt (n : Nat) (d : Dev) (r : Ran) (c : StageCtx) (dst w : Nat) (P : Dev → Prop) : Prop :=
  ∃ v, v < 2 ^ w ∧ Ran.Goes n d r (c.withResult dst (w + 2) (v + 2 * 2 ^ w)) P

theorem Ran.Spoilt.run {i : Instr} {s : State} {n dst w : Nat} {f : Dev → StageCtx → Ran} {P : Dev → Prop}
    (h : Ran.Spoilt n s.dev (f s.dev (Dev.pipe s.dev n).ctx) (Dev.pipe s.dev n).ctx dst w P)
    (hi : exec i s = lift (fun d => Dev.instrIn d n f) s) (hl : s.lit) (hs : InStage s.dev n) (hin : (Dev.pipe s.dev n).ctx.egress = false) :
    ∃ e v, v < 2 ^ w ∧ exec i s = .next (({ s with dev := e } : State).inStages n
        (StageCtx.past ((Dev.pipe s.dev n).ctx.withResult dst (w + 2) (v + 2 * 2 ^ w)))) ∧ LookupFrame n s.dev e ∧ P e := by
  obtain ⟨v, hv, h⟩ := h
  obtain ⟨e, he⟩ := h.run hi hl hs hin
  exact ⟨e, v, hv, he⟩

theorem Ran.Spoilt.run_any {i : Instr} {s : State} {n dst w : Nat} {f : Dev → StageCtx → Ran} {P : Dev → Prop}
    (h : Ran.Spoilt n s.dev (f s.dev (Dev.pipe s.dev n).ctx) (Dev.pipe s.dev n).ctx dst w P)
    (hi : exec i s = lift (fun d => Dev.instr d n (fun d c => StageCtx.step d c (f d))) s) (hl : s.lit) (hs : InStage s.dev n) :
    ∃ e v, v < 2 ^ w ∧ exec i s = .next (({ s with dev := e } : State).inStages n
        (StageCtx.past ((Dev.pipe s.dev n).ctx.withResult dst (w + 2) (v + 2 * 2 ^ w)))) ∧ LookupFrame n s.dev e ∧ P e := by
  obtain ⟨v, hv, h⟩ := h
  obtain ⟨e, he⟩ := h.run_any hi hl hs
  exact ⟨e, v, hv, he⟩

theorem freeVal_lt (d : Dev) (w : Nat) : Dev.freeVal d (2 ^ w) < 2 ^ w := Nat.mod_lt _ (Nat.two_pow_pos w)

/-- A free value with status 2. -/
theorem Ran.Goes.spoilt {n dst w : Nat} {d e x : Dev} {c : StageCtx} {P : Dev → Prop} (hf : LookupFrame n d e) (hP : P e) :
    Ran.Spoilt n d (e, StageCtx.answer c dst w (Dev.freeVal x (2 ^ w)) 2) c dst w P :=
  ⟨_, freeVal_lt x w, by rw [answer_eq_withResult, Nat.mod_eq_of_lt (freeVal_lt x w)], hf, hP⟩

/-- A lookup of a table reads words of the tables t; a resolve, which begins in table 4, reads tables 3 to 6 (R111). -/
def ReadsTable (table t : Nat) : Prop := (table ≤ 3 → t = table) ∧ (table = 4 → 3 ≤ t ∧ t ≤ 6)

theorem readsTable_self (table : Nat) : ReadsTable table table := ⟨fun _ => rfl, fun _ => by omega⟩

/-- A lookup by pipeline n found its barn's word uncorrectable: the barn counts it and lists it once for its repair (R127). -/
def BarnSpoilt (n : Nat) (d : Dev) (table : Nat) (e : Dev) : Prop :=
  (∃ t place, e.tbl = { d.tbl with bad := TableS.note d.tbl.bad (n / 4, t, place) } ∧ ReadsTable table t)
    ∧ (Dev.el d (K.barnUncorrectable (n / 4)) < 2 ^ 64 →
      Dev.el e (K.barnUncorrectable (n / 4)) = (Dev.el d (K.barnUncorrectable (n / 4)) + 1) % 2 ^ 64)

section
variable {d : Dev} {n : Nat} {dst prof : Nat} {c : StageCtx} {x : Fin 32768}

theorem el_tbl (e : Dev) (t : TableS) (k : Nat) : Dev.el { e with tbl := t } k = Dev.el e k := rfl

theorem barnWay_bad (e : Dev) (k : Nat) : Dev.barnWay e k (.bad x) = e := if_neg (by simp)

theorem barnBad_spoilt {kind slots table t place w : Nat} (hn : n < 16) (ht : ReadsTable table t) :
    Ran.Spoilt n d (Dev.barnBad (Dev.barnWay (Dev.barnLookup d n kind slots) (pipeBarn n) (.bad x)) (pipeBarn n) t place c dst w)
      c dst w (BarnSpoilt n d table) := by
  have hk : asideEl (K.barnUncorrectable (n / 4)) = false := asideEl_barn (by omega) (by omega)
  have hread : Dev.el (Dev.useFree (Dev.barnLookup d n kind slots)) (K.barnUncorrectable (n / 4)) = Dev.el d (K.barnUncorrectable (n / 4)) :=
    (Aside.el _ hk).barnLookup d hn kind slots
  have hframe := ((LookupFrame.refl n d).barnLookup n kind slots).useFree
  rw [barnWay_bad]
  unfold Dev.barnBad pipeBarn
  refine Ran.Goes.spoilt ((((hframe.count ..).perf ..).tbl _).containedF ..) ⟨⟨t, place, by simp [Dev.useFree], ht⟩, fun _ => ?_⟩
  have hperf (e : Dev) : Dev.el (Dev.perf e (0x20 + n / 4) 9 1) (K.barnUncorrectable (n / 4)) = Dev.el e (K.barnUncorrectable (n / 4)) :=
    (Aside.el _ hk).perf _ _ _ _ (by omega)
  rw [(Aside.el _ hk).containedF, el_tbl, hperf, el_count_same hk, hread]

theorem groupPlace_table (t : TableS) (g h k : Nat) : 3 ≤ (groupPlace t g h k).1 ∧ (groupPlace t g h k).1 ≤ 6 := by
  unfold groupPlace
  split
  · simp
  · dsimp only
    split <;> simp

theorem lkem_spoilt {tab w : Nat} (hn : n < 16) : Ran.Spoilt n d (Dev.lkem d n dst prof tab w (.bad x) c) c dst 64 (BarnSpoilt n d 0) := by
  unfold Dev.lkem
  exact barnBad_spoilt hn (readsTable_self _)

theorem lklpm_spoilt {v6 : Bool} (hn : n < 16) :
    Ran.Spoilt n d (Dev.lklpm d n v6 dst prof (.bad x) c) c dst 32 (BarnSpoilt n d (if v6 then 2 else 1)) := by
  unfold Dev.lklpm
  exact barnBad_spoilt hn (readsTable_self _)

theorem lknh_spoilt {a : Nat} (hn : n < 16) : Ran.Spoilt n d (Dev.lknh d n dst a (.bad x) c) c dst 128 (BarnSpoilt n d 3) := by
  unfold Dev.lknh
  exact barnBad_spoilt hn (readsTable_self _)

theorem lkgrp_spoilt {a hash : Nat} (hn : n < 16) : Ran.Spoilt n d (Dev.lkgrp d n dst a hash (.bad x) c) c dst 128 (BarnSpoilt n d 4) := by
  unfold Dev.lkgrp
  exact barnBad_spoilt hn ⟨fun h => absurd h (by decide), fun _ => groupPlace_table ..⟩

theorem win_spoilt : Ran.Spoilt n d (Dev.win d n dst prof (.bad x) c) c dst 32 (fun e => e.tbl = d.tbl) := by
  have hframe := ((LookupFrame.refl n d).perf n 11 1).shadowWay (0x0820 + n) (.bad x)
  exact Ran.Goes.spoilt ((hframe.count ..).containedF ..).useFree (by simp [Dev.useFree])

theorem tcam_spoilt {flag : Bool} (hn : n < 16) (hk : tcamKind c flag ≠ 0) (hb : ticksPerSec ≤ (Dev.tcamBucket d n).level) :
    Ran.Spoilt n d (Dev.tcam d n dst prof flag (.bad x) c) c dst 64 (fun e => e.tbl = d.tbl) := by
  rw [tcam_of_token hn hk hb]
  exact Ran.Goes.spoilt (((frame_metTcam ..).count ..).containedF ..).useFree (by simp [Dev.useFree])

/-! The word that LKIX reads (R504). -/

theorem LookupFrame.badWords {e : Dev} (ws : List (Nat × Nat × Nat)) (h : LookupFrame n d e) :
    LookupFrame n d (Dev.setPipe e n { Dev.pipe e n with badWords := ws }) := h.setPipe (Dev.pipe e n).tcam ws

theorem el_setPipe (m k : Nat) (p : Pipe) : Dev.el (Dev.setPipe d m p) k = Dev.el d k := rfl

theorem asideEl_bankIdleState {n : Nat} (hn : n < 16) : asideEl (K.bankIdleState n) = false := by
  have hobj : keyObj (K.bankIdleState n) = 0x0730 + n := by simp only [keyObj, K.bankIdleState, key]; omega
  rw [← Bool.not_eq_true]
  intro h
  simp only [asideEl, hobj, Bool.or_eq_true, Bool.and_eq_true, decide_eq_true_eq, beq_iff_eq] at h
  omega

/-- A word that stays bad: no other bank has it, and it is known to be bad, or found so in both copies. -/
theorem bankWord_stays {b sect i : Nat} {both : Bool} (hn : n < 16) (hb : b < 2) (hother : Dev.otherBank d n b sect i = false)
    (hbad : (Dev.pipe d n).badWords.contains (b, sect, i) = true ∨ both = true) :
    let e := Dev.bankWord d n b sect i both
    LookupFrame n d e ∧ e.tbl = d.tbl ∧ (Dev.pipe e n).badWords.contains (b, sect, i) = true ∧ Dev.otherBank e n b sect i = false := by
  have hno : ¬ (Dev.otherBank d n b sect i = true ∨ (both = false ∧ (Dev.pipe d n).badWords.contains (b, sect, i) = false)) := by
    rintro (h | ⟨h, h'⟩)
    · simp [hother] at h
    · rcases hbad with h'' | h'' <;> simp_all
  unfold Dev.bankWord
  dsimp only
  rw [if_neg hno]
  split
  case isTrue hknown => exact ⟨.refl n d, rfl, hknown, hother⟩
  case isFalse hnew =>
    have hpipe : Dev.pipe (Dev.contained (Dev.setPipe d n { Dev.pipe d n with badWords := (Dev.pipe d n).badWords ++ [(b, sect, i)] })
        5 0xC0 0x0D00 0x08 (n * 2 ^ 24 + sect * 2 ^ 16 + i)) n = { Dev.pipe d n with badWords := (Dev.pipe d n).badWords ++ [(b, sect, i)] } :=
      ((Aside.pipe n).contained ..).trans (pipe_setPipe_same ..)
    refine ⟨((LookupFrame.refl n d).badWords _).contained .., by simp [Dev.setPipe], by rw [hpipe]; simp, ?_⟩
    have hne : 1 - b ≠ b := by omega
    unfold Dev.otherBank at hother ⊢
    rw [(Aside.el _ (asideEl_bankIdleState hn)).contained, hpipe, el_setPipe]
    simpa [hne] using hother

/-- Where no other bank has a word, a pass that reads it rewrites nothing. -/
theorem mendWords_of_noOther {b sect i : Nat} (h : Dev.otherBank d n b sect i = false) : Dev.mendWords d n b [(sect, i)] = d := by
  unfold Dev.mendWords
  simp only [List.foldl_cons, List.foldl_nil, h, Bool.and_false, Bool.false_eq_true, if_false, ite_self]

/-- The word under LKIX before it is read, however it fares, where no other bank can give it. -/
theorem lkixWord_stays {sect i : Nat} {way : LookWay} (hn : n < 16) (hother : Dev.otherBank d n (c.epoch % 2) sect i = false)
    (hbad : Pipe.wordBad (Dev.pipe d n) c.epoch sect i = true ∨ way = .bad x) :
    let e := if way ≠ .ok then Dev.bankWord d n (c.epoch % 2) sect i (LookWay.isBad way) else d
    LookupFrame n d e ∧ e.tbl = d.tbl ∧ Pipe.wordBad (Dev.pipe e n) c.epoch sect i = true
      ∧ Dev.otherBank e n (c.epoch % 2) sect i = false := by
  intro e
  by_cases hway : way = .ok
  · have he : e = d := if_neg (not_not.mpr hway)
    rw [he]
    exact ⟨.refl n d, rfl, hbad.resolve_right (by simp [hway]), hother⟩
  · have he : e = Dev.bankWord d n (c.epoch % 2) sect i (LookWay.isBad way) := if_pos hway
    rw [he]
    exact bankWord_stays hn (Nat.mod_lt _ (by decide)) hother (hbad.imp id fun h => by rw [h]; rfl)

/-- An uncorrectable word that no other bank can give (R504). -/
theorem lkix_spoilt {w a : Nat} {encap : Bool} {way : LookWay} (hn : n < 16)
    (hin : Sheaf.fld c.sheaf a w < if encap then 65536 else 256)
    (hother : Dev.otherBank d n (c.epoch % 2) (if encap then 0x41 else 0x40) (Sheaf.fld c.sheaf a w) = false)
    (hbad : Pipe.wordBad (Dev.pipe d n) c.epoch (if encap then 0x41 else 0x40) (Sheaf.fld c.sheaf a w) = true ∨ way = .bad x) :
    Ran.Spoilt n d (Dev.lkix d n dst w a encap way c) c dst (if encap then 256 else 48) (fun e => e.tbl = d.tbl
      ∧ Pipe.wordBad (Dev.pipe e n) c.epoch (if encap then 0x41 else 0x40) (Sheaf.fld c.sheaf a w) = true) := by
  obtain ⟨hframe, htbl, hword, hnone⟩ := lkixWord_stays hn hother hbad
  unfold Dev.lkix
  simp only [hin, true_and, if_true, mendWords_of_noOther hnone, hword]
  exact Ran.Goes.spoilt hframe.useFree ⟨htbl, hword⟩

end

/-- Settles O14: each lookup's uncorrectable word is met as its `_spoilt` lemma says. -/
theorem uncorrectableLookupWordsAnswerStatusTwo : Obligations.UncorrectableLookupWordsAnswerStatusTwo := by
  unfold Obligations.UncorrectableLookupWordsAnswerStatusTwo
  intro n s hl hs d c k spoilt barn dst a prof tab w u hp encap flag x
  constructor
  case left =>
    intro hin
    refine ⟨?lkem, ?lklpm4, ?lklpm6, ?lknh, ?lkgrp, ?win, fun hk hb => ?tcam⟩
    case lkem => exact (lkem_spoilt n.isLt).run rfl hl hs hin
    case lklpm4 => exact (lklpm_spoilt n.isLt).run rfl hl hs hin
    case lklpm6 => exact (lklpm_spoilt n.isLt).run rfl hl hs hin
    case lknh => exact (lknh_spoilt n.isLt).run rfl hl hs hin
    case lkgrp => exact (lkgrp_spoilt n.isLt).run rfl hl hs hin
    case win => exact win_spoilt.run rfl hl hs hin
    case tcam => exact (tcam_spoilt n.isLt hk hb).run rfl hl hs hin
  case right =>
    intro i sect hi way hother hbad
    exact (lkix_spoilt n.isLt hi hother hbad).run_any rfl hl hs

end Sys2Proof.Machine

/-! The engine's round robin notes the queue of each block that it runs, and no record reads or writes that note (R125). -/
namespace Sys2Proof.Machine

/-- The tables with queue q's block the last that ran. -/
def TableS.atQueue (t : TableS) (q : Nat) : TableS := { t with last := q }

/-- What a record did, on such tables. -/
def RecResult.atQueue (r : RecResult) (q : Nat) : RecResult := { r with tbl := r.tbl.atQueue q }

theorem recEm_atQueue (t : TableS) (q e op : Nat) (next clearHit : Bool) (rec : Nat) :
    recEm (t.atQueue q) e op next clearHit rec = (recEm t e op next clearHit rec).atQueue q := by
  unfold recEm TableS.atQueue
  dsimp only
  split
  · rfl
  · split
    case h_1 =>
      split
      · rfl
      · split <;> rfl
    case h_2 =>
      split
      · rfl
      · split
        · split <;> rfl
        · rfl
    case h_3 =>
      split
      · split <;> rfl
      · split <;> rfl
    case h_4 => split <;> rfl

theorem recLpm_atQueue (t : TableS) (q : Nat) (v6 : Bool) (e op : Nat) (next : Bool) (rec : Nat) :
    recLpm (t.atQueue q) v6 e op next rec = (recLpm t v6 e op next rec).atQueue q := by
  unfold recLpm TableS.atQueue
  dsimp only
  split
  · rfl
  · split
    case h_1 =>
      split
      · rfl
      · split <;> rfl
    case h_2 =>
      split
      · rfl
      · split
        · split <;> rfl
        · rfl
    case h_3 =>
      split
      · split <;> rfl
      · split <;> rfl
    case h_4 => split <;> rfl

theorem recNh_atQueue (t : TableS) (q op rec : Nat) : recNh (t.atQueue q) op rec = (recNh t op rec).atQueue q := by
  unfold recNh TableS.atQueue
  dsimp only
  split
  · rfl
  · split <;> split <;> rfl

theorem findBlock_atQueue (t : TableS) (q s k b : Nat) : findBlock (t.atQueue q) s k b = findBlock t s k b := by
  induction k generalizing b with
  | zero => rfl
  | succ k ih =>
    unfold findBlock
    rw [ih]
    rfl

theorem recGroup_atQueue (t : TableS) (q op rec : Nat) : recGroup (t.atQueue q) op rec = (recGroup t op rec).atQueue q := by
  unfold recGroup
  dsimp only
  simp only [findBlock_atQueue]
  unfold TableS.atQueue
  dsimp only
  split
  · rfl
  · split
    case h_2 => split <;> rfl
    all_goals rfl

theorem slotsOf_atQueue (t : TableS) (q : Nat) (gr : Group) (v : Nat) : slotsOf (t.atQueue q) gr v = slotsOf t gr v := rfl
theorem mostSlots_atQueue (t : TableS) (q : Nat) (gr : Group) (os : List Nat) : mostSlots (t.atQueue q) gr os = mostSlots t gr os := rfl
theorem setSlot_atQueue (t : TableS) (q : Nat) (gr : Group) (s v : Nat) : setSlot (t.atQueue q) gr s v = (setSlot t gr s v).atQueue q := rfl

theorem takeSlots_atQueue (gr : Group) (o target : Nat) (donors : List Nat) (k : Nat) (t : TableS) (q : Nat) :
    takeSlots gr o target donors k (t.atQueue q) = (takeSlots gr o target donors k t).atQueue q := by
  induction k generalizing t with
  | zero => rfl
  | succ k ih =>
    simp only [takeSlots, slotsOf_atQueue, mostSlots_atQueue, setSlot_atQueue, ih]
    split
    · rfl
    · split
      · rfl
      · split
        · split <;> rfl
        · rfl

theorem memberAdd_atQueue (t : TableS) (q g : Nat) (gr : Group) (nh : Nat) :
    memberAdd (t.atQueue q) g gr nh = (memberAdd t g gr nh).map (fun x => (x.1.atQueue q, x.2)) := by
  have htake (m : SMap Nat) (o target : Nat) (donors : List Nat) (k : Nat) :
      takeSlots gr o target donors k { t.atQueue q with members := m } = (takeSlots gr o target donors k { t with members := m }).atQueue q :=
    takeSlots_atQueue gr o target donors k { t with members := m } q
  have hordinals : ordinals (t.atQueue q) g = ordinals t g := rfl
  unfold memberAdd
  simp only [hordinals]
  change (if 1048576 ≤ t.members.length then _ else _) = _
  split
  · rfl
  · split
    · rfl
    · split
      · rw [htake]; rfl
      · rfl

/-- What MEMBER_REMOVE gives one slot of the member that leaves (R114). -/
def giveSlot (g : Nat) (gr : Group) (t : TableS) (s : Nat) : TableS :=
  match fewestSlots t gr (ordinals t g) with
  | some (d, _) => setSlot t gr s (d + 1)
  | none => setSlot t gr s 0

theorem memberRemove_eq (t : TableS) (g : Nat) (gr : Group) (o : Nat) :
    memberRemove t g gr o =
      let t' := { t with members := SMap.del t.members (g * 4096 + o) }
      if gr.managed then (slotsOf t' gr (o + 1)).foldl (giveSlot g gr) t' else t' := rfl

theorem giveSlot_atQueue (g : Nat) (gr : Group) (t : TableS) (q s : Nat) :
    giveSlot g gr (t.atQueue q) s = (giveSlot g gr t s).atQueue q := by
  have hfewest : fewestSlots (t.atQueue q) gr (ordinals (t.atQueue q) g) = fewestSlots t gr (ordinals t g) := rfl
  unfold giveSlot
  rw [hfewest]
  split <;> rfl

theorem foldl_giveSlot_atQueue (g : Nat) (gr : Group) (q : Nat) (ss : List Nat) (t : TableS) :
    ss.foldl (giveSlot g gr) (t.atQueue q) = (ss.foldl (giveSlot g gr) t).atQueue q := by
  induction ss generalizing t with
  | nil => rfl
  | cons s ss ih => rw [List.foldl_cons, List.foldl_cons, giveSlot_atQueue, ih]

theorem memberRemove_atQueue (t : TableS) (q g : Nat) (gr : Group) (o : Nat) :
    memberRemove (t.atQueue q) g gr o = (memberRemove t g gr o).atQueue q := by
  rw [memberRemove_eq, memberRemove_eq]
  dsimp only
  split
  · exact foldl_giveSlot_atQueue g gr q _ { t with members := SMap.del t.members (g * 4096 + o) }
  · rfl

theorem recMember_atQueue (t : TableS) (q op rec : Nat) : recMember (t.atQueue q) op rec = (recMember t op rec).atQueue q := by
  have hgroups : (t.atQueue q).groups = t.groups := rfl
  have hmember (g o : Nat) : memberOf (t.atQueue q) g o = memberOf t g o := rfl
  unfold recMember
  dsimp only
  simp only [memberAdd_atQueue, memberRemove_atQueue, hgroups, hmember]
  split
  · rfl
  · split
    · rfl
    · split
      · cases memberAdd t _ _ _ <;> rfl
      · split <;> rfl
      · split <;> rfl

theorem recSlot_atQueue (t : TableS) (q op rec : Nat) : recSlot (t.atQueue q) op rec = (recSlot t op rec).atQueue q := by
  unfold recSlot TableS.atQueue
  dsimp only
  split
  · rfl
  · split
    · rfl
    · split
      · rfl
      · split
        · split <;> rfl
        · rfl

theorem recWin_atQueue (t : TableS) (q e op : Nat) (next : Bool) (rec : Nat) :
    recWin (t.atQueue q) e op next rec = (recWin t e op next rec).atQueue q := by
  unfold recWin TableS.atQueue
  dsimp only
  split
  · rfl
  · split
    case h_1 => split <;> rfl
    case h_2 => cases next <;> (simp only [Bool.false_eq_true, reduceIte]; split <;> rfl)
    case h_3 => split <;> rfl
    case h_4 =>
      split
      · rfl
      · cases next <;> (simp only [Bool.false_eq_true, reduceIte]; split <;> rfl)

theorem recTcam_atQueue (t : TableS) (q e op : Nat) (next : Bool) (rec : Nat) :
    recTcam (t.atQueue q) e op next rec = (recTcam t e op next rec).atQueue q := by
  unfold recTcam TableS.atQueue
  dsimp only
  split
  · rfl
  · split
    case h_2 => cases next <;> (simp only [Bool.false_eq_true, reduceIte]; split <;> rfl)
    all_goals split <;> rfl

/-- Every table's records. -/
theorem runRecord_atQueue (t : TableS) (q e op table : Nat) (next clearHit : Bool) (rec : Nat) :
    runRecord (t.atQueue q) e op table next clearHit rec = (runRecord t e op table next clearHit rec).atQueue q := by
  unfold runRecord
  split
  · exact recEm_atQueue ..
  · exact recLpm_atQueue ..
  · exact recLpm_atQueue ..
  · exact recNh_atQueue ..
  · exact recGroup_atQueue ..
  · exact recMember_atQueue ..
  · exact recSlot_atQueue ..
  · exact recWin_atQueue ..
  · exact recTcam_atQueue ..
  · rfl

end Sys2Proof.Machine

/-! Table-command blocks of one record: what a block's run leaves, and its completion (R123 to R126). -/
namespace Sys2Proof.Machine

/-! The bytes of a completion. -/

theorem length_leBytes (n v : Nat) : (leBytes n v).length = n := by
  induction n generalizing v with
  | zero => rfl
  | succ n ih => rw [leBytes, List.length_cons, ih]

theorem take_blockImage (h : Nat) (recs : List Nat) (x : BlkEnd) (fr : Nat) : (blockImage h recs x fr).take 16 = leBytes 16 h := by
  rw [blockImage, List.append_assoc, List.take_append_of_le_length (length_leBytes 16 h).ge, List.take_of_length_le (length_leBytes 16 h).le]

/-- The status is the first byte behind the header (Table 7). -/
theorem byteAt_blockImage (h : Nat) (recs : List Nat) (x : BlkEnd) (fr : Nat) : byteAt (blockImage h recs x fr) 16 = x.status % 256 := by
  have hbyte : (blockImage h recs x fr)[16]? = some (BitVec.ofNat 8 x.status) := by
    rw [blockImage, List.append_assoc, List.getElem?_append_right (length_leBytes 16 h).le, length_leBytes]
    rfl
  rw [byteAt, hbyte]
  rfl

/-! What a block's end and its counters leave alone. -/

/-- A reading that counting, elements, free values and completions leave alone. -/
structure OffCounters {γ : Type} (g : Dev → γ) : Prop where
  aside : Aside g
  vals : ∀ d k v, g (Dev.setEl d k v) = g d
  free : ∀ d, g (Dev.useFree d) = g d

namespace OffCounters
variable {γ : Type} {g : Dev → γ}

theorem perf (hg : OffCounters g) (d : Dev) (b e n : Nat) : g (Dev.perf d b e n) = g d := hg.aside.perfAny d b e n hg.vals
theorem count (hg : OffCounters g) (d : Dev) (k n : Nat) : g (Dev.count d k n) = g d := hg.aside.count d k n (fun d v => hg.vals d k v)
theorem addEl (hg : OffCounters g) (d : Dev) (w k n : Nat) : g (Dev.addEl d w k n) = g d := hg.vals ..

theorem blockEvents (hg : OffCounters g) (d : Dev) (h : Nat) (t : TableS) (x : BlkEnd) : g (Dev.blockEvents d h t x) = g d := by
  unfold Dev.blockEvents
  rw [hg.perf, hg.perf, hg.perf, hg.perf]

theorem abort (hg : OffCounters g) (hprog : ∀ d p, g (Dev.setProg d p) = g d) (d : Dev) (c u t r : Nat) :
    g (Dev.abort d c u t r) = g d := by
  unfold Dev.abort
  split
  · rfl
  · exact (hprog _ _).trans (hg.vals ..)

end OffCounters

theorem OffCounters.tbl : OffCounters (fun d : Dev => d.tbl) := ⟨Aside.tbl, fun _ _ _ => rfl, fun _ => rfl⟩
theorem OffCounters.prog : OffCounters (fun d : Dev => d.prog) := ⟨Aside.prog, fun _ _ _ => rfl, fun _ => rfl⟩
theorem OffCounters.time : OffCounters (fun d : Dev => d.time) := ⟨Aside.time, fun _ _ _ => rfl, fun _ => rfl⟩
theorem OffCounters.lanes : OffCounters (fun d : Dev => d.lanes) := ⟨Aside.lanes, fun _ _ _ => rfl, fun _ => rfl⟩

/-- What is on the packets' way. -/
def Dev.traffic (d : Dev) : SMap Pipe × SMap Pkt × SMap EQueue × SMap OutPort × BufS × GranS × SchedS :=
  (d.pipes, d.pkts, d.queues, d.ports, d.buf, d.gran, d.sched)

theorem sameTraffic_of_traffic {d e : Dev} (h : Dev.traffic e = Dev.traffic d) : SameTraffic d e := by
  unfold SameTraffic
  simpa only [Dev.traffic, Prod.mk.injEq] using h

theorem OffCounters.traffic : OffCounters Dev.traffic where
  aside := ⟨fun _ _ _ _ => rfl, fun _ _ => rfl, fun _ _ => rfl, fun d p h => by simp [Dev.traffic], fun _ _ => rfl, fun _ _ => rfl⟩
  vals _ _ _ := rfl
  free _ := rfl

/-! A block's end. -/

/-- A block's counters and its queue's last block (R128). -/
def Dev.blockTold (d : Dev) (q h : Nat) (failed : Bool) (x : BlkEnd) : Dev :=
  let d := if failed then d else Dev.useFree d
  let d := Dev.perf (Dev.count d K.tblCmdBlocks 1) 0x24 5 1
  let d := if x.status ≠ TS.ok then Dev.count d K.tblCmdFailed 1 else d
  Dev.setEl d (K.dqLastBlock (q % 2048)) (Blk.tag h + x.status * 2 ^ 32 + x.done * 2 ^ 40)

/-- A block for which no DMA item waits completes at its queue. -/
theorem blockEnd_eq (d : Dev) (q h : Nat) (recs : List Nat) (failed : Bool) (x : BlkEnd) :
    Dev.blockEnd d q h recs false failed x =
      Dev.emit (Dev.blockTold d q h failed x) (.blockDone q (blockImage h recs x (if failed then x.done else Dev.freeVal d 256))) := by
  unfold Dev.blockEnd Dev.blockTold
  dsimp only
  split <;> rfl

theorem OffCounters.blockEnd {γ : Type} {g : Dev → γ} (hg : OffCounters g) (d : Dev) (q h : Nat) (recs : List Nat) (failed : Bool) (x : BlkEnd) :
    g (Dev.blockEnd d q h recs false failed x) = g d := by
  have hfree : g (if failed then d else Dev.useFree d) = g d := by
    split
    · rfl
    · exact hg.free d
  rw [blockEnd_eq, hg.aside.out, Dev.blockTold, hg.vals]
  split
  · rw [hg.count, hg.perf, hg.count, hfree]
  · rw [hg.perf, hg.count, hfree]

/-- The completion names the block and its status. -/
theorem blockEnd_done (d : Dev) (q h : Nat) (recs : List Nat) (failed : Bool) (x : BlkEnd) :
    ∃ img, Out.blockDone q img ∈ (Dev.blockEnd d q h recs false failed x).out ∧ byteAt img 16 = x.status % 256 ∧ img.take 16 = leBytes 16 h := by
  rw [blockEnd_eq]
  exact ⟨_, List.mem_append_right _ (List.mem_singleton_self _), byteAt_blockImage .., take_blockImage ..⟩

/-! A block's run. -/

/-- The part after the records of a block that ended as x: the tables, the engine's events, the rooms that ran out, the staged entries,
and the abort of a staged set (R154, R155). -/
def Dev.blockRan (d : Dev) (h : Nat) (f : Option TblFault) (x : BlkEnd) : Dev :=
  let d := Dev.blockEvents (Dev.setTbl d x.tbl) h d.tbl x
  let d :=
    if x.status = TS.noRoom then
      if Blk.table h = 0 then Dev.day (Dev.count d K.tblEmNoRoom 1) 0
      else if 5 ≤ Blk.op h then Dev.day d 1 else d
    else d
  let d := if Blk.next h && Blk.op h != 4 then Dev.addEl d 32 K.epochStageEntries x.done else d
  let d :=
    if Blk.next h then
      if x.status = TS.noRoom then Dev.abort d 1 0xE (Blk.tag h) x.done
      else if x.status = TS.writeEcc then Dev.abort d 2 x.unit (Blk.tag h) x.done
      else if x.status = TS.timeout then Dev.abort d 3 x.unit (Blk.tag h) x.done
      else d
    else d
  if TblFault.aborts f x.done then Dev.abort d 5 0xE 0 0 else d

/-- Past the tables, no reading that the counters and the loader leave alone sees that the records ran. -/
theorem OffCounters.blockRan {γ : Type} {g : Dev → γ} (hg : OffCounters g) (hprog : ∀ d p, g (Dev.setProg d p) = g d)
    (d : Dev) (h : Nat) (f : Option TblFault) (x : BlkEnd) : g (Dev.blockRan d h f x) = g (Dev.setTbl d x.tbl) := by
  have hite {c : Prop} [Decidable c] {a b : Dev} {v : γ} (ha : g a = v) (hb : g b = v) : g (if c then a else b) = v := by
    split <;> assumption
  have habort {e : Dev} {v : γ} (c u t r : Nat) (he : g e = v) : g (Dev.abort e c u t r) = v := (hg.abort hprog ..).trans he
  have hevents := hg.blockEvents (Dev.setTbl d x.tbl) h d.tbl x
  have hrooms := hite (c := x.status = TS.noRoom)
    (hite (c := Blk.table h = 0) ((hg.aside.day _ 0).trans ((hg.count _ K.tblEmNoRoom 1).trans hevents))
      (hite (c := 5 ≤ Blk.op h) ((hg.aside.day _ 1).trans hevents) hevents)) hevents
  have hstaged := hite (c := (Blk.next h && Blk.op h != 4) = true) ((hg.addEl _ 32 K.epochStageEntries x.done).trans hrooms) hrooms
  have haborts := hite (c := Blk.next h = true) (hite (c := x.status = TS.noRoom) (habort 1 0xE (Blk.tag h) x.done hstaged)
    (hite (c := x.status = TS.writeEcc) (habort 2 x.unit (Blk.tag h) x.done hstaged)
      (hite (c := x.status = TS.timeout) (habort 3 x.unit (Blk.tag h) x.done hstaged) hstaged))) hstaged
  exact hite (habort 5 0xE 0 0 haborts) haborts

theorem runBlock_eq {ep : Nat} {d : Dev} {q h : Nat} {recs : List Nat} {item : Bool} {f : Option TblFault} {x : BlkEnd}
    (hbad : Blk.bad h recs = false) (hnext : Blk.next h = true → Dev.el d K.epochStageState = 0)
    (hx : runRecords (ep % 2) h f 0 (d.tbl.atQueue q) 0xFFFFFFFF [] recs = x) :
    Dev.runBlock ep d q h recs item f =
      Dev.blockEnd (Dev.blockRan (Dev.setTbl d (d.tbl.atQueue q)) h f x) q h recs item (x.status != TS.ok) x := by
  have hstop : (Blk.next h && Dev.el (Dev.setTbl d (d.tbl.atQueue q)) K.epochStageState != 0) = false := by
    cases hn : Blk.next h with
    | false => rfl
    | true =>
      have hzero : Dev.el (Dev.setTbl d (d.tbl.atQueue q)) K.epochStageState = 0 := hnext hn
      rw [hzero]
      rfl
  subst hx
  unfold Dev.runBlock
  rw [if_neg (by rw [hbad]; exact Bool.false_ne_true)]
  exact if_neg (by rw [Bool.not_eq_true]; exact hstop)

theorem runBlock_malformed {ep : Nat} {d : Dev} {q h : Nat} {recs : List Nat} {item : Bool} {f : Option TblFault} (hbad : Blk.bad h recs = true) :
    Dev.runBlock ep d q h recs item f =
      Dev.blockEnd (Dev.setTbl d (d.tbl.atQueue q)) q h recs item false (BlkEnd.stop (d.tbl.atQueue q) TS.invalid) := by
  unfold Dev.runBlock
  exact if_pos hbad

theorem block_eq_runBlock {ep : Nat} {d : Dev} {q h : Nat} {recs : List Nat} {item : Bool} {f : Option TblFault}
    (hw : Dev.blockWaits d d.tbl.waiting q h = false) : Dev.block ep d q h recs item f = Dev.runBlock ep d q h recs item f :=
  if_neg (by rw [hw]; exact Bool.false_ne_true)

/-- One record without a fault: its tables and its status are the block's, and where it fails no table changes. -/
theorem runRecords_one (e h : Nat) (t : TableS) (loc r : Nat) :
    let y := runRecord t e (Blk.op h) (Blk.table h) (Blk.next h) (Blk.clearHit h) r
    let x := runRecords e h none 0 t loc [] [r]
    x.status = y.status ∧ x.tbl = if y.status = 0 then y.tbl else t := by
  intro y x
  by_cases hy : y.status = 0
  · have hx : x = _ := if_neg (not_not.2 hy)
    rw [hx, if_pos hy]
    exact ⟨hy.symm, rfl⟩
  · have hx : x = _ := if_pos hy
    rw [hx, if_neg hy]
    exact ⟨rfl, rfl⟩

/-! The header's fields beside the opcode. -/

theorem op_blkHdr {op : Nat} (h : Nat) (hop : op < 10) : Blk.op (blkHdr op h) = op :=
  (bits_putBits_same h 0 8 op).trans (Nat.mod_eq_of_lt (by omega))

/-- Fields above the opcode are the operand's. -/
theorem bits_blkHdr (op h : Nat) {lo len : Nat} (hlo : 8 ≤ lo) : bits (blkHdr op h) lo len = bits h lo len := by
  refine Nat.eq_of_testBit_eq (fun i => ?_)
  simp only [bits, Nat.testBit_mod_two_pow, Nat.testBit_div_two_pow, blkHdr]
  rw [testBit_putBits_other h 0 8 op (i + lo) (by omega)]

theorem table_blkHdr (op h : Nat) : Blk.table (blkHdr op h) = Blk.table h := bits_blkHdr op h (by decide)
theorem next_blkHdr (op h : Nat) : Blk.next (blkHdr op h) = Blk.next h := congrArg (· == 1) (bits_blkHdr op h (lo := 12) (len := 2) (by decide))
theorem clearHit_blkHdr (op h : Nat) : Blk.clearHit (blkHdr op h) = Blk.clearHit h :=
  (bit_eq_testBit _ 14).trans ((testBit_putBits_other h 0 8 op 14 (by decide)).trans (bit_eq_testBit h 14).symm)

/-! The commands. -/

/-- Every table command brings its block to the engine. -/
theorem exec_of_tableInstr {op : Nat} {q : Fin 2048} {h : Nat} {recs : List Nat} {f : Option TblFault} {i : Instr} (s : State)
    (hi : tableInstr op q h recs f = some i) : exec i s = liftE (fun ep d => Dev.block ep d q (blkHdr op h) recs false f) s := by
  unfold tableInstr at hi
  split at hi
  case h_4 =>
    split at hi
    case isTrue hf =>
      obtain rfl := Option.isNone_iff_eq_none.1 hf
      obtain rfl := Option.some.inj hi
      rfl
    case isFalse => cases hi
  case h_10 => cases hi
  all_goals
    obtain rfl := Option.some.inj hi
    rfl

/-- A block of one record that runs: its tables, its completion, and what it leaves alone. -/
theorem does_of_blockRuns {op : Nat} {q : Fin 2048} {h rec : Nat} {i : Instr} {s : State} (hop : op < 10)
    (hi : tableInstr op q h [rec] none = some i) (hr : s.blockRuns q op h [rec]) :
    let y := runRecord s.dev.tbl (s.epoch % 2) op (Blk.table h) (Blk.next h) (Blk.clearHit h) rec
    Does i s (fun x => x.tbl = { (if y.status = 0 then y.tbl else s.dev.tbl) with last := q.val }
      ∧ (∃ img, Out.blockDone q img ∈ x.out ∧ byteAt img 16 = y.status % 256 ∧ img.take 16 = leBytes 16 (blkHdr op h))
      ∧ SameTraffic s.dev x ∧ x.time = s.dev.time ∧ x.lanes = s.dev.lanes) := by
  obtain ⟨hl, hbad, hw, hnext⟩ := hr
  intro y
  have hone := runRecords_one (s.epoch % 2) (blkHdr op h) (s.dev.tbl.atQueue q) 0xFFFFFFFF rec
  obtain ⟨x, hx⟩ : ∃ x, runRecords (s.epoch % 2) (blkHdr op h) none 0 (s.dev.tbl.atQueue q) 0xFFFFFFFF [] [rec] = x := ⟨_, rfl⟩
  simp only [hx, op_blkHdr h hop, table_blkHdr, next_blkHdr, clearHit_blkHdr, runRecord_atQueue] at hone
  obtain ⟨hstatus, htbl⟩ := hone
  rw [does_liftE_iff (exec_of_tableInstr s hi) hl, block_eq_runBlock hw, runBlock_eq hbad hnext hx]
  have hkeeps {γ : Type} {g : Dev → γ} (hg : OffCounters g) (hprog : ∀ d p, g (Dev.setProg d p) = g d) :
      g (Dev.blockEnd (Dev.blockRan (Dev.setTbl s.dev (s.dev.tbl.atQueue q)) (blkHdr op h) none x) q (blkHdr op h) [rec] false
        (x.status != TS.ok) x) = g (Dev.setTbl s.dev x.tbl) := (hg.blockEnd ..).trans (hg.blockRan hprog ..)
  refine ⟨(hkeeps OffCounters.tbl (fun _ _ => rfl)).trans (htbl.trans ?_), ?_, sameTraffic_of_traffic (hkeeps OffCounters.traffic (fun _ _ => rfl)),
    hkeeps OffCounters.time (fun _ _ => rfl), hkeeps OffCounters.lanes (fun _ _ => rfl)⟩
  · change (if y.status = 0 then _ else _) = _
    split <;> rfl
  · have hy : y.status = x.status := hstatus.symm
    rw [hy]
    exact blockEnd_done ..

/-- A malformed block ends INVALID, and no table changes. -/
theorem does_of_malformed {op : Nat} {q : Fin 2048} {h : Nat} {recs : List Nat} {f : Option TblFault} {i : Instr} {s : State} (hl : s.lit)
    (hi : tableInstr op q h recs f = some i) (hw : Dev.blockWaits s.dev s.dev.tbl.waiting q (blkHdr op h) = false)
    (hbad : Blk.bad (blkHdr op h) recs = true) :
    Does i s (fun x => x.tbl = { s.dev.tbl with last := q.val } ∧ x.prog = s.dev.prog ∧ SameTraffic s.dev x
      ∧ ∃ img, Out.blockDone q img ∈ x.out ∧ byteAt img 16 = 4) := by
  rw [does_liftE_iff (exec_of_tableInstr s hi) hl, block_eq_runBlock hw, runBlock_malformed hbad]
  obtain ⟨img, hdone, hstatus, -⟩ := blockEnd_done (Dev.setTbl s.dev (s.dev.tbl.atQueue q)) q (blkHdr op h) recs false
    (BlkEnd.stop (s.dev.tbl.atQueue q) TS.invalid)
  exact ⟨OffCounters.tbl.blockEnd .., OffCounters.prog.blockEnd .., sameTraffic_of_traffic (OffCounters.traffic.blockEnd ..), img, hdone, hstatus⟩

/-- Settles O28: a block that runs is its one record's run and its completion, a malformed one stops before any record, and a block that must
wait is the last of the waiting ones. -/
theorem tableCommandsRunTheirRecords : Obligations.TableCommandsRunTheirRecords := by
  unfold Obligations.TableCommandsRunTheirRecords
  intro op q h i s hl d hd
  refine ⟨fun rec hi hr => ?_, fun recs f hi hw hbad => does_of_malformed hl hi hw hbad, fun recs f hi hw => ?_⟩
  · simp only [hd, table_blkHdr, next_blkHdr, clearHit_blkHdr]
    exact does_of_blockRuns op.isLt hi hr
  · rw [exec_of_tableInstr s hi, liftE_lit _ hl]
    exact congrArg (fun x => Host.Outcome.next { s with dev := x }) (if_pos hw)

end Sys2Proof.Machine

/-! Exact match: what lookups see of the entries, and what one record makes of it (R101 to R105, R121). -/
namespace Sys2Proof.Machine

/-! What lookups see: an entry without its place and its hit bits. -/

/-- An entry as a lookup sees it, wherever it stands and whatever hit it before. -/
def EmEntry.shown (x : EmEntry) : EmEntry := { x with loc := 0, hit := 0 }

/-- What a lookup finds among entries. -/
def emSeen (em : List EmEntry) (tab width key b : Nat) : Option Nat := (emFind em tab width key b).map (fun y => y.result)

theorem emResult_eq_emSeen (t : TableS) (tab width key b : Nat) : emResult t tab width key b = emSeen t.em tab width key b := rfl

theorem emSeen_map_of_same {f : EmEntry → EmEntry} (hf : ∀ x, (f x).shown = x.shown) (em : List EmEntry) (tab width key b : Nat) :
    emSeen (em.map f) tab width key b = emSeen em tab width key b := by
  have hread {γ : Type} (g : EmEntry → γ) (hg : ∀ x, g x = g x.shown) (x : EmEntry) : g (f x) = g x := by rw [hg, hf, ← hg]
  have his := hread (fun x => EmEntry.is x tab width key) (fun _ => rfl)
  have hvis := hread EmEntry.vis (fun _ => rfl)
  have hresult := hread EmEntry.result (fun _ => rfl)
  simp only [emSeen, emFind, List.find?_map, Option.map_map, Function.comp_def, his, hvis, hresult]

theorem emSeen_of_shown {em em' : List EmEntry} (h : em.map EmEntry.shown = em'.map EmEntry.shown) (tab width key b : Nat) :
    emSeen em tab width key b = emSeen em' tab width key b := by
  rw [← emSeen_map_of_same (f := EmEntry.shown) (fun _ => rfl) em, h, emSeen_map_of_same (f := EmEntry.shown) (fun _ => rfl)]

theorem map_shown_of_same {f : EmEntry → EmEntry} (hf : ∀ x, (f x).shown = x.shown) (em : List EmEntry) :
    (em.map f).map EmEntry.shown = em.map EmEntry.shown := by
  rw [List.map_map]
  exact List.map_congr_left (fun x _ => hf x)

/-- Moves (R103). -/
theorem emMove_shown (em : List EmEntry) (path : EmPath) : (emMove em path).map EmEntry.shown = em.map EmEntry.shown :=
  foldl_keeps (fun em => em.map EmEntry.shown) _ (fun em m => map_shown_of_same (fun x => by split <;> rfl) em) path em

/-- Entries that leave the stash (R104). -/
theorem emUnstash_shown (em : List EmEntry) : (emUnstash em).map EmEntry.shown = em.map EmEntry.shown := by
  refine foldl_keeps (fun em => em.map EmEntry.shown) _ (fun cur x => ?_) em em
  split
  · split
    · exact map_shown_of_same (fun y => by split <;> rfl) cur
    · rfl
  · rfl

theorem emPut_shown {em em' : List EmEntry} {e : EmEntry} {ps : List Nat} {p : Nat} (h : emPut em e ps = some (em', p)) :
    em'.map EmEntry.shown = em.map EmEntry.shown ++ [e.shown] := by
  unfold emPut at h
  split at h
  · cases h
    rw [List.map_append]
    rfl
  · cases h

/-- Whatever place an inserted entry gets, the entries are those before and the new one (R103). -/
theorem emInsert_shown {em em' : List EmEntry} {e : EmEntry} {p : Nat} (h : emInsert em e = some (em', p)) :
    em'.map EmEntry.shown = em.map EmEntry.shown ++ [e.shown] := by
  unfold emInsert at h
  rw [Option.or_eq_some_iff, Option.or_eq_some_iff] at h
  rcases h with (h | ⟨-, h⟩) | ⟨-, h⟩
  · exact emPut_shown h
  · split at h
    · rw [emPut_shown h, emMove_shown]
    · cases h
  · exact emPut_shown h

theorem emSeen_append (em : List EmEntry) (e : EmEntry) (tab width key b : Nat) :
    emSeen (em ++ [e]) tab width key b =
      (emSeen em tab width key b).or (if EmEntry.is e tab width key && sees e.vis b then some e.result else none) := by
  rw [emSeen, emFind, List.find?_append, Option.map_or]
  congr 1
  cases hm : EmEntry.is e tab width key && sees e.vis b <;> simp [hm]

theorem emSeen_of_emInsert {em em' : List EmEntry} {e : EmEntry} {p : Nat} (h : emInsert em e = some (em', p)) (tab width key b : Nat) :
    emSeen em' tab width key b =
      (emSeen em tab width key b).or (if EmEntry.is e tab width key && sees e.vis b then some e.result else none) := by
  have happend : em'.map EmEntry.shown = (em ++ [e]).map EmEntry.shown := by rw [emInsert_shown h, List.map_append]; rfl
  rw [emSeen_of_shown happend, emSeen_append]

/-! Keys. -/

theorem is_iff (x : EmEntry) (tab width key : Nat) : EmEntry.is x tab width key = true ↔ (x.tab, x.width, x.key) = (tab, width, key) := by
  simp only [EmEntry.is, Bool.and_eq_true, beq_iff_eq, Prod.mk.injEq, and_assoc]

/-- An entry of one key is of no other. -/
theorem is_other {x : EmEntry} {tab width key tab' width' key' : Nat} (h : EmEntry.is x tab width key = true)
    (hne : (tab', width', key') ≠ (tab, width, key)) : EmEntry.is x tab' width' key' = false :=
  Bool.eq_false_iff.2 (fun h' => hne (((is_iff ..).1 h').symm.trans ((is_iff ..).1 h)))

/-- Entries of a key that share no visibility bit with `v` hide it from the packets that `v` is for. -/
theorem emSeen_eq_none_of_vis {em : List EmEntry} {tab width key v b : Nat}
    (h : ∀ y ∈ em, EmEntry.is y tab width key = true → y.vis &&& v = 0) (hb : sees v b = true) : emSeen em tab width key b = none := by
  rw [emSeen, Option.map_eq_none_iff, emFind, List.find?_eq_none]
  intro y hy hfound
  obtain ⟨his, hsees⟩ := Bool.and_eq_true_iff.1 hfound
  have hbit : (y.vis &&& v).testBit b = true := by
    rw [Nat.testBit_and, ← bit_eq_testBit, ← bit_eq_testBit]
    exact Bool.and_eq_true_iff.2 ⟨hsees, hb⟩
  rw [h y hy his, Nat.zero_testBit] at hbit
  cases hbit

theorem emSeen_filter_same (em : List EmEntry) (tab width key b : Nat) :
    emSeen (em.filter (fun y => !EmEntry.is y tab width key)) tab width key b = none := by
  rw [emSeen, Option.map_eq_none_iff, emFind, List.find?_eq_none]
  intro y hy hfound
  have hnot := (List.mem_filter.1 hy).2
  rw [(Bool.and_eq_true_iff.1 hfound).1] at hnot
  cases hnot

theorem emSeen_filter_other (em : List EmEntry) {tab width key tab' width' key' : Nat} (b : Nat)
    (hne : (tab', width', key') ≠ (tab, width, key)) :
    emSeen (em.filter (fun y => !EmEntry.is y tab width key)) tab' width' key' b = emSeen em tab' width' key' b := by
  rw [emSeen, emFind, List.find?_filter]
  refine congrArg (Option.map _) (congrArg (fun p => List.find? p em) (funext fun y => ?_))
  cases hy : EmEntry.is y tab width key with
  | false => simp
  | true => simp [is_other hy hne]

/-- A change of the results at the place of the entry that a lookup finds is seen by it (R121). -/
theorem emSeen_set {em : List EmEntry} {tab width key b : Nat} {x : EmEntry} (res : Nat) (h : emFind em tab width key b = some x) :
    emSeen (em.map (fun y => if y.loc = x.loc then { y with result := res } else y)) tab width key b = some res := by
  have hsame (y : EmEntry) : EmEntry.is (if y.loc = x.loc then { y with result := res } else y) tab width key = EmEntry.is y tab width key := by
    split <;> rfl
  have hvis (y : EmEntry) : (if y.loc = x.loc then { y with result := res } else y).vis = y.vis := by split <;> rfl
  have hfind : em.find? (fun y => EmEntry.is y tab width key && sees y.vis b) = some x := h
  simp [emSeen, emFind, List.find?_map, hsame, hvis, hfind]

/-! One record. -/

section
variable {t : TableS} {e rec : Nat} {clearHit : Bool}

/-- The entry that an exact-match record describes (Table 8 code 0). -/
def emOfRec (rec vis : Nat) : EmEntry :=
  { loc := 0, tab := bits rec 576 6, width := bits rec 582 2 + 1, key := bits rec 0 512, result := bits rec 512 64, vis := vis, hit := 0 }

/-- Whether an entry has the key of a record. -/
def EmEntry.isOfRec (x : EmEntry) (rec : Nat) : Bool := EmEntry.is x (bits rec 576 6) (bits rec 582 2 + 1) (bits rec 0 512)

/-- A well-formed exact-match record. -/
def emRecOk (rec : Nat) : Prop := rec < 2 ^ 585 ∧ bits rec 0 512 < 2 ^ (128 * (bits rec 582 2 + 1))

theorem not_invalid_of_emRecOk (h : emRecOk rec) : ¬ (2 ^ (128 * (bits rec 582 2 + 1)) ≤ bits rec 0 512 ∨ 2 ^ 585 ≤ rec) := by
  obtain ⟨hrec, hkey⟩ := h
  exact fun hor => hor.elim hkey.not_ge hrec.not_ge

theorem recEm_insert {next : Bool} {em : List EmEntry} {loc : Nat} (h : emRecOk rec)
    (hfree : ∀ y ∈ t.em, EmEntry.isOfRec y rec = true → y.vis &&& visFor next e = 0)
    (hins : emInsert t.em (emOfRec rec (visFor next e)) = some (em, loc)) :
    recEm t e 1 next clearHit rec = recOk { t with em := em } (emLocation loc) rec := by
  have hnone : (t.em.filter (fun x => EmEntry.isOfRec x rec)).find? (fun x => x.vis &&& visFor next e != 0) = none := by
    rw [List.find?_eq_none]
    intro y hy
    obtain ⟨hmem, his⟩ := List.mem_filter.1 hy
    rw [hfree y hmem his]
    decide
  unfold EmEntry.isOfRec at hnone
  unfold emOfRec at hins
  unfold recEm
  simp only [if_neg (not_invalid_of_emRecOk h), hnone, hins]

theorem recEm_modify {x : EmEntry} (h : emRecOk rec)
    (hfind : emFind t.em (bits rec 576 6) (bits rec 582 2 + 1) (bits rec 0 512) e = some x) :
    recEm t e 2 false clearHit rec =
      recOk { t with em := t.em.map (fun y => if y.loc = x.loc then { y with result := bits rec 512 64 } else y) } (emLocation x.loc) rec := by
  have hat : (t.em.filter (fun x => EmEntry.is x (bits rec 576 6) (bits rec 582 2 + 1) (bits rec 0 512))).find? (fun x => sees x.vis e) = some x :=
    (List.find?_filter ..).trans (by simpa [emFind] using hfind)
  unfold recEm
  simp only [if_neg (not_invalid_of_emRecOk h), Bool.false_eq_true, if_false, hat, Bool.false_and]

theorem recEm_delete (h : emRecOk rec) (hmem : ∃ y ∈ t.em, EmEntry.isOfRec y rec = true) :
    ∃ loc, recEm t e 3 false clearHit rec = recOk { t with em := emUnstash (t.em.filter (fun y => !EmEntry.isOfRec y rec)) } loc rec := by
  obtain ⟨y, hy, his⟩ := hmem
  obtain ⟨x, xs, hmine⟩ := List.exists_cons_of_ne_nil (List.ne_nil_of_mem (List.mem_filter (p := fun x => EmEntry.isOfRec x rec).2 ⟨hy, his⟩))
  unfold EmEntry.isOfRec at hmine
  refine ⟨emLocation x.loc, ?_⟩
  unfold recEm EmEntry.isOfRec
  simp only [if_neg (not_invalid_of_emRecOk h), Bool.false_eq_true, if_false, hmine]

theorem recEm_read {next : Bool} (h : emRecOk rec) (hmem : ∃ y ∈ t.em, EmEntry.isOfRec y rec = true) :
    ∃ em loc back, recEm t e 4 next clearHit rec = recOk { t with em := em } loc back ∧ em.map EmEntry.shown = t.em.map EmEntry.shown := by
  obtain ⟨y, hy, his⟩ := hmem
  obtain ⟨x, xs, hmine⟩ := List.exists_cons_of_ne_nil (List.ne_nil_of_mem (List.mem_filter (p := fun x => EmEntry.isOfRec x rec).2 ⟨hy, his⟩))
  have hshown (z : EmEntry) : (if clearHit then t.em.map (fun y => if y.loc = z.loc then { y with hit := 0 } else y) else t.em).map EmEntry.shown
      = t.em.map EmEntry.shown := by
    split
    · exact map_shown_of_same (fun y => by split <;> rfl) _
    · rfl
  unfold EmEntry.isOfRec at hmine
  unfold recEm
  simp only [if_neg (not_invalid_of_emRecOk h), hmine, List.head?_cons]
  cases List.find? (fun x => sees x.vis (if next = true then 1 - e else e)) (x :: xs) with
  | none => exact ⟨_, _, _, rfl, hshown x⟩
  | some z => exact ⟨_, _, _, rfl, hshown z⟩

end

/-! The commands. -/

theorem Does.imp {i : Instr} {s : State} {P Q : Dev → Prop} (h : Does i s P) (hpq : ∀ x, P x → Q x) : Does i s Q :=
  let ⟨d, hd, hp⟩ := h
  ⟨d, hd, hpq d hp⟩

/-- A block of one record that completes leaves the tables that the record leaves. -/
theorem does_of_recOk {op : Nat} {q : Fin 2048} {h rec loc back : Nat} {i : Instr} {s : State} {t : TableS} (hop : op < 10)
    (hi : tableInstr op q h [rec] none = some i) (hr : s.blockRuns q op h [rec])
    (hy : runRecord s.dev.tbl (s.epoch % 2) op (Blk.table h) (Blk.next h) (Blk.clearHit h) rec = recOk t loc back) :
    Does i s (fun x => x.tbl = t.atQueue q) := by
  have hdoes := does_of_blockRuns hop hi hr
  rw [hy] at hdoes
  refine hdoes.imp (fun x hx => ?_)
  obtain ⟨htbl, -⟩ := hx
  exact htbl

/-- A block of one exact-match record that completes leaves its entries. -/
theorem does_of_recEm {op : Nat} {q : Fin 2048} {h rec loc back : Nat} {i : Instr} {s : State} {em : List EmEntry} (hop : op < 10)
    (hi : tableInstr op q h [rec] none = some i) (hr : s.blockRuns q op h [rec]) (ht : Blk.table h = 0)
    (hy : recEm s.dev.tbl (s.epoch % 2) op (Blk.next h) (Blk.clearHit h) rec = recOk { s.dev.tbl with em := em } loc back) :
    Does i s (fun x => ∀ tab width key b, emResult x.tbl tab width key b = emSeen em tab width key b) := by
  refine (does_of_recOk hop hi hr (by rw [ht]; exact hy)).imp (fun x hx tab width key b => ?_)
  rw [hx]
  rfl

/-- Settles O29: each record's run says what becomes of the entries, and lookups see them without their places. -/
theorem exactMatchEntriesAreFoundAndGone : Obligations.ExactMatchEntriesAreFoundAndGone := by
  unfold Obligations.ExactMatchEntriesAreFoundAndGone
  intro q h rec s t e key res tab width others ht hrec hkey
  have hok : emRecOk rec := ⟨hrec, hkey⟩
  refine ⟨fun hr => ?_, fun hr hn hfound => ?_, fun hr hn hmem => ?_, fun hr hmem => ?_⟩
  · intro v hfree hins
    obtain ⟨⟨em, loc⟩, (hput : emInsert t.em (emOfRec rec v) = some (em, loc))⟩ := Option.isSome_iff_exists.1 hins
    refine (does_of_recEm (by decide) rfl hr ht (recEm_insert hok hfree hput)).imp (fun x hx => ⟨fun b hb => ?_, fun tab' width' key' b hne => ?_⟩)
    · have hmatch : (EmEntry.is (emOfRec rec v) tab width key && sees (emOfRec rec v).vis b) = true :=
        Bool.and_eq_true_iff.2 ⟨(is_iff ..).2 rfl, hb⟩
      rw [hx, emSeen_of_emInsert hput, emSeen_eq_none_of_vis hfree hb, Option.none_or]
      exact if_pos hmatch
    · have hother : EmEntry.is (emOfRec rec v) tab' width' key' = false := is_other ((is_iff ..).2 rfl) hne
      rw [hx, emSeen_of_emInsert hput, hother, Bool.false_and]
      exact Option.or_none
  · obtain ⟨y, hy⟩ := Option.isSome_iff_exists.1 hfound
    obtain ⟨x, hfind, -⟩ := Option.map_eq_some_iff.1 hy
    refine (does_of_recEm (by decide) rfl hr ht (by rw [hn]; exact recEm_modify hok hfind)).imp (fun z hz => ?_)
    rw [hz]
    exact emSeen_set res hfind
  · obtain ⟨loc, hdel⟩ := recEm_delete (e := e) (clearHit := Blk.clearHit h) hok hmem
    refine (does_of_recEm (by decide) rfl hr ht (by rw [hn]; exact hdel)).imp (fun x hx => ⟨fun b => ?_, fun tab' width' key' b hne => ?_⟩)
    · rw [hx, emSeen_of_shown (emUnstash_shown _)]
      exact emSeen_filter_same ..
    · rw [hx, emSeen_of_shown (emUnstash_shown _)]
      exact emSeen_filter_other t.em b hne
  · obtain ⟨em, loc, back, hread, hshown⟩ := recEm_read (e := e) (next := Blk.next h) (clearHit := Blk.clearHit h) hok hmem
    refine (does_of_recEm (by decide) rfl hr ht hread).imp (fun x hx => ?_)
    have hall (tab' width' key' b : Nat) : emResult x.tbl tab' width' key' b = emResult t tab' width' key' b :=
      (hx ..).trans (emSeen_of_shown hshown ..)
    exact ⟨fun b => hall .., fun tab' width' key' b _ => hall ..⟩

end Sys2Proof.Machine

/-! Next hops, groups, members and slots: what one record makes of them (R109, R110, R114). -/
namespace Sys2Proof.Machine

/-! Slot blocks. -/

theorem findBlock_some {t : TableS} {s k b₀ b : Nat} (h : findBlock t s k b₀ = some b) :
    blockFree t b s = true ∧ ∃ j, j < k ∧ b = b₀ + j * s := by
  induction k generalizing b₀ with
  | zero => cases h
  | succ k ih =>
    rw [findBlock] at h
    split at h
    case isTrue hfree =>
      obtain rfl := Option.some.inj h
      exact ⟨hfree, 0, k.succ_pos, by rw [Nat.zero_mul, Nat.add_zero]⟩
    case isFalse =>
      obtain ⟨hfree, j, hj, rfl⟩ := ih h
      exact ⟨hfree, j + 1, Nat.succ_lt_succ hj, by rw [Nat.succ_mul]; omega⟩

/-- A block found among all of the slot table is aligned, lies inside it, and overlaps no group's (R110). -/
theorem findBlock_aligned {t : TableS} {s b : Nat} (h : findBlock t s (2097152 / s) 0 = some b) :
    b % s = 0 ∧ b + s ≤ 2097152 ∧ ∀ o ∈ t.groups, overlaps b s o.2.base (2 ^ o.2.log2) = false := by
  obtain ⟨hfree, j, hj, rfl⟩ := findBlock_some h
  have hend : (j + 1) * s ≤ 2097152 := (Nat.mul_le_mul_right s hj).trans (Nat.div_mul_le_self ..)
  rw [Nat.succ_mul] at hend
  refine ⟨by rw [Nat.zero_add, Nat.mul_mod_left], by omega, fun o ho => ?_⟩
  simpa using List.all_eq_true.1 hfree o ho

/-! Deleted keys. -/

theorem SMap.find_isSome_of_mem {α : Type} {m : SMap α} {x : Nat × α} (h : x ∈ m) : (SMap.find m x.1).isSome = true := by
  induction m with
  | nil => cases h
  | cons y t ih =>
    rw [SMap.find]
    split
    · rfl
    · rcases List.mem_cons.1 h with rfl | ht
      · exact absurd rfl ‹_›
      · exact ih ht

theorem SMap.find_eq_none_of_forall {α : Type} {m : SMap α} {k : Nat} (h : ∀ x ∈ m, x.1 ≠ k) : SMap.find m k = none := by
  induction m with
  | nil => rfl
  | cons y t ih =>
    rw [SMap.find, if_neg (h y List.mem_cons_self)]
    exact ih (fun x hx => h x (List.mem_cons_of_mem _ hx))

/-- Deleting a key's whole block leaves none of it, and deleting more brings nothing back. -/
theorem get_foldl_del {α : Type} (d : α) (base k : Nat) (ss : List Nat) (m : SMap α) (h : k ∈ ss ∨ SMap.get m (base + k) d = d) :
    SMap.get (ss.foldl (fun m s => SMap.del m (base + s)) m) (base + k) d = d := by
  induction ss generalizing m with
  | nil => exact h.resolve_left (List.not_mem_nil)
  | cons s ss ih =>
    refine ih _ ?_
    by_cases hk : k = s
    · subst hk
      exact Or.inr (SMap.get_del_same ..)
    · rw [SMap.get_del_ne m (base + s) (base + k) d (by omega)]
      exact h.imp_left (fun hmem => (List.mem_cons.1 hmem).resolve_left hk)

/-! Members. -/

theorem memberOf_isSome_of_mem_ordinals {t : TableS} {g o : Nat} (h : o ∈ ordinals t g) : (memberOf t g o).isSome = true := by
  obtain ⟨x, hx, rfl⟩ := List.mem_map.1 h
  obtain ⟨hmem, hg⟩ := List.mem_filter.1 hx
  have hkey : g * 4096 + x.1 % 4096 = x.1 := by rw [beq_iff_eq] at hg; omega
  rw [memberOf, hkey]
  exact SMap.find_isSome_of_mem hmem

theorem lowestFree_lt {l : List Nat} {o : Nat} (h : lowestFree l = some o) : o < 4096 := by
  unfold lowestFree at h
  have hmem := List.mem_of_find?_eq_some h
  exact List.mem_range.1 hmem

theorem lt_of_mem_slotsOf {t : TableS} {gr : Group} {v s : Nat} (h : s ∈ slotsOf t gr v) : s < 2 ^ gr.log2 :=
  List.mem_range.1 (List.mem_filter.1 h).1

theorem mem_slotsOf {t : TableS} {gr : Group} {v s : Nat} : s ∈ slotsOf t gr v ↔ s < 2 ^ gr.log2 ∧ SMap.get t.slots (gr.base + s) 0 = v := by
  rw [slotsOf, List.mem_filter, List.mem_range, beq_iff_eq]

/-! MEMBER_ADD takes slots of the group for its member and no others (R114). -/

/-- From t to u, each slot is as before or is one of the group's and now holds v; members stay. -/
def SlotsTo (gr : Group) (v : Nat) (t u : TableS) : Prop :=
  u.members = t.members ∧ ∀ k, SMap.get u.slots k 0 = SMap.get t.slots k 0
    ∨ (gr.base ≤ k ∧ k < gr.base + 2 ^ gr.log2 ∧ SMap.get u.slots k 0 = v)

theorem SlotsTo.refl (gr : Group) (v : Nat) (t : TableS) : SlotsTo gr v t t := ⟨rfl, fun _ => Or.inl rfl⟩

theorem SlotsTo.setSlot {gr : Group} {v s : Nat} {t u : TableS} (h : SlotsTo gr v t u) (hs : s < 2 ^ gr.log2) :
    SlotsTo gr v t (setSlot u gr s v) := by
  obtain ⟨hmembers, hslots⟩ := h
  refine ⟨hmembers, fun k => ?_⟩
  by_cases hk : k = gr.base + s
  · subst hk
    exact Or.inr ⟨Nat.le_add_right .., Nat.add_lt_add_left hs _, SMap.get_set_same ..⟩
  · rw [Machine.setSlot, SMap.get_set_ne _ _ _ _ _ _ hk]
    exact hslots k

theorem SlotsTo.takeSlots {gr : Group} {o target : Nat} {donors : List Nat} {t : TableS} (k : Nat) {u : TableS} (h : SlotsTo gr (o + 1) t u) :
    SlotsTo gr (o + 1) t (takeSlots gr o target donors k u) := by
  induction k generalizing u with
  | zero => exact h
  | succ k ih =>
    rw [Machine.takeSlots]
    split
    · exact h
    · split
      case h_1 s _ hfree => exact ih (h.setSlot (lt_of_mem_slotsOf (hfree ▸ List.mem_cons_self)))
      case h_2 =>
        split
        · split
          case h_1 s hlast => exact ih (h.setSlot (lt_of_mem_slotsOf (List.mem_of_getLast? hlast)))
          case h_2 => exact h
        · exact h

/-- What MEMBER_ADD leaves: the new member, and slots of its group alone. -/
theorem memberAdd_some {t : TableS} {g o : Nat} {gr : Group} (nh : Nat) (hroom : t.members.length < 1048576)
    (ho : lowestFree (ordinals t g) = some o) :
    ∃ u, memberAdd t g gr nh = some (u, o) ∧ u.members = SMap.ins t.members (g * 4096 + o) nh
      ∧ ∀ k, SMap.get u.slots k 0 = SMap.get t.slots k 0
        ∨ (gr.managed = true ∧ gr.base ≤ k ∧ k < gr.base + 2 ^ gr.log2 ∧ SMap.get u.slots k 0 = o + 1) := by
  unfold memberAdd
  simp only [if_neg (Nat.not_le.2 hroom), ho]
  cases hm : gr.managed with
  | false => exact ⟨_, rfl, rfl, fun _ => Or.inl rfl⟩
  | true =>
    obtain ⟨hmembers, hslots⟩ := (SlotsTo.refl gr (o + 1) { t with members := SMap.ins t.members (g * 4096 + o) nh }).takeSlots
      (target := 2 ^ gr.log2 / ((ordinals t g).length + 1)) (donors := ordinals t g) (2 ^ gr.log2)
    exact ⟨_, rfl, hmembers, fun k => (hslots k).imp_right (fun h => ⟨rfl, h⟩)⟩

/-! MEMBER_REMOVE gives each slot of its member to another or to none (R114). -/

theorem fewestSlots_mem {t : TableS} {gr : Group} {os : List Nat} {b : Nat × Nat} (h : fewestSlots t gr os = some b) : b.1 ∈ os := by
  have hall (os : List Nat) (best : Option (Nat × Nat))
      (hb : os.foldl (fun best o => let n := (slotsOf t gr (o + 1)).length
        match best with
        | some b => if n < b.2 then some (o, n) else best
        | none => some (o, n)) best = some b) : b.1 ∈ os ∨ best = some b := by
    induction os generalizing best with
    | nil => exact Or.inr hb
    | cons o os ih =>
      rcases ih _ hb with hmem | hbest
      · exact Or.inl (List.mem_cons_of_mem _ hmem)
      · dsimp only at hbest
        split at hbest
        · split at hbest
          · exact Or.inl (Option.some.inj hbest ▸ List.mem_cons_self)
          · exact Or.inr hbest
        · exact Or.inl (Option.some.inj hbest ▸ List.mem_cons_self)
  exact (hall os none h).resolve_right (fun hnone => nomatch hnone)

/-- Member o of group g is gone, and only the slots listed still name it. -/
def Leaving (g : Nat) (gr : Group) (o : Nat) (ss : List Nat) (t : TableS) : Prop :=
  memberOf t g o = none ∧ ∀ s ∈ slotsOf t gr (o + 1), s ∈ ss

theorem giveSlot_members (g : Nat) (gr : Group) (t : TableS) (s : Nat) : (giveSlot g gr t s).members = t.members := by
  unfold giveSlot
  split <;> rfl

/-- The slot given is another member's, or nobody's. -/
theorem giveSlot_eq_setSlot {g o : Nat} {gr : Group} {t : TableS} (s : Nat) (h : memberOf t g o = none) :
    ∃ v, v ≠ o + 1 ∧ giveSlot g gr t s = setSlot t gr s v := by
  unfold giveSlot
  split
  case h_1 d _ hd =>
    refine ⟨d + 1, fun heq => ?_, rfl⟩
    obtain rfl : d = o := Nat.succ.inj heq
    have hsome := memberOf_isSome_of_mem_ordinals (fewestSlots_mem hd)
    rw [h] at hsome
    cases hsome
  case h_2 => exact ⟨0, (Nat.succ_ne_zero o).symm, rfl⟩

theorem Leaving.giveSlot {g o s : Nat} {gr : Group} {ss : List Nat} {t : TableS} (h : Leaving g gr o (s :: ss) t) :
    Leaving g gr o ss (giveSlot g gr t s) := by
  obtain ⟨hmember, hslots⟩ := h
  obtain ⟨v, hv, hgive⟩ := giveSlot_eq_setSlot (gr := gr) s hmember
  refine ⟨by rw [memberOf, giveSlot_members]; exact hmember, fun s' hs' => ?_⟩
  obtain ⟨hlt, hget⟩ := mem_slotsOf.1 hs'
  rw [hgive, setSlot] at hget
  by_cases heq : s' = s
  · subst heq
    rw [SMap.get_set_same] at hget
    exact absurd hget hv
  · rw [SMap.get_set_ne _ _ _ _ _ _ (by omega)] at hget
    exact (List.mem_cons.1 (hslots s' (mem_slotsOf.2 ⟨hlt, hget⟩))).resolve_left heq

theorem Leaving.foldl {g o : Nat} {gr : Group} {ss : List Nat} {t : TableS} (h : Leaving g gr o ss t) :
    Leaving g gr o [] (ss.foldl (Machine.giveSlot g gr) t) := by
  induction ss generalizing t with
  | nil => exact h
  | cons s ss ih => exact ih h.giveSlot

/-- What MEMBER_REMOVE leaves: no such member, in a managed group no slot of it, in another every slot. -/
theorem memberRemove_spec (t : TableS) (g : Nat) (gr : Group) (o : Nat) :
    memberOf (memberRemove t g gr o) g o = none ∧ (gr.managed = true → slotsOf (memberRemove t g gr o) gr (o + 1) = [])
      ∧ (gr.managed = false → (memberRemove t g gr o).slots = t.slots) := by
  have hgone : memberOf { t with members := SMap.del t.members (g * 4096 + o) } g o = none := SMap.find_del_same ..
  rw [memberRemove_eq]
  cases gr.managed with
  | false => exact ⟨hgone, fun h => absurd h Bool.false_ne_true, fun _ => rfl⟩
  | true =>
    obtain ⟨hmember, hslots⟩ := Leaving.foldl (gr := gr) ⟨hgone, fun s hs => hs⟩
    exact ⟨hmember, fun _ => List.eq_nil_iff_forall_not_mem.2 (fun s hs => List.not_mem_nil (hslots s hs)),
      fun h => absurd h.symm Bool.false_ne_true⟩

/-! One record. -/

section
variable {t : TableS} {rec : Nat}

theorem not_invalid_nh (hrec : rec < 2 ^ 147) (hzero : bits (bits rec 0 128) 100 28 = 0) (hport : nhPort (bits rec 0 128) ≤ 1040) :
    ¬ (2 ^ 147 ≤ rec ∨ bits (bits rec 0 128) 100 28 ≠ 0 ∨ 1040 < nhPort (bits rec 0 128)) := by
  rintro (h | h | h)
  · exact hrec.not_ge h
  · exact h hzero
  · exact hport.not_gt h

theorem not_invalid_group (hrec : rec < 2 ^ 26) (hkind : bits rec 14 2 ≤ 1) (hsize : bits rec 16 4 ≤ 12) :
    ¬ (2 ^ 26 ≤ rec ∨ 1 < bits rec 14 2 ∨ 12 < bits rec 16 4) := by
  rintro (h | h | h)
  · exact hrec.not_ge h
  · exact hkind.not_gt h
  · exact hsize.not_gt h

/-- The group that a record describes, on a block (Table 8 code 4). -/
def groupOfRec (rec b : Nat) : Group :=
  { managed := bits rec 14 2 == 1, log2 := bits rec 16 4, failover := bit rec 20, rotate := bits rec 21 5, base := b }

theorem recGroup_create {b : Nat} (hok : ¬ (2 ^ 26 ≤ rec ∨ 1 < bits rec 14 2 ∨ 12 < bits rec 16 4))
    (hnone : SMap.find t.groups (bits rec 0 14) = none) (hb : findBlock t (2 ^ bits rec 16 4) (2097152 / 2 ^ bits rec 16 4) 0 = some b) :
    recGroup t 5 rec = recOk { t with groups := SMap.ins t.groups (bits rec 0 14) (groupOfRec rec b) } b rec := by
  unfold recGroup
  simp only [if_neg hok, hnone, hb, groupOfRec]

theorem recGroup_delete {gr : Group} (hok : ¬ (2 ^ 26 ≤ rec ∨ 1 < bits rec 14 2 ∨ 12 < bits rec 16 4))
    (hgr : SMap.find t.groups (bits rec 0 14) = some gr) :
    recGroup t 6 rec = recOk { t with
      groups := SMap.del t.groups (bits rec 0 14)
      slots := (List.range (2 ^ gr.log2)).foldl (fun m s => SMap.del m (gr.base + s)) t.slots
      members := t.members.filter (fun m => m.1 / 4096 != bits rec 0 14) } (bits rec 0 14) rec := by
  unfold recGroup
  simp only [if_neg hok, hgr]

theorem recMember_add {gr : Group} {o : Nat} {u : TableS} (hrec : rec < 2 ^ 45) (hgr : SMap.find t.groups (bits rec 0 14) = some gr)
    (hadd : memberAdd t (bits rec 0 14) gr (bits rec 26 19) = some (u, o)) : recMember t 7 rec = recOk u o rec := by
  unfold recMember
  simp only [if_neg hrec.not_ge, hgr, hadd]

theorem recMember_remove {gr : Group} (hrec : rec < 2 ^ 45) (hgr : SMap.find t.groups (bits rec 0 14) = some gr)
    (hmember : (memberOf t (bits rec 0 14) (bits rec 14 12)).isSome = true) :
    recMember t 8 rec = recOk (memberRemove t (bits rec 0 14) gr (bits rec 14 12)) (bits rec 14 12) rec := by
  unfold recMember
  simp only [if_neg hrec.not_ge, hgr, if_pos hmember]

theorem recSlot_write {gr : Group} (hrec : rec < 2 ^ 39) (hgr : SMap.find t.groups (bits rec 0 14) = some gr)
    (hslot : bits rec 14 12 < 2 ^ gr.log2) (hmanaged : gr.managed = false) :
    recSlot t 9 rec = recOk (setSlot t gr (bits rec 14 12) (if bit rec 38 then 0 else bits rec 26 12 + 1)) (bits rec 14 12) rec := by
  unfold recSlot
  simp only [if_neg hrec.not_ge, hgr, if_neg hslot.not_ge, hmanaged, Bool.false_eq_true, if_false]

end

/-- A next-hop record that completes leaves its value in its place alone. -/
theorem does_of_recNh {op : Nat} {q : Fin 2048} {h rec i v : Nat} {c : Instr} {s : State} (hop : op < 10)
    (hi : tableInstr op q h [rec] none = some c) (hr : s.blockRuns q op h [rec]) (ht : Blk.table h = 3)
    (hy : recNh s.dev.tbl op rec = recOk { s.dev.tbl with nh := SMap.set s.dev.tbl.nh i v 0 } i rec) :
    Does c s (fun x => SMap.get x.tbl.nh i 0 = v ∧ ∀ j, j ≠ i → SMap.get x.tbl.nh j 0 = SMap.get s.dev.tbl.nh j 0) := by
  refine (does_of_recOk hop hi hr (by rw [ht]; exact hy)).imp (fun x hx => ?_)
  rw [hx]
  exact ⟨SMap.get_set_same .., fun j hj => SMap.get_set_ne _ _ _ _ _ _ hj⟩

/-- Settles O30: each record's run, by what findBlock finds, and by what the taking and the giving of slots keep. -/
theorem nextHopsGroupsAndSlotsAreKept : Obligations.NextHopsGroupsAndSlotsAreKept := by
  unfold Obligations.NextHopsGroupsAndSlotsAreKept
  intro q h rec s t i ent g nhIs
  refine ⟨fun ht hrec hzero hport => ?_, fun ht hrec hkind hsize => ⟨fun hr hnone hroom => ?_, fun gr hr hgr => ?_⟩, fun gr hgr =>
    ⟨fun o ht hrec hr hroom ho => ?_, fun ht hrec hr hmember => ?_, fun ht hrec hr hslot hmanaged => ?_⟩⟩
  · have hok := not_invalid_nh hrec hzero hport
    refine ⟨fun hr hv => ?_, fun hr hv => ?_, fun hr hv => ?_⟩
    all_goals
      refine does_of_recNh (by decide) rfl hr ht ?_
      unfold recNh
      simp only [if_neg hok]
    · exact if_neg (by rw [hv]; exact Bool.false_ne_true)
    · exact if_pos hv
    · exact if_pos hv
  · obtain ⟨b, hb⟩ := Option.isSome_iff_exists.1 hroom
    obtain ⟨haligned, hinside, hfree⟩ := findBlock_aligned hb
    have hrun := recGroup_create (not_invalid_group hrec hkind hsize) hnone hb
    refine (does_of_recOk (by decide) rfl hr (by rw [ht]; exact hrun)).imp
      (fun x hx => ⟨groupOfRec rec b, ?_, rfl, rfl, rfl, rfl, haligned, hinside, hfree⟩)
    rw [hx]
    exact SMap.find_ins_same ..
  · have hrun := recGroup_delete (not_invalid_group hrec hkind hsize) hgr
    refine (does_of_recOk (by decide) rfl hr (by rw [ht]; exact hrun)).imp (fun x hx => ?_)
    rw [hx]
    refine ⟨SMap.find_del_same .., fun o ho => SMap.find_eq_none_of_forall (fun m hm hkey => ?_),
      fun k hk => get_foldl_del 0 gr.base k _ t.slots (Or.inl (List.mem_range.2 hk))⟩
    have hne := (List.mem_filter.1 hm).2
    rw [hkey, bne_iff_ne] at hne
    omega
  · obtain ⟨u, hadd, hmembers, hslots⟩ := memberAdd_some (gr := gr) (bits rec 26 19) hroom ho
    refine (does_of_recOk (by decide) rfl hr (by rw [ht]; exact recMember_add hrec hgr hadd)).imp (fun x hx => ?_)
    have hlt := lowestFree_lt ho
    have hfind (g' m : Nat) : memberOf x.tbl g' m = SMap.find (SMap.ins t.members (g * 4096 + o) (bits rec 26 19)) (g' * 4096 + m) := by
      rw [hx, ← hmembers]
      rfl
    refine ⟨(hfind g o).trans (SMap.find_ins_same ..), fun g' m hm hne => ?_, by rw [hx]; exact hslots⟩
    rw [hfind, SMap.find_ins_ne]
    · rfl
    · intro heq
      exact hne (Prod.ext (by omega) (by omega))
  · refine (does_of_recOk (by decide) rfl hr (by rw [ht]; exact recMember_remove hrec hgr hmember)).imp (fun x hx => ?_)
    rw [hx]
    exact memberRemove_spec t g gr (bits rec 14 12)
  · refine (does_of_recOk (by decide) rfl hr (by rw [ht]; exact recSlot_write hrec hgr hslot hmanaged)).imp (fun x hx => ?_)
    rw [hx]
    exact ⟨SMap.get_set_same .., fun k hk => SMap.get_set_ne _ _ _ _ _ _ hk⟩

end Sys2Proof.Machine

/-! Settlement, the undo of a staged set, and the repair of the barns (R122, R127, R155). -/
namespace Sys2Proof.Machine

/-! What settlement does to one entry's visibility. -/

/-- Of the entries that the bit in force sees, and of no others, both bits see what settlement leaves. -/
theorem settleVis_seen (e v : Nat) {b : Nat} (hb : b < 2) : (settleVis e v != 0 && sees (settleVis e v) b) = sees v e := by
  have hthree : sees 3 b = true := by
    interval_cases b <;> rfl
  unfold settleVis
  cases sees v e with
  | true => exact hthree
  | false => rfl

/-! A search for the best of a list's entries. -/

/-- One step of the search: an entry that meets `p` takes the place of a worse one. -/
def betterStep {α : Type} (p : α → Bool) (better : α → α → Prop) [DecidableRel better] (best : Option α) (x : α) : Option α :=
  if p x then
    match best with
    | some b => if better x b then some x else best
    | none => some x
  else best

/-- The first of the entries that meet `p` such that none is better. -/
def bestOf {α : Type} (p : α → Bool) (better : α → α → Prop) [DecidableRel better] (l : List α) : Option α :=
  l.foldl (betterStep p better) none

theorem foldl_eq_bestOf {α : Type} {p : α → Bool} {better : α → α → Prop} [DecidableRel better] {f : Option α → α → Option α}
    (hf : ∀ best x, f best x = betterStep p better best x) (l : List α) : l.foldl f none = bestOf p better l :=
  congrArg (fun f => List.foldl f none l) (funext fun best => funext fun x => hf best x)

theorem betterStep_map {α : Type} {p p' : α → Bool} {f : α → α} {better : α → α → Prop} [DecidableRel better] {x : α}
    (hp : p' (f x) = p x) (hbetter : ∀ x y, better (f x) (f y) ↔ better x y) (best : Option α) :
    betterStep p' better (best.map f) (f x) = (betterStep p better best x).map f := by
  unfold betterStep
  rw [hp]
  cases p x with
  | false => rfl
  | true =>
    cases best with
    | none => rfl
    | some b => by_cases hbest : better x b <;> simp [hbest, hbetter]

/-- Where every entry is changed and some are struck out, and the changed ones that stay and meet `p'` are those that met `p`, the search
finds the changed best, as long as the changes make none better. -/
theorem bestOf_settled {α : Type} {p p' q : α → Bool} {f : α → α} {better : α → α → Prop} [DecidableRel better]
    (hp : ∀ x, (q (f x) && p' (f x)) = p x) (hbetter : ∀ x y, better (f x) (f y) ↔ better x y) (l : List α) :
    bestOf p' better ((l.map f).filter q) = (bestOf p better l).map f := by
  have hfrom (best : Option α) :
      ((l.map f).filter q).foldl (betterStep p' better) (best.map f) = (l.foldl (betterStep p better) best).map f := by
    induction l generalizing best with
    | nil => rfl
    | cons x l ih =>
      have hx := hp x
      rw [List.foldl_cons, ← ih, List.map_cons, List.filter_cons]
      cases hq : q (f x) with
      | false =>
        have hout : betterStep p better best x = best := if_neg (by rw [← hx, hq]; exact Bool.false_ne_true)
        rw [if_neg Bool.false_ne_true, hout]
      | true =>
        rw [hq, Bool.true_and] at hx
        rw [if_pos rfl, List.foldl_cons, betterStep_map hx hbetter]
  exact hfrom none

theorem map_map_of_same {α β : Type} {f : α → α} {g : α → β} (h : ∀ x, g (f x) = g x) (o : Option α) : (o.map f).map g = o.map g := by
  rw [Option.map_map]
  exact congrArg (fun k => o.map k) (funext h)

theorem result_bestOf_settled {α : Type} {p p' q : α → Bool} {f : α → α} {better : α → α → Prop} [DecidableRel better] {result : α → Nat}
    (hp : ∀ x, (q (f x) && p' (f x)) = p x) (hbetter : ∀ x y, better (f x) (f y) ↔ better x y) (hresult : ∀ x, result (f x) = result x)
    (l : List α) : (bestOf p' better ((l.map f).filter q)).map result = (bestOf p better l).map result := by
  rw [bestOf_settled hp hbetter, map_map_of_same hresult]

/-! The searches of the tables are such. -/

theorem lpmFind_eq_bestOf (l : List LpmEntry) (v6 : Bool) (vrf a b : Nat) : lpmFind l v6 vrf a b =
    bestOf (fun x => x.v6 == v6 && x.vrf == vrf && sees x.vis b && LpmEntry.covers x a) (fun x y => y.len < x.len) l :=
  foldl_eq_bestOf (fun best _ => by cases best <;> rfl) l

theorem winFind_eq_bestOf (l : List WinEntry) (pipe key b : Nat) : winFind l pipe key b =
    bestOf (fun x => x.pipe == pipe && sees x.vis b && WinEntry.hits x key) (fun x y => x.rule < y.rule) l :=
  foldl_eq_bestOf (fun best _ => by cases best <;> rfl) l

theorem tcamFind_eq_bestOf (l : List TcamEntry) (key b : Nat) : tcamFind l key b =
    bestOf (fun x => sees x.vis b && (key &&& x.mask) == (x.value &&& x.mask)) (fun x y => x.entry < y.entry) l :=
  foldl_eq_bestOf (fun best _ => by cases best <;> rfl) l

/-! What lookups find after settlement. -/

/-- An entry after settlement, of each of the other tables. -/
def LpmEntry.settled (e : Nat) (x : LpmEntry) : LpmEntry := { x with vis := settleVis e x.vis }
def WinEntry.settled (e : Nat) (x : WinEntry) : WinEntry := { x with vis := settleVis e x.vis }
def TcamEntry.settled (e : Nat) (x : TcamEntry) : TcamEntry := { x with vis := settleVis e x.vis }

theorem settle_lpm (t : TableS) (e : Nat) : (settle t e).lpm = (t.lpm.map (LpmEntry.settled e)).filter (fun x => x.vis != 0) := rfl
theorem settle_win (t : TableS) (e : Nat) : (settle t e).win = (t.win.map (WinEntry.settled e)).filter (fun x => x.vis != 0) := rfl
theorem settle_tcam (t : TableS) (e : Nat) : (settle t e).tcam = (t.tcam.map (TcamEntry.settled e)).filter (fun x => x.vis != 0) := rfl

section
variable (t : TableS) (e : Nat) {b : Nat}

theorem emResult_settle (hb : b < 2) (tab width key : Nat) : emResult (settle t e) tab width key b = emResult t tab width key e := by
  have hseen (x : EmEntry) : decide ((settleVis e x.vis != 0) = true ∧ (EmEntry.is x tab width key && sees (settleVis e x.vis) b) = true)
      = (EmEntry.is x tab width key && sees x.vis e) := by
    rw [← settleVis_seen e x.vis hb, Bool.eq_iff_iff, decide_eq_true_eq, ← Bool.and_eq_true_iff, Bool.and_left_comm]
  rw [emResult_eq_emSeen, emResult_eq_emSeen, settle, emSeen_of_shown (emUnstash_shown _), emSeen, emFind, List.find?_filter, List.find?_map,
    map_map_of_same (fun _ => by rfl)]
  exact congrArg (fun p => (List.find? p t.em).map (fun y => y.result)) (funext hseen)

theorem lpmFind_settle (hb : b < 2) (v6 : Bool) (vrf a : Nat) :
    (lpmFind (settle t e).lpm v6 vrf a b).map (fun y => y.result) = (lpmFind t.lpm v6 vrf a e).map (fun y => y.result) := by
  rw [settle_lpm, lpmFind_eq_bestOf, lpmFind_eq_bestOf]
  refine result_bestOf_settled (f := LpmEntry.settled e) (fun x => ?_) (fun _ _ => Iff.rfl) (fun _ => rfl) t.lpm
  rw [← settleVis_seen e x.vis hb, LpmEntry.settled]
  ac_rfl

theorem winFind_settle (hb : b < 2) (pipe key : Nat) :
    (winFind (settle t e).win pipe key b).map (fun y => y.result) = (winFind t.win pipe key e).map (fun y => y.result) := by
  rw [settle_win, winFind_eq_bestOf, winFind_eq_bestOf]
  refine result_bestOf_settled (f := WinEntry.settled e) (fun x => ?_) (fun _ _ => Iff.rfl) (fun _ => rfl) t.win
  rw [← settleVis_seen e x.vis hb, WinEntry.settled]
  ac_rfl

theorem tcamFind_settle (hb : b < 2) (key : Nat) :
    (tcamFind (settle t e).tcam key b).map (fun y => y.result) = (tcamFind t.tcam key e).map (fun y => y.result) := by
  rw [settle_tcam, tcamFind_eq_bestOf, tcamFind_eq_bestOf]
  refine result_bestOf_settled (f := TcamEntry.settled e) (fun x => ?_) (fun _ _ => Iff.rfl) (fun _ => rfl) t.tcam
  rw [← settleVis_seen e x.vis hb, TcamEntry.settled]
  ac_rfl

end

/-! The commands of settlement and undo. -/

/-- Settling the tables is settling their contents, and counts the entries that leave the stash. -/
theorem OffCounters.settleTbl {γ : Type} {g : Dev → γ} (hg : OffCounters g) (d : Dev) (e : Nat) :
    g (Dev.settleTbl d e) = g (Dev.setTbl d (settle d.tbl e)) := hg.perf ..

/-- A due settlement settles the tables and is noted as done. -/
theorem OffCounters.settleNow {γ : Type} {g : Dev → γ} (hg : OffCounters g) {d : Dev} (ep : Nat) (h : Dev.el d K.tblSettling = 1) :
    g (Dev.settleNow ep d) = g (Dev.setTbl (Dev.setProg d { d.prog with settled := true }) (settle d.tbl (ep % 2))) := by
  unfold Dev.settleNow
  rw [if_pos h, hg.perf, hg.settleTbl]
  rfl

/-- An abort that ends leaves the settled tables and no abort. -/
theorem OffCounters.abortDone {γ : Type} {g : Dev → γ} (hg : OffCounters g) {d : Dev} (ep : Nat) {c u t r : Nat}
    (h : d.prog.abort = some (c, u, t, r)) :
    g (Dev.abortDone ep d) = g (Dev.setTbl (Dev.setProg d { d.prog with abort := none }) (settle d.tbl (ep % 2))) := by
  unfold Dev.abortDone
  rw [h]
  dsimp only
  rw [hg.vals, hg.vals, hg.vals, hg.vals, hg.vals, hg.vals, hg.perf, hg.settleTbl]
  rfl

/-- The elements that tell of an abort that ended (R155). -/
theorem abortDone_els {d : Dev} (ep : Nat) {c u t r : Nat} (h : d.prog.abort = some (c, u, t, r)) :
    Dev.el (Dev.abortDone ep d) K.epochStageState = 2 ∧ Dev.el (Dev.abortDone ep d) K.epochStageEntries = 0
      ∧ Dev.el (Dev.abortDone ep d) K.epochAbortCause = c ∧ Dev.el (Dev.abortDone ep d) K.epochAbortUnit = u
      ∧ Dev.el (Dev.abortDone ep d) K.epochAbortTag = t ∧ Dev.el (Dev.abortDone ep d) K.epochAbortRecord = r := by
  unfold Dev.abortDone
  rw [h]
  simp (disch := decide) only [el_setEl_same, el_setEl_ne, and_self]

/-- Where no block waits, none resumes. -/
theorem resumeBlocks_of_none {ep : Nat} {d : Dev} (h : d.tbl.waiting = []) : Dev.resumeBlocks ep d = d := by
  rw [Dev.resumeBlocks, h]
  rfl

/-! The repair of the barns. -/

theorem asideEl_peerRepairs (k : Fin 4) : asideEl (K.barnPeerRepairs k) = false := asideEl_barn k.isLt (by decide)
theorem asideEl_scrubCorrected (k : Fin 4) : asideEl (K.barnCorrected k) = false := asideEl_barn k.isLt (by decide)

/-- What a scrub pass notes of the words that it corrected and repaired. -/
def Dev.scrubNoted (d : Dev) (k corrected repaired : Nat) : Dev :=
  let d := if corrected = 0 then d else Dev.corrected (Dev.perf d (0x20 + k) 8 corrected) (0x0810 + k) 0x01 corrected
  if repaired = 0 then d else Dev.corrected d (0x0810 + k) 0x03 repaired

theorem Aside.scrubNoted {γ : Type} {g : Dev → γ} (hg : Aside g) (d : Dev) (k : Fin 4) (corrected repaired : Nat) :
    g (Dev.scrubNoted d k corrected repaired) = g d := by
  have hcorrected : g (if corrected = 0 then d else Dev.corrected (Dev.perf d (0x20 + k) 8 corrected) (0x0810 + k) 0x01 corrected) = g d := by
    split
    · rfl
    · rw [hg.corrected, hg.perf _ _ _ _ (by omega)]
  unfold Dev.scrubNoted
  dsimp only
  by_cases hr : repaired = 0
  · rw [if_pos hr, hcorrected]
  · rw [if_neg hr, hg.corrected, hcorrected]

/-- The part after a scrub pass (R127). -/
def Dev.scrubbed (d : Dev) (k corrected repaired ms : Nat) : Dev :=
  let d := Dev.setTbl d { d.tbl with bad := d.tbl.bad.filter (fun w => w.1 != k) }
  let d := Dev.count (Dev.count d (K.barnCorrected k) corrected) (K.barnPeerRepairs k) repaired
  Dev.setEl (Dev.scrubNoted d k corrected repaired) (K.barnScrubPassMs k) (ms % 2 ^ 32)

theorem exec_barnScrubPass (k : Fin 4) (corrected repaired ms : Nat) (s : State) :
    exec (.barnScrubPass k corrected repaired ms) s = lift (fun d => Dev.scrubbed d k corrected repaired ms) s := rfl

theorem OffCounters.scrubbed {γ : Type} {g : Dev → γ} (hg : OffCounters g) (d : Dev) (k : Fin 4) (corrected repaired ms : Nat) :
    g (Dev.scrubbed d k corrected repaired ms) = g (Dev.setTbl d { d.tbl with bad := d.tbl.bad.filter (fun w => w.1 != k.val) }) := by
  unfold Dev.scrubbed
  rw [hg.vals, hg.aside.scrubNoted, hg.count, hg.count]

/-- The barn's counts after a scrub pass. -/
theorem scrubbed_els (d : Dev) (k : Fin 4) (corrected repaired ms : Nat) :
    Dev.el (Dev.scrubbed d k corrected repaired ms) (K.barnCorrected k) = (Dev.el d (K.barnCorrected k) + corrected) % 2 ^ 64
      ∧ Dev.el (Dev.scrubbed d k corrected repaired ms) (K.barnPeerRepairs k) = (Dev.el d (K.barnPeerRepairs k) + repaired) % 2 ^ 64
      ∧ Dev.el (Dev.scrubbed d k corrected repaired ms) (K.barnScrubPassMs k) = ms % 2 ^ 32 := by
  have hc := asideEl_scrubCorrected k
  have hr := asideEl_peerRepairs k
  have hcr : K.barnCorrected k ≠ K.barnPeerRepairs k := by simp only [K.barnCorrected, K.barnPeerRepairs, key]; omega
  have hcm : K.barnCorrected k ≠ K.barnScrubPassMs k := by simp only [K.barnCorrected, K.barnScrubPassMs, key]; omega
  have hrm : K.barnPeerRepairs k ≠ K.barnScrubPassMs k := by simp only [K.barnPeerRepairs, K.barnScrubPassMs, key]; omega
  unfold Dev.scrubbed
  refine ⟨?_, ?_, el_setEl_same ..⟩
  · rw [el_setEl_ne _ _ _ _ hcm, (Aside.el _ hc).scrubNoted, (Aside.el _ hc).count _ _ _ (fun d v => el_setEl_ne d _ _ v hcr), el_count_same hc]
    rfl
  · rw [el_setEl_ne _ _ _ _ hrm, (Aside.el _ hr).scrubNoted, el_count_same hr, (Aside.el _ hr).count _ _ _ (fun d v => el_setEl_ne d _ _ v hcr.symm)]
    rfl

/-- The part after the repair of a bad word from a peer (R127). -/
def Dev.peerRepaired (d : Dev) (k : Nat) (w : Nat × Nat × Nat) : Dev :=
  Dev.count (Dev.setTbl d { d.tbl with bad := d.tbl.bad.filter (fun v => v != w) }) (K.barnPeerRepairs k) 1

/-- The repair of barn k's oldest bad word, where it has one. -/
def Dev.peerRepair (d : Dev) (k : Nat) : Dev :=
  match d.tbl.bad.find? (fun w => w.1 == k) with
  | some w => Dev.peerRepaired d k w
  | none => d

theorem exec_barnPeerRepair (k : Fin 4) (s : State) : exec (.barnPeerRepair k) s = lift (fun d => Dev.peerRepair d k) s := rfl

theorem peerRepair_of_bad {d : Dev} {k : Nat} {w : Nat × Nat × Nat} (h : d.tbl.bad.find? (fun y => y.1 == k) = some w) :
    Dev.peerRepair d k = Dev.peerRepaired d k w := by
  unfold Dev.peerRepair
  rw [h]

/-- Settles O31: settlement and undo leave the settled tables, which both bits find as the bit in force did; the repairs count and unlist. -/
theorem settlementKeepsWhatTheEpochInForceSees : Obligations.SettlementKeepsWhatTheEpochInForceSees := by
  unfold Obligations.SettlementKeepsWhatTheEpochInForceSees
  intro settled
  have hsettled (t : TableS) (e : Nat) : settled t (settle t e) e := fun b hb =>
    ⟨emResult_settle t e hb, lpmFind_settle t e hb, winFind_settle t e hb, tcamFind_settle t e hb⟩
  refine ⟨fun s hl hdue => ?_, fun s hl hdue hdone hnone => ?_, fun s c u t r hl habort => ?_, fun k w s hl hbad => ?_,
    fun k corrected repaired ms s hl => ?_⟩
  · rw [does_liftE_iff (f := Dev.settleNow) rfl hl]
    have htbl := OffCounters.tbl.settleNow s.epoch hdue
    have hprog := OffCounters.prog.settleNow s.epoch hdue
    have htraffic := OffCounters.traffic.settleNow s.epoch hdue
    dsimp only at htbl hprog
    rw [htbl, hprog]
    exact ⟨hsettled s.dev.tbl (s.epoch % 2), rfl, rfl, rfl, rfl, rfl, sameTraffic_of_traffic htraffic⟩
  · refine (liftE_lit Dev.settleDone hl).trans ?_
    have hends : Dev.settleDone s.epoch s.dev = Dev.setEl s.dev K.tblSettling 0 := (if_pos ⟨hdue, hdone⟩).trans (resumeBlocks_of_none hnone)
    rw [hends]
  · rw [does_liftE_iff (f := Dev.abortDone) rfl hl]
    have htbl := OffCounters.tbl.abortDone s.epoch habort
    have hprog := OffCounters.prog.abortDone s.epoch habort
    have htraffic := OffCounters.traffic.abortDone s.epoch habort
    obtain ⟨hstate, hentries, hcause, hunit, htag, hrecord⟩ := abortDone_els s.epoch habort
    dsimp only at htbl hprog
    rw [htbl, hprog]
    exact ⟨hsettled s.dev.tbl (s.epoch % 2), rfl, hstate, hentries, hcause, hunit, htag, hrecord, sameTraffic_of_traffic htraffic⟩
  · rw [does_lift_iff (exec_barnPeerRepair k s) hl, peerRepair_of_bad hbad]
    exact ⟨OffCounters.tbl.count .., el_count_same (asideEl_peerRepairs k), sameTraffic_of_traffic (OffCounters.traffic.count ..),
      OffCounters.prog.count ..⟩
  · rw [does_lift_iff (exec_barnScrubPass k corrected repaired ms s) hl]
    obtain ⟨hcorrected, hrepaired, hms⟩ := scrubbed_els s.dev k corrected repaired ms
    exact ⟨OffCounters.tbl.scrubbed .., hcorrected, hrepaired, hms, sameTraffic_of_traffic (OffCounters.traffic.scrubbed ..),
      OffCounters.prog.scrubbed ..⟩

end Sys2Proof.Machine

/-! The epoch counter (R147): what becomes of it in a step follows from the shape of the command's meaning, and O4 and O5. -/
namespace Sys2Proof.Machine

/-- A reading that neither the dictionary, the telemetry, the error log, the host ports, the outputs, the free values nor the firmware's
state can change. -/
structure OffRecords {γ : Type} (g : Dev → γ) : Prop where
  dict : ∀ (d : Dev) x, g { d with dict := x } = g d
  tel : ∀ (d : Dev) x, g { d with tel := x } = g d
  err : ∀ (d : Dev) x, g { d with err := x } = g d
  hp : ∀ d p h, g (Dev.setHp d p h) = g d
  out : ∀ d o, g (Dev.emit d o) = g d
  free : ∀ d, g (Dev.useFree d) = g d
  fw : ∀ (d : Dev) x, g { d with fw := x } = g d

namespace OffRecords
variable {γ : Type} {g : Dev → γ}

theorem off (h : OffRecords g) : OffCounters g where
  aside := ⟨fun _ _ _ _ => h.dict .., h.tel, h.err, h.hp, h.out, fun _ _ => h.dict ..⟩
  vals _ _ _ := h.dict ..
  free := h.free

theorem setBlob (h : OffRecords g) (d : Dev) (k : Nat) (v : List Byte) : g (Dev.setBlob d k v) = g d := h.dict d _
theorem persist (h : OffRecords g) (d : Dev) (k : Nat) : g (Dev.persist d k) = g d := h.dict d _

theorem crashMerge (h : OffRecords g) (d : Dev) (c : Nat) : g (Dev.crashMerge d c) = g d := by
  unfold Dev.crashMerge
  extract_lets seq join d₁
  have h₁ : g d₁ = g d := (h.persist ..).trans (h.setBlob ..)
  split
  · exact (h.err ..).trans h₁
  · exact h₁

theorem crash (h : OffRecords g) (d : Dev) (c : Nat) : g (Dev.crash d c) = g d := by
  unfold Dev.crash
  split
  · exact h.crashMerge d c
  · extract_lets x d₁ seq hdr d₂ d₃ y d₄
    have h₃ : g d₃ = g d := ((h.persist ..).trans (h.setBlob ..)).trans (h.err d _)
    have h₄ : g d₄ = g d := by
      unfold d₄
      split
      · exact (h.err ..).trans h₃
      · exact h₃
    rw [h.off.aside.notice, h.off.count, h₄]

theorem fatal (h : OffRecords g) (d : Dev) (b c o el u : Nat) : g (Dev.fatal d b c o el u) = g d := by
  unfold Dev.fatal
  extract_lets new d₁ s d₂ x r d₃
  have h₂ : g d₂ = g d := (h.fw ..).trans ((h.off.aside.raise ..).trans (h.dict ..))
  have hr : g r.1 = g d := (h.off.aside.appendLog ..).trans h₂
  have h₃ : g d₃ = g d := by
    unfold d₃
    split
    · exact (h.off.aside.notice ..).trans hr
    · exact hr
  split
  · exact (h.crash ..).trans h₃
  · exact h₃

end OffRecords

/-- What a reset of the part starts afresh, as FLIP_COMMIT's statement reads it. -/
def Dev.cleared (d : Dev) : Nat × SMap Pkt × SMap EQueue × SMap Pipe × TableS := (d.ticks, d.pkts, d.queues, d.pipes, d.tbl)

theorem OffRecords.cleared : OffRecords Dev.cleared where
  dict _ _ := rfl
  tel _ _ := rfl
  err _ _ := rfl
  hp d p h := by simp [Dev.cleared]
  out _ _ := rfl
  free _ := rfl
  fw _ _ := rfl

theorem cleared_coldReset (d : Dev) (kind : Nat) : Dev.cleared (Dev.coldReset d kind) = (0, [], [], [], TableS.init) := by
  obtain ⟨hticks, hpkts, hqueues, hpipes, htbl⟩ := coldReset_clear d kind
  rw [Dev.cleared, hticks, hpkts, hqueues, hpipes, htbl]

/-- Power-good is a cold reset, which a fuse word that fails its check only adds an error to (R489, R509). -/
theorem cleared_powerGood (d : Dev) (flash : Option Reflash) (fuseBad : Bool) (straps : Nat) :
    Dev.cleared (Dev.powerGood d flash fuseBad straps) = (0, [], [], [], TableS.init) := by
  unfold Dev.powerGood
  extract_lets d₁ r d₂
  have h₂ : Dev.cleared d₂ = (0, [], [], [], TableS.init) := cleared_coldReset ..
  split
  · exact (OffRecords.cleared.fatal ..).trans ((OffRecords.cleared.err ..).trans h₂)
  · exact h₂

/-- What becomes of the epoch counter: it stays, a flip in its last step advances it, or a reset of the part starts it again. -/
inductive EpochStep (c : Instr) (s t : State) : Prop where
  | stays (h : t.epoch = s.epoch)
  | flips (hc : c = .flipCommit) (hf : s.dev.prog.flip = 2) (h : t.epoch = (s.epoch + 1) % 2 ^ 48)
  | resets (h : t.epoch = 0) (hd : Dev.cleared t.dev = (0, [], [], [], TableS.init))

theorem epochStep_settle (c : Instr) (s : State) (x : Dev) : EpochStep c s (State.settle { s with dev := x }) := by
  unfold State.settle
  split
  · exact .resets rfl (cleared_coldReset ..)
  · exact .stays rfl

theorem epochStep_liftW {c : Instr} {s t : State} {f : Nat → Dev → Dev} (h : liftW f s = .next t) : EpochStep c s t := by
  obtain rfl := Host.Outcome.next.inj h
  split
  · exact .stays rfl
  · exact epochStep_settle ..

/-- Every command's effect on the counter follows from the shape of its meaning. -/
theorem epochStep_exec {c : Instr} {s t : State} (h : exec c s = .next t) : EpochStep c s t := by
  cases shape c s with
  | part f hs =>
    obtain ⟨u, hu, -, he⟩ := lift_next f s
    exact .stays (Host.Outcome.next.inj ((hs.trans hu).symm.trans h) ▸ he)
  | epoch f hs =>
    obtain ⟨u, hu, -, he⟩ := liftE_next f s
    exact .stays (Host.Outcome.next.inj ((hs.trans hu).symm.trans h) ▸ he)
  | warm f hs => exact epochStep_liftW (hs.symm.trans h)
  | boot f hs =>
    obtain rfl := Host.Outcome.next.inj (hs.symm.trans h)
    refine .stays ?_
    split <;> rfl
  | warm0 g f hs hd =>
    cases epochStep_liftW (c := c) (hs.symm.trans h) with
    | stays he => exact .stays he
    | flips hc => subst hc; cases hd
    | resets he hclear => exact .resets he hclear
  | d0 f hs => exact .stays (congrArg State.epoch (Host.Outcome.next.inj (hs.symm.trans h))).symm
  | flip hc =>
    subst hc
    have hexec : execFlipCommit s = .next t := h
    unfold execFlipCommit at hexec
    split at hexec
    case isTrue hlast =>
      obtain rfl := Host.Outcome.next.inj hexec
      exact .flips rfl hlast.2 rfl
    case isFalse => exact .stays (congrArg State.epoch (Host.Outcome.next.inj hexec)).symm
  | cold flash bad straps hc =>
    subst hc
    have hexec : execColdReset flash bad straps s = .next t := h
    unfold execColdReset at hexec
    split at hexec
    · exact .stays (congrArg State.epoch (Host.Outcome.next.inj hexec)).symm
    · obtain rfl := Host.Outcome.next.inj hexec
      exact .resets rfl (cleared_powerGood ..)

/-- A step runs the front command or lets time pass, which leaves the counter alone. -/
theorem epochStep_step {s t : State} (h : step s = .next t) :
    t.epoch = s.epoch ∨ ∃ c rest, s.pending = c :: rest ∧ EpochStep c s t := by
  unfold step at h
  cases hp : s.pending with
  | nil => rw [hp] at h; exact .inl (congrArg State.epoch (Host.Outcome.next.inj h)).symm
  | cons c rest =>
    rw [hp] at h
    refine .inr ⟨c, rest, rfl, ?_⟩
    cases epochStep_exec h with
    | stays he => exact .stays he
    | flips hc hf he => exact .flips hc hf he
    | resets he hclear => exact .resets he hclear

/-- Settles O5: the counter stays, is taken modulo 2^48, or starts at 0. -/
theorem epochStaysInItsWidth : Obligations.EpochStaysInItsWidth := by
  unfold Obligations.EpochStaysInItsWidth
  intro s t hs h
  obtain he | ⟨c, rest, -, hstep⟩ := epochStep_step h
  · exact he ▸ hs
  cases hstep with
  | stays he => exact he ▸ hs
  | flips _ _ he => exact he ▸ Nat.mod_lt _ (by decide)
  | resets he _ => exact he ▸ (by decide)

theorem bank_eq (p : Pipe) (e : Nat) : Pipe.bank p e = if e.testBit 0 then p.bankB else p.bankA := by
  unfold Pipe.bank
  rcases Nat.mod_two_eq_zero_or_one e with h | h <;> simp [h]

theorem bank_succ_eq (p : Pipe) (e : Nat) : Pipe.bank p (e + 1) = if e.testBit 0 then p.bankA else p.bankB := by
  unfold Pipe.bank
  rcases Nat.mod_two_eq_zero_or_one e with h | h <;> simp [h, Nat.add_mod]

/-- Settles O4: of all commands FLIP_COMMIT alone advances the counter, a reset alone starts it again, and its bit 0 picks the bank. -/
theorem epochAdvancesOnlyByFlip : Obligations.EpochAdvancesOnlyByFlip := by
  unfold Obligations.EpochAdvancesOnlyByFlip
  refine ⟨rfl, fun rest s hl hf hp => ?_, fun s t h => ⟨fun hs => epochStaysInItsWidth s t hs h, ?_⟩, fun s n => ⟨bank_eq .., bank_succ_eq ..⟩⟩
  · refine ⟨{ s with pending := rest, epoch := (s.epoch + 1) % 2 ^ 48, dev := Dev.commit s.epoch s.dev }, ?_, rfl⟩
    unfold step
    rw [hp]
    exact if_pos ⟨hl, hf⟩
  · obtain he | ⟨c, rest, hp, hstep⟩ := epochStep_step h
    · exact .inl he
    cases hstep with
    | stays he => exact .inl he
    | flips hc hf he => exact .inr (.inl ⟨by rw [hp, hc]; rfl, hf, he⟩)
    | resets he hd =>
      obtain ⟨hticks, hpkts, hqueues, hpipes, htbl⟩ := by simpa only [Dev.cleared, Prod.mk.injEq] using hd
      exact .inr (.inr ⟨he, hticks, hpkts, hqueues, hpipes, htbl⟩)

end Sys2Proof.Machine

/-! Skips and skipped slots (R133 to R135), and O9. -/
namespace Sys2Proof.Machine

/-! The skips (R135, Table 3). -/

theorem skipIf_eq {c : StageCtx} {op : SkipOp} {k w a : Nat} {b : Operand} (h : c.skip = 0) :
    StageCtx.skipIf c op k w a b
      = { c with skip := if skipHolds op (Sheaf.fld c.sheaf a w) (operandB c.sheaf b w) then k else 0 } := by
  unfold StageCtx.skipIf
  split
  · rfl
  · rw [← h]

theorem exec_skipInstr {op : SkipOp} {n : Fin 16} {k w : Fin 64} {a : Fin 4096} {b : Operand} {s : State} (hl : s.lit) (h : InStage s.dev n) :
    exec (skipInstr op n k w a b) s = .next (s.inStages n (StageCtx.skipIf (Dev.pipe s.dev n).ctx op k (w + 1) a b).past) := by
  have hrun : exec (skipInstr op n k w a b) s = lift (fun d => Dev.skip d n op k w a b) s := by cases op <;> rfl
  exact hrun.trans (lift_instrOn _ hl h)

/-! Slots that are skipped, and what an egress stage does not hold. -/

/-- An instruction whose run counts a skipped slot while a skip is pending, but for an egress packet at an ingress-only lookup. -/
structure CountsSkip (stays : Prop) (f : Dev → StageCtx → Ran) : Prop where
  skips : ∀ d c, c.live = true → 0 < c.skip → (c.egress = false ∨ ¬ stays) → f d c = (d, { c with skip := c.skip - 1 }.past)
  waits : ∀ d c, c.egress = true → stays → f d c = (d, c)

theorem step_counts (d : Dev) {c : StageCtx} (f : StageCtx → Ran) (hlive : c.live = true) (hskip : 0 < c.skip) :
    StageCtx.step d c f = (d, { c with skip := c.skip - 1 }.past) := by
  rw [step_skips _ _ _ hlive hskip, advance_eq_past]

theorem CountsSkip.step (f : Dev → StageCtx → StageCtx → Ran) : CountsSkip False (fun d c => StageCtx.step d c (f d c)) where
  skips d _ hlive hskip _ := step_counts d _ hlive hskip
  waits _ _ _ h := h.elim

theorem CountsSkip.lookup (f : Dev → StageCtx → Ran) :
    CountsSkip True (fun d c => if c.egress then (d, c) else StageCtx.step d c (f d)) where
  skips d c hlive hskip h := by
    have hin : c.egress = false := h.resolve_right (not_not_intro trivial)
    exact (if_neg (Bool.eq_false_iff.mp hin)).trans (step_counts d _ hlive hskip)
  waits d c h _ := if_pos h

theorem CountsSkip.opEnd : CountsSkip False (fun d c => (d, StageCtx.execEnd c)) where
  skips d c hlive hskip _ := by
    have hwaits : StageCtx.runs c = false := by simp [StageCtx.runs, Nat.ne_of_gt hskip]
    simp [StageCtx.execEnd, hwaits, hlive, advance_eq_past]
  waits _ _ _ h := h.elim

/-- What every instruction of the stages is: one run of a function that counts its skipped slots. -/
def StageRun (n : Fin 16) (i : Instr) : Prop :=
  ∃ f, (∀ s, exec i s = lift (fun d => Dev.instr d n f) s) ∧ CountsSkip (Instr.ingressOnly i) f

theorem stageRun_on {n : Fin 16} {i : Instr} (f : StageCtx → StageCtx) (hi : Instr.ingressOnly i = False)
    (h : ∀ s, exec i s = lift (fun d => Dev.instrOn d n f) s) : StageRun n i :=
  ⟨_, h, hi ▸ .step (fun d _ c => (d, f c))⟩

theorem stageRun_in {n : Fin 16} {i : Instr} (f : Dev → StageCtx → Ran) (hi : Instr.ingressOnly i = True)
    (h : ∀ s, exec i s = lift (fun d => Dev.instrIn d n f) s) : StageRun n i :=
  ⟨_, h, hi ▸ .lookup f⟩

theorem stageRun_step {n : Fin 16} {i : Instr} (f : Dev → StageCtx → Ran) (hi : Instr.ingressOnly i = False)
    (h : ∀ s, exec i s = lift (fun d => Dev.instr d n (fun d c => StageCtx.step d c (f d))) s) : StageRun n i :=
  ⟨_, h, hi ▸ .step (fun d _ => f d)⟩

theorem stageRun_of_ofStage {n : Fin 16} {i : Instr} (h : Instr.ofStage n i) : StageRun n i := by
  cases i
  case opEnd => cases h; exact ⟨_, fun _ => rfl, .opEnd⟩
  case opNop | opMov | opAdd | opSub | opSubs | opAnd | opOr | opXor | opShl | opShr | opMin | opMax | opSkeq | opSkne | opSklt | opSkge
      | opMset | opMget =>
    cases h
    exact stageRun_on _ rfl fun _ => rfl
  case opLkem | opLklpm4 | opLklpm6 | opLknh | opLkgrp | opWin | opTcam => cases h; exact stageRun_in _ rfl fun _ => rfl
  case opHash | opLkix => cases h; exact stageRun_step _ rfl fun _ => rfl
  all_goals exact h.elim

/-- Settles O9: a skip sets how many slots do not run, and while slots are skipped every instruction only counts one. -/
theorem skipInstructionsSkipOnTheirCondition : Obligations.SkipInstructionsSkipOnTheirCondition := by
  unfold Obligations.SkipInstructionsSkipOnTheirCondition
  constructor
  · intro op n k w a b s hl hin c x y on
    have hy : y = operandB c.sheaf b (w + 1) := by cases b <;> rfl
    have hon : on = skipHolds op x y := by cases op <;> rfl
    rw [exec_skipInstr hl hin, skipIf_eq hin.2, hon, hy]
  · intro n i s hl hi c
    obtain ⟨f, hexec, hcounts⟩ := stageRun_of_ofStage hi
    refine ⟨fun hlive hskip hruns => ?_, fun hlive hegress honly => ?_, fun hdead => ?_⟩
    · rw [hexec]
      exact lift_instr hl hlive (hcounts.skips _ _ hlive hskip hruns)
    · rw [hexec]
      exact lift_instr hl hlive (hcounts.waits _ _ hegress honly)
    · rw [hexec]
      exact lift_same (if_neg (Bool.eq_false_iff.mp hdead))

end Sys2Proof.Machine

/-! The part after reset (R498), and O7. -/
namespace Sys2Proof.Machine

theorem hp_reset (p : Nat) : Dev.hp Dev.reset p = HostPort.init := ite_self _

theorem base_reset (b : Nat) : Dev.base Dev.reset b = TimeBase.init := by
  have hbases : Dev.reset.time.bases = List.replicate 8 TimeBase.init := rfl
  unfold Dev.base
  rw [hbases, List.getElem?_replicate]
  split <;> rfl

theorem bank_reset (n e : Nat) : Pipe.bank (Dev.pipe Dev.reset n) e = Image.empty := ite_self _

/-- The domains' states are zeros by default, so D1 is off (R454). -/
theorem domain_reset : Dev.domain Dev.reset 1 = 0 := by decide

/-- Settles O7: the state after reset lists no command, packet, queue or element, so each reads its default. -/
theorem resetLeavesTheSpecsValues : Obligations.ResetLeavesTheSpecsValues := by
  unfold Obligations.ResetLeavesTheSpecsValues
  refine ⟨rfl, rfl, rfl, rfl, fun p => ?_, fun b => base_reset b, fun n e => bank_reset n e, fun k => ⟨rfl, rfl⟩, domain_reset⟩
  have hinit : Dev.hp State.reset.dev p.val = HostPort.init := hp_reset p
  exact hinit ▸ ⟨rfl, rfl, rfl⟩

end Sys2Proof.Machine

/-! What FLIP_COMMIT changes in the pipelines (R33, R212), and the refutation of O33. -/
namespace Sys2Proof.Machine

/-! Many keys set at once. -/

/-- The entry of a key that is set to `v`, if any. -/
def SMap.entry {α : Type} (x : Nat × Option α) : SMap α := x.2.toList.map (Prod.mk x.1)

theorem SMap.setAll_cons_nil {α : Type} (x : Nat × Option α) (xs : List (Nat × Option α)) :
    SMap.setAll (x :: xs) [] = SMap.entry x ++ SMap.setAll xs [] := by
  obtain ⟨k, v⟩ := x
  cases v <;> rfl

theorem SMap.setAll_cons_cons {α : Type} (x : Nat × Option α) (xs : List (Nat × Option α)) (y : Nat × α) (m : SMap α) :
    SMap.setAll (x :: xs) (y :: m) = if y.1 < x.1 then y :: SMap.setAll (x :: xs) m
      else SMap.entry x ++ SMap.setAll xs (if y.1 = x.1 then m else y :: m) := by
  obtain ⟨k, v⟩ := x
  cases v <;> rfl

/-- What setting many keys keeps of a kind of entry, where it adds none of the kind and names none of their keys. -/
theorem SMap.filter_setAll {α : Type} (p : Nat × α → Bool) {xs : List (Nat × Option α)} {m : SMap α}
    (hnew : ∀ x ∈ xs, ∀ a, x.2 = some a → p (x.1, a) = false) (hold : ∀ y ∈ m, p y = true → ∀ x ∈ xs, x.1 ≠ y.1) :
    (SMap.setAll xs m).filter p = m.filter p := by
  induction xs generalizing m with
  | nil => rfl
  | cons x xs ih =>
    have hentry : (SMap.entry x).filter p = [] := by
      obtain ⟨k, v⟩ := x
      cases v with
      | none => rfl
      | some a => simp [SMap.entry, hnew (k, some a) List.mem_cons_self a rfl]
    have hrest {n : SMap α} (hn : ∀ y ∈ n, p y = true → ∀ z ∈ x :: xs, z.1 ≠ y.1) : (SMap.setAll xs n).filter p = n.filter p :=
      ih (fun y hy => hnew y (List.mem_cons_of_mem x hy)) fun y hy hp z hz => hn y hy hp z (List.mem_cons_of_mem x hz)
    induction m with
    | nil => rw [SMap.setAll_cons_nil, List.filter_append, hentry, hrest (by simp)]; rfl
    | cons y m ihm =>
      have htail : ∀ z ∈ m, p z = true → ∀ w ∈ x :: xs, w.1 ≠ z.1 := fun z hz => hold z (List.mem_cons_of_mem y hz)
      rw [SMap.setAll_cons_cons]
      split
      · rw [List.filter_cons, List.filter_cons, ihm htail]
      · rw [List.filter_append, hentry, List.nil_append]
        split
        case isTrue hk =>
          have hp : p y = false := Bool.eq_false_iff.mpr fun hp => hold y List.mem_cons_self hp x List.mem_cons_self hk.symm
          rw [hrest htail, List.filter_cons, hp]
          rfl
        case isFalse => exact hrest hold

theorem SMap.mem_of_mem_setAll {α : Type} {y : Nat × α} {xs : List (Nat × Option α)} {m : SMap α} (h : y ∈ SMap.setAll xs m) :
    y ∈ m ∨ (y.1, some y.2) ∈ xs := by
  induction xs generalizing m with
  | nil => exact .inl h
  | cons x xs ih =>
    have hentry (hy : y ∈ SMap.entry x) : (y.1, some y.2) ∈ x :: xs := by
      obtain ⟨k, v⟩ := x
      cases v with
      | none => exact absurd hy List.not_mem_nil
      | some a => obtain rfl := List.mem_singleton.mp hy; exact List.mem_cons_self
    induction m with
    | nil =>
      rw [SMap.setAll_cons_nil, List.mem_append] at h
      exact h.elim (fun h => .inr (hentry h)) fun h => (ih h).imp_right (List.mem_cons_of_mem x)
    | cons z m ihm =>
      rw [SMap.setAll_cons_cons] at h
      split at h
      · obtain rfl | h := List.mem_cons.mp h
        · exact .inl List.mem_cons_self
        · exact (ihm h).imp_left (List.mem_cons_of_mem z)
      · obtain h | h := List.mem_append.mp h
        · exact .inr (hentry h)
        · refine (ih h).imp (fun h => ?_) (List.mem_cons_of_mem x)
          split at h
          · exact List.mem_cons_of_mem z h
          · exact h

theorem SMap.mem_setAll_of_mem {α : Type} {k : Nat} {v : α} {xs : List (Nat × Option α)} {m : SMap α} (h : (k, some v) ∈ xs) :
    (k, v) ∈ SMap.setAll xs m := by
  induction xs generalizing m with
  | nil => exact absurd h List.not_mem_nil
  | cons x xs ih =>
    have hrest (n : SMap α) : (k, v) ∈ SMap.entry x ++ SMap.setAll xs n := by
      obtain rfl | h := List.mem_cons.mp h
      · exact List.mem_append_left _ (List.mem_singleton.mpr rfl)
      · exact List.mem_append_right _ (ih h)
    induction m with
    | nil => rw [SMap.setAll_cons_nil]; exact hrest []
    | cons y m ihm =>
      rw [SMap.setAll_cons_cons]
      split
      · exact List.mem_cons_of_mem y ihm
      · exact hrest _

theorem SMap.get_eq_of_forall {α : Type} {m : SMap α} {k : Nat} {v d : α} (hex : (k, v) ∈ m) (hall : ∀ y ∈ m, y.1 = k → y.2 = v) :
    SMap.get m k d = v := by
  induction m with
  | nil => exact absurd hex List.not_mem_nil
  | cons y m ih =>
    obtain ⟨k', a⟩ := y
    by_cases hk : k' = k
    · simpa [SMap.get, hk] using hall _ List.mem_cons_self hk
    · have hin : (k, v) ∈ m := (List.mem_cons.mp hex).resolve_left fun h => hk (congrArg Prod.fst h).symm
      simpa [SMap.get, hk] using ih hin fun y hy => hall y (List.mem_cons_of_mem _ hy)

/-! A queue that leaves spilling (R212). -/

/-- The pipelines with the descriptor of queue n's packet in the egress stages changed. -/
def flownPipes (m : SMap Pipe) (n : Nat) (f : Desc → Desc) : SMap Pipe :=
  let p := SMap.get m (portPipe (qPort n)) Pipe.init
  if p.ctx.live && p.ctx.egress && p.ctx.q == n then
    SMap.set m (portPipe (qPort n)) { p with ctx := { p.ctx with desc := f p.ctx.desc } } Pipe.init
  else m

theorem pipes_mapFlying (d : Dev) (n : Nat) (f : Desc → Desc) : (Dev.mapFlying d n f).pipes = flownPipes d.pipes n f := by
  unfold Dev.mapFlying
  exact apply_ite Dev.pipes _ _ _

/-- A queue with no open bale and nothing listed that enters state 2 leaves it at once; its packets on the way out count for no window
any more (R212). -/
theorem pipes_enterDraining_of_empty {d : Dev} {n : Nat} (hq : Dev.queue d n = EQueue.init) (hn : n < 16384) :
    (Dev.enterDraining d n).pipes = flownPipes d.pipes n (fun y => { y with bale := 0 }) := by
  have hclose : Dev.closeBale (Dev.setEl d (K.eqSpillState n) 2) n = Dev.setEl d (K.eqSpillState n) 2 := by
    unfold Dev.closeBale
    have hopen : (Dev.queue (Dev.setEl d (K.eqSpillState n) 2) n).openBale = none := congrArg EQueue.openBale hq
    simp only [hopen]
  have hstate : Dev.qSpillState (Dev.setEl d (K.eqSpillState n) 2) n = 2 := by
    unfold Dev.qSpillState qFront
    rw [if_pos (by simpa using hn), el_setEl_same]
  unfold Dev.enterDraining Dev.drained
  rw [hclose]
  extract_lets q items d₁
  have hbales : EQueue.bales q = 0 := congrArg EQueue.bales hq
  rw [if_pos ⟨hstate, hbales⟩]
  exact pipes_mapFlying ..

/-! The refuting state. -/

/-- A packet before its egress pass that came back from the first bale of its queue's middle. -/
def fromFirstBale : StageCtx := { StageCtx.init with live := true, egress := true, desc := { Desc.init with spilled := true, bale := 1 } }

/-- Every domain is on and a flip is in its last step; the latency profile is in force, queue 0 spills (state 1) and holds nothing, and its
last packet stands in the egress stages of pipeline 0. -/
def lastOfMiddle : Dev :=
  let d := Dev.setEl (Dev.setBlob Dev.reset K.pwrDomainState (List.replicate 24 1)) (K.eqSpillState 0) 1
  let d := { d with dict := { d.dict with force := SMap.set d.dict.force K.devProfileSelect 1 0 }, prog := { d.prog with flip := 2 } }
  Dev.setPipe d 0 { Pipe.init with ctx := fromFirstBale }
def lastOfMiddleState : State := { State.reset with dev := lastOfMiddle }

/-- What the latency profile sets: rows of cost and factors of internal queues, and of the queues' elements the factors, thresholds and
enables, these to 0 (R33). -/
def LatencySets (x : Nat × Option Nat) : Prop :=
  x.1 < 0x400000 ∨ x.1 % 256 = 0x02 ∨ x.1 % 256 = 0x15 ∨ (x.1 % 256 = 0x14 ∧ x.2 = some 0)

theorem not_latencySets {x : Nat × Option Nat} (hle : K.eqSpillState 0 ≤ x.1) (hmod : x.1 % 256 = K.eqSpillState 0 % 256) :
    ¬ LatencySets x := by
  have hbase : K.eqSpillState 0 = 0x400017 := rfl
  rw [hbase] at hle hmod
  unfold LatencySets
  omega

theorem of_latencySets_eqSpillEnable {v : Option Nat} (h : LatencySets (K.eqSpillEnable 0, v)) : v = some 0 := by
  have hkey : K.eqSpillEnable 0 = 0x400014 := rfl
  rw [hkey] at h
  obtain h | h | h | ⟨-, h⟩ := h
  all_goals simp_all

theorem profVal_fst (k v d0 : Nat) : (profVal k v d0).1 = k := rfl

theorem dflt_eqSpillEnable : Dict.dflt (K.eqSpillEnable 0) = 1 := by decide +kernel

theorem profVal_eqSpillEnable (q : Nat) : profVal (K.eqSpillEnable q) 0 (Dict.dflt (K.eqSpillEnable 0)) = (K.eqSpillEnable q, some 0) := by
  rw [dflt_eqSpillEnable]; rfl

theorem vals_lastOfMiddle : (Dev.setEl lastOfMiddle K.devProfileActive 1).dict.vals = [(K.devProfileActive, 1), (K.eqSpillState 0, 1)] := by
  decide +kernel

theorem lit_lastOfMiddle : Dev.dark lastOfMiddle = false := by decide +kernel

theorem flip_lastOfMiddle : lastOfMiddle.prog.flip = 2 := rfl

theorem queues_lastOfMiddle : lastOfMiddle.queues = [] := by
  unfold lastOfMiddle
  rw [Dev.setPipe_queues]
  rfl

/-- The latency profile disables spilling; where only queue 0 spills, and holds nothing, it alone leaves the state. -/
theorem pipes_applyProfile_latency {d : Dev}
    (hvals : (Dev.setEl d K.devProfileActive 1).dict.vals = [(K.devProfileActive, 1), (K.eqSpillState 0, 1)])
    (hown : d.dict.overrides = []) (hqs : d.queues = []) :
    (Dev.applyProfile d 1).pipes = flownPipes d.pipes 0 (fun y => { y with bale := 0 }) := by
  unfold Dev.applyProfile
  extract_lets d₁ thr s d₂ factor pools lossy rows iqs f0 e0 t0 p0 eqs d₃ spilling
  replace hvals : d₂.dict.vals = [(K.devProfileActive, 1), (K.eqSpillState 0, 1)] := hvals
  replace hown : d₂.dict.overrides = [] := hown
  have henable : (K.eqSpillEnable 0, some 0) ∈ eqs :=
    List.mem_flatMap.mpr ⟨0, List.mem_range.mpr (by decide), by rw [← profVal_eqSpillEnable]; exact List.mem_cons_of_mem _ List.mem_cons_self⟩
  have hsets : ∀ x ∈ rows ++ iqs ++ eqs, LatencySets x := by
    intro x hmem
    rw [List.mem_append, List.mem_append] at hmem
    obtain (hrow | hiq) | heq := hmem
    · obtain ⟨j, hj, rfl⟩ := List.mem_map.mp hrow
      have := List.mem_range.mp hj
      exact .inl (by simp only [profVal_fst, K.ctRow, key]; omega)
    · obtain ⟨i, hi, rfl⟩ := List.mem_map.mp hiq
      have := List.mem_range.mp hi
      exact .inl (by simp only [profVal_fst, K.iqFactor, key]; omega)
    · obtain ⟨q, -, hq⟩ := List.mem_flatMap.mp heq
      obtain rfl | rfl | rfl := by simpa only [List.mem_cons, List.not_mem_nil, or_false] using hq
      · exact .inr (.inl (by simp only [profVal_fst, K.eqFactor, key]; omega))
      · refine .inr (.inr (.inr ?_))
        simp only [e0, Nat.one_ne_zero, if_false, if_true, profVal_eqSpillEnable]
        exact ⟨by simp only [K.eqSpillEnable, key]; omega, trivial⟩
      · exact .inr (.inr (.inl (by simp only [profVal_fst, K.eqSpillThreshold, key]; omega)))
  have hspilling : spilling = [(K.eqSpillState 0, 1)] := by
    refine (SMap.filter_setAll _ (fun x hx a ha => ?_) fun y hy hp x hx => ?_).trans (by rw [hvals]; rfl)
    · have hset := hsets x (List.mem_of_mem_filter hx)
      by_contra hp
      simp only [Bool.not_eq_false, Bool.and_eq_true, decide_eq_true_eq, beq_iff_eq] at hp
      obtain ⟨⟨hle, hmod⟩, -⟩ := hp
      exact not_latencySets hle hmod hset
    · have hset := hsets x (List.mem_of_mem_filter hx)
      simp only [Bool.and_eq_true, decide_eq_true_eq, beq_iff_eq] at hp
      obtain ⟨⟨hle, hmod⟩, -⟩ := hp
      exact fun heq => not_latencySets (heq ▸ hle) (heq ▸ hmod) hset
  have hoff : Dev.el d₃ (K.eqSpillEnable 0) = 0 := by
    refine SMap.get_eq_of_forall (SMap.mem_setAll_of_mem (List.mem_filter.mpr ⟨List.mem_append_right _ henable, by rw [hown]; rfl⟩)) fun y hy hk => ?_
    obtain hy | hy := SMap.mem_of_mem_setAll hy
    · rw [hvals] at hy
      exact absurd (hk ▸ List.mem_map_of_mem (f := Prod.fst) hy) (by decide)
    · have hset := hsets _ (List.mem_of_mem_filter hy)
      rw [hk] at hset
      exact Option.some.inj (of_latencySets_eqSpillEnable hset)
  have hqueue : Dev.queue d₃ 0 = EQueue.init := (congrArg (SMap.get · 0 EQueue.init) hqs : _)
  have hpipes : d₃.pipes = d.pipes := rfl
  clear_value d₃
  rw [hspilling, List.foldl_cons, List.foldl_nil]
  have hzero : (K.eqSpillState 0 - K.eqSpillState 0) / 256 = 0 := by decide
  simp only [hzero, hoff, if_true]
  rw [pipes_enterDraining_of_empty hqueue (by decide), hpipes]


theorem commitClass_of_waiting_nil {d : Dev} (h : d.dict.waiting = []) (c : ECom) : Dev.commitClass d c = d := by
  unfold Dev.commitClass
  simp only [h, List.filter_nil, List.foldl_nil]
  exact congrArg (fun w => { d with dict := { d.dict with waiting := w } }) h.symm

theorem pipes_flipEnd (d : Dev) (st : Nat) : (Dev.flipEnd d st).pipes = d.pipes := by
  unfold Dev.flipEnd
  rw [Dev.event_pipes]
  rfl

/-- Of the last step of a flip only the profile changes packets in the pipelines. -/
theorem pipes_commit (ep : Nat) (d : Dev) (hw : d.dict.waiting = []) (hclear : Dev.el d K.devProfileClearOverrides ≠ 1) :
    (Dev.commit ep d).pipes = (Dev.applyProfile d (Dev.elIn d K.devProfileSelect)).pipes := by
  unfold Dev.commit
  rw [commitClass_of_waiting_nil hw]
  extract_lets d₁ d₂ d₃ d₄ d₅ pr
  have h₂ : d₂ = d := if_neg hclear
  have h₄ : d₄.pipes = d₃.pipes :=
    List.foldlRecOn (motive := fun x : Dev => x.pipes = d₃.pipes) _ _ rfl fun x hx n _ => hx
  have h₅ : d₅.pipes = d₄.pipes := by rw [Dev.setEl_pipes, Dev.count_pipes, Dev.setEl_pipes]
  rw [pipes_flipEnd]
  have h₃ : d₃ = Dev.applyProfile d (Dev.elIn d K.devProfileSelect) := by unfold d₃; rw [h₂]
  rw [Dev.setProg_pipes, h₅, h₄, h₃]

theorem commit_lastOfMiddle (ep : Nat) : (Dev.commit ep lastOfMiddle).pipes = flownPipes lastOfMiddle.pipes 0 (fun y => { y with bale := 0 }) := by
  have hsel : Dev.elIn lastOfMiddle K.devProfileSelect = 1 := by decide +kernel
  rw [pipes_commit ep lastOfMiddle rfl (by decide +kernel), hsel]
  exact pipes_applyProfile_latency vals_lastOfMiddle rfl queues_lastOfMiddle

/-- The pipeline of the refuting state. -/
theorem pipe_lastOfMiddle : Dev.pipe lastOfMiddle 0 = { Pipe.init with ctx := fromFirstBale } := pipe_setPipe_same ..

theorem flownPipes_same {m : SMap Pipe} {n : Nat} (f : Desc → Desc) {p : Pipe} (hp : SMap.get m (portPipe (qPort n)) Pipe.init = p)
    (hin : (p.ctx.live && p.ctx.egress && p.ctx.q == n) = true) :
    SMap.get (flownPipes m n f) (portPipe (qPort n)) Pipe.init = { p with ctx := { p.ctx with desc := f p.ctx.desc } } := by
  subst hp
  unfold flownPipes
  rw [if_pos hin, SMap.get_set_same]

theorem commit_changes_pipes (ep : Nat) : (Dev.commit ep lastOfMiddle).pipes ≠ lastOfMiddle.pipes := by
  intro h
  have hpipe : Dev.pipe lastOfMiddle 0 = { Pipe.init with ctx := { fromFirstBale with desc := { fromFirstBale.desc with bale := 0 } } } := by
    unfold Dev.pipe
    rw [← h, commit_lastOfMiddle]
    exact flownPipes_same (n := 0) _ pipe_lastOfMiddle rfl
  rw [pipe_lastOfMiddle] at hpipe
  exact absurd (congrArg (fun p => p.ctx.desc.bale) hpipe) (by decide)

theorem exec_flipCommit_last {s : State} (hl : s.lit) (hf : s.dev.prog.flip = 2) :
    exec .flipCommit s = .next { s with epoch := (s.epoch + 1) % 2 ^ 48, dev := Dev.commit s.epoch s.dev } := if_pos ⟨hl, hf⟩

/-- What the statement says of the pipelines at FLIP_COMMIT. -/
theorem pipes_commit_of_flipsCommitAtomicallyOrTimeOut (h : Obligations.FlipsCommitAtomicallyOrTimeOut) {s : State} (hl : s.lit)
    (hf : s.dev.prog.flip = 2) : (Dev.commit s.epoch s.dev).pipes = s.dev.pipes := by
  unfold Obligations.FlipsCommitAtomicallyOrTimeOut at h
  obtain ⟨-, -, hcommit, -⟩ := h s hl
  obtain ⟨x, hnext, -, -, -, -, -, -, -, -, hpipes, -⟩ := hcommit hf
  have hx : Dev.commit s.epoch s.dev = x := congrArg State.dev (Host.Outcome.next.inj ((exec_flipCommit_last hl hf).symm.trans hnext))
  exact (congrArg Dev.pipes hx).trans hpipes

/-- Refutes O33: FLIP_COMMIT does not keep the pipelines. The flip puts the latency profile in force, which disables the spilling of queue 0;
the queue's middle is empty, so it leaves spilling, and its last packet, in the egress stages, stops counting for its bale (bale 1 before,
0 after). -/
theorem not_flipsCommitAtomicallyOrTimeOut : ¬ Obligations.FlipsCommitAtomicallyOrTimeOut := fun h =>
  commit_changes_pipes _ (pipes_commit_of_flipsCommitAtomicallyOrTimeOut h (s := lastOfMiddleState) lit_lastOfMiddle flip_lastOfMiddle)

end Sys2Proof.Machine

/-! The loader's commands (R144 to R146, R153), and O32. -/
namespace Sys2Proof.Machine

/-! What every command of the loader leaves alone. -/

/-- From d to x the active banks, the packets, the queues, the ports, the buffer and the tables stay. -/
structure LoadKeeps (ep : Nat) (d x : Dev) : Prop where
  active : ∀ m, Pipe.bank (Dev.pipe x m) ep = Pipe.bank (Dev.pipe d m) ep
  pkts : x.pkts = d.pkts
  queues : x.queues = d.queues
  ports : x.ports = d.ports
  buf : x.buf = d.buf
  tbl : x.tbl = d.tbl

namespace LoadKeeps
variable {ep : Nat} {d x : Dev}

theorem refl (ep : Nat) (d : Dev) : LoadKeeps ep d d := ⟨fun _ => rfl, rfl, rfl, rfl, rfl, rfl⟩
theorem setEl (k v : Nat) (h : LoadKeeps ep d x) : LoadKeeps ep d (Dev.setEl x k v) := { h with }
theorem setProg (y : ProgS) (h : LoadKeeps ep d x) : LoadKeeps ep d (Dev.setProg x y) := { h with }
theorem setImageIds (n : Nat) (h : LoadKeeps ep d x) : LoadKeeps ep d (Dev.setImageIds x n) := { h with }

theorem event (c ch : Nat) (h : LoadKeeps ep d x) : LoadKeeps ep d (Dev.event x c ch) where
  active m := by unfold Dev.pipe; rw [Dev.event_pipes]; exact h.active m
  pkts := (Aside.pkts.event (fun _ => rfl) x c ch).trans h.pkts
  queues := (Aside.queues.event (fun _ => rfl) x c ch).trans h.queues
  ports := (Aside.ports.event (fun _ => rfl) x c ch).trans h.ports
  buf := (Aside.buf.event (fun _ => rfl) x c ch).trans h.buf
  tbl := (Aside.tbl.event (fun _ => rfl) x c ch).trans h.tbl

theorem loadEnd (st : Nat) (h : LoadKeeps ep d x) : LoadKeeps ep d (Dev.loadEnd x st) := event _ _ (setEl _ _ (setEl _ _ h))

theorem setIdle (n : Nat) (img : Image) (h : LoadKeeps ep d x) : LoadKeeps ep d (Dev.setIdle ep x n img) where
  active m := by
    rw [← h.active m]
    unfold Dev.setIdle
    by_cases hm : m = n
    · rw [hm, pipe_setPipe_same]
      unfold Pipe.bank Pipe.setBank
      rcases Nat.mod_two_eq_zero_or_one ep with he | he <;> simp [he, Nat.add_mod]
    · rw [pipe_setPipe_ne _ _ _ _ hm]
  pkts := h.pkts
  queues := h.queues
  ports := h.ports
  buf := h.buf
  tbl := h.tbl

end LoadKeeps

/-! The idle bank. -/

theorem idle_setIdle (ep : Nat) (d : Dev) (n : Nat) (img : Image) : Pipe.bank (Dev.pipe (Dev.setIdle ep d n img) n) (ep + 1) = img := by
  unfold Dev.setIdle
  rw [pipe_setPipe_same]
  unfold Pipe.bank Pipe.setBank
  split <;> simp_all

theorem pipe_setIdle_ne {ep : Nat} {d : Dev} {n m : Nat} (img : Image) (hm : m ≠ n) : Dev.pipe (Dev.setIdle ep d n img) m = Dev.pipe d m :=
  pipe_setPipe_ne _ _ _ _ hm

theorem bankIdleState_inj {m n : Nat} : K.bankIdleState m = K.bankIdleState n ↔ m = n := by
  simp only [K.bankIdleState, key]; omega

theorem el_setImageIds_idleState (d : Dev) (n m : Nat) : Dev.el (Dev.setImageIds d n) (K.bankIdleState m) = Dev.el d (K.bankIdleState m) := by
  unfold Dev.setImageIds
  rw [el_setEl_ne, el_setEl_ne]
  · simp only [K.bankIdleState, K.bankAImage, key]; omega
  · simp only [K.bankIdleState, K.bankBImage, key]; omega

/-! PROG_LOAD_WRITE. -/

/-- One image of a load stands in its pipeline's idle bank. -/
def Dev.writeImage (ep : Nat) (d : Dev) (y : Nat × Image) : Dev :=
  let d := Dev.setProg (Dev.setIdle ep d y.1 y.2) { d.prog with
    released := SMap.set d.prog.released y.1 false false, recopy := SMap.set d.prog.recopy y.1 false false }
  Dev.setEl (Dev.setImageIds d y.1) (K.bankIdleState y.1) 3

theorem LoadKeeps.writeImage {ep : Nat} {d x : Dev} (y : Nat × Image) (h : LoadKeeps ep d x) : LoadKeeps ep d (Dev.writeImage ep x y) :=
  .setEl _ _ (.setImageIds _ (.setProg _ (.setIdle _ _ h)))

theorem pipe_writeImage (ep : Nat) (d : Dev) (y : Nat × Image) (m : Nat) :
    Dev.pipe (Dev.writeImage ep d y) m = Dev.pipe (Dev.setIdle ep d y.1 y.2) m := rfl

theorem load_writeImage (ep : Nat) (d : Dev) (y : Nat × Image) : (Dev.writeImage ep d y).prog.load = d.prog.load := rfl

theorem idleState_writeImage (ep : Nat) (d : Dev) (y : Nat × Image) (m : Nat) :
    Dev.el (Dev.writeImage ep d y) (K.bankIdleState m) = if m = y.1 then 3 else Dev.el d (K.bankIdleState m) := by
  unfold Dev.writeImage
  split
  case isTrue hm => rw [hm, el_setEl_same]
  case isFalse hm =>
    rw [el_setEl_ne _ _ _ _ (bankIdleState_inj.not.mpr hm), el_setImageIds_idleState]
    rfl

/-- What the pipelines no image names keep. -/
theorem writeImages_unnamed {ep m : Nat} {ys : List (Nat × Image)} (hm : ∀ y ∈ ys, y.1 ≠ m) (d : Dev) :
    Dev.pipe (ys.foldl (Dev.writeImage ep) d) m = Dev.pipe d m
      ∧ Dev.el (ys.foldl (Dev.writeImage ep) d) (K.bankIdleState m) = Dev.el d (K.bankIdleState m) := by
  refine List.foldlRecOn (motive := fun x : Dev => Dev.pipe x m = Dev.pipe d m ∧ Dev.el x (K.bankIdleState m) = Dev.el d (K.bankIdleState m))
    _ _ ⟨rfl, rfl⟩ fun x hx y hy => ?_
  have hne : m ≠ y.1 := (hm y hy).symm
  rw [pipe_writeImage, pipe_setIdle_ne _ hne, idleState_writeImage, if_neg hne]
  exact hx

theorem writeImages_named {ep : Nat} {ys : List (Nat × Image)} (hys : (ys.map (fun y => y.1)).Nodup) (d : Dev) :
    ∀ y ∈ ys, Pipe.bank (Dev.pipe (ys.foldl (Dev.writeImage ep) d) y.1) (ep + 1) = y.2
      ∧ Dev.el (ys.foldl (Dev.writeImage ep) d) (K.bankIdleState y.1) = 3 := by
  induction ys generalizing d with
  | nil => exact fun y hy => absurd hy List.not_mem_nil
  | cons z ys ih =>
    obtain ⟨hz, hrest⟩ := List.nodup_cons.mp hys
    intro y hy
    obtain rfl | hy := List.mem_cons.mp hy
    · have hnot : ∀ w ∈ ys, w.1 ≠ y.1 := fun w hw he => hz (List.mem_map.mpr ⟨w, hw, he⟩)
      obtain ⟨hpipe, hstate⟩ := writeImages_unnamed (ep := ep) hnot (Dev.writeImage ep d y)
      rw [List.foldl_cons, hpipe, hstate, pipe_writeImage, idle_setIdle, idleState_writeImage, if_pos rfl]
      exact ⟨rfl, rfl⟩
    · exact ih hrest _ y hy

theorem writeImages_keeps (ep : Nat) (ys : List (Nat × Image)) {d x : Dev} (h : LoadKeeps ep d x) :
    LoadKeeps ep d (ys.foldl (Dev.writeImage ep) x) := List.foldlRecOn _ _ h fun _ hx y _ => hx.writeImage y

theorem writeImages_load (ep : Nat) (ys : List (Nat × Image)) (d : Dev) : (ys.foldl (Dev.writeImage ep) d).prog.load = d.prog.load :=
  foldl_keeps (fun d : Dev => d.prog.load) _ (fun x y => load_writeImage ep x y) ys d

/-- Whether the load waits: its images are being written, a packet holds a named idle bank, or a flip is in its last step. -/
def Dev.loadWaits (ep : Nat) (d : Dev) (l : Load) : Prop :=
  l.writing = true ∨ (∃ y ∈ l.images, Dev.heldPackets ep d y.1 ≠ 0) ∨ d.prog.flip = 2

theorem loadWrite_of_load {ep : Nat} {d : Dev} {l : Load} (hl : d.prog.load = some l) : Dev.loadWrite ep d =
    if l.writing || l.images.any (fun y => Dev.heldPackets ep d y.1 != 0) || d.prog.flip == 2 then d
    else l.images.foldl (Dev.writeImage ep) (Dev.setProg d { d.prog with load := some { l with writing := true } }) := by
  unfold Dev.loadWrite
  rw [hl]
  rfl

theorem loadWrite_of_waits {ep : Nat} {d : Dev} {l : Load} (hl : d.prog.load = some l) (hw : Dev.loadWaits ep d l) :
    Dev.loadWrite ep d = d := by
  rw [loadWrite_of_load hl, if_pos]
  simpa [Dev.loadWaits, or_assoc] using hw

theorem loadWrite_of_free {ep : Nat} {d : Dev} {l : Load} (hl : d.prog.load = some l) (hw : ¬ Dev.loadWaits ep d l) :
    Dev.loadWrite ep d = l.images.foldl (Dev.writeImage ep) (Dev.setProg d { d.prog with load := some { l with writing := true } }) := by
  rw [loadWrite_of_load hl, if_neg]
  simpa [Dev.loadWaits, or_assoc] using hw

/-! PROG_LOAD_DONE. -/

/-- The states of the idle banks of a load that is over. -/
def Dev.endImages (failed : Nat) (ys : List (Nat × Image)) (d : Dev) : Dev :=
  ys.foldl (fun d y => Dev.setEl d (K.bankIdleState y.1) (if bit failed y.1 then 5 else 1)) d

theorem loadDone_of_writing {d : Dev} {l : Load} (failed : Nat) (hl : d.prog.load = some l) (hw : l.writing = true) :
    Dev.loadDone d failed = Dev.loadEnd (Dev.setProg (Dev.endImages failed l.images d) { (Dev.endImages failed l.images d).prog with load := none })
      (if l.images.any (fun y => bit failed y.1) then 4 else 0) := by
  unfold Dev.loadDone
  rw [hl]
  exact if_pos hw

theorem loadDone_of_not_writing {d : Dev} {l : Load} (failed : Nat) (hl : d.prog.load = some l) (hw : l.writing = false) :
    Dev.loadDone d failed = d := by
  unfold Dev.loadDone
  rw [hl]
  exact if_neg (by rw [hw]; exact Bool.false_ne_true)

theorem loadWrite_of_none {ep : Nat} {d : Dev} (hl : d.prog.load = none) : Dev.loadWrite ep d = d := by
  unfold Dev.loadWrite
  rw [hl]

theorem loadDone_of_none {d : Dev} (failed : Nat) (hl : d.prog.load = none) : Dev.loadDone d failed = d := by
  unfold Dev.loadDone
  rw [hl]

theorem endImages_keeps {ep : Nat} (failed : Nat) (ys : List (Nat × Image)) {d x : Dev} (h : LoadKeeps ep d x) :
    LoadKeeps ep d (Dev.endImages failed ys x) := List.foldlRecOn _ _ h fun _ hx _ _ => hx.setEl ..

theorem endImages_pipes (failed : Nat) (ys : List (Nat × Image)) (d : Dev) : (Dev.endImages failed ys d).pipes = d.pipes :=
  List.foldlRecOn (motive := fun x : Dev => x.pipes = d.pipes) _ _ rfl fun _ hx _ _ => hx

theorem endImages_el {j : Nat} (failed : Nat) {ys : List (Nat × Image)} (hj : ∀ y ∈ ys, j ≠ K.bankIdleState y.1) (d : Dev) :
    Dev.el (Dev.endImages failed ys d) j = Dev.el d j :=
  List.foldlRecOn (motive := fun x : Dev => Dev.el x j = Dev.el d j) _ _ rfl fun _ hx y hy => (el_setEl_ne _ _ _ _ (hj y hy)).trans hx

theorem endImages_idleState (failed : Nat) (ys : List (Nat × Image)) (d : Dev) (n : Nat) :
    Dev.el (Dev.endImages failed ys d) (K.bankIdleState n)
      = if n ∈ ys.map (fun y => y.1) then (if bit failed n then 5 else 1) else Dev.el d (K.bankIdleState n) := by
  induction ys generalizing d with
  | nil => rfl
  | cons z ys ih =>
    have hz : Dev.el (Dev.setEl d (K.bankIdleState z.1) (if bit failed z.1 then 5 else 1)) (K.bankIdleState n)
        = if n = z.1 then (if bit failed n then 5 else 1) else Dev.el d (K.bankIdleState n) := by
      by_cases hn : n = z.1
      · rw [if_pos hn, hn, el_setEl_same]
      · rw [if_neg hn, el_setEl_ne _ _ _ _ (bankIdleState_inj.not.mpr hn)]
    rw [Dev.endImages, List.foldl_cons, ← Dev.endImages, ih, hz, List.map_cons]
    simp only [List.mem_cons]
    split_ifs <;> simp_all

theorem loadEnd_el {j : Nat} (d : Dev) (st : Nat) (hj : asideEl j = false) (h₁ : j ≠ K.progLoadStatus) (h₂ : j ≠ K.progLoadDoneSeq) :
    Dev.el (Dev.loadEnd d st) j = Dev.el d j := by
  unfold Dev.loadEnd
  rw [(Aside.el j hj).event (fun _ => rfl), el_setEl_ne _ _ _ _ h₂, el_setEl_ne _ _ _ _ h₁]

theorem loadEnd_status (d : Dev) (st : Nat) : Dev.el (Dev.loadEnd d st) K.progLoadStatus = st := by
  unfold Dev.loadEnd
  rw [(Aside.el K.progLoadStatus (by decide)).event (fun _ => rfl), el_setEl_ne _ _ _ _ (by decide), el_setEl_same]

theorem loadEnd_doneSeq (d : Dev) (st : Nat) : Dev.el (Dev.loadEnd d st) K.progLoadDoneSeq = Dev.el d K.progLoadSeq := by
  unfold Dev.loadEnd
  rw [(Aside.el K.progLoadDoneSeq (by decide)).event (fun _ => rfl), el_setEl_same]

theorem loadEnd_pipes (d : Dev) (st : Nat) : (Dev.loadEnd d st).pipes = d.pipes := by
  unfold Dev.loadEnd
  rw [Dev.event_pipes]
  rfl

theorem loadEnd_prog (d : Dev) (st : Nat) : (Dev.loadEnd d st).prog = d.prog := by
  unfold Dev.loadEnd
  rw [OffCounters.prog.aside.event fun _ => rfl]
  rfl

theorem loadEnd_idleState {n : Nat} (hn : n < 16) (d : Dev) (st : Nat) :
    Dev.el (Dev.loadEnd d st) (K.bankIdleState n) = Dev.el d (K.bankIdleState n) := by
  refine loadEnd_el d st (asideEl_bankIdleState hn) ?_ ?_ <;> simp only [K.bankIdleState, K.progLoadStatus, K.progLoadDoneSeq, key] <;> omega

/-! BANK_COPY and BANK_COPY_DONE. -/

theorem bankCopyDone_of_copying {ep : Nat} {d : Dev} {n : Nat} (h : Dev.el d (K.bankIdleState n) = 4) :
    Dev.bankCopyDone ep d n =
      Dev.setEl (Dev.setImageIds (Dev.setIdle ep (Dev.setProg d { d.prog with recopy := SMap.set d.prog.recopy n false false }) n
        (Pipe.bank (Dev.pipe d n) ep)) n) (K.bankIdleState n) 0 := if_pos h

theorem bankCopy_of_free {d : Dev} {n : Nat}
    (h : Dev.el d (K.bankIdleState n) = 5 ∨ (Dev.el d (K.bankIdleState n) = 2 ∧ SMap.get d.prog.released n false = true))
    (hload : Dev.loadNames d n = false) :
    Dev.bankCopy d n = Dev.setEl (Dev.setProg d { d.prog with
      released := SMap.set d.prog.released n false false,
      recopy := SMap.set d.prog.recopy n (Dev.el d (K.bankIdleState n) == 5) false }) (K.bankIdleState n) 4 := if_pos ⟨h.symm, hload⟩

theorem bankCopy_same {d : Dev} {n : Nat}
    (h : Dev.loadNames d n = true ∨ (Dev.el d (K.bankIdleState n) ≠ 5
      ∧ (Dev.el d (K.bankIdleState n) ≠ 2 ∨ SMap.get d.prog.released n false = false))) : Dev.bankCopy d n = d := by
  refine if_neg fun ⟨hstate, hfree⟩ => ?_
  rcases h with hload | ⟨h5, h2⟩
  · rw [hload] at hfree
    exact Bool.noConfusion hfree
  · rcases hstate with ⟨hheld, hrel⟩ | hinv
    · exact h2.elim (absurd hheld) fun h => by rw [h] at hrel; exact Bool.noConfusion hrel
    · exact h5 hinv

/-- PROG_LOAD_WRITE of a load that waits for nothing. -/
theorem loadWrite_free {ep : Nat} {d : Dev} {l : Load} (hl : d.prog.load = some l) (hfree : ¬ Dev.loadWaits ep d l)
    (hnodup : (l.images.map (fun y => y.1)).Nodup) :
    (∀ y ∈ l.images, Pipe.bank (Dev.pipe (Dev.loadWrite ep d) y.1) (ep + 1) = y.2
      ∧ Dev.el (Dev.loadWrite ep d) (K.bankIdleState y.1) = 3)
    ∧ LoadKeeps ep d (Dev.loadWrite ep d) ∧ (Dev.loadWrite ep d).prog.load = some { l with writing := true }
    ∧ ∀ m, (∀ y ∈ l.images, y.1 ≠ m) → Dev.pipe (Dev.loadWrite ep d) m = Dev.pipe d m := by
  rw [loadWrite_of_free hl hfree]
  exact ⟨writeImages_named hnodup _, writeImages_keeps ep _ (.setProg _ (.refl ep d)), writeImages_load ep _ _,
    fun m hm => (writeImages_unnamed hm _).1⟩

/-- PROG_LOAD_DONE of a load that is being written. -/
theorem loadDone_writing {d : Dev} {l : Load} (ep failed : Nat) (hl : d.prog.load = some l) (hw : l.writing = true)
    (hpipe : ∀ y ∈ l.images, y.1 < 16) :
    (Dev.loadDone d failed).prog.load = none
    ∧ (∀ y ∈ l.images, Dev.el (Dev.loadDone d failed) (K.bankIdleState y.1) = if bit failed y.1 then 5 else 1)
    ∧ Dev.el (Dev.loadDone d failed) K.progLoadStatus = (if l.images.any (fun y => bit failed y.1) then 4 else 0)
    ∧ Dev.el (Dev.loadDone d failed) K.progLoadDoneSeq = Dev.el d K.progLoadSeq
    ∧ LoadKeeps ep d (Dev.loadDone d failed) ∧ (Dev.loadDone d failed).pipes = d.pipes := by
  rw [loadDone_of_writing failed hl hw]
  refine ⟨?_, fun y hy => ?_, loadEnd_status .., ?_, .loadEnd _ (.setProg _ (endImages_keeps failed _ (.refl ep d))), ?_⟩
  · rw [loadEnd_prog]; rfl
  · rw [loadEnd_idleState (hpipe y hy)]
    exact (endImages_idleState failed l.images d y.1).trans (if_pos (List.mem_map_of_mem hy))
  · rw [loadEnd_doneSeq]
    refine endImages_el failed (fun y hy => ?_) d
    have := hpipe y hy
    simp only [K.progLoadSeq, K.bankIdleState, key]
    omega
  · rw [loadEnd_pipes]
    exact endImages_pipes failed l.images d

/-- Settles O32, one command of the loader after another. -/
theorem loadsFillIdleBanksOnly : Obligations.LoadsFillIdleBanksOnly := by
  unfold Obligations.LoadsFillIdleBanksOnly
  intro s hs d ep keeps
  have hkeeps {x : Dev} (h : LoadKeeps ep d x) : keeps x := ⟨h.active, h.pkts, h.queues, h.ports, h.buf, h.tbl⟩
  refine ⟨fun l hl _ hnodup => ⟨fun hw hheld hflip => ?_, fun hwaits => ?_, fun hw failed => ?_⟩, fun l failed hl hw hpipe => ?_,
    fun hl => ⟨?_, fun failed => ?_⟩, fun n => ⟨fun hst hheld => ?_, fun h => ?_, fun h hload => ?_, fun h => ?_, fun h => ?_, fun h => ?_⟩⟩
  · have hfree : ¬ Dev.loadWaits ep d l := by
      rintro (h | ⟨y, hy, h⟩ | h)
      · rw [hw] at h; exact Bool.noConfusion h
      · exact h (hheld y hy)
      · exact hflip h
    obtain ⟨himages, hleft, hload, hother⟩ := loadWrite_free hl hfree hnodup
    exact (does_liftE_iff (f := Dev.loadWrite) rfl hs).mpr ⟨himages, hkeeps hleft, hload, hother⟩
  · exact liftE_same (f := Dev.loadWrite) (loadWrite_of_waits hl hwaits)
  · exact lift_same (f := fun d => Dev.loadDone d failed) (loadDone_of_not_writing failed hl hw)
  · obtain ⟨hload, hstate, hstatus, hseq, hleft, hpipes⟩ := loadDone_writing ep failed hl hw hpipe
    exact (does_lift_iff (f := fun d => Dev.loadDone d failed) rfl hs).mpr ⟨hload, hstate, hstatus, hseq, hkeeps hleft, hpipes⟩
  · exact liftE_same (f := Dev.loadWrite) (loadWrite_of_none hl)
  · exact lift_same (f := fun d => Dev.loadDone d failed) (loadDone_of_none failed hl)
  · have hrelease : Dev.bankRelease ep d n = { d with prog := { d.prog with released := SMap.set d.prog.released n true false } } :=
      if_pos ⟨hst, hheld⟩
    exact (liftE_lit (fun ep d => Dev.bankRelease ep d n) hs).trans
      (congrArg (fun x => Host.Outcome.next { s with dev := x }) hrelease)
  · exact liftE_same (f := fun ep d => Dev.bankRelease ep d n) (if_neg fun ⟨hst, hheld⟩ => h.elim (· hst) (· hheld))
  · rw [does_lift_iff (f := fun d => Dev.bankCopy d n) rfl hs, bankCopy_of_free h hload]
    exact ⟨el_setEl_same .., rfl, hkeeps (.setEl _ _ (.setProg _ (.refl ep d)))⟩
  · exact lift_same (f := fun d => Dev.bankCopy d n) (bankCopy_same h)
  · exact liftE_same (f := fun ep d => Dev.bankCopyDone ep d n) (if_neg h)
  · rw [does_liftE_iff (f := fun ep d => Dev.bankCopyDone ep d n) rfl hs, bankCopyDone_of_copying h]
    exact ⟨idle_setIdle .., el_setEl_same .., hkeeps (.setEl _ _ (.setImageIds _ (.setIdle _ _ (.setProg _ (.refl ep d))))),
      fun m hm => pipe_setIdle_ne _ hm⟩

end Sys2Proof.Machine

/-! Granted writes of the loader's and the epoch controller's elements (R144 to R158), and O34. -/
namespace Sys2Proof.Machine

/-! One granted write (R383, R388). -/

theorem key_keyObj_keyEl (k : Nat) : key (keyObj k) (keyEl k) = k := by
  unfold key keyObj keyEl
  omega

theorem find_of_checkTarget {d : Dev} {c o e : Nat} {r : DictRow} (h : Dev.checkTarget d c o e = .inl r) : Dict.find o e = some r := by
  unfold Dev.checkTarget at h
  split at h
  · cases h
  · split at h
    · cases h
    · split at h
      · cases h
      · split at h
        · cases h
        · split at h
          · cases h
          · rwa [← Sum.inl.inj h]
        · rwa [← Sum.inl.inj h]

theorem writeOne_of_grants {ep : Nat} {d : Dev} {src : Source} {k : Nat} {v : EVal} (h : Dev.grants d src { k := k, v := v }) :
    Dev.writeOne ep d src (keyObj k) (keyEl k) (fun _ => some v) = (Dev.applyItems ep d src [WItem.norm { k := k, v := v }], AS.ok) := by
  obtain ⟨r, hcheck, hrange, hbad, hroom⟩ := h
  have hnorm : WItem.norm { k := k, v := v } = { k := k, v := EVal.norm r k v } := by
    unfold WItem.norm
    rw [find_of_checkTarget hcheck]
  rw [hnorm] at hbad hroom ⊢
  unfold Dev.writeOne
  simp only [hcheck, hrange, key_keyObj_keyEl, hbad, hroom, Bool.true_eq_false, if_false, ne_eq, not_true_eq_false,
    Bool.false_eq_true]

/-- A command that is one granted write applies it and replies OK; it asks for no warm reset where the write does not. -/
theorem does_grantedWrite_iff {c : Instr} {s : State} {src : Source} {k : Nat} {v : EVal} {P : Dev → Prop} (hg : s.grants c)
    (hw : Instr.writes c = some (src, [{ k := k, v := v }])) (hc : exec c s = liftW (fun ep d => Dev.write ep d src k v) s)
    (hwarm : (Dev.applyItems s.epoch (Dev.fresh s.dev) src [WItem.norm { k := k, v := v }]).rst.warmDue = false) :
    Does c s P ↔ P (Dev.reply (Dev.applyItems s.epoch (Dev.fresh s.dev) src [WItem.norm { k := k, v := v }]) src AS.ok []) := by
  obtain ⟨hl, hrun, hgrant⟩ := hg
  rw [hw] at hgrant
  obtain ⟨hthere, hgrant, -⟩ := hgrant
  have hwrite : Dev.write s.epoch (Dev.fresh s.dev) src k v
      = Dev.reply (Dev.applyItems s.epoch (Dev.fresh s.dev) src [WItem.norm { k := k, v := v }]) src AS.ok [] := by
    unfold Dev.write
    rw [if_neg, if_pos, writeOne_of_grants hgrant]
    · exact hrun
    · rw [Bool.not_eq_false]; exact hthere
  refine does_iff_of_next (hc.trans ?_)
  unfold liftW
  simp only [hwrite]
  rw [if_neg (by rw [hl]; exact Bool.false_ne_true)]
  exact congrArg Host.Outcome.next (if_neg (by rw [Bool.not_eq_true]; exact hwarm))

/-- What none of these commands touches. -/
def Dev.calm (d : Dev) : SMap Pkt × SMap EQueue × SMap Pipe × SMap OutPort × BufS × TableS × RstS :=
  (d.pkts, d.queues, d.pipes, d.ports, d.buf, d.tbl, d.rst)

theorem OffCounters.calm : OffCounters Dev.calm where
  aside := ⟨fun _ _ _ _ => rfl, fun _ _ => rfl, fun _ _ => rfl, fun d p h => by simp [Dev.calm], fun _ _ => rfl, fun _ _ => rfl⟩
  vals _ _ _ := rfl
  free _ := rfl


/-- The values of the accepted write are numbered for the store (R397). -/
def Dev.noted (d : Dev) : Dev := { d with dict := { d.dict with cfgGroup := d.dict.cfgGroup + 1 } }

/-- A write of the loader's or the epoch controller's objects needs nothing done under the old value. -/
theorem beforeWrite_program {x : WItem} (d : Dev) (hk : keyObj x.k = 0x0700 ∨ keyObj x.k = 0x0701) :
    Dev.beforeWrite d x = d := by
  have hne {j : Nat} (hj : keyObj j ≠ 0x0700 ∧ keyObj j ≠ 0x0701) : x.k ≠ j := by
    intro h
    subst h
    exact hk.elim hj.1 hj.2
  unfold Dev.beforeWrite
  extract_lets o e
  have ho : o = 0x0700 ∨ o = 0x0701 := hk
  rw [if_neg (by omega), if_neg (by omega), if_neg (not_or.mpr ⟨hne (by decide), hne (by decide)⟩),
    if_neg (not_or.mpr ⟨hne (by decide), hne (by decide)⟩), if_neg (hne (by decide)), if_neg (by omega), if_neg (by omega)]

/-- A write of the loader's or the epoch controller's objects whose value comes into force at once and is not kept: the value, then the
effect. -/
theorem applyItems_program {ep : Nat} {d : Dev} {src : Source} {x : WItem} {r : DictRow}
    (hfind : Dict.find (keyObj x.k) (keyEl x.k) = some r) (hcom : r.com = .now) (hacc : (r.acc == .rwp) = false)
    (hobj : keyObj x.k = 0x0700 ∨ keyObj x.k = 0x0701) :
    Dev.applyItems ep d src [x] = Dev.effect ep (Dev.noted (Dev.putItem d x)) src x (Dev.el d x.k) := by
  unfold Dev.applyItems
  simp only [List.map_cons, List.map_nil, List.foldl_cons, List.foldl_nil, List.zip_cons_cons, List.zip_nil_left,
    beforeWrite_program d hobj]
  unfold Dev.keepItem
  simp only [hfind, hcom, hacc]
  rfl

/-- A write-only element holds no value. -/
theorem putItem_wo {d : Dev} {x : WItem} {r : DictRow} (hfind : Dict.find (keyObj x.k) (keyEl x.k) = some r) (hacc : r.acc = .wo) :
    Dev.putItem d x = d := by
  unfold Dev.putItem
  simp only [hfind, heldWrite, hacc]
  rfl

/-- The effect of a write of the loader's or the epoch controller's objects that starts no command. -/
theorem effect_program {ep : Nat} {d : Dev} {src : Source} {x : WItem} (old : Nat) (hgov : governed x.k = false) (hstart : isStart x.k = false)
    (hobj : keyObj x.k = 0x0700 ∨ keyObj x.k = 0x0701) :
    Dev.effect ep d src x old = Dev.effectMid ep d x.k x.v.nat x.v.bytes := by
  unfold Dev.effect
  simp only [hgov, hstart, Bool.false_and, Bool.false_eq_true, if_false]
  rw [if_neg (by omega), if_neg (by omega), if_pos (by omega)]

/-- The class that claims the result of the command that starts (R396). -/
def Dev.claimed (d : Dev) (src : Source) (k : Nat) : Dev :=
  { d with dict := { d.dict with claims := SMap.ins d.dict.claims k (clsFrom (Source.cls src)) } }

/-- The effect of a new number in a command's start element. -/
theorem effect_start {ep : Nat} {d : Dev} {src : Source} {x : WItem} {old st : Nat} (hgov : governed x.k = false)
    (hst : cmdStatus x.k = some st) (hnew : old ≠ x.v.nat) :
    Dev.effect ep d src x old = Dev.runStart ep (Dev.claimed d src x.k) src x.k x.v.nat := by
  have hstart : isStart x.k = true := by unfold isStart; rw [hst]; rfl
  unfold Dev.effect
  simp only [hgov, hstart, Bool.false_and, Bool.false_eq_true, if_false, if_true]
  rw [if_pos (by simp [bne_iff_ne.mpr hnew])]
  simp only [hst]
  rfl

/-! prog.stage.chunk. -/

/-- The write of a chunk. -/
def chunkItem (bs : List Byte) : WItem := { k := K.progStageChunk, v := .raw bs }

theorem find_progStageChunk : Dict.find (keyObj K.progStageChunk) (keyEl K.progStageChunk)
    = some ⟨0x0701, 1, 0x02, 1, "prog.stage.chunk", .blob, .wo, .now, 1, 4096, [], 0⟩ := by decide +kernel

theorem norm_chunkItem (bs : List Byte) : WItem.norm (chunkItem bs) = chunkItem bs := by
  unfold WItem.norm chunkItem
  simp only [find_progStageChunk]
  rfl

theorem applyItems_progStageChunk (ep : Nat) (d : Dev) (src : Source) (bs : List Byte) :
    Dev.applyItems ep d src [WItem.norm (chunkItem bs)] = Dev.stageChunk (Dev.noted d) bs := by
  have hobj : keyObj K.progStageChunk = 0x0700 ∨ keyObj K.progStageChunk = 0x0701 := by decide
  have hgov : governed K.progStageChunk = false := by decide
  have hstart : isStart K.progStageChunk = false := by decide
  rw [norm_chunkItem, applyItems_program (x := chunkItem bs) find_progStageChunk rfl rfl hobj,
    putItem_wo (x := chunkItem bs) find_progStageChunk rfl, effect_program (x := chunkItem bs) _ hgov hstart hobj]
  rfl

/-- The bytes of a chunk, placed from o + n on. -/
def placeBytes (o n : Nat) (bs : List Byte) (m : SMap Byte) : SMap Byte := (bs.zipIdx n).foldl (fun m x => SMap.set m (o + x.2) x.1 0) m

theorem placeBytes_cons (o n : Nat) (b : Byte) (bs : List Byte) (m : SMap Byte) :
    placeBytes o n (b :: bs) m = placeBytes o (n + 1) bs (SMap.set m (o + n) b 0) := rfl

theorem get_placeBytes_below {o n i : Nat} (bs : List Byte) (m : SMap Byte) (hi : i < o + n) :
    SMap.get (placeBytes o n bs m) i 0 = SMap.get m i 0 := by
  induction bs generalizing n m with
  | nil => rfl
  | cons b bs ih => rw [placeBytes_cons, ih _ (by omega), SMap.get_set_ne _ _ _ _ _ _ (by omega)]

theorem get_placeBytes {o n k : Nat} {bs : List Byte} {b : Byte} (m : SMap Byte) (hk : bs[k]? = some b) :
    SMap.get (placeBytes o n bs m) (o + n + k) 0 = b := by
  induction bs generalizing n m k with
  | nil => cases hk
  | cons c bs ih =>
    rw [placeBytes_cons]
    cases k with
    | zero =>
      rw [get_placeBytes_below _ _ (by omega), Nat.add_zero, SMap.get_set_same]
      exact Option.some.inj hk
    | succ k =>
      rw [show o + n + (k + 1) = o + (n + 1) + k by omega]
      exact ih _ hk

theorem bundle_stageChunk (d : Dev) (bs : List Byte) : (Dev.stageChunk d bs).prog.bundle
    = placeBytes (Dev.el d K.progStageOffset) 0 bs (if Dev.el d K.progStageOffset = 0 then [] else d.prog.bundle) := rfl

theorem offset_stageChunk (d : Dev) (bs : List Byte) :
    Dev.el (Dev.stageChunk d bs) K.progStageOffset = Dev.el d K.progStageOffset + bs.length := by
  unfold Dev.stageChunk
  rw [el_setEl_ne _ _ _ _ (by decide), el_setEl_same]

theorem calm_stageChunk (d : Dev) (bs : List Byte) : Dev.calm (Dev.stageChunk d bs) = Dev.calm d := rfl

/-! The elements that hold a number. -/

/-- The write of a number. -/
def numItem (k n : Nat) : WItem := { k := k, v := .num n }

theorem norm_numItem {k n : Nat} {r : DictRow} (hfind : Dict.find (keyObj k) (keyEl k) = some r) (hty : r.ty = .bool ∨ r.ty = .u32)
    (hkept : keptBits k = none) : WItem.norm (numItem k n) = numItem k n := by
  unfold WItem.norm numItem EVal.norm
  simp only [hfind, hkept]
  obtain h | h := hty <;> simp only [h]

/-- A 1 written to a write-only boolean. -/
theorem applyItems_wo {ep : Nat} {d : Dev} {src : Source} {k : Nat} {r : DictRow} (hfind : Dict.find (keyObj k) (keyEl k) = some r)
    (hty : r.ty = .bool ∨ r.ty = .u32) (hcom : r.com = .now) (hacc : r.acc = .wo) (hobj : keyObj k = 0x0700 ∨ keyObj k = 0x0701)
    (hstart : isStart k = false) (hgov : governed k = false) (hkept : keptBits k = none) :
    Dev.applyItems ep d src [WItem.norm (numItem k 1)] = Dev.effectMid ep (Dev.noted d) k 1 [] := by
  rw [norm_numItem hfind hty hkept, applyItems_program (x := numItem k 1) hfind hcom (by rw [hacc]; rfl) hobj,
    putItem_wo (x := numItem k 1) hfind hacc, effect_program (x := numItem k 1) _ hgov hstart hobj]
  rfl

/-- A new number written to the start element of a command. -/
theorem applyItems_start {ep : Nat} {d : Dev} {src : Source} {k n st : Nat} {r : DictRow} (hfind : Dict.find (keyObj k) (keyEl k) = some r)
    (hty : r.ty = .bool ∨ r.ty = .u32) (hcom : r.com = .now) (hacc : r.acc = .rw) (hobj : keyObj k = 0x0700 ∨ keyObj k = 0x0701)
    (hst : cmdStatus k = some st) (hgov : governed k = false) (hkept : keptBits k = none) (hnew : Dev.el d k ≠ n) :
    Dev.applyItems ep d src [WItem.norm (numItem k n)] = Dev.runStart ep (Dev.claimed (Dev.noted (Dev.setEl d k n)) src k) src k n := by
  have hheld : heldWrite r k = false := by
    have herr : k ≠ K.errFatal := by rintro rfl; revert hobj; decide
    have hperf : ¬ (0x0C40 ≤ keyObj k ∧ keyObj k < 0x0C80) := by omega
    simp [heldWrite, hacc, herr, hperf]
  have hput : Dev.putItem d (numItem k n) = Dev.setEl d k n := by
    unfold Dev.putItem numItem
    simp only [hfind, hheld]
    rfl
  rw [norm_numItem hfind hty hkept, applyItems_program (x := numItem k n) hfind hcom (by rw [hacc]; rfl) hobj, hput]
  exact effect_start (x := numItem k n) hgov hst hnew

theorem applyItems_progLoadDiscard (ep : Nat) (d : Dev) (src : Source) :
    Dev.applyItems ep d src [WItem.norm (numItem K.progLoadDiscard 1)] = Dev.loadDiscard (Dev.noted d) := by
  have hfind : Dict.find (keyObj K.progLoadDiscard) (keyEl K.progLoadDiscard)
      = some ⟨0x0701, 1, 0x09, 1, "prog.load.discard", .bool, .wo, .now, 0, 1, [], 0⟩ := by decide +kernel
  rw [applyItems_wo hfind (.inl rfl) rfl rfl (by decide) (by decide) (by decide) (by decide)]
  rfl

theorem applyItems_epochStageAbort (ep : Nat) (d : Dev) (src : Source) :
    Dev.applyItems ep d src [WItem.norm (numItem K.epochStageAbort 1)] = Dev.hostAbort ep (Dev.noted d) := by
  have hfind : Dict.find (keyObj K.epochStageAbort) (keyEl K.epochStageAbort)
      = some ⟨0x0700, 1, 0x09, 1, "epoch.stage.abort", .bool, .wo, .now, 0, 1, [], 0⟩ := by decide +kernel
  rw [applyItems_wo hfind (.inl rfl) rfl rfl (by decide) (by decide) (by decide) (by decide)]
  rfl

theorem applyItems_epochStageReset {ep : Nat} {d : Dev} {src : Source} (hst : Dev.el d K.epochStageState = 2) :
    Dev.applyItems ep d src [WItem.norm (numItem K.epochStageReset 1)]
      = Dev.setEl (Dev.setEl (Dev.noted d) K.epochStageState 0) K.epochStageEntries 0 := by
  have hfind : Dict.find (keyObj K.epochStageReset) (keyEl K.epochStageReset)
      = some ⟨0x0700, 1, 0x0A, 1, "epoch.stage.reset", .bool, .wo, .now, 0, 1, [], 0⟩ := by decide +kernel
  rw [applyItems_wo hfind (.inl rfl) rfl rfl (by decide) (by decide) (by decide) (by decide)]
  exact if_pos ⟨rfl, hst⟩

theorem applyItems_progLoadSeq {ep : Nat} {d : Dev} {src : Source} {n : Nat} (hnew : Dev.el d K.progLoadSeq ≠ n) :
    Dev.applyItems ep d src [WItem.norm (numItem K.progLoadSeq n)]
      = Dev.loadStart ep (Dev.claimed (Dev.noted (Dev.setEl d K.progLoadSeq n)) src K.progLoadSeq) := by
  have hfind : Dict.find (keyObj K.progLoadSeq) (keyEl K.progLoadSeq)
      = some ⟨0x0701, 1, 0x04, 1, "prog.load.seq", .u32, .rw, .now, 0, 4294967295, [], 0⟩ := by decide +kernel
  exact applyItems_start hfind (.inr rfl) rfl rfl (by decide) (st := K.progLoadStatus) (by decide) (by decide) (by decide) hnew

theorem applyItems_epochFlipSeq {ep : Nat} {d : Dev} {src : Source} {n : Nat} (hnew : Dev.el d K.epochFlipSeq ≠ n) :
    Dev.applyItems ep d src [WItem.norm (numItem K.epochFlipSeq n)]
      = Dev.flipStart (Dev.claimed (Dev.noted (Dev.setEl d K.epochFlipSeq n)) src K.epochFlipSeq) := by
  have hfind : Dict.find (keyObj K.epochFlipSeq) (keyEl K.epochFlipSeq)
      = some ⟨0x0700, 1, 0x03, 1, "epoch.flip.seq", .u32, .rw, .now, 0, 4294967295, [], 0⟩ := by decide +kernel
  exact applyItems_start hfind (.inr rfl) rfl rfl (by decide) (st := K.epochFlipStatus) (by decide) (by decide) (by decide) hnew

/-! What the commands do. -/

theorem calm_loadDiscard (d : Dev) : Dev.calm (Dev.loadDiscard d) = Dev.calm d := by
  refine List.foldlRecOn (motive := fun x : Dev => Dev.calm x = Dev.calm d) _ _ rfl fun x hx n _ => ?_
  split
  · exact hx
  · exact hx

theorem calm_flipEnd (d : Dev) (st : Nat) : Dev.calm (Dev.flipEnd d st) = Dev.calm d := by
  unfold Dev.flipEnd
  rw [OffCounters.calm.aside.event OffCounters.calm.free]
  rfl

theorem calm_flipStart (d : Dev) : Dev.calm (Dev.flipStart d) = Dev.calm d := by
  unfold Dev.flipStart
  split_ifs
  · exact calm_flipEnd ..
  · exact calm_flipEnd ..
  · rfl

theorem calm_loadEnd (d : Dev) (st : Nat) : Dev.calm (Dev.loadEnd d st) = Dev.calm d := by
  unfold Dev.loadEnd
  rw [OffCounters.calm.aside.event OffCounters.calm.free]
  rfl

theorem loadStart_of_fails {ep : Nat} {d : Dev} {f : Nat × Nat} (h : (checkBundle (Dev.bundle d) (Dev.activeImg ep d)).1 = some f) :
    Dev.loadStart ep d = Dev.loadEnd (Dev.setEl (Dev.setEl d K.progLoadFailSection f.1) K.progLoadFailOffset f.2) 2 := by
  unfold Dev.loadStart
  simp only [h]

theorem loadStart_of_passes {ep : Nat} {d : Dev} (h : (checkBundle (Dev.bundle d) (Dev.activeImg ep d)).1 = none) :
    Dev.loadStart ep d = Dev.setEl (Dev.setProg d { d.prog with
      load := some { images := (checkBundle (Dev.bundle d) (Dev.activeImg ep d)).2, writing := false } }) K.progLoadStatus 1 := by
  unfold Dev.loadStart
  simp only [h]

theorem calm_abort (d : Dev) (c u t r : Nat) : Dev.calm (Dev.abort d c u t r) = Dev.calm d := by
  unfold Dev.abort
  split <;> rfl

/-- Where the part stands when an accepted number starts its command. -/
def Dev.started (d : Dev) (src : Source) (k n : Nat) : Dev := Dev.claimed (Dev.noted (Dev.setEl d k n)) src k

theorem el_started_same (d : Dev) (src : Source) (k n : Nat) : Dev.el (Dev.started d src k n) k = n := el_setEl_same d k n
theorem el_started_ne {k j : Nat} (d : Dev) (src : Source) (n : Nat) (h : j ≠ k) : Dev.el (Dev.started d src k n) j = Dev.el d j :=
  el_setEl_ne d k j n h

/-- A command of these, where what it applies leaves the calm part alone. -/
theorem does_calmWrite {c : Instr} {s : State} {src : Source} {k : Nat} {v : EVal} {P : Dev → Prop} {e : Dev} (hg : s.grants c)
    (hw : Instr.writes c = some (src, [{ k := k, v := v }])) (hc : exec c s = liftW (fun ep d => Dev.write ep d src k v) s)
    (he : Dev.applyItems s.epoch (Dev.fresh s.dev) src [WItem.norm { k := k, v := v }] = e) (hcalm : Dev.calm e = Dev.calm (Dev.fresh s.dev))
    (hP : e.pkts = s.dev.pkts ∧ e.queues = s.dev.queues ∧ e.pipes = s.dev.pipes ∧ e.ports = s.dev.ports ∧ e.buf = s.dev.buf
      ∧ e.tbl = s.dev.tbl → P (Dev.reply e src AS.ok [])) : Does c s P := by
  subst he
  simp only [Dev.calm, Prod.mk.injEq] at hcalm
  obtain ⟨hpkts, hqueues, hpipes, hports, hbuf, htbl, hrst⟩ := hcalm
  refine (does_grantedWrite_iff hg hw hc (by rw [hrst]; rfl)).mpr (hP ⟨hpkts, hqueues, hpipes, hports, hbuf, htbl⟩)


theorem el_fresh (d : Dev) (k : Nat) : Dev.el (Dev.fresh d) k = Dev.el d k := rfl
theorem el_noted (d : Dev) (k : Nat) : Dev.el (Dev.noted d) k = Dev.el d k := rfl
theorem el_reply (d : Dev) (src : Source) (st k : Nat) (v : List Byte) : Dev.el (Dev.reply d src st v) k = Dev.el d k := rfl

theorem bundle_started {d : Dev} {src : Source} {k n : Nat} (hk : K.progStageLength ≠ k) :
    Dev.bundle (Dev.started d src k n) = Dev.bundle d := by
  unfold Dev.bundle
  rw [el_started_ne _ _ _ hk]
  rfl

/-- What a load that fails its check leaves. -/
theorem loadStart_fails {ep : Nat} {d : Dev} {f : Nat × Nat} (h : (checkBundle (Dev.bundle d) (Dev.activeImg ep d)).1 = some f) :
    Dev.el (Dev.loadStart ep d) K.progLoadStatus = 2 ∧ Dev.el (Dev.loadStart ep d) K.progLoadDoneSeq = Dev.el d K.progLoadSeq
      ∧ Dev.el (Dev.loadStart ep d) K.progLoadFailSection = f.1 ∧ Dev.el (Dev.loadStart ep d) K.progLoadFailOffset = f.2
      ∧ (Dev.loadStart ep d).prog = d.prog ∧ Dev.calm (Dev.loadStart ep d) = Dev.calm d := by
  rw [loadStart_of_fails h]
  refine ⟨loadEnd_status .., ?_, ?_, ?_, loadEnd_prog .., calm_loadEnd ..⟩
  · rw [loadEnd_doneSeq, el_setEl_ne _ _ _ _ (by decide), el_setEl_ne _ _ _ _ (by decide)]
  · rw [loadEnd_el _ _ (by decide) (by decide) (by decide), el_setEl_ne _ _ _ _ (by decide), el_setEl_same]
  · rw [loadEnd_el _ _ (by decide) (by decide) (by decide), el_setEl_same]

/-- Whether no flip may start on account of the idle banks (R151, R158). -/
theorem allIdle_flip_iff (d : Dev) : (!Dev.allIdle d (fun s => s != 5 && s != 3) || !d.prog.recopy.isEmpty) = true
    ↔ d.prog.recopy ≠ [] ∨ ∃ n : Fin 16, Dev.el d (K.bankIdleState n) = 5 ∨ Dev.el d (K.bankIdleState n) = 3 := by
  have hidle : Dev.allIdle d (fun s => s != 5 && s != 3) = true
      ↔ ∀ n : Fin 16, ¬ (Dev.el d (K.bankIdleState n) = 5 ∨ Dev.el d (K.bankIdleState n) = 3) := by
    unfold Dev.allIdle
    simp only [List.all_eq_true, List.mem_range, Bool.and_eq_true, bne_iff_ne, not_or]
    exact ⟨fun h n => h n n.isLt, fun h n hn => h ⟨n, hn⟩⟩
  rw [Bool.or_eq_true, Bool.not_eq_true', Bool.not_eq_true', ← Bool.not_eq_true, ← Bool.not_eq_true, hidle, List.isEmpty_iff, or_comm]
  simp only [not_forall, not_not, ne_eq]

theorem flipEnd_status (d : Dev) (st : Nat) : Dev.el (Dev.flipEnd d st) K.epochFlipStatus = st := by
  unfold Dev.flipEnd
  rw [(Aside.el K.epochFlipStatus (by decide)).event (fun _ => rfl), el_setEl_ne _ _ _ _ (by decide), el_setEl_same]

theorem flipEnd_doneSeq (d : Dev) (st : Nat) : Dev.el (Dev.flipEnd d st) K.epochFlipDoneSeq = Dev.el d K.epochFlipSeq := by
  unfold Dev.flipEnd
  rw [(Aside.el K.epochFlipDoneSeq (by decide)).event (fun _ => rfl), el_setEl_same]
  rfl

theorem flipEnd_flip (d : Dev) (st : Nat) : (Dev.flipEnd d st).prog.flip = 0 := by
  unfold Dev.flipEnd
  rw [OffCounters.prog.aside.event fun _ => rfl]
  rfl

/-- Step 1 of a flip, by its three outcomes. -/
theorem flipStart_outcome (d : Dev) :
    if d.prog.recopy ≠ [] ∨ ∃ n : Fin 16, Dev.el d (K.bankIdleState n) = 5 ∨ Dev.el d (K.bankIdleState n) = 3 then
      Dev.el (Dev.flipStart d) K.epochFlipStatus = 4 ∧ (Dev.flipStart d).prog.flip = 0
        ∧ Dev.el (Dev.flipStart d) K.epochFlipDoneSeq = Dev.el d K.epochFlipSeq
    else if Dev.el d K.epochStageState ≠ 0 then
      Dev.el (Dev.flipStart d) K.epochFlipStatus = 2 ∧ (Dev.flipStart d).prog.flip = 0
        ∧ Dev.el (Dev.flipStart d) K.epochFlipDoneSeq = Dev.el d K.epochFlipSeq
    else Dev.el (Dev.flipStart d) K.epochFlipStatus = 1 ∧ (Dev.flipStart d).prog.flip = 1 := by
  unfold Dev.flipStart
  simp only [allIdle_flip_iff]
  split_ifs
  · exact ⟨flipEnd_status .., flipEnd_flip .., flipEnd_doneSeq ..⟩
  · exact ⟨flipEnd_status .., flipEnd_flip .., flipEnd_doneSeq ..⟩
  · exact ⟨el_setEl_same .., rfl⟩

/-- A loaded idle bank is to be copied afresh (R146). -/
def Dev.discardBank (d : Dev) (n : Nat) : Dev := if Dev.el d (K.bankIdleState n) = 1 then Dev.setEl d (K.bankIdleState n) 4 else d

theorem idleState_discardBank_same (d : Dev) (n : Nat) : Dev.el (Dev.discardBank d n) (K.bankIdleState n)
    = if Dev.el d (K.bankIdleState n) = 1 then 4 else Dev.el d (K.bankIdleState n) := by
  unfold Dev.discardBank
  split
  · exact el_setEl_same ..
  · rfl

theorem idleState_discardBank_ne {n m : Nat} (d : Dev) (h : m ≠ n) :
    Dev.el (Dev.discardBank d n) (K.bankIdleState m) = Dev.el d (K.bankIdleState m) := by
  unfold Dev.discardBank
  split
  · exact el_setEl_ne _ _ _ _ (bankIdleState_inj.not.mpr h)
  · rfl

theorem idleState_discardBanks (d : Dev) (ns : List Nat) (m : Nat) : Dev.el (ns.foldl Dev.discardBank d) (K.bankIdleState m)
    = if m ∈ ns ∧ Dev.el d (K.bankIdleState m) = 1 then 4 else Dev.el d (K.bankIdleState m) := by
  induction ns generalizing d with
  | nil => rw [if_neg (fun h => List.not_mem_nil h.1)]; rfl
  | cons n ns ih =>
    rw [List.foldl_cons, ih]
    by_cases hm : m = n
    · subst hm
      rw [idleState_discardBank_same]
      split_ifs <;> simp_all
    · rw [idleState_discardBank_ne d hm]
      simp only [List.mem_cons, hm, false_or]

theorem idleState_loadDiscard (d : Dev) (n : Fin 16) : Dev.el (Dev.loadDiscard d) (K.bankIdleState n)
    = if Dev.el d (K.bankIdleState n) = 1 then 4 else Dev.el d (K.bankIdleState n) := by
  refine (idleState_discardBanks d (List.range 16) n).trans ?_
  simp [List.mem_range]

/-- What no command of the loader and the epoch controller touches. -/
def CalmSince (d x : Dev) : Prop :=
  x.pkts = d.pkts ∧ x.queues = d.queues ∧ x.pipes = d.pipes ∧ x.ports = d.ports ∧ x.buf = d.buf ∧ x.tbl = d.tbl

section
variable {src : Source} {s : State}

theorem does_progStageChunk {bytes : List Byte} (hg : s.grants (.progStageChunk src bytes)) :
    Does (.progStageChunk src bytes) s (fun x =>
      Dev.el x K.progStageOffset = Dev.el s.dev K.progStageOffset + bytes.length
        ∧ (∀ k b, bytes[k]? = some b → SMap.get x.prog.bundle (Dev.el s.dev K.progStageOffset + k) 0 = b) ∧ CalmSince s.dev x) := by
  refine does_calmWrite hg rfl rfl (applyItems_progStageChunk ..) (calm_stageChunk ..) fun hcalm => ⟨offset_stageChunk .., ?_, hcalm⟩
  exact fun k b hb => get_placeBytes (n := 0) _ hb

theorem does_progLoad_fails {seq : Fin 4294967296} {f : Nat × Nat} (hnew : Dev.el s.dev K.progLoadSeq ≠ seq.val)
    (hg : s.grants (.progLoad src seq)) (hf : (checkBundle (Dev.bundle s.dev) (Dev.activeImg s.epoch s.dev)).1 = some f) :
    Does (.progLoad src seq) s (fun x => Dev.el x K.progLoadStatus = 2 ∧ Dev.el x K.progLoadDoneSeq = seq.val
      ∧ Dev.el x K.progLoadFailSection = f.1 ∧ Dev.el x K.progLoadFailOffset = f.2 ∧ x.prog.load = s.dev.prog.load
      ∧ CalmSince s.dev x) := by
  have hbundle : Dev.bundle (Dev.started (Dev.fresh s.dev) src K.progLoadSeq seq) = Dev.bundle s.dev := bundle_started (by decide)
  have hf' : (checkBundle (Dev.bundle (Dev.started (Dev.fresh s.dev) src K.progLoadSeq seq))
      (Dev.activeImg s.epoch (Dev.started (Dev.fresh s.dev) src K.progLoadSeq seq))).1 = some f := by
    rw [hbundle]; exact hf
  obtain ⟨hstatus, hseq, hsection, hoffset, hprog, hleft⟩ := loadStart_fails hf'
  have hload := congrArg ProgS.load hprog
  rw [el_started_same] at hseq
  exact does_calmWrite hg rfl rfl (applyItems_progLoadSeq hnew) hleft fun hcalm => ⟨hstatus, hseq, hsection, hoffset, hload, hcalm⟩

theorem does_progLoad_passes {seq : Fin 4294967296} (hnew : Dev.el s.dev K.progLoadSeq ≠ seq.val)
    (hg : s.grants (.progLoad src seq)) (hpass : (checkBundle (Dev.bundle s.dev) (Dev.activeImg s.epoch s.dev)).1 = none) :
    Does (.progLoad src seq) s (fun x => Dev.el x K.progLoadStatus = 1
      ∧ x.prog.load = some { images := (checkBundle (Dev.bundle s.dev) (Dev.activeImg s.epoch s.dev)).2, writing := false }
      ∧ CalmSince s.dev x) := by
  have hbundle : Dev.bundle (Dev.started (Dev.fresh s.dev) src K.progLoadSeq seq) = Dev.bundle s.dev := bundle_started (by decide)
  have hactive : Dev.activeImg s.epoch (Dev.started (Dev.fresh s.dev) src K.progLoadSeq seq) = Dev.activeImg s.epoch s.dev := rfl
  have hstart := loadStart_of_passes (ep := s.epoch) (d := Dev.started (Dev.fresh s.dev) src K.progLoadSeq seq)
    (by rw [hbundle, hactive]; exact hpass)
  rw [hbundle, hactive] at hstart
  have happly := (applyItems_progLoadSeq (ep := s.epoch) (src := src) (d := Dev.fresh s.dev) hnew).trans hstart
  generalize (checkBundle (Dev.bundle s.dev) (Dev.activeImg s.epoch s.dev)).2 = images at happly ⊢
  exact does_calmWrite hg rfl rfl happly rfl fun hcalm => ⟨el_setEl_same .., rfl, hcalm⟩

theorem does_progLoadDiscard (hg : s.grants (.progLoadDiscard src)) :
    Does (.progLoadDiscard src) s (fun x => (∀ n : Fin 16, Dev.el x (K.bankIdleState n) =
      if Dev.el s.dev (K.bankIdleState n) = 1 then 4 else Dev.el s.dev (K.bankIdleState n)) ∧ CalmSince s.dev x) := by
  have happly := applyItems_progLoadDiscard s.epoch (Dev.fresh s.dev) src
  have hstate := idleState_loadDiscard (Dev.noted (Dev.fresh s.dev))
  have hleft := calm_loadDiscard (Dev.noted (Dev.fresh s.dev))
  generalize Dev.loadDiscard (Dev.noted (Dev.fresh s.dev)) = e at happly hstate hleft
  exact does_calmWrite hg rfl rfl happly hleft fun hcalm => ⟨hstate, hcalm⟩

theorem does_epochFlip {seq : Fin 4294967296} (hnew : Dev.el s.dev K.epochFlipSeq ≠ seq.val) (hg : s.grants (.epochFlip src seq)) :
    Does (.epochFlip src seq) s (fun x => CalmSince s.dev x ∧
      (if s.dev.prog.recopy ≠ [] ∨ ∃ n : Fin 16, Dev.el s.dev (K.bankIdleState n) = 5 ∨ Dev.el s.dev (K.bankIdleState n) = 3 then
         Dev.el x K.epochFlipStatus = 4 ∧ x.prog.flip = 0 ∧ Dev.el x K.epochFlipDoneSeq = seq.val
       else if Dev.el s.dev K.epochStageState ≠ 0 then
         Dev.el x K.epochFlipStatus = 2 ∧ x.prog.flip = 0 ∧ Dev.el x K.epochFlipDoneSeq = seq.val
       else Dev.el x K.epochFlipStatus = 1 ∧ x.prog.flip = 1)) := by
  have houtcome := flipStart_outcome (Dev.started (Dev.fresh s.dev) src K.epochFlipSeq seq)
  have hstate (n : Nat) : Dev.el (Dev.started (Dev.fresh s.dev) src K.epochFlipSeq seq) (K.bankIdleState n) = Dev.el s.dev (K.bankIdleState n) :=
    el_started_ne _ _ _ (by simp only [K.bankIdleState, K.epochFlipSeq, key]; omega)
  have hstage : Dev.el (Dev.started (Dev.fresh s.dev) src K.epochFlipSeq seq) K.epochStageState = Dev.el s.dev K.epochStageState :=
    el_started_ne _ _ _ (by decide)
  have hrecopy : (Dev.started (Dev.fresh s.dev) src K.epochFlipSeq seq).prog.recopy = s.dev.prog.recopy := rfl
  simp only [hstate, hstage, hrecopy, el_started_same] at houtcome
  exact does_calmWrite hg rfl rfl (applyItems_epochFlipSeq hnew) (calm_flipStart _) fun hcalm => ⟨hcalm, houtcome⟩

theorem does_stageAbort (hg : s.grants (.stageAbort src)) (hst : Dev.el s.dev K.epochStageState = 0) (hflip : s.dev.prog.flip = 0) :
    Does (.stageAbort src) s (fun x => Dev.el x K.epochStageState = 1 ∧ x.prog.abort = some (5, 14, 0, 0) ∧ CalmSince s.dev x) := by
  have habort : Dev.hostAbort s.epoch (Dev.noted (Dev.fresh s.dev)) = Dev.setProg (Dev.setEl (Dev.noted (Dev.fresh s.dev)) K.epochStageState 1)
      { s.dev.prog with abort := some (5, 14, 0, 0) } := by
    have h : Dev.abort (Dev.noted (Dev.fresh s.dev)) 5 14 0 0 = _ := if_neg (not_not.mpr hst)
    unfold Dev.hostAbort
    rw [h]
    exact if_pos hflip
  exact does_calmWrite hg rfl rfl ((applyItems_epochStageAbort ..).trans habort) rfl fun hcalm => ⟨el_setEl_same .., rfl, hcalm⟩

theorem does_stageReset (hg : s.grants (.stageReset src)) (hst : Dev.el s.dev K.epochStageState = 2) :
    Does (.stageReset src) s (fun x => Dev.el x K.epochStageState = 0 ∧ Dev.el x K.epochStageEntries = 0 ∧ CalmSince s.dev x) :=
  does_calmWrite hg rfl rfl (applyItems_epochStageReset hst) rfl fun hcalm =>
    ⟨(el_setEl_ne _ _ _ _ (by decide)).trans (el_setEl_same ..), el_setEl_same .., hcalm⟩

end

/-- Settles O34: each command is one granted write, and what the write does is said above. -/
theorem loaderAndEpochRegistersAct : Obligations.LoaderAndEpochRegistersAct := by
  unfold Obligations.LoaderAndEpochRegistersAct
  exact fun src s => ⟨fun _ hg => does_progStageChunk hg,
    fun _ hnew hg => ⟨fun _ hf => does_progLoad_fails hnew hg hf, does_progLoad_passes hnew hg⟩,
    does_progLoadDiscard, fun _ hnew hg => does_epochFlip hnew hg, does_stageAbort, does_stageReset⟩

end Sys2Proof.Machine

/-! What a flush and the check of ages change (R188, R189), and O21. -/
namespace Sys2Proof.Machine

/-! What drops, releases and charges leave alone: the queues, the links, the tables and the loader. -/

/-- The lists of packets and what steers them: the queues, the links, the tables and the loader. -/
def Dev.lined (d : Dev) : SMap EQueue × LaneS × TableS × ProgS := (d.queues, d.lanes, d.tbl, d.prog)

theorem OffRecords.lined : OffRecords Dev.lined where
  dict _ _ := rfl
  tel _ _ := rfl
  err _ _ := rfl
  hp d p h := by simp [Dev.lined]
  out _ _ := rfl
  free _ := rfl
  fw _ _ := rfl

section
variable (d : Dev)

@[simp] theorem lined_setEl (k v : Nat) : (Dev.setEl d k v).lined = d.lined := rfl
@[simp] theorem lined_setBuf (x : BufS) : (Dev.setBuf d x).lined = d.lined := rfl
@[simp] theorem lined_setGran (x : GranS) : (Dev.setGran d x).lined = d.lined := rfl
@[simp] theorem lined_setBale (b : Nat) (x : Bale) : (Dev.setBale d b x).lined = d.lined := rfl
@[simp] theorem lined_setPkt (i : Nat) (x : Pkt) : (Dev.setPkt d i x).lined = d.lined := rfl
@[simp] theorem lined_delPkt (i : Nat) : (Dev.delPkt d i).lined = d.lined := rfl
@[simp] theorem lined_setPort (p : Nat) (x : OutPort) : (Dev.setPort d p x).lined = d.lined := rfl
@[simp] theorem lined_setPipe (n : Nat) (x : Pipe) : (Dev.setPipe d n x).lined = d.lined := rfl
@[simp] theorem lined_count (k n : Nat) : (Dev.count d k n).lined = d.lined := OffRecords.lined.off.count ..
@[simp] theorem lined_countStat (p w n : Nat) : (Dev.countStat d p w n).lined = d.lined :=
  OffRecords.lined.off.aside.countStat ..
@[simp] theorem lined_perf (b c n : Nat) : (Dev.perf d b c n).lined = d.lined := OffRecords.lined.off.perf ..
@[simp] theorem lined_event (c ch : Nat) : (Dev.event d c ch).lined = d.lined :=
  OffRecords.lined.off.aside.event OffRecords.lined.free ..
@[simp] theorem lined_telWrite (r : Nat) : (Dev.telWrite d r).lined = d.lined := OffRecords.lined.off.aside.telWrite ..
@[simp] theorem lined_contained (c co o el u : Nat) : (Dev.contained d c co o el u).lined = d.lined :=
  OffRecords.lined.off.aside.contained ..
@[simp] theorem lined_containedF (c o el u : Nat) : (Dev.containedF d c o el u).lined = d.lined :=
  OffRecords.lined.off.aside.containedF ..
@[simp] theorem lined_fatal (b c o el u : Nat) : (Dev.fatal d b c o el u).lined = d.lined := OffRecords.lined.fatal ..
@[simp] theorem lined_day (r : Nat) : (Dev.day d r).lined = d.lined := OffRecords.lined.off.aside.day ..

end

theorem lined_ite {c : Prop} [Decidable c] {a b d : Dev} (ha : a.lined = d.lined) (hb : b.lined = d.lined) :
    (if c then a else b).lined = d.lined := by
  split <;> assumption

theorem lined_foldl {α : Type} {f : Dev → α → Dev} (hf : ∀ d x, (f d x).lined = d.lined) (l : List α) (d : Dev) :
    (l.foldl f d).lined = d.lined := foldl_keeps Dev.lined f hf l d

/-! Cells, flow control and charges. -/

@[simp] theorem lined_audit (d : Dev) : (Dev.audit d).lined = d.lined := lined_ite rfl rfl

@[simp] theorem lined_doubleFree (d : Dev) (c : Nat) : (Dev.doubleFree d c).lined = d.lined := by
  unfold Dev.doubleFree
  rw [lined_audit]
  refine lined_ite (by simp) ?_
  rw [lined_fatal, OffRecords.lined.err]
  simp

@[simp] theorem lined_freeCell (d : Dev) (c : Nat) : (Dev.freeCell d c).lined = d.lined := lined_ite (by simp) (by simp)

@[simp] theorem lined_queuePfc (d : Dev) (p prio t : Nat) : (Dev.queuePfc d p prio t).lined = d.lined := by
  unfold Dev.queuePfc
  exact lined_ite (by simp) rfl

@[simp] theorem lined_sendXoff (d : Dev) (b p k : Nat) : (Dev.sendXoff d b p k).lined = d.lined :=
  lined_ite (by simp [Dev.setXoff]) rfl

@[simp] theorem lined_sendXon (d : Dev) (b p k : Nat) : (Dev.sendXon d b p k).lined = d.lined :=
  lined_ite (lined_ite rfl (by simp [Dev.setXoff])) rfl

@[simp] theorem lined_setPoolXoff (d : Dev) (s : Bool) (k : Nat) (v : Bool) : (Dev.setPoolXoff d s k v).lined = d.lined := rfl

@[simp] theorem lined_xoffTest (d : Dev) (k : Nat) : (Dev.xoffTest d k).lined = d.lined :=
  lined_ite (lined_ite (lined_foldl (fun d p => lined_sendXoff d 0 p k) _ _) rfl)
    (lined_ite (lined_foldl (fun d p => lined_sendXon d 0 p k) _ _) rfl)

@[simp] theorem lined_warnTest (d : Dev) (k : Nat) (rose : Bool) : (Dev.warnTest d k rose).lined = d.lined :=
  lined_ite (lined_ite (by simp [Dev.addEl]) rfl) (lined_ite rfl rfl)

@[simp] theorem lined_addHeld (d : Dev) (p svc : Nat) (x : Int) : (Dev.addHeld d p svc x).lined = d.lined := rfl

@[simp] theorem lined_charge (d : Dev) (pool svc p c : Nat) : (Dev.charge d pool svc p c).lined = d.lined := by
  have hsend {e : Dev} (he : e.lined = d.lined) : (if Dev.inXoff e svc then Dev.sendXoff e 0 p svc else e).lined = d.lined :=
    lined_ite (by simp [he]) he
  unfold Dev.charge
  refine lined_ite (hsend ?_) (lined_ite (hsend ?_) rfl)
  · simp only [lined_warnTest, lined_xoffTest, lined_addHeld]
    exact lined_ite rfl rfl
  · rw [lined_addHeld]
    exact lined_ite rfl rfl

@[simp] theorem lined_uncharge (d : Dev) (pool svc p c : Nat) : (Dev.uncharge d pool svc p c).lined = d.lined :=
  lined_ite (by simp) (lined_ite rfl rfl)

@[simp] theorem lined_freePkt (d : Dev) (i : Nat) : (Dev.freePkt d i).lined = d.lined := by
  unfold Dev.freePkt
  dsimp only
  rw [lined_delPkt, lined_foldl lined_freeCell]
  split
  · exact lined_uncharge ..
  · rfl

@[simp] theorem lined_unref (d : Dev) (i : Nat) : (Dev.unref d i).lined = d.lined :=
  lined_ite ((lined_foldl lined_doubleFree _ _).trans (lined_count ..)) (lined_ite (lined_freePkt d i) rfl)

@[simp] theorem lined_releaseDesc (d : Dev) (x : Desc) : (Dev.releaseDesc d x).lined = d.lined := by
  unfold Dev.releaseDesc
  simp

/-! The granary. -/

@[simp] theorem lined_addDescs (d : Dev) (up down : Nat) : (Dev.addDescs d up down).lined = d.lined := rfl

@[simp] theorem lined_baleDoubleFree (d : Dev) (b : Nat) : (Dev.baleDoubleFree d b).lined = d.lined := by
  simp [Dev.baleDoubleFree]

@[simp] theorem lined_spillXoff (d : Dev) : (Dev.spillXoff d).lined = d.lined := by
  unfold Dev.spillXoff
  extract_lets free low
  refine lined_foldl (fun e k => ?_) _ _
  have hon : ((Dev.spillPorts e k).foldl (fun d p => Dev.sendXoff d (2 ^ 16) p k) (Dev.setPoolXoff e true k true)).lined = e.lined :=
    (lined_foldl (fun d p => lined_sendXoff d _ p k) _ _).trans (lined_setPoolXoff ..)
  have hoff : ((Dev.xoffPorts e (2 ^ 16) k).foldl (fun d p => Dev.sendXon d (2 ^ 16) p k) (Dev.setPoolXoff e true k false)).lined
      = e.lined := (lined_foldl (fun d p => lined_sendXon d _ p k) _ _).trans (lined_setPoolXoff ..)
  exact lined_ite (lined_ite hon rfl) (lined_ite hoff rfl)

@[simp] theorem lined_granTotals (d : Dev) : (Dev.granTotals d).lined = d.lined := by
  unfold Dev.granTotals
  dsimp only
  rw [lined_spillXoff, lined_setEl, lined_foldl (fun _ _ => lined_setEl ..)]
  rfl

@[simp] theorem lined_segmentGone (d : Dev) (st seg : Nat) : (Dev.segmentGone d st seg).lined = d.lined := by
  simp [Dev.segmentGone, Dev.addEl]

@[simp] theorem lined_segmentBorrow (d : Dev) (st seg : Nat) : (Dev.segmentBorrow d st seg).lined = d.lined := by
  unfold Dev.segmentBorrow
  split
  · exact lined_segmentGone ..
  · exact lined_ite rfl rfl

@[simp] theorem lined_payOwed (d : Dev) (st : Nat) : (Dev.payOwed d st).lined = d.lined := by
  unfold Dev.payOwed
  refine lined_ite rfl ?_
  split
  · exact lined_segmentBorrow ..
  · rfl

@[simp] theorem lined_baleCounts (d : Dev) (b : Nat) (taken : Bool) : (Dev.baleCounts d b taken).lined = d.lined := by
  unfold Dev.baleCounts
  exact lined_ite rfl rfl

@[simp] theorem lined_freeBale (d : Dev) (b : Nat) : (Dev.freeBale d b).lined = d.lined := by
  unfold Dev.freeBale
  split
  · exact lined_baleDoubleFree d b
  · simp only [lined_payOwed, lined_spillXoff, lined_baleCounts]
    have hrecs (l : List Desc) : (l.foldl (fun d r => Dev.delPkt d r.pkt) d).lined = d.lined :=
      lined_foldl (f := fun d r => Dev.delPkt d r.pkt) (fun _ _ => rfl) l d
    have hkept (x : Bale) :
        (if x.written then x.recs.foldl (fun d r => Dev.delPkt d r.pkt) d else Dev.addBacklog d false).lined = d.lined :=
      lined_ite (hrecs _) rfl
    exact lined_ite (hkept _) (hkept _)

@[simp] theorem lined_unrefBale (d : Dev) (b : Nat) : (Dev.unrefBale d b).lined = d.lined := lined_ite (lined_freeBale d b) rfl

@[simp] theorem lined_endRead (d : Dev) (n b : Nat) : (Dev.endRead d n b).lined = d.lined := by
  unfold Dev.endRead
  split <;> rfl

@[simp] theorem lined_noteReturns (d : Dev) (n : Nat) : (Dev.noteReturns d n).lined = d.lined := by
  unfold Dev.noteReturns
  split <;> rfl

@[simp] theorem lined_mapFlying (d : Dev) (n : Nat) (f : Desc → Desc) : (Dev.mapFlying d n f).lined = d.lined := lined_ite rfl rfl

/-! Drops and their postcards. -/

@[simp] theorem lined_dropAtQueue (d : Dev) (code n : Nat) : (Dev.dropAtQueue d code n).lined = d.lined := by
  unfold Dev.dropAtQueue Dev.countDrop
  extract_lets d₁ pool d₂ d₃
  have h₁ : d₁.lined = d.lined := by simp [d₁]
  have h₂ : d₂.lined = d.lined := by
    unfold d₂
    split_ifs <;> simp [h₁]
  have h₃ : d₃.lined = d.lined := by
    unfold d₃
    split_ifs <;> simp [h₂]
  exact lined_ite (by simp [h₃]) h₂

@[simp] theorem lined_sample (d : Dev) (n k : Nat) : (Dev.sample d n k).1.lined = d.lined := by
  unfold Dev.sample
  split <;> rfl

theorem lined_admitCard {d e : Dev} {n : Nat} {drop : Bool} (h : Dev.admitCard d n drop = some e) : e.lined = d.lined := by
  unfold Dev.admitCard at h
  split at h
  · cases h
  · split at h
    · split at h <;> cases h
      rfl
    · cases h
      rfl

@[simp] theorem lined_requestCard (d : Dev) (n : Nat) (drop : Bool) (rec : Nat) (q : Option Nat) :
    (Dev.requestCard d n drop rec q).lined = d.lined := by
  unfold Dev.requestCard
  dsimp only
  split
  case h_1 e he =>
    have hlined : e.lined = d.lined := (lined_admitCard he).trans (lined_perf ..)
    split
    · exact lined_ite (by simp [hlined]) (by simp [hlined])
    · simp [hlined]
  case h_2 => simp

@[simp] theorem lined_dropOut (d : Dev) (code n : Nat) (x : Desc) (p : Pkt) (egress : Bool) (s : Sheaf) (fs : SMap Nat) :
    (Dev.dropOut d code n x p egress s fs).lined = d.lined := by
  unfold Dev.dropOut Dev.dropCard Dev.dropCardAt
  extract_lets d₁ sm
  have hsm : sm.1.lined = d.lined := by
    unfold sm
    split
    · simp [d₁]
    · simp [d₁]
  exact lined_ite (by simp [hsm]) hsm

@[simp] theorem lined_dropRecs (d : Dev) (code n : Nat) (x : Bale) : (Dev.dropRecs d code n x).lined = d.lined :=
  lined_foldl (fun _ _ => lined_dropOut ..) _ _

/-! What leaves a queue changes no other queue. -/

/-- What a queue is beside its place in contention: held, flushing, its list and its depth. -/
def EQueue.stock (q : EQueue) : Bool × Bool × List QItem × Nat := (q.held, q.flushing, q.items, q.depth)

/-- From d to e contention alone has changed: the queues' tags, and what counts them. -/
structure Contended (d e : Dev) : Prop where
  stock : ∀ m, (Dev.queue e m).stock = (Dev.queue d m).stock
  lanes : e.lanes = d.lanes
  tables : SameTables d e

/-- From d to e packets have left queue n: every queue is held and flushes as it was and lists nothing where it listed nothing, the others
keep their depths, and the links and tables stay. -/
structure Sheds (n : Nat) (d e : Dev) : Prop where
  held : ∀ m, (Dev.queue e m).held = (Dev.queue d m).held
  flushing : ∀ m, (Dev.queue e m).flushing = (Dev.queue d m).flushing
  empty : ∀ m, (Dev.queue d m).items = [] → (Dev.queue e m).items = []
  depth : ∀ m, m ≠ n → (Dev.queue e m).depth = (Dev.queue d m).depth
  lanes : e.lanes = d.lanes
  tables : SameTables d e

namespace Contended
variable {d e f : Dev}

theorem refl (d : Dev) : Contended d d := ⟨fun _ => rfl, rfl, rfl, rfl⟩

theorem trans (h : Contended d e) (g : Contended e f) : Contended d f :=
  ⟨fun m => (g.stock m).trans (h.stock m), g.lanes.trans h.lanes, h.tables.trans g.tables⟩

theorem ite {c : Prop} [Decidable c] {a b : Dev} (ha : Contended d a) (hb : Contended d b) : Contended d (if c then a else b) := by
  split <;> assumption

theorem of_lined (h : e.lined = d.lined) : Contended d e := by
  simp only [Dev.lined, Prod.mk.injEq] at h
  obtain ⟨hqueues, hlanes, htbl, hprog⟩ := h
  exact ⟨fun m => by rw [Dev.queue, hqueues, Dev.queue], hlanes, htbl, hprog⟩

theorem lined (h : Contended d e) (g : f.lined = e.lined) : Contended d f := h.trans (of_lined g)

theorem setQueue {n : Nat} {q : EQueue} (hq : q.stock = (Dev.queue e n).stock) (h : Contended d e) : Contended d (Dev.setQueue e n q) where
  stock m := by
    rw [← h.stock m]
    by_cases hm : m = n
    · rw [hm, queue_setQueue_same, hq]
    · rw [queue_setQueue_ne _ _ _ _ hm]
  lanes := h.lanes
  tables := h.tables

theorem foldl {α : Type} {f : Dev → α → Dev} (hf : ∀ e x, Contended d e → Contended d (f e x)) (l : List α) (h : Contended d e) :
    Contended d (l.foldl f e) := List.foldlRecOn _ _ h fun _ hx y _ => hf _ y hx

theorem foldl_setQueue {g : EQueue → EQueue} (hg : ∀ q, (g q).stock = q.stock) (ns : List Nat) (h : Contended d e) :
    Contended d (ns.foldl (fun d n => Dev.setQueue d n (g (Dev.queue d n))) e) := h.foldl (fun _ _ hx => hx.setQueue (hg _)) ns

theorem tierUpdate (p t : Nat) (h : Contended d e) : Contended d (Dev.tierUpdate e p t) := by
  unfold Dev.tierUpdate
  extract_lets qs d₁ d₂
  have htier (v : Nat) : Contended d (Dev.setTierV e p t v) := h.lined rfl
  have hempty : Contended d (qs.foldl (fun d n => Dev.setQueue d n { Dev.queue d n with tagF := 0 }) (Dev.setTierV e p t 0)) :=
    (htier 0).foldl_setQueue (g := fun q => { q with tagF := 0 }) (fun _ => rfl) qs
  have h₂ : Contended d d₂ := (htier _).foldl_setQueue
    (g := fun q => { q with tagF := q.tagF - 2 ^ 46, tagH := q.tagH.map (fun h => h - 2 ^ 46) })
    (fun _ => by simp only [EQueue.stock]) qs
  exact ite hempty (ite (h₂.lined (lined_count ..)) h)

theorem leave (n : Nat) (h : Contended d e) : Contended d (Dev.leave e n) := by
  unfold Dev.leave
  dsimp only
  split
  · exact (h.setQueue (by exact rfl)).tierUpdate _ _
  · exact h

theorem recontend (n : Nat) (h : Contended d e) : Contended d (Dev.recontend e n) := by
  unfold Dev.recontend
  dsimp only
  split
  · exact (h.setQueue (by exact rfl)).tierUpdate _ _
  · exact h.leave n
  · exact h

theorem recontendPort (p : Nat) (h : Contended d e) : Contended d (Dev.recontendPort e p) := h.foldl (fun _ _ hx => hx.recontend _) _

end Contended

namespace Sheds
variable {n : Nat} {d e f : Dev}

theorem of_contended (h : Contended d e) : Sheds n d e := by
  have hstock := h.stock
  simp only [EQueue.stock, Prod.mk.injEq] at hstock
  exact ⟨fun m => (hstock m).1, fun m => (hstock m).2.1, fun m hm => (hstock m).2.2.1.trans hm, fun m _ => (hstock m).2.2.2, h.lanes, h.tables⟩

theorem refl (n : Nat) (d : Dev) : Sheds n d d := of_contended (.refl d)

theorem trans (h : Sheds n d e) (g : Sheds n e f) : Sheds n d f where
  held m := (g.held m).trans (h.held m)
  flushing m := (g.flushing m).trans (h.flushing m)
  empty m hm := g.empty m (h.empty m hm)
  depth m hm := (g.depth m hm).trans (h.depth m hm)
  lanes := g.lanes.trans h.lanes
  tables := h.tables.trans g.tables

theorem ite {c : Prop} [Decidable c] {a b : Dev} (ha : Sheds n d a) (hb : Sheds n d b) : Sheds n d (if c then a else b) := by
  split <;> assumption

theorem lined (h : Sheds n d e) (g : f.lined = e.lined) : Sheds n d f := h.trans (of_contended (.of_lined g))
theorem recontend (m : Nat) (h : Sheds n d e) : Sheds n d (Dev.recontend e m) := h.trans (of_contended ((Contended.refl e).recontend m))
theorem leave (m : Nat) (h : Sheds n d e) : Sheds n d (Dev.leave e m) := h.trans (of_contended ((Contended.refl e).leave m))

theorem foldl {α : Type} {f : Dev → α → Dev} (hf : ∀ e x, Sheds n d e → Sheds n d (f e x)) (l : List α) (h : Sheds n d e) :
    Sheds n d (l.foldl f e) := List.foldlRecOn _ _ h fun _ hx y _ => hf _ y hx

theorem setQueue {q : EQueue} (hheld : q.held = (Dev.queue e n).held) (hflush : q.flushing = (Dev.queue e n).flushing)
    (hempty : (Dev.queue e n).items = [] → q.items = []) (h : Sheds n d e) : Sheds n d (Dev.setQueue e n q) := by
  refine h.trans ⟨fun m => ?_, fun m => ?_, fun m hm => ?_, fun m hm => ?_, rfl, rfl, rfl⟩
  · by_cases hmn : m = n
    · rw [hmn, queue_setQueue_same, hheld]
    · rw [queue_setQueue_ne _ _ _ _ hmn]
  · by_cases hmn : m = n
    · rw [hmn, queue_setQueue_same, hflush]
    · rw [queue_setQueue_ne _ _ _ _ hmn]
  · by_cases hmn : m = n
    · rw [hmn, queue_setQueue_same]
      exact hempty (hmn ▸ hm)
    · rw [queue_setQueue_ne _ _ _ _ hmn, hm]
  · rw [queue_setQueue_ne _ _ _ _ hm]

theorem addDepth (c hr : Nat) (h : Sheds n d e) : Sheds n d (Dev.addDepth e n c hr) := by
  unfold Dev.addDepth
  extract_lets q d₁
  have h₁ : Sheds n d d₁ := h.setQueue rfl rfl id
  exact ite (h₁.lined rfl) h₁

theorem subDepth (c hr : Nat) (h : Sheds n d e) : Sheds n d (Dev.subDepth e n c hr) := h.setQueue rfl rfl id

theorem linkRec (seq : Nat) (x : Desc) (h : Sheds n d e) : Sheds n d (Dev.linkRec e n seq x).1 := (h.lined (lined_charge ..)).addDepth _ _

theorem foldl_linkRec (seq : Nat) (xs ys : List Desc) (h : Sheds n d e) :
    Sheds n d (xs.foldl (fun (a : Dev × List Desc) x => let y := Dev.linkRec a.1 n seq x; (y.1, a.2 ++ [y.2])) (e, ys)).1 := by
  induction xs generalizing e ys with
  | nil => exact h
  | cons x t ih => exact ih _ (h.linkRec seq x)

theorem linkBale (b seq : Nat) (recs : List Desc) (more : Bool) (h : Sheds n d e) : Sheds n d (Dev.linkBale e n b seq recs more) := by
  unfold Dev.linkBale
  extract_lets x r d₁ q items items'
  have h₁ : Sheds n d d₁ := (foldl_linkRec seq _ _ h).lined rfl
  refine (h₁.setQueue (q := { q with items := items' }) rfl rfl fun hempty => ?_).recontend n
  have hitems : items = [] := by
    unfold items
    rw [show q.items = [] from hempty]
    exact ite_self _
  exact (congrArg (List.flatMap _) hitems).trans rfl

theorem closeBale (h : Sheds n d e) : Sheds n d (Dev.closeBale e n) := by
  unfold Dev.closeBale
  extract_lets q
  split
  · exact h
  · extract_lets x d₁ d₂
    have h₁ : Sheds n d d₁ := (h.setQueue (q := { q with openBale := none }) rfl rfl id).lined rfl
    have h₂ : Sheds n d d₂ := h₁.linkBale _ _ _ _
    exact ite (h₂.lined ((lined_perf ..).trans (lined_freeBale ..))) h₁

theorem drained (h : Sheds n d e) : Sheds n d (Dev.drained e n) := by
  unfold Dev.drained
  extract_lets q items d₁
  have h₁ : Sheds n d d₁ :=
    (h.setQueue (q := { q with items := items }) rfl rfl fun hempty => List.map_eq_nil_iff.mpr hempty).lined (lined_mapFlying ..)
  exact ite (h₁.lined rfl) h

theorem enterDraining (h : Sheds n d e) : Sheds n d (Dev.enterDraining e n) := (closeBale (h.lined (lined_setEl ..))).drained

theorem windowMoved (h : Sheds n d e) : Sheds n d (Dev.windowMoved e n) :=
  ite (h.lined (lined_noteReturns ..)).enterDraining (h.lined (lined_noteReturns ..)).drained

theorem releaseFrom (x : Desc) (h : Sheds n d e) : Sheds n d (Dev.releaseFrom e n x) := by
  have hreleased := h.lined (lined_releaseDesc e x)
  exact ite hreleased.windowMoved hreleased

theorem dropDesc (code : Nat) (x : Desc) (h : Sheds n d e) : Sheds n d (Dev.dropDesc e code n x) :=
  releaseFrom x (h.lined (lined_dropOut ..))

theorem cutBale (b seq : Nat) (h : Sheds n d e) : Sheds n d (Dev.cutBale e n b seq) := by
  unfold Dev.cutBale
  extract_lets d₁ q items
  have h₁ : Sheds n d d₁ := h.lined (lined_endRead ..)
  have hcut : Sheds n d (Dev.setQueue d₁ n { q with items := items, openBale := if q.openBale = some b then none else q.openBale }) :=
    h₁.setQueue rfl rfl fun hempty => (congrArg (List.filter _) hempty).trans rfl
  exact hcut.lined (lined_addDescs ..)

theorem dropBaleUnread (code b seq : Nat) (h : Sheds n d e) : Sheds n d (Dev.dropBaleUnread e code n b seq) := by
  unfold Dev.dropBaleUnread
  extract_lets x d₁ d₂
  have h₁ : Sheds n d d₁ := h.lined (lined_dropRecs ..)
  have h₂ : Sheds n d d₂ := ite h₁ (h₁.lined (lined_foldl (fun _ _ => lined_unref ..) _ _))
  exact (h₂.cutBale b seq).lined (lined_unrefBale ..)

/-- The descriptors and bales of a queue drop. -/
theorem dropItems (code : Nat) (items : List QItem) (h : Sheds n d e) :
    Sheds n d (items.foldl (fun d x => match x with
      | .pkt y => Dev.dropDesc d code n y
      | .bale b s => Dev.dropBaleUnread d code n b s) e) :=
  h.foldl (fun _ x hx => by
    cases x with
    | pkt y => exact hx.dropDesc code y
    | bale b s => exact hx.dropBaleUnread code b s) items

end Sheds

/-! FLUSH of a port's queues (R188). -/

/-- A queue whose flush runs. -/
def EQueue.flushed (q : EQueue) : Prop := q.items = [] ∧ q.depth = 0 ∧ q.flushing = true

/-- Queue n's packets drop, and its flush runs. -/
def Dev.flushOne (d : Dev) (n : Nat) : Dev :=
  let d := Dev.flushQueue d n
  Dev.setQueue d n { Dev.queue d n with flushing := true }

theorem flushPort_eq (d : Dev) (p : Nat) : Dev.flushPort d p = (portQueues p).foldl Dev.flushOne d := rfl

/-- What a flush keeps of every queue: whether it is held, and its being flushed; and of the rest the links and the tables. -/
structure Flushes (d e : Dev) : Prop where
  held : ∀ m, (Dev.queue e m).held = (Dev.queue d m).held
  flushed : ∀ m, (Dev.queue d m).flushed → (Dev.queue e m).flushed
  lanes : e.lanes = d.lanes
  tables : SameTables d e

theorem Flushes.linkS {d e : Dev} (h : Flushes d e) (p : Nat) : Dev.linkS e p = Dev.linkS d p := by rw [Dev.linkS, h.lanes, Dev.linkS]

theorem flushQueue_spec (d : Dev) (n : Nat) : Sheds n d (Dev.flushQueue d n)
    ∧ (Dev.queue (Dev.flushQueue d n) n).items = [] ∧ (Dev.queue (Dev.flushQueue d n) n).depth = 0 := by
  unfold Dev.flushQueue
  extract_lets d₁ q d₂ d₃
  have h₁ : Sheds n d d₁ := (Sheds.refl n d).dropItems 0x27 (Dev.queue d n).items
  have h₂ : Sheds n d d₂ := h₁.setQueue rfl rfl fun _ => rfl
  have hstate : d₃.lined = d₂.lined := lined_ite rfl rfl
  have hleft : Contended d₂ (Dev.leave d₃ n) := (Contended.of_lined hstate).leave n
  have hstock := hleft.stock n
  rw [queue_setQueue_same] at hstock
  simp only [EQueue.stock, Prod.mk.injEq] at hstock
  obtain ⟨-, -, hitems, hdepth⟩ := hstock
  exact ⟨h₂.trans (.of_contended hleft), hitems, hdepth⟩

theorem flushOne_spec (d : Dev) (n : Nat) : Flushes d (Dev.flushOne d n) ∧ (Dev.queue (Dev.flushOne d n) n).flushed := by
  obtain ⟨hsheds, hitems, hdepth⟩ := flushQueue_spec d n
  have hsame : Dev.queue (Dev.flushOne d n) n = { Dev.queue (Dev.flushQueue d n) n with flushing := true } := queue_setQueue_same ..
  have hother {m : Nat} (hm : m ≠ n) : Dev.queue (Dev.flushOne d n) m = Dev.queue (Dev.flushQueue d n) m := queue_setQueue_ne _ _ _ _ hm
  have hflushed : (Dev.queue (Dev.flushOne d n) n).flushed := by
    rw [hsame]
    exact ⟨hitems, hdepth, rfl⟩
  refine ⟨⟨fun m => ?_, fun m hm => ?_, hsheds.lanes, hsheds.tables⟩, hflushed⟩
  · by_cases hmn : m = n
    · rw [hmn, hsame, ← hsheds.held n]
    · rw [hother hmn, hsheds.held m]
  · by_cases hmn : m = n
    · rw [hmn]; exact hflushed
    · obtain ⟨hi, hd, hf⟩ := hm
      rw [hother hmn]
      exact ⟨hsheds.empty m hi, (hsheds.depth m hmn).trans hd, (hsheds.flushing m).trans hf⟩

theorem flushes_foldl (ns : List Nat) (d : Dev) :
    Flushes d (ns.foldl Dev.flushOne d) ∧ ∀ n ∈ ns, (Dev.queue (ns.foldl Dev.flushOne d) n).flushed := by
  induction ns generalizing d with
  | nil => exact ⟨⟨fun _ => rfl, fun _ h => h, rfl, rfl, rfl⟩, fun n hn => absurd hn List.not_mem_nil⟩
  | cons n ns ih =>
    obtain ⟨hfirst, hflushed⟩ := flushOne_spec d n
    obtain ⟨hrest, hall⟩ := ih (Dev.flushOne d n)
    refine ⟨⟨fun m => (hrest.held m).trans (hfirst.held m), fun m hm => hrest.flushed m (hfirst.flushed m hm),
      hrest.lanes.trans hfirst.lanes, hfirst.tables.trans hrest.tables⟩, fun m hm => ?_⟩
    obtain rfl | hm := List.mem_cons.mp hm
    · exact hrest.flushed m hflushed
    · exact hall m hm

/-! The check of the ages (R189). -/

theorem ageCheck_same {d : Dev} (h : ∀ x ∈ d.queues, (Dev.queue d x.1).held = false ∧ Dev.qPaused d x.1 = false ∧ Dev.launchWaits d x.1 = false
    ∧ (Dev.pipe d (portPipe (qPort x.1))).stopped = false) : Dev.ageCheck d = d := by
  refine List.foldlRecOn (motive := (· = d)) _ _ rfl fun e he n hn => ?_
  obtain ⟨x, hx, rfl⟩ := List.mem_map.mp hn
  obtain ⟨hheld, hpaused, hlaunch, hstopped⟩ := h x hx
  rw [he, hheld, hpaused, hlaunch, hstopped]
  rfl

theorem ageCheck_single {d : Dev} {n : Nat} {q : EQueue} (hqueues : d.queues = [(n, q)]) (hheld : (Dev.queue d n).held = true) :
    Dev.ageCheck d = Dev.recontend (Dev.clean d n) n := by
  unfold Dev.ageCheck
  rw [hqueues, List.map_cons, List.map_nil, List.foldl_cons, List.foldl_nil, hheld]
  rfl

/-- A queue's only packet drops. -/
theorem dropHead_single {d : Dev} {n : Nat} {y : Desc} (code : Nat) (hitems : (Dev.queue d n).items = [.pkt y]) (hhalf : y.half = false) :
    (Dev.queue (Dev.dropHead d code n) n).items = [] ∧ (Dev.queue (Dev.dropHead d code n) n).held = (Dev.queue d n).held
      ∧ SameTables d (Dev.dropHead d code n) := by
  have hhead : EQueue.head (Dev.queue d n) = some y := by
    unfold EQueue.head
    rw [hitems]
    exact if_neg (by rw [hhalf]; exact Bool.false_ne_true)
  have hpop : Dev.popHead d n = Dev.subDepth (Dev.setQueue d n { Dev.queue d n with items := [] }) n y.c (Desc.hrCells y) := by
    unfold Dev.popHead
    simp only [hitems]
  have hpopped : (Dev.queue (Dev.popHead d n) n).items = [] ∧ (Dev.queue (Dev.popHead d n) n).held = (Dev.queue d n).held := by
    rw [hpop, Dev.subDepth, queue_setQueue_same, queue_setQueue_same]
    exact ⟨rfl, rfl⟩
  have hpoppedTables : SameTables d (Dev.popHead d n) := by rw [hpop]; exact ⟨rfl, rfl⟩
  have hdrop : Dev.dropHead d code n = Dev.dropDesc (Dev.popHead d n) code n y := by
    unfold Dev.dropHead
    rw [hhead]
  rw [hdrop]
  have hsheds := (Sheds.refl n (Dev.popHead d n)).dropDesc code y
  exact ⟨hsheds.empty n hpopped.1, (hsheds.held n).trans hpopped.2, hpoppedTables.trans hsheds.tables⟩

theorem cleanHead_of_empty {d : Dev} {n : Nat} (k : Nat) (h : (Dev.queue d n).items = []) : Dev.cleanHead d n k = d := by
  cases k with
  | zero => rfl
  | succ k => rw [Dev.cleanHead, h]

theorem clean_single {d : Dev} {n : Nat} {y : Desc} (hitems : (Dev.queue d n).items = [.pkt y]) (hhalf : y.half = false)
    (hold : y.released = true ∨ Dev.aged d n y.enq = true) : ∃ code, Dev.clean d n = Dev.dropHead d code n := by
  have hempty (code k : Nat) : Dev.cleanHead (Dev.dropHead d code n) n k = Dev.dropHead d code n :=
    cleanHead_of_empty k (dropHead_single code hitems hhalf).1
  unfold Dev.clean
  rw [Dev.cleanHead, hitems]
  dsimp only
  by_cases hrel : y.released = true
  · exact ⟨0x15, by rw [if_pos hrel, hempty]⟩
  · exact ⟨0x26, by rw [if_neg hrel, if_pos (hold.resolve_left hrel), hempty]⟩

theorem ageCheck_drops {d : Dev} {n : Nat} {q : EQueue} {y : Desc} (hqueues : d.queues = [(n, q)]) (hheld : q.held = true)
    (hitems : q.items = [.pkt y]) (hhalf : y.half = false) (hold : y.released = true ∨ Dev.aged d n y.enq = true) :
    (Dev.queue (Dev.ageCheck d) n).items = [] ∧ (Dev.queue (Dev.ageCheck d) n).held = true ∧ SameTables d (Dev.ageCheck d) := by
  have hq : Dev.queue d n = q := by
    unfold Dev.queue
    rw [hqueues]
    exact if_pos rfl
  rw [← hq] at hheld hitems
  obtain ⟨code, hclean⟩ := clean_single hitems hhalf hold
  obtain ⟨hempty, hkept, htables⟩ := dropHead_single code hitems hhalf
  have hleft : Sheds n (Dev.clean d n) (Dev.ageCheck d) := by
    rw [ageCheck_single hqueues hheld]
    exact (Sheds.refl n _).recontend n
  rw [hclean] at hleft
  exact ⟨hleft.empty n hempty, (hleft.held n).trans (hkept.trans hheld), htables.trans hleft.tables⟩

/-! The end of a flush (R188). -/

/-- A queue whose flush is over; it stays held while its port is down. -/
def EQueue.resumed (up : Bool) (q : EQueue) : EQueue := { q with flushing := false, held := q.held && !up }

theorem foldl_resumed (d : Dev) (p : Nat) (ns : List Nat) :
    ns.foldl (fun d n => Dev.setQueue d n { Dev.queue d n with flushing := false, held := (Dev.queue d n).held && !Dev.portUp d p }) d
      = ns.foldl (fun e n => Dev.setQueue e n (EQueue.resumed (Dev.portUp d p) (Dev.queue e n))) d := by
  suffices h : ∀ e : Dev, Dev.portUp e p = Dev.portUp d p →
      ns.foldl (fun d n => Dev.setQueue d n { Dev.queue d n with flushing := false, held := (Dev.queue d n).held && !Dev.portUp d p }) e
        = ns.foldl (fun e n => Dev.setQueue e n (EQueue.resumed (Dev.portUp d p) (Dev.queue e n))) e from h d rfl
  induction ns with
  | nil => exact fun _ _ => rfl
  | cons n ns ih =>
    intro e he
    rw [List.foldl_cons, List.foldl_cons, he]
    exact ih _ he

theorem mem_portQueues (p : Nat) (q : Fin 16) : p * 16 + q ∈ portQueues p :=
  List.mem_map.mpr ⟨q, List.mem_range.mpr q.isLt, rfl⟩

theorem flushDone_spec (d : Dev) (p : Nat) :
    (∀ q : Fin 16, (Dev.queue (Dev.flushDone d p) (p * 16 + q)).flushing = false
      ∧ (Dev.queue (Dev.flushDone d p) (p * 16 + q)).items = (Dev.queue d (p * 16 + q)).items
      ∧ (Dev.queue (Dev.flushDone d p) (p * 16 + q)).held = ((Dev.queue d (p * 16 + q)).held && !Dev.portUp d p))
    ∧ (Dev.flushDone d p).pkts = d.pkts ∧ (Dev.flushDone d p).pipes = d.pipes ∧ (Dev.flushDone d p).buf = d.buf
    ∧ (Dev.flushDone d p).gran = d.gran ∧ SameTables d (Dev.flushDone d p) := by
  obtain ⟨queues, hfold, hqueues⟩ := foldl_setQueue_eq (EQueue.resumed (Dev.portUp d p)) (portQueues p) (portQueues_nodup p) d
  have hdone : Dev.flushDone d p = Dev.recontendPort { d with queues := queues } p := by
    unfold Dev.flushDone
    rw [← hfold, ← foldl_resumed]
  have hresumed := (Resumed.refl { d with queues := queues }).recontendPort p
  have hleft := (Contended.refl { d with queues := queues }).recontendPort p
  rw [← hdone] at hresumed hleft
  refine ⟨fun q => ?_, hresumed.pkts, hresumed.pipes, hresumed.buf, hresumed.gran, hleft.tables⟩
  have hstock := hleft.stock (p * 16 + q)
  have hq : Dev.queue { d with queues := queues } (p * 16 + q) = EQueue.resumed (Dev.portUp d p) (Dev.queue d (p * 16 + q)) :=
    (hqueues _).trans (if_pos (mem_portQueues p q))
  rw [hq] at hstock
  simp only [EQueue.stock, Prod.mk.injEq] at hstock
  obtain ⟨hheld, hflushing, hitems, -⟩ := hstock
  exact ⟨hflushing, hitems, hheld⟩

/-- Settles O21: the ages' check drops the one packet, a flush leaves each of the 16 queues empty and flushing, and the flush's end resumes
them. -/
theorem heldQueuesAgeAndPortsFlush : Obligations.HeldQueuesAgeAndPortsFlush := by
  unfold Obligations.HeldQueuesAgeAndPortsFlush
  refine ⟨fun s h => lift_same (f := Dev.ageCheck) (ageCheck_same h), fun n q y s hs hqueues hheld hitems hhalf hold => ?_,
    fun p s hs => ⟨fun hhold => ?_, fun hhold => ?_⟩, fun p s hs => ⟨fun hflush => ?_, fun hflush => ?_⟩⟩
  · exact (does_lift_iff (f := Dev.ageCheck) rfl hs).mpr (ageCheck_drops hqueues hheld hitems hhalf hold)
  · obtain ⟨hflushes, hall⟩ := flushes_foldl (portQueues p) (Dev.setLink s.dev p { Dev.linkS s.dev p with hold := false })
    rw [does_lift_iff (f := fun d => if (Dev.linkS d p).hold then
      Dev.flushPort (Dev.setLink d p { Dev.linkS d p with hold := false }) p else d) rfl hs, if_pos hhold, flushPort_eq]
    refine ⟨?_, fun q => ?_, hflushes.tables⟩
    · rw [hflushes.linkS, linkS_setLink_same]
    · obtain ⟨hitems, hdepth, hflushing⟩ := hall _ (mem_portQueues p q)
      exact ⟨hitems, hdepth, hflushing, hflushes.held _⟩
  · exact lift_same (f := fun d => if (Dev.linkS d p).hold then
      Dev.flushPort (Dev.setLink d p { Dev.linkS d p with hold := false }) p else d) (if_neg (by rw [hhold]; exact Bool.false_ne_true))
  · rw [does_lift_iff (f := fun d => if (Dev.queue d (p * 16)).flushing then Dev.flushDone d p else d) rfl hs, if_pos hflush]
    exact flushDone_spec s.dev p
  · exact lift_same (f := fun d => if (Dev.queue d (p * 16)).flushing then Dev.flushDone d p else d)
      (if_neg (by rw [hflush]; exact Bool.false_ne_true))

end Sys2Proof.Machine

/-! The refutation of O35: a list break after which the queue's open bale closes. -/
namespace Sys2Proof.Machine

/-- Queue 0 has just begun to spill (state 1, R212): it lists an on-die packet and its first bale, number 16, which is open in the
return window and holds two records. -/
def beginsToSpill : Dev :=
  let d := Dev.setBlob Dev.reset K.pwrDomainState (List.replicate 24 1)
  let d := Dev.setEl (Dev.setEl d (K.eqSpillState 0) 1) K.granSpillBacklog 1
  let d := [1, 2, 3].foldl (fun d i => Dev.setPkt d i heldPkt) d
  let d := Dev.setBale d 16 { Bale.init with recs := [{ Desc.init with pkt := 2, c := 1 }, { Desc.init with pkt := 3, c := 1 }] }
  let d := Dev.setQueue d 0 { EQueue.init with items := [.pkt { Desc.init with pkt := 1, c := 1 }, .bale 16 0], openBale := some 16,
                                               depth := 1, baleSeq := 1 }
  Dev.setBuf d { d.buf with descs := 2 }

def beginsToSpillState : State := { State.reset with dev := beginsToSpill }

/-- Where nothing lies beyond the break, what becomes of the list is what the move of the return window makes of it (R169, R215). -/
theorem items_listBreak_of_length_le {d : Dev} {n k : Nat} (h : (Dev.queue d n).items.length ≤ k) :
    (Dev.queue (Dev.listBreak d n k) n).items
      = (Dev.queue (Dev.windowMoved (Dev.setQueue d n (Dev.queue d n)) n) n).items := by
  have hcontended : Contended (Dev.windowMoved (Dev.setQueue d n (Dev.queue d n)) n) (Dev.listBreak d n k) := by
    unfold Dev.listBreak
    rw [List.drop_eq_nil_of_le h, List.foldl_nil]
    dsimp only
    rw [List.take_of_length_le h]
    exact (Contended.of_lined (by simp [Dev.bufUncorrectable])).recontend n
  have hstock := hcontended.stock n
  simp only [EQueue.stock, Prod.mk.injEq] at hstock
  obtain ⟨-, -, hitems, -⟩ := hstock
  exact hitems

/-- The window holds the whole middle, so that the queue leaves state 1: its open bale closes inside the window, and two descriptors take
the place of its reference (R212, R214, R215). -/
theorem items_windowMoved_beginsToSpill :
    (Dev.queue (Dev.windowMoved (Dev.setQueue beginsToSpill 0 (Dev.queue beginsToSpill 0)) 0) 0).items.length = 3 := by
  decide +kernel

/-- Refutes O35: the statement has a queue list at most k places after a break behind its place k, but the break of the tail's own link
(k = 2 of a list of two) moves the return window, and the records of the open bale are linked on-die: three places. -/
theorem not_auditsReclaimAndListsAreReplaced : ¬ Obligations.AuditsReclaimAndListsAreReplaced := by
  unfold Obligations.AuditsReclaimAndListsAreReplaced
  intro h
  have hlit : beginsToSpillState.lit := show Dev.dark beginsToSpill = false by decide +kernel
  obtain ⟨-, -, -, -, -, hbreak, -⟩ := h beginsToSpillState hlit
  have hexec : exec (.bufferScrub 0 0 [(0, 2)]) beginsToSpillState = lift (fun d => Dev.listBreak d 0 2) beginsToSpillState := rfl
  obtain ⟨hlength, -⟩ := (does_lift_iff hexec hlit).mp (hbreak 0 2)
  have hlisted : (Dev.queue beginsToSpill 0).items.length ≤ 2 := by decide +kernel
  have hthree : (Dev.queue (Dev.listBreak beginsToSpill 0 2) 0).items.length = 3 := by
    rw [items_listBreak_of_length_le hlisted, items_windowMoved_beginsToSpill]
  exact absurd (hthree.symm.trans_le hlength) (by decide)

end Sys2Proof.Machine

/-! Flow control (R175 to R177) and O16. -/
namespace Sys2Proof.Machine

/-! What counting and events leave of the ports' statistics and of what the part has sent. -/

/-- The ports' statistics stay, and what has been sent stays sent. -/
structure Tells (d e : Dev) : Prop where
  stats : e.tel.stats = d.tel.stats
  out : d.out <+: e.out

namespace Tells
variable {d e f : Dev}

theorem of_eq (hs : e.tel.stats = d.tel.stats) (ho : e.out = d.out) : Tells d e := ⟨hs, [], (List.append_nil _).trans ho.symm⟩
theorem refl (d : Dev) : Tells d d := of_eq rfl rfl
theorem trans (h : Tells d e) (g : Tells e f) : Tells d f := ⟨g.stats.trans h.stats, h.out.trans g.out⟩

theorem ite {c : Prop} [Decidable c] {a b : Dev} (ha : Tells d a) (hb : Tells d b) : Tells d (if c then a else b) := by
  split <;> assumption

theorem foldl {α : Type} {f : Dev → α → Dev} (hf : ∀ e x, Tells d e → Tells d (f e x)) (l : List α) (h : Tells d e) :
    Tells d (l.foldl f e) := List.foldlRecOn _ _ h fun _ hx y _ => hf _ y hx

theorem emit (o : Out) (h : Tells d e) : Tells d (Dev.emit e o) := ⟨h.stats, h.out.trans ⟨[o], rfl⟩⟩
theorem setEl (k v : Nat) (h : Tells d e) : Tells d (Dev.setEl e k v) := ⟨h.stats, h.out⟩
theorem tel {x : TelS} (hx : x.stats = e.tel.stats) (h : Tells d e) : Tells d { e with tel := x } := ⟨hx.trans h.stats, h.out⟩
theorem noticeTok (x : SMap Bucket) (h : Tells d e) : Tells d { e with dict := { e.dict with noticeTok := x } } := ⟨h.stats, h.out⟩
theorem setHp (p : Nat) (x : HostPort) (h : Tells d e) : Tells d (Dev.setHp e p x) :=
  ⟨by rw [Dev.setHp_tel, h.stats], by rw [Dev.setHp_out]; exact h.out⟩

theorem perf (b c n : Nat) (h : Tells d e) : Tells d (Dev.perf e b c n) := by
  unfold Dev.perf Dev.perfBank
  have hact : Tells d (if c = 0 then e else Dev.act e (actEvent b c) n) := h.ite (h.tel rfl)
  exact hact.ite (hact.foldl (fun _ _ hx => ite (ite ((hx.setEl _ _).setEl _ _) (hx.setEl _ _)) hx) _)

theorem sendVector (p v : Nat) (h : Tells d e) : Tells d (Dev.sendVector e p v) := by
  unfold Dev.sendVector
  dsimp only
  exact h.ite (ite (h.setHp _ _) ((h.emit _).perf _ _ _))

theorem raiseOn (p b : Nat) (h : Tells d e) : Tells d (Dev.raiseOn e p b) := by
  unfold Dev.raiseOn
  dsimp only
  exact h.ite (ite (h.setHp _ _) ((h.setHp _ _).sendVector _ _))

theorem raise (b : Nat) (h : Tells d e) : Tells d (Dev.raise e b) := (h.raiseOn 0 b).raiseOn 1 b

theorem noticeBy {cnt : Dev → Nat → Nat → Dev} (hc : ∀ e k n, Tells d e → Tells d (cnt e k n)) (c r k : Nat) (h : Tells d e) :
    Tells d (Dev.noticeBy cnt e c r k) := by
  unfold Dev.noticeBy
  dsimp only
  split
  · exact h
  · refine h.ite ?_
    split
    · exact hc _ _ _ ((h.noticeTok _).emit _)
    · exact hc _ _ _ (h.noticeTok _)

theorem noticeOut {cnt : Dev → Nat → Nat → Dev} (hc : ∀ e k n, Tells d e → Tells d (cnt e k n)) (c nr : Nat) (h : Tells d e) :
    Tells d (Dev.noticeOut cnt e c nr) := foldl (fun _ k hx => hx.noticeBy hc c nr k) _ ⟨h.stats, h.out⟩

theorem telPut (r : Nat) (h : Tells d e) : Tells d (Dev.telPut e r) := by
  unfold Dev.telPut Dev.recLost
  dsimp only
  exact setEl _ _ ((h.tel (by rfl)).ite (h.tel (by rfl)))

theorem wrapTell (k : Nat) (h : Tells d e) : Tells d (Dev.wrapTell e k) := by
  unfold Dev.wrapTell
  extract_lets nr
  exact (h.telPut nr).noticeOut (fun _ _ _ hx => hx.setEl _ _) _ _

theorem wrapBits (k : Nat) (h : Tells d e) : Tells d (Dev.wrapBits e k) := by
  have hmark (j v : Nat) {x : Dev} (hx : Tells d x) : Tells d (Dev.setEl (Dev.wrapMark x j) K.telWrapEvents v) := ⟨hx.stats, hx.out⟩
  have hraised := (hmark k (wrap64 (Dev.el e K.telWrapEvents) 1).1 h).raise 7
  exact ite ((hmark _ 1 hraised).wrapTell _) hraised

theorem countQuiet (k n : Nat) (h : Tells d e) : Tells d (Dev.countQuiet e k n) :=
  ite (((h.setEl _ _).wrapBits _).wrapTell _) (h.setEl _ _)

theorem streamLap (i : Nat) (h : Tells d e) : Tells d (Dev.streamLap e i) := by
  unfold Dev.streamLap Dev.streamSkip
  dsimp only
  have hset (x : StreamS) : Tells d (Dev.setStream e i x) := ⟨h.stats, h.out⟩
  exact ite (h.ite ((((hset _).setEl _ _).countQuiet _ _).perf _ _ _)) h

theorem telWrite (r : Nat) (h : Tells d e) : Tells d (Dev.telWrite e r) := (h.telPut r).foldl (fun _ i hx => hx.streamLap i) _

theorem takeTotal (n : Nat) (h : Tells d e) : Tells d (Dev.takeTotal e n) := by
  unfold Dev.takeTotal
  split
  · exact ⟨h.stats, h.out⟩
  · exact h

theorem wrapped (k : Nat) (h : Tells d e) : Tells d (Dev.wrapped e k) := by
  unfold Dev.wrapped
  extract_lets d₁ nr
  exact (((h.wrapBits k).takeTotal 0).telWrite nr).noticeOut (fun _ k n hx => hx.countQuiet k n) _ _

theorem count (k n : Nat) (h : Tells d e) : Tells d (Dev.count e k n) := ite ((h.setEl _ _).wrapped k) (h.setEl _ _)

end Tells

/-- Adding to a word of a port's statistics adds to that word, modulo 2^64, and to no other but word 31, the mirror of the wrap bits
(R319, R321). -/
theorem stat_countStat (d : Dev) (p w n : Nat) {v : Nat} (hv : v ≠ 31) :
    Dev.stat (Dev.countStat d p w n) p v = if v = w then (Dev.stat d p w + n) % 2 ^ 64 else Dev.stat d p v := by
  unfold Dev.countStat
  extract_lets x set d₁ d₂ d₃
  have hset (e : Dev) (i y : Nat) : Dev.stat (set e i y) p v = if v = i then y else Dev.stat e p v := by
    unfold set Dev.stat
    split
    case isTrue h => rw [h, SMap.get_set_same]
    case isFalse h => exact SMap.get_set_ne _ _ _ _ _ _ (by omega)
  have h₂ : Dev.stat d₂ p v = Dev.stat d₁ p v := by
    unfold d₂
    split <;> rfl
  have h₃ : Dev.stat d₃ p v = Dev.stat d₁ p v := by
    unfold d₃ Dev.day
    split_ifs <;> exact h₂
  have hwrap (k : Nat) (e : Dev) : Dev.stat (Dev.wrapped e k) p v = Dev.stat e p v := by
    rw [Dev.stat, ((Tells.refl e).wrapped k).stats, Dev.stat]
  refine Eq.trans ?_ (hset d w x.1)
  split
  · rw [hwrap, hset, if_neg hv, h₃]
  · exact h₃

/-! What contention leaves of the pauses. -/

/-- Besides counting and events, contention alone has moved: every pause and the time bases stay. -/
structure Paced (d e : Dev) : Prop extends Tells d e where
  pause : ∀ p, (Dev.port e p).pause = (Dev.port d p).pause
  time : e.time = d.time

namespace Paced
variable {d e f : Dev}

theorem refl (d : Dev) : Paced d d := ⟨.refl d, fun _ => rfl, rfl⟩
theorem trans (h : Paced d e) (g : Paced e f) : Paced d f :=
  ⟨h.toTells.trans g.toTells, fun p => (g.pause p).trans (h.pause p), g.time.trans h.time⟩

theorem ite {c : Prop} [Decidable c] {a b : Dev} (ha : Paced d a) (hb : Paced d b) : Paced d (if c then a else b) := by
  split <;> assumption

theorem foldl {α : Type} {f : Dev → α → Dev} (hf : ∀ e x, Paced d e → Paced d (f e x)) (l : List α) (h : Paced d e) :
    Paced d (l.foldl f e) := List.foldlRecOn _ _ h fun _ hx y _ => hf _ y hx

theorem setQueue (n : Nat) (q : EQueue) (h : Paced d e) : Paced d (Dev.setQueue e n q) := h.trans ⟨.of_eq rfl rfl, fun _ => rfl, rfl⟩

theorem setTierV (p t v : Nat) (h : Paced d e) : Paced d (Dev.setTierV e p t v) := by
  refine h.trans ⟨.of_eq rfl rfl, fun q => ?_, rfl⟩
  unfold Dev.setTierV
  by_cases hq : q = p
  · rw [hq, port_setPort_same]
  · rw [port_setPort_ne _ _ _ _ hq]

theorem count (k n : Nat) (h : Paced d e) : Paced d (Dev.count e k n) :=
  h.trans ⟨(Tells.refl e).count k n, fun p => by rw [Dev.port, Dev.count_ports, Dev.port], Dev.count_time ..⟩

theorem tierUpdate (p t : Nat) (h : Paced d e) : Paced d (Dev.tierUpdate e p t) :=
  ite ((h.setTierV p t 0).foldl (fun _ _ hx => hx.setQueue _ _) _)
    (ite (((h.setTierV p t _).foldl (fun _ _ hx => hx.setQueue _ _) _).count _ 1) h)

theorem leave (n : Nat) (h : Paced d e) : Paced d (Dev.leave e n) := by
  unfold Dev.leave
  dsimp only
  split
  · exact (h.setQueue _ _).tierUpdate _ _
  · exact h

theorem recontend (n : Nat) (h : Paced d e) : Paced d (Dev.recontend e n) := by
  unfold Dev.recontend
  dsimp only
  split
  · exact (h.setQueue _ _).tierUpdate _ _
  · exact h.leave n
  · exact h

theorem recontendPort (p : Nat) (h : Paced d e) : Paced d (Dev.recontendPort e p) := h.foldl (fun _ _ hx => hx.recontend _) _

end Paced

/-! A flow-control frame received (R177). -/

/-- What the frame makes of the timer of an enabled priority. -/
def Dev.pauseUntil (d : Dev) (p : Nat) (bs : List Byte) (k : Nat) : Option Nat :=
  if get16 bs (18 + 2 * k) = 0 then none
  else some ((Dev.now d + ceilDiv (get16 bs (18 + 2 * k) * 512 * 65536) (max 1 (Dev.portSpeed d p))) % 2 ^ 80)

/-- What the frame makes of one priority of port p. -/
def Dev.pausePrio (p : Nat) (bs : List Byte) (d : Dev) (k : Nat) : Dev :=
  if bit (get16 bs 16) k then
    Dev.setPort d p { Dev.port d p with pause := SMap.put (Dev.port d p).pause k (Dev.pauseUntil d p bs k) }
  else d

theorem honourPfc_eq (d : Dev) (p : Nat) (bs : List Byte) :
    Dev.honourPfc d p bs = Dev.recontendPort ((List.range 8).foldl (Dev.pausePrio p bs) d) p := rfl

theorem pauseUntil_pausePrio (d : Dev) (p : Nat) (bs : List Byte) (j k : Nat) :
    Dev.pauseUntil (Dev.pausePrio p bs d j) p bs k = Dev.pauseUntil d p bs k := by
  unfold Dev.pausePrio
  split <;> rfl

theorem find_pausePrio (d : Dev) (p : Nat) (bs : List Byte) (j k : Nat) :
    SMap.find (Dev.port (Dev.pausePrio p bs d j) p).pause k
      = if k = j ∧ bit (get16 bs 16) k = true then Dev.pauseUntil d p bs k else SMap.find (Dev.port d p).pause k := by
  unfold Dev.pausePrio
  by_cases hkj : k = j
  · subst hkj
    by_cases hen : bit (get16 bs 16) k = true
    · rw [if_pos hen, if_pos ⟨rfl, hen⟩, port_setPort_same, SMap.find_put_same]
    · rw [if_neg hen, if_neg (not_and_of_not_right _ hen)]
  · rw [if_neg (not_and_of_not_left _ hkj)]
    split
    · rw [port_setPort_same, SMap.find_put_ne _ _ _ _ hkj]
    · rfl

/-- Each enabled priority of the list takes the frame's time, and every other pause stays. -/
theorem find_foldl_pausePrio (p : Nat) (bs : List Byte) (ks : List Nat) (d : Dev) (k : Nat) :
    SMap.find (Dev.port (ks.foldl (Dev.pausePrio p bs) d) p).pause k
      = if k ∈ ks ∧ bit (get16 bs 16) k = true then Dev.pauseUntil d p bs k else SMap.find (Dev.port d p).pause k := by
  induction ks generalizing d with
  | nil => simp
  | cons j t ih =>
    rw [List.foldl_cons, ih, pauseUntil_pausePrio, find_pausePrio]
    simp only [List.mem_cons]
    by_cases hen : bit (get16 bs 16) k = true
    · by_cases ht : k ∈ t <;> simp [ht, hen]
    · simp [hen]

/-- The timers alone change: nothing moves, and neither time nor statistics differ. -/
theorem pausePrio_frame (p : Nat) (bs : List Byte) (ks : List Nat) (d : Dev) :
    Resumed d (ks.foldl (Dev.pausePrio p bs) d) ∧ Tells d (ks.foldl (Dev.pausePrio p bs) d)
      ∧ (ks.foldl (Dev.pausePrio p bs) d).time = d.time := by
  refine List.foldlRecOn (motive := fun e => Resumed d e ∧ Tells d e ∧ e.time = d.time) _ _ ⟨.refl d, .refl d, rfl⟩ ?_
  rintro e ⟨hresumed, htells, htime⟩ k -
  unfold Dev.pausePrio
  split
  · exact ⟨hresumed.setPort (fun _ hi => hi), ⟨htells.stats, htells.out⟩, htime⟩
  · exact ⟨hresumed, htells, htime⟩

theorem asideEl_portSpeed (p : Nat) : asideEl (K.portSpeed p) = false := by
  rw [← Bool.not_eq_true]
  intro h
  have := asideEl_lt h
  simp only [K.portSpeed, key] at this
  omega

theorem asideEl_bufPortCfg {p : Nat} (hp : p < 1024) : asideEl (K.bufPortCfg (p / 16) (p % 16)) = false := by
  have ho : keyObj (K.bufPortCfg (p / 16) (p % 16)) = 0x0980 + p / 16 := by simp only [keyObj, K.bufPortCfg, key]; omega
  simp only [asideEl, ho, Bool.or_eq_false_iff, Bool.and_eq_false_iff, beq_eq_false_iff_ne, decide_eq_false_iff_not, ne_eq]
  omega

theorem Aside.pauseUntil (p : Nat) (bs : List Byte) (k : Nat) : Aside (fun d => Dev.pauseUntil d p bs k) :=
  (Aside.ticks.pair (Aside.el _ (asideEl_portSpeed p))).map (fun x : Nat × Nat =>
    if get16 bs (18 + 2 * k) = 0 then none
    else some ((2097152 * x.1 / 25 % 2 ^ 80 + ceilDiv (get16 bs (18 + 2 * k) * 512 * 65536) (max 1 (modeSpeed x.2))) % 2 ^ 80))

theorem Aside.port (p : Nat) : Aside (fun d => Dev.port d p) := Aside.ports.map (fun m => SMap.get m p OutPort.init)

theorem Aside.pfcRx {p : Nat} (hp : p < 1024) : Aside (fun d => Dev.pfcRx d p) :=
  (Aside.el _ (asideEl_bufPortCfg hp)).map (fun v => decide (p < 1024) && bit v 21)

/-- The part in which a sound flow-control frame has been counted. -/
def Dev.countedPfc (d : Dev) (p : Nat) (bs : List Byte) : Dev := Dev.countStat (Dev.countRx d p bs 0) p 8 1

theorem Aside.countedPfc {γ : Type} {g : Dev → γ} (h : Aside g) (d : Dev) (p : Nat) (bs : List Byte) : g (Dev.countedPfc d p bs) = g d :=
  (h.countStat ..).trans (h.countRx ..)

/-- Counting a received frame that has no fault adds to words 0 to 3 alone. -/
theorem stat_countRx (d : Dev) (p : Nat) (bs : List Byte) {v : Nat} (hv : 3 < v ∧ v ≠ 31) :
    Dev.stat (Dev.countRx d p bs 0) p v = Dev.stat d p v := by
  have hne (e : Dev) {w : Nat} (hw : w ≤ 3) (n : Nat) : Dev.stat (Dev.countStat e p w n) p v = Dev.stat e p v := by
    rw [stat_countStat _ _ _ _ hv.2, if_neg (by omega)]
  unfold Dev.countRx
  dsimp only
  split_ifs <;> simp [hne]

theorem stat_countedPfc (d : Dev) (p : Nat) (bs : List Byte) : Dev.stat (Dev.countedPfc d p bs) p 8 = (Dev.stat d p 8 + 1) % 2 ^ 64 := by
  rw [Dev.countedPfc, stat_countStat _ _ _ _ (by decide), if_pos rfl, stat_countRx _ _ _ (by decide)]

theorem exec_pfcFrameReceive {p : Fin 1024} {bytes : List Byte} {s : State} (hl : s.lit) (hup : Dev.el s.dev (K.portState p) = 5)
    (hrx : Dev.pfcRx s.dev p = true) (hpfc : isPfc bytes = true) (hmark : frameMark (Dev.maxFrame s.dev p) bytes .ended false = 0) :
    exec (.pfcFrameReceive p bytes) s = .next { s with dev := Dev.honourPfc (Dev.countedPfc s.dev p bytes) p bytes } := by
  have hexec : exec (.pfcFrameReceive p bytes) s = lift (fun d =>
      if Dev.el d (K.portState p) = 5 ∧ isPfc bytes = true ∧ frameMark (Dev.maxFrame d p) bytes .ended false = 0 then
        Dev.macControl (Dev.countRx d p bytes 0) p bytes
      else d) s := rfl
  have hrx' : Dev.pfcRx (Dev.countedPfc s.dev p bytes) p = true := ((Aside.pfcRx p.isLt).countedPfc ..).trans hrx
  have hmac : Dev.macControl (Dev.countRx s.dev p bytes 0) p bytes = Dev.honourPfc (Dev.countedPfc s.dev p bytes) p bytes :=
    (if_pos hpfc).trans (if_pos hrx')
  rw [hexec, lift_lit _ hl, if_pos ⟨hup, hpfc, hmark⟩, hmac]

/-! A flow-control frame sent (R176). -/

theorem length_beBytes (n v : Nat) : (beBytes n v).length = n := by rw [beBytes, List.length_reverse, length_leBytes]
theorem length_zeros (n : Nat) : (zeros n).length = n := List.length_replicate

theorem get16_append_right {a : List Byte} (b : List Byte) {o : Nat} (h : a.length ≤ o) : get16 (a ++ b) o = get16 b (o - a.length) := by
  simp only [get16, byteAt, List.getElem?_append_right h, List.getElem?_append_right (Nat.le_succ_of_le h), Nat.succ_sub h]

theorem get16_beBytes {v : Nat} (b : List Byte) (h : v < 65536) : get16 (beBytes 2 v ++ b) 0 = v := by
  simp [get16, byteAt, beBytes, leBytes]
  omega

/-- The fields of a flow-control frame one after the other. -/
theorem pfcFrame_eq (d : Dev) (prio time : Nat) : ∃ pad, Dev.pfcFrame d prio time = beBytes 6 0x0180C2000001 ++ (beBytes 6 (Dev.el d K.bufPfcSmac)
    ++ (beBytes 2 0x8808 ++ (beBytes 2 0x0101 ++ (beBytes 2 (2 ^ prio) ++ (zeros (2 * prio) ++ (beBytes 2 time ++ pad)))))) := by
  unfold Dev.pfcFrame
  extract_lets head body
  exact ⟨zeros (60 - head.length) ++ leBytes 4 (fcs32 body), by simp only [body, head, List.append_assoc]⟩

theorem length_pfcFrame (d : Dev) {prio : Nat} (h : prio < 8) (time : Nat) : (Dev.pfcFrame d prio time).length = 64 := by
  simp only [Dev.pfcFrame, List.length_append, length_beBytes, length_leBytes, length_zeros]
  omega

theorem get16_pfcFrame (d : Dev) {prio time : Nat} (hp : prio < 8) (ht : time < 65536) :
    get16 (Dev.pfcFrame d prio time) 12 = 0x8808 ∧ get16 (Dev.pfcFrame d prio time) 14 = 0x0101
      ∧ get16 (Dev.pfcFrame d prio time) 16 = 2 ^ prio ∧ get16 (Dev.pfcFrame d prio time) (18 + 2 * prio) = time := by
  obtain ⟨pad, hframe⟩ := pfcFrame_eq d prio time
  have hbit : 2 ^ prio < 65536 := (Nat.pow_lt_pow_right (by decide) hp).trans (by decide)
  have hskip {o : Nat} (ho : 12 ≤ o) : get16 (Dev.pfcFrame d prio time) o
      = get16 (beBytes 2 0x8808 ++ (beBytes 2 0x0101 ++ (beBytes 2 (2 ^ prio) ++ (zeros (2 * prio) ++ (beBytes 2 time ++ pad))))) (o - 12) := by
    rw [hframe, get16_append_right _ (by rw [length_beBytes]; omega), get16_append_right _ (by rw [length_beBytes, length_beBytes]; omega)]
    simp only [length_beBytes, Nat.sub_sub]
  refine ⟨?_, ?_, ?_, ?_⟩
  · rw [hskip (by omega), get16_beBytes _ (by decide)]
  · rw [hskip (by omega), get16_append_right _ (by simp [length_beBytes]), length_beBytes, get16_beBytes _ (by decide)]
  · rw [hskip (by omega), get16_append_right _ (by simp [length_beBytes]), get16_append_right _ (by simp [length_beBytes]),
      length_beBytes, length_beBytes, get16_beBytes _ hbit]
  · have hz : 18 + 2 * prio - 12 - 2 - 2 - 2 - 2 * prio = 0 := by omega
    rw [hskip (by omega), get16_append_right _ (by rw [length_beBytes]; omega), get16_append_right _ (by simp only [length_beBytes]; omega),
      get16_append_right _ (by simp only [length_beBytes]; omega), get16_append_right _ (by simp only [length_beBytes, length_zeros]; omega)]
    simp only [length_beBytes, length_zeros, hz]
    exact get16_beBytes _ ht

/-- The part in which port p has sent the oldest of its flow-control frames, before it counts the frame. -/
def Dev.pfcOut (d : Dev) (p prio time : Nat) (t : List (Nat × Nat)) : Dev :=
  Dev.emit (Dev.setPort d p { Dev.port d p with pfc := t }) (.pfc p (Dev.pfcFrame d prio time))

theorem out_countStat (d : Dev) (p w n : Nat) : d.out <+: (Dev.countStat d p w n).out := by
  unfold Dev.countStat
  extract_lets x set d₁ d₂ d₃
  have h₂ : d₂.out = d.out := by
    unfold d₂
    split <;> rfl
  have h₃ : d₃.out = d.out := by
    unfold d₃ Dev.day
    split_ifs <;> exact h₂
  have hset : (set d₃ 31 (Dev.stat d₃ p 31 ||| 2 ^ w)).out = d.out := h₃
  split
  · exact hset ▸ ((Tells.refl _).wrapped _).out
  · exact ⟨[], (List.append_nil _).trans h₃.symm⟩

theorem out_countTx (d : Dev) (p : Nat) (bs : List Byte) : d.out <+: (Dev.countTx d p bs).out := by
  unfold Dev.countTx
  dsimp only
  split_ifs
  · exact (out_countStat ..).trans (out_countStat ..)
  · exact (out_countStat ..).trans (out_countStat ..)
  · exact out_countStat ..

/-- The sending port keeps the rest of its queue, the frame goes out, and what counts it changes nothing that counting cannot. -/
theorem pfcSend_spec {d : Dev} {p prio time : Nat} {t : List (Nat × Nat)} (htx : (Dev.port d p).tx = none)
    (hpfc : (Dev.port d p).pfc = (prio, time) :: t) :
    (Dev.pfcOut d p prio time t).out <+: (Dev.pfcSend d p).out
      ∧ ∀ {γ : Type} {g : Dev → γ}, Aside g → g (Dev.pfcSend d p) = g (Dev.pfcOut d p prio time t) := by
  have hsend : Dev.pfcSend d p = Dev.countStat (Dev.countStat (Dev.countTx (Dev.pfcOut d p prio time t) p (Dev.pfcFrame d prio time))
      p 14 (Dev.pfcFrame d prio time).length) p (if time = 0 then 18 else 17) 1 := by
    unfold Dev.pfcSend Dev.pfcOut
    simp only [htx, hpfc]
  rw [hsend]
  refine ⟨(out_countTx ..).trans ((out_countStat ..).trans (out_countStat ..)), fun {γ} {g} h => ?_⟩
  rw [h.countStat, h.countStat]
  unfold Dev.countTx
  dsimp only
  split_ifs <;> simp only [h.countStat]

/-! A flow-control frame queued again (R176). -/

theorem queuePfc_of_up {d : Dev} {p : Nat} (hup : Dev.portUp d p = true) (prio time : Nat) :
    Dev.queuePfc d p prio time
      = Dev.perf (Dev.setPort d p { Dev.port d p with pfc := (Dev.port d p).pfc ++ [(prio, time)] }) 0x26 8 1 := if_pos hup

theorem exec_pfcRefreshTimer (p : Fin 1024) (prio : Fin 8) (s : State) : exec (.pfcRefreshTimer p prio) s =
    lift (fun d => if Dev.pfcTx d p && Dev.xoffOn d p prio then Dev.queuePfc d p prio (Dev.pfcQuanta d p) else d) s := rfl

/-! The commands. -/

theorem does_pfcFrameReceive {p : Fin 1024} {bytes : List Byte} {s : State} (hl : s.lit) (hup : Dev.el s.dev (K.portState p) = 5)
    (hrx : Dev.pfcRx s.dev p = true) (hpfc : isPfc bytes = true) (hmark : frameMark (Dev.maxFrame s.dev p) bytes .ended false = 0) :
    Does (.pfcFrameReceive p bytes) s (fun x =>
      (∀ k, k < 8 → SMap.find (Dev.port x p).pause k
        = if bit (get16 bytes 16) k then Dev.pauseUntil s.dev p bytes k else SMap.find (Dev.port s.dev p).pause k)
      ∧ Dev.stat x p 8 = (Dev.stat s.dev p 8 + 1) % 2 ^ 64
      ∧ x.pkts = s.dev.pkts ∧ x.pipes = s.dev.pipes ∧ x.buf = s.dev.buf ∧ x.gran = s.dev.gran ∧ x.time = s.dev.time
      ∧ SameTables s.dev x) := by
  rw [does_iff_of_next (exec_pfcFrameReceive hl hup hrx hpfc hmark), honourPfc_eq]
  set d := Dev.countedPfc s.dev p bytes
  obtain ⟨hresumed, htells, htime⟩ := pausePrio_frame p bytes (List.range 8) d
  have hpaced := (Paced.refl ((List.range 8).foldl (Dev.pausePrio p bytes) d)).recontendPort p
  have hall := hresumed.recontendPort p
  have hcounted {γ : Type} {g : Dev → γ} (h : Aside g) : g d = g s.dev := h.countedPfc ..
  refine ⟨fun k hk => ?_, ?_, hall.pkts.trans (hcounted Aside.pkts), hall.pipes.trans (hcounted Aside.pipes),
    hall.buf.trans (hcounted Aside.buf), hall.gran.trans (hcounted Aside.gran), (hpaced.time.trans htime).trans (hcounted Aside.time),
    hall.tables.1.trans (hcounted Aside.tbl), hall.tables.2.trans (hcounted Aside.prog)⟩
  · rw [hpaced.pause, find_foldl_pausePrio, hcounted (Aside.pauseUntil p bytes k), hcounted (Aside.port p)]
    simp [List.mem_range.mpr hk]
  · rw [Dev.stat, hpaced.stats, htells.stats]
    exact stat_countedPfc s.dev p bytes

theorem does_pauseTimerExpire {p : Fin 1024} {prio : Fin 8} {s : State} (hl : s.lit) :
    Does (.pauseTimerExpire p prio) s (fun x =>
      SMap.find (Dev.port x p).pause prio = none
      ∧ (∀ k, k ≠ prio.val → SMap.find (Dev.port x p).pause k = SMap.find (Dev.port s.dev p).pause k)
      ∧ x.pkts = s.dev.pkts ∧ x.pipes = s.dev.pipes ∧ x.buf = s.dev.buf ∧ x.gran = s.dev.gran ∧ x.time = s.dev.time
      ∧ SameTables s.dev x) := by
  have hexec : exec (.pauseTimerExpire p prio) s = lift (fun d =>
      Dev.recontendPort (Dev.setPort d p { Dev.port d p with pause := SMap.del (Dev.port d p).pause prio }) p) s := rfl
  rw [does_lift_iff hexec hl]
  set d := Dev.setPort s.dev p { Dev.port s.dev p with pause := SMap.del (Dev.port s.dev p).pause prio }
  have hpaced := (Paced.refl d).recontendPort p
  have hresumed := (Resumed.refl d).recontendPort p
  have hport : Dev.port d p = { Dev.port s.dev p with pause := SMap.del (Dev.port s.dev p).pause prio } := port_setPort_same ..
  refine ⟨?_, fun k hk => ?_, hresumed.pkts, hresumed.pipes, hresumed.buf, hresumed.gran, hpaced.time, hresumed.tables⟩
  · rw [hpaced.pause, hport, SMap.find_del_same]
  · rw [hpaced.pause, hport, SMap.find_del_ne _ _ _ hk]

theorem does_pfcFrameSend {p : Fin 1024} {prio : Fin 8} {time : Fin 65536} {t : List (Nat × Nat)} {s : State} (hl : s.lit)
    (htx : (Dev.port s.dev p).tx = none) (hpfc : (Dev.port s.dev p).pfc = (prio.val, time.val) :: t) :
    Does (.pfcFrameSend p) s (fun x =>
      (∃ bs l, x.out = s.dev.out ++ Out.pfc p bs :: l ∧ bs.length = 64 ∧ get16 bs 12 = 0x8808 ∧ get16 bs 14 = 0x0101
        ∧ get16 bs 16 = 2 ^ prio.val ∧ get16 bs (18 + 2 * prio.val) = time.val)
      ∧ Dev.port x p = { Dev.port s.dev p with pfc := t }
      ∧ (∀ m, m ≠ p.val → Dev.port x m = Dev.port s.dev m)
      ∧ x.pkts = s.dev.pkts ∧ x.pipes = s.dev.pipes ∧ x.queues = s.dev.queues ∧ x.buf = s.dev.buf ∧ x.gran = s.dev.gran
      ∧ x.sched = s.dev.sched ∧ x.time = s.dev.time ∧ SameTables s.dev x) := by
  rw [does_lift_iff (f := fun d => Dev.pfcSend d p) rfl hl]
  obtain ⟨⟨l, hout⟩, hkeeps⟩ := pfcSend_spec htx hpfc
  refine ⟨⟨Dev.pfcFrame s.dev prio time, l, ?_, length_pfcFrame _ prio.isLt _, get16_pfcFrame _ prio.isLt time.isLt⟩,
    (hkeeps (Aside.port p)).trans (port_setPort_same ..), fun m hm => (hkeeps (Aside.port m)).trans (port_setPort_ne _ _ _ _ hm),
    hkeeps Aside.pkts, hkeeps Aside.pipes, hkeeps Aside.queues, hkeeps Aside.buf, hkeeps Aside.gran, hkeeps Aside.sched,
    hkeeps Aside.time, hkeeps Aside.tbl, hkeeps Aside.prog⟩
  rw [← hout]
  exact List.append_assoc ..

theorem does_pfcRefreshTimer {p : Fin 1024} {prio : Fin 8} {s : State} (hl : s.lit) (htx : Dev.pfcTx s.dev p = true)
    (hxoff : Dev.xoffOn s.dev p prio = true) (hup : Dev.portUp s.dev p = true) :
    Does (.pfcRefreshTimer p prio) s (fun x =>
      Dev.port x p = { Dev.port s.dev p with pfc := (Dev.port s.dev p).pfc ++ [(prio.val, Dev.pfcQuanta s.dev p)] }
      ∧ (∀ m, m ≠ p.val → Dev.port x m = Dev.port s.dev m)
      ∧ x.pkts = s.dev.pkts ∧ x.pipes = s.dev.pipes ∧ x.queues = s.dev.queues ∧ x.buf = s.dev.buf ∧ x.gran = s.dev.gran
      ∧ x.sched = s.dev.sched) := by
  rw [does_lift_iff (exec_pfcRefreshTimer p prio s) hl, htx, hxoff, queuePfc_of_up hup]
  have hkeeps {γ : Type} {g : Dev → γ} (h : Aside g) (d : Dev) : g (Dev.perf d 0x26 8 1) = g d := h.perf _ _ _ _ (by decide)
  exact ⟨(hkeeps (Aside.port p) _).trans (port_setPort_same ..),
    fun m hm => (hkeeps (Aside.port m) _).trans (port_setPort_ne _ _ _ _ hm),
    hkeeps Aside.pkts _, hkeeps Aside.pipes _, hkeeps Aside.queues _, hkeeps Aside.buf _, hkeeps Aside.gran _, hkeeps Aside.sched _⟩

/-- Settles O16: a frame received sets the timers of the priorities it enables, an expiry ends its own, and frames leave in the order of
their queue. -/
theorem flowControlFramesSetAndClearPauses : Obligations.FlowControlFramesSetAndClearPauses := by
  unfold Obligations.FlowControlFramesSetAndClearPauses
  refine ⟨fun p bytes s hl hup hrx hpfc hmark => does_pfcFrameReceive hl hup hrx hpfc hmark, fun p prio s hl => does_pauseTimerExpire hl,
    fun p prio time t s hl htx hpfc => does_pfcFrameSend hl htx hpfc,
    fun p prio s hl => ⟨fun htx hxoff hup => does_pfcRefreshTimer hl htx hxoff hup, fun hxoff => ?_⟩⟩
  rw [exec_pfcRefreshTimer]
  exact lift_same (if_neg (by rw [hxoff, Bool.and_false]; exact Bool.false_ne_true))

end Sys2Proof.Machine

/-! The refutation of O36: a bale that moves to another place while it is being read. -/
namespace Sys2Proof.Machine

/-! A reserve segment that fails when no other is free. -/

/-- What a corrected burst does before its segment is judged (R224). -/
def Dev.ceNoted (d : Dev) (st seg burst : Nat) : Dev :=
  let now := Dev.freeNs d
  let k := segKey st seg * 2 ^ 11 + burst
  let ts := (SMap.get d.gran.ce k []).filter (fun t => decide (now < t + 86400000000000)) ++ [now]
  let d := Dev.setGran d { d.gran with ce := SMap.ins d.gran.ce k ts }
  let d := Dev.perf (Dev.count (Dev.count d K.granEccCorrected 1) (K.gstackCorrected st) 1) 0x28 6 1
  Dev.corrected d (0x0A10 + st) 0x03 1

/-- Where one correction is enough, the present one makes the segment fail. -/
theorem noteCe_of_limit_le_one {d : Dev} {st seg burst : Nat} (h : Dev.el (Dev.ceNoted d st seg burst) K.granRetireCeLimit ≤ 1) :
    Dev.noteCe d st seg burst = Dev.segmentFail (Dev.ceNoted d st seg burst) st seg := by
  unfold Dev.noteCe
  exact if_pos (h.trans (by simp))

theorem remap_ceNoted (d : Dev) (st seg burst : Nat) : (Dev.ceNoted d st seg burst).gran.remap = d.gran.remap := by
  simp [Dev.ceNoted, Dev.setGran]

/-- A reserve segment is used no more (R224). -/
def Dev.reserveLost (d : Dev) (st seg : Nat) : Dev :=
  Dev.setGran d { d.gran with badRes := SMap.ins d.gran.badRes (segKey st (seg - resBase + 1)) true }

theorem segmentFail_of_runs {d : Dev} {st seg : Nat} (hruns : Dev.gmcuAway d = false) :
    Dev.segmentFail d st seg = Dev.segmentFailNow d st seg := if_neg (by rw [hruns]; exact Bool.false_ne_true)

/-- What a failing reserve segment replaced needs a replacement again. -/
theorem segmentFailNow_reserve {d : Dev} {st seg g : Nat} (hserves : Dev.el d (K.gstackState st) = 0) (hres : resBase ≤ seg)
    (hgood : SMap.find d.gran.badRes (segKey st (seg - resBase + 1)) = none)
    (hstands : Dev.standsFor (Dev.reserveLost d st seg) st seg = some g) :
    Dev.segmentFailNow d st seg = Dev.segmentReplace (Dev.reserveLost d st seg) st g := by
  unfold Dev.segmentFailNow
  unfold Dev.reserveLost at hstands ⊢
  simp [hserves, hres, hgood, hstands]

/-- A reserve segment that has failed fails no more. -/
theorem segmentFailNow_lostReserve {d : Dev} {st seg : Nat} (hres : resBase ≤ seg)
    (hbad : (SMap.find d.gran.badRes (segKey st (seg - resBase + 1))).isSome = true) : Dev.segmentFailNow d st seg = d := by
  unfold Dev.segmentFailNow
  simp [hres, hbad]

/-- A spill segment that a reserve segment replaced leaves the pool, and its entry the store (R225). -/
def Dev.segmentLeaves (d : Dev) (st seg : Nat) : Dev :=
  let d := Dev.persistPart d (2 ^ 32 + segKey st seg) []
  Dev.segmentOut (Dev.setGran d { d.gran with remap := SMap.del d.gran.remap (segKey st seg) }) st seg

theorem segmentReplace_exhausted {d : Dev} {st seg : Nat} (hreserve : Dev.freeReserve d st = none) (hspill : seg < Dev.spillSegs d)
    (hgone : SMap.find d.gran.gone ((seg * 8) * 16 + st) = none) (hremap : (SMap.find d.gran.remap (segKey st seg)).isSome = true) :
    Dev.segmentReplace d st seg = Dev.segmentLeaves d st seg := by
  unfold Dev.segmentReplace
  simp only [hreserve, if_neg (Nat.not_le.mpr hspill), hgone, hremap, Option.isSome_none, Bool.false_eq_true, if_false, if_true]
  rfl

/-- The bales of a spill segment whose replacement has failed move to other segments, where no reserve segment is free. -/
theorem noteCe_lastReserve {d e : Dev} {st seg burst g : Nat} (he : Dev.reserveLost (Dev.ceNoted d st seg burst) st seg = e)
    (hlimit : Dev.el (Dev.ceNoted d st seg burst) K.granRetireCeLimit ≤ 1) (hruns : Dev.gmcuAway (Dev.ceNoted d st seg burst) = false)
    (hserves : Dev.el (Dev.ceNoted d st seg burst) (K.gstackState st) = 0) (hres : resBase ≤ seg)
    (hgood : SMap.find (Dev.ceNoted d st seg burst).gran.badRes (segKey st (seg - resBase + 1)) = none)
    (hstands : Dev.standsFor e st seg = some g) (hreserve : Dev.freeReserve e st = none) (hspill : g < Dev.spillSegs e)
    (hgone : SMap.find e.gran.gone ((g * 8) * 16 + st) = none) (hremap : (SMap.find e.gran.remap (segKey st g)).isSome = true) :
    Dev.noteCe d st seg burst = Dev.segmentLeaves e st g := by
  subst he
  rw [noteCe_of_limit_le_one hlimit, segmentFail_of_runs hruns, segmentFailNow_reserve hserves hres hgood hstands,
    segmentReplace_exhausted hreserve hspill hgone hremap]

/-! The state. -/

/-- Every reserve segment of stack 15 replaces another segment. -/
def allReserveUsed : SMap Nat := (List.range 3072).map (fun i => (segKey 15 i, i + 1))

/-- Where every reserve segment replaces another one, none is free (R224). -/
theorem freeReserve_eq_none {d : Dev} (h : d.gran.remap = allReserveUsed) : Dev.freeReserve d 15 = none := by
  unfold Dev.freeReserve
  extract_lets used
  rw [List.find?_eq_none]
  intro r hr
  have hr' : r < 3072 := by rw [List.mem_range] at hr; omega
  have hmem : (segKey 15 r, r + 1) ∈ d.gran.remap := by
    rw [h]; exact List.mem_map.mpr ⟨r, List.mem_range.mpr hr', rfl⟩
  have hstack : (segKey 15 r / 2 ^ 20 == 15) = true := beq_iff_eq.mpr (by unfold segKey; omega)
  have hused : r + 1 ∈ used := List.mem_append.mpr (.inl (List.mem_map.mpr ⟨_, List.mem_filter.mpr ⟨hmem, hstack⟩, rfl⟩))
  simp [hused]

/-- Bale 15, the first of stack 15, is being read for queue 0, its only queue. It holds one record. It stands in the first reserve segment,
which is to fail at one more correction. -/
def lastReadInReserve : Dev :=
  let d := Dev.setBlob Dev.reset K.pwrDomainState (List.replicate 24 1)
  let d := Dev.setEl (Dev.setEl (Dev.setEl d K.fwGmcuState 0) K.granRetireCeLimit 1) K.granAutoRetire 0
  let d := Dev.setGran d { d.gran with remap := allReserveUsed }
  let d := Dev.setPkt d 1 Pkt.init
  let d := Dev.setBale d 15
    { Bale.init with recs := [{ Desc.init with pkt := 1, c := 1 }], closed := true, written := true, reading := [0] }
  Dev.setQueue d 0 { EQueue.init with items := [.bale 15 0] }

def lastReadState : State := { State.reset with dev := lastReadInReserve }

/-- The read corrects one burst and loses another. -/
def oneCorrectedOneLost : BaleWay := { corrected := [0], retried := 0, bad := [1] }

/-- The read has been counted. -/
def lastReadCounted : Dev :=
  Dev.perf (Dev.setGran lastReadInReserve
    { lastReadInReserve.gran with rd := RateWin.add lastReadInReserve.gran.rd (Dev.msNow lastReadInReserve) 8192 }) 0x28 2 256

def reserveGone : Dev := Dev.reserveLost (Dev.ceNoted lastReadCounted 15 128000 0) 15 128000

/-- The corrected burst has made the reserve segment fail, and bale 15 has moved (R224, R225). -/
def baleMoved : Dev := Dev.segmentLeaves reserveGone 15 0

theorem remap_reserveGone : reserveGone.gran.remap = allReserveUsed := by
  have hlost (d : Dev) (st seg : Nat) : (Dev.reserveLost d st seg).gran.remap = d.gran.remap := rfl
  rw [reserveGone, hlost, remap_ceNoted, lastReadCounted, Dev.perf_gran]
  simp [lastReadInReserve, Dev.setGran, Dev.setBale, Dev.setPkt, Dev.setQueue]

theorem noteCe_lastReadCounted : Dev.noteCe lastReadCounted 15 128000 0 = baleMoved := by
  have hnoted : Dev.el (Dev.ceNoted lastReadCounted 15 128000 0) K.granRetireCeLimit ≤ 1
      ∧ Dev.gmcuAway (Dev.ceNoted lastReadCounted 15 128000 0) = false
      ∧ Dev.el (Dev.ceNoted lastReadCounted 15 128000 0) (K.gstackState 15) = 0
      ∧ SMap.find (Dev.ceNoted lastReadCounted 15 128000 0).gran.badRes (segKey 15 (128000 - resBase + 1)) = none := by decide +kernel
  have hlost : Dev.standsFor reserveGone 15 128000 = some 0 ∧ 0 < Dev.spillSegs reserveGone
      ∧ SMap.find reserveGone.gran.gone ((0 * 8) * 16 + 15) = none
      ∧ (SMap.find reserveGone.gran.remap (segKey 15 0)).isSome = true := by decide +kernel
  obtain ⟨hlimit, hruns, hserves, hgood⟩ := hnoted
  obtain ⟨hstands, hspill, hthere, hremap⟩ := hlost
  exact noteCe_lastReserve (e := reserveGone) rfl hlimit hruns hserves (by unfold resBase; omega) hgood hstands (freeReserve_eq_none remap_reserveGone)
    hspill hthere hremap

end Sys2Proof.Machine

/-! The loss of a bale that no longer stands at its place. -/
namespace Sys2Proof.Machine

theorem SMap.get_of_find_none {α : Type} {m : SMap α} {k : Nat} (h : SMap.find m k = none) (v : α) : SMap.get m k v = v := by
  induction m with
  | nil => rfl
  | cons x t ih =>
    by_cases hk : x.1 = k
    · simp [SMap.find, hk] at h
    · simp only [SMap.find, SMap.get, if_neg hk] at h ⊢
      exact ih h

theorem el_count_of_ne {d : Dev} {k j n : Nat} (ha : asideEl k = false) (hne : k ≠ j) : Dev.el (Dev.count d j n) k = Dev.el d k :=
  el_count_ne (noteEl_of_not_asideEl ha) hne

section
variable {k : Nat} (ha : asideEl k = false)
include ha

theorem el_tierUpdate (hk : k ≠ K.schedRenorms) (d : Dev) (p t : Nat) : Dev.el (Dev.tierUpdate d p t) k = Dev.el d k := by
  unfold Dev.tierUpdate
  extract_lets qs d₁ d₂
  have htier (v : Nat) : Dev.el (Dev.setTierV d p t v) k = Dev.el d k := rfl
  have h₂ : Dev.el d₂ k = Dev.el d k := by
    unfold d₂
    exact (foldl_keeps (fun d => Dev.el d k) _ (by intros; rfl) qs _).trans (htier _)
  split_ifs
  · exact (foldl_keeps (fun d => Dev.el d k) _ (by intros; rfl) qs _).trans (htier 0)
  · exact (el_count_of_ne ha hk).trans h₂
  · rfl

theorem el_recontend (hk : k ≠ K.schedRenorms) (d : Dev) (n : Nat) : Dev.el (Dev.recontend d n) k = Dev.el d k := by
  unfold Dev.recontend Dev.leave
  dsimp only
  split
  · exact el_tierUpdate ha hk ..
  · split
    · exact el_tierUpdate ha hk ..
    · rfl
  · rfl

theorem el_baleDoubleFree (hk : k ≠ K.granDoubleFree) (d : Dev) (b : Nat) : Dev.el (Dev.baleDoubleFree d b) k = Dev.el d k := by
  have haudit (e : Dev) (x : GranS) : Dev.el (Dev.audit (Dev.setGran e x)) k = Dev.el e k := by
    unfold Dev.audit
    split <;> rfl
  unfold Dev.baleDoubleFree
  dsimp only
  rw [haudit, (Aside.el k ha).containedF, el_count_of_ne ha hk]

end

theorem dict_cutBale (d : Dev) (n b s : Nat) : (Dev.cutBale d n b s).dict = d.dict := by
  unfold Dev.cutBale Dev.endRead
  split <;> rfl

/-- A bale that is not there has no records to drop: its loss is a double free (R210). -/
theorem dropBaleRead_moved {d : Dev} {b : Nat} (h : SMap.find d.gran.bales b = none) (code n s : Nat) :
    Dev.dropBaleRead d code n b s = Dev.baleDoubleFree (Dev.cutBale d n b s) b := by
  have hbale : Dev.bale d b = Bale.init := SMap.get_of_find_none h _
  have hcut : SMap.find (Dev.cutBale d n b s).gran.bales b = none := by
    unfold Dev.cutBale Dev.endRead
    rw [h]
    exact h
  have hrefs : Dev.bale (Dev.cutBale d n b s) b = Bale.init := SMap.get_of_find_none hcut _
  have hdrop : Dev.dropRecs d code n Bale.init = d := rfl
  unfold Dev.dropBaleRead Dev.unrefBale
  rw [hbale, hdrop]
  dsimp only
  rw [hrefs, if_pos (by decide)]
  unfold Dev.freeBale
  rw [hcut]

theorem gran_dropBaleRead_badRes {d : Dev} {b : Nat} (h : SMap.find d.gran.bales b = none) (code n s : Nat) :
    (Dev.dropBaleRead d code n b s).gran.badRes = d.gran.badRes := by
  have haudit (e : Dev) : (Dev.audit e).gran = e.gran := by
    unfold Dev.audit
    split <;> rfl
  rw [dropBaleRead_moved h]
  unfold Dev.baleDoubleFree
  simp only [haudit, Dev.setGran, Dev.containedF_gran, Dev.count_gran]
  unfold Dev.cutBale Dev.endRead
  rw [h]
  rfl

/-- The counts of an uncorrectable burst (R222). -/
def Dev.ueNoted (d : Dev) (st seg : Nat) : Dev :=
  let now := Dev.freeNs d
  let d := Dev.setGran d { d.gran with ue := (d.gran.ue.filter (fun x => decide (now < x.1 + 60000000000))) ++ [(now, st, seg)] }
  Dev.perf (Dev.count (Dev.count d K.granEccUncorrectable 1) (K.gstackUncorrectable st) 1) 0x28 8 1

theorem noteUe_eq (d : Dev) (st seg : Nat) : Dev.noteUe d st seg = Dev.segmentFail (Dev.ueNoted d st seg) st seg := rfl

theorem el_ueNoted {k : Nat} (ha : asideEl k = false) (d : Dev) {st : Nat} (seg : Nat) (htotal : k ≠ K.granEccUncorrectable)
    (hstack : k ≠ K.gstackUncorrectable st) : Dev.el (Dev.ueNoted d st seg) k = Dev.el d k := by
  have hset (x : GranS) : Dev.el (Dev.setGran d x) k = Dev.el d k := rfl
  unfold Dev.ueNoted
  dsimp only
  rw [(Aside.el k ha).perf _ _ _ _ (by decide), el_count_of_ne ha hstack, el_count_of_ne ha htotal, hset]

theorem badRes_ueNoted (d : Dev) (st seg : Nat) : (Dev.ueNoted d st seg).gran.badRes = d.gran.badRes := by
  simp [Dev.ueNoted, Dev.setGran]

/-- A reserve segment that is out of use needs nothing, or nothing yet. -/
theorem el_segmentFail_lostReserve {d : Dev} {st seg : Nat} (hres : resBase ≤ seg)
    (hbad : (SMap.find d.gran.badRes (segKey st (seg - resBase + 1))).isSome = true) (k : Nat) :
    Dev.el (Dev.segmentFail d st seg) k = Dev.el d k := by
  unfold Dev.segmentFail
  rw [segmentFailNow_lostReserve hres hbad]
  split <;> rfl

/-- An uncorrectable burst of a reserve segment that is out of use counts, and no more. -/
theorem el_noteUe_lostReserve {d : Dev} {st seg k : Nat} (ha : asideEl k = false) (htotal : k ≠ K.granEccUncorrectable)
    (hstack : k ≠ K.gstackUncorrectable st) (hres : resBase ≤ seg)
    (hbad : (SMap.find d.gran.badRes (segKey st (seg - resBase + 1))).isSome = true) : Dev.el (Dev.noteUe d st seg) k = Dev.el d k := by
  rw [noteUe_eq, el_segmentFail_lostReserve hres (by rw [badRes_ueNoted]; exact hbad), el_ueNoted ha d seg htotal hstack]

theorem el_windowMoved_notSpilling {d : Dev} {n : Nat} (h : Dev.qSpillState d n = 0) (k : Nat) : Dev.el (Dev.windowMoved d n) k = Dev.el d k := by
  have hdict : (Dev.noteReturns d n).dict = d.dict := by
    unfold Dev.noteReturns
    split <;> rfl
  have hstate : Dev.qSpillState (Dev.noteReturns d n) n = 0 := by
    unfold Dev.qSpillState at h ⊢
    rw [el_congr hdict]
    exact h
  unfold Dev.windowMoved Dev.drained
  simp only [hstate]
  simp [el_congr hdict]

theorem ueCheck_of_manual {d : Dev} (h : Dev.el d K.granAutoRetire ≠ 1) (st : Nat) : Dev.ueCheck d st = d := by
  have hauto : Dev.autoRetire d st 2 true = d := if_neg (not_and_of_not_left _ h)
  unfold Dev.ueCheck
  dsimp only
  rw [hauto, ite_self]

/-- The end of a read that has failed: the records of bale b are lost, one burst of the segment stayed bad (R222, R227). -/
def Dev.readLost (d : Dev) (n b s seg : Nat) : Dev :=
  let d := Dev.contained (Dev.dropBaleRead d 0x30 n b s) 7 0x30 0x0A00 0x0B n
  let d := Dev.noteUe d (b % 16) seg
  Dev.recontend (Dev.ueCheck (Dev.windowMoved d n) (b % 16)) n

/-- A read of a bale that has moved away counts no lost packet. -/
theorem granDropsEcc_readLost_moved {d : Dev} {n b s seg : Nat} (hn : n < 16384) (hmoved : SMap.find d.gran.bales b = none) (hres : resBase ≤ seg)
    (hbad : (SMap.find d.gran.badRes (segKey (b % 16) (seg - resBase + 1))).isSome = true) (hspill : Dev.el d (K.eqSpillState n) = 0)
    (hmanual : Dev.el d K.granAutoRetire ≠ 1) : Dev.el (Dev.readLost d n b s seg) K.granDropsEcc = Dev.el d K.granDropsEcc := by
  unfold Dev.readLost
  extract_lets d₁ d₂
  have hbad₁ : (SMap.find d₁.gran.badRes (segKey (b % 16) (seg - resBase + 1))).isSome = true := by
    simpa only [d₁, Dev.contained_gran, gran_dropBaleRead_badRes hmoved] using hbad
  have hel {k : Nat} (ha : asideEl k = false) (hdouble : k ≠ K.granDoubleFree) (htotal : k ≠ K.granEccUncorrectable)
      (hstack : k ≠ K.gstackUncorrectable (b % 16)) : Dev.el d₂ k = Dev.el d k := by
    calc Dev.el d₂ k = Dev.el d₁ k := el_noteUe_lostReserve ha htotal hstack hres hbad₁
      _ = Dev.el (Dev.dropBaleRead d 0x30 n b s) k := (Aside.el k ha).contained ..
      _ = Dev.el (Dev.baleDoubleFree (Dev.cutBale d n b s) b) k := by rw [dropBaleRead_moved hmoved]
      _ = Dev.el (Dev.cutBale d n b s) k := el_baleDoubleFree ha hdouble _ b
      _ = Dev.el d k := el_congr (dict_cutBale d n b s) k
  have hstate : Dev.qSpillState d₂ n = 0 := by
    have hkey : asideEl (K.eqSpillState n) = false := by
      by_contra hne
      have hlt := asideEl_lt (Bool.not_eq_false _ ▸ hne)
      simp only [K.eqSpillState, key] at hlt
      omega
    unfold Dev.qSpillState
    rw [hel hkey, hspill, ite_self] <;> simp only [K.eqSpillState, K.granDoubleFree, K.granEccUncorrectable, K.gstackUncorrectable, key] <;> omega
  have hauto : Dev.el (Dev.windowMoved d₂ n) K.granAutoRetire ≠ 1 := by
    rw [el_windowMoved_notSpilling hstate, hel (by decide) (by decide) (by decide)]
    · exact hmanual
    · simp only [K.granAutoRetire, K.gstackUncorrectable, key]; omega
  rw [el_recontend (by decide) (by decide), ueCheck_of_manual hauto, el_windowMoved_notSpilling hstate, hel (by decide) (by decide) (by decide)]
  simp only [K.granDropsEcc, K.gstackUncorrectable, key]; omega

/-- The read of a bale that its first corrected burst sends to another place. -/
theorem returnDone_moved {d e f : Dev} {n b s seg : Nat} (href : EQueue.refTo (Dev.queue d n) b = some s)
    (hreading : n ∈ (Dev.bale d b).reading) (hcont : (Dev.bale d b).contIn = 0) (hbursts : (Dev.bale d b).bursts = [])
    (hcounted : Dev.perf (Dev.setGran d { d.gran with rd := RateWin.add d.gran.rd (Dev.msNow d) 8192 }) 0x28 2 256 = e)
    (hplace : Dev.segPhys e (b % 16) (b / 128) = seg) (hmoves : Dev.noteCe e (b % 16) seg (b / 16 % 8 * 256) = f)
    (hmoved : SMap.find f.gran.bales b = none) :
    Dev.returnDone d n b oneCorrectedOneLost = Dev.readLost f n b s seg := by
  subst hcounted hplace
  unfold Dev.returnDone
  extract_lets x y e seg bad d₁ d₂ d₃ r
  have hbad : bad = [1] := by
    have htags : Bale.oddTags x (Dev.baleMark e b x.seq) = [] := by
      unfold Bale.oddTags x
      rw [hbursts]
      rfl
    unfold bad
    rw [htags]
    rfl
  have hread : (!x.reading.contains n) = false := by
    simp [x, hreading]
  have h₁ : d₁ = f := by
    rw [← hmoves]
    simp [d₁, oneCorrectedOneLost, e, seg, y]
  have h₂ : d₂ = d₁ := if_pos rfl
  have h₃ : d₃ = f := by
    unfold d₃ Dev.endRead
    rw [h₂, h₁, hmoved]
  rw [href]
  dsimp only
  rw [hread, hbad, if_neg Bool.false_ne_true, if_pos (by decide), if_neg (by rw [show x.contIn = 0 from hcont]; decide), h₃,
    List.foldl_cons, List.foldl_nil]
  unfold Dev.readLost
  dsimp only

end Sys2Proof.Machine

/-! A corrected burst of the read makes the segment fail, and the lost burst counts no packet. -/
namespace Sys2Proof.Machine

/-- The clause of the reads that end, where the loss of the one record of a bale that continues no record is not counted. -/
theorem refuted_of_uncounted_loss {s : State} {d f : Dev} {n : Fin 16384} {b k : Nat} {y : Bale} {w : BaleWay} (hdev : s.dev = d) (hlit : s.lit)
    (hfind : SMap.find d.gran.bales b = some y) (href : EQueue.refTo (Dev.queue d n) b = some k) (hreading : n.val ∈ y.reading) (hrefs : y.refs ≤ 1)
    (hopen : (Dev.queue d n).openBale ≠ some b) (hbad : w.bad ≠ []) (hcont : y.contIn = 0) (hrecs : y.recs.length = 1)
    (hdrops : Dev.el d K.granDropsEcc = 0) (hends : Dev.returnDone d n b w = f) (huncounted : Dev.el f K.granDropsEcc = 0) :
    ¬ Obligations.BalesAreWrittenReturnedAndFreed := by
  intro h
  subst hdev
  obtain ⟨-, -, -, -, -, -, hdone, -⟩ := h n s hlit
  have hdoes := hdone b k y hfind href hreading hrefs hopen w
  rw [does_lift_iff (f := fun d => Dev.returnDone d n b w) rfl hlit, hends] at hdoes
  obtain ⟨-, -, hcounts, -⟩ := hdoes
  have hone := hcounts (.inl hbad) hcont (by rw [hdrops]; decide)
  rw [huncounted, hdrops, hrecs] at hone
  exact absurd hone (by decide)

/-- Refutes O36: a corrected burst makes the segment fail under the read, and the bale moves to another place before its lost burst is met; the
record that was lost is not counted. -/
theorem not_balesAreWrittenReturnedAndFreed : ¬ Obligations.BalesAreWrittenReturnedAndFreed := by
  have hlit : lastReadState.lit := show Dev.dark lastReadInReserve = false by decide +kernel
  have hread : SMap.find lastReadInReserve.gran.bales 15 = some (Dev.bale lastReadInReserve 15)
      ∧ EQueue.refTo (Dev.queue lastReadInReserve 0) 15 = some 0 ∧ 0 ∈ (Dev.bale lastReadInReserve 15).reading
      ∧ (Dev.bale lastReadInReserve 15).refs ≤ 1 ∧ (Dev.queue lastReadInReserve 0).openBale ≠ some 15
      ∧ (Dev.bale lastReadInReserve 15).contIn = 0 ∧ (Dev.bale lastReadInReserve 15).bursts = []
      ∧ (Dev.bale lastReadInReserve 15).recs.length = 1 ∧ Dev.el lastReadInReserve K.granDropsEcc = 0
      ∧ Dev.segPhys lastReadCounted 15 0 = 128000 := by decide +kernel
  obtain ⟨hfind, href, hreading, hrefs, hopen, hcont, hbursts, hrecs, hdrops, hplace⟩ := hread
  have hmoved : SMap.find baleMoved.gran.bales 15 = none ∧ (SMap.find baleMoved.gran.badRes (segKey 15 (128000 - resBase + 1))).isSome = true
      ∧ Dev.el baleMoved K.granDropsEcc = 0 ∧ Dev.el baleMoved (K.eqSpillState 0) = 0 ∧ Dev.el baleMoved K.granAutoRetire ≠ 1 := by decide +kernel
  obtain ⟨hgone, hbad, hcount, hspill, hmanual⟩ := hmoved
  have hends : Dev.returnDone lastReadInReserve 0 15 oneCorrectedOneLost = Dev.readLost baleMoved 0 15 0 128000 :=
    returnDone_moved href hreading hcont hbursts (e := lastReadCounted) (by rw [lastReadCounted]) hplace noteCe_lastReadCounted hgone
  have huncounted : Dev.el (Dev.readLost baleMoved 0 15 0 128000) K.granDropsEcc = 0 :=
    (granDropsEcc_readLost_moved (by decide) hgone (by unfold resBase; omega) hbad hspill hmanual).trans hcount
  exact refuted_of_uncounted_loss (s := lastReadState) (n := 0) rfl hlit hfind href hreading hrefs hopen (List.cons_ne_nil _ _) hcont hrecs hdrops
    hends huncounted

end Sys2Proof.Machine

/-! What flow control, the granary's totals and the moves of bales leave alone. -/
namespace Sys2Proof.Machine

/-- The elements that the pools' flow control and the granary's totals write (R192, R234, R235, R313). -/
def totalsEl (k : Nat) : Bool :=
  let o := keyObj k
  let e := keyEl k
  (o == 0x0A00 && (e == 3 || e == 4 || e == 0x11 || e == 0x12)) || (decide (0x0A10 ≤ o ∧ o < 0x0A20) && (e == 7 || e == 8))
    || (decide (0x0910 ≤ o ∧ o < 0x0918) && e == 0x0C) || (o == 0x0C00 && e == 7)

/-- A reading that counting, flow control and the granary's totals leave alone. -/
structure OffTotals {γ : Type} (g : Dev → γ) : Prop where
  aside : Aside g
  els : ∀ d k v, totalsEl k = true → g (Dev.setEl d k v) = g d
  buf : ∀ d x, g (Dev.setBuf d x) = g d
  port : ∀ d p x, g (Dev.setPort d p x) = g d

theorem totalsEl_gstack {s e : Nat} (hs : s < 16) (he : e = 7 ∨ e = 8) : totalsEl (key (0x0A10 + s) e) = true := by
  have ho : keyObj (key (0x0A10 + s) e) = 0x0A10 + s := by simp only [keyObj, key]; omega
  have hel : keyEl (key (0x0A10 + s) e) = e := by simp only [keyEl, key]; omega
  simp only [totalsEl, ho, hel, Bool.or_eq_true, Bool.and_eq_true, decide_eq_true_eq, beq_iff_eq]
  omega

theorem totalsEl_poolXoffState {k : Nat} (hk : k < 8) : totalsEl (K.poolXoffState k) = true := by
  have ho : keyObj (K.poolXoffState k) = 0x0910 + k := by simp only [keyObj, K.poolXoffState, key]; omega
  have hel : keyEl (K.poolXoffState k) = 0x0C := by simp only [keyEl, K.poolXoffState, key]; omega
  simp only [totalsEl, ho, hel, Bool.or_eq_true, Bool.and_eq_true, decide_eq_true_eq, beq_iff_eq, and_true]
  omega

/-- A fold whose steps keep a reading keeps it. -/
theorem foldl_keeps_of_mem {α γ : Type} {g : Dev → γ} {f : Dev → α → Dev} {l : List α} (h : ∀ d, ∀ x ∈ l, g (f d x) = g d)
    (d : Dev) :
    g (l.foldl f d) = g d :=
  List.foldlRecOn (motive := fun e => g e = g d) l f rfl fun e he x hx => (h e x hx).trans he

namespace OffTotals
variable {γ : Type} {g : Dev → γ}

theorem ite (d : Dev) {c : Prop} [Decidable c] {a b : Dev} (ha : g a = g d) (hb : g b = g d) : g (if c then a else b) = g d := by
  split <;> assumption

theorem queuePfc (h : OffTotals g) (d : Dev) (p prio t : Nat) : g (Dev.queuePfc d p prio t) = g d := by
  unfold Dev.queuePfc
  dsimp only
  exact ite d ((h.aside.perf _ _ _ _ (by decide)).trans (h.port ..)) rfl

theorem sendXoff (h : OffTotals g) (d : Dev) (b p k : Nat) : g (Dev.sendXoff d b p k) = g d :=
  ite d ((h.queuePfc ..).trans (h.buf ..)) rfl

theorem sendXon (h : OffTotals g) (d : Dev) (b p k : Nat) : g (Dev.sendXon d b p k) = g d :=
  ite d (ite d (h.buf ..) ((h.queuePfc ..).trans (h.buf ..))) rfl

theorem setPoolXoff (h : OffTotals g) (d : Dev) (s : Bool) {k : Nat} (hk : k < 8) (v : Bool) : g (Dev.setPoolXoff d s k v) = g d :=
  (h.els _ _ _ (totalsEl_poolXoffState hk)).trans (h.buf ..)

theorem spillXoff (h : OffTotals g) (d : Dev) : g (Dev.spillXoff d) = g d := by
  unfold Dev.spillXoff
  extract_lets free low
  refine foldl_keeps_of_mem (fun e k hk => ?_) d
  have hset (v : Bool) : g (Dev.setPoolXoff e true k v) = g e := h.setPoolXoff e true (List.mem_range.mp hk) v
  have hon := (foldl_keeps g _ (fun a p => h.sendXoff a (2 ^ 16) p k) (Dev.spillPorts e k) _).trans (hset true)
  have hoff := (foldl_keeps g _ (fun a p => h.sendXon a (2 ^ 16) p k) (Dev.xoffPorts e (2 ^ 16) k) _).trans (hset false)
  exact ite e (ite e hon rfl) (ite e hoff rfl)

theorem granTotals (h : OffTotals g) (d : Dev) : g (Dev.granTotals d) = g d := by
  unfold Dev.granTotals
  extract_lets n lost d₁ d₂ d₃ d₄
  have h₃ : g d₃ = g d := (h.els _ _ _ (by decide)).trans ((h.els _ _ _ (by decide)).trans (h.els _ _ _ (by decide)))
  have h₄ : g d₄ = g d₃ :=
    foldl_keeps_of_mem (fun e s hs => h.els e (K.gstackRemaps s) _ (totalsEl_gstack (List.mem_range.mp hs) (.inl rfl))) d₃
  exact (h.spillXoff _).trans ((h.els _ _ _ (by decide)).trans (h₄.trans h₃))

theorem baleCounts (h : OffTotals g) (d : Dev) (b : Nat) (taken : Bool) : g (Dev.baleCounts d b taken) = g d := by
  unfold Dev.baleCounts
  extract_lets s step d₁
  have h₁ : g d₁ = g d := ite d (h.els _ _ _ (by decide)) rfl
  exact (h.els _ _ _ (totalsEl_gstack (Nat.mod_lt _ (by decide)) (.inr rfl))).trans h₁

end OffTotals

theorem OffTotals.el {k : Nat} (ha : asideEl k = false) (ht : totalsEl k = false) : OffTotals (fun d => Dev.el d k) where
  aside := Aside.el k ha
  els d j v hj := el_setEl_ne d j k v (by rintro rfl; rw [hj] at ht; exact Bool.noConfusion ht)
  buf _ _ := rfl
  port _ _ _ := rfl

theorem OffTotals.gran : OffTotals (fun d => d.gran) := ⟨Aside.gran, fun _ _ _ _ => rfl, fun _ _ => rfl, fun _ _ _ => rfl⟩
theorem OffTotals.queues : OffTotals (fun d => d.queues) := ⟨Aside.queues, fun _ _ _ _ => rfl, fun _ _ => rfl, fun _ _ _ => rfl⟩

/-! Moves of bales and repair of segments. -/

/-- The bales and the returns of a granary exchanged. -/
def GranS.withBales (x : GranS) (bales : SMap Bale) (returns : List (Nat × Nat × Nat)) : GranS := { x with bales := bales, returns := returns }

/-- A reading that the moves of bales leave alone too. -/
structure OffMoves {γ : Type} (g : Dev → γ) : Prop extends OffTotals g where
  bales : ∀ d bs rs, g (Dev.setGran d (d.gran.withBales bs rs)) = g d
  queues : ∀ (d : Dev) x, g { d with queues := x } = g d

namespace OffMoves
variable {γ : Type} {g : Dev → γ}

theorem setBale (h : OffMoves g) (d : Dev) (b : Nat) (x : Bale) : g (Dev.setBale d b x) = g d := h.bales d (SMap.ins d.gran.bales b x) d.gran.returns

theorem retag (h : OffMoves g) (d : Dev) (b : Nat) : g (Dev.retag d b) = g d := by
  unfold Dev.retag
  split
  · exact h.setBale ..
  · rfl

theorem moveBale (h : OffMoves g) (d : Dev) (b : Nat) : g (Dev.moveBale d b) = g d := by
  unfold Dev.moveBale
  split
  · rfl
  · extract_lets x ref qs returns y d₁
    have h₁ : g d₁ = g d := (h.bales { d with queues := qs } _ _).trans (h.queues d qs)
    exact (h.toOffTotals.baleCounts ..).trans ((h.toOffTotals.baleCounts ..).trans ((h.retag ..).trans h₁))

end OffMoves

end Sys2Proof.Machine

/-! Repair of segments (R224, R225). -/
namespace Sys2Proof.Machine

theorem SMap.mem_of_find {α : Type} {m : SMap α} {k : Nat} {v : α} (h : SMap.find m k = some v) : (k, v) ∈ m := by
  induction m with
  | nil => simp [SMap.find] at h
  | cons x t ih =>
    by_cases hk : x.1 = k
    · rw [SMap.find, if_pos hk] at h
      rw [← hk, ← Option.some.inj h]
      exact List.mem_cons_self
    · rw [SMap.find, if_neg hk] at h
      exact List.mem_cons_of_mem _ (ih h)

theorem SMap.find_foldl_ins_of_mem {α : Type} {m : SMap α} {v : α} {ks : List Nat} {k : Nat} (h : k ∈ ks ∨ SMap.find m k = some v) :
    SMap.find (ks.foldl (fun m b => SMap.ins m b v) m) k = some v := by
  induction ks generalizing m with
  | nil => exact h.resolve_left (by simp)
  | cons x t ih =>
    by_cases hx : k = x
    · exact ih (.inr (hx ▸ SMap.find_ins_same ..))
    · refine ih ?_
      rw [SMap.find_ins_ne _ _ _ _ hx]
      exact h.imp_left fun hmem => (List.mem_cons.mp hmem).resolve_left hx

/-! Reserve segments. -/

theorem segKey_stack {st seg : Nat} (h : seg < 2 ^ 20) : segKey st seg / 2 ^ 20 = st ∧ segKey st seg % 2 ^ 20 = seg := by
  unfold segKey
  omega

/-- A free reserve segment replaces no segment of its stack, and has not failed. -/
theorem freeReserve_spec {d : Dev} {st r : Nat} (h : Dev.freeReserve d st = some r) :
    r < 3072 ∧ (∀ g, g < 2 ^ 20 → SMap.find d.gran.remap (segKey st g) ≠ some (r + 1))
      ∧ SMap.find d.gran.badRes (segKey st (r + 1)) = none := by
  unfold Dev.freeReserve at h
  extract_lets used at h
  have hlt : r < 3072 := (List.mem_range.mp (List.mem_of_find?_eq_some h)).trans_le (Nat.min_le_left ..)
  have hfree : r + 1 ∉ used := by simpa using List.find?_some h
  obtain ⟨hmaps, hbads⟩ := not_or.mp (List.mem_append.not.mp hfree)
  refine ⟨hlt, fun g hg hmap => hmaps ?_, ?_⟩
  · refine List.mem_map.mpr ⟨_, List.mem_filter.mpr ⟨SMap.mem_of_find hmap, ?_⟩, rfl⟩
    exact beq_iff_eq.mpr (segKey_stack hg).1
  · by_contra hbad
    obtain ⟨v, hv⟩ := Option.ne_none_iff_exists'.mp hbad
    obtain ⟨hstack, hseg⟩ := segKey_stack (st := st) (seg := r + 1) (by omega)
    exact hbads (List.mem_map.mpr ⟨_, List.mem_filter.mpr ⟨SMap.mem_of_find hv, beq_iff_eq.mpr hstack⟩, hseg⟩)

/-! SEGMENT_FAIL_DECLARE. -/

theorem gmcuAway_eq_false {d : Dev} : Dev.gmcuAway d = false ↔ Dev.el d K.fwGmcuState = 0 := by
  simp [Dev.gmcuAway]

theorem segmentFail_running {d : Dev} {st seg : Nat} (h : Dev.el d K.fwGmcuState = 0) : Dev.segmentFail d st seg = Dev.segmentFailNow d st seg :=
  segmentFail_of_runs (gmcuAway_eq_false.mpr h)

theorem segmentFail_waits {d : Dev} {st seg : Nat} (h : Dev.el d K.fwGmcuState ≠ 0) : Dev.segmentFail d st seg = Dev.gmcuLater d (.fail st seg) :=
  if_pos (Bool.not_eq_false _ ▸ gmcuAway_eq_false.not.mpr h)

theorem segmentFailNow_idleStack {d : Dev} {st seg : Nat} (h : ¬ (Dev.el d (K.gstackState st) = 0 ∨ Dev.el d (K.gstackState st) = 4)) :
    Dev.segmentFailNow d st seg = d := by
  unfold Dev.segmentFailNow
  dsimp only
  rw [if_pos]
  simpa using h

theorem segmentFailNow_segment {d : Dev} {st seg : Nat} (h : Dev.el d (K.gstackState st) = 0 ∨ Dev.el d (K.gstackState st) = 4)
    (hseg : seg < resBase) (hstands : Dev.standsFor d st seg = none) :
    Dev.segmentFailNow d st seg = if (SMap.find d.gran.remap (segKey st seg)).isSome then d else Dev.segmentReplace d st seg := by
  have hserves : (Dev.el d (K.gstackState st) != 0 && Dev.el d (K.gstackState st) != 4) = false := by
    rcases h with h | h <;> simp [h]
  unfold Dev.segmentFailNow
  simp only [hserves, Bool.false_eq_true, if_false, decide_false, Bool.false_and, hstands, Nat.not_le.mpr hseg]

theorem segmentReplace_reserve {d : Dev} {st seg r : Nat} (h : Dev.freeReserve d st = some r) :
    Dev.segmentReplace d st seg = Dev.granTotals (Dev.setGran d { d.gran with
      remap := SMap.ins d.gran.remap (segKey st seg) (r + 1), copying := SMap.set d.gran.copying (segKey st seg) true false }) := by
  unfold Dev.segmentReplace
  rw [h]

theorem segmentReplace_leaves {d : Dev} {st seg : Nat} (h : Dev.freeReserve d st = none) (hspill : seg < Dev.spillSegs d)
    (hthere : SMap.find d.gran.gone ((seg * 8) * 16 + st) = none) (hmap : SMap.find d.gran.remap (segKey st seg) = none) :
    Dev.segmentReplace d st seg = Dev.segmentOut (Dev.setGran d { d.gran with remap := SMap.del d.gran.remap (segKey st seg) }) st seg := by
  unfold Dev.segmentReplace
  rw [h]
  simp only [if_neg (Nat.not_le.mpr hspill), hthere, hmap, Option.isSome_none, Bool.false_eq_true, if_false]

/-- The bales that are out of service. -/
theorem OffMoves.gone : OffMoves (fun d => d.gran.gone) where
  aside := Aside.gran.map (fun x => x.gone)
  els _ _ _ _ := rfl
  buf _ _ := rfl
  port _ _ _ := rfl
  bales _ _ _ := rfl
  queues _ _ := rfl

theorem gone_segmentGone (d : Dev) (st seg : Nat) :
    (Dev.segmentGone d st seg).gran.gone = (segBales st seg).foldl (fun m b => SMap.ins m b true) d.gran.gone := by
  unfold Dev.segmentGone
  dsimp only
  rw [OffMoves.gone.granTotals, OffMoves.gone.aside.day]
  rfl

theorem gone_segmentOut (d : Dev) (st seg : Nat) :
    (Dev.segmentOut d st seg).gran.gone = (segBales st seg).foldl (fun m b => SMap.ins m b true) d.gran.gone := by
  unfold Dev.segmentOut
  dsimp only
  have hmoves (e : Dev) (b : Nat) : (if (SMap.find e.gran.bales b).isSome then Dev.moveBale e b else e).gran.gone = e.gran.gone :=
    OffTotals.ite (g := fun d => d.gran.gone) e (OffMoves.gone.moveBale e b) rfl
  rw [OffMoves.gone.granTotals, foldl_keeps (fun d : Dev => d.gran.gone) _ hmoves, gone_segmentGone]

theorem mem_segBales {st seg i : Nat} (hi : i < 8) : (seg * 8 + i) * 16 + st ∈ segBales st seg :=
  List.mem_map.mpr ⟨i, List.mem_range.mpr hi, rfl⟩

/-! SEGMENT_REMAP and HPPR_DONE. -/

/-- The bales keep their records. -/
def SameRecs (d e : Dev) : Prop := ∀ b, (Dev.bale e b).recs = (Dev.bale d b).recs

theorem sameRecs_of_bales {d e : Dev} (h : e.gran.bales = d.gran.bales) : SameRecs d e := fun b => by
  unfold Dev.bale
  rw [h]

theorem SameRecs.trans {d e f : Dev} (h : SameRecs d e) (g : SameRecs e f) : SameRecs d f := fun b => (g b).trans (h b)

theorem SMap.get_of_find {α : Type} {m : SMap α} {k : Nat} {v : α} (h : SMap.find m k = some v) (d : α) : SMap.get m k d = v := by
  induction m with
  | nil => simp [SMap.find] at h
  | cons x t ih =>
    simp only [SMap.find, SMap.get] at h ⊢
    split at h
    case isTrue hk => rw [if_pos hk]; exact Option.some.inj h
    case isFalse hk => rw [if_neg hk]; exact ih h

theorem bale_setBale_same (d : Dev) (b : Nat) (x : Bale) : Dev.bale (Dev.setBale d b x) b = x := SMap.get_ins_same ..
theorem bale_setBale_ne (d : Dev) {b c : Nat} (x : Bale) (h : c ≠ b) : Dev.bale (Dev.setBale d b x) c = Dev.bale d c :=
  SMap.get_ins_ne _ _ _ _ _ h

theorem sameRecs_retag (d : Dev) (b : Nat) : SameRecs d (Dev.retag d b) := by
  intro c
  unfold Dev.retag
  split
  case h_1 x hx =>
    by_cases hc : c = b
    · rw [hc, bale_setBale_same, Dev.bale, SMap.get_of_find hx]
    · rw [bale_setBale_ne _ _ hc]
  case h_2 => rfl

theorem sameRecs_retags (d : Dev) (bs : List Nat) : SameRecs d (bs.foldl Dev.retag d) :=
  List.foldlRecOn (motive := fun e => SameRecs d e) bs Dev.retag (fun _ => rfl) fun e he b _ => he.trans (sameRecs_retag e b)

/-- What the moves of bales leave of the granary: the table of replacements, and which of them are being copied. -/
theorem OffMoves.repairs : OffMoves (fun d => (d.gran.remap, d.gran.copying)) where
  aside := Aside.gran.map (fun x => (x.remap, x.copying))
  els _ _ _ _ := rfl
  buf _ _ := rfl
  port _ _ _ := rfl
  bales _ _ _ := rfl
  queues _ _ := rfl

theorem queues_retag (d : Dev) (b : Nat) : (Dev.retag d b).queues = d.queues := by
  unfold Dev.retag
  split <;> rfl

/-- The record of a part stands in the store's pending set. -/
theorem mem_persistPart (d : Dev) (id : Nat) (bs : List Byte) :
    ∃ y ∈ (Dev.persistPart d id bs).dict.cfgPend, y.id = id ∧ y.part = some bs :=
  ⟨_, List.mem_append_right _ (List.mem_singleton.mpr rfl), rfl, rfl⟩

/-- The copy of a segment has ended. -/
def Dev.copied (d : Dev) (k : Nat) : Dev := Dev.setGran d { d.gran with copying := SMap.set d.gran.copying k false false }

theorem segmentRemap_copying {d : Dev} {st seg : Nat} (h : SMap.get d.gran.copying (segKey st seg) false = true) :
    Dev.segmentRemap d st seg = Dev.setPart ((segBales st seg).foldl Dev.retag (Dev.copied d (segKey st seg))) (2 ^ 32 + segKey st seg)
      (SMap.get ((segBales st seg).foldl Dev.retag (Dev.copied d (segKey st seg))).gran.remap (segKey st seg) 0) := by
  unfold Dev.segmentRemap Dev.copied
  dsimp only
  rw [if_pos h]

theorem repairs_retags (d : Dev) (bs : List Nat) :
    (bs.foldl Dev.retag d).gran.remap = d.gran.remap ∧ (bs.foldl Dev.retag d).gran.copying = d.gran.copying :=
  Prod.mk.inj (foldl_keeps (fun d => (d.gran.remap, d.gran.copying)) Dev.retag (fun e b => OffMoves.repairs.retag e b) bs d)

theorem segmentRemap_copied {d : Dev} {st seg : Nat} (h : SMap.get d.gran.copying (segKey st seg) false = true) :
    SMap.get (Dev.segmentRemap d st seg).gran.copying (segKey st seg) false = false ∧ (Dev.segmentRemap d st seg).gran.remap = d.gran.remap
      ∧ (∃ y ∈ (Dev.segmentRemap d st seg).dict.cfgPend, y.id = 2 ^ 32 + segKey st seg
          ∧ y.part = some (leBytes 8 (SMap.get d.gran.remap (segKey st seg) 0)))
      ∧ SameRecs d (Dev.segmentRemap d st seg) ∧ (Dev.segmentRemap d st seg).queues = d.queues := by
  have hpart (e : Dev) (k v : Nat) : (Dev.setPart e k v).gran = e.gran ∧ (Dev.setPart e k v).queues = e.queues := ⟨rfl, rfl⟩
  obtain ⟨hremap, hcopying⟩ := repairs_retags (Dev.copied d (segKey st seg)) (segBales st seg)
  rw [segmentRemap_copying h, (hpart _ _ _).1, (hpart _ _ _).2, hremap, hcopying]
  refine ⟨?_, rfl, mem_persistPart .., ?_, ?_⟩
  · exact SMap.get_set_same d.gran.copying (segKey st seg) false false
  · have hrecs := sameRecs_retags (Dev.copied d (segKey st seg)) (segBales st seg)
    exact SameRecs.trans (e := Dev.copied d (segKey st seg)) (fun _ => rfl) (hrecs.trans (sameRecs_of_bales (by rw [(hpart _ _ _).1])))
  · rw [foldl_keeps (fun d : Dev => d.queues) Dev.retag queues_retag]
    rfl

/-- What a passed repair makes of the granary: the entry goes, and the bales carry the tags of their old place again. -/
theorem gran_hpprDone {d : Dev} {st seg r : Nat} (h : SMap.find d.gran.remap (segKey st seg) = some r)
    (hcopied : SMap.get d.gran.copying (segKey st seg) false = false) :
    ∃ gone, (Dev.hpprDone d st seg true).gran = ((segBales st seg).foldl Dev.retag
      (Dev.setGran d { d.gran with remap := SMap.del d.gran.remap (segKey st seg), gone := gone })).gran := by
  unfold Dev.hpprDone
  dsimp only
  rw [h]
  dsimp only
  rw [if_pos (by rw [hcopied]; rfl), OffTotals.gran.granTotals, Dev.setEl_gran, Dev.addEl_gran, Dev.persistPart_gran]
  exact ⟨_, rfl⟩

theorem hpprDone_passed {d : Dev} {st seg : Nat} (h : (SMap.find d.gran.remap (segKey st seg)).isSome = true)
    (hcopied : SMap.get d.gran.copying (segKey st seg) false = false) :
    SMap.find (Dev.hpprDone d st seg true).gran.remap (segKey st seg) = none ∧ SameRecs d (Dev.hpprDone d st seg true) := by
  obtain ⟨r, hr⟩ := Option.isSome_iff_exists.mp h
  obtain ⟨gone, hgran⟩ := gran_hpprDone hr hcopied
  constructor
  · rw [hgran, (repairs_retags ..).1]
    exact SMap.find_del_same ..
  · have hretags := sameRecs_retags (Dev.setGran d { d.gran with remap := SMap.del d.gran.remap (segKey st seg), gone := gone }) (segBales st seg)
    exact SameRecs.trans (e := Dev.setGran d _) (fun _ => rfl) (hretags.trans (sameRecs_of_bales (by rw [hgran])))

theorem hpprDone_failed (d : Dev) (st seg : Nat) : Dev.hpprDone d st seg false = d := by
  unfold Dev.hpprDone
  dsimp only
  split
  · rfl
  · rfl

theorem hpprDone_unmapped {d : Dev} {st seg : Nat} (h : SMap.find d.gran.remap (segKey st seg) = none) (ok : Bool) :
    Dev.hpprDone d st seg ok = d := by
  unfold Dev.hpprDone
  dsimp only
  rw [h]

end Sys2Proof.Machine

/-! Stacks that grow hot, and retirement (R226, R227). -/
namespace Sys2Proof.Machine

/-! The elements of the stacks. -/

/-- A stack's state or its reason of retirement. -/
def StackKey (k : Nat) : Prop := ∃ s < 16, k = K.gstackState s ∨ k = K.gstackRetireReason s

theorem stackKey_state {s : Nat} (hs : s < 16) : StackKey (K.gstackState s) := ⟨s, hs, .inl rfl⟩
theorem stackKey_reason {s : Nat} (hs : s < 16) : StackKey (K.gstackRetireReason s) := ⟨s, hs, .inr rfl⟩

theorem StackKey.obj {k : Nat} (h : StackKey k) : (0x0A10 ≤ keyObj k ∧ keyObj k < 0x0A20) ∧ (keyEl k = 1 ∨ keyEl k = 2) := by
  obtain ⟨s, hs, rfl | rfl⟩ := h <;> simp only [keyObj, keyEl, K.gstackState, K.gstackRetireReason, key] <;> omega

theorem StackKey.ne {k j : Nat} (h : StackKey k) (hj : ¬ (0x0A10 ≤ keyObj j ∧ keyObj j < 0x0A20)) : k ≠ j := by
  rintro rfl
  exact hj h.obj.1

theorem StackKey.asideEl {k : Nat} (h : StackKey k) : asideEl k = false := by
  obtain ⟨hobj, -⟩ := h.obj
  rw [← Bool.not_eq_true]
  simp only [Sys2Proof.Machine.asideEl, Bool.or_eq_true, Bool.and_eq_true, decide_eq_true_eq, beq_iff_eq]
  omega

theorem StackKey.totalsEl {k : Nat} (h : StackKey k) : totalsEl k = false := by
  obtain ⟨hobj, hel⟩ := h.obj
  rw [← Bool.not_eq_true]
  simp only [Sys2Proof.Machine.totalsEl, Bool.or_eq_true, Bool.and_eq_true, decide_eq_true_eq, beq_iff_eq]
  omega

theorem StackKey.offTotals {k : Nat} (h : StackKey k) : OffTotals (fun d => Dev.el d k) := .el h.asideEl h.totalsEl

theorem gstackState_inj {s t : Nat} : K.gstackState s = K.gstackState t ↔ s = t := by
  simp only [K.gstackState, key]
  omega

theorem gstackState_ne_reason (s t : Nat) : K.gstackState s ≠ K.gstackRetireReason t := by
  simp only [K.gstackState, K.gstackRetireReason, key]
  omega

/-! STACK_TEMP_ALARM. -/

/-- The stack is noted as hot or not. -/
def Dev.hotMarked (d : Dev) (st : Nat) (hot : Bool) : Dev := Dev.setEl d K.thmStackHot (putBits (Dev.el d K.thmStackHot) st 1 (b2n hot))

/-- The stack takes a state, and the totals follow. -/
def Dev.stackMoved (d : Dev) (st v : Nat) : Dev := Dev.granTotals (Dev.setEl d (K.gstackState st) v)

/-- What the alarm of a stack does. -/
def Dev.tempAlarm (d : Dev) (st : Nat) (hot : Bool) : Dev :=
  if hot = true ∧ bit (Dev.el d K.thmStackHot) st = false then
    Dev.event (if Dev.el d (K.gstackState st) = 0 then Dev.stackMoved (Dev.hotMarked d st hot) st 4 else Dev.hotMarked d st hot) 2 7
  else if hot = false ∧ Dev.el d (K.gstackState st) = 4 then Dev.stackMoved (Dev.hotMarked d st hot) st 0
  else Dev.hotMarked d st hot

theorem exec_stackTempAlarm (st : Fin 16) (hot : Bool) (s : State) : exec (.stackTempAlarm st hot) s = lift (fun d => Dev.tempAlarm d st hot) s := rfl

theorem state_stackMoved {st : Nat} (hst : st < 16) (d : Dev) (v : Nat) : Dev.el (Dev.stackMoved d st v) (K.gstackState st) = v :=
  ((stackKey_state hst).offTotals.granTotals _).trans (el_setEl_same ..)

theorem hot_stackMoved (d : Dev) (st v : Nat) : Dev.el (Dev.stackMoved d st v) K.thmStackHot = Dev.el d K.thmStackHot := by
  have htotals : OffTotals (fun d => Dev.el d K.thmStackHot) := .el (by decide) (by decide)
  exact (htotals.granTotals _).trans (el_setEl_ne _ _ _ _ (by simp only [K.thmStackHot, K.gstackState, key]; omega))

theorem lined_stackMoved (d : Dev) (st v : Nat) : (Dev.stackMoved d st v).lined = d.lined := lined_granTotals _

theorem sameTables_of_lined {d e : Dev} (h : e.lined = d.lined) : SameTables d e := by
  simp only [Dev.lined, Prod.mk.injEq] at h
  obtain ⟨-, -, htbl, hprog⟩ := h
  exact ⟨htbl, hprog⟩

theorem bit_hotMarked (d : Dev) (st : Nat) (hot : Bool) : bit (Dev.el (Dev.hotMarked d st hot) K.thmStackHot) st = hot := by
  have hbits : putBits (Dev.el d K.thmStackHot) st 1 (b2n hot) / 2 ^ st % 2 = b2n hot := by
    have h := bits_putBits_same (Dev.el d K.thmStackHot) st 1 (b2n hot)
    unfold bits at h
    rw [pow_one] at h
    rw [h]
    cases hot <;> rfl
  rw [Dev.hotMarked, el_setEl_same, bit, hbits]
  cases hot <;> rfl

theorem state_hotMarked {st : Nat} (hst : st < 16) (d : Dev) (hot : Bool) :
    Dev.el (Dev.hotMarked d st hot) (K.gstackState st) = Dev.el d (K.gstackState st) :=
  el_setEl_ne _ _ _ _ ((stackKey_state hst).ne (by decide))

theorem tempAlarm_heats {d : Dev} {st : Nat} (hst : st < 16) (hstate : Dev.el d (K.gstackState st) = 0)
    (hcold : bit (Dev.el d K.thmStackHot) st = false) :
    Dev.el (Dev.tempAlarm d st true) (K.gstackState st) = 4 ∧ bit (Dev.el (Dev.tempAlarm d st true) K.thmStackHot) st = true
      ∧ SameTables d (Dev.tempAlarm d st true) := by
  have hmoves : Dev.tempAlarm d st true = Dev.event (Dev.stackMoved (Dev.hotMarked d st true) st 4) 2 7 := by
    rw [Dev.tempAlarm, if_pos ⟨rfl, hcold⟩, if_pos hstate]
  rw [hmoves]
  refine ⟨?_, ?_, sameTables_of_lined ?_⟩
  · rw [(Aside.el _ (stackKey_state hst).asideEl).event fun _ => rfl]
    exact state_stackMoved hst ..
  · rw [(Aside.el K.thmStackHot (by decide)).event fun _ => rfl, hot_stackMoved, bit_hotMarked]
  · rw [lined_event, lined_stackMoved]
    rfl

theorem tempAlarm_cools {d : Dev} {st : Nat} (hst : st < 16) (hstate : Dev.el d (K.gstackState st) = 4) :
    Dev.el (Dev.tempAlarm d st false) (K.gstackState st) = 0 ∧ SameTables d (Dev.tempAlarm d st false) := by
  have hmoves : Dev.tempAlarm d st false = Dev.stackMoved (Dev.hotMarked d st false) st 0 := by
    rw [Dev.tempAlarm, if_neg (by simp), if_pos ⟨rfl, hstate⟩]
  rw [hmoves]
  exact ⟨state_stackMoved hst .., sameTables_of_lined (lined_stackMoved ..)⟩

/-- A stack that retires, has retired or has failed keeps its state: the alarm marks it, and no more. -/
theorem tempAlarm_leaves {d : Dev} {st : Nat} (hst : st < 16) (hzero : Dev.el d (K.gstackState st) ≠ 0) (hfour : Dev.el d (K.gstackState st) ≠ 4)
    (hot : Bool) : Dev.el (Dev.tempAlarm d st hot) (K.gstackState st) = Dev.el d (K.gstackState st) ∧ SameTraffic d (Dev.tempAlarm d st hot)
      ∧ SameTables d (Dev.tempAlarm d st hot) := by
  have hmarks : Dev.tempAlarm d st hot = Dev.hotMarked d st hot ∨ Dev.tempAlarm d st hot = Dev.event (Dev.hotMarked d st hot) 2 7 := by
    have hstays : ¬ (hot = false ∧ Dev.el d (K.gstackState st) = 4) := fun h => hfour h.2
    rw [Dev.tempAlarm, if_neg hzero, if_neg hstays]
    exact (ite_eq_or_eq ..).symm
  rcases hmarks with hmarks | hmarks <;> rw [hmarks]
  · exact ⟨state_hotMarked hst .., ⟨rfl, rfl, rfl, rfl, rfl, rfl, rfl⟩, rfl, rfl⟩
  · refine ⟨?_, sameTraffic_of_traffic (OffCounters.traffic.aside.event OffCounters.traffic.free _ 2 7), sameTables_of_lined (lined_event ..)⟩
    exact ((Aside.el _ (stackKey_state hst).asideEl).event (fun _ => rfl) _ 2 7).trans (state_hotMarked hst ..)

/-! A granted write of the granary's objects. -/

/-- A write of the granary's objects needs nothing done under the old value. -/
theorem beforeWrite_gran {x : WItem} (d : Dev) (hobj : 0x0A00 ≤ keyObj x.k ∧ keyObj x.k < 0x0B00) : Dev.beforeWrite d x = d := by
  have hne {j : Nat} (hj : ¬ (0x0A00 ≤ keyObj j ∧ keyObj j < 0x0B00)) : x.k ≠ j := fun h => hj (h ▸ hobj)
  unfold Dev.beforeWrite
  extract_lets o e
  have ho : 0x0A00 ≤ o ∧ o < 0x0B00 := hobj
  rw [if_neg (by omega), if_neg (by omega), if_neg (not_or.mpr ⟨hne (by decide), hne (by decide)⟩),
    if_neg (not_or.mpr ⟨hne (by decide), hne (by decide)⟩), if_neg (hne (by decide)), if_neg (by omega), if_neg (by omega)]

theorem effect_gran {ep : Nat} {d : Dev} {src : Source} {x : WItem} (old : Nat) (hgov : governed x.k = false) (hstart : isStart x.k = false)
    (hobj : 0x0A00 ≤ keyObj x.k ∧ keyObj x.k < 0x0B00) : Dev.effect ep d src x old = Dev.effectMid ep d x.k x.v.nat x.v.bytes := by
  unfold Dev.effect
  simp only [hgov, hstart, Bool.false_and, Bool.false_eq_true, if_false]
  rw [if_neg (by omega), if_neg (by omega), if_pos (by omega)]

/-- A number written to a write-only element of the granary. -/
theorem applyItems_gran {ep : Nat} {d : Dev} {src : Source} {k n : Nat} {r : DictRow} (hfind : Dict.find (keyObj k) (keyEl k) = some r)
    (hty : r.ty = .bool ∨ r.ty = .u8) (hcom : r.com = .now) (hacc : r.acc = .wo) (hobj : 0x0A00 ≤ keyObj k ∧ keyObj k < 0x0B00)
    (hstart : isStart k = false) (hgov : governed k = false) (hkept : keptBits k = none) :
    Dev.applyItems ep d src [WItem.norm (numItem k n)] = Dev.effectMid ep (Dev.noted d) k n [] := by
  have hnorm : WItem.norm (numItem k n) = numItem k n := by
    unfold WItem.norm numItem EVal.norm
    simp only [hfind, hkept]
    obtain h | h := hty <;> simp only [h]
  rw [hnorm]
  unfold Dev.applyItems
  simp only [List.map_cons, List.map_nil, List.foldl_cons, List.foldl_nil, List.zip_cons_cons, List.zip_nil_left,
    beforeWrite_gran (x := numItem k n) d hobj, putItem_wo (x := numItem k n) hfind hacc]
  unfold Dev.keepItem
  rw [effect_gran (x := numItem k n) _ hgov hstart hobj]
  simp only [numItem, hfind, hcom, hacc]
  rfl

end Sys2Proof.Machine

/-! Retirement, its end, and drift (R227, R228, R232). -/
namespace Sys2Proof.Machine

theorem StackKey.offMoves {k : Nat} (h : StackKey k) : OffMoves (fun d => Dev.el d k) where
  toOffTotals := h.offTotals
  bales _ _ _ := rfl
  queues _ _ := rfl

theorem OffMoves.rst : OffMoves (fun d => d.rst) where
  aside := Aside.rst
  els _ _ _ _ := rfl
  buf _ _ := rfl
  port _ _ _ := rfl
  bales _ _ _ := rfl
  queues _ _ := rfl

/-! STACK_RETIRE and STACK_UNRETIRE. -/

/-- The stack is marked as retiring. -/
def Dev.retiring (d : Dev) (s reason : Nat) : Dev := Dev.setEl (Dev.setEl d (K.gstackState s) 1) (K.gstackRetireReason s) reason

theorem state_retiring (d : Dev) (s reason : Nat) : Dev.el (Dev.retiring d s reason) (K.gstackState s) = 1 :=
  (el_setEl_ne _ _ _ _ (gstackState_ne_reason s s)).trans (el_setEl_same ..)

theorem reason_retiring (d : Dev) (s reason : Nat) : Dev.el (Dev.retiring d s reason) (K.gstackRetireReason s) = reason := el_setEl_same ..

/-- What the moves of bales leave alone a retirement changes by its marks alone. -/
theorem OffMoves.retireNow {γ : Type} {g : Dev → γ} (h : OffMoves g) (d : Dev) (s reason : Nat) (copy : Bool) :
    g (Dev.retireNow d s reason copy) = g (Dev.retiring d s reason) := by
  unfold Dev.retireNow
  extract_lets d₁
  have h₁ : g d₁ = g (Dev.retiring d s reason) := h.granTotals _
  split
  · exact (h.granTotals _).trans ((foldl_keeps g Dev.moveBale h.moveBale _ d₁).trans h₁)
  · exact h₁

theorem retire_running {d : Dev} (h : Dev.el d K.fwGmcuState = 0) (s reason : Nat) (copy : Bool) :
    Dev.retire d s reason copy = Dev.retireNow d s reason copy :=
  if_neg (by rw [gmcuAway_eq_false.mpr h]; exact Bool.false_ne_true)

theorem mem_inService {d : Dev} {s : Nat} (hs : s < 16) :
    s ∈ Dev.inService d ↔ Dev.el d (K.gstackState s) = 0 ∨ Dev.el d (K.gstackState s) = 1 ∨ Dev.el d (K.gstackState s) = 4 := by
  simp [Dev.inService, hs, or_assoc]

theorem applyItems_granStackRetire {ep : Nat} {d : Dev} {src : Source} {s : Nat} (h : s ∈ Dev.inService d) (hruns : Dev.el d K.fwGmcuState = 0) :
    Dev.applyItems ep d src [WItem.norm (numItem K.granStackRetire s)] = Dev.retireNow (Dev.noted d) s 1 true := by
  have hfind : Dict.find (keyObj K.granStackRetire) (keyEl K.granStackRetire)
      = some ⟨0x0A00, 1, 0x15, 1, "gran.stack.retire", .u8, .wo, .now, 0, 15, [], 0⟩ := by decide +kernel
  have hserves : (Dev.inService (Dev.noted d)).contains s = true := List.contains_iff_mem.mpr h
  rw [applyItems_gran hfind (.inr rfl) rfl rfl (by decide) (by decide) (by decide) (by decide), ← retire_running (d := Dev.noted d) hruns]
  exact if_pos hserves

theorem does_stackRetire {src : Source} {st : Fin 16} {s : State} (hg : s.grants (.stackRetire src ⟨st.val, by omega⟩))
    (hserves : Dev.el s.dev (K.gstackState st) = 0 ∨ Dev.el s.dev (K.gstackState st) = 4) (hruns : Dev.el s.dev K.fwGmcuState = 0) :
    Does (.stackRetire src ⟨st.val, by omega⟩) s (fun x => Dev.el x (K.gstackState st) = 1 ∧ Dev.el x (K.gstackRetireReason st) = 1) := by
  have happlies : Dev.applyItems s.epoch (Dev.fresh s.dev) src [WItem.norm (numItem K.granStackRetire st)] = _ :=
    applyItems_granStackRetire (d := Dev.fresh s.dev) ((mem_inService st.isLt).mpr (hserves.imp_right .inr)) hruns
  have hwarm : (Dev.applyItems s.epoch (Dev.fresh s.dev) src [WItem.norm (numItem K.granStackRetire st)]).rst.warmDue = false := by
    rw [happlies, OffMoves.rst.retireNow]
    rfl
  refine (does_grantedWrite_iff hg rfl rfl hwarm).mpr ?_
  simp only [el_reply]
  have hel {k : Nat} (hk : StackKey k) : Dev.el (Dev.applyItems s.epoch (Dev.fresh s.dev) src [WItem.norm (numItem K.granStackRetire st)]) k
      = Dev.el (Dev.retiring (Dev.noted (Dev.fresh s.dev)) st 1) k := by
    rw [happlies]
    exact hk.offMoves.retireNow ..
  exact ⟨(hel (stackKey_state st.isLt)).trans (state_retiring ..), (hel (stackKey_reason st.isLt)).trans (reason_retiring ..)⟩

theorem applyItems_gstackUnretire {ep : Nat} {d : Dev} {src : Source} (st : Fin 16) :
    Dev.applyItems ep d src [WItem.norm (numItem (K.gstackUnretire st) 1)] = Dev.persistPart (Dev.noted d) (K.gstackState st) [] := by
  have hfind : ∀ st : Fin 16, Dict.find (keyObj (K.gstackUnretire st)) (keyEl (K.gstackUnretire st))
      = some ⟨0x0A10, 16, 0x09, 1, "gstack.unretire", .bool, .wo, .now, 0, 1, [], 0⟩ := by decide +kernel
  have hplain : ∀ st : Fin 16, (0x0A00 ≤ keyObj (K.gstackUnretire st) ∧ keyObj (K.gstackUnretire st) < 0x0B00)
      ∧ isStart (K.gstackUnretire st) = false ∧ governed (K.gstackUnretire st) = false
      ∧ keptBits (K.gstackUnretire st) = none := by decide +kernel
  obtain ⟨hobj, hstart, hgov, hkept⟩ := hplain st
  rw [applyItems_gran (hfind st) (.inl rfl) rfl rfl hobj hstart hgov hkept]
  have hkey : keyObj (K.gstackUnretire st) = 0x0A10 + st ∧ keyEl (K.gstackUnretire st) = 9 := by
    simp only [keyObj, keyEl, K.gstackUnretire, key]
    omega
  have hne {j : Nat} (hj : ¬ (0x0A10 ≤ keyObj j ∧ keyObj j < 0x0A20)) : K.gstackUnretire st ≠ j := by
    rintro rfl
    exact hj (by omega)
  unfold Dev.effectMid
  extract_lets o e
  have ho : o = 0x0A10 + st := hkey.1
  rw [if_neg (hne (by decide)), if_neg (hne (by decide)), if_neg (hne (by decide)), if_neg (hne (by decide)), if_neg (by omega), if_neg (by omega),
    if_neg (hne (by decide)), if_neg (not_or.mpr ⟨hne (by decide), hne (by decide)⟩), if_pos (by refine ⟨by omega, by omega, hkey.2⟩), ho,
    Nat.add_sub_cancel_left]
  rfl

theorem does_stackUnretire {src : Source} {st : Fin 16} {s : State} (hg : s.grants (.stackUnretire src st)) :
    Does (.stackUnretire src st) s (fun x => (∃ y ∈ x.dict.cfgPend, y.id = K.gstackState st ∧ y.part = some [])
      ∧ Dev.el x (K.gstackState st) = Dev.el s.dev (K.gstackState st)) := by
  have happlies : Dev.applyItems s.epoch (Dev.fresh s.dev) src [WItem.norm (numItem (K.gstackUnretire st) 1)] = _ := applyItems_gstackUnretire st
  refine (does_grantedWrite_iff hg rfl rfl (happlies ▸ rfl)).mpr ?_
  show (∃ y ∈ (Dev.applyItems s.epoch (Dev.fresh s.dev) src [WItem.norm (numItem (K.gstackUnretire st) 1)]).dict.cfgPend, _) ∧ _
  rw [el_reply]
  show _ ∧ Dev.el (Dev.applyItems s.epoch (Dev.fresh s.dev) src [WItem.norm (numItem (K.gstackUnretire st) 1)]) _ = _
  rw [happlies]
  exact ⟨mem_persistPart .., rfl⟩

/-! RETIRE_DRAIN_END. -/

/-- What the queues and the spill region hold. -/
def Dev.stocks (d : Dev) : SMap Pkt × SMap EQueue × GranS := (d.pkts, d.queues, d.gran)

theorem OffRecords.stocks : OffRecords Dev.stocks where
  dict _ _ := rfl
  tel _ _ := rfl
  err _ _ := rfl
  hp d p h := by simp [Dev.stocks]
  out _ _ := rfl
  free _ := rfl
  fw _ _ := rfl

theorem OffTotals.stocks : OffTotals Dev.stocks where
  aside := OffRecords.stocks.off.aside
  els _ _ _ _ := rfl
  buf _ _ := rfl
  port _ _ _ := rfl

theorem OffRecords.fwEnd {γ : Type} {g : Dev → γ} (h : OffRecords g) (d : Dev) : g (Dev.fwEnd d) = g d := by
  unfold Dev.fwEnd
  split
  · rfl
  · exact (h.setBlob ..).trans ((h.dict ..).trans ((h.dict ..).trans (h.fw ..)))

theorem stocks_retireContents (d : Dev) (s : Nat) : (Dev.retireContents d s).stocks = d.stocks := by
  unfold Dev.retireContents
  dsimp only
  rw [foldl_keeps_of_mem (g := Dev.stocks) fun e i hi => OffRecords.stocks.off.aside.streamSkip e i _ (List.mem_range.mp hi)]
  exact OffTotals.ite (g := Dev.stocks) d ((OffRecords.stocks.fwEnd _).trans rfl) rfl

/-- A reading that switching a domain off leaves alone. -/
theorem granPower_keeps {γ : Type} {g : Dev → γ} (h : ∀ d k v, g (Dev.setBlob d k v) = g d) (d : Dev) : g (Dev.granPower d) = g d := by
  unfold Dev.granPower
  refine OffTotals.ite d rfl (foldl_keeps g _ (fun e i => ?_) _ d)
  exact OffTotals.ite e (h ..) rfl

/-- The end of a retirement that runs, in its steps. -/
theorem retireDone_retiring {d : Dev} {s : Nat} (h : Dev.el d (K.gstackState s) = 1) :
    Dev.retireDone d s = Dev.granPower (Dev.event (Dev.granTotals
      (if Dev.granUp (Dev.setEl (Dev.setPart (Dev.retireContents d s) (K.gstackState s) 2) (K.gstackState s) 2)
        then Dev.setEl (Dev.setEl (Dev.setPart (Dev.retireContents d s) (K.gstackState s) 2) (K.gstackState s) 2) K.granState 2
        else Dev.setEl (Dev.setPart (Dev.retireContents d s) (K.gstackState s) 2) (K.gstackState s) 2)) 2 7) := if_neg (not_not.mpr h)

theorem state_retireDone {d : Dev} {s : Nat} (hs : s < 16) (h : Dev.el d (K.gstackState s) = 1) :
    Dev.el (Dev.retireDone d s) (K.gstackState s) = 2 := by
  have hk := stackKey_state hs
  have hset (e : Dev) : Dev.el (if Dev.granUp e then Dev.setEl e K.granState 2 else e) (K.gstackState s) = Dev.el e (K.gstackState s) :=
    OffTotals.ite (g := fun d => Dev.el d (K.gstackState s)) e (el_setEl_ne _ _ _ _ (hk.ne (by decide))) rfl
  rw [retireDone_retiring h, granPower_keeps (g := fun d => Dev.el d (K.gstackState s)) (fun _ _ _ => rfl),
    (Aside.el _ hk.asideEl).event fun _ => rfl, hk.offTotals.granTotals, hset, el_setEl_same]

theorem stocks_retireDone {d : Dev} {s : Nat} (h : Dev.el d (K.gstackState s) = 1) : (Dev.retireDone d s).stocks = d.stocks := by
  have hset (e : Dev) : Dev.stocks (if Dev.granUp e then Dev.setEl e K.granState 2 else e) = e.stocks := OffTotals.ite e rfl rfl
  have hpart (e : Dev) (k v : Nat) : (Dev.setEl (Dev.setPart e k v) k v).stocks = e.stocks := rfl
  rw [retireDone_retiring h, granPower_keeps (g := Dev.stocks) (fun _ _ _ => rfl), OffRecords.stocks.off.aside.event OffRecords.stocks.free,
    OffTotals.stocks.granTotals, hset, hpart, stocks_retireContents]

theorem retireDone_notRetiring {d : Dev} {s : Nat} (h : Dev.el d (K.gstackState s) ≠ 1) : Dev.retireDone d s = d := if_pos h

end Sys2Proof.Machine

/-! Drift, scrubbing and training (R223, R228, R230 to R232). -/
namespace Sys2Proof.Machine

/-! What pauses while the granary microcontroller is reloaded (R233). -/

theorem unlessReload_running {d : Dev} (f : Dev → Dev) (h : Dev.el d K.fwGmcuState = 0) : Dev.unlessReload f d = f d :=
  if_neg (by rw [gmcuAway_eq_false.mpr h]; exact Bool.false_ne_true)

theorem unlessReload_away {d : Dev} (f : Dev → Dev) (h : Dev.el d K.fwGmcuState ≠ 0) : Dev.unlessReload f d = d :=
  if_pos (Bool.not_eq_false _ ▸ gmcuAway_eq_false.not.mpr h)

/-- A function that leaves the part as it is does so too where it pauses. -/
theorem unlessReload_same {d : Dev} {f : Dev → Dev} (h : f d = d) : Dev.unlessReload f d = d := by
  unfold Dev.unlessReload
  rw [h, ite_self]

/-! DRIFT_CHECK. -/

/-- The check is counted, and the channel's failures in a row are noted. -/
def Dev.driftNoted (d : Dev) (k n : Nat) (way : DriftWay) : Dev :=
  let d := if way = .steady then d else Dev.perf d 0x28 11 1
  Dev.setGran d { d.gran with drift := SMap.set d.gran.drift k n 0 }

/-- What a check of a channel's oscillator does. -/
def Dev.driftStep (d : Dev) (st ch : Nat) (way : DriftWay) : Dev :=
  let n := if way = .failed then SMap.get d.gran.drift (st * 4 + ch) 0 + 1 else 0
  let x := Dev.driftNoted d (st * 4 + ch) n way
  if n = 2 then Dev.autoRetire x st 3 false else x

theorem exec_driftCheck (st : Fin 16) (ch : Fin 4) (way : DriftWay) (s : State) :
    exec (.driftCheck st ch way) s = lift (Dev.unlessReload (fun d => Dev.driftStep d st ch way)) s := rfl

theorem driftStep_passes {way : DriftWay} (h : way ≠ .failed) (d : Dev) (st ch : Nat) :
    Dev.driftStep d st ch way = Dev.driftNoted d (st * 4 + ch) 0 way := by
  simp [Dev.driftStep, h]

theorem driftStep_firstFailure {d : Dev} {st ch : Nat} (h : SMap.get d.gran.drift (st * 4 + ch) 0 = 0) :
    Dev.driftStep d st ch .failed = Dev.driftNoted d (st * 4 + ch) 1 .failed := by
  simp [Dev.driftStep, h]

theorem driftNoted_spec {st : Nat} (hst : st < 16) (d : Dev) (k n : Nat) (way : DriftWay) :
    SMap.get (Dev.driftNoted d k n way).gran.drift k 0 = n ∧ (Dev.driftNoted d k n way).gran.bales = d.gran.bales
      ∧ Dev.el (Dev.driftNoted d k n way) (K.gstackState st) = Dev.el d (K.gstackState st) := by
  unfold Dev.driftNoted
  extract_lets d₁
  have hgran : d₁.gran = d.gran := OffTotals.ite (g := fun d => d.gran) d rfl (Dev.perf_gran ..)
  have hstate : Dev.el d₁ (K.gstackState st) = Dev.el d (K.gstackState st) :=
    OffTotals.ite (g := fun d => Dev.el d (K.gstackState st)) d rfl ((Aside.el _ (stackKey_state hst).asideEl).perf _ _ _ _ (by decide))
  have hbales : d₁.gran.bales = d.gran.bales := by rw [hgran]
  exact ⟨SMap.get_set_same .., hbales, hstate⟩

/-! GRANARY_TRAINING_DONE. -/

/-- A stack that failed training, now or since power-on, or whose domain is not on (R230). -/
def Dev.trainBad (d : Dev) (failed i : Nat) : Bool := bit failed i || bit d.gran.failed i || Dev.domain d (22 + i / 8) != 1

/-- The state that training and the store give a stack (R228, R230). -/
def Dev.trainTo (d : Dev) (failed i : Nat) : Nat :=
  if Dev.trainBad d failed i then 3 else if Dev.stored d (K.gstackState i) = 2 then 2 else 0

/-- The stacks are trained: those that failed are marked. -/
def Dev.stacksTrained (d : Dev) (failed : Nat) : Dev :=
  let e := (List.range 16).foldl (fun e s => Dev.setEl e (K.gstackState s) (if Dev.trainBad d failed s then 3 else 0)) d
  let mask := ((List.range 16).filter (Dev.trainBad d failed)).foldl (fun n s => n + 2 ^ s) 0
  Dev.setGran e { e.gran with trained := true, failed := mask }

/-- The stored retirements are applied (R228). -/
def Dev.retirementsApplied (d : Dev) : Dev :=
  (List.range 16).foldl (fun d s =>
    if Dev.el d (K.gstackState s) = 0 ∧ Dev.stored d (K.gstackState s) = 2 then Dev.setEl d (K.gstackState s) 2 else d) d

/-- The stored retirements and replacements are applied. -/
def Dev.storeApplied (d : Dev) : Dev :=
  let d := Dev.retirementsApplied d
  let rem := d.dict.store.filter (fun x => decide (2 ^ 32 ≤ x.1 ∧ x.1 < 2 ^ 32 + 2 ^ 24))
  let d := rem.foldl (fun d x =>
    let k := x.1 - 2 ^ 32
    let r := leNat x.2
    let gone := if r < 2 ^ 20 then d.gran.gone
      else (segBales (k / 2 ^ 20) (r - 2 ^ 20)).foldl (fun m b => SMap.ins m b true) d.gran.gone
    Dev.setGran d { d.gran with remap := SMap.ins d.gran.remap k r, gone := gone }) d
  (List.range 16).foldl (fun d s => Dev.setEl d (K.gstackPprLeft s) (Dev.pprLeft d s)) d

/-- gran.state where n stacks serve (R231). -/
def granServes (n : Nat) : Nat := if n = 0 then 3 else if n = 16 then 1 else 2

/-- gran.state is set, and the granary that has no stack left is a fatal error. -/
def Dev.granOpened (d : Dev) (n : Nat) : Dev :=
  let e := Dev.granTotals (Dev.setEl d K.granState (granServes n))
  if n = 0 then Dev.fatal e 0 7 0x0A00 0x01 0 else e

theorem granTrained_first {d : Dev} (h : d.gran.trained = false) (failed : Nat) :
    Dev.granTrained d failed = Dev.granLayout (Dev.stacksTrained d failed) := if_neg (by rw [h]; exact Bool.false_ne_true)

theorem granTrained_later {d : Dev} (h : d.gran.trained = true) (failed : Nat) : Dev.granTrained d failed = d := if_pos h

theorem granLayout_stopped {d : Dev} (h : d.fw.running = false) : Dev.granLayout d = d := if_pos (by rw [h]; simp)

theorem granLayout_first {d : Dev} (htrained : d.gran.trained = true) (hstate : Dev.el d K.granState = 0) (hruns : d.fw.running = true) :
    Dev.granLayout d = Dev.granOpened (Dev.granPower (Dev.milestone (Dev.storeApplied d) 2)) (Dev.inService (Dev.storeApplied d)).length := by
  have hgo : ¬ (!d.gran.trained || Dev.el d K.granState != 0 || !d.fw.running) = true := by simp [htrained, hstate, hruns]
  have hopens (e : Dev) (n : Nat) : (if n = 0 then Dev.fatal (Dev.granTotals (Dev.setEl e K.granState 3)) 0 7 0x0A00 0x01 0
      else Dev.granTotals (Dev.setEl e K.granState (if n = 16 then 1 else 2))) = Dev.granOpened e n := by
    unfold Dev.granOpened granServes
    by_cases hn : n = 0 <;> simp only [hn, if_true, if_false]
  unfold Dev.granLayout
  rw [if_neg hgo]
  dsimp only
  rw [hopens]
  unfold Dev.storeApplied Dev.retirementsApplied
  rfl

/-! The elements of the stacks in a walk over them. -/

/-- A walk over the stacks whose step for a stack rewrites that stack's state, as the store says, and no other's. -/
theorem state_foldl_stacks {d : Dev} {f : Dev → Nat → Dev} {v : Nat → Nat → Nat}
    (hf : ∀ e s, e.dict.store = d.dict.store → (f e s).dict.store = d.dict.store
      ∧ Dev.el (f e s) (K.gstackState s) = v s (Dev.el e (K.gstackState s))
      ∧ ∀ t, t ≠ s → Dev.el (f e s) (K.gstackState t) = Dev.el e (K.gstackState t)) (n : Nat) :
    ((List.range n).foldl f d).dict.store = d.dict.store ∧ ∀ t, Dev.el ((List.range n).foldl f d) (K.gstackState t)
      = if t < n then v t (Dev.el d (K.gstackState t)) else Dev.el d (K.gstackState t) := by
  induction n with
  | zero => exact ⟨rfl, fun t => rfl⟩
  | succ n ih =>
    obtain ⟨hstore, hels⟩ := ih
    obtain ⟨hstore', hsame, hother⟩ := hf _ n hstore
    rw [List.range_succ, List.foldl_append]
    refine ⟨hstore', fun t => ?_⟩
    by_cases ht : t = n
    · rw [ht, if_pos (Nat.lt_succ_self n)]
      exact hsame.trans (congrArg _ ((hels n).trans (if_neg (Nat.lt_irrefl n))))
    · exact (hother t ht).trans ((hels t).trans (if_congr (by omega) rfl rfl))

theorem stacksTrained_spec (d : Dev) (failed : Nat) :
    (Dev.stacksTrained d failed).dict.store = d.dict.store ∧ ∀ t, t < 16 → Dev.el (Dev.stacksTrained d failed) (K.gstackState t)
      = if Dev.trainBad d failed t then 3 else 0 := by
  obtain ⟨hstore, hels⟩ := state_foldl_stacks (d := d) (f := fun e s => Dev.setEl e (K.gstackState s) (if Dev.trainBad d failed s then 3 else 0))
    (v := fun s _ => if Dev.trainBad d failed s then 3 else 0)
    (fun e s he => ⟨he, el_setEl_same .., fun t ht => el_setEl_ne _ _ _ _ (gstackState_inj.not.mpr ht)⟩) 16
  exact ⟨hstore, fun t ht => (hels t).trans (if_pos ht)⟩

theorem state_retirementsApplied (d : Dev) {t : Nat} (ht : t < 16) : Dev.el (Dev.retirementsApplied d) (K.gstackState t)
    = if Dev.el d (K.gstackState t) = 0 ∧ Dev.stored d (K.gstackState t) = 2 then 2 else Dev.el d (K.gstackState t) := by
  refine ((state_foldl_stacks (v := fun s x => if x = 0 ∧ Dev.stored d (K.gstackState s) = 2 then 2 else x) (fun e s he => ?_) 16).2 t).trans
    (if_pos ht)
  have hstored : Dev.stored e (K.gstackState s) = Dev.stored d (K.gstackState s) := by unfold Dev.stored; rw [he]
  rw [hstored]
  by_cases hret : Dev.el e (K.gstackState s) = 0 ∧ Dev.stored d (K.gstackState s) = 2
  · rw [if_pos hret, if_pos hret]
    exact ⟨he, el_setEl_same .., fun t ht => el_setEl_ne _ _ _ _ (gstackState_inj.not.mpr ht)⟩
  · rw [if_neg hret, if_neg hret]
    exact ⟨he, rfl, fun _ _ => rfl⟩

theorem storeApplied_keeps {γ : Type} {g : Dev → γ} (hels : ∀ d s v, g (Dev.setEl d (K.gstackPprLeft s) v) = g d)
    (hgran : ∀ (d : Dev) remap gone, g (Dev.setGran d { d.gran with remap := remap, gone := gone }) = g d) (d : Dev) :
    g (Dev.storeApplied d) = g (Dev.retirementsApplied d) := by
  unfold Dev.storeApplied
  dsimp only
  rw [foldl_keeps g _ fun e s => hels e s _, foldl_keeps g _ fun e x => hgran e _ _]

theorem state_storeApplied (d : Dev) {t : Nat} (ht : t < 16) : Dev.el (Dev.storeApplied d) (K.gstackState t)
    = if Dev.el d (K.gstackState t) = 0 ∧ Dev.stored d (K.gstackState t) = 2 then 2 else Dev.el d (K.gstackState t) := by
  rw [← state_retirementsApplied d ht]
  refine storeApplied_keeps (g := fun d => Dev.el d (K.gstackState t)) (fun e s v => el_setEl_ne _ _ _ _ ?_) (fun _ _ _ => rfl) d
  simp only [K.gstackState, K.gstackPprLeft, key]
  omega

theorem trained_retirementsApplied (d : Dev) : (Dev.retirementsApplied d).gran.trained = d.gran.trained := by
  unfold Dev.retirementsApplied
  refine List.foldlRecOn (motive := fun e : Dev => e.gran.trained = d.gran.trained) _ _ rfl fun e he s _ => ?_
  split
  · exact he
  · exact he

theorem trained_storeApplied (d : Dev) : (Dev.storeApplied d).gran.trained = d.gran.trained :=
  (storeApplied_keeps (g := fun d : Dev => d.gran.trained) (fun _ _ _ => rfl) (fun _ _ _ => rfl) d).trans (trained_retirementsApplied d)

/-- The stacks as training and the store leave them. -/
theorem state_trainedStored (d : Dev) (failed : Nat) {t : Nat} (ht : t < 16) :
    Dev.el (Dev.storeApplied (Dev.stacksTrained d failed)) (K.gstackState t) = Dev.trainTo d failed t := by
  obtain ⟨hstore, hels⟩ := stacksTrained_spec d failed
  have hstored : Dev.stored (Dev.stacksTrained d failed) (K.gstackState t) = Dev.stored d (K.gstackState t) := by unfold Dev.stored; rw [hstore]
  rw [state_storeApplied _ ht, hels t ht, hstored, Dev.trainTo]
  cases Dev.trainBad d failed t
  · simp
  · simp

theorem granState_stacksTrained (d : Dev) (failed : Nat) : Dev.el (Dev.stacksTrained d failed) K.granState = Dev.el d K.granState := by
  have hset (e : Dev) (x : GranS) : Dev.el (Dev.setGran e x) K.granState = Dev.el e K.granState := rfl
  unfold Dev.stacksTrained
  dsimp only
  rw [hset]
  exact foldl_keeps_of_mem (g := fun d => Dev.el d K.granState)
    (fun _ _ hs => el_setEl_ne _ _ _ _ ((stackKey_state (List.mem_range.mp hs)).ne (by decide)).symm) d

theorem running_stacksTrained (d : Dev) (failed : Nat) : (Dev.stacksTrained d failed).fw.running = d.fw.running := by
  unfold Dev.stacksTrained
  dsimp only
  rw [Dev.setGran_fw,
    foldl_keeps (fun d : Dev => d.fw) (fun e s => Dev.setEl e (K.gstackState s) (if Dev.trainBad d failed s then 3 else 0)) fun _ _ => rfl]

/-- How many stacks serve, where each is in state 0, 2 or 3. -/
theorem granServes_inService {d : Dev} {v : Nat → Nat} (hv : ∀ t, v t = 0 ∨ v t = 2 ∨ v t = 3)
    (hd : ∀ t, t < 16 → Dev.el d (K.gstackState t) = v t) :
    granServes (Dev.inService d).length
      = if (List.range 16).all (fun i => v i != 0) then 3 else if (List.range 16).all (fun i => v i == 0) then 1 else 2 := by
  have hserves : Dev.inService d = (List.range 16).filter (fun i => v i == 0) := by
    refine List.filter_congr fun t ht => ?_
    dsimp only
    rw [hd t (List.mem_range.mp ht)]
    rcases hv t with h | h | h <;> rw [h] <;> rfl
  have hnone : (Dev.inService d).length = 0 ↔ (List.range 16).all (fun i => v i != 0) = true := by
    rw [hserves, List.length_eq_zero_iff, List.filter_eq_nil_iff, List.all_eq_true]
    simp
  have hall : (Dev.inService d).length = 16 ↔ (List.range 16).all (fun i => v i == 0) = true := by
    rw [hserves, List.all_eq_true, ← List.length_filter_eq_length_iff, List.length_range]
  simp only [granServes, hnone, hall]

/-! A fatal error's elements. -/

theorem el_crash {k : Nat} (ha : asideEl k = false) (hk : k ≠ K.errCrashCount) (d : Dev) (c : Nat) : Dev.el (Dev.crash d c) k = Dev.el d k := by
  unfold Dev.crash
  split
  · unfold Dev.crashMerge
    dsimp only
    split <;> rfl
  · extract_lets x d₁ seq hdr d₂ d₃ y d₄
    have h₄ : Dev.el d₄ k = Dev.el d k := OffTotals.ite (g := fun d => Dev.el d k) d rfl rfl
    exact ((Aside.el k ha).notice ..).trans ((el_count_of_ne ha hk).trans h₄)

theorem el_fatal {k : Nat} (ha : asideEl k = false) (hfatal : k ≠ K.errFatal) (hcount : k ≠ K.errCrashCount) (d : Dev) (b c o e u : Nat) :
    Dev.el (Dev.fatal d b c o e u) k = Dev.el d k := by
  unfold Dev.fatal
  extract_lets new d₁ s d₂ x r d₃
  have h₁ : Dev.el d₁ k = Dev.el d k := ((Aside.el k ha).raise ..).trans (el_setEl_ne _ _ _ _ hfatal)
  have hr : Dev.el r.1 k = Dev.el d₁ k := (Aside.el k ha).appendLog d₂ x
  have h₃ : Dev.el d₃ k = Dev.el d k :=
    OffTotals.ite (g := fun d => Dev.el d k) d (((Aside.el k ha).notice ..).trans (hr.trans h₁)) (hr.trans h₁)
  exact OffTotals.ite (g := fun d => Dev.el d k) d ((el_crash ha hcount ..).trans h₃) h₃

end Sys2Proof.Machine

/-! The end of training, and the reload of the granary microcontroller (R230, R233, R313, R451). -/
namespace Sys2Proof.Machine

/-! gran.state. -/

/-- What totals, errors and gran.state's write leave alone stays as the granary opens. -/
theorem granOpened_keeps {γ : Type} {g : Dev → γ} (h : OffTotals g) (hset : ∀ d v, g (Dev.setEl d K.granState v) = g d)
    (hfatal : ∀ d b c o e u, g (Dev.fatal d b c o e u) = g d) (d : Dev) (n : Nat) : g (Dev.granOpened d n) = g d := by
  unfold Dev.granOpened
  dsimp only
  split
  · rw [hfatal, h.granTotals, hset]
  · rw [h.granTotals, hset]

theorem granState_granOpened (d : Dev) (n : Nat) : Dev.el (Dev.granOpened d n) K.granState = granServes n := by
  have htotals : OffTotals (fun d => Dev.el d K.granState) := .el (by decide) (by decide)
  unfold Dev.granOpened
  dsimp only
  split
  · rw [el_fatal (by decide) (by decide) (by decide), htotals.granTotals, el_setEl_same]
  · rw [htotals.granTotals, el_setEl_same]

theorem state_granOpened {t : Nat} (ht : t < 16) (d : Dev) (n : Nat) :
    Dev.el (Dev.granOpened d n) (K.gstackState t) = Dev.el d (K.gstackState t) := by
  have hk := stackKey_state ht
  exact granOpened_keeps hk.offTotals (fun d v => el_setEl_ne _ _ _ _ (hk.ne (by decide)))
    (fun d => el_fatal hk.asideEl (hk.ne (by decide)) (hk.ne (by decide)) d) d n

theorem gran_granOpened (d : Dev) (n : Nat) : (Dev.granOpened d n).gran = d.gran := by
  have hstocks : (Dev.granOpened d n).stocks = d.stocks := granOpened_keeps OffTotals.stocks (fun _ _ => rfl) (fun d => OffRecords.stocks.fatal d) d n
  simp only [Dev.stocks, Prod.mk.injEq] at hstocks
  exact hstocks.2.2

/-- A reading that the domains and the milestones leave alone. -/
theorem poweredStep_keeps {γ : Type} {g : Dev → γ} (h : ∀ d k v, g (Dev.setBlob d k v) = g d) (d : Dev) (i : Nat) :
    g (Dev.granPower (Dev.milestone d i)) = g d := by
  rw [granPower_keeps h]
  exact OffTotals.ite (g := g) d (h ..) rfl

theorem granTrained_stopped {d : Dev} {st : Nat} (hst : st < 16) (htrained : d.gran.trained = false) (hruns : d.fw.running = false) (failed : Nat) :
    (Dev.granTrained d failed).gran.trained = true
      ∧ Dev.el (Dev.granTrained d failed) (K.gstackState st) = (if Dev.trainBad d failed st then 3 else 0)
      ∧ Dev.el (Dev.granTrained d failed) K.granState = Dev.el d K.granState := by
  rw [granTrained_first htrained, granLayout_stopped (by rw [running_stacksTrained]; exact hruns)]
  exact ⟨rfl, (stacksTrained_spec d failed).2 st hst, granState_stacksTrained d failed⟩

theorem granTrained_running {d : Dev} {st : Nat} (hst : st < 16) (htrained : d.gran.trained = false) (hruns : d.fw.running = true)
    (hstate : Dev.el d K.granState = 0) (failed : Nat) :
    (Dev.granTrained d failed).gran.trained = true
      ∧ Dev.el (Dev.granTrained d failed) (K.gstackState st) = Dev.trainTo d failed st
      ∧ Dev.el (Dev.granTrained d failed) K.granState
        = (if (List.range 16).all (fun i => Dev.trainTo d failed i != 0) then 3
          else if (List.range 16).all (fun i => Dev.trainTo d failed i == 0) then 1 else 2) := by
  have hvalues (t : Nat) : Dev.trainTo d failed t = 0 ∨ Dev.trainTo d failed t = 2 ∨ Dev.trainTo d failed t = 3 := by
    unfold Dev.trainTo
    split_ifs <;> simp
  have hstacks : (Dev.stacksTrained d failed).gran.trained = true := rfl
  rw [granTrained_first htrained, granLayout_first hstacks ((granState_stacksTrained ..).trans hstate) ((running_stacksTrained ..).trans hruns)]
  refine ⟨?_, ?_, ?_⟩
  · rw [gran_granOpened, poweredStep_keeps (g := fun d : Dev => d.gran) (fun _ _ _ => rfl), trained_storeApplied, hstacks]
  · rw [state_granOpened hst, poweredStep_keeps (g := fun d => Dev.el d (K.gstackState st)) (fun _ _ _ => rfl), state_trainedStored d failed hst]
  · rw [granState_granOpened]
    exact granServes_inService hvalues fun t ht => state_trainedStored d failed ht

/-! What waits for the microcontroller (R233). -/

/-- A reading that repair and retirement leave alone, as long as it reads of the granary's repairs only what waits. -/
structure OffRepairs {γ : Type} (g : Dev → γ) : Prop extends OffMoves g where
  gran : ∀ (d : Dev) x, x.later = d.gran.later → g (Dev.setGran d x) = g d
  parts : ∀ d id bs, g (Dev.persistPart d id bs) = g d
  marks : ∀ d k v, StackKey k → g (Dev.setEl d k v) = g d
  lost : ∀ d v, g (Dev.setEl d K.granSegmentsLost v) = g d

namespace OffRepairs
variable {γ : Type} {g : Dev → γ}

theorem segmentGone (h : OffRepairs g) (d : Dev) (st seg : Nat) : g (Dev.segmentGone d st seg) = g d := by
  have hcounts (e : Dev) : g (Dev.day (Dev.addEl e 32 K.granSegmentsLost 1) 9) = g e := (h.aside.day _ 9).trans (h.lost ..)
  unfold Dev.segmentGone
  dsimp only
  rw [h.granTotals, hcounts, h.gran _ _ (by rfl)]

theorem segmentOut (h : OffRepairs g) (d : Dev) (st seg : Nat) : g (Dev.segmentOut d st seg) = g d := by
  unfold Dev.segmentOut
  dsimp only
  rw [h.granTotals, foldl_keeps g _ (fun e b => OffTotals.ite e (h.moveBale e b) rfl), h.segmentGone]

theorem segmentBorrow (h : OffRepairs g) (d : Dev) (st seg : Nat) : g (Dev.segmentBorrow d st seg) = g d := by
  unfold Dev.segmentBorrow
  split
  · exact (h.segmentGone ..).trans (h.gran _ _ rfl)
  · exact OffTotals.ite d rfl (h.gran _ _ rfl)

theorem segmentReplace (h : OffRepairs g) (d : Dev) (st seg : Nat) : g (Dev.segmentReplace d st seg) = g d := by
  unfold Dev.segmentReplace
  dsimp only
  split
  · rw [h.granTotals]
    exact h.gran _ _ rfl
  · have hpart : g (if (SMap.find d.gran.remap (segKey st seg)).isSome then Dev.persistPart d (2 ^ 32 + segKey st seg) [] else d) = g d :=
      OffTotals.ite d (h.parts ..) rfl
    refine OffTotals.ite d (h.segmentBorrow ..) (OffTotals.ite d rfl ?_)
    rw [h.segmentOut, h.gran _ _ (by rfl), hpart]

theorem segmentFailNow (h : OffRepairs g) (d : Dev) (st seg : Nat) : g (Dev.segmentFailNow d st seg) = g d := by
  unfold Dev.segmentFailNow
  extract_lets v res src d₁
  have h₁ : g d₁ = g d := OffTotals.ite d (h.gran _ _ rfl) rfl
  refine OffTotals.ite d rfl (OffTotals.ite d rfl ?_)
  split
  · exact (h.segmentReplace ..).trans h₁
  · exact OffTotals.ite d ((h.granTotals _).trans h₁) (OffTotals.ite d h₁ ((h.segmentReplace ..).trans h₁))

theorem retiringNow (h : OffRepairs g) (d : Dev) {s : Nat} (hs : s < 16) (reason : Nat) (copy : Bool) : g (Dev.retireNow d s reason copy) = g d := by
  rw [h.toOffMoves.retireNow]
  exact (h.marks _ _ _ (stackKey_reason hs)).trans (h.marks _ _ _ (stackKey_state hs))

theorem payOwed (h : OffRepairs g) (d : Dev) (st : Nat) : g (Dev.payOwed d st) = g d := by
  unfold Dev.payOwed
  refine OffTotals.ite d rfl ?_
  split
  · exact h.segmentBorrow ..
  · rfl

end OffRepairs

/-- The microcontroller's state, what waits for it, and the reloads that wait. -/
def Dev.gmcuWork (d : Dev) : Nat × List GranWork × List Reload := (Dev.el d K.fwGmcuState, d.gran.later, d.fw.reloads)

theorem OffRepairs.gmcuWork : OffRepairs Dev.gmcuWork := by
  have hel : OffTotals (fun d => Dev.el d K.fwGmcuState) := .el (by decide) (by decide)
  have hset {d : Dev} {k v : Nat} (hk : k ≠ K.fwGmcuState) : Dev.gmcuWork (Dev.setEl d k v) = Dev.gmcuWork d := by
    unfold Dev.gmcuWork
    rw [el_setEl_ne _ _ _ _ hk.symm]
    rfl
  have haside : Aside Dev.gmcuWork := {
    vals := fun d k v hk => hset (by rintro rfl; revert hk; decide)
    tel := fun _ _ => rfl
    err := fun _ _ => rfl
    hp := fun d p x => by
      unfold Dev.gmcuWork
      rw [hel.aside.hp, Dev.setHp_gran, Dev.setHp_fw]
    out := fun _ _ => rfl
    tok := fun _ _ => rfl }
  exact {
    aside := haside
    els := fun d k v hk => hset (by rintro rfl; revert hk; decide)
    buf := fun _ _ => rfl
    port := fun _ _ _ => rfl
    bales := fun _ _ _ => rfl
    queues := fun _ _ => rfl
    gran := fun d x hx => by
      unfold Dev.gmcuWork
      exact congrArg (fun l => (Dev.el d K.fwGmcuState, l, d.fw.reloads)) hx
    parts := fun _ _ _ => rfl
    marks := fun d k v hk => hset (hk.ne (by decide))
    lost := fun d v => hset (by decide) }

/-- One piece of work that has waited. -/
def Dev.resumeWork (d : Dev) (w : GranWork) : Dev :=
  match w with
  | .fail st seg => Dev.segmentFail d st seg
  | .retire s reason copy => if (Dev.inService d).contains s then Dev.retire d s reason copy else d

theorem lt_of_inService {d : Dev} {s : Nat} (h : (Dev.inService d).contains s = true) : s < 16 :=
  List.mem_range.mp (List.mem_of_mem_filter (List.contains_iff_mem.mp h))

theorem gmcuWork_resumeWork {d : Dev} (hruns : Dev.el d K.fwGmcuState = 0) (w : GranWork) : (Dev.resumeWork d w).gmcuWork = d.gmcuWork := by
  cases w with
  | fail st seg =>
    rw [Dev.resumeWork, segmentFail_running hruns]
    exact OffRepairs.gmcuWork.segmentFailNow ..
  | retire s reason copy =>
    unfold Dev.resumeWork
    dsimp only
    split
    case isTrue hs =>
      rw [retire_running hruns]
      exact OffRepairs.gmcuWork.retiringNow _ (lt_of_inService hs) ..
    case isFalse => rfl

theorem gmcuWork_granResume {d : Dev} (hruns : Dev.el d K.fwGmcuState = 0) : (Dev.granResume d).gmcuWork = (0, [], d.fw.reloads) := by
  have hwork : ((d.gran.later.foldl Dev.resumeWork (Dev.setGran d { d.gran with later := [] }))).gmcuWork = (0, [], d.fw.reloads) := by
    refine List.foldlRecOn (motive := fun e : Dev => e.gmcuWork = (0, [], d.fw.reloads)) _ _ (by rw [← hruns]; rfl) fun e he w _ => ?_
    exact (gmcuWork_resumeWork (Prod.mk.inj he).1 w).trans he
  exact (foldl_keeps Dev.gmcuWork Dev.payOwed OffRepairs.gmcuWork.payOwed _ _).trans hwork

/-! GMCU_RELOAD. -/

/-- What is kept of the granary microcontroller and of the packets' way. -/
def GmcuKeeps (d x : Dev) : Prop := Dev.el x K.fwGmcuState = Dev.el d K.fwGmcuState ∧ SameTraffic d x ∧ SameTables d x

theorem GmcuKeeps.of_steady {L : Nat → Prop} {d x : Dev} (h : Steady (· = K.fwGmcuState) L d x) : GmcuKeeps d x :=
  ⟨h.els _ rfl, h.traffic, h.tables⟩

theorem GmcuKeeps.refl (d : Dev) : GmcuKeeps d d := .of_steady (L := fun _ => True) (.refl d)

/-- The reload that begins is another unit's. -/
theorem gmcuKeeps_reloadStart {u : Reload} (hu : u ≠ .gmcu) (d : Dev) : GmcuKeeps d (Dev.reloadStart d u) := by
  cases u with
  | gmcu => exact absurd rfl hu
  | pctl => exact .of_steady (Steady.setEl (P := (· = K.fwGmcuState)) (L := fun _ => True) (by decide) 1 (.refl d))
  | tile t =>
    exact .of_steady (steady_mcuReload (P := (· = K.fwGmcuState)) (by simp only [K.fwGmcuState, K.tileMcuState, key]; omega))

theorem gmcuKeeps_reloadNext {us : List Reload} (hus : Reload.gmcu ∉ us) (d : Dev) : GmcuKeeps d (Dev.reloadNext us d) := by
  induction us with
  | nil => exact .refl d
  | cons u us ih =>
    obtain ⟨hu, hus⟩ := not_or.mp (List.mem_cons.not.mp hus)
    unfold Dev.reloadNext
    extract_lets off
    split
    · exact ih hus
    · exact gmcuKeeps_reloadStart (fun h => hu h.symm) { d with fw := { d.fw with reloads := u :: us } }

theorem gmcuKeeps_reloadEnd {d : Dev} (h : Reload.gmcu ∉ d.fw.reloads.tail) (u : Reload) : GmcuKeeps d (Dev.reloadEnd d u) := by
  unfold Dev.reloadEnd
  split
  case h_1 v rest hrel =>
    split
    · exact gmcuKeeps_reloadNext (by rw [hrel] at h; exact h) d
    · exact .refl d
  case h_2 => exact .refl d

/-- What GMCU_RELOAD does. -/
def Dev.gmcuReloaded (d : Dev) (way : ReloadWay) : Dev :=
  let d := if way = .memory then Dev.containedF d 7 (keyObj K.fwGmcuState) (keyEl K.fwGmcuState) 0 else d
  let d := Dev.setEl d K.fwGmcuState (ReloadWay.code way)
  let d := if way = .runs then Dev.granResume d else d
  if ReloadWay.code way = 1 then d else Dev.reloadEnd d .gmcu

theorem exec_gmcuReload (way : ReloadWay) (s : State) : exec (.gmcuReload way) s = lift (fun d => Dev.gmcuReloaded d way) s := rfl

theorem gmcuReloaded_begins (d : Dev) : Dev.gmcuReloaded d .begins = Dev.setEl d K.fwGmcuState 1 := by
  simp [Dev.gmcuReloaded, ReloadWay.code]

theorem gmcuReloaded_memory (d : Dev) : Dev.gmcuReloaded d .memory
    = Dev.setEl (Dev.containedF d 7 (keyObj K.fwGmcuState) (keyEl K.fwGmcuState) 0) K.fwGmcuState 1 := by
  simp [Dev.gmcuReloaded, ReloadWay.code]

theorem gmcuReloaded_runs (d : Dev) : Dev.gmcuReloaded d .runs = Dev.reloadEnd (Dev.granResume (Dev.setEl d K.fwGmcuState 0)) .gmcu := by
  simp [Dev.gmcuReloaded, ReloadWay.code]

theorem gmcuReloaded_fails (d : Dev) : Dev.gmcuReloaded d .fails = Dev.reloadEnd (Dev.setEl d K.fwGmcuState 2) .gmcu := by
  simp [Dev.gmcuReloaded, ReloadWay.code]

theorem contained_gmcuReloaded (d : Dev) :
    Dev.el (Dev.gmcuReloaded d .memory) K.fwGmcuState = 1 ∧ SameTraffic d (Dev.gmcuReloaded d .memory)
      ∧ SameTables d (Dev.gmcuReloaded d .memory)
      ∧ Dev.el (Dev.gmcuReloaded d .memory) K.errContained = (Dev.el d K.errContained + 1) % 2 ^ 64 := by
  have hcount : Unnoted (· = K.errContained) := by
    rintro k hk rfl
    simp [noteEl] at hk
  have herror : Steady (· = K.errContained) (fun _ => True) _ (Dev.containedF d 7 (keyObj K.fwGmcuState) (keyEl K.fwGmcuState) 0) :=
    .contained_set hcount 7 _ _ _ _
  rw [gmcuReloaded_memory]
  exact ⟨el_setEl_same .., herror.traffic, herror.tables,
    (el_setEl_ne _ _ _ _ (by decide)).trans ((herror.els _ rfl).trans (el_setEl_same ..))⟩

theorem resumed_gmcuReloaded {d : Dev} (h : Reload.gmcu ∉ d.fw.reloads.tail) :
    Dev.el (Dev.gmcuReloaded d .runs) K.fwGmcuState = 0 ∧ (Dev.gmcuReloaded d .runs).gran.later = [] := by
  have hwork : (Dev.granResume (Dev.setEl d K.fwGmcuState 0)).gmcuWork = (0, [], d.fw.reloads) := gmcuWork_granResume (el_setEl_same ..)
  simp only [Dev.gmcuWork, Prod.mk.injEq] at hwork
  obtain ⟨hstate, hlater, hreloads⟩ := hwork
  obtain ⟨hkept, ⟨-, -, -, -, -, hgran, -⟩, -⟩ :=
    gmcuKeeps_reloadEnd (d := Dev.granResume (Dev.setEl d K.fwGmcuState 0)) (by rw [hreloads]; exact h) .gmcu
  rw [gmcuReloaded_runs, hkept, hgran]
  exact ⟨hstate, hlater⟩

theorem failed_gmcuReloaded {d : Dev} (h : Reload.gmcu ∉ d.fw.reloads.tail) :
    Dev.el (Dev.gmcuReloaded d .fails) K.fwGmcuState = 2 ∧ SameTraffic d (Dev.gmcuReloaded d .fails)
      ∧ SameTables d (Dev.gmcuReloaded d .fails) := by
  obtain ⟨hkept, htraffic, htables⟩ := gmcuKeeps_reloadEnd (d := Dev.setEl d K.fwGmcuState 2) h .gmcu
  rw [gmcuReloaded_fails]
  exact ⟨hkept.trans (el_setEl_same ..), htraffic, htables⟩

/-! TEL_STORE_MIGRATE. -/

/-- Where each slot takes one value, each value stands at its slot. -/
theorem find_foldl_slots {α : Type} {slot : α → Nat} {l : List (Nat × α)} (h : ∀ a ∈ l, ∀ b ∈ l, slot a.2 = slot b.2 → a.2 = b.2)
    (m : SMap α) {a : Nat × α} (ha : a ∈ l) : SMap.find (l.foldl (fun m x => SMap.ins m (slot x.2) x.2) m) (slot a.2) = some a.2 := by
  induction l using List.reverseRecOn with
  | nil => cases ha
  | append_singleton l y ih =>
    rw [List.foldl_append, List.foldl_cons, List.foldl_nil]
    by_cases hslot : slot a.2 = slot y.2
    · rw [hslot, SMap.find_ins_same, h a ha y (by simp) hslot]
    · rw [SMap.find_ins_ne _ _ _ _ hslot]
      refine ih (fun b hb c hc => h b (List.mem_append_left _ hb) c (List.mem_append_left _ hc)) ?_
      refine (List.mem_append.mp ha).resolve_right fun hy => hslot ?_
      rw [List.mem_singleton.mp hy]

theorem telMigrate_down {d : Dev} (h : Dev.granUp d = false) : Dev.telMigrate d = d := if_neg (by rw [h]; exact Bool.false_ne_true)

theorem telMigrate_up {d : Dev} (h : Dev.granUp d = true) : Dev.telMigrate d = { d with tel := { d.tel with
    recs := d.tel.recs.foldl (fun m x => SMap.ins m (bits x.2 32 64 % Dev.el d K.telStoreCapacity) x.2) [], inRegion := true } } := if_pos h

end Sys2Proof.Machine

/-! The commands of repair, retirement and training, and O37. -/
namespace Sys2Proof.Machine

/-! The commands as lifts. -/

theorem exec_segmentFailDeclare (st : Fin 16) (seg : Fin 131072) (s : State) :
    exec (.segmentFailDeclare st seg) s = lift (fun d => Dev.segmentFail d st seg) s := rfl
theorem exec_segmentRemap (st : Fin 16) (seg : Fin 131072) (s : State) :
    exec (.segmentRemap st seg) s = lift (Dev.unlessReload (fun d => Dev.segmentRemap d st seg)) s := rfl
theorem exec_hpprDone (st : Fin 16) (seg : Fin 131072) (ok : Bool) (s : State) :
    exec (.hpprDone st seg ok) s = lift (Dev.unlessReload (fun d => Dev.hpprDone d st seg ok)) s := rfl
theorem exec_retireDrainEnd (st : Fin 16) (s : State) :
    exec (.retireDrainEnd st) s = lift (Dev.unlessReload (fun d => Dev.retireDone d st)) s := rfl
theorem exec_granaryTrainingDone (failed : Fin 65536) (s : State) :
    exec (.granaryTrainingDone failed) s = lift (fun d => Dev.granTrained d failed) s := rfl
theorem exec_telStoreMigrate (s : State) : exec .telStoreMigrate s = lift Dev.telMigrate s := rfl

/-- A command that pauses during a reload does, while the microcontroller runs, what its function makes of the part. -/
theorem does_unlessReload {c : Instr} {s : State} {f : Dev → Dev} {P : Dev → Prop} (hc : exec c s = lift (Dev.unlessReload f) s) (hl : s.lit)
    (hruns : Dev.el s.dev K.fwGmcuState = 0) : Does c s P ↔ P (f s.dev) := by
  rw [does_lift_iff hc hl, unlessReload_running f hruns]

/-- During a reload such a command changes nothing. -/
theorem exec_away {c : Instr} {s : State} {f : Dev → Dev} (hc : exec c s = lift (Dev.unlessReload f) s) (haway : Dev.el s.dev K.fwGmcuState ≠ 0) :
    exec c s = .next s := hc.trans (lift_same (unlessReload_away f haway))

/-- Nor does it where its function changes nothing. -/
theorem exec_idle {c : Instr} {s : State} {f : Dev → Dev} (hc : exec c s = lift (Dev.unlessReload f) s) (h : f s.dev = s.dev) :
    exec c s = .next s := hc.trans (lift_same (unlessReload_same h))

/-! SEGMENT_FAIL_DECLARE. -/

/-- A segment that needs a replacement for the first time. -/
def Dev.FreshFailure (d : Dev) (st seg : Nat) : Prop :=
  Dev.el d K.fwGmcuState = 0 ∧ (Dev.el d (K.gstackState st) = 0 ∨ Dev.el d (K.gstackState st) = 4) ∧ seg < resBase
    ∧ SMap.find d.gran.remap (segKey st seg) = none ∧ Dev.standsFor d st seg = none

theorem segmentFail_fresh {d : Dev} {st seg : Nat} (h : Dev.FreshFailure d st seg) : Dev.segmentFail d st seg = Dev.segmentReplace d st seg := by
  obtain ⟨hruns, hworks, hseg, hmap, hstands⟩ := h
  rw [segmentFail_running hruns, segmentFailNow_segment hworks hseg hstands, hmap]
  exact if_neg Bool.false_ne_true

section
variable {s : State} (hl : s.lit) (st : Fin 16) (seg : Fin 131072)
include hl

theorem does_segmentFail_reserve {r : Nat} (hfresh : Dev.FreshFailure s.dev st seg) (hr : Dev.freeReserve s.dev st = some r) :
    Does (.segmentFailDeclare st seg) s (fun x => r < 3072 ∧ SMap.find x.gran.remap (segKey st seg) = some (r + 1)
      ∧ (∀ g : Fin 131072, SMap.find s.dev.gran.remap (segKey st g) ≠ some (r + 1))
      ∧ SMap.find s.dev.gran.badRes (segKey st (r + 1)) = none
      ∧ SMap.get x.gran.copying (segKey st seg) false = true ∧ x.gran.bales = s.dev.gran.bales ∧ x.queues = s.dev.queues) := by
  obtain ⟨hlt, hunused, hgood⟩ := freeReserve_spec hr
  rw [does_lift_iff (exec_segmentFailDeclare st seg s) hl, segmentFail_fresh hfresh, segmentReplace_reserve hr, OffTotals.gran.granTotals,
    OffTotals.queues.granTotals]
  exact ⟨hlt, SMap.find_ins_same .., fun g => hunused g (g.isLt.trans (by decide)), hgood,
    SMap.get_set_same s.dev.gran.copying _ true false, rfl, rfl⟩

theorem does_segmentFail_leaves (hfresh : Dev.FreshFailure s.dev st seg) (hnone : Dev.freeReserve s.dev st = none)
    (hspill : seg.val < Dev.spillSegs s.dev) (hthere : SMap.find s.dev.gran.gone ((seg * 8) * 16 + st) = none) :
    Does (.segmentFailDeclare st seg) s (fun x => ∀ i, i < 8 → SMap.find x.gran.gone ((seg * 8 + i) * 16 + st) = some true) := by
  obtain ⟨-, -, -, hmap, -⟩ := id hfresh
  rw [does_lift_iff (exec_segmentFailDeclare st seg s) hl, segmentFail_fresh hfresh, segmentReplace_leaves hnone hspill hthere hmap,
    gone_segmentOut]
  exact fun i hi => SMap.find_foldl_ins_of_mem (.inl (mem_segBales hi))

theorem exec_segmentFail_waits (haway : Dev.el s.dev K.fwGmcuState ≠ 0) :
    exec (.segmentFailDeclare st seg) s = .next { s with dev := Dev.setGran s.dev { s.dev.gran with
      later := s.dev.gran.later.filter (fun w => w != .fail st seg) ++ [.fail st seg] } } :=
  (lift_lit (fun d => Dev.segmentFail d st seg) hl).trans (congrArg (fun x => Host.Outcome.next { s with dev := x }) (segmentFail_waits haway))

theorem does_segmentRemap (hruns : Dev.el s.dev K.fwGmcuState = 0) (hcopying : SMap.get s.dev.gran.copying (segKey st seg) false = true) :
    Does (.segmentRemap st seg) s (fun x => SMap.get x.gran.copying (segKey st seg) false = false ∧ x.gran.remap = s.dev.gran.remap
      ∧ (∃ y ∈ x.dict.cfgPend, y.id = 2 ^ 32 + segKey st seg ∧ y.part = some (leBytes 8 (SMap.get s.dev.gran.remap (segKey st seg) 0)))
      ∧ (∀ b, (Dev.bale x b).recs = (Dev.bale s.dev b).recs) ∧ x.queues = s.dev.queues) :=
  (does_unlessReload (exec_segmentRemap st seg s) hl hruns).mpr (segmentRemap_copied hcopying)

theorem does_hpprDone (hruns : Dev.el s.dev K.fwGmcuState = 0) (hmap : (SMap.find s.dev.gran.remap (segKey st seg)).isSome = true)
    (hcopied : SMap.get s.dev.gran.copying (segKey st seg) false = false) :
    Does (.hpprDone st seg true) s (fun x => SMap.find x.gran.remap (segKey st seg) = none
      ∧ ∀ b, (Dev.bale x b).recs = (Dev.bale s.dev b).recs) :=
  (does_unlessReload (exec_hpprDone st seg true s) hl hruns).mpr (hpprDone_passed hmap hcopied)

theorem does_retireDrainEnd (hruns : Dev.el s.dev K.fwGmcuState = 0) (hstate : Dev.el s.dev (K.gstackState st) = 1) :
    Does (.retireDrainEnd st) s (fun x => Dev.el x (K.gstackState st) = 2 ∧ x.pkts = s.dev.pkts ∧ x.queues = s.dev.queues
      ∧ x.gran.bales = s.dev.gran.bales) := by
  have hstocks := stocks_retireDone hstate
  simp only [Dev.stocks, Prod.mk.injEq] at hstocks
  obtain ⟨hpkts, hqueues, hgran⟩ := hstocks
  exact (does_unlessReload (exec_retireDrainEnd st s) hl hruns).mpr ⟨state_retireDone st.isLt hstate, hpkts, hqueues, by rw [hgran]⟩

theorem does_granaryScrubPass (w : ScrubWay) (m : Nat) (hruns : Dev.el s.dev K.fwGmcuState = 0) :
    Does (.granaryScrubPass w m) s (fun x => Dev.el x K.granScrubLastPass = m % 2 ^ 32) :=
  (does_unlessReload rfl hl hruns).mpr (el_setEl_same ..)

/-- The clauses of a channel's check. -/
theorem does_driftCheck (hruns : Dev.el s.dev K.fwGmcuState = 0) (ch : Fin 4) :
    (∀ way, way ≠ DriftWay.failed → Does (.driftCheck st ch way) s (fun x => SMap.get x.gran.drift (st * 4 + ch) 0 = 0
      ∧ x.gran.bales = s.dev.gran.bales ∧ Dev.el x (K.gstackState st) = Dev.el s.dev (K.gstackState st)))
    ∧ (SMap.get s.dev.gran.drift (st * 4 + ch) 0 = 0 → Does (.driftCheck st ch .failed) s (fun x => SMap.get x.gran.drift (st * 4 + ch) 0 = 1
      ∧ x.gran.bales = s.dev.gran.bales ∧ Dev.el x (K.gstackState st) = Dev.el s.dev (K.gstackState st))) := by
  refine ⟨fun way hway => ?_, fun hnone => ?_⟩
  · rw [does_unlessReload (exec_driftCheck st ch way s) hl hruns, driftStep_passes hway]
    exact driftNoted_spec st.isLt ..
  · rw [does_unlessReload (exec_driftCheck st ch .failed s) hl hruns, driftStep_firstFailure hnone]
    exact driftNoted_spec st.isLt ..

/-- The clauses of the microcontroller's reload. -/
theorem gmcuReload_spec : exec (.gmcuReload .begins) s = .next { s with dev := Dev.setEl s.dev K.fwGmcuState 1 }
    ∧ Does (.gmcuReload .memory) s (fun x => Dev.el x K.fwGmcuState = 1 ∧ SameTraffic s.dev x ∧ SameTables s.dev x
        ∧ (Dev.el s.dev K.errContained < 2 ^ 64 → Dev.el x K.errContained = (Dev.el s.dev K.errContained + 1) % 2 ^ 64))
    ∧ (Reload.gmcu ∉ s.dev.fw.reloads.tail →
        Does (.gmcuReload .runs) s (fun x => Dev.el x K.fwGmcuState = 0 ∧ x.gran.later = [])
        ∧ Does (.gmcuReload .fails) s (fun x => Dev.el x K.fwGmcuState = 2 ∧ SameTraffic s.dev x ∧ SameTables s.dev x)) := by
  refine ⟨?_, ?_, fun hwaits => ⟨?_, ?_⟩⟩
  · exact (lift_lit (fun d => Dev.gmcuReloaded d .begins) hl).trans
      (congrArg (fun x => Host.Outcome.next { s with dev := x }) (gmcuReloaded_begins s.dev))
  · obtain ⟨hstate, htraffic, htables, hcount⟩ := contained_gmcuReloaded s.dev
    exact (does_lift_iff (exec_gmcuReload .memory s) hl).mpr ⟨hstate, htraffic, htables, fun _ => hcount⟩
  · exact (does_lift_iff (exec_gmcuReload .runs s) hl).mpr (resumed_gmcuReloaded hwaits)
  · exact (does_lift_iff (exec_gmcuReload .fails s) hl).mpr (failed_gmcuReloaded hwaits)

end

theorem exec_segmentFail_same {s : State} (st : Fin 16) (seg : Fin 131072) (hruns : Dev.el s.dev K.fwGmcuState = 0)
    (h : ¬ (Dev.el s.dev (K.gstackState st) = 0 ∨ Dev.el s.dev (K.gstackState st) = 4)
      ∨ (seg.val < resBase ∧ (SMap.find s.dev.gran.remap (segKey st seg)).isSome = true ∧ Dev.standsFor s.dev st seg = none)) :
    exec (.segmentFailDeclare st seg) s = .next s := by
  refine (exec_segmentFailDeclare st seg s).trans (lift_same ?_)
  rw [segmentFail_running hruns]
  by_cases hworks : Dev.el s.dev (K.gstackState st) = 0 ∨ Dev.el s.dev (K.gstackState st) = 4
  · obtain ⟨hseg, hmap, hstands⟩ := h.resolve_left (not_not.mpr hworks)
    rw [segmentFailNow_segment hworks hseg hstands, if_pos hmap]
  · exact segmentFailNow_idleStack hworks

theorem exec_segmentRemap_same {s : State} (st : Fin 16) (seg : Fin 131072) (h : SMap.get s.dev.gran.copying (segKey st seg) false = false) :
    exec (.segmentRemap st seg) s = .next s :=
  exec_idle (exec_segmentRemap st seg s) (if_neg (by rw [h]; exact Bool.false_ne_true))

/-- Settles O37, one command after another. -/
theorem stacksAreRepairedAndRetired : Obligations.StacksAreRepairedAndRetired := by
  unfold Obligations.StacksAreRepairedAndRetired
  intro st s hl d state runs
  refine ⟨fun seg => ⟨fun r hfresh hr => does_segmentFail_reserve hl st seg hfresh hr,
      fun hfresh hnone hspill hthere => does_segmentFail_leaves hl st seg hfresh hnone hspill hthere,
      fun hruns h => exec_segmentFail_same st seg hruns h, fun haway => exec_segmentFail_waits hl st seg haway,
      fun hruns hcopying => does_segmentRemap hl st seg hruns hcopying, fun h => exec_segmentRemap_same st seg h,
      fun hruns hmap hcopied => does_hpprDone hl st seg hruns hmap hcopied,
      exec_idle (exec_hpprDone st seg false s) (hpprDone_failed ..),
      fun hmap => exec_idle (exec_hpprDone st seg true s) (hpprDone_unmapped hmap true)⟩,
    fun hstate hcold => (does_lift_iff (exec_stackTempAlarm st true s) hl).mpr (tempAlarm_heats st.isLt hstate hcold),
    fun hstate => (does_lift_iff (exec_stackTempAlarm st false s) hl).mpr (tempAlarm_cools st.isLt hstate),
    fun hzero hfour hot => (does_lift_iff (exec_stackTempAlarm st hot s) hl).mpr (tempAlarm_leaves st.isLt hzero hfour hot),
    fun src hg hserves hruns => does_stackRetire hg hserves hruns,
    fun hruns hstate => does_retireDrainEnd hl st hruns hstate,
    fun hstate => exec_idle (exec_retireDrainEnd st s) (retireDone_notRetiring hstate),
    fun src hg => does_stackUnretire hg,
    fun hruns ch => does_driftCheck hl st hruns ch,
    fun failed => ⟨fun htrained => (exec_granaryTrainingDone failed s).trans (lift_same (granTrained_later htrained failed)),
      fun htrained hstopped => (does_lift_iff (exec_granaryTrainingDone failed s) hl).mpr (granTrained_stopped st.isLt htrained hstopped failed),
      fun htrained hmain hstate =>
        (does_lift_iff (exec_granaryTrainingDone failed s) hl).mpr (granTrained_running st.isLt htrained hmain hstate failed)⟩,
    fun w m hruns => does_granaryScrubPass hl w m hruns,
    fun haway seg ch way w m => ⟨exec_away (exec_segmentRemap st seg s) haway, exec_away (exec_hpprDone st seg true s) haway,
      exec_away (exec_retireDrainEnd st s) haway, exec_away (exec_driftCheck st ch way s) haway, exec_away rfl haway⟩,
    gmcuReload_spec hl, fun hdown => (exec_telStoreMigrate s).trans (lift_same (telMigrate_down hdown)),
    fun hup hslots => ?_⟩
  rw [does_lift_iff (exec_telStoreMigrate s) hl, telMigrate_up hup]
  exact ⟨fun a ha => find_foldl_slots (slot := fun r => bits r 32 64 % Dev.el d K.telStoreCapacity) hslots [] ha,
    rfl, rfl, rfl, rfl, rfl, rfl, rfl, rfl⟩

end Sys2Proof.Machine

/-! The refutation of O19: a released head whose drop ends its queue's spilling. -/
namespace Sys2Proof.Machine

/-- The last packet that came back of bale number 0 of queue 16 (a descriptor names its bale's number plus one); its bank was
released while it waited (R150). -/
def releasedDesc : Desc := { Desc.init with pkt := 1, c := 1, spilled := true, bale := 1, released := true }

/-- Queue 16, the first of port 1, spills (state 1, R212): behind the released head stand bale number 1, written, and bale number 2,
still open with two records. Port 1 is up at 25 Gb/s, and its pipeline has no packet in its stages. -/
def releasedHead : Dev :=
  let d := Dev.setBlob Dev.reset K.pwrDomainState (List.replicate 24 1)
  let d := Dev.setEl (Dev.setEl d (K.portState 1) 5) (K.portSpeed 1) 13
  let d := Dev.setEl (Dev.setEl d (K.eqSpillState 16) 1) K.granSpillBacklog 1
  let d := [1, 2, 3, 4].foldl (fun d i => Dev.setPkt d i heldPkt) d
  let d := Dev.setBale d 16 { Bale.init with
    queue := 16, seq := 1, recs := [{ Desc.init with pkt := 2, c := 1 }], closed := true, written := true }
  let d := Dev.setBale d 32 { Bale.init with
    queue := 16, seq := 2, recs := [{ Desc.init with pkt := 3, c := 1 }, { Desc.init with pkt := 4, c := 1 }] }
  Dev.setQueue (Dev.setBuf d { d.buf with descs := 3 }) 16 { EQueue.init with
    items := [.pkt releasedDesc, .bale 16 1, .bale 32 2], openBale := some 32, baleSeq := 3 }

def releasedHeadState : State := { State.reset with dev := releasedHead }

/-- Its pipeline turns to port 1, the first one to ask. -/
def releasedAsking : Dev :=
  Dev.setPipe releasedHeadState.dev (0 : Fin 16) { Dev.pipe releasedHeadState.dev (0 : Fin 16) with selPort := 1 }

/-- The selection of port 1 before its head check. -/
def releasedChoice : Dev × Option (Nat × Bool × Bool) := Dev.select releasedAsking 1

/-- The choice stands where the head check leaves the list of the chosen queue no shorter (R189). -/
theorem selectHead_of_length_le {p k : Nat} {d : Dev} {x : Nat × Bool × Bool} (hx : (Dev.select d p).2 = some x)
    (hlength : (Dev.queue (Dev.select d p).1 x.1).items.length
      ≤ (Dev.queue (Dev.clean (Dev.select d p).1 x.1) x.1).items.length) : Dev.selectHead p (k + 1) d = Dev.select d p := by
  simp [Dev.selectHead, hx, Nat.not_lt.mpr hlength]

/-- Queue 16 is chosen, with the released packet at its head. -/
theorem releasedChoice_head : releasedChoice.2 = some (16, false, false)
    ∧ (EQueue.head (Dev.queue releasedChoice.1 16)).map (fun x => x.released) = some true := by decide +kernel

/-- The head check drops that head, which moves the return window: the open bale closes inside it and its two records are linked
(R214, R215), so that the list is as long as before. -/
theorem length_clean_releasedChoice : (Dev.queue releasedChoice.1 16).items.length
    ≤ (Dev.queue (Dev.clean releasedChoice.1 16) 16).items.length := by decide +kernel

theorem isSome_dequeue_releasedChoice : (Dev.dequeue releasedChoice.1 16 false).2.isSome = true := by decide +kernel

/-- Refutes O19: the statement has a packet taken whose head is not released, since the model selects anew while the head check drops
the head (R189). The model tells a drop by a list that grew shorter, and a drop after which the queue's open bale closes (R212, R215)
can leave the list as long as it was. -/
theorem not_selectionFollowsTiersAndTags : ¬ Obligations.SelectionFollowsTiersAndTags := by
  unfold Obligations.SelectionFollowsTiersAndTags
  rintro ⟨-, -, hserves, -⟩
  have hlit : releasedHeadState.lit := show Dev.dark releasedHead = false by decide +kernel
  have hidle : (Dev.pipe releasedHead (0 : Fin 16)).ctx.live = false := by decide +kernel
  have hask : Dev.nextAsk releasedHead (0 : Fin 16) = some (1, 1) := by decide +kernel
  obtain ⟨hchoice, hhead⟩ := releasedChoice_head
  have hselect : Dev.selectHead 1 (Dev.portItems releasedAsking 1 + 1) releasedAsking = (releasedChoice.1, some (16, false, false)) :=
    (selectHead_of_length_le hchoice length_clean_releasedChoice).trans (Prod.snd_eq_iff.mp hchoice)
  obtain ⟨⟨x, l⟩, htaken⟩ := Option.isSome_iff_exists.mp isSome_dequeue_releasedChoice
  obtain ⟨⟨y, hy, -, hreleased, -⟩, -⟩ := hserves 0 1 1 16 false false releasedChoice.1 (Dev.dequeue releasedChoice.1 16 false).1
    x l .ok releasedHeadState hlit hidle hask hselect (Prod.snd_eq_iff.mp htaken)
  rw [hy, Option.map_some, hreleased] at hhead
  exact absurd hhead (by decide)

end Sys2Proof.Machine

/-! The timing wheel (R251). -/
namespace Sys2Proof.Machine

/-! The order of releases. -/

/-- Whether an entry's slot is reached at scheduler time `now`. -/
def slotDue (now : Nat) (x : Nat × Nat) : Bool := decide (0 ≤ schedDiff now (slotTime x.1))

/-- The wheel's entries whose slot is reached, the earliest slots first. -/
def Dev.dueEntries (d : Dev) (n : Nat) : List (Nat × Nat) :=
  ((Dev.wheel d n).filter (slotDue (Dev.now d))).foldl (fun l x => wheelIns x l) []

theorem wheelRelease_eq_foldl (d : Dev) (n : Nat) :
    Dev.wheelRelease d n = ((Dev.dueEntries d n).take 4).foldl (fun d x => Dev.wheelRelease1 d n x) d := rfl

theorem wheelIns_eq_orderedInsert (x : Nat × Nat) (l : List (Nat × Nat)) : wheelIns x l = l.orderedInsert (fun a b => a.1 < b.1) x := by
  induction l with
  | nil => rfl
  | cons y t ih => rw [wheelIns, ih, List.orderedInsert_cons]

theorem wheelIns_perm (x : Nat × Nat) (l : List (Nat × Nat)) : (wheelIns x l).Perm (x :: l) := by
  rw [wheelIns_eq_orderedInsert]
  exact List.perm_orderedInsert _ x l

/-- Slots in ascending order. -/
def SlotsAscend (l : List (Nat × Nat)) : Prop := l.Pairwise (fun a b => a.1 ≤ b.1)

theorem SlotsAscend.wheelIns {l : List (Nat × Nat)} (h : SlotsAscend l) (x : Nat × Nat) : SlotsAscend (wheelIns x l) := by
  induction l with
  | nil => exact List.pairwise_singleton ..
  | cons y t ih =>
    obtain ⟨hy, ht⟩ := List.pairwise_cons.mp h
    unfold Machine.wheelIns
    split
    case isTrue hlt =>
      refine List.pairwise_cons.mpr ⟨fun z hz => ?_, h⟩
      obtain rfl | hz := List.mem_cons.mp hz
      · exact hlt.le
      · exact hlt.le.trans (hy z hz)
    case isFalse hge =>
      refine List.pairwise_cons.mpr ⟨fun z hz => ?_, ih ht⟩
      obtain rfl | hz := List.mem_cons.mp ((wheelIns_perm x t).mem_iff.mp hz)
      · exact not_lt.mp hge
      · exact hy z hz

/-- Entries put in one after another are all there, in ascending order of their slots. -/
theorem foldl_wheelIns (l m : List (Nat × Nat)) (hm : SlotsAscend m) :
    (l.foldl (fun l x => wheelIns x l) m).Perm (l ++ m) ∧ SlotsAscend (l.foldl (fun l x => wheelIns x l) m) := by
  induction l generalizing m with
  | nil => exact ⟨.refl m, hm⟩
  | cons x t ih =>
    obtain ⟨hperm, hascend⟩ := ih (wheelIns x m) (hm.wheelIns x)
    exact ⟨(hperm.trans ((wheelIns_perm x m).append_left t)).trans List.perm_middle, hascend⟩

theorem dueEntries_perm (d : Dev) (n : Nat) : (Dev.dueEntries d n).Perm ((Dev.wheel d n).filter (slotDue (Dev.now d))) := by
  have hperm := (foldl_wheelIns ((Dev.wheel d n).filter (slotDue (Dev.now d))) [] .nil).1
  rwa [List.append_nil] at hperm

theorem dueEntries_ascend (d : Dev) (n : Nat) : SlotsAscend (Dev.dueEntries d n) := (foldl_wheelIns _ [] .nil).2

/-- Where some of a list's due entries, the earliest first, are taken out of it, what is left with them is the list, and the due ones
left are those not taken. -/
theorem diff_take {l due : List (Nat × Nat)} {f : Nat × Nat → Bool} (h : due.Perm (l.filter f)) (k : Nat) :
    (due.take k ++ l.diff (due.take k)).Perm l ∧ ((l.diff (due.take k)).filter f).Perm (due.drop k) := by
  have hsub : (due.take k).Subperm l :=
    ((List.take_sublist k due).subperm.trans h.subperm).trans List.filter_sublist.subperm
  have hperm : (due.take k ++ l.diff (due.take k)).Perm l :=
    List.subperm_append_diff_self_of_count_le (List.subperm_ext_iff.mp hsub)
  have htaken : (due.take k).filter f = due.take k :=
    List.filter_eq_self.mpr fun x hx => (List.mem_filter.mp (h.mem_iff.mp (List.mem_of_mem_take hx))).2
  refine ⟨hperm, (List.perm_append_left_iff (due.take k)).mp ?_⟩
  have hfiltered := hperm.filter f
  rw [List.filter_append, htaken] at hfiltered
  rw [List.take_append_drop]
  exact hfiltered.trans h.symm

/-! One release. -/

theorem sched_setTierV (d : Dev) (p t v : Nat) : (Dev.setTierV d p t v).sched = d.sched := rfl

theorem sched_foldl_setQueue (g : EQueue → EQueue) (ns : List Nat) (d : Dev) :
    (ns.foldl (fun d n => Dev.setQueue d n (g (Dev.queue d n))) d).sched = d.sched :=
  foldl_keeps (fun d : Dev => d.sched) _ (fun _ _ => by exact rfl) ns d

theorem sched_tierUpdate (d : Dev) (p t : Nat) : (Dev.tierUpdate d p t).sched = d.sched := by
  unfold Dev.tierUpdate
  extract_lets qs d₁ d₂
  have h₁ : d₁.sched = d.sched := sched_setTierV ..
  have h₂ : d₂.sched = d₁.sched :=
    sched_foldl_setQueue (fun q => { q with tagF := q.tagF - 2 ^ 46, tagH := q.tagH.map (fun h => h - 2 ^ 46) }) qs d₁
  split_ifs
  · exact sched_foldl_setQueue (fun q => { q with tagF := 0 }) qs _
  · exact (Dev.count_sched ..).trans (h₂.trans h₁)
  · rfl

theorem sched_leave (d : Dev) (n : Nat) : (Dev.leave d n).sched = d.sched := by
  unfold Dev.leave
  dsimp only
  split
  · exact sched_tierUpdate ..
  · rfl

theorem sched_recontend (d : Dev) (n : Nat) : (Dev.recontend d n).sched = d.sched := by
  unfold Dev.recontend
  dsimp only
  split
  · exact sched_tierUpdate ..
  · exact sched_leave d n
  · rfl

theorem sched_recontendPort (d : Dev) (p : Nat) : (Dev.recontendPort d p).sched = d.sched :=
  foldl_keeps (fun d : Dev => d.sched) _ (fun d q => sched_recontend d (p * 16 + q)) _ d

/-- An entry that comes late is counted, with the greatest lateness (R251). -/
def Dev.countLate (d : Dev) (delay : Nat) : Dev :=
  if 8 * 65536 ≤ delay then
    Dev.setEl (Dev.count d K.schedWheelLate 1) K.schedWheelMaxLate
      (max (Dev.el (Dev.count d K.schedWheelLate 1) K.schedWheelMaxLate) (min (delay / 65536) 0xFFFFFFFF))
  else d

/-- The shaper whose entry is released lets its owner contend again (R240). -/
def Dev.ownerContends (d : Dev) (own : Nat) : Dev := if 2 ^ 20 ≤ own then Dev.recontendPort d (own - 2 ^ 20) else Dev.recontend d own

theorem wheelRelease1_eq (d : Dev) (n : Nat) (x : Nat × Nat) :
    let delay := (schedDiff (Dev.now d) (slotTime x.1)).toNat
    Dev.wheelRelease1 d n x = Dev.ownerContends (Dev.perf (Dev.perf (Dev.countLate
      (Dev.setWheel d n ((Dev.wheel d n).erase x) (Dev.overflow d n)) delay) (0x10 + n) 3 1) (0x10 + n) 4
      (b2n (decide (8 * 65536 ≤ delay)))) x.2 := rfl

theorem sched_wheelRelease1 (d : Dev) (n : Nat) (x : Nat × Nat) :
    (Dev.wheelRelease1 d n x).sched = (Dev.setWheel d n ((Dev.wheel d n).erase x) (Dev.overflow d n)).sched := by
  have howner (e : Dev) : (Dev.ownerContends e x.2).sched = e.sched := by
    unfold Dev.ownerContends
    split
    · exact sched_recontendPort ..
    · exact sched_recontend ..
  have hlate (e : Dev) (delay : Nat) : (Dev.countLate e delay).sched = e.sched := by
    unfold Dev.countLate
    split
    · exact Dev.count_sched ..
    · rfl
  rw [wheelRelease1_eq, howner, Dev.perf_sched, Dev.perf_sched, hlate]

theorem wheel_setWheel_same (d : Dev) (n : Nat) (w o : List (Nat × Nat)) : Dev.wheel (Dev.setWheel d n w o) n = w := SMap.get_set_same ..
theorem overflow_setWheel_same (d : Dev) (n : Nat) (w o : List (Nat × Nat)) : Dev.overflow (Dev.setWheel d n w o) n = o := SMap.get_set_same ..

theorem wheel_wheelRelease1 (d : Dev) (n : Nat) (x : Nat × Nat) : Dev.wheel (Dev.wheelRelease1 d n x) n = (Dev.wheel d n).erase x := by
  rw [Dev.wheel, sched_wheelRelease1]
  exact wheel_setWheel_same ..

theorem overflow_wheelRelease1 (d : Dev) (n : Nat) (x : Nat × Nat) : Dev.overflow (Dev.wheelRelease1 d n x) n = Dev.overflow d n := by
  rw [Dev.overflow, sched_wheelRelease1]
  exact overflow_setWheel_same ..

theorem Resumed.wheelRelease1 {d e : Dev} {n : Nat} (hn : n < 16) (x : Nat × Nat) (h : Resumed d e) :
    Resumed d (Dev.wheelRelease1 e n x) := by
  have hset (w o : List (Nat × Nat)) : Resumed d (Dev.setWheel e n w o) :=
    h.trans ⟨(Calm.refl e).setWheel n w o, rfl, rfl, rfl, rfl, fun _ => ⟨rfl, rfl⟩⟩
  have hlate {a : Dev} (ha : Resumed d a) (delay : Nat) : Resumed d (Dev.countLate a delay) := by
    have hcount : Resumed d (Dev.count a K.schedWheelLate 1) := ha.count (by decide) 1
    exact (hcount.steady (.setEl (k := K.schedWheelMaxLate) (by decide) _ (.refl _))).ite ha
  have hbank : 0x10 + n < 64 := by omega
  rw [wheelRelease1_eq]
  have howner {a : Dev} (ha : Resumed d a) (own : Nat) : Resumed d (Dev.ownerContends a own) := (ha.recontendPort _).ite (ha.recontend _)
  exact howner (((hlate (hset _ _) _).perf hbank 3 1).perf hbank 4 _) _

/-! The commands. -/

theorem wheel_foldl_wheelRelease1 (d : Dev) (n : Nat) (l : List (Nat × Nat)) :
    Dev.wheel (l.foldl (fun d x => Dev.wheelRelease1 d n x) d) n = (Dev.wheel d n).diff l := by
  induction l generalizing d with
  | nil => exact (List.diff_nil _).symm
  | cons x t ih => rw [List.foldl_cons, ih, wheel_wheelRelease1, List.diff_cons]

theorem overflow_wheelRelease (d : Dev) (n : Nat) : Dev.overflow (Dev.wheelRelease d n) n = Dev.overflow d n :=
  foldl_keeps (fun d => Dev.overflow d n) _ (fun d x => overflow_wheelRelease1 d n x) _ d

theorem wheel_wheelRelease (d : Dev) (n : Nat) :
    Dev.wheel (Dev.wheelRelease d n) n = (Dev.wheel d n).diff ((Dev.dueEntries d n).take 4) := by
  rw [wheelRelease_eq_foldl, wheel_foldl_wheelRelease1]

theorem Resumed.wheelRelease (d : Dev) {n : Nat} (hn : n < 16) : Resumed d (Dev.wheelRelease d n) :=
  (Resumed.refl d).foldl _ fun _ x _ hx => hx.wheelRelease1 hn x

/-- With no slot reached nothing is released. -/
theorem wheelRelease_of_none {d : Dev} {n : Nat} (h : ∀ x ∈ Dev.wheel d n, ¬ 0 ≤ schedDiff (Dev.now d) (slotTime x.1)) :
    Dev.wheelRelease d n = d := by
  have hnone : Dev.dueEntries d n = [] := by
    have hdue : (Dev.wheel d n).filter (slotDue (Dev.now d)) = [] :=
      List.filter_eq_nil_iff.mpr fun x hx hx' => h x hx (of_decide_eq_true hx')
    exact List.perm_nil.mp (hdue ▸ dueEntries_perm d n)
  rw [wheelRelease_eq_foldl, hnone]
  rfl

/-- Of the wheel's entries one clock releases at most four, all due, the earliest slots first, and four where a due one is left. -/
theorem wheelRelease_takes (d : Dev) (n : Nat) :
    let r := (Dev.dueEntries d n).take 4
    let left := Dev.wheel (Dev.wheelRelease d n) n
    let due (x : Nat × Nat) : Prop := 0 ≤ schedDiff (Dev.now d) (slotTime x.1)
    (r ++ left).Perm (Dev.wheel d n) ∧ r.length ≤ 4 ∧ (∀ a ∈ r, due a) ∧ ((∃ b ∈ left, due b) → r.length = 4)
      ∧ ∀ a ∈ r, ∀ b ∈ left, due b → a.1 ≤ b.1 := by
  intro r left due
  obtain ⟨hall, hleft⟩ := diff_take (dueEntries_perm d n) 4
  rw [← wheel_wheelRelease] at hall hleft
  have hlater {b : Nat × Nat} (hb : b ∈ left) (hdue : due b) : b ∈ (Dev.dueEntries d n).drop 4 :=
    hleft.mem_iff.mp (List.mem_filter.mpr ⟨hb, decide_eq_true hdue⟩)
  have hascend : SlotsAscend (r ++ (Dev.dueEntries d n).drop 4) := by
    rw [List.take_append_drop]
    exact dueEntries_ascend d n
  refine ⟨hall, List.length_take_le .., fun a ha => ?_, fun ⟨b, hb, hdue⟩ => ?_, fun a ha b hb hdue => ?_⟩
  · exact of_decide_eq_true (List.mem_filter.mp ((dueEntries_perm d n).mem_iff.mp (List.mem_of_mem_take ha))).2
  · have hmore := List.length_pos_of_mem (hlater hb hdue)
    rw [List.length_drop] at hmore
    rw [List.length_take]
    omega
  · exact (List.pairwise_append.mp hascend).2.2 a ha b (hlater hb hdue)

/-- The overflow entries of the coming revolution stand behind the wheel's. -/
theorem overflowMove_spec (d : Dev) (n : Nat) :
    Dev.wheel (Dev.overflowMove d n) n = Dev.wheel d n
        ++ (Dev.overflow d n).filter (fun y => decide (schedDiff (slotTime y.1) (Dev.now d) ≤ 524288 * 65536))
      ∧ Dev.overflow (Dev.overflowMove d n) n
        = (Dev.overflow d n).filter (fun y => decide (524288 * 65536 < schedDiff (slotTime y.1) (Dev.now d))) := by
  refine ⟨wheel_setWheel_same .., (overflow_setWheel_same ..).trans (congrArg (List.filter · _) (funext fun y => ?_))⟩
  simp only [← decide_not, not_le]

end Sys2Proof.Machine

/-! A command's writes, granted one after another (R388, R396). -/
namespace Sys2Proof.Machine

/-- Granted writes are all applied. -/
theorem writeAll_of_grantsAll {ep : Nat} {src : Source} {xs : List WItem} {d : Dev} (h : Dev.grantsAll ep d src xs) :
    Dev.writeAll ep d src xs = (Dev.applied ep d src xs, AS.ok) := by
  induction xs generalizing d with
  | nil => rfl
  | cons x t ih =>
    obtain ⟨hx, ht⟩ := h
    have hone : Dev.writeOne ep d src (keyObj x.k) (keyEl x.k) (fun _ => some x.v)
        = (Dev.applyItems ep d src [WItem.norm x], AS.ok) := writeOne_of_grants hx
    simp only [Dev.writeAll, hone, if_true, ih ht, Dev.applied]

/-- A command whose writes are granted applies them and replies OK; it asks for no warm reset where they do not. -/
theorem does_grantedCommand_iff {c : Instr} {s : State} {src : Source} {xs : List WItem} {P : Dev → Prop} (hg : s.grants c)
    (hw : Instr.writes c = some (src, xs)) (hc : exec c s = liftW (fun ep d => Dev.command ep d src xs) s)
    (hwarm : (Dev.applied s.epoch (Dev.fresh s.dev) src xs).rst.warmDue = false) :
    Does c s P ↔ P (Dev.reply (Dev.applied s.epoch (Dev.fresh s.dev) src xs) src AS.ok []) := by
  obtain ⟨hl, hrun, hgrant⟩ := hg
  rw [hw] at hgrant
  obtain ⟨hthere, hall⟩ := hgrant
  have hwrites : Dev.writeAll s.epoch (Dev.fresh s.dev) src xs = _ := writeAll_of_grantsAll hall
  have hcommand : Dev.command s.epoch (Dev.fresh s.dev) src xs
      = Dev.reply (Dev.applied s.epoch (Dev.fresh s.dev) src xs) src AS.ok [] := by
    unfold Dev.command Dev.serve
    rw [if_neg (by rw [Bool.not_eq_false]; exact hthere), if_pos (show (Dev.fresh s.dev).fw.running = true from hrun)]
    simp only [hwrites]
  refine does_iff_of_next ((hc.trans (liftW_lit _ hl)).trans ?_)
  rw [hcommand]
  exact congrArg Host.Outcome.next (if_neg (by rw [Bool.not_eq_true]; exact hwarm))

end Sys2Proof.Machine

/-! The policer command (R257, R260), and O40. -/
namespace Sys2Proof.Machine

/-! Writes of the policer's object. -/

theorem ne_of_keyObj {o k j : Nat} (hk : keyObj k = o) (hj : keyObj j ≠ o) : k ≠ j := fun h => hj (h ▸ hk)

theorem beforeWrite_pol {x : WItem} (d : Dev) (hobj : keyObj x.k = 0x0B02) : Dev.beforeWrite d x = d := by
  have hne {j : Nat} (hj : keyObj j ≠ 0x0B02) : x.k ≠ j := ne_of_keyObj hobj hj
  unfold Dev.beforeWrite
  extract_lets o e
  have ho : o = 0x0B02 := hobj
  rw [if_neg (by omega), if_neg (by omega), if_neg (not_or.mpr ⟨hne (by decide), hne (by decide)⟩),
    if_neg (not_or.mpr ⟨hne (by decide), hne (by decide)⟩), if_neg (hne (by decide)), if_neg (by omega), if_neg (by omega)]

theorem effectHigh_pol {k : Nat} (d : Dev) (n old : Nat) (hobj : keyObj k = 0x0B02) : Dev.effectHigh d k n old = d := by
  have hne {j : Nat} (hj : keyObj j ≠ 0x0B02) : k ≠ j := ne_of_keyObj hobj hj
  unfold Dev.effectHigh
  extract_lets o e
  have ho : o = 0x0B02 := hobj
  rw [if_neg (by omega), if_neg (by omega), if_neg (hne (by decide)), if_neg (hne (by decide)), if_neg (hne (by decide)),
    if_neg (hne (by decide)), if_neg (by omega), if_neg (by omega), if_neg (hne (by decide)), if_neg (hne (by decide))]

/-- Of the writes of this object only the one that starts the command has an effect. -/
theorem effect_pol {ep : Nat} {d : Dev} {src : Source} {x : WItem} (old : Nat) (hobj : keyObj x.k = 0x0B02) (hstart : isStart x.k = false) :
    Dev.effect ep d src x old = d := by
  have hgov : governed x.k = false := by simp [governed, hobj]
  unfold Dev.effect
  simp only [hgov, hstart, Bool.false_and, Bool.false_eq_true, if_false]
  rw [if_neg (by omega), if_neg (by omega), if_neg (by omega), if_pos (by omega), effectHigh_pol d _ _ hobj]

/-- A number written to an element of the policer's object: the value, then the effect. -/
theorem applyItems_pol {ep : Nat} {d : Dev} {src : Source} {k n : Nat} {r : DictRow} (hobj : keyObj k = 0x0B02)
    (hfind : Dict.find (keyObj k) (keyEl k) = some r) (hty : r.ty ≠ .bitset ∧ r.ty ≠ .time) (hcom : r.com = .now) (hacc : r.acc = .rw) :
    Dev.applyItems ep d src [WItem.norm (numItem k n)] = Dev.effect ep (Dev.noted (Dev.setEl d k n)) src (numItem k n) (Dev.el d k) := by
  have hkept : keptBits k = none := by
    unfold keptBits
    simp [hobj]
  have hnorm : WItem.norm (numItem k n) = numItem k n := by
    unfold WItem.norm numItem EVal.norm
    simp only [hfind, hkept]
    split
    · exact absurd ‹_› hty.1
    · exact absurd ‹_› hty.2
    · rfl
  have hheld : heldWrite r k = false := by
    have herr : k ≠ K.errFatal := fun h => absurd (h ▸ hobj) (by decide)
    simp [heldWrite, hacc, herr, hobj]
  have hput : Dev.putItem d (numItem k n) = Dev.setEl d k n := by
    unfold Dev.putItem numItem
    simp only [hfind, hheld]
    rfl
  rw [hnorm]
  unfold Dev.applyItems
  simp only [List.map_cons, List.map_nil, List.foldl_cons, List.foldl_nil, List.zip_cons_cons, List.zip_nil_left,
    beforeWrite_pol (x := numItem k n) d hobj, hput]
  unfold Dev.keepItem numItem
  simp only [hfind, hcom, hacc]
  rfl

/-- A number written to an element that starts nothing is held, and that is all. -/
theorem applyItems_polParam {ep : Nat} {d : Dev} {src : Source} {k n : Nat} {r : DictRow} (hobj : keyObj k = 0x0B02)
    (hfind : Dict.find (keyObj k) (keyEl k) = some r) (hty : r.ty ≠ .bitset ∧ r.ty ≠ .time) (hcom : r.com = .now) (hacc : r.acc = .rw)
    (hstart : isStart k = false) : Dev.applyItems ep d src [WItem.norm (numItem k n)] = Dev.noted (Dev.setEl d k n) := by
  rw [applyItems_pol hobj hfind hty hcom hacc, effect_pol (x := numItem k n) _ hobj hstart]

theorem applyItems_polOp (ep : Nat) (d : Dev) (src : Source) (n : Nat) :
    Dev.applyItems ep d src [WItem.norm (numItem K.polOp n)] = Dev.noted (Dev.setEl d K.polOp n) := by
  have hfind : Dict.find (keyObj K.polOp) (keyEl K.polOp) = some ⟨0x0B02, 1, 0x02, 1, "pol.op", .enum, .rw, .now, 1, 3, [], 0⟩ := by
    decide +kernel
  exact applyItems_polParam (by decide) hfind (by decide) rfl rfl (by decide)

theorem applyItems_polIndex (ep : Nat) (d : Dev) (src : Source) (n : Nat) :
    Dev.applyItems ep d src [WItem.norm (numItem K.polIndex n)] = Dev.noted (Dev.setEl d K.polIndex n) := by
  have hfind : Dict.find (keyObj K.polIndex) (keyEl K.polIndex)
      = some ⟨0x0B02, 1, 0x03, 1, "pol.index", .u16, .rw, .now, 0, 65535, [], 0⟩ := by decide +kernel
  exact applyItems_polParam (by decide) hfind (by decide) rfl rfl (by decide)

theorem applyItems_polCfg (ep : Nat) (d : Dev) (src : Source) (n : Nat) :
    Dev.applyItems ep d src [WItem.norm (numItem K.polCfg n)] = Dev.noted (Dev.setEl d K.polCfg n) := by
  have hfind : Dict.find (keyObj K.polCfg) (keyEl K.polCfg)
      = some ⟨0x0B02, 1, 0x04, 1, "pol.cfg", .u64, .rw, .now, 0, 18446744073709551615, [], 0⟩ := by decide +kernel
  exact applyItems_polParam (by decide) hfind (by decide) rfl rfl (by decide)

/-- A new number starts the command, which ends with its status. -/
theorem applyItems_polSeq {ep : Nat} {d : Dev} {src : Source} {n : Nat} (hnew : Dev.el d K.polSeq ≠ n) :
    Dev.applyItems ep d src [WItem.norm (numItem K.polSeq n)] = endWith K.polStatus (Dev.polRun (Dev.started d src K.polSeq n)) := by
  have hfind : Dict.find (keyObj K.polSeq) (keyEl K.polSeq)
      = some ⟨0x0B02, 1, 0x01, 1, "pol.seq", .u32, .rw, .now, 0, 4294967295, [], 0⟩ := by decide +kernel
  rw [applyItems_pol (by decide) hfind (by decide) rfl rfl]
  have hgov : governed K.polSeq = false := by decide
  have hstatus : cmdStatus K.polSeq = some K.polStatus := by decide
  exact effect_start (x := numItem K.polSeq n) hgov hstatus hnew

/-! The three operations. -/

/-- What a write of the policer's object changes is elements, their numbering for the store and claims: nothing of these. -/
structure Unpoliced (d a : Dev) : Prop where
  sched : a.sched = d.sched
  ticks : a.ticks = d.ticks
  pkts : a.pkts = d.pkts
  queues : a.queues = d.queues
  tables : SameTables d a
  rst : a.rst = d.rst

namespace Unpoliced
variable {d a : Dev}

theorem refl (d : Dev) : Unpoliced d d := ⟨rfl, rfl, rfl, rfl, ⟨rfl, rfl⟩, rfl⟩
theorem setEl (k v : Nat) (h : Unpoliced d a) : Unpoliced d (Dev.setEl a k v) := { h with }
theorem noted (h : Unpoliced d a) : Unpoliced d (Dev.noted a) := { h with }
theorem claimed (src : Source) (k : Nat) (h : Unpoliced d a) : Unpoliced d (Dev.claimed a src k) := { h with }
theorem started (src : Source) (k n : Nat) (h : Unpoliced d a) : Unpoliced d (Dev.started a src k n) := (h.setEl k n).noted.claimed src k

theorem policer (h : Unpoliced d a) (j : Nat) : Dev.policer a j = Dev.policer d j := by rw [Dev.policer, h.sched, Dev.policer]
theorem now (h : Unpoliced d a) : Dev.now a = Dev.now d := by rw [Dev.now, h.ticks, Dev.now]

end Unpoliced

/-- The other policers, the packets, the queues and the tables stay. -/
def OtherPolicersStay (i : Nat) (d x : Dev) : Prop :=
  (∀ j, j ≠ i → Dev.policer x j = Dev.policer d j) ∧ x.pkts = d.pkts ∧ x.queues = d.queues ∧ SameTables d x

/-- A policer command on policer i ends with status `st` and leaves that policer as p, the others and the resets as they were. -/
structure PolEnds (d e : Dev) (i st : Nat) (p : Policer) : Prop where
  status : Dev.el e K.polStatus = st
  policer : Dev.policer e i = p
  others : OtherPolicersStay i d e
  rst : e.rst = d.rst

theorem polEnds_setPolicer {d a : Dev} (h : Unpoliced d a) (i st : Nat) (p : Policer) :
    PolEnds d (endWith K.polStatus (Dev.setPolicer a i p, st)) i st p where
  status := el_setEl_same ..
  policer := policer_setPolicer_same a i p
  others := ⟨fun j hj => (policer_setPolicer_ne a i j p hj).trans (h.policer j), h.pkts, h.queues, h.tables⟩
  rst := h.rst

theorem polEnds_unpoliced {d a : Dev} (h : Unpoliced d a) (i st : Nat) : PolEnds d (endWith K.polStatus (a, st)) i st (Dev.policer d i) where
  status := el_setEl_same ..
  policer := h.policer i
  others := ⟨fun j _ => h.policer j, h.pkts, h.queues, h.tables⟩
  rst := h.rst

/-- A configuration that POL_SET takes: no reserved bit and a valid rate (R247, R260). -/
@[reducible] def PolCfgOk (c : Nat) : Prop := bits c 49 15 = 0 ∧ (bits c 0 25 = 0 ∨ (157 ≤ bits c 0 25 ∧ bits c 0 25 ≤ 25000000))

theorem rateOk_iff (k : Nat) : rateOk k = true ↔ k = 0 ∨ (157 ≤ k ∧ k ≤ 25000000) := by simp [rateOk]

theorem polRun_set_valid {d : Dev} {i c : Nat} (hop : Dev.el d K.polOp = 1) (hi : Dev.el d K.polIndex = i) (hc : Dev.el d K.polCfg = c)
    (hok : PolCfgOk c) : Dev.polRun d = (Dev.setPolicer d i { Dev.policer d i with cfg := c, e := Dev.now d }, 0) := by
  obtain ⟨hreserved, hrate⟩ := hok
  have hvalid : rateOk (polRate c) = true := (rateOk_iff _).mpr hrate
  unfold Dev.polRun
  simp [hop, hi, hc, hreserved, hvalid]

theorem polRun_set_invalid {d : Dev} {c : Nat} (hop : Dev.el d K.polOp = 1) (hc : Dev.el d K.polCfg = c) (hbad : ¬ PolCfgOk c) :
    Dev.polRun d = (d, 2) := by
  have hinvalid : bits c 49 15 ≠ 0 ∨ rateOk (polRate c) = false := by
    rw [← Bool.not_eq_true, rateOk_iff]
    exact not_and_or.mp hbad
  unfold Dev.polRun
  simp only [hop, hc, if_pos hinvalid]

/-- The policer's configuration and counters stand in their elements. -/
def Dev.polShown (d : Dev) (p : Policer) : Dev :=
  Dev.setEl (Dev.setEl (Dev.setEl (Dev.setEl (Dev.setEl d K.polCfg p.cfg) K.polConformPkts p.okPkts) K.polConformBytes p.okBytes)
    K.polDropPkts p.dropPkts) K.polDropBytes p.dropBytes

theorem polRun_read {d : Dev} {i : Nat} (hop : Dev.el d K.polOp = 2) (hi : Dev.el d K.polIndex = i) :
    Dev.polRun d = (Dev.polShown d (Dev.policer d i), 0) := by
  unfold Dev.polRun
  simp only [hop, hi]
  rfl

theorem polRun_clear {d : Dev} {i : Nat} (hop : Dev.el d K.polOp = 3) (hi : Dev.el d K.polIndex = i) :
    Dev.polRun d = (Dev.setPolicer d i { Dev.policer d i with okPkts := 0, okBytes := 0, dropPkts := 0, dropBytes := 0 }, 0) := by
  unfold Dev.polRun
  simp only [hop, hi]

theorem Unpoliced.polShown {d a : Dev} (h : Unpoliced d a) (p : Policer) : Unpoliced d (Dev.polShown a p) :=
  ((((h.setEl _ _).setEl _ _).setEl _ _).setEl _ _).setEl _ _

theorem el_polShown (d : Dev) (p : Policer) : Dev.el (Dev.polShown d p) K.polCfg = p.cfg
    ∧ Dev.el (Dev.polShown d p) K.polConformPkts = p.okPkts ∧ Dev.el (Dev.polShown d p) K.polConformBytes = p.okBytes
    ∧ Dev.el (Dev.polShown d p) K.polDropPkts = p.dropPkts ∧ Dev.el (Dev.polShown d p) K.polDropBytes = p.dropBytes := by
  unfold Dev.polShown
  refine ⟨?_, ?_, ?_, ?_, el_setEl_same ..⟩
  · iterate 4 rw [el_setEl_ne _ _ _ _ (by decide)]
    exact el_setEl_same ..
  · iterate 3 rw [el_setEl_ne _ _ _ _ (by decide)]
    exact el_setEl_same ..
  · iterate 2 rw [el_setEl_ne _ _ _ _ (by decide)]
    exact el_setEl_same ..
  · rw [el_setEl_ne _ _ _ _ (by decide)]
    exact el_setEl_same ..

/-! The commands. -/

/-- The operation and the policer that a command names are written. -/
def Dev.polAsked (d : Dev) (op i : Nat) : Dev := Dev.noted (Dev.setEl (Dev.noted (Dev.setEl d K.polOp op)) K.polIndex i)

theorem el_polAsked {k : Nat} (d : Dev) (op i : Nat) (hk : k ≠ K.polOp ∧ k ≠ K.polIndex) : Dev.el (Dev.polAsked d op i) k = Dev.el d k :=
  (el_setEl_ne _ _ _ _ hk.2).trans (el_setEl_ne _ _ _ _ hk.1)
theorem polOp_polAsked (d : Dev) (op i : Nat) : Dev.el (Dev.polAsked d op i) K.polOp = op :=
  (el_setEl_ne _ _ _ _ (by decide)).trans (el_setEl_same ..)
theorem polIndex_polAsked (d : Dev) (op i : Nat) : Dev.el (Dev.polAsked d op i) K.polIndex = i := el_setEl_same ..

theorem unpoliced_polAsked (d : Dev) (op i : Nat) : Unpoliced d (Dev.polAsked d op i) :=
  (((Unpoliced.refl d).setEl _ _).noted.setEl _ _).noted

/-- And a configuration with them. -/
def Dev.polOffered (d : Dev) (i c : Nat) : Dev := Dev.noted (Dev.setEl (Dev.polAsked d 1 i) K.polCfg c)

theorem el_polOffered {k : Nat} (d : Dev) (i c : Nat) (hk : k ≠ K.polCfg) : Dev.el (Dev.polOffered d i c) k = Dev.el (Dev.polAsked d 1 i) k :=
  el_setEl_ne _ _ _ _ hk
theorem polCfg_polOffered (d : Dev) (i c : Nat) : Dev.el (Dev.polOffered d i c) K.polCfg = c := el_setEl_same ..

theorem unpoliced_polOffered (d : Dev) (i c : Nat) : Unpoliced d (Dev.polOffered d i c) := ((unpoliced_polAsked d 1 i).setEl _ _).noted

theorem applied_polSet {ep : Nat} {d : Dev} {src : Source} {i c n : Nat} (hnew : Dev.el d K.polSeq ≠ n) :
    Dev.applied ep d src [numItem K.polOp 1, numItem K.polIndex i, numItem K.polCfg c, numItem K.polSeq n]
      = endWith K.polStatus (Dev.polRun (Dev.started (Dev.polOffered d i c) src K.polSeq n)) := by
  have hseq : Dev.el (Dev.polOffered d i c) K.polSeq ≠ n := by
    rwa [el_polOffered _ _ _ (by decide), el_polAsked _ _ _ (by decide)]
  simp only [Dev.applied, applyItems_polOp, applyItems_polIndex, applyItems_polCfg]
  exact applyItems_polSeq hseq

theorem applied_polCommand {ep : Nat} {d : Dev} {src : Source} {op i n : Nat} (hnew : Dev.el d K.polSeq ≠ n) :
    Dev.applied ep d src [numItem K.polOp op, numItem K.polIndex i, numItem K.polSeq n]
      = endWith K.polStatus (Dev.polRun (Dev.started (Dev.polAsked d op i) src K.polSeq n)) := by
  have hseq : Dev.el (Dev.polAsked d op i) K.polSeq ≠ n := by rwa [el_polAsked _ _ _ (by decide)]
  simp only [Dev.applied, applyItems_polOp, applyItems_polIndex]
  exact applyItems_polSeq hseq

/-- What POL_SET's writes come to (R257). -/
theorem polEnds_polSet {ep : Nat} {d : Dev} {src : Source} {i c n : Nat} (hnew : Dev.el d K.polSeq ≠ n) :
    let e := Dev.applied ep d src [numItem K.polOp 1, numItem K.polIndex i, numItem K.polCfg c, numItem K.polSeq n]
    (PolCfgOk c → PolEnds d e i 0 { Dev.policer d i with cfg := c, e := Dev.now d }) ∧ (¬ PolCfgOk c → PolEnds d e i 2 (Dev.policer d i)) := by
  intro e
  have hop : Dev.el (Dev.started (Dev.polOffered d i c) src K.polSeq n) K.polOp = 1 := by
    rw [el_started_ne _ _ _ (by decide), el_polOffered _ _ _ (by decide), polOp_polAsked]
  have hindex : Dev.el (Dev.started (Dev.polOffered d i c) src K.polSeq n) K.polIndex = i := by
    rw [el_started_ne _ _ _ (by decide), el_polOffered _ _ _ (by decide), polIndex_polAsked]
  have hcfg : Dev.el (Dev.started (Dev.polOffered d i c) src K.polSeq n) K.polCfg = c := by
    rw [el_started_ne _ _ _ (by decide), polCfg_polOffered]
  have hun : Unpoliced d (Dev.started (Dev.polOffered d i c) src K.polSeq n) := (unpoliced_polOffered d i c).started ..
  have he : e = endWith K.polStatus (Dev.polRun (Dev.started (Dev.polOffered d i c) src K.polSeq n)) := applied_polSet hnew
  rw [he]
  refine ⟨fun hok => ?_, fun hbad => ?_⟩
  · rw [polRun_set_valid hop hindex hcfg hok, hun.policer, hun.now]
    exact polEnds_setPolicer hun ..
  · rw [polRun_set_invalid hop hcfg hbad]
    exact polEnds_unpoliced hun ..

/-- Where a command without a configuration starts (R257). -/
theorem polAsked_started {d : Dev} {src : Source} {op i n : Nat} :
    Dev.el (Dev.started (Dev.polAsked d op i) src K.polSeq n) K.polOp = op
      ∧ Dev.el (Dev.started (Dev.polAsked d op i) src K.polSeq n) K.polIndex = i
      ∧ Unpoliced d (Dev.started (Dev.polAsked d op i) src K.polSeq n) :=
  ⟨(el_started_ne _ _ _ (by decide)).trans (polOp_polAsked ..), (el_started_ne _ _ _ (by decide)).trans (polIndex_polAsked ..),
    (unpoliced_polAsked d op i).started ..⟩

/-- What POL_READ's writes come to (R257). -/
theorem polEnds_polRead {ep : Nat} {d : Dev} {src : Source} {i n : Nat} (hnew : Dev.el d K.polSeq ≠ n) :
    let e := Dev.applied ep d src [numItem K.polOp 2, numItem K.polIndex i, numItem K.polSeq n]
    let p := Dev.policer d i
    PolEnds d e i 0 p ∧ Dev.el e K.polCfg = p.cfg ∧ Dev.el e K.polConformPkts = p.okPkts ∧ Dev.el e K.polConformBytes = p.okBytes
      ∧ Dev.el e K.polDropPkts = p.dropPkts ∧ Dev.el e K.polDropBytes = p.dropBytes := by
  intro e p
  obtain ⟨hop, hindex, hun⟩ := polAsked_started (d := d) (src := src) (op := 2) (i := i) (n := n)
  have he : e = endWith K.polStatus (Dev.polShown (Dev.started (Dev.polAsked d 2 i) src K.polSeq n) p, 0) := by
    rw [show e = _ from applied_polCommand hnew, polRun_read hop hindex, hun.policer]
  have hel {k : Nat} (hk : k ≠ K.polStatus) : Dev.el e k = Dev.el (Dev.polShown (Dev.started (Dev.polAsked d 2 i) src K.polSeq n) p) k :=
    he ▸ el_setEl_ne _ _ _ _ hk
  rw [hel (by decide), hel (by decide), hel (by decide), hel (by decide), hel (by decide)]
  exact ⟨he ▸ polEnds_unpoliced (hun.polShown p) i 0, el_polShown ..⟩

/-- What POL_CLEAR_COUNTERS' writes come to (R257). -/
theorem polEnds_polClearCounters {ep : Nat} {d : Dev} {src : Source} {i n : Nat} (hnew : Dev.el d K.polSeq ≠ n) :
    PolEnds d (Dev.applied ep d src [numItem K.polOp 3, numItem K.polIndex i, numItem K.polSeq n]) i 0
      { Dev.policer d i with okPkts := 0, okBytes := 0, dropPkts := 0, dropBytes := 0 } := by
  obtain ⟨hop, hindex, hun⟩ := polAsked_started (d := d) (src := src) (op := 3) (i := i) (n := n)
  rw [applied_polCommand hnew, polRun_clear hop hindex, hun.policer]
  exact polEnds_setPolicer hun ..

/-- A granted policer command does what holds of the part that its writes come to. -/
theorem does_polCommand {c : Instr} {s : State} {src : Source} {xs : List WItem} {P : Dev → Prop} {i st : Nat} {p : Policer} (hg : s.grants c)
    (hw : Instr.writes c = some (src, xs)) (hc : exec c s = liftW (fun ep d => Dev.command ep d src xs) s)
    (he : PolEnds (Dev.fresh s.dev) (Dev.applied s.epoch (Dev.fresh s.dev) src xs) i st p)
    (hP : P (Dev.reply (Dev.applied s.epoch (Dev.fresh s.dev) src xs) src AS.ok [])) : Does c s P :=
  (does_grantedCommand_iff hg hw hc (by rw [he.rst]; rfl)).mpr hP

section
variable {src : Source} {i : Fin 65536} {seq : Fin 4294967296} {s : State} (hnew : Dev.el s.dev K.polSeq ≠ seq.val)
include hnew

theorem does_polSet {cfg : BitVec 64} (hg : s.grants (.polSet src i cfg seq)) :
    Does (.polSet src i cfg seq) s (fun x => OtherPolicersStay i s.dev x
      ∧ if PolCfgOk cfg.toNat then
          Dev.policer x i = { Dev.policer s.dev i with cfg := cfg.toNat, e := Dev.now s.dev } ∧ Dev.el x K.polStatus = 0
        else Dev.policer x i = Dev.policer s.dev i ∧ Dev.el x K.polStatus = 2) := by
  obtain ⟨hvalid, hinvalid⟩ := polEnds_polSet (ep := s.epoch) (d := Dev.fresh s.dev) (src := src) (i := i) (c := cfg.toNat) hnew
  by_cases hok : PolCfgOk cfg.toNat
  · have he := hvalid hok
    exact does_polCommand hg rfl rfl he ⟨he.others, (if_pos hok).mpr ⟨he.policer, he.status⟩⟩
  · have he := hinvalid hok
    exact does_polCommand hg rfl rfl he ⟨he.others, (if_neg hok).mpr ⟨he.policer, he.status⟩⟩

theorem does_polRead (hg : s.grants (.polRead src i seq)) :
    let p := Dev.policer s.dev i
    Does (.polRead src i seq) s (fun x => Dev.policer x i = p ∧ Dev.el x K.polStatus = 0 ∧ Dev.el x K.polCfg = p.cfg
      ∧ Dev.el x K.polConformPkts = p.okPkts ∧ Dev.el x K.polConformBytes = p.okBytes ∧ Dev.el x K.polDropPkts = p.dropPkts
      ∧ Dev.el x K.polDropBytes = p.dropBytes ∧ OtherPolicersStay i s.dev x) := by
  obtain ⟨he, hcfg, hokPkts, hokBytes, hdropPkts, hdropBytes⟩ :=
    polEnds_polRead (ep := s.epoch) (d := Dev.fresh s.dev) (src := src) (i := i) hnew
  exact does_polCommand hg rfl rfl he ⟨he.policer, he.status, hcfg, hokPkts, hokBytes, hdropPkts, hdropBytes, he.others⟩

theorem does_polClearCounters (hg : s.grants (.polClearCounters src i seq)) :
    Does (.polClearCounters src i seq) s (fun x =>
      Dev.policer x i = { Dev.policer s.dev i with okPkts := 0, okBytes := 0, dropPkts := 0, dropBytes := 0 }
        ∧ Dev.el x K.polStatus = 0 ∧ OtherPolicersStay i s.dev x) := by
  have he := polEnds_polClearCounters (ep := s.epoch) (d := Dev.fresh s.dev) (src := src) (i := i) hnew
  exact does_polCommand hg rfl rfl he ⟨he.policer, he.status, he.others⟩

end

end Sys2Proof.Machine

/-! WHEEL_RELEASE and WHEEL_OVERFLOW_MOVE, and O40. -/
namespace Sys2Proof.Machine

theorem exec_wheelRelease (n : Fin 16) (s : State) : exec (.wheelRelease n) s = lift (fun d => Dev.wheelRelease d n) s := rfl
theorem exec_wheelOverflowMove (n : Fin 16) (s : State) : exec (.wheelOverflowMove n) s = lift (fun d => Dev.overflowMove d n) s := rfl

/-- Settles O40: the wheel's commands as `wheelRelease_takes` and `overflowMove_spec` say, and each policer command is one granted command
on the policer that it names. -/
theorem wheelsReleaseInSlotOrderAndPolicersAreSet : Obligations.WheelsReleaseInSlotOrderAndPolicersAreSet := by
  unfold Obligations.WheelsReleaseInSlotOrderAndPolicersAreSet
  refine ⟨fun n s hl => ⟨fun hnone => (exec_wheelRelease n s).trans (lift_same (wheelRelease_of_none hnone)), ?_, ?_⟩,
    fun src i seq s _ hnew => ⟨fun _ hg => does_polSet hnew hg, does_polRead hnew, does_polClearCounters hnew⟩⟩
  · rw [does_lift_iff (exec_wheelRelease n s) hl]
    obtain ⟨hall, hlength, hdue, hfour, hearliest⟩ := wheelRelease_takes s.dev n
    have hframe := Resumed.wheelRelease s.dev n.isLt
    exact ⟨_, hall, hlength, hdue, hfour, hearliest, overflow_wheelRelease .., hframe.pkts, hframe.pipes, hframe.buf, hframe.tables⟩
  · rw [does_lift_iff (exec_wheelOverflowMove n s) hl]
    obtain ⟨hwheel, hoverflow⟩ := overflowMove_spec s.dev n
    exact ⟨hwheel, hoverflow, rfl, rfl, rfl, rfl, rfl⟩

end Sys2Proof.Machine
